-- ==== Sys2Proof/Word.lean ====
section
/-!
DEFINITION. The word types of the IXQ256 model (R9: registers are 32 bits wide, little-endian; R7: the tick), and the
plain arithmetic the chapters share.
-/
namespace Sys2Proof

/-- A byte of waveform memory. -/
abbrev Byte := BitVec 8

/-- A 32-bit register word (R9). -/
abbrev Word := BitVec 32

/-- A tick count, a value of TIME (R7, R88); TIME itself is kept below 2^64. -/
abbrev Tick := Nat

/-- A dyadic number, num / 2^exp: the exact arithmetic of the output and readout chains. -/
structure Dy where
  num : Int := 0
  exp : Nat := 0
  deriving DecidableEq, Repr, Inhabited

end Sys2Proof
end

