-- ==== Sys2Proof/Syntax.lean ====
section
/-!
DEFINITION. The commands of the IXQ256: the rows of the opcode table, and the types of their operands.
-/
namespace Sys2Proof

/-- Who makes an access: the host, the application cores, Porter, or IEEE 1149.1 (R89, R447). -/
inductive Who where
  | host | cores | porter | jtag
  deriving DecidableEq, Repr

/-- The requester numbers of TOP.ACCESS_LOG_HI (18). -/
def Who.code : Who → Nat
  | .host => 0 | .cores => 1 | .porter => 2 | .jtag => 3

/-- The three cases in which REF_LOSS is declared (R107), in the encoding order of LOSS_CAUSE, with what the AON domain
counted: AON cycles without a REFCLK rising edge, or REFCLK edges in a window of 1,024 AON cycles. -/
inductive LossCause where
  | noEdge (cycles : Nat)
  | frequency (count : Nat)
  | lock
  deriving DecidableEq, Repr

/-- What a granule travels to: the streaming window of voice `v` of the Bench, or the transient copy of a segment
(R126, R133). -/
inductive GranSrc where
  | window (v : Fin 80)
  | transient (seg : BitVec 20)
  deriving DecidableEq, Repr

/-- A register of a flux tail corrector (R189, R192). -/
inductive CorrReg where
  | amp (sec : Fin 6)
  | tau (sec : Fin 6)
  | fir (i : Fin 48)
  deriving DecidableEq, Repr

/-- A decimated sample of a channel: I and Q, signed 18-bit (R203), and whether its ADC samples were clipped (R198). -/
structure Sample where
  i : BitVec 18
  q : BitVec 18
  deriving DecidableEq, Repr

/-- Which part of an X or Y word a window write covers (R224). -/
inductive XyPart where
  | whole | lower | upper
  deriving DecidableEq, Repr

/-- A sensor reading (R410, R411): the common-mode voltages of VP and VN in mV, whether the converter was at full scale,
and, in single precision, the measured voltage, the lead drop and the calibrated excitation current. -/
structure Reading where
  vp : Int
  vn : Int
  fullScale : Bool
  volts : Word
  lead : Word
  amps : Word
  deriving DecidableEq, Repr

/-- What a completed ageing survey measured (R429): the supply margin of each domain in mV, the memory eye margin in
percent of the unit interval, the trims from loopback and link margins, the forecast in months, and whether the Ledger
commit verified (R434). -/
structure SurveyResult where
  margins : List Int
  eye : Nat
  trims : List Nat
  months : Nat
  committed : Bool
  deriving DecidableEq, Repr

/-- Under which key a signature verifies, if any: the owner public key whose hash is in OTP, or Henileo's key in Porter
ROM (R72, R456, R457, R461). -/
inductive Signer where
  | none_ | owner | henileo
  deriving DecidableEq, Repr

/-- What the cryptography of an image's check finds (R68, R69, R73, R75): the key under which the ECDSA P-384 signature in
the trailer verifies over the SHA-384 hash of bytes 0 to IMAGE_LEN − 129, the first encrypted section whose GCM tag fails
under the Pattern key, and the plaintext of each encrypted section. -/
structure CheckResult where
  signer : Signer
  badTag : Option (Fin 256)
  plain : List (Fin 256 × List Byte)
  deriving DecidableEq, Repr

/-- A life-cycle transition token (R461). `target` is encoded as PORTER.LC.STATE. -/
structure Token where
  magicOk : Bool
  target : Fin 5
  serial : BitVec 64
  ownCnt : Fin 16
  ownerHash : BitVec 384
  patternKey : Bool
  signer : Signer
  deriving DecidableEq, Repr

/-- A part of a firmware image (R458, R460): its length in bytes, whether it is the last, and, for the last, the
image's version and whether the written copy verifies. -/
structure FwPart where
  bytes : Fin 1025
  last : Bool
  version : Fin 65
  verifies : Bool
  deriving DecidableEq, Repr

/-- A cell that arrives at a Crier port, or fails to: whether it is the odd cell of its pair, and its bits, none where the
cell is missing (R272, R273). -/
structure CellIn where
  odd : Bool
  cell : Option (BitVec 128)
  deriving DecidableEq, Repr

/-- Under which key the images of the partitions CORE_A and CORE_B verify (R450, R457). -/
structure CoreImages where
  a : Signer
  b : Signer
  deriving DecidableEq, Repr

/-- An ADC sample of a Bench: its ADC and its place in the tick (R198). -/
structure AdcAt where
  adc : Fin 2
  sample : Fin 4
  deriving DecidableEq, Repr

/-- What the check symbols of a read unit showed (R341): nothing, corrected errors, or an uncorrectable error. -/
inductive ReadCheck where
  | clean | corrected | uncorrectable
  deriving DecidableEq, Repr


/-- The commands of the block, one constructor per row of the opcode table. Operands are what comes from outside
the device (or the unit that acts); whatever the device holds is read from its state. -/
inductive Instr where
  /-- POWER_ON_RESET (R56). VDD_AON becomes valid with PWRGD high, or PWRGD rises again; TIME and the AON registers reset and the device enters DORMANT. -/
  | powerOnReset (vddRose : Bool) (straps : Fin 64)
  /-- PWRGD_LOW (R488). PWRGD is seen low; the device acts as for a device-level reset and stays in DORMANT while PWRGD is low. -/
  | pwrgdLow
  /-- RESET_N (R56). RESET_N is asserted, causing a cold reset that keeps TIME and the Epoch state. -/
  | resetN (straps : Fin 64)
  /-- WARM_RESET (R56). A TOP.RESET write with WARM = 1 and the correct KEY, or a Porter request, causes a warm reset to BOOT. -/
  | warmReset (byPorter : Bool)
  /-- BENCH_RESET (R63). A TOP.RESET write with a BENCH mask disables each named Bench and then wipes it. -/
  | benchReset (who : Who) (mask : BitVec 8)
  /-- BENCH_WIPE_DONE (R63). A reset Bench becomes quiet, its SRAMs are wiped in 6 µs and its WIPED bit is set. -/
  | benchWipeDone (b : Fin 8)
  /-- BOOT_REQUEST (R54). After a reset ends with AUTOBOOT set, the boot request moves the device from DORMANT to BOOT. -/
  | bootRequest
  /-- WAKE_TIMER (R54). TIME reaches WAKE_TIME in DORMANT with WAKE_TIMER_EN set, which makes a boot request. -/
  | wakeTimer
  /-- WAKE_TRIG (R54). A rising edge on the wake TRIG line in DORMANT with WAKE_TRIG_EN set makes a boot request. -/
  | wakeTrig (line : Fin 8)
  /-- FIRMWARE_VERIFIED (R55). Porter finishes verifying a firmware image and the device enters SANITISE. -/
  | firmwareVerified (alternate : Bool)
  /-- BOOT_FAIL (R55). Neither firmware image verifies; BOOT_FAIL is set and Porter serves recovery. -/
  | bootFail
  /-- WIPE_COMPLETE (R58). The SANITISE wipe completes, SANITISE_OPEN clears and the device goes to IDLE. -/
  | wipeComplete
  /-- MODE_REQ_IDLE (R45). Software requests IDLE; in RUN this is carried out as a HOLD request first. -/
  | modeReqIdle
  /-- MODE_REQ_KEEP (R45). Software requests KEEP from IDLE. -/
  | modeReqKeep
  /-- MODE_REQ_DORMANT (R45). Software requests DORMANT from IDLE; the bias outputs glide and park. -/
  | modeReqDormant
  /-- MODE_REQ_TRIM (R45). Software requests TRIM with the CONV, SKEW, SURVEY and FULL selections. -/
  | modeReqTrim (conv skew survey full : Bool)
  /-- MODE_REQ_ARMED (R49). Software requests ARMED; the request is checked for Pattern, Epoch, budget and temperature before entry begins. -/
  | modeReqArmed
  /-- MODE_REQ_HOLD (R52). Software requests HOLD; in RUN it takes effect at the shot boundary. -/
  | modeReqHold
  /-- MODE_REQ_HOLD_FORCE (R52). Software requests HOLD with FORCE in RUN; HOLD is taken at once and the shot in progress is poisoned. -/
  | modeReqHoldForce
  /-- MODE_REQ_SERVICE (R45). Software requests SERVICE from IDLE or HOLD. -/
  | modeReqService
  /-- ARMED_ENTRY_DONE (R50). The PMBus offset writes, PLL lock, calibration restore and divider alignment complete, and ARMED begins on a REFCLK edge. -/
  | armedEntryDone (pmbAck : BitVec 4)
  /-- TRANSITION_DONE (R45). A timed mode transition other than an entry to ARMED completes and TOP.MODE.MODE changes. -/
  | transitionDone
  /-- KEEP_EXIT_DONE (R51). The memory leaves partial retention and the RESIDENT segments are reloaded on leaving KEEP. -/
  | keepExitDone
  /-- TRIM_DONE (R45). All selected TRIM steps complete and the device returns to IDLE. -/
  | trimDone (cal : List (BitVec 14))
  /-- START_CONDITION_MET (R45). Every enabled Bench's Foreman has met its start condition and issued its first strobe, so the device enters RUN. -/
  | startConditionMet
  /-- SHOT_BOUNDARY (R52). The SHOT of every enabled Bench has taken effect while a HOLD, SHED or BUDGET_SHORT is pending, so the device enters HOLD. -/
  | shotBoundary
  /-- BENCH_DISABLE (R36). A write of EN = 0 to BENCHn.CTL stops the Bench's lanes, engines, Foreman and Tally sources at their boundaries. -/
  | benchDisable (b : Fin 8)
  /-- BENCH_ENABLE (R38). A write of EN = 1 to BENCHn.CTL enables the Bench at once, or sets EN_PEND in ARMED, RUN or HOLD. -/
  | benchEnable (who : Who) (b : Fin 8)
  /-- BENCH_QUIET (R37). Every function of a disabled Bench reaches its boundary; STOPPING clears and QUIET is set. -/
  | benchQuiet (b : Fin 8)
  /-- PATTERN_LOAD_START (R75). A TOP.PAT_CTL write with START begins a full Pattern load in its check phase. -/
  | patternLoadStart
  /-- OVERLAY_START (R80). A TOP.PAT_CTL write with START and OVERLAY begins an overlay load. -/
  | overlayStart
  /-- PATTERN_ABORT (R75). A TOP.PAT_CTL write with ABORT ends a load in its check phase with ERR = ABORTED. -/
  | patternAbort
  /-- CHECK_PHASE_DONE (R75). Porter finishes the checks of a load, which either refuses it or begins the apply phase. -/
  | checkPhaseDone (c : CheckResult)
  /-- APPLY_PHASE_DONE (R78). The apply phase finishes writing and reading back the stores, and the load ends with success or ERR = WRITE. -/
  | applyPhaseDone (readBackFails : Option (Fin 256))
  /-- EPOCH_CAPTURE (R90). EPOCH_P/N is sampled high after low on a REFCLK edge, and the TDC arrival is measured. -/
  | epochCapture (arrival : Fin 10000)
  /-- EPOCH_LOAD (R91). At the load edge, TIME is loaded from EPOCH_LOAD if ARM is set, or the Epoch is checked and recorded. -/
  | epochLoad
  /-- EPOCH_MISS (R92). No load edge falls within 30 ticks of an expected load edge, so EPOCH_MISS is set at E + 30. -/
  | epochMiss
  /-- EPOCH_ARM (R91). A write to TIME.EPOCH_CTL sets ARM only in the permitted modes and only with a valid EPOCH_LOAD. -/
  | epochArm (who : Who) (v : Word)
  /-- CAPTURE_READ (R89). A 32-bit read of a capturing _LO register captures the _HI half for that requester. -/
  | captureRead (who : Who) (off : BitVec 36)
  /-- ECHO_START (R99). A TIME.ECHO_CTL write with START begins an echo measurement on a Crier port. -/
  | echoStart (who : Who) (v : Word)
  /-- ECHO_REQ (R98). An echo request cell arrives and the device returns it with t2 and t3 at its next cell boundary. -/
  | echoReq (port : Fin 14) (t2 t3 : Nat)
  /-- ECHO_ANS (R98). An echo answer arrives; the exchange is recorded, and after 2^COUNT exchanges RTT and OFS are reported. -/
  | echoAns (port : Fin 14) (t1 t2 t3 t4 : Int)
  /-- ECHO_TIMEOUT (R99). No echo answer returns within 10 µs, so the measurement ends with RESULT = NO_ANSWER. -/
  | echoTimeout
  /-- EPOCH_TRIM_WRITE (R100). A write to TIME.EPOCH_TRIM sets TRIM_PEND until the next entry to ARMED. -/
  | epochTrimWrite (v : Word)
  /-- FDLY_WRITE (R101). A write to FDLYi.DLY is pending, with DLY_PEND set, until it can be applied. -/
  | fdlyWrite (j : Fin 176) (v : Word)
  /-- FDLY_APPLY (R101). A pending fine delay takes effect at the first idle gap of 64 ticks on the converter. -/
  | fdlyApply (j : Fin 176)
  /-- TRIG_EDGE (R104). A selected edge on an input trigger line is timestamped, and a TRIG mark and an event are produced. -/
  | trigEdge (k : Fin 8) (falling : Bool) (frac : Fin 16)
  /-- TRIG_OUT_EDGE (R106). An output trigger edge is driven at its compensated time, and contention is checked. -/
  | trigOutEdge (k : Fin 8)
  /-- REF_LOSS (R108). REF_LOSS is declared for a missing edge, a bad count or a lost lock; COHERENT clears and the mode action of rank 4 follows. -/
  | refLoss (cause : LossCause)
  /-- PLL_LOCK_LOSS (R486). The core or converter PLL loses lock, and the device relocks and realigns it. -/
  | pllLockLoss (core : Bool)
  /-- REFCLK_RETURN (R109). A count window passes after REFCLK returns; TIME snaps to a multiple of 30, FREE clears and the PLLs relock. -/
  | refclkReturn
  /-- DIVIDER_ALIGNED (R22). Core PLL divider alignment completes at a REFCLK edge, and TIME begins to advance by 1 per tick. -/
  | dividerAligned
  /-- SEGDIR_WRITE (R120). A write through the segment directory window stages words, or commits a whole descriptor, or is dropped as torn or busy. -/
  | segdirWrite (who : Who) (id : BitVec 20) (first : Fin 4) (ws : List Word)
  /-- DIR_MISS_FILL (R121). A directory-cache miss completes and the descriptor reaches the waiting play or sequencer. -/
  | dirMissFill (b : Fin 8) (seg : BitVec 20) (ue : Bool)
  /-- ALIAS_WRITE (R122). A write to LOOM.ALIASa retargets the alias for plays issued from the next tick. -/
  | aliasWrite (a : BitVec 12) (v : Word)
  /-- RETIRE (R131). A write to LOOM.RETIRE queues, merges or refuses the retirement of a segment ID. -/
  | retire (v : Word)
  /-- RETIRE_COMPLETE (R131). A retiring ID becomes inactive; VALID is cleared, the caches are purged and DONE is set. -/
  | retireComplete
  /-- WAVEFORM_WRITE (R129). A host, core or Porter write enters the memory write queue and is accepted or dropped for an active segment. -/
  | waveformWrite (who : Who) (addr : BitVec 34) (bytes : List Byte)
  /-- GRANULE_REQUEST (R134). The real-time port issues a granule request by the refill lead before its need tick. -/
  | granuleRequest (b : Fin 8) (src : GranSrc)
  /-- GRANULE_ARRIVE (R133). A fetched granule arrives in a streaming window or transient copy, or is discarded if its need tick has passed. -/
  | granuleArrive (b : Fin 8) (src : GranSrc) (ue : Bool)
  /-- UNDERRUN (R136). A granule is missing at its need tick; it is played as zero and the first underrun of the shot poisons it. -/
  | underrun (b : Fin 8) (v : Fin 80)
  /-- PLAY (R151). The lane issues a play of a segment or alias to a voice's play queue at cursor + OFS. -/
  | play (b : Fin 8) (l : Fin 32)
  /-- PLAYX (R142). The lane issues a play whose amplitude and phase are taken from V registers. -/
  | playx (b : Fin 8) (l : Fin 32)
  /-- IDLE (R142). The lane advances its cursor by N or by a V register. -/
  | idle (b : Fin 8) (l : Fin 32)
  /-- FRAME (R179). The lane schedules a phase or frequency update of a frame at cursor + OFS. -/
  | frame (b : Fin 8) (l : Fin 32)
  /-- WAITD (R165). The lane waits for a decision with a deadline and dispatches, in FIXED or ASAP mode. -/
  | waitd (b : Fin 8) (l : Fin 32)
  /-- BR (R158). The lane executes a two-way branch, which is resolved or becomes pending. -/
  | br (b : Fin 8) (l : Fin 32)
  /-- LOOP (R147). The lane pushes a hardware loop level. -/
  | loop (b : Fin 8) (l : Fin 32)
  /-- ENDL (R147). The lane decrements the innermost loop count and repeats the body or pops the level. -/
  | endl (b : Fin 8) (l : Fin 32)
  /-- SYNC (R155). The lane waits for a sync-release strobe with a deadline. -/
  | sync (b : Fin 8) (l : Fin 32)
  /-- MARK (R150). The lane schedules a Tally mark or event pulse at cursor + OFS. -/
  | mark (b : Fin 8) (l : Fin 32)
  /-- SETV (R148). The lane sets or adds to a V register. -/
  | setv (b : Fin 8) (l : Fin 32)
  /-- END (R149). The lane ends its program and becomes DONE. -/
  | end_ (b : Fin 8) (l : Fin 32)
  /-- PLAY_QUEUE_SPACE (R151). A play-queue entry frees, and a sequencer waiting on a full queue issues its play. -/
  | playQueueSpace (b : Fin 8) (l : Fin 32)
  /-- PLAY_START_TICK (R152). A play reaches its start tick, cuts earlier plays and reports OVERLAP, LATE_PLAY, BAD_DESC or LOST if applicable. -/
  | playStartTick (b : Fin 8) (l : Fin 32) (voice : Fin 3)
  /-- FRAME_EFFECT (R179). A scheduled frame update takes effect at sample 0 of its tick, folding the phase. -/
  | frameEffect (b : Fin 8) (l : Fin 32)
  /-- MARK_EFFECT (R150). A scheduled lane mark or event pulse takes effect at its tick. -/
  | markEffect (b : Fin 8) (l : Fin 32)
  /-- STAGE_DONE (R162). The Loom finishes staging the heads of a pending branch into the stage buffers. -/
  | stageDone (b : Fin 8) (l : Fin 32)
  /-- BRANCH_COMMIT (R161). A pending branch reaches its commit point, takes its alternative or default and discards or keeps the speculative issue. -/
  | branchCommit (b : Fin 8) (l : Fin 32)
  /-- SLOT_RELEASE (R167). A chosen render slot returns after its 64 ticks have entered the output chain. -/
  | slotRelease (b : Fin 8) (l : Fin 32)
  /-- SYNC_TIMEOUT (R155). No sync-release strobe arrives by cursor + DL − 126, so the cursor advances by DL and VOID is set. -/
  | syncTimeout (b : Fin 8) (l : Fin 32)
  /-- START_STROBE (R156). A start strobe reaches a READY lane, resets its state and starts issuing. -/
  | startStrobe (b : Fin 8) (l : Fin 32)
  /-- SYNC_RELEASE (R155). A sync-release strobe reaches a lane in SYNC and sets its cursor. -/
  | syncRelease (b : Fin 8) (l : Fin 32)
  /-- ABORT_STROBE (R156). An abort strobe stops a lane as a disable would and returns it to READY. -/
  | abortStrobe (b : Fin 8) (l : Fin 32)
  /-- FLUSH_STROBE (R156). A flush strobe discards later plays and branches and restores the oldest checkpoint. -/
  | flushStrobe (b : Fin 8) (l : Fin 32)
  /-- POISON_STROBE (R156). A poison strobe poisons the lane's present shot with cause FOREMAN. -/
  | poisonStrobe (b : Fin 8) (l : Fin 32)
  /-- STOP_STROBE (R156). A stop strobe ends the lane's program as END does. -/
  | stopStrobe (b : Fin 8) (l : Fin 32)
  /-- LANE_DISABLE (R171). A write of EN = 0 to LANEm_CTL stops the lane after its current granule. -/
  | laneDisable (b : Fin 8) (l : Fin 32)
  /-- LANE_STOP_DONE (R171). A disabled lane's voices finish their granules; queues are discarded, LANE_STOPPED is written and the state becomes OFF. -/
  | laneStopDone (b : Fin 8) (l : Fin 32)
  /-- LANE_ENABLE (R172). A write of EN = 1 to LANEm_CTL puts the lane in READY when its Bench is enabled. -/
  | laneEnable (b : Fin 8) (l : Fin 32)
  /-- LANE_DRAINED (R149). The last queued play of a DONE lane leaves the Loom and the lane becomes READY. -/
  | laneDrained (b : Fin 8) (l : Fin 32)
  /-- TONE_FW_COMMIT (R177). A write to TONEu_FW commits the frequency word, which governs from tick T + 8. -/
  | toneFwCommit (b : Fin 8) (u : Fin 64) (lo : Option Word) (hi : Word)
  /-- FSR_REQUEST (R193). A write to CONVc_FSR.REQ sets, replaces or cancels a pending full-scale range change. -/
  | fsrRequest (b : Fin 8) (c : Fin 6) (v : Word)
  /-- RANGE_CHANGE_START (R194). At the first tick at which every voice of the converter is idle, the range switch begins with code 0 output. -/
  | rangeChangeStart (b : Fin 8) (c : Fin 6)
  /-- RANGE_CHANGE_DONE (R194). 48 ticks after a range switch begins, CUR takes the new code and RANGE_PEND clears. -/
  | rangeChangeDone (b : Fin 8) (c : Fin 6)
  /-- CORRECTOR_WRITE (R192). A write to a flux tail-corrector register is taken only while the F voice is idle, and clears the corrector state. -/
  | correctorWrite (who : Who) (b : Fin 8) (k : Fin 16) (r : CorrReg) (v : Word)
  /-- SAFE_N_LOW (R196). SAFE_N goes low; outputs park, SAFE_PARK is set and shots are poisoned, and bias outputs go to SAFE. -/
  | safeNLow
  /-- SAFE_N_HIGH (R404). SAFE_N returns high; outputs stay parked until the next ARMED entry and suspended bias range changes resume. -/
  | safeNHigh
  /-- ATTN_REQUEST (R199). A write to ACQa_CFG.ATTN_REQ changes the attenuator at once or sets ATTN_PEND. -/
  | attnRequest (b : Fin 8) (a : Fin 2) (v : Word)
  /-- ATTN_CHANGE_START (R199). A deferred attenuator change begins at the start tick of a lone window or at leaving RUN. -/
  | attnChangeStart (b : Fin 8) (a : Fin 2)
  /-- ATTN_CHANGE_DONE (R200). 60 ticks after an attenuator change begins, ATTN_CUR takes the new code. -/
  | attnChangeDone (b : Fin 8) (a : Fin 2)
  /-- WINDOW_OPEN (R204). An integration window opens at its first ADC sample, or is refused with a VOID entry on overlap. -/
  | windowOpen (b : Fin 8) (c : Fin 32)
  /-- PARTIAL_ENTRY (R210). A channel writes a partial-sum entry to its engine's FIFO. -/
  | partialEntry (b : Fin 8) (c : Fin 32) (xs : List (BitVec 12))
  /-- WINDOW_FINAL (R212). A window completes and its channel writes the final entry to the engine FIFO, or drops it when the FIFO is full. -/
  | windowFinal (b : Fin 8) (c : Fin 32) (xs : List (BitVec 12))
  /-- KERNEL_WRITE (R211). A kernel weight write through the Bench memory window is accepted, or dropped while the channel's window is open. -/
  | kernelWrite (who : Who) (b : Fin 8) (j : BitVec 19) (v : Word)
  /-- ASSAY_JMP (R229). The engine jumps to an absolute target. -/
  | assayJmp (b : Fin 8) (e : Fin 4)
  /-- ASSAY_CALL (R229). The engine pushes PC + 1 and calls a target, faulting on a fifth level. -/
  | assayCall (b : Fin 8) (e : Fin 4)
  /-- ASSAY_BR (R230). The engine branches relative if its condition holds. -/
  | assayBr (b : Fin 8) (e : Fin 4)
  /-- WAITIN (R223). The engine pops the FIFO head into HDR and D12–D15, or repeats until an entry arrives. -/
  | waitin (b : Fin 8) (e : Fin 4)
  /-- WAITIN_TIMEOUT (R231). A WAITIN finds no entry within its timeout, branches and sets VOID. -/
  | waitinTimeout (b : Fin 8) (e : Fin 4)
  /-- REP (R246). The engine repeats the next bundle N or LC times. -/
  | rep (b : Fin 8) (e : Fin 4)
  /-- REP_END (R247). A REP finishes, and the deferred lost-latch answers, traps and stops proceed. -/
  | repEnd (b : Fin 8) (e : Fin 4)
  /-- DECIDE (R252). The engine forms a decision word for the window in HDR and places it on its output port. -/
  | decide_ (b : Fin 8) (e : Fin 4)
  /-- EMIT (R232). The engine writes registers to Tally as an ENGINE record. -/
  | emit (b : Fin 8) (e : Fin 4)
  /-- ASSAY_RET (R229). The engine pops the call stack, faulting on an empty stack. -/
  | assayRet (b : Fin 8) (e : Fin 4)
  /-- HALT (R245). The engine stops at the end of the bundle in state HALTED. -/
  | halt (b : Fin 8) (e : Fin 4)
  /-- QUAD (R233). Four multiplies of one X component by the Y coefficients into A0–A3. -/
  | quad (b : Fin 8) (e : Fin 4)
  /-- CPX (R234). A complex product of the X operand and a Y coefficient pair into two accumulators. -/
  | cpx (b : Fin 8) (e : Fin 4)
  /-- SQACC (R233). The squared magnitude of the X operand is accumulated into A[a]. -/
  | sqacc (b : Fin 8) (e : Fin 4)
  /-- ASSAY_ADD (R233). Componentwise addition of registers. -/
  | assayAdd (b : Fin 8) (e : Fin 4)
  /-- ASSAY_SUB (R233). Componentwise subtraction of registers. -/
  | assaySub (b : Fin 8) (e : Fin 4)
  /-- ABS (R233). Componentwise absolute value. -/
  | abs (b : Fin 8) (e : Fin 4)
  /-- ASSAY_SHL (R233). Left shift by n. -/
  | assayShl (b : Fin 8) (e : Fin 4)
  /-- ASSAY_SHR (R233). Arithmetic right shift by n. -/
  | assayShr (b : Fin 8) (e : Fin 4)
  /-- RND (R235). Two accumulators are narrowed into a D register. -/
  | rnd (b : Fin 8) (e : Fin 4)
  /-- MOV (R236). A register is moved between register codes, narrowing or extending as needed. -/
  | mov (b : Fin 8) (e : Fin 4)
  /-- CLR (R233). An accumulator, BEST and NEXT, or a D register is cleared. -/
  | clr (b : Fin 8) (e : Fin 4)
  /-- MINX (R238). A running minimum and runner-up are updated with their index. -/
  | minx (b : Fin 8) (e : Fin 4)
  /-- MAXX (R238). A running maximum and runner-up are updated with their index. -/
  | maxx (b : Fin 8) (e : Fin 4)
  /-- Y_READ (R241). The address slot reads a Y word and post-modifies the pointer. -/
  | yRead (b : Fin 8) (e : Fin 4)
  /-- X_READ (R241). The address slot reads an X word, and optionally a Y word, with post-modify. -/
  | xRead (b : Fin 8) (e : Fin 4)
  /-- X_WRITE (R242). The address slot writes a D register to X memory. -/
  | xWrite (b : Fin 8) (e : Fin 4)
  /-- LDI (R241). The address slot loads an immediate into a pointer, an offset or LC. -/
  | ldi (b : Fin 8) (e : Fin 4)
  /-- AUTO_ANSWER (R219). The engine places the default word for an owed window on its port. -/
  | autoAnswer (b : Fin 8) (e : Fin 4)
  /-- ENGINE_ENABLE (R243). A write of EN = 1 to ENGe_CTL, or a qualifying mode entry, starts the engine at PC 0. -/
  | engineEnable (b : Fin 8) (e : Fin 4)
  /-- ENGINE_DISABLE (R244). A write of EN = 0 or a Bench disable requests a stop at the next natural boundary. -/
  | engineDisable (b : Fin 8) (e : Fin 4)
  /-- ENGINE_STOP (R244). The engine reaches its boundary, discards its FIFO, answers owed windows and becomes OFF. -/
  | engineStop (b : Fin 8) (e : Fin 4)
  /-- ENGINE_TRAP_REQUEST (R248). A write of TRAP = 1 requests a trap, which is discarded if the engine is not running. -/
  | engineTrapRequest (b : Fin 8) (e : Fin 4)
  /-- ENGINE_TRAP (R248). The engine takes a requested trap at a bundle boundary outside a REP. -/
  | engineTrap (b : Fin 8) (e : Fin 4)
  /-- ASSAY_XY_WRITE (R224). A window write to Assay X or Y memory stages a half or commits a whole word. -/
  | assayXyWrite (who : Who) (b : Fin 8) (e : Fin 4) (y : Bool) (j : BitVec 12) (half : XyPart) (v : BitVec 128)
  /-- ASSAY_REG_ACCESS (R222). An access to ASSAYe.REGr is allowed only while the engine is OFF, HALTED or FAULT. -/
  | assayRegAccess (who : Who) (b : Fin 8) (e : Fin 4) (r : Fin 47) (hi : Bool) (wr : Option Word)
  /-- DECISION_WORD (R256). A word on the Bench decision bus reaches lanes, the Foreman, the channel latch, the publication map and Tally. -/
  | decisionWord (b : Fin 8)
  /-- OLT_LOOKUP (R263). A ready tag takes its Bench's lookup slot and the gather forms the index. -/
  | oltLookup (b : Fin 8)
  /-- OLT_ACTION (R264). The looked-up action reaches lanes and the Foreman, and publishes, marks or poisons as it states. -/
  | oltAction (b : Fin 8)
  /-- CRIER_PAIR_SEND (R274). At a pair start, each port fills its slots from its queues or sends a REFRESH pair. -/
  | crierPairSend
  /-- CRIER_CELL_RECEIVE (R273). A Crier cell arrives and is checked, applied, relayed or discarded. -/
  | crierCellReceive (p : Fin 14) (c : CellIn)
  /-- LINK_UP (R277). A Crier link sees 32 consecutive good cells and becomes UP. -/
  | linkUp (p : Fin 14)
  /-- LINK_DOWN (R277). A Crier link sees 16 consecutive bad cells, becomes DOWN and sets LINK_DOWN. -/
  | linkDown (p : Fin 14)
  /-- FOREMAN_START_CONDITION (R304). The Foreman's start condition is met, BASE is set, and execution begins at ENTRY or RESUME. -/
  | foremanStartCondition (b : Fin 8)
  /-- JUMP (R283). The microword continues at NXT. -/
  | jump (b : Fin 8)
  /-- MW2 (R284). A two-way microcode branch ORs condition bit 0 into NXT. -/
  | mw2 (b : Fin 8)
  /-- MW4 (R284). A four-way microcode branch ORs condition bits [1:0] into NXT. -/
  | mw4 (b : Fin 8)
  /-- MW8 (R284). An eight-way microcode branch ORs condition bits [2:0] into NXT. -/
  | mw8 (b : Fin 8)
  /-- MW16 (R284). A sixteen-way microcode branch ORs condition bits [3:0] into NXT. -/
  | mw16 (b : Fin 8)
  /-- FOREMAN_CALL (R286). The Foreman pushes PC + 1 and continues at NXT, raising ILLEGAL if 8 levels are held. -/
  | foremanCall (b : Fin 8)
  /-- FOREMAN_RET (R286). The Foreman pops its return address, raising ILLEGAL if the stack is empty. -/
  | foremanRet (b : Fin 8)
  /-- TRET (R314). The Foreman restores a trap frame, except the registers it keeps, and resumes. -/
  | tret (b : Fin 8)
  /-- FOREMAN_END (R283). The Foreman stops in state DONE. -/
  | foremanEnd (b : Fin 8)
  /-- LOP_START (R292). The Foreman issues a START strobe carrying S to the masked lanes. -/
  | lopStart (b : Fin 8)
  /-- LOP_SYNC (R292). The Foreman issues a sync-release strobe carrying S. -/
  | lopSync (b : Fin 8)
  /-- LOP_FLUSH (R292). The Foreman issues a flush strobe at S. -/
  | lopFlush (b : Fin 8)
  /-- LOP_ABORT (R293). The Foreman schedules an abort point strobe at S. -/
  | lopAbort (b : Fin 8)
  /-- LOP_POISON (R293). The Foreman schedules a poison point strobe at S. -/
  | lopPoison (b : Fin 8)
  /-- LOP_STOP (R293). The Foreman schedules a stop point strobe at S. -/
  | lopStop (b : Fin 8)
  /-- LOP_SHOT (R306). The Foreman schedules a SHOT at S, and stops fetching if a HOLD is pending. -/
  | lopShot (b : Fin 8)
  /-- POINT_STROBE_EFFECT (R293). A schedule-queue entry reaches its tick and its point strobe or events take effect. -/
  | pointStrobeEffect (b : Fin 8)
  /-- SHOT (R295). A SHOT takes effect: SHOTS increments, a SHOT mark and event go out, and NEW bits and OLT latches clear. -/
  | shot (b : Fin 8)
  /-- PUB0 (R296). The Foreman publishes 0 to a GDS bit. -/
  | pub0 (b : Fin 8)
  /-- PUB1 (R296). The Foreman publishes 1 to a GDS bit. -/
  | pub1 (b : Fin 8)
  /-- PUBZ (R296). The Foreman publishes the ALU Z flag to a GDS bit. -/
  | pubz (b : Fin 8)
  /-- DOP_ARM (R262). The Foreman arms a lookup tag. -/
  | dopArm (b : Fin 8)
  /-- DOP_LOOKUP (R262). The Foreman makes a tag ready as if every input were collected. -/
  | dopLookup (b : Fin 8)
  /-- CLRNEW (R289). The Foreman clears NEW of the channels of U4. -/
  | clrnew (b : Fin 8)
  /-- DOP_MARK (R296). The Foreman writes a Foreman mark carrying BASE to Tally. -/
  | dopMark (b : Fin 8)
  /-- DOP_IRQ (R296). The Foreman raises its interrupt with a code. -/
  | dopIrq (b : Fin 8)
  /-- LDCH (R296). The Foreman loads a channel latch into U3. -/
  | ldch (b : Fin 8)
  /-- LOGRD (R296). The Foreman reads an effect-log entry into U2 and U3. -/
  | logrd (b : Fin 8)
  /-- FOREMAN_ADD (R299). Ud = Ua + Ub with flags. -/
  | foremanAdd (b : Fin 8)
  /-- ADDI (R299). Ud = Ua + IMM with flags. -/
  | addi (b : Fin 8)
  /-- FOREMAN_SUB (R299). Ud = Ua − Ub with flags. -/
  | foremanSub (b : Fin 8)
  /-- AND (R299). Ud = Ua AND Ub. -/
  | and_ (b : Fin 8)
  /-- OR (R299). Ud = Ua OR Ub. -/
  | or_ (b : Fin 8)
  /-- XOR (R299). Ud = Ua XOR Ub. -/
  | xor_ (b : Fin 8)
  /-- FOREMAN_SHL (R299). Ud = Ua shifted left by IMM. -/
  | foremanShl (b : Fin 8)
  /-- FOREMAN_SHR (R299). Ud = Ua shifted right by IMM, logical. -/
  | foremanShr (b : Fin 8)
  /-- CMP (R299). The flags are set from Ua − Ub without a write. -/
  | cmp (b : Fin 8)
  /-- MOVC (R299). Ud takes a counter value. -/
  | movc (b : Fin 8)
  /-- MBX (R299). Ud takes a mailbox value. -/
  | mbx (b : Fin 8)
  /-- BADD (R299). BASE = BASE + Ua. -/
  | badd (b : Fin 8)
  /-- BEV (R299). BASE = Tw + Ua, from the input tick of the last successful wait. -/
  | bev (b : Fin 8)
  /-- BNOW (R299). BASE = the word's issue tick + Ua. -/
  | bnow (b : Fin 8)
  /-- CNT_DECREMENT (R298). A counter is decremented, saturating at 0. -/
  | cntDecrement (b : Fin 8) (n : Fin 4)
  /-- CNT_RELOAD (R298). A counter is reloaded from CRLDn. -/
  | cntReload (b : Fin 8) (n : Fin 4)
  /-- CNT_INCREMENT (R298). A counter is incremented, wrapping. -/
  | cntIncrement (b : Fin 8) (n : Fin 4)
  /-- TRG_BEGIN (R315). A timed region opens with a budget of DSEL + 1 ticks. -/
  | trgBegin (b : Fin 8)
  /-- TRG_END (R315). The open timed region closes. -/
  | trgEnd (b : Fin 8)
  /-- WAIT_COMPLETE (R288). A waiting microword's condition holds, and the word completes with its effects. -/
  | waitComplete (b : Fin 8)
  /-- WAIT_TIMEOUT (R288). A waiting microword times out, completes without its effects, goes to NXT + 1 and sets VOID. -/
  | waitTimeout (b : Fin 8)
  /-- HOLD_RELEASE (R293). A holding microword finds room in the schedule queue or S in range, and issues. -/
  | holdRelease (b : Fin 8)
  /-- DOORBELL (R310). A write of FOREMAN.CTL.DOORBELL raises doorbell trap requests. -/
  | doorbell (b : Fin 8) (mask : BitVec 4)
  /-- FOREMAN_TRAP (R311). The Foreman takes an asynchronous trap at a boundary outside timed regions and saves a frame. -/
  | foremanTrap (b : Fin 8)
  /-- SYNC_FAULT (R316). A synchronous fault is taken: lanes are aborted, the shot is poisoned and the trap is entered or the Foreman stops FATAL. -/
  | syncFault (b : Fin 8) (uecc : Bool)
  /-- TIMED_OVERRUN (R315). A timed region is still open at its budget's end and TIMED_OVERRUN is raised. -/
  | timedOverrun (b : Fin 8)
  /-- REFRESH_DUE (R348). A refresh falls due on a channel and is issued, postponed or forced under the debt limit. -/
  | refreshDue (ch : Fin 18) (panicIssues : Bool)
  /-- MEM_TEMP_SAMPLE (R352). The memory temperature is sampled; GUARD and HOT are entered or left and the debt is adjusted or forced. -/
  | memTempSample (temps : List (Option Int))
  /-- ROW_THRESHOLD (R346). A row reaches the activation threshold; its neighbours are refreshed and the offender is limited. -/
  | rowThreshold (ch : Fin 18) (bank : Fin 16) (row : BitVec 15) (q : Fin 11)
  /-- RH_WINDOW (R345). A 32 ms row-disturbance window ends and the activation counts restart. -/
  | rhWindow
  /-- EDC_ERROR (R343). A data-link EDC error causes a retry, and exhaustion sets RETRAIN_DUE. -/
  | edcError (dev : Fin 9) (write : Bool) (retries : Fin 4) (unit : BitVec 28)
  /-- CA_PARITY_ALERT (R344). A parity alert replays the command buffer, or poisons the unconfirmed writes. -/
  | caParityAlert (ch : Fin 18) (unconfirmed : List (BitVec 28))
  /-- REQUEST_PROMOTION (R329). The oldest request of a class has waited 16 µs and is promoted. -/
  | requestPromotion (k : Fin 4) (waited : Nat)
  /-- SELF_REFRESH_EXIT (R42). A request in IDLE takes the memory out of self-refresh. -/
  | selfRefreshExit
  /-- SELF_REFRESH_ENTRY (R42). After 1 ms without requests in IDLE, the memory returns to self-refresh. -/
  | selfRefreshEntry
  /-- RETRAIN_START (R355). A due retraining begins in HOLD or IDLE. -/
  | retrainStart
  /-- RETRAIN_DONE (R356). Retraining ends, or finds no setting and follows the retry, spare, rate-step and DEAD ladder. -/
  | retrainDone (failing : Option (Fin 9))
  /-- RETIREMENT_START (R357). A due retirement begins in HOLD or IDLE, with a Ledger record and the start of migration. -/
  | retirementStart
  /-- MIGRATION_DONE (R358). The copy to the spare ends; MEM.MAP is updated, the device becomes RETIRED and the budget is re-checked. -/
  | migrationDone
  /-- WRITER_SLOT (R373). A Tally writer slot moves up to two staged parts into the ring at WP, writing a PAD where needed. -/
  | writerSlot
  /-- RP_WRITE (R372). A write to TALLY.RP is accepted only within the span from RP to WP. -/
  | rpWrite (who : Who) (v : Word)
  /-- DRAIN_COPY (R379). The drain engine copies whole records to the host ring and advances RP and DMA_HWP. -/
  | drainCopy
  /-- DRAIN_IRQ (R380). The drain interrupt is raised by the byte count or by the IRQ_US timer. -/
  | drainIrq
  /-- DMA_ERROR (R380). A host-side drain write completes in error; the drain stops and DMA_ERR is set. -/
  | dmaError
  /-- STREAM_DISABLE (R377). A write of STREAMs_CTL.EN = 0 disables the stream and queues its final GAP. -/
  | streamDisable (st : Fin 25)
  /-- FABRIC_CYCLE (R381). A fabric cycle evaluates producer lines and Joiner cells and delivers events to consumer inputs. -/
  | fabricCycle
  /-- LED_TIMEOUT (R386). 100 ms after its last event, an LED goes dark. -/
  | ledTimeout (k : Fin 4)
  /-- BIAS_CODE_WRITE (R398). A write to CHn_CODE stages a code for the next boundary or load strobe. -/
  | biasCodeWrite (n : Fin 64) (v : Word)
  /-- LOAD_STROBE (R398). A write to BIAS.LOAD, a fall of LOAD_N or a fabric event strobes load groups. -/
  | loadStrobe (groups : BitVec 8)
  /-- BIAS_UPDATE (R397). At each update boundary, the bias outputs glide, load, add the sine and advance range changes. -/
  | biasUpdate
  /-- UNPARK (R400). A write of CHn_CTL.UNPARK connects the amplifier at 0 V and starts the glide. -/
  | unpark (who : Who) (n : Fin 64)
  /-- PARK (R400). A write of CHn_CTL.PARK glides the output to 0 V and parks it. -/
  | park (n : Fin 64)
  /-- BIAS_RANGE_REQUEST (R401). A write to CHn_RANGE requests a range change and sets RANGE_PEND. -/
  | biasRangeRequest (who : Who) (n : Fin 64) (v : Word)
  /-- BIAS_RANGE_SWITCH_DONE (R401). 40 µs after parking, the range has switched and the output unparks and glides to its new target. -/
  | biasRangeSwitchDone (n : Fin 64)
  /-- SIN_START (R402). A write of SIN_EN = 1 starts the sine at φ = 0 at the next boundary. -/
  | sinStart (n : Fin 64)
  /-- SIN_STOP (R402). A write of SIN_EN = 0 stops the sine at the next phase wrap. -/
  | sinStop (n : Fin 64)
  /-- MONITOR_CONVERSION (R405). A monitor conversion ends; MONV or MONI is renewed and MISMATCH and OPEN_LOAD are checked. -/
  | monitorConversion (n : Fin 64) (current : Bool) (value : Int)
  /-- PANEL_LEVEL_CHANGE (R407). A panel input is seen at a new level on 2 consecutive AON edges. -/
  | panelLevelChange (j : Fin 18) (level : Bool)
  /-- SCAN_RUN (R409). A write of SENSE.CTL.RUN = 1 starts the sensor scan list. -/
  | scanRun
  /-- SCAN_STOP (R414). A write of RUN = 0 abandons the entry in progress, and its channel becomes STALE. -/
  | scanStop
  /-- SENSOR_READING (R411). A sensor reading completes and is checked for common mode and overrange. -/
  | sensorReading (r : Reading)
  /-- SCAN_ENTRY_END (R413). A scan entry ends, with or without a result; the results, flags and loop output update. -/
  | scanEntryEnd
  /-- EXCITATION_SWITCH (R414). A write that changes the excitation of the entry in progress restarts its settle timer. -/
  | excitationSwitch (j : Fin 32) (v : Word)
  /-- LOOP_READBACK (R417). The loop current is read every 1 ms, and LOOP_FAULT is set after 3 bad readings. -/
  | loopReadback (k : Fin 2) (microamps : BitVec 16)
  /-- THERMAL_SAMPLE (R424). The sensors are sampled every 100 µs, TJ and rise are evaluated, and thermal actions are taken or ended. -/
  | thermalSample (temps : List Int) (diodes : List (Option Int))
  /-- SHED_DEADLINE (R425). The shot boundary is not reached within SHED_DEADLINE, so HOLD is forced and the shot is poisoned with cause THERMAL. -/
  | shedDeadline
  /-- LATCHED_ENTRY (R427). Porter commits the LATCH record within 50 ms and the device enters LATCHED. -/
  | latchedEntry
  /-- SURVEY_COMPLETE (R430). An ageing survey completes, and its results and plan are committed as a pending SURVEY record. -/
  | surveyComplete (r : SurveyResult)
  /-- LEDGER_COMPACTION (R435). At IDLE with the partition 90% full, Porter compacts the Ledger. -/
  | ledgerCompaction
  /-- LEDGER_REFRESH (R436). Porter rewrites Ledger records older than 5 powered years. -/
  | ledgerRefresh
  /-- PCIE_RESET (R438). PERST#, a hot reset, a link-down reset or an FLR resets the PCIe function and stops the drains. -/
  | pcieReset
  /-- PCIE_LINK_UP (R439). The lead's PCIe link trains and comes up. -/
  | pcieLinkUp
  /-- CARTER_ANNOUNCE (R442). A device announces its DEVID up the tree, and the lead accepts it or refuses it for DUP_DEVID or DEPTH. -/
  | carterAnnounce (port : Fin 5) (dev : Fin 64) (depth : Fin 5)
  /-- CARTER_LINK_DOWN (R444). A Carter link goes down, the devices below become unreachable and retraining begins. -/
  | carterLinkDown (port : Fin 5)
  /-- CARTER_LINK_UP (R444). A Carter link is UP again; devices re-announce, and drains and pending interrupts resume. -/
  | carterLinkUp (port : Fin 5)
  /-- CORE_IMAGE_LOADED (R450). Porter loads and verifies the core boot image and releases core 0, or sets NO_IMAGE. The
  operands are the keys under which the images in CORE_A and CORE_B verify. -/
  | coreImageLoaded (image : CoreImages)
  /-- CORE_HOLD (R451). A write of TOP.CORE_CTL.HOLD = 1 holds all cores in reset. -/
  | coreHold
  /-- CORE_RELEASE (R451). A write of HOLD = 0 releases the cores under the boot sequence. -/
  | coreRelease
  /-- WATCHDOG_KICK (R453). A write of CORE_CTL.KICK restarts the core watchdog. -/
  | watchdogKick
  /-- WATCHDOG_FIRED (R453). The watchdog expires; the cores are held, CORE_ERR is raised and Porter takes the management port. -/
  | watchdogFired
  /-- MGMT_PACKET (R454). A UDP packet on port 7070 reaches Porter while it owns the management port. -/
  | mgmtPacket (code : BitVec 8)
  /-- IDENT (R460). Porter command returning serial, life-cycle state, OWN_CNT and firmware version. -/
  | ident
  /-- LC_TOKEN (R463). Porter checks a transition token and carries out the life-cycle transition. -/
  | lcToken (t : Token)
  /-- LEDGER_KEY (R460). Porter command returning the Ledger public key. -/
  | ledgerKey
  /-- LEDGER_READ (R460). Porter command returning one Ledger record by SEQ. -/
  | ledgerRead (seq : Word)
  /-- FW_WRITE (R458). Porter writes a firmware image to the partition that did not boot and marks it primary once verified. -/
  | fwWrite (p : FwPart)
  /-- PROV_KEY (R460). Porter command returning the provisioning public key. -/
  | provKey
  /-- PORTER_COMMAND_DONE (R460). A Porter command completes, and BUSY clears and DONE and RESULT are set. -/
  | porterCommandDone
  /-- RAIL_TRIP (R470). A rail stays outside its monitor window for 10 µs, and the device acts for its rail group. -/
  | railTrip (n : Fin 11)
  /-- RAIL_RECOVER (R470). Every tripped core rail is back in its window for 1 ms, so a power-on reset with SUPPLY follows. -/
  | railRecover (straps : Fin 64)
  /-- PMB_ALERT (R471). PMB_ALERT_N falls and the device reads STATUS_WORD from every configured regulator. -/
  | pmbAlert (faulty : Bool)
  /-- REGISTER_WRITE (R484). A write to a register with no row of its own acts field by field under the access codes. -/
  | registerWrite (who : Who) (dev : Fin 64) (off : BitVec 36) (size : Nat) (v : BitVec 64)
  /-- VDD_AON_REMOVED (R56). VDD_AON is removed, the device becomes unpowered, and only this removal clears LATCHED. -/
  | vddAonRemoved
  /-- WAVEFORM_READ (R342). A read of waveform memory by the host, the application cores or Porter completes, and a UE poisons the unit, sets FLAGS.UE and UE_LOG, and gives the reader its result. -/
  | waveformRead (who : Who) (addr : BitVec 34) (r : ReadCheck)
  /-- DENIED_READ (R9). A register or window read of a refused size, alignment, region or sealed window returns 0, sets ACCESS_DENIED and records TOP.ACCESS_LOG, or counts UNREACH for an absent aperture. -/
  | deniedRead (who : Who) (dev : Fin 64) (off : BitVec 36) (size : Nat)
  /-- IRQ_CODE_READ (R296). A read of FOREMAN.TRAP returns IRQ_CODE and clears it. -/
  | irqCodeRead (who : Who) (b : Fin 8)
  /-- CARTER_FRAME_ERROR (R443). A Carter frame fails its check after FEC correction and is resent from the sender's retry buffer, and RETRY counts it. -/
  | carterFrameError (port : Fin 5)
  /-- PANIC_ENTRY (R135). A streaming window's fill falls below PANIC/64 as playback consumes it, so the port marks its requests real-time panic and PANIC_COUNT counts. -/
  | panicEntry (b : Fin 8) (v : Fin 80)
  /-- ERROR_COUNT_HOUR (R357). Each hour the oldest hour of the 24-hour correctable and uncorrectable error counts of each memory device expires, and CE_24H and UE_24H fall. -/
  | errorCountHour
  /-- TRACE_RECORD (R370). A trace record of a window is offered to Tally when its last sample or interval is present, and is accepted or dropped whole. -/
  | traceRecord (b : Fin 8) (c : Fin 32) (xs : List (BitVec 12))
  /-- ADC_CLIP (R198). An ADC sample reaches −2,048 or +2,047, which increments CLIPCNT, sets CLIP, and marks the open window's entries. -/
  | adcClip (b : Fin 8) (a : AdcAt)
  /-- TRIG_CONTEND (R106). The level of a driven trigger ball differs from the level the device drives, so CONTEND is set. -/
  | trigContend (k : Fin 8)
  deriving DecidableEq, Repr

end Sys2Proof
end

