-- ==== Sys2Proof/Decode.lean ====
section
/-!
DEFINITION. The command that a table word spells. No row of the opcode table gives bits: the commands of this block are
register writes, link traffic, pin events and the events of its own units, each described by its operands. So no word
spells a command.
-/
namespace Sys2Proof

/-- The command that `nbits` bits of value `w` spell by the table: none, since no row gives bits. -/
def decodeTableWord (_nbits _w : Nat) : Option Instr := none

end Sys2Proof
end

