-- ==== Sys2Proof/Config.lean ====
section
/-!
DEFINITION. What the specification leaves open: uninterpreted constants. Nothing in Lean can evaluate them, so every
statement holds whatever they are. Values that may differ from one use to the next are applied to the state's counter.
-/
namespace Sys2Proof.Config

/-- Tap `i` (0 to 15) of a phase (1 to 63) of the resampler (R117): its fixed coefficients are not given. -/
opaque resampTap : Nat → Nat → Dy

/-- exp(j2πp) of a phase in units of 2^-54 turn, real and imaginary part (R174, R202): the device's precision is not
given. -/
opaque expTurn : Nat → Dy × Dy

/-- What mix mode multiplies the sum of a converter by, so that its second-Nyquist component has the phase of R95
(R176): the digital samples themselves are not given. -/
opaque mixRot : Dy × Dy

/-- The inverse-sinc correction of a converter, normal or mix (R185), of its sums, newest first: its coefficients are not
given. -/
opaque isinc : Bool → List Dy → Dy

/-- The weight of a ramp to zero (R195) when so many output samples are left of so many: its rounding is not given. -/
opaque rampWeight : Nat → Nat → Dy

/-- α of a corrector section (R189), from τ in units of 62.5 ps: 1 − exp(−T_s / τ), whose precision is not given. -/
opaque alpha : Nat → Dy

/-- The decimated sample that the mixed ADC samples of a window, oldest first, give (R203), I and Q: the filter's
coefficients are not given. -/
opaque decimate : List (Dy × Dy) → BitVec 18 × BitVec 18

/-- The magnitude of a decimated sample (R215 mode 4): its rounding is not given. -/
opaque magnitude : BitVec 18 → BitVec 18 → BitVec 32

/-- Entry of the quarter-wave sine table, 1,024 × 20 bits (R402): its contents are not given. -/
opaque sineTable : BitVec 10 → BitVec 20

/-- The natural logarithm in single precision (R412): the specification does not say how it is rounded. -/
opaque lnSingle : BitVec 32 → BitVec 32

/-- The NaN pattern that a single-precision operation of R412 delivers. -/
opaque nanSingle : BitVec 32

/-- A result that the specification does not state: the outcome of a read of memory that holds no written unit after
power-on, and other unstated words. -/
opaque freeWord : Nat → BitVec 32

/-- A byte of a Porter answer whose content the specification does not fix (public keys, signatures). -/
opaque porterWord : Nat → BitVec 32

/-- Microwords of the Foreman's mask ROM (R301, R309): the manual describes the routines and gives no words. -/
opaque romWord : BitVec 14 → BitVec 144

end Sys2Proof.Config
end

