-- ==== Sys2Proof/Machine/Maps.lean ====
section
/-!
DEFINITION. Sparse maps keyed by a number: lists of key and value in one canonical form (keys strictly rising, no
entry equal to the default of its key), so that equal maps are equal lists. Waveform memory, the register aperture and
every per-instance table of the machine are held so.
-/
namespace Sys2Proof.Machine

/-- A sparse map; what an unlisted key holds is given by the default function at every use. -/
abbrev NMap (α : Type) := List (Nat × α)

namespace NMap

/-- The value at a key. -/
def get {α : Type} (d : Nat → α) : NMap α → Nat → α
  | [], k => d k
  | (a, v) :: m, k => if k = a then v else get d m k

/-- Put an entry at its place in key order. -/
def ins {α : Type} (k : Nat) (v : α) : NMap α → NMap α
  | [] => [(k, v)]
  | (a, w) :: m => if k < a then (k, v) :: (a, w) :: m else (a, w) :: ins k v m

/-- Every entry but those of key `k`. -/
def del {α : Type} (k : Nat) : NMap α → NMap α
  | [] => []
  | (a, w) :: m => if a = k then del k m else (a, w) :: del k m

/-- The map with the value at one key replaced; a value equal to the default leaves no entry. -/
def set {α : Type} [DecidableEq α] (d : Nat → α) (m : NMap α) (k : Nat) (v : α) : NMap α :=
  if v = d k then del k m else ins k v (del k m)

/-- The map with the value at one key changed by a function. -/
def upd {α : Type} [DecidableEq α] (d : Nat → α) (m : NMap α) (k : Nat) (f : α → α) : NMap α :=
  set d m k (f (get d m k))

/-- Every key satisfying `p` back at its default. -/
def erase {α : Type} (p : Nat → Bool) (m : NMap α) : NMap α :=
  m.filter fun e => !p e.1

/-- Every key of the list is above `k`. -/
def above {α : Type} (k : Nat) (m : NMap α) : Bool :=
  m.all fun e => decide (k < e.1)

/-- The canonical form. -/
def wf {α : Type} [DecidableEq α] (d : Nat → α) : NMap α → Bool
  | [] => true
  | (a, v) :: m => !decide (v = d a) && above a m && wf d m

end NMap

/-- Bits `[lo + w - 1 : lo]` of a number. -/
def bitsOf (v lo w : Nat) : Nat := v / 2 ^ lo % 2 ^ w

/-- Bit `i` of a number. -/
def bitAt (v i : Nat) : Bool := v / 2 ^ i % 2 == 1

/-- A number with its bits `[lo + w - 1 : lo]` replaced. -/
def putBits (v lo w x : Nat) : Nat :=
  v - bitsOf v lo w * 2 ^ lo + x % 2 ^ w * 2 ^ lo

/-- The two's-complement reading of the low `w` bits of a number. -/
def sext (w v : Nat) : Int :=
  if v % 2 ^ w < 2 ^ (w - 1) then Int.ofNat (v % 2 ^ w) else Int.ofNat (v % 2 ^ w) - Int.ofNat (2 ^ w)

/-- The low `w` bits of an integer in two's complement. -/
def lowBits (w : Nat) (i : Int) : Nat := (i % Int.ofNat (2 ^ w)).toNat

/-- 1 for true, 0 for false. -/
def bit (b : Bool) : Nat := if b then 1 else 0

/-- The smallest multiple of `m` that is at least `v`. -/
def alignUp (v m : Nat) : Nat := (v + m - 1) / m * m

/-- Apply `f` for every member of a list, first to last. -/
def foldAll {σ α : Type} (f : σ → α → σ) (s : σ) (xs : List α) : σ := xs.foldl f s

end Sys2Proof.Machine
end

