-- ==== Sys2Proof/Machine/Registers.lean ====
section
/-!
DEFINITION. The register table of the device aperture (R9, R10, R445), one descriptor per register table of the
specification: its name, the offset of its first instance, the strides of its repeated instances, and its fields with
access code and reset value. Offsets are those of the register headings; chapter files 01 to 19 give them.
Named offsets (`R.…`) and named fields (`Fd.…`) are what the rest of the model uses.
-/
namespace Sys2Proof.Machine

/-- The access codes of R10. -/
inductive Acc where
  | ro | rw | w1c | wo | rwp | rwl
  deriving DecidableEq, Repr

/-- A field of a register: lowest bit, width, access code and reset value. -/
structure RegField where
  lo : Nat
  w : Nat
  acc : Acc
  rst : Nat
  deriving DecidableEq, Repr

/-- A register, or a family of registers repeated at one or more strides (`dims`: stride and count, widest first). -/
structure RegDesc where
  name : String
  base : Nat
  dims : List (Nat × Nat)
  fields : List RegField
  deriving DecidableEq, Repr

/-- A bit range of a register: lowest bit and width. -/
structure Bits where
  lo : Nat
  w : Nat
  deriving DecidableEq, Repr

/-- Is `rel` an instance offset of the strides `dims`? -/
def dimsHit : List (Nat × Nat) → Nat → Bool
  | [], rel => rel == 0
  | (st, n) :: ds, rel => decide (rel / st < n) && dimsHit ds (rel % st)

/-- Does the descriptor implement the register at aperture offset `off`? -/
def RegDesc.hits (d : RegDesc) (off : Nat) : Bool :=
  decide (d.base ≤ off) && dimsHit d.dims (off - d.base)

namespace R
/-- BENCH0.CTL. -/
def BENCH_CTL (b : Nat) : Nat := 0x400100000 + 0x100000 * b
/-- BENCH0.STATUS. -/
def BENCH_STATUS (b : Nat) : Nat := 0x400100004 + 0x100000 * b
/-- BENCH0.EVENTS. -/
def BENCH_EVENTS (b : Nat) : Nat := 0x400100008 + 0x100000 * b
/-- TOP.MODE. -/
def TOP_MODE : Nat := 0x400000000
/-- TOP.MODE_REQ. -/
def TOP_MODE_REQ : Nat := 0x400000004
/-- TOP.MODE_ERR. -/
def TOP_MODE_ERR : Nat := 0x400000008
/-- TOP.RESET. -/
def TOP_RESET : Nat := 0x400000010
/-- TOP.RESET_CAUSE. -/
def TOP_RESET_CAUSE : Nat := 0x400000014
/-- TOP.AON_CTL. -/
def TOP_AON_CTL : Nat := 0x400000018
/-- TOP.WAKE_TIME_LO. -/
def TOP_WAKE_TIME_LO : Nat := 0x40000001C
/-- TOP.WAKE_TIME_HI. -/
def TOP_WAKE_TIME_HI : Nat := 0x400000020
/-- TOP.PAT_CTL. -/
def TOP_PAT_CTL : Nat := 0x400000040
/-- TOP.PAT_SRC_LO. -/
def TOP_PAT_SRC_LO : Nat := 0x400000044
/-- TOP.PAT_SRC_HI. -/
def TOP_PAT_SRC_HI : Nat := 0x400000048
/-- TOP.PAT_LEN. -/
def TOP_PAT_LEN : Nat := 0x40000004C
/-- TOP.PAT_STATUS. -/
def TOP_PAT_STATUS : Nat := 0x400000050
/-- TOP.PAT_ID_LO. -/
def TOP_PAT_ID_LO : Nat := 0x400000054
/-- TOP.PAT_ID_HI. -/
def TOP_PAT_ID_HI : Nat := 0x400000058
/-- TOP.PAT_OVL_ID_LO. -/
def TOP_PAT_OVL_ID_LO : Nat := 0x40000005C
/-- TOP.PAT_OVL_ID_HI. -/
def TOP_PAT_OVL_ID_HI : Nat := 0x400000060
/-- TOP.PAT_OVL_COUNT. -/
def TOP_PAT_OVL_COUNT : Nat := 0x400000064
/-- TIME.NOW_LO. -/
def TIME_NOW_LO : Nat := 0x400010000
/-- TIME.NOW_HI. -/
def TIME_NOW_HI : Nat := 0x400010004
/-- TIME.EPOCH_CTL. -/
def TIME_EPOCH_CTL : Nat := 0x400010008
/-- TIME.EPOCH_PERIOD. -/
def TIME_EPOCH_PERIOD : Nat := 0x40001000C
/-- TIME.EPOCH_LOAD_LO. -/
def TIME_EPOCH_LOAD_LO : Nat := 0x400010010
/-- TIME.EPOCH_LOAD_HI. -/
def TIME_EPOCH_LOAD_HI : Nat := 0x400010014
/-- TIME.EPOCH_LAST_LO. -/
def TIME_EPOCH_LAST_LO : Nat := 0x400010018
/-- TIME.EPOCH_LAST_HI. -/
def TIME_EPOCH_LAST_HI : Nat := 0x40001001C
/-- TIME.EPOCH_TDC. -/
def TIME_EPOCH_TDC : Nat := 0x400010020
/-- TIME.EPOCH_SLIP_AMT. -/
def TIME_EPOCH_SLIP_AMT : Nat := 0x400010024
/-- TIME.EPOCH_TRIM. -/
def TIME_EPOCH_TRIM : Nat := 0x400010028
/-- TIME.ECHO_CTL. -/
def TIME_ECHO_CTL : Nat := 0x4000100C0
/-- TIME.ECHOp_RTT. -/
def TIME_ECHO_RTT (b : Nat) : Nat := 0x4000100C8 + 0x8 * b
/-- TIME.ECHOp_OFS. -/
def TIME_ECHO_OFS (b : Nat) : Nat := 0x4000100CC + 0x8 * b
/-- TIME.FDLYi. -/
def TIME_FDLY (b : Nat) : Nat := 0x400010200 + 0x4 * b
/-- TIME.TRIGk_CTL. -/
def TIME_TRIG_CTL (b : Nat) : Nat := 0x400010040 + 0x10 * b
/-- TIME.TRIGk_STAT. -/
def TIME_TRIG_STAT (b : Nat) : Nat := 0x400010044 + 0x10 * b
/-- TIME.TRIGk_TS_LO. -/
def TIME_TRIG_TS_LO (b : Nat) : Nat := 0x400010048 + 0x10 * b
/-- TIME.TRIGk_TS_HI. -/
def TIME_TRIG_TS_HI (b : Nat) : Nat := 0x40001004C + 0x10 * b
/-- TIME.STATUS. -/
def TIME_STATUS : Nat := 0x400010030
/-- BENCH0.LOOM.STREAM_CFG. -/
def LOOM_STREAM_CFG (b : Nat) : Nat := 0x400110100 + 0x100000 * b
/-- BENCH0.LOOM.PORT_STATUS. -/
def LOOM_PORT_STATUS (b : Nat) : Nat := 0x400110104 + 0x100000 * b
/-- BENCH0.LOOM.CACHE_MAP. -/
def LOOM_CACHE_MAP (b : Nat) : Nat := 0x400110108 + 0x100000 * b
/-- BENCH0.LOOM.CACHE_USE. -/
def LOOM_CACHE_USE (b : Nat) : Nat := 0x40011010C + 0x100000 * b
/-- BENCH0.LOOM.CNTc. -/
def LOOM_CNT (b i : Nat) : Nat := 0x400110110 + 0x100000 * b + 0x4 * i
/-- BENCH0.LOOM.VSTREAMv. -/
def LOOM_VSTREAM (b i : Nat) : Nat := 0x400110200 + 0x100000 * b + 0x4 * i
/-- LOOM.SEG_CFG. -/
def LOOM_SEG_CFG : Nat := 0x400118000
/-- LOOM.SEG_STATUS. -/
def LOOM_SEG_STATUS : Nat := 0x400118004
/-- LOOM.SEG_BUSY. -/
def LOOM_SEG_BUSY : Nat := 0x400118008
/-- LOOM.SEG_BUSY_LOG_LO. -/
def LOOM_SEG_BUSY_LOG_LO : Nat := 0x40011800C
/-- LOOM.SEG_BUSY_LOG_HI. -/
def LOOM_SEG_BUSY_LOG_HI : Nat := 0x400118010
/-- LOOM.RETIRE. -/
def LOOM_RETIRE : Nat := 0x400118014
/-- LOOM.RETIRE_STATUS. -/
def LOOM_RETIRE_STATUS : Nat := 0x400118018
/-- LOOM.SEG_QUERY. -/
def LOOM_SEG_QUERY : Nat := 0x40011801C
/-- LOOM.ALIASa. -/
def LOOM_ALIAS (b : Nat) : Nat := 0x40011C000 + 0x4 * b
/-- BENCH0.LOOM.LANE0_CTL. -/
def LOOM_LANE_CTL (b i : Nat) : Nat := 0x400111000 + 0x100000 * b + 0x80 * i
/-- BENCH0.LOOM.LANE0_PART. -/
def LOOM_LANE_PART (b i : Nat) : Nat := 0x400111004 + 0x100000 * b + 0x80 * i
/-- BENCH0.LOOM.LANE0_STATUS. -/
def LOOM_LANE_STATUS (b i : Nat) : Nat := 0x400111008 + 0x100000 * b + 0x80 * i
/-- BENCH0.LOOM.LANE0_CURSOR_LO. -/
def LOOM_LANE_CURSOR_LO (b i : Nat) : Nat := 0x40011100C + 0x100000 * b + 0x80 * i
/-- BENCH0.LOOM.LANE0_CURSOR_HI. -/
def LOOM_LANE_CURSOR_HI (b i : Nat) : Nat := 0x400111010 + 0x100000 * b + 0x80 * i
/-- BENCH0.LOOM.LANE0_FLAGS. -/
def LOOM_LANE_FLAGS (b i : Nat) : Nat := 0x400111014 + 0x100000 * b + 0x80 * i
/-- BENCH0.LOOM.LANE0_CNT_A. -/
def LOOM_LANE_CNT_A (b i : Nat) : Nat := 0x400111018 + 0x100000 * b + 0x80 * i
/-- BENCH0.LOOM.LANE0_CNT_B. -/
def LOOM_LANE_CNT_B (b i : Nat) : Nat := 0x40011101C + 0x100000 * b + 0x80 * i
/-- BENCH0.LOOM.LANE0_SLOTS. -/
def LOOM_LANE_SLOTS (b i : Nat) : Nat := 0x400111020 + 0x100000 * b + 0x80 * i
/-- BENCH0.LOOM.LANE0_DR. -/
def LOOM_LANE_DR (b i : Nat) : Nat := 0x400111024 + 0x100000 * b + 0x80 * i
/-- BENCH0.LOOM.LANE0_BIND. -/
def LOOM_LANE_BIND (b i : Nat) : Nat := 0x400111028 + 0x100000 * b + 0x80 * i
/-- BENCH0.LOOM.LANE0_Vr. -/
def LOOM_LANE_V (b i j : Nat) : Nat := 0x400111040 + 0x100000 * b + 0x80 * i + 0x4 * j
/-- BENCH0.LOOM.SLOT_POOL. -/
def LOOM_SLOT_POOL (b : Nat) : Nat := 0x400110120 + 0x100000 * b
/-- BENCH0.OUT.STATUS. -/
def OUT_STATUS (b : Nat) : Nat := 0x400120000 + 0x100000 * b
/-- BENCH0.OUT.CONVc_CFG. -/
def OUT_CONV_CFG (b i : Nat) : Nat := 0x400120100 + 0x100000 * b + 0x20 * i
/-- BENCH0.OUT.CONVc_FSR. -/
def OUT_CONV_FSR (b i : Nat) : Nat := 0x400120104 + 0x100000 * b + 0x20 * i
/-- BENCH0.OUT.CONVc_GAIN. -/
def OUT_CONV_GAIN (b i : Nat) : Nat := 0x400120108 + 0x100000 * b + 0x20 * i
/-- BENCH0.OUT.CONVc_FLAGS. -/
def OUT_CONV_FLAGS (b i : Nat) : Nat := 0x40012010C + 0x100000 * b + 0x20 * i
/-- BENCH0.OUT.TONEu_FW_LO. -/
def OUT_TONE_FW_LO (b i : Nat) : Nat := 0x400121000 + 0x100000 * b + 0x80 * i
/-- BENCH0.OUT.TONEu_FW_HI. -/
def OUT_TONE_FW_HI (b i : Nat) : Nat := 0x400121004 + 0x100000 * b + 0x80 * i
/-- BENCH0.OUT.TONEu_CFG. -/
def OUT_TONE_CFG (b i : Nat) : Nat := 0x400121008 + 0x100000 * b + 0x80 * i
/-- BENCH0.OUT.TONEu_FRAMEf_P. -/
def OUT_TONE_FRAME_P (b i j : Nat) : Nat := 0x400121010 + 0x100000 * b + 0x80 * i + 0x10 * j
/-- BENCH0.OUT.TONEu_FRAMEf_F. -/
def OUT_TONE_FRAME_F (b i j : Nat) : Nat := 0x400121014 + 0x100000 * b + 0x80 * i + 0x10 * j
/-- BENCH0.OUT.TONEu_FRAMEf_INIT_P. -/
def OUT_TONE_FRAME_INIT_P (b i j : Nat) : Nat := 0x400121018 + 0x100000 * b + 0x80 * i + 0x10 * j
/-- BENCH0.OUT.TONEu_FRAMEf_INIT_F. -/
def OUT_TONE_FRAME_INIT_F (b i j : Nat) : Nat := 0x40012101C + 0x100000 * b + 0x80 * i + 0x10 * j
/-- BENCH0.OUT.XFg_SRC. -/
def OUT_XF_SRC (b i : Nat) : Nat := 0x400123000 + 0x100000 * b + 0x20 * i
/-- BENCH0.OUT.XFg_SLOTS. -/
def OUT_XF_SLOTS (b i : Nat) : Nat := 0x400123004 + 0x100000 * b + 0x20 * i
/-- BENCH0.OUT.XFg_COEFj. -/
def OUT_XF_COEF (b i j : Nat) : Nat := 0x400123008 + 0x100000 * b + 0x20 * i + 0x4 * j
/-- BENCH0.OUT.FLXk_STATUS. -/
def OUT_FLX_STATUS (b i : Nat) : Nat := 0x400124000 + 0x100000 * b + 0x100 * i
/-- BENCH0.OUT.FLXk_SECs_AMP. -/
def OUT_FLX_SEC_AMP (b i j : Nat) : Nat := 0x400124010 + 0x100000 * b + 0x100 * i + 0x8 * j
/-- BENCH0.OUT.FLXk_SECs_TAU. -/
def OUT_FLX_SEC_TAU (b i j : Nat) : Nat := 0x400124014 + 0x100000 * b + 0x100 * i + 0x8 * j
/-- BENCH0.OUT.FLXk_FIRi. -/
def OUT_FLX_FIR (b i j : Nat) : Nat := 0x400124040 + 0x100000 * b + 0x100 * i + 0x4 * j
/-- BENCH0.READ.ACQa_CFG. -/
def READ_ACQ_CFG (b i : Nat) : Nat := 0x400130100 + 0x100000 * b + 0x20 * i
/-- BENCH0.READ.ACQa_FLAGS. -/
def READ_ACQ_FLAGS (b i : Nat) : Nat := 0x400130104 + 0x100000 * b + 0x20 * i
/-- BENCH0.READ.CHc_BIND. -/
def READ_CH_BIND (b i : Nat) : Nat := 0x400131000 + 0x100000 * b + 0x40 * i
/-- BENCH0.READ.CHc_WIN. -/
def READ_CH_WIN (b i : Nat) : Nat := 0x400131004 + 0x100000 * b + 0x40 * i
/-- BENCH0.READ.CHc_KCFG. -/
def READ_CH_KCFG (b i : Nat) : Nat := 0x400131008 + 0x100000 * b + 0x40 * i
/-- BENCH0.READ.CHc_DPH. -/
def READ_CH_DPH (b i : Nat) : Nat := 0x40013100C + 0x100000 * b + 0x40 * i
/-- BENCH0.READ.CHc_TRACE. -/
def READ_CH_TRACE (b i : Nat) : Nat := 0x400131010 + 0x100000 * b + 0x40 * i
/-- BENCH0.READ.CHc_FLAGS. -/
def READ_CH_FLAGS (b i : Nat) : Nat := 0x400131014 + 0x100000 * b + 0x40 * i
/-- BENCH0.ASSAY0.CTL. -/
def ASSAY_CTL (b i : Nat) : Nat := 0x400140000 + 0x100000 * b + 0x10000 * i
/-- BENCH0.ASSAY0.CFG. -/
def ASSAY_CFG (b i : Nat) : Nat := 0x400140004 + 0x100000 * b + 0x10000 * i
/-- BENCH0.ASSAY0.STATUS. -/
def ASSAY_STATUS (b i : Nat) : Nat := 0x400140008 + 0x100000 * b + 0x10000 * i
/-- BENCH0.ASSAY0.FLAGS. -/
def ASSAY_FLAGS (b i : Nat) : Nat := 0x40014000C + 0x100000 * b + 0x10000 * i
/-- BENCH0.ASSAY0.FAULT. -/
def ASSAY_FAULT (b i : Nat) : Nat := 0x400140010 + 0x100000 * b + 0x10000 * i
/-- BENCH0.ASSAY0.DEFAULT. -/
def ASSAY_DEFAULT (b i : Nat) : Nat := 0x400140014 + 0x100000 * b + 0x10000 * i
/-- BENCH0.ASSAY0.CHAN. -/
def ASSAY_CHAN (b i : Nat) : Nat := 0x400140018 + 0x100000 * b + 0x10000 * i
/-- BENCH0.ASSAY0.TOt. -/
def ASSAY_TO (b i j : Nat) : Nat := 0x400140020 + 0x100000 * b + 0x10000 * i + 0x4 * j
/-- BENCH0.ASSAY0.CNT_DEC. -/
def ASSAY_CNT_DEC (b i : Nat) : Nat := 0x400140030 + 0x100000 * b + 0x10000 * i
/-- BENCH0.ASSAY0.CNT_AUTO. -/
def ASSAY_CNT_AUTO (b i : Nat) : Nat := 0x400140034 + 0x100000 * b + 0x10000 * i
/-- BENCH0.ASSAY0.CNT_TO. -/
def ASSAY_CNT_TO (b i : Nat) : Nat := 0x400140038 + 0x100000 * b + 0x10000 * i
/-- BENCH0.ASSAY0.REPMAX. -/
def ASSAY_REPMAX (b i : Nat) : Nat := 0x40014003C + 0x100000 * b + 0x10000 * i
/-- BENCH0.ASSAY0.REGr_LO. -/
def ASSAY_REG_LO (b i j : Nat) : Nat := 0x400140100 + 0x100000 * b + 0x10000 * i + 0x8 * j
/-- BENCH0.ASSAY0.REGr_HI. -/
def ASSAY_REG_HI (b i j : Nat) : Nat := 0x400140104 + 0x100000 * b + 0x10000 * i + 0x8 * j
/-- DEC.CFG. -/
def DEC_CFG : Nat := 0x400030000
/-- DEC.FLAGS. -/
def DEC_FLAGS : Nat := 0x400030004
/-- DEC.OLT_LOOKUPSb. -/
def DEC_OLT_LOOKUPS (b : Nat) : Nat := 0x400030020 + 0x4 * b
/-- DEC.OLT_WAITMAXb. -/
def DEC_OLT_WAITMAX (b : Nat) : Nat := 0x400030040 + 0x4 * b
/-- DEC.GATHERb_s. -/
def DEC_GATHER (b i : Nat) : Nat := 0x400030100 + 0x80 * b + 0x4 * i
/-- DEC.MIRRORw. -/
def DEC_MIRROR (b : Nat) : Nat := 0x400030600 + 0x4 * b
/-- DEC.CRIERp_CFG. -/
def DEC_CRIER_CFG (b : Nat) : Nat := 0x400030800 + 0x40 * b
/-- DEC.CRIERp_SLOTS_LO. -/
def DEC_CRIER_SLOTS_LO (b : Nat) : Nat := 0x400030804 + 0x40 * b
/-- DEC.CRIERp_SLOTS_HI. -/
def DEC_CRIER_SLOTS_HI (b : Nat) : Nat := 0x400030808 + 0x40 * b
/-- DEC.CRIERp_STATUS. -/
def DEC_CRIER_STATUS (b : Nat) : Nat := 0x40003080C + 0x40 * b
/-- DEC.CRIERp_CNT_A. -/
def DEC_CRIER_CNT_A (b : Nat) : Nat := 0x400030810 + 0x40 * b
/-- DEC.CRIERp_CNT_B. -/
def DEC_CRIER_CNT_B (b : Nat) : Nat := 0x400030814 + 0x40 * b
/-- DEC.PUBb_e. -/
def DEC_PUB (b i : Nat) : Nat := 0x400032000 + 0x100 * b + 0x4 * i
/-- DEC.GDSMAPi. -/
def DEC_GDSMAP (b : Nat) : Nat := 0x400034000 + 0x4 * b
/-- DEC.TAGb_t_CH. -/
def DEC_TAG_CH (b i : Nat) : Nat := 0x400038000 + 0x1000 * b + 0x10 * i
/-- DEC.TAGb_t_CFG. -/
def DEC_TAG_CFG (b i : Nat) : Nat := 0x400038004 + 0x1000 * b + 0x10 * i
/-- DEC.TAGb_t_STAT. -/
def DEC_TAG_STAT (b i : Nat) : Nat := 0x400038008 + 0x1000 * b + 0x10 * i
/-- DEC.TAGb_t_IDX. -/
def DEC_TAG_IDX (b i : Nat) : Nat := 0x40003800C + 0x1000 * b + 0x10 * i
/-- BENCH0.FOREMAN.CTL. -/
def FM_CTL (b : Nat) : Nat := 0x400180000 + 0x100000 * b
/-- BENCH0.FOREMAN.STATUS. -/
def FM_STATUS (b : Nat) : Nat := 0x400180004 + 0x100000 * b
/-- BENCH0.FOREMAN.FLAGS. -/
def FM_FLAGS (b : Nat) : Nat := 0x400180008 + 0x100000 * b
/-- BENCH0.FOREMAN.FAULT. -/
def FM_FAULT (b : Nat) : Nat := 0x40018000C + 0x100000 * b
/-- BENCH0.FOREMAN.BASE_LO. -/
def FM_BASE_LO (b : Nat) : Nat := 0x400180010 + 0x100000 * b
/-- BENCH0.FOREMAN.BASE_HI. -/
def FM_BASE_HI (b : Nat) : Nat := 0x400180014 + 0x100000 * b
/-- BENCH0.FOREMAN.START. -/
def FM_START (b : Nat) : Nat := 0x400180018 + 0x100000 * b
/-- BENCH0.FOREMAN.START_VAL_LO. -/
def FM_START_VAL_LO (b : Nat) : Nat := 0x40018001C + 0x100000 * b
/-- BENCH0.FOREMAN.START_VAL_HI. -/
def FM_START_VAL_HI (b : Nat) : Nat := 0x400180020 + 0x100000 * b
/-- BENCH0.FOREMAN.ENTRY. -/
def FM_ENTRY (b : Nat) : Nat := 0x400180024 + 0x100000 * b
/-- BENCH0.FOREMAN.STORE. -/
def FM_STORE (b : Nat) : Nat := 0x400180028 + 0x100000 * b
/-- BENCH0.FOREMAN.TRAP. -/
def FM_TRAP (b : Nat) : Nat := 0x40018002C + 0x100000 * b
/-- BENCH0.FOREMAN.TOt. -/
def FM_TO (b i : Nat) : Nat := 0x400180030 + 0x100000 * b + 0x4 * i
/-- BENCH0.FOREMAN.Ux. -/
def FM_U (b i : Nat) : Nat := 0x400180040 + 0x100000 * b + 0x4 * i
/-- BENCH0.FOREMAN.Cn. -/
def FM_C (b i : Nat) : Nat := 0x400180060 + 0x100000 * b + 0x4 * i
/-- BENCH0.FOREMAN.CRLDn. -/
def FM_CRLD (b i : Nat) : Nat := 0x400180070 + 0x100000 * b + 0x4 * i
/-- BENCH0.FOREMAN.MBOXk. -/
def FM_MBOX (b i : Nat) : Nat := 0x400180080 + 0x100000 * b + 0x4 * i
/-- BENCH0.FOREMAN.CNT_CE. -/
def FM_CNT_CE (b : Nat) : Nat := 0x400180090 + 0x100000 * b
/-- BENCH0.FOREMAN.SHOTS_LO. -/
def FM_SHOTS_LO (b : Nat) : Nat := 0x400180094 + 0x100000 * b
/-- BENCH0.FOREMAN.SHOTS_HI. -/
def FM_SHOTS_HI (b : Nat) : Nat := 0x400180098 + 0x100000 * b
/-- BENCH0.FOREMAN.EVIN. -/
def FM_EVIN (b : Nat) : Nat := 0x40018009C + 0x100000 * b
/-- BENCH0.FOREMAN.ELOG_HEAD. -/
def FM_ELOG_HEAD (b : Nat) : Nat := 0x4001800A0 + 0x100000 * b
/-- BENCH0.FOREMAN.TVECv. -/
def FM_TVEC (b i : Nat) : Nat := 0x4001800C0 + 0x100000 * b + 0x4 * i
/-- BENCH0.FOREMAN.MATCHk. -/
def FM_MATCH (b i : Nat) : Nat := 0x400180100 + 0x100000 * b + 0x4 * i
/-- BENCH0.FOREMAN.ELOGi_A. -/
def FM_ELOG_A (b i : Nat) : Nat := 0x400180200 + 0x100000 * b + 0x20 * i
/-- BENCH0.FOREMAN.ELOGi_X. -/
def FM_ELOG_X (b i : Nat) : Nat := 0x400180204 + 0x100000 * b + 0x20 * i
/-- BENCH0.FOREMAN.ELOGi_MASK. -/
def FM_ELOG_MASK (b i : Nat) : Nat := 0x400180208 + 0x100000 * b + 0x20 * i
/-- BENCH0.FOREMAN.ELOGi_ISSUE. -/
def FM_ELOG_ISSUE (b i : Nat) : Nat := 0x40018020C + 0x100000 * b + 0x20 * i
/-- BENCH0.FOREMAN.ELOGi_SCHED. -/
def FM_ELOG_SCHED (b i : Nat) : Nat := 0x400180210 + 0x100000 * b + 0x20 * i
/-- TOP.BUDGET_STATUS. -/
def TOP_BUDGET_STATUS : Nat := 0x400000080
/-- TOP.BUDGET_CAP. -/
def TOP_BUDGET_CAP : Nat := 0x400000084
/-- TOP.BUDGET_DEMAND. -/
def TOP_BUDGET_DEMAND : Nat := 0x400000088
/-- TOP.BUDGET_TALLY. -/
def TOP_BUDGET_TALLY : Nat := 0x40000008C
/-- TOP.BREACH. -/
def TOP_BREACH : Nat := 0x400000090
/-- MEM.STATUS. -/
def MEM_STATUS : Nat := 0x400020000
/-- MEM.FLAGS. -/
def MEM_FLAGS : Nat := 0x400020004
/-- MEM.MAP. -/
def MEM_MAP : Nat := 0x400020008
/-- MEM.REF_CFG. -/
def MEM_REF_CFG : Nat := 0x40002000C
/-- MEM.REFDEBT. -/
def MEM_REFDEBT : Nat := 0x400020010
/-- MEM.TEMP. -/
def MEM_TEMP : Nat := 0x400020014
/-- MEM.TEMP_CFG. -/
def MEM_TEMP_CFG : Nat := 0x400020018
/-- MEM.RH_CFG. -/
def MEM_RH_CFG : Nat := 0x40002001C
/-- MEM.RETRAIN_CFG. -/
def MEM_RETRAIN_CFG : Nat := 0x400020020
/-- MEM.RETIRE_CFG. -/
def MEM_RETIRE_CFG : Nat := 0x400020024
/-- MEM.UE_LOG_LO. -/
def MEM_UE_LOG_LO : Nat := 0x400020028
/-- MEM.UE_LOG_HI. -/
def MEM_UE_LOG_HI : Nat := 0x40002002C
/-- MEM.LOST. -/
def MEM_LOST : Nat := 0x400020030
/-- MEM.DEVd_STATE. -/
def MEM_DEV_STATE (b : Nat) : Nat := 0x400020040 + 0x8 * b
/-- MEM.DEVd_ERR. -/
def MEM_DEV_ERR (b : Nat) : Nat := 0x400020044 + 0x8 * b
/-- MEM.THROTTLEq. -/
def MEM_THROTTLE (b : Nat) : Nat := 0x400020100 + 0x4 * b
/-- MEM.CLASSk_AGE. -/
def MEM_CLASS_AGE (b : Nat) : Nat := 0x400020140 + 0x4 * b
/-- MEM.KEEPc. -/
def MEM_KEEP (b : Nat) : Nat := 0x400020180 + 0x4 * b
/-- TALLY.CTL. -/
def TALLY_CTL : Nat := 0x400050000
/-- TALLY.STATUS. -/
def TALLY_STATUS : Nat := 0x400050004
/-- TALLY.RING_CFG. -/
def TALLY_RING_CFG : Nat := 0x400050008
/-- TALLY.WP. -/
def TALLY_WP : Nat := 0x40005000C
/-- TALLY.RP. -/
def TALLY_RP : Nat := 0x400050010
/-- TALLY.DMA_ADDR_LO. -/
def TALLY_DMA_ADDR_LO : Nat := 0x400050014
/-- TALLY.DMA_ADDR_HI. -/
def TALLY_DMA_ADDR_HI : Nat := 0x400050018
/-- TALLY.DMA_SIZE. -/
def TALLY_DMA_SIZE : Nat := 0x40005001C
/-- TALLY.DMA_HWP. -/
def TALLY_DMA_HWP : Nat := 0x400050020
/-- TALLY.DMA_HRP. -/
def TALLY_DMA_HRP : Nat := 0x400050024
/-- TALLY.DMA_IRQ. -/
def TALLY_DMA_IRQ : Nat := 0x400050028
/-- TALLY.STREAMs_CTL. -/
def TALLY_STREAM_CTL (b : Nat) : Nat := 0x400050100 + 0x10 * b
/-- TALLY.STREAMs_SEQ. -/
def TALLY_STREAM_SEQ (b : Nat) : Nat := 0x400050104 + 0x10 * b
/-- TALLY.STREAMs_DROP. -/
def TALLY_STREAM_DROP (b : Nat) : Nat := 0x400050108 + 0x10 * b
/-- TALLY.STREAMs_WRAPS. -/
def TALLY_STREAM_WRAPS (b : Nat) : Nat := 0x40005010C + 0x10 * b
/-- TALLY.WEIGHTb. -/
def TALLY_WEIGHT (b : Nat) : Nat := 0x400050300 + 0x4 * b
/-- EVT.FLAGS. -/
def EVT_FLAGS : Nat := 0x400040000
/-- EVT.LOOP_LINE. -/
def EVT_LOOP_LINE : Nat := 0x400040004
/-- EVT.RATE_HIT. -/
def EVT_RATE_HIT : Nat := 0x400040008
/-- EVT.IRQ. -/
def EVT_IRQ : Nat := 0x40004000C
/-- EVT.CNTk. -/
def EVT_CNT (b : Nat) : Nat := 0x400040010 + 0x4 * b
/-- EVT.LSELb_LO. -/
def EVT_LSEL_LO (b : Nat) : Nat := 0x400040040 + 0x8 * b
/-- EVT.LSELb_HI. -/
def EVT_LSEL_HI (b : Nat) : Nat := 0x400040044 + 0x8 * b
/-- EVT.LINEw. -/
def EVT_LINE (b : Nat) : Nat := 0x400040100 + 0x4 * b
/-- EVT.CONSc_EN. -/
def EVT_CONS_EN (b : Nat) : Nat := 0x400041000 + 0x10 * b
/-- EVT.CONSc_JLO. -/
def EVT_CONS_JLO (b : Nat) : Nat := 0x400041004 + 0x10 * b
/-- EVT.CONSc_JHI. -/
def EVT_CONS_JHI (b : Nat) : Nat := 0x400041008 + 0x10 * b
/-- EVT.CELLj_CFG. -/
def EVT_CELL_CFG (b : Nat) : Nat := 0x400042000 + 0x10 * b
/-- EVT.CELLj_IN. -/
def EVT_CELL_IN (b : Nat) : Nat := 0x400042004 + 0x10 * b
/-- EVT.CELLj_FILT. -/
def EVT_CELL_FILT (b : Nat) : Nat := 0x400042008 + 0x10 * b
/-- BIAS.STATUS. -/
def BIAS_STATUS : Nat := 0x400060000
/-- BIAS.LOAD. -/
def BIAS_LOAD : Nat := 0x400060004
/-- BIAS.GRP_CFG. -/
def BIAS_GRP_CFG : Nat := 0x400060008
/-- BIAS.PANEL. -/
def BIAS_PANEL : Nat := 0x400060010
/-- BIAS.LED. -/
def BIAS_LED : Nat := 0x400060014
/-- BIAS.CH0_CTL. -/
def BIAS_CH_CTL (b : Nat) : Nat := 0x400060100 + 0x40 * b
/-- BIAS.CH0_CFG. -/
def BIAS_CH_CFG (b : Nat) : Nat := 0x400060104 + 0x40 * b
/-- BIAS.CH0_SAFE. -/
def BIAS_CH_SAFE (b : Nat) : Nat := 0x400060108 + 0x40 * b
/-- BIAS.CH0_CODE. -/
def BIAS_CH_CODE (b : Nat) : Nat := 0x40006010C + 0x40 * b
/-- BIAS.CH0_TARGET. -/
def BIAS_CH_TARGET (b : Nat) : Nat := 0x400060110 + 0x40 * b
/-- BIAS.CH0_RANGE. -/
def BIAS_CH_RANGE (b : Nat) : Nat := 0x400060114 + 0x40 * b
/-- BIAS.CH0_SIN_FTW. -/
def BIAS_CH_SIN_FTW (b : Nat) : Nat := 0x400060118 + 0x40 * b
/-- BIAS.CH0_SIN_AMP. -/
def BIAS_CH_SIN_AMP (b : Nat) : Nat := 0x40006011C + 0x40 * b
/-- BIAS.CH0_MONV. -/
def BIAS_CH_MONV (b : Nat) : Nat := 0x400060120 + 0x40 * b
/-- BIAS.CH0_MONI. -/
def BIAS_CH_MONI (b : Nat) : Nat := 0x400060124 + 0x40 * b
/-- BIAS.CH0_SUP. -/
def BIAS_CH_SUP (b : Nat) : Nat := 0x400060128 + 0x40 * b
/-- BIAS.CH0_FLAGS. -/
def BIAS_CH_FLAGS (b : Nat) : Nat := 0x40006012C + 0x40 * b
/-- SENSE.CTL. -/
def SENSE_CTL : Nat := 0x400070000
/-- SENSE.STATUS. -/
def SENSE_STATUS : Nat := 0x400070004
/-- SENSE.SCANe_A. -/
def SENSE_SCAN_A (b : Nat) : Nat := 0x400070100 + 0x8 * b
/-- SENSE.SCANe_B. -/
def SENSE_SCAN_B (b : Nat) : Nat := 0x400070104 + 0x8 * b
/-- SENSE.CHc_RES. -/
def SENSE_CH_RES (b : Nat) : Nat := 0x400070400 + 0x20 * b
/-- SENSE.CHc_TEMP. -/
def SENSE_CH_TEMP (b : Nat) : Nat := 0x400070404 + 0x20 * b
/-- SENSE.CHc_LEAD. -/
def SENSE_CH_LEAD (b : Nat) : Nat := 0x400070408 + 0x20 * b
/-- SENSE.CHc_FLAGS. -/
def SENSE_CH_FLAGS (b : Nat) : Nat := 0x40007040C + 0x20 * b
/-- SENSE.CHc_CM. -/
def SENSE_CH_CM (b : Nat) : Nat := 0x400070410 + 0x20 * b
/-- SENSE.LOOPk_CFG. -/
def SENSE_LOOP_CFG (b : Nat) : Nat := 0x400070800 + 0x20 * b
/-- SENSE.LOOPk_LO. -/
def SENSE_LOOP_LO (b : Nat) : Nat := 0x400070804 + 0x20 * b
/-- SENSE.LOOPk_HI. -/
def SENSE_LOOP_HI (b : Nat) : Nat := 0x400070808 + 0x20 * b
/-- SENSE.LOOPk_STAT. -/
def SENSE_LOOP_STAT (b : Nat) : Nat := 0x40007080C + 0x20 * b
/-- SENSE.LSETs_Cw. -/
def SENSE_LSET_C (b i : Nat) : Nat := 0x400071000 + 0x80 * b + 0x4 * i
/-- THERM.STATUS. -/
def THERM_STATUS : Nat := 0x400080000
/-- THERM.FLAGS. -/
def THERM_FLAGS : Nat := 0x400080004
/-- THERM.LIMIT. -/
def THERM_LIMIT : Nat := 0x400080008
/-- THERM.RISE. -/
def THERM_RISE : Nat := 0x40008000C
/-- THERM.SENSEs. -/
def THERM_SENSE (b : Nat) : Nat := 0x400080100 + 0x4 * b
/-- THERM.DIODEk. -/
def THERM_DIODE (b : Nat) : Nat := 0x400080180 + 0x4 * b
/-- AGE.STATUS. -/
def AGE_STATUS : Nat := 0x400090000
/-- AGE.PLAN. -/
def AGE_PLAN : Nat := 0x400090004
/-- AGE.PLAN_PEND. -/
def AGE_PLAN_PEND : Nat := 0x400090008
/-- AGE.DOMd. -/
def AGE_DOM (b : Nat) : Nat := 0x400090010 + 0x4 * b
/-- AGE.CFG. -/
def AGE_CFG : Nat := 0x400090020
/-- AGE.LIFE. -/
def AGE_LIFE : Nat := 0x400090024
/-- AGE.LEDGER. -/
def AGE_LEDGER : Nat := 0x400090028
/-- AGE.LEDGER_SEQ. -/
def AGE_LEDGER_SEQ : Nat := 0x40009002C
/-- TOP.ACCESS. -/
def TOP_ACCESS : Nat := 0x4000000C0
/-- TOP.ACCESS_LOG_LO. -/
def TOP_ACCESS_LOG_LO : Nat := 0x4000000C4
/-- TOP.ACCESS_LOG_HI. -/
def TOP_ACCESS_LOG_HI : Nat := 0x4000000C8
/-- TOP.CORE_CTL. -/
def TOP_CORE_CTL : Nat := 0x4000000D0
/-- TOP.CORE_STATUS. -/
def TOP_CORE_STATUS : Nat := 0x4000000D4
/-- TOP.IRQ_PEND. -/
def TOP_IRQ_PEND : Nat := 0x4000000E0
/-- TOP.IRQ_ROUTE_HOST. -/
def TOP_IRQ_ROUTE_HOST : Nat := 0x4000000E4
/-- TOP.IRQ_ROUTE_CORE. -/
def TOP_IRQ_ROUTE_CORE : Nat := 0x4000000E8
/-- PORTER.CMD. -/
def PORTER_CMD : Nat := 0x4000A0000
/-- PORTER.STATUS. -/
def PORTER_STATUS : Nat := 0x4000A0004
/-- PORTER.LC. -/
def PORTER_LC : Nat := 0x4000A0008
/-- PORTER.SERIAL_LO. -/
def PORTER_SERIAL_LO : Nat := 0x4000A000C
/-- PORTER.SERIAL_HI. -/
def PORTER_SERIAL_HI : Nat := 0x4000A0010
/-- PORTER.MBOXw. -/
def PORTER_MBOX (b : Nat) : Nat := 0x4000A0400 + 0x4 * b
/-- LINK.TREE. -/
def LINK_TREE : Nat := 0x4000B0000
/-- LINK.CARTERp. -/
def LINK_CARTER (b : Nat) : Nat := 0x4000B0010 + 0x4 * b
/-- LINK.REACH_LO. -/
def LINK_REACH_LO : Nat := 0x4000B0030
/-- LINK.REACH_HI. -/
def LINK_REACH_HI : Nat := 0x4000B0034
/-- TOP.SUPPLY. -/
def TOP_SUPPLY : Nat := 0x400000100
/-- TOP.PMB_CFG. -/
def TOP_PMB_CFG : Nat := 0x400000104
end R

namespace Fd
def BENCH_CTL_EN : Bits := ⟨0, 1⟩
def BENCH_STATUS_ACTIVE : Bits := ⟨0, 1⟩
def BENCH_STATUS_STOPPING : Bits := ⟨1, 1⟩
def BENCH_STATUS_QUIET : Bits := ⟨2, 1⟩
def BENCH_STATUS_EN_PEND : Bits := ⟨3, 1⟩
def BENCH_STATUS_LANES_F : Bits := ⟨8, 8⟩
def BENCH_EVENTS_LATE_PLAY : Bits := ⟨0, 1⟩
def BENCH_EVENTS_COLD_BRANCH : Bits := ⟨1, 1⟩
def BENCH_EVENTS_UNDERRUN : Bits := ⟨2, 1⟩
def BENCH_EVENTS_VOID : Bits := ⟨3, 1⟩
def BENCH_EVENTS_POISON : Bits := ⟨4, 1⟩
def BENCH_EVENTS_TIMED_OVERRUN : Bits := ⟨5, 1⟩
def TOP_MODE_MODE : Bits := ⟨0, 4⟩
def TOP_MODE_TARGET : Bits := ⟨4, 4⟩
def TOP_MODE_TRANSIT : Bits := ⟨8, 1⟩
def TOP_MODE_PATTERNED : Bits := ⟨9, 1⟩
def TOP_MODE_COHERENT : Bits := ⟨10, 1⟩
def TOP_MODE_SANITISE_OPEN : Bits := ⟨11, 1⟩
def TOP_MODE_BOOT_FAIL : Bits := ⟨12, 1⟩
def TOP_MODE_WIPED : Bits := ⟨16, 8⟩
def TOP_MODE_REQ_REQ : Bits := ⟨0, 4⟩
def TOP_MODE_REQ_FORCE : Bits := ⟨4, 1⟩
def TOP_MODE_REQ_CONV : Bits := ⟨5, 1⟩
def TOP_MODE_REQ_SKEW : Bits := ⟨6, 1⟩
def TOP_MODE_REQ_SURVEY : Bits := ⟨7, 1⟩
def TOP_MODE_REQ_FULL : Bits := ⟨8, 1⟩
def TOP_MODE_ERR_CODE : Bits := ⟨0, 4⟩
def TOP_MODE_ERR_REQ : Bits := ⟨4, 4⟩
def TOP_MODE_ERR_NEW : Bits := ⟨8, 1⟩
def TOP_RESET_BENCH : Bits := ⟨0, 8⟩
def TOP_RESET_WARM : Bits := ⟨8, 1⟩
def TOP_RESET_KEY : Bits := ⟨16, 16⟩
def TOP_RESET_CAUSE_POWER_ON : Bits := ⟨0, 1⟩
def TOP_RESET_CAUSE_PIN : Bits := ⟨1, 1⟩
def TOP_RESET_CAUSE_WARM : Bits := ⟨2, 1⟩
def TOP_RESET_CAUSE_SUPPLY : Bits := ⟨3, 1⟩
def TOP_RESET_CAUSE_PORTER : Bits := ⟨4, 1⟩
def TOP_RESET_CAUSE_MIGRATION : Bits := ⟨5, 1⟩
def TOP_RESET_CAUSE_BENCH : Bits := ⟨8, 8⟩
def TOP_RESET_CAUSE_PREV_MODE : Bits := ⟨16, 4⟩
def TOP_AON_CTL_AUTOBOOT : Bits := ⟨0, 1⟩
def TOP_AON_CTL_WAKE_TIMER_EN : Bits := ⟨1, 1⟩
def TOP_AON_CTL_WAKE_TRIG_EN : Bits := ⟨2, 1⟩
def TOP_AON_CTL_WAKE_TRIG : Bits := ⟨3, 3⟩
def TOP_WAKE_TIME_LO_WAKE_TIME : Bits := ⟨0, 32⟩
def TOP_WAKE_TIME_HI_WAKE_TIME : Bits := ⟨0, 32⟩
def TOP_PAT_CTL_START : Bits := ⟨0, 1⟩
def TOP_PAT_CTL_OVERLAY : Bits := ⟨1, 1⟩
def TOP_PAT_CTL_ABORT : Bits := ⟨2, 1⟩
def TOP_PAT_SRC_LO_SRC : Bits := ⟨0, 32⟩
def TOP_PAT_SRC_HI_SRC : Bits := ⟨0, 2⟩
def TOP_PAT_LEN_LEN : Bits := ⟨0, 32⟩
def TOP_PAT_STATUS_PHASE : Bits := ⟨0, 2⟩
def TOP_PAT_STATUS_DONE : Bits := ⟨2, 1⟩
def TOP_PAT_STATUS_FAIL : Bits := ⟨3, 1⟩
def TOP_PAT_STATUS_WAS_OVERLAY : Bits := ⟨4, 1⟩
def TOP_PAT_STATUS_ERR : Bits := ⟨8, 5⟩
def TOP_PAT_STATUS_ERR_SECTION : Bits := ⟨16, 8⟩
def TOP_PAT_ID_LO_ID : Bits := ⟨0, 32⟩
def TOP_PAT_ID_HI_ID : Bits := ⟨0, 32⟩
def TOP_PAT_OVL_ID_LO_ID : Bits := ⟨0, 32⟩
def TOP_PAT_OVL_ID_HI_ID : Bits := ⟨0, 32⟩
def TOP_PAT_OVL_COUNT_COUNT : Bits := ⟨0, 16⟩
def TIME_NOW_LO_NOW : Bits := ⟨0, 32⟩
def TIME_NOW_HI_NOW : Bits := ⟨0, 32⟩
def TIME_EPOCH_CTL_ARM : Bits := ⟨0, 1⟩
def TIME_EPOCH_CTL_PERIODIC : Bits := ⟨1, 1⟩
def TIME_EPOCH_PERIOD_N : Bits := ⟨0, 24⟩
def TIME_EPOCH_LOAD_LO_LOAD : Bits := ⟨0, 32⟩
def TIME_EPOCH_LOAD_HI_LOAD : Bits := ⟨0, 32⟩
def TIME_EPOCH_LAST_LO_LAST : Bits := ⟨0, 32⟩
def TIME_EPOCH_LAST_HI_LAST : Bits := ⟨0, 32⟩
def TIME_EPOCH_TDC_ARRIVAL : Bits := ⟨0, 14⟩
def TIME_EPOCH_SLIP_AMT_AMT : Bits := ⟨0, 32⟩
def TIME_EPOCH_TRIM_TRIM : Bits := ⟨0, 10⟩
def TIME_EPOCH_TRIM_TRIM_PEND : Bits := ⟨16, 1⟩
def TIME_ECHO_CTL_PORT : Bits := ⟨0, 4⟩
def TIME_ECHO_CTL_COUNT : Bits := ⟨4, 4⟩
def TIME_ECHO_CTL_START : Bits := ⟨8, 1⟩
def TIME_ECHO_CTL_BUSY : Bits := ⟨9, 1⟩
def TIME_ECHO_CTL_RESULT : Bits := ⟨10, 2⟩
def TIME_ECHO_CTL_DONE : Bits := ⟨12, 1⟩
def TIME_ECHO_RTT_VALUE : Bits := ⟨0, 32⟩
def TIME_ECHO_OFS_VALUE : Bits := ⟨0, 32⟩
def TIME_FDLY_DLY : Bits := ⟨0, 14⟩
def TIME_FDLY_CAL : Bits := ⟨16, 14⟩
def TIME_FDLY_DLY_PEND : Bits := ⟨30, 1⟩
def TIME_FDLY_DLY_CLIP : Bits := ⟨31, 1⟩
def TIME_TRIG_CTL_OUT : Bits := ⟨0, 1⟩
def TIME_TRIG_CTL_EDGE : Bits := ⟨1, 2⟩
def TIME_TRIG_CTL_SRC : Bits := ⟨3, 1⟩
def TIME_TRIG_CTL_DLY : Bits := ⟨4, 12⟩
def TIME_TRIG_STAT_FRAC : Bits := ⟨0, 4⟩
def TIME_TRIG_STAT_NEW : Bits := ⟨4, 1⟩
def TIME_TRIG_STAT_OVER : Bits := ⟨5, 1⟩
def TIME_TRIG_STAT_COARSE : Bits := ⟨6, 1⟩
def TIME_TRIG_STAT_CONTEND : Bits := ⟨7, 1⟩
def TIME_TRIG_TS_LO_TS : Bits := ⟨0, 32⟩
def TIME_TRIG_TS_HI_TS : Bits := ⟨0, 32⟩
def TIME_STATUS_REF_LOSS : Bits := ⟨0, 1⟩
def TIME_STATUS_LOSS_CAUSE : Bits := ⟨1, 2⟩
def TIME_STATUS_FREE : Bits := ⟨3, 1⟩
def TIME_STATUS_EPOCH_SEEN : Bits := ⟨4, 1⟩
def TIME_STATUS_EPOCH_SLIP : Bits := ⟨5, 1⟩
def TIME_STATUS_EPOCH_MISS : Bits := ⟨6, 1⟩
def TIME_STATUS_MARGINAL : Bits := ⟨7, 1⟩
def TIME_STATUS_LOAD_BAD : Bits := ⟨8, 1⟩
def TIME_STATUS_MISS_COUNT : Bits := ⟨16, 16⟩
def LOOM_STREAM_CFG_LEAD : Bits := ⟨0, 8⟩
def LOOM_STREAM_CFG_PANIC : Bits := ⟨8, 6⟩
def LOOM_PORT_STATUS_PANIC : Bits := ⟨0, 1⟩
def LOOM_PORT_STATUS_WINDOWS : Bits := ⟨8, 8⟩
def LOOM_PORT_STATUS_PANIC_COUNT : Bits := ⟨16, 16⟩
def LOOM_CACHE_MAP_RES : Bits := ⟨0, 11⟩
def LOOM_CACHE_MAP_WIN : Bits := ⟨11, 11⟩
def LOOM_CACHE_USE_ACTIVE : Bits := ⟨0, 11⟩
def LOOM_CNT_COUNT : Bits := ⟨0, 32⟩
def LOOM_VSTREAM_UNDERRUN : Bits := ⟨0, 16⟩
def LOOM_VSTREAM_FILL : Bits := ⟨16, 8⟩
def LOOM_VSTREAM_PANIC : Bits := ⟨24, 1⟩
def LOOM_VSTREAM_STREAMING : Bits := ⟨25, 1⟩
def LOOM_SEG_CFG_THRESH : Bits := ⟨0, 9⟩
def LOOM_SEG_STATUS_DESC_TORN : Bits := ⟨0, 1⟩
def LOOM_SEG_BUSY_COUNT : Bits := ⟨0, 32⟩
def LOOM_SEG_BUSY_LOG_LO_ADDR : Bits := ⟨0, 32⟩
def LOOM_SEG_BUSY_LOG_HI_ADDR_HI : Bits := ⟨0, 2⟩
def LOOM_SEG_BUSY_LOG_HI_DIR : Bits := ⟨2, 1⟩
def LOOM_SEG_BUSY_LOG_HI_SRC : Bits := ⟨4, 2⟩
def LOOM_RETIRE_ID : Bits := ⟨0, 20⟩
def LOOM_RETIRE_STATUS_QUEUED : Bits := ⟨0, 5⟩
def LOOM_RETIRE_STATUS_FULL : Bits := ⟨5, 1⟩
def LOOM_RETIRE_STATUS_REFUSED : Bits := ⟨6, 1⟩
def LOOM_RETIRE_STATUS_DONE : Bits := ⟨7, 1⟩
def LOOM_RETIRE_STATUS_CAUSE : Bits := ⟨8, 2⟩
def LOOM_RETIRE_STATUS_LAST_ID : Bits := ⟨12, 20⟩
def LOOM_SEG_QUERY_ID : Bits := ⟨0, 20⟩
def LOOM_SEG_QUERY_VALID : Bits := ⟨20, 1⟩
def LOOM_SEG_QUERY_ACTIVE : Bits := ⟨21, 1⟩
def LOOM_SEG_QUERY_RETIRING : Bits := ⟨22, 1⟩
def LOOM_SEG_QUERY_LOST : Bits := ⟨23, 1⟩
def LOOM_SEG_QUERY_RESIDENT : Bits := ⟨24, 1⟩
def LOOM_SEG_QUERY_REFS : Bits := ⟨25, 7⟩
def LOOM_ALIAS_SEG : Bits := ⟨0, 20⟩
def LOOM_ALIAS_VALID : Bits := ⟨31, 1⟩
def LOOM_LANE_CTL_EN : Bits := ⟨0, 1⟩
def LOOM_LANE_PART_BASE : Bits := ⟨0, 15⟩
def LOOM_LANE_PART_SIZE : Bits := ⟨16, 15⟩
def LOOM_LANE_STATUS_STATE : Bits := ⟨0, 3⟩
def LOOM_LANE_STATUS_PEND : Bits := ⟨3, 4⟩
def LOOM_LANE_STATUS_PC : Bits := ⟨8, 15⟩
def LOOM_LANE_CURSOR_LO_CURSOR : Bits := ⟨0, 32⟩
def LOOM_LANE_CURSOR_HI_CURSOR : Bits := ⟨0, 32⟩
def LOOM_LANE_FLAGS_LATE_PLAY : Bits := ⟨0, 1⟩
def LOOM_LANE_FLAGS_COLD_BRANCH : Bits := ⟨1, 1⟩
def LOOM_LANE_FLAGS_VOID : Bits := ⟨2, 1⟩
def LOOM_LANE_FLAGS_LATE_JUMP : Bits := ⟨3, 1⟩
def LOOM_LANE_FLAGS_OVERLAP : Bits := ⟨4, 1⟩
def LOOM_LANE_FLAGS_START_LOST : Bits := ⟨5, 1⟩
def LOOM_LANE_FLAGS_SYNC_BEHIND : Bits := ⟨6, 1⟩
def LOOM_LANE_FLAGS_POISONED : Bits := ⟨7, 1⟩
def LOOM_LANE_CNT_A_LATE_PLAY : Bits := ⟨0, 16⟩
def LOOM_LANE_CNT_A_COLD_BRANCH : Bits := ⟨16, 16⟩
def LOOM_LANE_CNT_B_VOID : Bits := ⟨0, 16⟩
def LOOM_LANE_CNT_B_LATE_JUMP : Bits := ⟨16, 16⟩
def LOOM_LANE_SLOTS_RES : Bits := ⟨0, 4⟩
def LOOM_LANE_SLOTS_HELD : Bits := ⟨8, 4⟩
def LOOM_LANE_SLOTS_POOL : Bits := ⟨16, 8⟩
def LOOM_LANE_DR_DR : Bits := ⟨0, 12⟩
def LOOM_LANE_BIND_DTONE : Bits := ⟨0, 5⟩
def LOOM_LANE_BIND_DEN : Bits := ⟨5, 1⟩
def LOOM_LANE_BIND_PTONE : Bits := ⟨8, 5⟩
def LOOM_LANE_BIND_PEN : Bits := ⟨13, 1⟩
def LOOM_LANE_BIND_FLX : Bits := ⟨16, 4⟩
def LOOM_LANE_BIND_FEN : Bits := ⟨20, 1⟩
def LOOM_LANE_V_VALUE : Bits := ⟨0, 32⟩
def LOOM_SLOT_POOL_SIZE : Bits := ⟨0, 8⟩
def LOOM_SLOT_POOL_FREE : Bits := ⟨8, 8⟩
def LOOM_SLOT_POOL_DENIED : Bits := ⟨16, 16⟩
def OUT_STATUS_SAFE_PARK : Bits := ⟨0, 1⟩
def OUT_CONV_CFG_MODE : Bits := ⟨0, 1⟩
def OUT_CONV_CFG_ISINC : Bits := ⟨1, 1⟩
def OUT_CONV_FSR_REQ : Bits := ⟨0, 4⟩
def OUT_CONV_FSR_CUR : Bits := ⟨4, 4⟩
def OUT_CONV_FSR_RANGE_PEND : Bits := ⟨8, 1⟩
def OUT_CONV_GAIN_GAIN : Bits := ⟨0, 16⟩
def OUT_CONV_FLAGS_SAT : Bits := ⟨0, 1⟩
def OUT_CONV_FLAGS_OUT_OF_BAND : Bits := ⟨1, 1⟩
def OUT_CONV_FLAGS_XF_MUTED : Bits := ⟨2, 1⟩
def OUT_CONV_FLAGS_SATCNT : Bits := ⟨16, 16⟩
def OUT_TONE_FW_LO_FW : Bits := ⟨0, 32⟩
def OUT_TONE_FW_HI_FW : Bits := ⟨0, 16⟩
def OUT_TONE_CFG_FRESET : Bits := ⟨0, 1⟩
def OUT_TONE_CFG_BOUND : Bits := ⟨1, 1⟩
def OUT_TONE_FRAME_P_VALUE : Bits := ⟨0, 32⟩
def OUT_TONE_FRAME_F_VALUE : Bits := ⟨0, 32⟩
def OUT_TONE_FRAME_INIT_P_VALUE : Bits := ⟨0, 32⟩
def OUT_TONE_FRAME_INIT_F_VALUE : Bits := ⟨0, 32⟩
def OUT_XF_SRC_TONE : Bits := ⟨0, 6⟩
def OUT_XF_SRC_EN : Bits := ⟨6, 1⟩
def OUT_XF_SLOTS_SLOTS : Bits := ⟨0, 32⟩
def OUT_XF_COEF_I : Bits := ⟨0, 16⟩
def OUT_XF_COEF_Q : Bits := ⟨16, 16⟩
def OUT_FLX_STATUS_SAT : Bits := ⟨0, 1⟩
def OUT_FLX_STATUS_TAU_CLIP : Bits := ⟨1, 1⟩
def OUT_FLX_STATUS_BOUND : Bits := ⟨2, 1⟩
def OUT_FLX_STATUS_SATCNT : Bits := ⟨16, 16⟩
def OUT_FLX_SEC_AMP_AMP : Bits := ⟨0, 18⟩
def OUT_FLX_SEC_TAU_TAU : Bits := ⟨0, 21⟩
def OUT_FLX_FIR_H : Bits := ⟨0, 18⟩
def READ_ACQ_CFG_ATTN_REQ : Bits := ⟨0, 2⟩
def READ_ACQ_CFG_ATTN_CUR : Bits := ⟨4, 2⟩
def READ_ACQ_CFG_ATTN_PEND : Bits := ⟨8, 1⟩
def READ_ACQ_FLAGS_CLIP : Bits := ⟨0, 1⟩
def READ_ACQ_FLAGS_ATTN_HIT : Bits := ⟨1, 1⟩
def READ_ACQ_FLAGS_CLIPCNT : Bits := ⟨16, 16⟩
def READ_CH_BIND_ADC : Bits := ⟨0, 1⟩
def READ_CH_BIND_TONE : Bits := ⟨1, 6⟩
def READ_CH_BIND_BOUND : Bits := ⟨7, 1⟩
def READ_CH_BIND_LANE : Bits := ⟨8, 5⟩
def READ_CH_WIN_DELAY : Bits := ⟨0, 14⟩
def READ_CH_WIN_N : Bits := ⟨16, 13⟩
def READ_CH_KCFG_K : Bits := ⟨0, 2⟩
def READ_CH_KCFG_PARTIAL : Bits := ⟨2, 1⟩
def READ_CH_KCFG_IQ : Bits := ⟨3, 1⟩
def READ_CH_KCFG_SHIFT : Bits := ⟨4, 4⟩
def READ_CH_DPH_DPH : Bits := ⟨0, 32⟩
def READ_CH_TRACE_MODE : Bits := ⟨0, 3⟩
def READ_CH_TRACE_INTV : Bits := ⟨11, 21⟩
def READ_CH_FLAGS_WIN_OVERLAP : Bits := ⟨0, 1⟩
def READ_CH_FLAGS_SUM_SAT : Bits := ⟨1, 1⟩
def READ_CH_FLAGS_FIFO_DROP : Bits := ⟨2, 1⟩
def READ_CH_FLAGS_KW_BUSY : Bits := ⟨3, 1⟩
def READ_CH_FLAGS_OPEN : Bits := ⟨8, 1⟩
def READ_CH_FLAGS_WINCNT : Bits := ⟨16, 16⟩
def ASSAY_CTL_EN : Bits := ⟨0, 1⟩
def ASSAY_CTL_TRAP : Bits := ⟨1, 1⟩
def ASSAY_CFG_TVEC : Bits := ⟨0, 12⟩
def ASSAY_CFG_LEAKMIN : Bits := ⟨12, 3⟩
def ASSAY_CFG_TALLY_DEC : Bits := ⟨15, 1⟩
def ASSAY_STATUS_STATE : Bits := ⟨0, 3⟩
def ASSAY_STATUS_FIFO : Bits := ⟨4, 7⟩
def ASSAY_STATUS_DEPTH : Bits := ⟨11, 2⟩
def ASSAY_STATUS_FULL : Bits := ⟨13, 1⟩
def ASSAY_STATUS_PC : Bits := ⟨16, 12⟩
def ASSAY_FLAGS_VOID : Bits := ⟨0, 1⟩
def ASSAY_FLAGS_FIFO_LOST : Bits := ⟨1, 1⟩
def ASSAY_FLAGS_SKIP : Bits := ⟨2, 1⟩
def ASSAY_FLAGS_DUP_DECIDE : Bits := ⟨3, 1⟩
def ASSAY_FLAGS_TRAP_OVF : Bits := ⟨4, 1⟩
def ASSAY_FLAGS_FAULT : Bits := ⟨5, 1⟩
def ASSAY_FLAGS_SAT : Bits := ⟨6, 1⟩
def ASSAY_FAULT_CAUSE : Bits := ⟨0, 2⟩
def ASSAY_FAULT_PC : Bits := ⟨16, 12⟩
def ASSAY_DEFAULT_STATES : Bits := ⟨0, 24⟩
def ASSAY_CHAN_OWED : Bits := ⟨0, 8⟩
def ASSAY_CHAN_LOST : Bits := ⟨8, 8⟩
def ASSAY_TO_TO : Bits := ⟨0, 24⟩
def ASSAY_CNT_DEC_COUNT : Bits := ⟨0, 32⟩
def ASSAY_CNT_AUTO_COUNT : Bits := ⟨0, 32⟩
def ASSAY_CNT_TO_COUNT : Bits := ⟨0, 32⟩
def ASSAY_REPMAX_CYCLES : Bits := ⟨0, 17⟩
def ASSAY_REG_LO_VALUE : Bits := ⟨0, 32⟩
def ASSAY_REG_HI_VALUE : Bits := ⟨0, 32⟩
def DEC_CFG_UNIFIED : Bits := ⟨0, 1⟩
def DEC_CFG_DEVID : Bits := ⟨8, 6⟩
def DEC_FLAGS_OWN_ERR : Bits := ⟨0, 1⟩
def DEC_FLAGS_LINK_DOWN : Bits := ⟨1, 1⟩
def DEC_FLAGS_OLT_REARM : Bits := ⟨2, 1⟩
def DEC_OLT_LOOKUPS_COUNT : Bits := ⟨0, 32⟩
def DEC_OLT_WAITMAX_TICKS : Bits := ⟨0, 16⟩
def DEC_GATHER_SEL_A : Bits := ⟨0, 13⟩
def DEC_GATHER_SEL_B : Bits := ⟨16, 13⟩
def DEC_MIRROR_BITS : Bits := ⟨0, 32⟩
def DEC_CRIER_CFG_PEER : Bits := ⟨0, 6⟩
def DEC_CRIER_CFG_USED : Bits := ⟨6, 1⟩
def DEC_CRIER_SLOTS_LO_MASKS : Bits := ⟨0, 32⟩
def DEC_CRIER_SLOTS_HI_MASKS : Bits := ⟨0, 24⟩
def DEC_CRIER_STATUS_UP : Bits := ⟨0, 1⟩
def DEC_CRIER_STATUS_LINK_DOWN : Bits := ⟨1, 1⟩
def DEC_CRIER_STATUS_CABLE : Bits := ⟨2, 1⟩
def DEC_CRIER_STATUS_SEQ_ERR : Bits := ⟨3, 1⟩
def DEC_CRIER_STATUS_OWN_ERR : Bits := ⟨4, 1⟩
def DEC_CRIER_STATUS_Q_DROP : Bits := ⟨5, 1⟩
def DEC_CRIER_STATUS_RX_SRC : Bits := ⟨8, 6⟩
def DEC_CRIER_CNT_A_CRC_ERR : Bits := ⟨0, 16⟩
def DEC_CRIER_CNT_A_COPY_USED : Bits := ⟨16, 16⟩
def DEC_CRIER_CNT_B_LOST_PAIR : Bits := ⟨0, 16⟩
def DEC_CRIER_CNT_B_REPAIR : Bits := ⟨16, 16⟩
def DEC_PUB_GDS : Bits := ⟨0, 12⟩
def DEC_PUB_CH : Bits := ⟨12, 5⟩
def DEC_PUB_BIT : Bits := ⟨17, 4⟩
def DEC_PUB_EN : Bits := ⟨21, 1⟩
def DEC_GDSMAP_OWNER : Bits := ⟨0, 6⟩
def DEC_GDSMAP_USED : Bits := ⟨6, 1⟩
def DEC_GDSMAP_KIND : Bits := ⟨7, 2⟩
def DEC_GDSMAP_BENCH : Bits := ⟨9, 3⟩
def DEC_GDSMAP_INIT : Bits := ⟨12, 1⟩
def DEC_TAG_CH_CHMASK : Bits := ⟨0, 32⟩
def DEC_TAG_CFG_TGDS : Bits := ⟨0, 12⟩
def DEC_TAG_CFG_TGDS_EN : Bits := ⟨12, 1⟩
def DEC_TAG_CFG_ALANE : Bits := ⟨13, 5⟩
def DEC_TAG_CFG_ALANE_EN : Bits := ⟨18, 1⟩
def DEC_TAG_CFG_PUBIDX : Bits := ⟨19, 12⟩
def DEC_TAG_STAT_ACT : Bits := ⟨0, 16⟩
def DEC_TAG_STAT_ARMED : Bits := ⟨16, 1⟩
def DEC_TAG_STAT_READY : Bits := ⟨17, 1⟩
def DEC_TAG_STAT_DONE : Bits := ⟨18, 1⟩
def DEC_TAG_IDX_INDEX : Bits := ⟨0, 21⟩
def FM_CTL_DOORBELL : Bits := ⟨0, 4⟩
def FM_STATUS_STATE : Bits := ⟨0, 4⟩
def FM_STATUS_DEPTH : Bits := ⟨4, 4⟩
def FM_STATUS_TLEVEL : Bits := ⟨8, 2⟩
def FM_STATUS_TIMED : Bits := ⟨10, 1⟩
def FM_STATUS_HOLD_PEND : Bits := ⟨11, 1⟩
def FM_STATUS_QUEUE : Bits := ⟨12, 4⟩
def FM_STATUS_PC : Bits := ⟨16, 15⟩
def FM_STATUS_QFULL : Bits := ⟨31, 1⟩
def FM_FLAGS_VOID : Bits := ⟨0, 1⟩
def FM_FLAGS_STROBE_LATE : Bits := ⟨1, 1⟩
def FM_FLAGS_TIMED_OVERRUN : Bits := ⟨2, 1⟩
def FM_FLAGS_ILLEGAL : Bits := ⟨3, 1⟩
def FM_FLAGS_UECC : Bits := ⟨4, 1⟩
def FM_FAULT_CAUSE : Bits := ⟨0, 3⟩
def FM_FAULT_FATAL : Bits := ⟨3, 1⟩
def FM_FAULT_PC : Bits := ⟨16, 15⟩
def FM_BASE_LO_BASE : Bits := ⟨0, 32⟩
def FM_BASE_HI_BASE : Bits := ⟨0, 32⟩
def FM_START_KIND : Bits := ⟨0, 3⟩
def FM_START_SEL : Bits := ⟨4, 12⟩
def FM_START_VAL_LO_VAL : Bits := ⟨0, 32⟩
def FM_START_VAL_HI_VAL : Bits := ⟨0, 32⟩
def FM_ENTRY_ENTRY : Bits := ⟨0, 15⟩
def FM_ENTRY_RESUME : Bits := ⟨16, 15⟩
def FM_STORE_MODE : Bits := ⟨0, 1⟩
def FM_TRAP_PEND : Bits := ⟨0, 16⟩
def FM_TRAP_IRQ_CODE : Bits := ⟨16, 8⟩
def FM_TO_TICKS : Bits := ⟨0, 32⟩
def FM_U_VALUE : Bits := ⟨0, 32⟩
def FM_C_VALUE : Bits := ⟨0, 24⟩
def FM_CRLD_VALUE : Bits := ⟨0, 24⟩
def FM_MBOX_VALUE : Bits := ⟨0, 32⟩
def FM_CNT_CE_COUNT : Bits := ⟨0, 32⟩
def FM_SHOTS_LO_COUNT : Bits := ⟨0, 32⟩
def FM_SHOTS_HI_COUNT : Bits := ⟨0, 16⟩
def FM_EVIN_LATCH : Bits := ⟨0, 8⟩
def FM_EVIN_IRQEN : Bits := ⟨8, 8⟩
def FM_ELOG_HEAD_HEAD : Bits := ⟨0, 4⟩
def FM_TVEC_ADDR : Bits := ⟨0, 15⟩
def FM_TVEC_EN : Bits := ⟨15, 1⟩
def FM_MATCH_ROM : Bits := ⟨0, 14⟩
def FM_MATCH_PATCH : Bits := ⟨16, 9⟩
def FM_MATCH_EN : Bits := ⟨31, 1⟩
def FM_ELOG_A_ADDR : Bits := ⟨0, 15⟩
def FM_ELOG_A_LOP : Bits := ⟨15, 4⟩
def FM_ELOG_A_DOP : Bits := ⟨19, 5⟩
def FM_ELOG_A_DISC : Bits := ⟨24, 1⟩
def FM_ELOG_A_LATE : Bits := ⟨25, 1⟩
def FM_ELOG_A_TRAP : Bits := ⟨26, 1⟩
def FM_ELOG_X_DSEL : Bits := ⟨0, 12⟩
def FM_ELOG_X_EVO : Bits := ⟨12, 8⟩
def FM_ELOG_MASK_VALUE : Bits := ⟨0, 32⟩
def FM_ELOG_ISSUE_VALUE : Bits := ⟨0, 32⟩
def FM_ELOG_SCHED_VALUE : Bits := ⟨0, 32⟩
def TOP_BUDGET_STATUS_SHORT : Bits := ⟨0, 1⟩
def TOP_BUDGET_STATUS_FITS : Bits := ⟨1, 1⟩
def TOP_BUDGET_STATUS_POINT : Bits := ⟨2, 2⟩
def TOP_BUDGET_STATUS_ITEM : Bits := ⟨4, 3⟩
def TOP_BUDGET_STATUS_WHERE : Bits := ⟨8, 4⟩
def TOP_BUDGET_CAP_CAP_RT : Bits := ⟨0, 19⟩
def TOP_BUDGET_CAP_RATE : Bits := ⟨19, 5⟩
def TOP_BUDGET_CAP_ACTIVE : Bits := ⟨24, 5⟩
def TOP_BUDGET_DEMAND_RT_SUM : Bits := ⟨0, 21⟩
def TOP_BUDGET_TALLY_TALLY_SUM : Bits := ⟨0, 16⟩
def TOP_BREACH_TIER2 : Bits := ⟨2, 1⟩
def TOP_BREACH_TIER3 : Bits := ⟨3, 1⟩
def TOP_BREACH_TIER4 : Bits := ⟨4, 1⟩
def TOP_BREACH_TIER5 : Bits := ⟨5, 1⟩
def TOP_BREACH_TIER6 : Bits := ⟨6, 1⟩
def TOP_BREACH_TIER7 : Bits := ⟨7, 1⟩
def MEM_STATUS_SELFREF : Bits := ⟨0, 1⟩
def MEM_STATUS_TRAINING : Bits := ⟨1, 1⟩
def MEM_STATUS_MIGRATING : Bits := ⟨2, 1⟩
def MEM_STATUS_RETIRE_DUE : Bits := ⟨3, 1⟩
def MEM_STATUS_RETRAIN_DUE : Bits := ⟨4, 1⟩
def MEM_STATUS_HOT : Bits := ⟨5, 1⟩
def MEM_STATUS_GUARD : Bits := ⟨6, 1⟩
def MEM_STATUS_DEGRADED : Bits := ⟨7, 1⟩
def MEM_STATUS_CACHE_ONLY : Bits := ⟨8, 1⟩
def MEM_STATUS_MIG_DEV : Bits := ⟨9, 4⟩
def MEM_FLAGS_UE : Bits := ⟨0, 1⟩
def MEM_FLAGS_THROTTLE : Bits := ⟨1, 1⟩
def MEM_FLAGS_RT_THROTTLE : Bits := ⟨2, 1⟩
def MEM_FLAGS_RETIRE_NO_SPARE : Bits := ⟨3, 1⟩
def MEM_FLAGS_TRAIN_FAIL : Bits := ⟨4, 1⟩
def MEM_FLAGS_RATE_STEP : Bits := ⟨5, 1⟩
def MEM_FLAGS_DEAD : Bits := ⟨6, 1⟩
def MEM_FLAGS_CA_LOST : Bits := ⟨7, 1⟩
def MEM_FLAGS_TEMP_BAD : Bits := ⟨8, 1⟩
def MEM_MAP_SLOTS : Bits := ⟨0, 32⟩
def MEM_REF_CFG_TREFI : Bits := ⟨0, 12⟩
def MEM_REF_CFG_MODE : Bits := ⟨12, 1⟩
def MEM_REFDEBT_DEBT : Bits := ⟨0, 5⟩
def MEM_REFDEBT_PEAK : Bits := ⟨5, 5⟩
def MEM_REFDEBT_FORCED : Bits := ⟨16, 16⟩
def MEM_TEMP_TEMP : Bits := ⟨0, 9⟩
def MEM_TEMP_DEV : Bits := ⟨9, 4⟩
def MEM_TEMP_CFG_THRESH : Bits := ⟨0, 7⟩
def MEM_RH_CFG_THRESH : Bits := ⟨0, 16⟩
def MEM_RH_CFG_ACT_LIMIT : Bits := ⟨16, 6⟩
def MEM_RH_CFG_TRR_MAX : Bits := ⟨22, 10⟩
def MEM_RETRAIN_CFG_MINUTES : Bits := ⟨0, 16⟩
def MEM_RETIRE_CFG_CE_LIMIT : Bits := ⟨0, 20⟩
def MEM_UE_LOG_LO_ADDR : Bits := ⟨0, 32⟩
def MEM_UE_LOG_HI_ADDR : Bits := ⟨0, 2⟩
def MEM_UE_LOG_HI_REQ : Bits := ⟨4, 4⟩
def MEM_LOST_COUNT : Bits := ⟨0, 21⟩
def MEM_DEV_STATE_STATE : Bits := ⟨0, 2⟩
def MEM_DEV_STATE_SLOT : Bits := ⟨2, 3⟩
def MEM_DEV_STATE_DUE : Bits := ⟨5, 1⟩
def MEM_DEV_STATE_EDC_RETRY : Bits := ⟨16, 16⟩
def MEM_DEV_ERR_CE_24H : Bits := ⟨0, 20⟩
def MEM_DEV_ERR_UE_24H : Bits := ⟨20, 4⟩
def MEM_THROTTLE_ROW : Bits := ⟨0, 15⟩
def MEM_THROTTLE_COUNT : Bits := ⟨16, 16⟩
def MEM_CLASS_AGE_MAXWAIT : Bits := ⟨0, 16⟩
def MEM_CLASS_AGE_PROMO : Bits := ⟨16, 16⟩
def MEM_KEEP_BANKS : Bits := ⟨0, 16⟩
def TALLY_CTL_DRAIN_EN : Bits := ⟨0, 1⟩
def TALLY_CTL_DMA : Bits := ⟨1, 1⟩
def TALLY_STATUS_RING_FULL : Bits := ⟨0, 1⟩
def TALLY_STATUS_STAGE_FULL : Bits := ⟨1, 1⟩
def TALLY_STATUS_DROP : Bits := ⟨2, 1⟩
def TALLY_STATUS_DMA_ERR : Bits := ⟨3, 1⟩
def TALLY_RING_CFG_SIZE : Bits := ⟨0, 7⟩
def TALLY_RING_CFG_BASE : Bits := ⟨8, 8⟩
def TALLY_WP_OFS : Bits := ⟨0, 32⟩
def TALLY_RP_OFS : Bits := ⟨0, 32⟩
def TALLY_DMA_ADDR_LO_ADDR : Bits := ⟨0, 32⟩
def TALLY_DMA_ADDR_HI_ADDR : Bits := ⟨0, 32⟩
def TALLY_DMA_SIZE_LOG2 : Bits := ⟨0, 6⟩
def TALLY_DMA_HWP_OFS : Bits := ⟨0, 32⟩
def TALLY_DMA_HRP_OFS : Bits := ⟨0, 32⟩
def TALLY_DMA_IRQ_IRQ_KB : Bits := ⟨0, 16⟩
def TALLY_DMA_IRQ_IRQ_US : Bits := ⟨16, 16⟩
def TALLY_STREAM_CTL_EN : Bits := ⟨0, 1⟩
def TALLY_STREAM_CTL_GAP_PEND : Bits := ⟨1, 1⟩
def TALLY_STREAM_CTL_FLUSHED : Bits := ⟨2, 1⟩
def TALLY_STREAM_SEQ_SEQ : Bits := ⟨0, 32⟩
def TALLY_STREAM_DROP_COUNT : Bits := ⟨0, 32⟩
def TALLY_STREAM_WRAPS_COUNT : Bits := ⟨0, 16⟩
def TALLY_WEIGHT_W : Bits := ⟨0, 4⟩
def EVT_FLAGS_OVERRUN : Bits := ⟨0, 1⟩
def EVT_FLAGS_COINCIDE : Bits := ⟨1, 1⟩
def EVT_FLAGS_LOOP_SUSPECT : Bits := ⟨2, 1⟩
def EVT_LOOP_LINE_LINE : Bits := ⟨0, 9⟩
def EVT_RATE_HIT_COUNT : Bits := ⟨0, 32⟩
def EVT_IRQ_PEND : Bits := ⟨0, 4⟩
def EVT_CNT_COUNT : Bits := ⟨0, 32⟩
def EVT_LSEL_LO_SEL : Bits := ⟨0, 32⟩
def EVT_LSEL_HI_SEL : Bits := ⟨0, 32⟩
def EVT_LINE_LEVEL : Bits := ⟨0, 32⟩
def EVT_CONS_EN_CAND : Bits := ⟨0, 16⟩
def EVT_CONS_EN_OVERRUN : Bits := ⟨16, 1⟩
def EVT_CONS_EN_COINCIDE : Bits := ⟨17, 1⟩
def EVT_CONS_EN_BUSY : Bits := ⟨18, 1⟩
def EVT_CONS_JLO_JOIN : Bits := ⟨0, 32⟩
def EVT_CONS_JHI_JOIN : Bits := ⟨0, 32⟩
def EVT_CELL_CFG_LUT : Bits := ⟨0, 16⟩
def EVT_CELL_CFG_MODE : Bits := ⟨16, 2⟩
def EVT_CELL_CFG_FKIND : Bits := ⟨18, 1⟩
def EVT_CELL_CFG_FDOM : Bits := ⟨19, 1⟩
def EVT_CELL_CFG_INIT : Bits := ⟨20, 1⟩
def EVT_CELL_CFG_OUT : Bits := ⟨21, 1⟩
def EVT_CELL_IN_A : Bits := ⟨0, 5⟩
def EVT_CELL_IN_B : Bits := ⟨8, 5⟩
def EVT_CELL_IN_C : Bits := ⟨16, 5⟩
def EVT_CELL_IN_D : Bits := ⟨24, 5⟩
def EVT_CELL_FILT_N : Bits := ⟨0, 16⟩
def BIAS_STATUS_SAFE : Bits := ⟨0, 1⟩
def BIAS_STATUS_LOAD_BLOCK : Bits := ⟨1, 1⟩
def BIAS_LOAD_GROUP : Bits := ⟨0, 8⟩
def BIAS_GRP_CFG_PIN : Bits := ⟨0, 8⟩
def BIAS_PANEL_PRESENT : Bits := ⟨0, 16⟩
def BIAS_PANEL_SAFE_N : Bits := ⟨16, 1⟩
def BIAS_PANEL_LOAD_N : Bits := ⟨17, 1⟩
def BIAS_LED_OVR : Bits := ⟨0, 4⟩
def BIAS_LED_VAL : Bits := ⟨4, 4⟩
def BIAS_CH_CTL_UNPARK : Bits := ⟨0, 1⟩
def BIAS_CH_CTL_PARK : Bits := ⟨1, 1⟩
def BIAS_CH_CTL_SIN_EN : Bits := ⟨2, 1⟩
def BIAS_CH_CTL_PARKED : Bits := ⟨3, 1⟩
def BIAS_CH_CTL_GLIDING : Bits := ⟨4, 1⟩
def BIAS_CH_CTL_RANGE_PEND : Bits := ⟨5, 1⟩
def BIAS_CH_CTL_SIN_RUN : Bits := ⟨6, 1⟩
def BIAS_CH_CTL_RANGE : Bits := ⟨7, 3⟩
def BIAS_CH_CFG_RATE : Bits := ⟨0, 14⟩
def BIAS_CH_CFG_JUMP : Bits := ⟨14, 1⟩
def BIAS_CH_CFG_LGRP : Bits := ⟨15, 3⟩
def BIAS_CH_CFG_LGEN : Bits := ⟨18, 1⟩
def BIAS_CH_CFG_MM_SAFE : Bits := ⟨19, 1⟩
def BIAS_CH_SAFE_CODE : Bits := ⟨0, 20⟩
def BIAS_CH_SAFE_SAFE_JUMP : Bits := ⟨20, 1⟩
def BIAS_CH_SAFE_SAFE_RATE : Bits := ⟨21, 10⟩
def BIAS_CH_CODE_CODE : Bits := ⟨0, 20⟩
def BIAS_CH_TARGET_CODE : Bits := ⟨0, 20⟩
def BIAS_CH_RANGE_CODE : Bits := ⟨0, 20⟩
def BIAS_CH_RANGE_REQ : Bits := ⟨20, 3⟩
def BIAS_CH_SIN_FTW_VALUE : Bits := ⟨0, 32⟩
def BIAS_CH_SIN_AMP_VALUE : Bits := ⟨0, 24⟩
def BIAS_CH_MONV_VALUE : Bits := ⟨0, 32⟩
def BIAS_CH_MONI_VALUE : Bits := ⟨0, 32⟩
def BIAS_CH_SUP_WIN : Bits := ⟨0, 16⟩
def BIAS_CH_SUP_LOAD : Bits := ⟨16, 16⟩
def BIAS_CH_FLAGS_MISMATCH : Bits := ⟨0, 1⟩
def BIAS_CH_FLAGS_OPEN_LOAD : Bits := ⟨1, 1⟩
def BIAS_CH_FLAGS_CLIPPED : Bits := ⟨2, 1⟩
def SENSE_CTL_RUN : Bits := ⟨0, 1⟩
def SENSE_CTL_LAST : Bits := ⟨8, 5⟩
def SENSE_STATUS_ENTRY : Bits := ⟨0, 5⟩
def SENSE_STATUS_SETTLING : Bits := ⟨5, 1⟩
def SENSE_SCAN_A_CH : Bits := ⟨0, 4⟩
def SENSE_SCAN_A_WIRE : Bits := ⟨4, 2⟩
def SENSE_SCAN_A_EXC : Bits := ⟨6, 4⟩
def SENSE_SCAN_A_FORM : Bits := ⟨10, 2⟩
def SENSE_SCAN_A_FREQ : Bits := ⟨12, 7⟩
def SENSE_SCAN_A_LSET : Bits := ⟨19, 3⟩
def SENSE_SCAN_A_XLOG : Bits := ⟨22, 1⟩
def SENSE_SCAN_B_SETTLE : Bits := ⟨0, 16⟩
def SENSE_SCAN_B_AVG : Bits := ⟨16, 8⟩
def SENSE_SCAN_B_RATE : Bits := ⟨24, 2⟩
def SENSE_CH_RES_VALUE : Bits := ⟨0, 32⟩
def SENSE_CH_TEMP_VALUE : Bits := ⟨0, 32⟩
def SENSE_CH_LEAD_VALUE : Bits := ⟨0, 32⟩
def SENSE_CH_FLAGS_NEW : Bits := ⟨0, 1⟩
def SENSE_CH_FLAGS_STALE : Bits := ⟨1, 1⟩
def SENSE_CH_FLAGS_OPEN : Bits := ⟨2, 1⟩
def SENSE_CH_FLAGS_SHORT : Bits := ⟨3, 1⟩
def SENSE_CH_FLAGS_OVERRANGE : Bits := ⟨4, 1⟩
def SENSE_CH_FLAGS_SETTLE_FAULT : Bits := ⟨5, 1⟩
def SENSE_CH_FLAGS_LIN_ERR : Bits := ⟨6, 1⟩
def SENSE_CH_FLAGS_RESTARTS : Bits := ⟨16, 5⟩
def SENSE_CH_CM_CM_LO : Bits := ⟨0, 16⟩
def SENSE_CH_CM_CM_HI : Bits := ⟨16, 16⟩
def SENSE_LOOP_CFG_CH : Bits := ⟨0, 4⟩
def SENSE_LOOP_CFG_EN : Bits := ⟨4, 1⟩
def SENSE_LOOP_CFG_FAULT_HI : Bits := ⟨5, 1⟩
def SENSE_LOOP_CFG_FAULT_EN : Bits := ⟨6, 1⟩
def SENSE_LOOP_CFG_SRC : Bits := ⟨7, 1⟩
def SENSE_LOOP_LO_VALUE : Bits := ⟨0, 32⟩
def SENSE_LOOP_HI_VALUE : Bits := ⟨0, 32⟩
def SENSE_LOOP_STAT_IOUT : Bits := ⟨0, 16⟩
def SENSE_LOOP_STAT_LOOP_FAULT : Bits := ⟨16, 1⟩
def SENSE_LOOP_STAT_AT_FAULT : Bits := ⟨17, 1⟩
def SENSE_LSET_C_VALUE : Bits := ⟨0, 32⟩
def THERM_STATUS_TJ : Bits := ⟨0, 10⟩
def THERM_STATUS_HOT : Bits := ⟨10, 5⟩
def THERM_STATUS_ACTION : Bits := ⟨15, 2⟩
def THERM_STATUS_REARM_OK : Bits := ⟨17, 1⟩
def THERM_FLAGS_SHED : Bits := ⟨0, 1⟩
def THERM_FLAGS_CONV_OFF : Bits := ⟨1, 1⟩
def THERM_FLAGS_RISE : Bits := ⟨2, 1⟩
def THERM_FLAGS_BROKEN : Bits := ⟨3, 1⟩
def THERM_FLAGS_REMOTE_HI : Bits := ⟨4, 1⟩
def THERM_FLAGS_DIODE_FAULT : Bits := ⟨5, 1⟩
def THERM_LIMIT_SHED_T : Bits := ⟨0, 8⟩
def THERM_LIMIT_CONV_T : Bits := ⟨8, 8⟩
def THERM_LIMIT_LATCH_T : Bits := ⟨16, 8⟩
def THERM_LIMIT_REARM_HYST : Bits := ⟨24, 8⟩
def THERM_RISE_SHED_RISE : Bits := ⟨0, 8⟩
def THERM_RISE_LATCH_RISE : Bits := ⟨8, 8⟩
def THERM_RISE_SHED_DEADLINE : Bits := ⟨16, 16⟩
def THERM_SENSE_TEMP : Bits := ⟨0, 10⟩
def THERM_SENSE_BROKEN : Bits := ⟨10, 1⟩
def THERM_SENSE_CAUSE : Bits := ⟨11, 2⟩
def THERM_DIODE_TEMP : Bits := ⟨0, 10⟩
def THERM_DIODE_FAULT : Bits := ⟨10, 1⟩
def THERM_DIODE_HI : Bits := ⟨11, 8⟩
def THERM_DIODE_HI_SHED : Bits := ⟨19, 1⟩
def AGE_STATUS_RUNNING : Bits := ⟨0, 1⟩
def AGE_STATUS_SURVEY_INCOMPLETE : Bits := ⟨1, 1⟩
def AGE_STATUS_PLAN_PEND : Bits := ⟨2, 1⟩
def AGE_STATUS_PMB_FAIL : Bits := ⟨3, 1⟩
def AGE_STATUS_LEDGER_FAIL : Bits := ⟨4, 1⟩
def AGE_STATUS_RATE_UP_PEND : Bits := ⟨5, 1⟩
def AGE_PLAN_SEQ : Bits := ⟨0, 32⟩
def AGE_PLAN_PEND_SEQ : Bits := ⟨0, 32⟩
def AGE_DOM_OFS : Bits := ⟨0, 8⟩
def AGE_DOM_PEND : Bits := ⟨8, 8⟩
def AGE_DOM_MARGIN : Bits := ⟨16, 8⟩
def AGE_DOM_PMB : Bits := ⟨24, 7⟩
def AGE_CFG_TARGET : Bits := ⟨0, 8⟩
def AGE_CFG_STEP_MAX : Bits := ⟨8, 4⟩
def AGE_CFG_RATE_UP : Bits := ⟨12, 8⟩
def AGE_LIFE_MONTHS : Bits := ⟨0, 16⟩
def AGE_LEDGER_USED : Bits := ⟨0, 16⟩
def AGE_LEDGER_COMPACTIONS : Bits := ⟨16, 16⟩
def AGE_LEDGER_SEQ_SEQ : Bits := ⟨0, 32⟩
def TOP_ACCESS_ACCESS_DENIED : Bits := ⟨0, 1⟩
def TOP_ACCESS_LOG_LO_OFS : Bits := ⟨0, 32⟩
def TOP_ACCESS_LOG_HI_OFS : Bits := ⟨0, 4⟩
def TOP_ACCESS_LOG_HI_REQ : Bits := ⟨4, 3⟩
def TOP_ACCESS_LOG_HI_WR : Bits := ⟨7, 1⟩
def TOP_CORE_CTL_HOLD : Bits := ⟨0, 1⟩
def TOP_CORE_CTL_RELEASE : Bits := ⟨1, 7⟩
def TOP_CORE_CTL_KICK : Bits := ⟨8, 1⟩
def TOP_CORE_CTL_WDOG : Bits := ⟨16, 8⟩
def TOP_CORE_STATUS_RUNNING : Bits := ⟨0, 8⟩
def TOP_CORE_STATUS_NO_IMAGE : Bits := ⟨8, 1⟩
def TOP_CORE_STATUS_WDOG_FIRED : Bits := ⟨9, 1⟩
def TOP_CORE_STATUS_IMAGE_B : Bits := ⟨10, 1⟩
def TOP_CORE_STATUS_MGMT_PORTER : Bits := ⟨11, 1⟩
def TOP_IRQ_PEND_BITS : Bits := ⟨0, 32⟩
def TOP_IRQ_ROUTE_HOST_BITS : Bits := ⟨0, 32⟩
def TOP_IRQ_ROUTE_CORE_BITS : Bits := ⟨0, 32⟩
def PORTER_CMD_CODE : Bits := ⟨0, 8⟩
def PORTER_CMD_LEN : Bits := ⟨8, 11⟩
def PORTER_STATUS_BUSY : Bits := ⟨0, 1⟩
def PORTER_STATUS_DONE : Bits := ⟨1, 1⟩
def PORTER_STATUS_RESULT : Bits := ⟨2, 4⟩
def PORTER_STATUS_OLEN : Bits := ⟨16, 11⟩
def PORTER_LC_STATE : Bits := ⟨0, 3⟩
def PORTER_LC_OWN_CNT : Bits := ⟨4, 4⟩
def PORTER_LC_PKEY : Bits := ⟨8, 1⟩
def PORTER_LC_FW_VER : Bits := ⟨16, 7⟩
def PORTER_SERIAL_LO_SERIAL : Bits := ⟨0, 32⟩
def PORTER_SERIAL_HI_SERIAL : Bits := ⟨0, 32⟩
def PORTER_MBOX_DATA : Bits := ⟨0, 32⟩
def LINK_TREE_DEPTH : Bits := ⟨0, 2⟩
def LINK_TREE_PARENT : Bits := ⟨2, 6⟩
def LINK_TREE_DUP_DEVID : Bits := ⟨8, 1⟩
def LINK_TREE_DEPTH_ERR : Bits := ⟨9, 1⟩
def LINK_TREE_BAD_DEVID : Bits := ⟨10, 6⟩
def LINK_TREE_UNREACH : Bits := ⟨16, 16⟩
def LINK_CARTER_STATE : Bits := ⟨0, 2⟩
def LINK_CARTER_WENT_DOWN : Bits := ⟨2, 1⟩
def LINK_CARTER_RETRY : Bits := ⟨16, 16⟩
def LINK_REACH_LO_DEV : Bits := ⟨0, 32⟩
def LINK_REACH_HI_DEV : Bits := ⟨0, 32⟩
def TOP_SUPPLY_OK : Bits := ⟨0, 11⟩
def TOP_SUPPLY_TRIP : Bits := ⟨16, 11⟩
def TOP_SUPPLY_PMB_ALERT : Bits := ⟨27, 1⟩
def TOP_PMB_CFG_MEMADDR : Bits := ⟨0, 7⟩
def TOP_PMB_CFG_BUSY : Bits := ⟨8, 1⟩
end Fd

/-- The registers of the BENCH group. -/
def regsBench : List RegDesc :=
  [
⟨"BENCHn.CTL", 0x400100000, [(0x100000, 8)], [⟨0, 1, .rw, 0x0⟩]⟩,
   ⟨"BENCHn.STATUS", 0x400100004, [(0x100000, 8)], [⟨0, 1, .ro, 0x0⟩, ⟨1, 1, .ro, 0x0⟩, ⟨2, 1, .ro, 0x1⟩, ⟨3, 1, .ro, 0x0⟩, ⟨8, 8, .ro, 0x0⟩]⟩,
   ⟨"BENCHn.EVENTS", 0x400100008, [(0x100000, 8)], [⟨0, 1, .w1c, 0x0⟩, ⟨1, 1, .w1c, 0x0⟩, ⟨2, 1, .w1c, 0x0⟩, ⟨3, 1, .w1c, 0x0⟩, ⟨4, 1, .w1c, 0x0⟩, ⟨5, 1, .w1c, 0x0⟩]⟩]

/-- The registers of the TOP group. -/
def regsTop : List RegDesc :=
  [
⟨"TOP.MODE", 0x400000000, [], [⟨0, 4, .ro, 0x0⟩, ⟨4, 4, .ro, 0x0⟩, ⟨8, 1, .ro, 0x0⟩, ⟨9, 1, .ro, 0x0⟩, ⟨10, 1, .ro, 0x0⟩, ⟨11, 1, .ro, 0x0⟩, ⟨12, 1, .ro, 0x0⟩, ⟨16, 8, .ro, 0x0⟩]⟩,
   ⟨"TOP.MODE_REQ", 0x400000004, [], [⟨0, 4, .wo, 0x0⟩, ⟨4, 1, .wo, 0x0⟩, ⟨5, 1, .wo, 0x0⟩, ⟨6, 1, .wo, 0x0⟩, ⟨7, 1, .wo, 0x0⟩, ⟨8, 1, .wo, 0x0⟩]⟩,
   ⟨"TOP.MODE_ERR", 0x400000008, [], [⟨0, 4, .ro, 0x0⟩, ⟨4, 4, .ro, 0x0⟩, ⟨8, 1, .w1c, 0x0⟩]⟩,
   ⟨"TOP.RESET", 0x400000010, [], [⟨0, 8, .wo, 0x0⟩, ⟨8, 1, .wo, 0x0⟩, ⟨16, 16, .wo, 0x0⟩]⟩,
   ⟨"TOP.RESET_CAUSE", 0x400000014, [], [⟨0, 1, .w1c, 0x1⟩, ⟨1, 1, .w1c, 0x0⟩, ⟨2, 1, .w1c, 0x0⟩, ⟨3, 1, .w1c, 0x0⟩, ⟨4, 1, .w1c, 0x0⟩, ⟨5, 1, .w1c, 0x0⟩, ⟨8, 8, .w1c, 0x0⟩, ⟨16, 4, .ro, 0x0⟩]⟩,
   ⟨"TOP.AON_CTL", 0x400000018, [], [⟨0, 1, .rw, 0x1⟩, ⟨1, 1, .rw, 0x0⟩, ⟨2, 1, .rw, 0x0⟩, ⟨3, 3, .rw, 0x0⟩]⟩,
   ⟨"TOP.WAKE_TIME_LO", 0x40000001C, [], [⟨0, 32, .rw, 0x0⟩]⟩,
   ⟨"TOP.WAKE_TIME_HI", 0x400000020, [], [⟨0, 32, .rw, 0x0⟩]⟩,
   ⟨"TOP.PAT_CTL", 0x400000040, [], [⟨0, 1, .wo, 0x0⟩, ⟨1, 1, .wo, 0x0⟩, ⟨2, 1, .wo, 0x0⟩]⟩,
   ⟨"TOP.PAT_SRC_LO", 0x400000044, [], [⟨0, 32, .rw, 0x0⟩]⟩,
   ⟨"TOP.PAT_SRC_HI", 0x400000048, [], [⟨0, 2, .rw, 0x0⟩]⟩,
   ⟨"TOP.PAT_LEN", 0x40000004C, [], [⟨0, 32, .rw, 0x0⟩]⟩,
   ⟨"TOP.PAT_STATUS", 0x400000050, [], [⟨0, 2, .ro, 0x0⟩, ⟨2, 1, .w1c, 0x0⟩, ⟨3, 1, .w1c, 0x0⟩, ⟨4, 1, .ro, 0x0⟩, ⟨8, 5, .ro, 0x0⟩, ⟨16, 8, .ro, 0x0⟩]⟩,
   ⟨"TOP.PAT_ID_LO", 0x400000054, [], [⟨0, 32, .ro, 0x0⟩]⟩,
   ⟨"TOP.PAT_ID_HI", 0x400000058, [], [⟨0, 32, .ro, 0x0⟩]⟩,
   ⟨"TOP.PAT_OVL_ID_LO", 0x40000005C, [], [⟨0, 32, .ro, 0x0⟩]⟩,
   ⟨"TOP.PAT_OVL_ID_HI", 0x400000060, [], [⟨0, 32, .ro, 0x0⟩]⟩,
   ⟨"TOP.PAT_OVL_COUNT", 0x400000064, [], [⟨0, 16, .ro, 0x0⟩]⟩,
   ⟨"TOP.BUDGET_STATUS", 0x400000080, [], [⟨0, 1, .w1c, 0x0⟩, ⟨1, 1, .ro, 0x0⟩, ⟨2, 2, .ro, 0x0⟩, ⟨4, 3, .ro, 0x0⟩, ⟨8, 4, .ro, 0x0⟩]⟩,
   ⟨"TOP.BUDGET_CAP", 0x400000084, [], [⟨0, 19, .ro, 0x704E0⟩, ⟨19, 5, .ro, 0x16⟩, ⟨24, 5, .ro, 0x10⟩]⟩,
   ⟨"TOP.BUDGET_DEMAND", 0x400000088, [], [⟨0, 21, .ro, 0x0⟩]⟩,
   ⟨"TOP.BUDGET_TALLY", 0x40000008C, [], [⟨0, 16, .ro, 0x0⟩]⟩,
   ⟨"TOP.BREACH", 0x400000090, [], [⟨2, 1, .w1c, 0x0⟩, ⟨3, 1, .w1c, 0x0⟩, ⟨4, 1, .w1c, 0x0⟩, ⟨5, 1, .w1c, 0x0⟩, ⟨6, 1, .w1c, 0x0⟩, ⟨7, 1, .w1c, 0x0⟩]⟩,
   ⟨"TOP.ACCESS", 0x4000000C0, [], [⟨0, 1, .w1c, 0x0⟩]⟩,
   ⟨"TOP.ACCESS_LOG_LO", 0x4000000C4, [], [⟨0, 32, .ro, 0x0⟩]⟩,
   ⟨"TOP.ACCESS_LOG_HI", 0x4000000C8, [], [⟨0, 4, .ro, 0x0⟩, ⟨4, 3, .ro, 0x0⟩, ⟨7, 1, .ro, 0x0⟩]⟩,
   ⟨"TOP.CORE_CTL", 0x4000000D0, [], [⟨0, 1, .rw, 0x0⟩, ⟨1, 7, .rw, 0x0⟩, ⟨8, 1, .wo, 0x0⟩, ⟨16, 8, .rw, 0x0⟩]⟩,
   ⟨"TOP.CORE_STATUS", 0x4000000D4, [], [⟨0, 8, .ro, 0x0⟩, ⟨8, 1, .ro, 0x0⟩, ⟨9, 1, .w1c, 0x0⟩, ⟨10, 1, .ro, 0x0⟩, ⟨11, 1, .ro, 0x0⟩]⟩,
   ⟨"TOP.IRQ_PEND", 0x4000000E0, [], [⟨0, 32, .w1c, 0x0⟩]⟩,
   ⟨"TOP.IRQ_ROUTE_HOST", 0x4000000E4, [], [⟨0, 32, .rw, 0xFFFFFFFF⟩]⟩,
   ⟨"TOP.IRQ_ROUTE_CORE", 0x4000000E8, [], [⟨0, 32, .rw, 0x0⟩]⟩,
   ⟨"TOP.SUPPLY", 0x400000100, [], [⟨0, 11, .ro, 0x0⟩, ⟨16, 11, .w1c, 0x0⟩, ⟨27, 1, .w1c, 0x0⟩]⟩,
   ⟨"TOP.PMB_CFG", 0x400000104, [], [⟨0, 7, .rw, 0x0⟩, ⟨8, 1, .ro, 0x0⟩]⟩]

/-- The registers of the TIME group. -/
def regsTime : List RegDesc :=
  [
⟨"TIME.NOW_LO", 0x400010000, [], [⟨0, 32, .ro, 0x0⟩]⟩,
   ⟨"TIME.NOW_HI", 0x400010004, [], [⟨0, 32, .ro, 0x0⟩]⟩,
   ⟨"TIME.EPOCH_CTL", 0x400010008, [], [⟨0, 1, .rw, 0x0⟩, ⟨1, 1, .rw, 0x0⟩]⟩,
   ⟨"TIME.EPOCH_PERIOD", 0x40001000C, [], [⟨0, 24, .rw, 0x1⟩]⟩,
   ⟨"TIME.EPOCH_LOAD_LO", 0x400010010, [], [⟨0, 32, .rw, 0x0⟩]⟩,
   ⟨"TIME.EPOCH_LOAD_HI", 0x400010014, [], [⟨0, 32, .rw, 0x0⟩]⟩,
   ⟨"TIME.EPOCH_LAST_LO", 0x400010018, [], [⟨0, 32, .ro, 0x0⟩]⟩,
   ⟨"TIME.EPOCH_LAST_HI", 0x40001001C, [], [⟨0, 32, .ro, 0x0⟩]⟩,
   ⟨"TIME.EPOCH_TDC", 0x400010020, [], [⟨0, 14, .ro, 0x0⟩]⟩,
   ⟨"TIME.EPOCH_SLIP_AMT", 0x400010024, [], [⟨0, 32, .ro, 0x0⟩]⟩,
   ⟨"TIME.EPOCH_TRIM", 0x400010028, [], [⟨0, 10, .rw, 0x0⟩, ⟨16, 1, .ro, 0x0⟩]⟩,
   ⟨"TIME.ECHO_CTL", 0x4000100C0, [], [⟨0, 4, .rw, 0x0⟩, ⟨4, 4, .rw, 0xA⟩, ⟨8, 1, .wo, 0x0⟩, ⟨9, 1, .ro, 0x0⟩, ⟨10, 2, .ro, 0x0⟩, ⟨12, 1, .w1c, 0x0⟩]⟩,
   ⟨"TIME.ECHOp_RTT", 0x4000100C8, [(0x8, 14)], [⟨0, 32, .ro, 0x0⟩]⟩,
   ⟨"TIME.ECHOp_OFS", 0x4000100CC, [(0x8, 14)], [⟨0, 32, .ro, 0x0⟩]⟩,
   ⟨"TIME.FDLYi", 0x400010200, [(0x4, 176)], [⟨0, 14, .rw, 0x0⟩, ⟨16, 14, .ro, 0x0⟩, ⟨30, 1, .ro, 0x0⟩, ⟨31, 1, .ro, 0x0⟩]⟩,
   ⟨"TIME.TRIGk_CTL", 0x400010040, [(0x10, 8)], [⟨0, 1, .rw, 0x0⟩, ⟨1, 2, .rw, 0x0⟩, ⟨3, 1, .rw, 0x0⟩, ⟨4, 12, .rw, 0x0⟩]⟩,
   ⟨"TIME.TRIGk_STAT", 0x400010044, [(0x10, 8)], [⟨0, 4, .ro, 0x0⟩, ⟨4, 1, .w1c, 0x0⟩, ⟨5, 1, .w1c, 0x0⟩, ⟨6, 1, .ro, 0x0⟩, ⟨7, 1, .w1c, 0x0⟩]⟩,
   ⟨"TIME.TRIGk_TS_LO", 0x400010048, [(0x10, 8)], [⟨0, 32, .ro, 0x0⟩]⟩,
   ⟨"TIME.TRIGk_TS_HI", 0x40001004C, [(0x10, 8)], [⟨0, 32, .ro, 0x0⟩]⟩,
   ⟨"TIME.STATUS", 0x400010030, [], [⟨0, 1, .w1c, 0x0⟩, ⟨1, 2, .ro, 0x0⟩, ⟨3, 1, .ro, 0x0⟩, ⟨4, 1, .w1c, 0x0⟩, ⟨5, 1, .w1c, 0x0⟩, ⟨6, 1, .w1c, 0x0⟩, ⟨7, 1, .ro, 0x0⟩, ⟨8, 1, .w1c, 0x0⟩, ⟨16, 16, .ro, 0x0⟩]⟩]

/-- The registers of the LOOM group. -/
def regsLoom : List RegDesc :=
  [
⟨"BENCHn.LOOM.STREAM_CFG", 0x400110100, [(0x100000, 8)], [⟨0, 8, .rw, 0x10⟩, ⟨8, 6, .rw, 0x10⟩]⟩,
   ⟨"BENCHn.LOOM.PORT_STATUS", 0x400110104, [(0x100000, 8)], [⟨0, 1, .ro, 0x0⟩, ⟨8, 8, .ro, 0x0⟩, ⟨16, 16, .rw, 0x0⟩]⟩,
   ⟨"BENCHn.LOOM.CACHE_MAP", 0x400110108, [(0x100000, 8)], [⟨0, 11, .rwp, 0x0⟩, ⟨11, 11, .rwp, 0x0⟩]⟩,
   ⟨"BENCHn.LOOM.CACHE_USE", 0x40011010C, [(0x100000, 8)], [⟨0, 11, .ro, 0x0⟩]⟩,
   ⟨"BENCHn.LOOM.CNTc", 0x400110110, [(0x100000, 8), (0x4, 4)], [⟨0, 32, .rw, 0x0⟩]⟩,
   ⟨"BENCHn.LOOM.VSTREAMv", 0x400110200, [(0x100000, 8), (0x4, 80)], [⟨0, 16, .rw, 0x0⟩, ⟨16, 8, .ro, 0x0⟩, ⟨24, 1, .ro, 0x0⟩, ⟨25, 1, .ro, 0x0⟩]⟩,
   ⟨"LOOM.SEG_CFG", 0x400118000, [], [⟨0, 9, .rwp, 0x40⟩]⟩,
   ⟨"LOOM.SEG_STATUS", 0x400118004, [], [⟨0, 1, .w1c, 0x0⟩]⟩,
   ⟨"LOOM.SEG_BUSY", 0x400118008, [], [⟨0, 32, .rw, 0x0⟩]⟩,
   ⟨"LOOM.SEG_BUSY_LOG_LO", 0x40011800C, [], [⟨0, 32, .ro, 0x0⟩]⟩,
   ⟨"LOOM.SEG_BUSY_LOG_HI", 0x400118010, [], [⟨0, 2, .ro, 0x0⟩, ⟨2, 1, .ro, 0x0⟩, ⟨4, 2, .ro, 0x0⟩]⟩,
   ⟨"LOOM.RETIRE", 0x400118014, [], [⟨0, 20, .wo, 0x0⟩]⟩,
   ⟨"LOOM.RETIRE_STATUS", 0x400118018, [], [⟨0, 5, .ro, 0x0⟩, ⟨5, 1, .w1c, 0x0⟩, ⟨6, 1, .w1c, 0x0⟩, ⟨7, 1, .w1c, 0x0⟩, ⟨8, 2, .ro, 0x0⟩, ⟨12, 20, .ro, 0x0⟩]⟩,
   ⟨"LOOM.SEG_QUERY", 0x40011801C, [], [⟨0, 20, .rw, 0x0⟩, ⟨20, 1, .ro, 0x0⟩, ⟨21, 1, .ro, 0x0⟩, ⟨22, 1, .ro, 0x0⟩, ⟨23, 1, .ro, 0x0⟩, ⟨24, 1, .ro, 0x0⟩, ⟨25, 7, .ro, 0x0⟩]⟩,
   ⟨"LOOM.ALIASa", 0x40011C000, [(0x4, 4096)], [⟨0, 20, .rw, 0x0⟩, ⟨31, 1, .rw, 0x0⟩]⟩,
   ⟨"BENCHn.LOOM.SLOT_POOL", 0x400110120, [(0x100000, 8)], [⟨0, 8, .rwp, 0x0⟩, ⟨8, 8, .ro, 0x0⟩, ⟨16, 16, .rw, 0x0⟩]⟩]

/-- The registers of the LANE group. -/
def regsLane : List RegDesc :=
  [
⟨"BENCHn.LOOM.LANE0_CTL", 0x400111000, [(0x100000, 8), (0x80, 32)], [⟨0, 1, .rw, 0x0⟩]⟩,
   ⟨"BENCHn.LOOM.LANE0_PART", 0x400111004, [(0x100000, 8), (0x80, 32)], [⟨0, 15, .rwp, 0x0⟩, ⟨16, 15, .rwp, 0x0⟩]⟩,
   ⟨"BENCHn.LOOM.LANE0_STATUS", 0x400111008, [(0x100000, 8), (0x80, 32)], [⟨0, 3, .ro, 0x0⟩, ⟨3, 4, .ro, 0x0⟩, ⟨8, 15, .ro, 0x0⟩]⟩,
   ⟨"BENCHn.LOOM.LANE0_CURSOR_LO", 0x40011100C, [(0x100000, 8), (0x80, 32)], [⟨0, 32, .ro, 0x0⟩]⟩,
   ⟨"BENCHn.LOOM.LANE0_CURSOR_HI", 0x400111010, [(0x100000, 8), (0x80, 32)], [⟨0, 32, .ro, 0x0⟩]⟩,
   ⟨"BENCHn.LOOM.LANE0_FLAGS", 0x400111014, [(0x100000, 8), (0x80, 32)], [⟨0, 1, .w1c, 0x0⟩, ⟨1, 1, .w1c, 0x0⟩, ⟨2, 1, .w1c, 0x0⟩, ⟨3, 1, .w1c, 0x0⟩, ⟨4, 1, .w1c, 0x0⟩, ⟨5, 1, .w1c, 0x0⟩, ⟨6, 1, .w1c, 0x0⟩, ⟨7, 1, .w1c, 0x0⟩]⟩,
   ⟨"BENCHn.LOOM.LANE0_CNT_A", 0x400111018, [(0x100000, 8), (0x80, 32)], [⟨0, 16, .rw, 0x0⟩, ⟨16, 16, .rw, 0x0⟩]⟩,
   ⟨"BENCHn.LOOM.LANE0_CNT_B", 0x40011101C, [(0x100000, 8), (0x80, 32)], [⟨0, 16, .rw, 0x0⟩, ⟨16, 16, .rw, 0x0⟩]⟩,
   ⟨"BENCHn.LOOM.LANE0_SLOTS", 0x400111020, [(0x100000, 8), (0x80, 32)], [⟨0, 4, .rwp, 0x0⟩, ⟨8, 4, .ro, 0x0⟩, ⟨16, 8, .ro, 0x0⟩]⟩,
   ⟨"BENCHn.LOOM.LANE0_DR", 0x400111024, [(0x100000, 8), (0x80, 32)], [⟨0, 12, .ro, 0x0⟩]⟩,
   ⟨"BENCHn.LOOM.LANE0_BIND", 0x400111028, [(0x100000, 8), (0x80, 32)], [⟨0, 5, .rwp, 0x0⟩, ⟨5, 1, .rwp, 0x0⟩, ⟨8, 5, .rwp, 0x0⟩, ⟨13, 1, .rwp, 0x0⟩, ⟨16, 4, .rwp, 0x0⟩, ⟨20, 1, .rwp, 0x0⟩]⟩,
   ⟨"BENCHn.LOOM.LANE0_Vr", 0x400111040, [(0x100000, 8), (0x80, 32), (0x4, 8)], [⟨0, 32, .rw, 0x0⟩]⟩]

/-- The registers of the OUT group. -/
def regsOut : List RegDesc :=
  [
⟨"BENCHn.OUT.STATUS", 0x400120000, [(0x100000, 8)], [⟨0, 1, .ro, 0x0⟩]⟩,
   ⟨"BENCHn.OUT.CONVc_CFG", 0x400120100, [(0x100000, 8), (0x20, 6)], [⟨0, 1, .rwp, 0x0⟩, ⟨1, 1, .rw, 0x1⟩]⟩,
   ⟨"BENCHn.OUT.CONVc_FSR", 0x400120104, [(0x100000, 8), (0x20, 6)], [⟨0, 4, .rw, 0x0⟩, ⟨4, 4, .ro, 0x0⟩, ⟨8, 1, .ro, 0x0⟩]⟩,
   ⟨"BENCHn.OUT.CONVc_GAIN", 0x400120108, [(0x100000, 8), (0x20, 6)], [⟨0, 16, .rw, 0x4000⟩]⟩,
   ⟨"BENCHn.OUT.CONVc_FLAGS", 0x40012010C, [(0x100000, 8), (0x20, 6)], [⟨0, 1, .w1c, 0x0⟩, ⟨1, 1, .w1c, 0x0⟩, ⟨2, 1, .w1c, 0x0⟩, ⟨16, 16, .rw, 0x0⟩]⟩,
   ⟨"BENCHn.OUT.TONEu_FW_LO", 0x400121000, [(0x100000, 8), (0x80, 64)], [⟨0, 32, .rw, 0x0⟩]⟩,
   ⟨"BENCHn.OUT.TONEu_FW_HI", 0x400121004, [(0x100000, 8), (0x80, 64)], [⟨0, 16, .rw, 0x0⟩]⟩,
   ⟨"BENCHn.OUT.TONEu_CFG", 0x400121008, [(0x100000, 8), (0x80, 64)], [⟨0, 1, .rw, 0x1⟩, ⟨1, 1, .ro, 0x0⟩]⟩,
   ⟨"BENCHn.OUT.TONEu_FRAMEf_P", 0x400121010, [(0x100000, 8), (0x80, 64), (0x10, 4)], [⟨0, 32, .ro, 0x0⟩]⟩,
   ⟨"BENCHn.OUT.TONEu_FRAMEf_F", 0x400121014, [(0x100000, 8), (0x80, 64), (0x10, 4)], [⟨0, 32, .ro, 0x0⟩]⟩,
   ⟨"BENCHn.OUT.TONEu_FRAMEf_INIT_P", 0x400121018, [(0x100000, 8), (0x80, 64), (0x10, 4)], [⟨0, 32, .rwp, 0x0⟩]⟩,
   ⟨"BENCHn.OUT.TONEu_FRAMEf_INIT_F", 0x40012101C, [(0x100000, 8), (0x80, 64), (0x10, 4)], [⟨0, 32, .rwp, 0x0⟩]⟩]

/-- The registers of the OUTB group. -/
def regsOutb : List RegDesc :=
  [
⟨"BENCHn.OUT.XFg_SRC", 0x400123000, [(0x100000, 8), (0x20, 32)], [⟨0, 6, .rwp, 0x0⟩, ⟨6, 1, .rwp, 0x0⟩]⟩,
   ⟨"BENCHn.OUT.XFg_SLOTS", 0x400123004, [(0x100000, 8), (0x20, 32)], [⟨0, 32, .rwp, 0x0⟩]⟩,
   ⟨"BENCHn.OUT.XFg_COEFj", 0x400123008, [(0x100000, 8), (0x20, 32), (0x4, 4)], [⟨0, 16, .rw, 0x0⟩, ⟨16, 16, .rw, 0x0⟩]⟩,
   ⟨"BENCHn.OUT.FLXk_STATUS", 0x400124000, [(0x100000, 8), (0x100, 16)], [⟨0, 1, .w1c, 0x0⟩, ⟨1, 1, .ro, 0x0⟩, ⟨2, 1, .ro, 0x0⟩, ⟨16, 16, .rw, 0x0⟩]⟩,
   ⟨"BENCHn.OUT.FLXk_SECs_AMP", 0x400124010, [(0x100000, 8), (0x100, 16), (0x8, 6)], [⟨0, 18, .rwl, 0x0⟩]⟩,
   ⟨"BENCHn.OUT.FLXk_SECs_TAU", 0x400124014, [(0x100000, 8), (0x100, 16), (0x8, 6)], [⟨0, 21, .rwl, 0x10⟩]⟩,
   ⟨"BENCHn.OUT.FLXk_FIRi", 0x400124040, [(0x100000, 8), (0x100, 16), (0x4, 48)], [⟨0, 18, .rwl, 0x0⟩]⟩]

/-- The registers of the READ group. -/
def regsRead : List RegDesc :=
  [
⟨"BENCHn.READ.ACQa_CFG", 0x400130100, [(0x100000, 8), (0x20, 2)], [⟨0, 2, .rw, 0x0⟩, ⟨4, 2, .ro, 0x0⟩, ⟨8, 1, .ro, 0x0⟩]⟩,
   ⟨"BENCHn.READ.ACQa_FLAGS", 0x400130104, [(0x100000, 8), (0x20, 2)], [⟨0, 1, .w1c, 0x0⟩, ⟨1, 1, .w1c, 0x0⟩, ⟨16, 16, .rw, 0x0⟩]⟩,
   ⟨"BENCHn.READ.CHc_BIND", 0x400131000, [(0x100000, 8), (0x40, 32)], [⟨0, 1, .rwp, 0x0⟩, ⟨1, 6, .rwp, 0x0⟩, ⟨7, 1, .rwp, 0x0⟩, ⟨8, 5, .rwp, 0x0⟩]⟩,
   ⟨"BENCHn.READ.CHc_WIN", 0x400131004, [(0x100000, 8), (0x40, 32)], [⟨0, 14, .rw, 0x0⟩, ⟨16, 13, .rw, 0x10⟩]⟩,
   ⟨"BENCHn.READ.CHc_KCFG", 0x400131008, [(0x100000, 8), (0x40, 32)], [⟨0, 2, .rw, 0x0⟩, ⟨2, 1, .rw, 0x0⟩, ⟨3, 1, .rw, 0x0⟩, ⟨4, 4, .rw, 0x0⟩]⟩,
   ⟨"BENCHn.READ.CHc_DPH", 0x40013100C, [(0x100000, 8), (0x40, 32)], [⟨0, 32, .rw, 0x0⟩]⟩,
   ⟨"BENCHn.READ.CHc_TRACE", 0x400131010, [(0x100000, 8), (0x40, 32)], [⟨0, 3, .rw, 0x0⟩, ⟨11, 21, .rw, 0x10⟩]⟩,
   ⟨"BENCHn.READ.CHc_FLAGS", 0x400131014, [(0x100000, 8), (0x40, 32)], [⟨0, 1, .w1c, 0x0⟩, ⟨1, 1, .w1c, 0x0⟩, ⟨2, 1, .w1c, 0x0⟩, ⟨3, 1, .w1c, 0x0⟩, ⟨8, 1, .ro, 0x0⟩, ⟨16, 16, .rw, 0x0⟩]⟩]

/-- The registers of the ASSAY group. -/
def regsAssay : List RegDesc :=
  [
⟨"BENCHn.ASSAY0.CTL", 0x400140000, [(0x100000, 8), (0x10000, 4)], [⟨0, 1, .rw, 0x0⟩, ⟨1, 1, .wo, 0x0⟩]⟩,
   ⟨"BENCHn.ASSAY0.CFG", 0x400140004, [(0x100000, 8), (0x10000, 4)], [⟨0, 12, .rwl, 0x0⟩, ⟨12, 3, .rwl, 0x0⟩, ⟨15, 1, .rw, 0x0⟩]⟩,
   ⟨"BENCHn.ASSAY0.STATUS", 0x400140008, [(0x100000, 8), (0x10000, 4)], [⟨0, 3, .ro, 0x0⟩, ⟨4, 7, .ro, 0x0⟩, ⟨11, 2, .ro, 0x0⟩, ⟨13, 1, .ro, 0x0⟩, ⟨16, 12, .ro, 0x0⟩]⟩,
   ⟨"BENCHn.ASSAY0.FLAGS", 0x40014000C, [(0x100000, 8), (0x10000, 4)], [⟨0, 1, .w1c, 0x0⟩, ⟨1, 1, .w1c, 0x0⟩, ⟨2, 1, .w1c, 0x0⟩, ⟨3, 1, .w1c, 0x0⟩, ⟨4, 1, .w1c, 0x0⟩, ⟨5, 1, .w1c, 0x0⟩, ⟨6, 1, .w1c, 0x0⟩]⟩,
   ⟨"BENCHn.ASSAY0.FAULT", 0x400140010, [(0x100000, 8), (0x10000, 4)], [⟨0, 2, .ro, 0x0⟩, ⟨16, 12, .ro, 0x0⟩]⟩,
   ⟨"BENCHn.ASSAY0.DEFAULT", 0x400140014, [(0x100000, 8), (0x10000, 4)], [⟨0, 24, .rwl, 0x0⟩]⟩,
   ⟨"BENCHn.ASSAY0.CHAN", 0x400140018, [(0x100000, 8), (0x10000, 4)], [⟨0, 8, .ro, 0x0⟩, ⟨8, 8, .ro, 0x0⟩]⟩,
   ⟨"BENCHn.ASSAY0.TOt", 0x400140020, [(0x100000, 8), (0x10000, 4), (0x4, 4)], [⟨0, 24, .rwl, 0x0⟩]⟩,
   ⟨"BENCHn.ASSAY0.CNT_DEC", 0x400140030, [(0x100000, 8), (0x10000, 4)], [⟨0, 32, .rw, 0x0⟩]⟩,
   ⟨"BENCHn.ASSAY0.CNT_AUTO", 0x400140034, [(0x100000, 8), (0x10000, 4)], [⟨0, 32, .rw, 0x0⟩]⟩,
   ⟨"BENCHn.ASSAY0.CNT_TO", 0x400140038, [(0x100000, 8), (0x10000, 4)], [⟨0, 32, .rw, 0x0⟩]⟩,
   ⟨"BENCHn.ASSAY0.REPMAX", 0x40014003C, [(0x100000, 8), (0x10000, 4)], [⟨0, 17, .rw, 0x0⟩]⟩,
   ⟨"BENCHn.ASSAY0.REGr_LO", 0x400140100, [(0x100000, 8), (0x10000, 4), (0x8, 47)], [⟨0, 32, .rwl, 0x0⟩]⟩,
   ⟨"BENCHn.ASSAY0.REGr_HI", 0x400140104, [(0x100000, 8), (0x10000, 4), (0x8, 47)], [⟨0, 32, .rwl, 0x0⟩]⟩]

/-- The registers of the DEC group. -/
def regsDec : List RegDesc :=
  [
⟨"DEC.CFG", 0x400030000, [], [⟨0, 1, .rwp, 0x0⟩, ⟨8, 6, .ro, 0x0⟩]⟩,
   ⟨"DEC.FLAGS", 0x400030004, [], [⟨0, 1, .w1c, 0x0⟩, ⟨1, 1, .w1c, 0x0⟩, ⟨2, 1, .w1c, 0x0⟩]⟩,
   ⟨"DEC.OLT_LOOKUPSb", 0x400030020, [(0x4, 8)], [⟨0, 32, .rw, 0x0⟩]⟩,
   ⟨"DEC.OLT_WAITMAXb", 0x400030040, [(0x4, 8)], [⟨0, 16, .rw, 0x0⟩]⟩,
   ⟨"DEC.GATHERb_s", 0x400030100, [(0x80, 8), (0x4, 11)], [⟨0, 13, .rwp, 0x0⟩, ⟨16, 13, .rwp, 0x0⟩]⟩,
   ⟨"DEC.MIRRORw", 0x400030600, [(0x4, 128)], [⟨0, 32, .ro, 0x0⟩]⟩,
   ⟨"DEC.CRIERp_CFG", 0x400030800, [(0x40, 14)], [⟨0, 6, .rwp, 0x0⟩, ⟨6, 1, .rwp, 0x0⟩]⟩,
   ⟨"DEC.CRIERp_SLOTS_LO", 0x400030804, [(0x40, 14)], [⟨0, 32, .rwp, 0x0⟩]⟩,
   ⟨"DEC.CRIERp_SLOTS_HI", 0x400030808, [(0x40, 14)], [⟨0, 24, .rwp, 0x0⟩]⟩,
   ⟨"DEC.CRIERp_STATUS", 0x40003080C, [(0x40, 14)], [⟨0, 1, .ro, 0x0⟩, ⟨1, 1, .w1c, 0x0⟩, ⟨2, 1, .w1c, 0x0⟩, ⟨3, 1, .w1c, 0x0⟩, ⟨4, 1, .w1c, 0x0⟩, ⟨5, 1, .w1c, 0x0⟩, ⟨8, 6, .ro, 0x0⟩]⟩,
   ⟨"DEC.CRIERp_CNT_A", 0x400030810, [(0x40, 14)], [⟨0, 16, .rw, 0x0⟩, ⟨16, 16, .rw, 0x0⟩]⟩,
   ⟨"DEC.CRIERp_CNT_B", 0x400030814, [(0x40, 14)], [⟨0, 16, .rw, 0x0⟩, ⟨16, 16, .rw, 0x0⟩]⟩,
   ⟨"DEC.PUBb_e", 0x400032000, [(0x100, 8), (0x4, 64)], [⟨0, 12, .rwp, 0x0⟩, ⟨12, 5, .rwp, 0x0⟩, ⟨17, 4, .rwp, 0x0⟩, ⟨21, 1, .rwp, 0x0⟩]⟩,
   ⟨"DEC.GDSMAPi", 0x400034000, [(0x4, 4096)], [⟨0, 6, .rwp, 0x0⟩, ⟨6, 1, .rwp, 0x0⟩, ⟨7, 2, .rwp, 0x0⟩, ⟨9, 3, .rwp, 0x0⟩, ⟨12, 1, .rwp, 0x0⟩]⟩,
   ⟨"DEC.TAGb_t_CH", 0x400038000, [(0x1000, 8), (0x10, 256)], [⟨0, 32, .rwp, 0x0⟩]⟩,
   ⟨"DEC.TAGb_t_CFG", 0x400038004, [(0x1000, 8), (0x10, 256)], [⟨0, 12, .rwp, 0x0⟩, ⟨12, 1, .rwp, 0x0⟩, ⟨13, 5, .rwp, 0x0⟩, ⟨18, 1, .rwp, 0x0⟩, ⟨19, 12, .rwp, 0x0⟩]⟩,
   ⟨"DEC.TAGb_t_STAT", 0x400038008, [(0x1000, 8), (0x10, 256)], [⟨0, 16, .ro, 0x0⟩, ⟨16, 1, .ro, 0x0⟩, ⟨17, 1, .ro, 0x0⟩, ⟨18, 1, .ro, 0x0⟩]⟩,
   ⟨"DEC.TAGb_t_IDX", 0x40003800C, [(0x1000, 8), (0x10, 256)], [⟨0, 21, .ro, 0x0⟩]⟩]

/-- The registers of the FM group. -/
def regsFm : List RegDesc :=
  [
⟨"BENCHn.FOREMAN.CTL", 0x400180000, [(0x100000, 8)], [⟨0, 4, .wo, 0x0⟩]⟩,
   ⟨"BENCHn.FOREMAN.STATUS", 0x400180004, [(0x100000, 8)], [⟨0, 4, .ro, 0x0⟩, ⟨4, 4, .ro, 0x0⟩, ⟨8, 2, .ro, 0x0⟩, ⟨10, 1, .ro, 0x0⟩, ⟨11, 1, .ro, 0x0⟩, ⟨12, 4, .ro, 0x0⟩, ⟨16, 15, .ro, 0x0⟩, ⟨31, 1, .ro, 0x0⟩]⟩,
   ⟨"BENCHn.FOREMAN.FLAGS", 0x400180008, [(0x100000, 8)], [⟨0, 1, .w1c, 0x0⟩, ⟨1, 1, .w1c, 0x0⟩, ⟨2, 1, .w1c, 0x0⟩, ⟨3, 1, .w1c, 0x0⟩, ⟨4, 1, .w1c, 0x0⟩]⟩,
   ⟨"BENCHn.FOREMAN.FAULT", 0x40018000C, [(0x100000, 8)], [⟨0, 3, .ro, 0x0⟩, ⟨3, 1, .ro, 0x0⟩, ⟨16, 15, .ro, 0x0⟩]⟩,
   ⟨"BENCHn.FOREMAN.BASE_LO", 0x400180010, [(0x100000, 8)], [⟨0, 32, .ro, 0x0⟩]⟩,
   ⟨"BENCHn.FOREMAN.BASE_HI", 0x400180014, [(0x100000, 8)], [⟨0, 32, .ro, 0x0⟩]⟩,
   ⟨"BENCHn.FOREMAN.START", 0x400180018, [(0x100000, 8)], [⟨0, 3, .rwp, 0x0⟩, ⟨4, 12, .rwp, 0x0⟩]⟩,
   ⟨"BENCHn.FOREMAN.START_VAL_LO", 0x40018001C, [(0x100000, 8)], [⟨0, 32, .rw, 0x0⟩]⟩,
   ⟨"BENCHn.FOREMAN.START_VAL_HI", 0x400180020, [(0x100000, 8)], [⟨0, 32, .rw, 0x0⟩]⟩,
   ⟨"BENCHn.FOREMAN.ENTRY", 0x400180024, [(0x100000, 8)], [⟨0, 15, .rwp, 0x0⟩, ⟨16, 15, .ro, 0x0⟩]⟩,
   ⟨"BENCHn.FOREMAN.STORE", 0x400180028, [(0x100000, 8)], [⟨0, 1, .rwp, 0x0⟩]⟩,
   ⟨"BENCHn.FOREMAN.TRAP", 0x40018002C, [(0x100000, 8)], [⟨0, 16, .ro, 0x0⟩, ⟨16, 8, .ro, 0x0⟩]⟩,
   ⟨"BENCHn.FOREMAN.TOt", 0x400180030, [(0x100000, 8), (0x4, 4)], [⟨0, 32, .rwl, 0x0⟩]⟩,
   ⟨"BENCHn.FOREMAN.Ux", 0x400180040, [(0x100000, 8), (0x4, 8)], [⟨0, 32, .rwl, 0x0⟩]⟩,
   ⟨"BENCHn.FOREMAN.Cn", 0x400180060, [(0x100000, 8), (0x4, 4)], [⟨0, 24, .rwl, 0x0⟩]⟩,
   ⟨"BENCHn.FOREMAN.CRLDn", 0x400180070, [(0x100000, 8), (0x4, 4)], [⟨0, 24, .rwl, 0x0⟩]⟩,
   ⟨"BENCHn.FOREMAN.MBOXk", 0x400180080, [(0x100000, 8), (0x4, 4)], [⟨0, 32, .rw, 0x0⟩]⟩,
   ⟨"BENCHn.FOREMAN.CNT_CE", 0x400180090, [(0x100000, 8)], [⟨0, 32, .rw, 0x0⟩]⟩,
   ⟨"BENCHn.FOREMAN.SHOTS_LO", 0x400180094, [(0x100000, 8)], [⟨0, 32, .ro, 0x0⟩]⟩,
   ⟨"BENCHn.FOREMAN.SHOTS_HI", 0x400180098, [(0x100000, 8)], [⟨0, 16, .ro, 0x0⟩]⟩,
   ⟨"BENCHn.FOREMAN.EVIN", 0x40018009C, [(0x100000, 8)], [⟨0, 8, .ro, 0x0⟩, ⟨8, 8, .rw, 0x0⟩]⟩,
   ⟨"BENCHn.FOREMAN.ELOG_HEAD", 0x4001800A0, [(0x100000, 8)], [⟨0, 4, .ro, 0x0⟩]⟩,
   ⟨"BENCHn.FOREMAN.TVECv", 0x4001800C0, [(0x100000, 8), (0x4, 16)], [⟨0, 15, .rwp, 0x0⟩, ⟨15, 1, .rwp, 0x0⟩]⟩,
   ⟨"BENCHn.FOREMAN.MATCHk", 0x400180100, [(0x100000, 8), (0x4, 32)], [⟨0, 14, .rwp, 0x0⟩, ⟨16, 9, .rwp, 0x0⟩, ⟨31, 1, .rwp, 0x0⟩]⟩,
   ⟨"BENCHn.FOREMAN.ELOGi_A", 0x400180200, [(0x100000, 8), (0x20, 16)], [⟨0, 15, .ro, 0x0⟩, ⟨15, 4, .ro, 0x0⟩, ⟨19, 5, .ro, 0x0⟩, ⟨24, 1, .ro, 0x0⟩, ⟨25, 1, .ro, 0x0⟩, ⟨26, 1, .ro, 0x0⟩]⟩,
   ⟨"BENCHn.FOREMAN.ELOGi_X", 0x400180204, [(0x100000, 8), (0x20, 16)], [⟨0, 12, .ro, 0x0⟩, ⟨12, 8, .ro, 0x0⟩]⟩,
   ⟨"BENCHn.FOREMAN.ELOGi_MASK", 0x400180208, [(0x100000, 8), (0x20, 16)], [⟨0, 32, .ro, 0x0⟩]⟩,
   ⟨"BENCHn.FOREMAN.ELOGi_ISSUE", 0x40018020C, [(0x100000, 8), (0x20, 16)], [⟨0, 32, .ro, 0x0⟩]⟩,
   ⟨"BENCHn.FOREMAN.ELOGi_SCHED", 0x400180210, [(0x100000, 8), (0x20, 16)], [⟨0, 32, .ro, 0x0⟩]⟩]

/-- The registers of the MEM group. -/
def regsMem : List RegDesc :=
  [
⟨"MEM.STATUS", 0x400020000, [], [⟨0, 1, .ro, 0x0⟩, ⟨1, 1, .ro, 0x0⟩, ⟨2, 1, .ro, 0x0⟩, ⟨3, 1, .ro, 0x0⟩, ⟨4, 1, .ro, 0x0⟩, ⟨5, 1, .ro, 0x0⟩, ⟨6, 1, .ro, 0x0⟩, ⟨7, 1, .ro, 0x0⟩, ⟨8, 1, .ro, 0x0⟩, ⟨9, 4, .ro, 0x0⟩]⟩,
   ⟨"MEM.FLAGS", 0x400020004, [], [⟨0, 1, .w1c, 0x0⟩, ⟨1, 1, .w1c, 0x0⟩, ⟨2, 1, .w1c, 0x0⟩, ⟨3, 1, .w1c, 0x0⟩, ⟨4, 1, .w1c, 0x0⟩, ⟨5, 1, .w1c, 0x0⟩, ⟨6, 1, .w1c, 0x0⟩, ⟨7, 1, .w1c, 0x0⟩, ⟨8, 1, .w1c, 0x0⟩]⟩,
   ⟨"MEM.MAP", 0x400020008, [], [⟨0, 32, .ro, 0x76543210⟩]⟩,
   ⟨"MEM.REF_CFG", 0x40002000C, [], [⟨0, 12, .rw, 0x76C⟩, ⟨12, 1, .rw, 0x0⟩]⟩,
   ⟨"MEM.REFDEBT", 0x400020010, [], [⟨0, 5, .ro, 0x0⟩, ⟨5, 5, .rw, 0x0⟩, ⟨16, 16, .rw, 0x0⟩]⟩,
   ⟨"MEM.TEMP", 0x400020014, [], [⟨0, 9, .ro, 0x0⟩, ⟨9, 4, .ro, 0x0⟩]⟩,
   ⟨"MEM.TEMP_CFG", 0x400020018, [], [⟨0, 7, .rw, 0x55⟩]⟩,
   ⟨"MEM.RH_CFG", 0x40002001C, [], [⟨0, 16, .rw, 0x1000⟩, ⟨16, 6, .rw, 0x8⟩, ⟨22, 10, .rw, 0x100⟩]⟩,
   ⟨"MEM.RETRAIN_CFG", 0x400020020, [], [⟨0, 16, .rw, 0xA⟩]⟩,
   ⟨"MEM.RETIRE_CFG", 0x400020024, [], [⟨0, 20, .rw, 0x1000⟩]⟩,
   ⟨"MEM.UE_LOG_LO", 0x400020028, [], [⟨0, 32, .ro, 0x0⟩]⟩,
   ⟨"MEM.UE_LOG_HI", 0x40002002C, [], [⟨0, 2, .ro, 0x0⟩, ⟨4, 4, .ro, 0x0⟩]⟩,
   ⟨"MEM.LOST", 0x400020030, [], [⟨0, 21, .rw, 0x0⟩]⟩,
   ⟨"MEM.DEVd_STATE", 0x400020040, [(0x8, 9)], [⟨0, 2, .ro, 0x0⟩, ⟨2, 3, .ro, 0x0⟩, ⟨5, 1, .ro, 0x0⟩, ⟨16, 16, .rw, 0x0⟩]⟩,
   ⟨"MEM.DEVd_ERR", 0x400020044, [(0x8, 9)], [⟨0, 20, .ro, 0x0⟩, ⟨20, 4, .ro, 0x0⟩]⟩,
   ⟨"MEM.THROTTLEq", 0x400020100, [(0x4, 11)], [⟨0, 15, .ro, 0x0⟩, ⟨16, 16, .rw, 0x0⟩]⟩,
   ⟨"MEM.CLASSk_AGE", 0x400020140, [(0x4, 4)], [⟨0, 16, .rw, 0x0⟩, ⟨16, 16, .rw, 0x0⟩]⟩,
   ⟨"MEM.KEEPc", 0x400020180, [(0x4, 18)], [⟨0, 16, .rw, 0xFFFF⟩]⟩]

/-- The registers of the TALLY group. -/
def regsTally : List RegDesc :=
  [
⟨"TALLY.CTL", 0x400050000, [], [⟨0, 1, .rw, 0x0⟩, ⟨1, 1, .rwl, 0x0⟩]⟩,
   ⟨"TALLY.STATUS", 0x400050004, [], [⟨0, 1, .ro, 0x0⟩, ⟨1, 1, .ro, 0x0⟩, ⟨2, 1, .w1c, 0x0⟩, ⟨3, 1, .w1c, 0x0⟩]⟩,
   ⟨"TALLY.RING_CFG", 0x400050008, [], [⟨0, 7, .rwp, 0x4⟩, ⟨8, 8, .rwp, 0xDC⟩]⟩,
   ⟨"TALLY.WP", 0x40005000C, [], [⟨0, 32, .ro, 0x0⟩]⟩,
   ⟨"TALLY.RP", 0x400050010, [], [⟨0, 32, .rw, 0x0⟩]⟩,
   ⟨"TALLY.DMA_ADDR_LO", 0x400050014, [], [⟨0, 32, .rwl, 0x0⟩]⟩,
   ⟨"TALLY.DMA_ADDR_HI", 0x400050018, [], [⟨0, 32, .rwl, 0x0⟩]⟩,
   ⟨"TALLY.DMA_SIZE", 0x40005001C, [], [⟨0, 6, .rwl, 0x10⟩]⟩,
   ⟨"TALLY.DMA_HWP", 0x400050020, [], [⟨0, 32, .ro, 0x0⟩]⟩,
   ⟨"TALLY.DMA_HRP", 0x400050024, [], [⟨0, 32, .rw, 0x0⟩]⟩,
   ⟨"TALLY.DMA_IRQ", 0x400050028, [], [⟨0, 16, .rw, 0x40⟩, ⟨16, 16, .rw, 0x64⟩]⟩,
   ⟨"TALLY.STREAMs_CTL", 0x400050100, [(0x10, 25)], [⟨0, 1, .rw, 0x0⟩, ⟨1, 1, .ro, 0x0⟩, ⟨2, 1, .ro, 0x1⟩]⟩,
   ⟨"TALLY.STREAMs_SEQ", 0x400050104, [(0x10, 25)], [⟨0, 32, .ro, 0x0⟩]⟩,
   ⟨"TALLY.STREAMs_DROP", 0x400050108, [(0x10, 25)], [⟨0, 32, .rw, 0x0⟩]⟩,
   ⟨"TALLY.STREAMs_WRAPS", 0x40005010C, [(0x10, 25)], [⟨0, 16, .ro, 0x0⟩]⟩,
   ⟨"TALLY.WEIGHTb", 0x400050300, [(0x4, 8)], [⟨0, 4, .rwp, 0x1⟩]⟩]

/-- The registers of the EVT group. -/
def regsEvt : List RegDesc :=
  [
⟨"EVT.FLAGS", 0x400040000, [], [⟨0, 1, .w1c, 0x0⟩, ⟨1, 1, .w1c, 0x0⟩, ⟨2, 1, .w1c, 0x0⟩]⟩,
   ⟨"EVT.LOOP_LINE", 0x400040004, [], [⟨0, 9, .ro, 0x0⟩]⟩,
   ⟨"EVT.RATE_HIT", 0x400040008, [], [⟨0, 32, .rw, 0x0⟩]⟩,
   ⟨"EVT.IRQ", 0x40004000C, [], [⟨0, 4, .w1c, 0x0⟩]⟩,
   ⟨"EVT.CNTk", 0x400040010, [(0x4, 8)], [⟨0, 32, .rw, 0x0⟩]⟩,
   ⟨"EVT.LSELb_LO", 0x400040040, [(0x8, 8)], [⟨0, 32, .rwp, 0x0⟩]⟩,
   ⟨"EVT.LSELb_HI", 0x400040044, [(0x8, 8)], [⟨0, 32, .rwp, 0x0⟩]⟩,
   ⟨"EVT.LINEw", 0x400040100, [(0x4, 16)], [⟨0, 32, .ro, 0x0⟩]⟩,
   ⟨"EVT.CONSc_EN", 0x400041000, [(0x10, 256)], [⟨0, 16, .rwp, 0x0⟩, ⟨16, 1, .w1c, 0x0⟩, ⟨17, 1, .w1c, 0x0⟩, ⟨18, 1, .ro, 0x0⟩]⟩,
   ⟨"EVT.CONSc_JLO", 0x400041004, [(0x10, 256)], [⟨0, 32, .rwp, 0x0⟩]⟩,
   ⟨"EVT.CONSc_JHI", 0x400041008, [(0x10, 256)], [⟨0, 32, .rwp, 0x0⟩]⟩,
   ⟨"EVT.CELLj_CFG", 0x400042000, [(0x10, 64)], [⟨0, 16, .rwp, 0x0⟩, ⟨16, 2, .rwp, 0x0⟩, ⟨18, 1, .rwp, 0x0⟩, ⟨19, 1, .rwp, 0x0⟩, ⟨20, 1, .rwp, 0x0⟩, ⟨21, 1, .ro, 0x0⟩]⟩,
   ⟨"EVT.CELLj_IN", 0x400042004, [(0x10, 64)], [⟨0, 5, .rwp, 0x0⟩, ⟨8, 5, .rwp, 0x0⟩, ⟨16, 5, .rwp, 0x0⟩, ⟨24, 5, .rwp, 0x0⟩]⟩,
   ⟨"EVT.CELLj_FILT", 0x400042008, [(0x10, 64)], [⟨0, 16, .rwp, 0x1⟩]⟩]

/-- The registers of the BIAS group. -/
def regsBias : List RegDesc :=
  [
⟨"BIAS.STATUS", 0x400060000, [], [⟨0, 1, .ro, 0x0⟩, ⟨1, 1, .w1c, 0x0⟩]⟩,
   ⟨"BIAS.LOAD", 0x400060004, [], [⟨0, 8, .wo, 0x0⟩]⟩,
   ⟨"BIAS.GRP_CFG", 0x400060008, [], [⟨0, 8, .rw, 0x0⟩]⟩,
   ⟨"BIAS.PANEL", 0x400060010, [], [⟨0, 16, .ro, 0x0⟩, ⟨16, 1, .ro, 0x1⟩, ⟨17, 1, .ro, 0x1⟩]⟩,
   ⟨"BIAS.LED", 0x400060014, [], [⟨0, 4, .rw, 0x0⟩, ⟨4, 4, .rw, 0x0⟩]⟩,
   ⟨"BIAS.CH0_CTL", 0x400060100, [(0x40, 64)], [⟨0, 1, .wo, 0x0⟩, ⟨1, 1, .wo, 0x0⟩, ⟨2, 1, .rw, 0x0⟩, ⟨3, 1, .ro, 0x1⟩, ⟨4, 1, .ro, 0x0⟩, ⟨5, 1, .ro, 0x0⟩, ⟨6, 1, .ro, 0x0⟩, ⟨7, 3, .ro, 0x0⟩]⟩,
   ⟨"BIAS.CH0_CFG", 0x400060104, [(0x40, 64)], [⟨0, 14, .rw, 0x1⟩, ⟨14, 1, .rw, 0x0⟩, ⟨15, 3, .rw, 0x0⟩, ⟨18, 1, .rw, 0x0⟩, ⟨19, 1, .rw, 0x0⟩]⟩,
   ⟨"BIAS.CH0_SAFE", 0x400060108, [(0x40, 64)], [⟨0, 20, .rw, 0x0⟩, ⟨20, 1, .rw, 0x0⟩, ⟨21, 10, .rw, 0x1⟩]⟩,
   ⟨"BIAS.CH0_CODE", 0x40006010C, [(0x40, 64)], [⟨0, 20, .rw, 0x0⟩]⟩,
   ⟨"BIAS.CH0_TARGET", 0x400060110, [(0x40, 64)], [⟨0, 20, .ro, 0x0⟩]⟩,
   ⟨"BIAS.CH0_RANGE", 0x400060114, [(0x40, 64)], [⟨0, 20, .rw, 0x0⟩, ⟨20, 3, .rw, 0x0⟩]⟩,
   ⟨"BIAS.CH0_SIN_FTW", 0x400060118, [(0x40, 64)], [⟨0, 32, .rw, 0x0⟩]⟩,
   ⟨"BIAS.CH0_SIN_AMP", 0x40006011C, [(0x40, 64)], [⟨0, 24, .rw, 0x0⟩]⟩,
   ⟨"BIAS.CH0_MONV", 0x400060120, [(0x40, 64)], [⟨0, 32, .ro, 0x0⟩]⟩,
   ⟨"BIAS.CH0_MONI", 0x400060124, [(0x40, 64)], [⟨0, 32, .ro, 0x0⟩]⟩,
   ⟨"BIAS.CH0_SUP", 0x400060128, [(0x40, 64)], [⟨0, 16, .rw, 0x0⟩, ⟨16, 16, .rw, 0x0⟩]⟩,
   ⟨"BIAS.CH0_FLAGS", 0x40006012C, [(0x40, 64)], [⟨0, 1, .w1c, 0x0⟩, ⟨1, 1, .w1c, 0x0⟩, ⟨2, 1, .w1c, 0x0⟩]⟩]

/-- The registers of the SENSE group. -/
def regsSense : List RegDesc :=
  [
⟨"SENSE.CTL", 0x400070000, [], [⟨0, 1, .rw, 0x0⟩, ⟨8, 5, .rw, 0x0⟩]⟩,
   ⟨"SENSE.STATUS", 0x400070004, [], [⟨0, 5, .ro, 0x0⟩, ⟨5, 1, .ro, 0x0⟩]⟩,
   ⟨"SENSE.SCANe_A", 0x400070100, [(0x8, 32)], [⟨0, 4, .rw, 0x0⟩, ⟨4, 2, .rw, 0x0⟩, ⟨6, 4, .rw, 0x0⟩, ⟨10, 2, .rw, 0x0⟩, ⟨12, 7, .rw, 0x3⟩, ⟨19, 3, .rw, 0x0⟩, ⟨22, 1, .rw, 0x0⟩]⟩,
   ⟨"SENSE.SCANe_B", 0x400070104, [(0x8, 32)], [⟨0, 16, .rw, 0x1⟩, ⟨16, 8, .rw, 0x0⟩, ⟨24, 2, .rw, 0x0⟩]⟩,
   ⟨"SENSE.CHc_RES", 0x400070400, [(0x20, 16)], [⟨0, 32, .ro, 0x0⟩]⟩,
   ⟨"SENSE.CHc_TEMP", 0x400070404, [(0x20, 16)], [⟨0, 32, .ro, 0x0⟩]⟩,
   ⟨"SENSE.CHc_LEAD", 0x400070408, [(0x20, 16)], [⟨0, 32, .ro, 0x0⟩]⟩,
   ⟨"SENSE.CHc_FLAGS", 0x40007040C, [(0x20, 16)], [⟨0, 1, .w1c, 0x0⟩, ⟨1, 1, .ro, 0x1⟩, ⟨2, 1, .w1c, 0x0⟩, ⟨3, 1, .w1c, 0x0⟩, ⟨4, 1, .w1c, 0x0⟩, ⟨5, 1, .w1c, 0x0⟩, ⟨6, 1, .w1c, 0x0⟩, ⟨16, 5, .ro, 0x0⟩]⟩,
   ⟨"SENSE.CHc_CM", 0x400070410, [(0x20, 16)], [⟨0, 16, .rw, 0x8000⟩, ⟨16, 16, .rw, 0x7FFF⟩]⟩,
   ⟨"SENSE.LOOPk_CFG", 0x400070800, [(0x20, 2)], [⟨0, 4, .rw, 0x0⟩, ⟨4, 1, .rw, 0x0⟩, ⟨5, 1, .rw, 0x0⟩, ⟨6, 1, .rw, 0x0⟩, ⟨7, 1, .rw, 0x0⟩]⟩,
   ⟨"SENSE.LOOPk_LO", 0x400070804, [(0x20, 2)], [⟨0, 32, .rw, 0x0⟩]⟩,
   ⟨"SENSE.LOOPk_HI", 0x400070808, [(0x20, 2)], [⟨0, 32, .rw, 0x0⟩]⟩,
   ⟨"SENSE.LOOPk_STAT", 0x40007080C, [(0x20, 2)], [⟨0, 16, .ro, 0x0⟩, ⟨16, 1, .w1c, 0x0⟩, ⟨17, 1, .ro, 0x0⟩]⟩,
   ⟨"SENSE.LSETs_Cw", 0x400071000, [(0x80, 8), (0x4, 32)], [⟨0, 32, .rw, 0x0⟩]⟩]

/-- The registers of the THERM group. -/
def regsTherm : List RegDesc :=
  [
⟨"THERM.STATUS", 0x400080000, [], [⟨0, 10, .ro, 0x0⟩, ⟨10, 5, .ro, 0x0⟩, ⟨15, 2, .ro, 0x0⟩, ⟨17, 1, .ro, 0x1⟩]⟩,
   ⟨"THERM.FLAGS", 0x400080004, [], [⟨0, 1, .w1c, 0x0⟩, ⟨1, 1, .w1c, 0x0⟩, ⟨2, 1, .w1c, 0x0⟩, ⟨3, 1, .w1c, 0x0⟩, ⟨4, 1, .w1c, 0x0⟩, ⟨5, 1, .w1c, 0x0⟩]⟩,
   ⟨"THERM.LIMIT", 0x400080008, [], [⟨0, 8, .rw, 0x64⟩, ⟨8, 8, .rw, 0x6E⟩, ⟨16, 8, .rw, 0x76⟩, ⟨24, 8, .rw, 0xA⟩]⟩,
   ⟨"THERM.RISE", 0x40008000C, [], [⟨0, 8, .rw, 0x6⟩, ⟨8, 8, .rw, 0x28⟩, ⟨16, 16, .rw, 0x3E8⟩]⟩,
   ⟨"THERM.SENSEs", 0x400080100, [(0x4, 32)], [⟨0, 10, .ro, 0x0⟩, ⟨10, 1, .ro, 0x0⟩, ⟨11, 2, .ro, 0x0⟩]⟩,
   ⟨"THERM.DIODEk", 0x400080180, [(0x4, 2)], [⟨0, 10, .ro, 0x0⟩, ⟨10, 1, .ro, 0x0⟩, ⟨11, 8, .rw, 0x0⟩, ⟨19, 1, .rw, 0x0⟩]⟩]

/-- The registers of the AGE group. -/
def regsAge : List RegDesc :=
  [
⟨"AGE.STATUS", 0x400090000, [], [⟨0, 1, .ro, 0x0⟩, ⟨1, 1, .w1c, 0x0⟩, ⟨2, 1, .ro, 0x0⟩, ⟨3, 1, .w1c, 0x0⟩, ⟨4, 1, .w1c, 0x0⟩, ⟨5, 1, .ro, 0x0⟩]⟩,
   ⟨"AGE.PLAN", 0x400090004, [], [⟨0, 32, .ro, 0x0⟩]⟩,
   ⟨"AGE.PLAN_PEND", 0x400090008, [], [⟨0, 32, .ro, 0x0⟩]⟩,
   ⟨"AGE.DOMd", 0x400090010, [(0x4, 4)], [⟨0, 8, .ro, 0x0⟩, ⟨8, 8, .ro, 0x0⟩, ⟨16, 8, .ro, 0x0⟩, ⟨24, 7, .rw, 0x0⟩]⟩,
   ⟨"AGE.CFG", 0x400090020, [], [⟨0, 8, .rw, 0x28⟩, ⟨8, 4, .rw, 0x4⟩, ⟨12, 8, .rw, 0x19⟩]⟩,
   ⟨"AGE.LIFE", 0x400090024, [], [⟨0, 16, .ro, 0x0⟩]⟩,
   ⟨"AGE.LEDGER", 0x400090028, [], [⟨0, 16, .ro, 0x0⟩, ⟨16, 16, .ro, 0x0⟩]⟩,
   ⟨"AGE.LEDGER_SEQ", 0x40009002C, [], [⟨0, 32, .ro, 0x0⟩]⟩]

/-- The registers of the PORTER group. -/
def regsPorter : List RegDesc :=
  [
⟨"PORTER.CMD", 0x4000A0000, [], [⟨0, 8, .wo, 0x0⟩, ⟨8, 11, .wo, 0x0⟩]⟩,
   ⟨"PORTER.STATUS", 0x4000A0004, [], [⟨0, 1, .ro, 0x0⟩, ⟨1, 1, .w1c, 0x0⟩, ⟨2, 4, .ro, 0x0⟩, ⟨16, 11, .ro, 0x0⟩]⟩,
   ⟨"PORTER.LC", 0x4000A0008, [], [⟨0, 3, .ro, 0x0⟩, ⟨4, 4, .ro, 0x0⟩, ⟨8, 1, .ro, 0x0⟩, ⟨16, 7, .ro, 0x0⟩]⟩,
   ⟨"PORTER.SERIAL_LO", 0x4000A000C, [], [⟨0, 32, .ro, 0x0⟩]⟩,
   ⟨"PORTER.SERIAL_HI", 0x4000A0010, [], [⟨0, 32, .ro, 0x0⟩]⟩,
   ⟨"PORTER.MBOXw", 0x4000A0400, [(0x4, 256)], [⟨0, 32, .rw, 0x0⟩]⟩]

/-- The registers of the LINK group. -/
def regsLink : List RegDesc :=
  [
⟨"LINK.TREE", 0x4000B0000, [], [⟨0, 2, .ro, 0x0⟩, ⟨2, 6, .ro, 0x0⟩, ⟨8, 1, .w1c, 0x0⟩, ⟨9, 1, .w1c, 0x0⟩, ⟨10, 6, .ro, 0x0⟩, ⟨16, 16, .rw, 0x0⟩]⟩,
   ⟨"LINK.CARTERp", 0x4000B0010, [(0x4, 5)], [⟨0, 2, .ro, 0x0⟩, ⟨2, 1, .w1c, 0x0⟩, ⟨16, 16, .rw, 0x0⟩]⟩,
   ⟨"LINK.REACH_LO", 0x4000B0030, [], [⟨0, 32, .ro, 0x0⟩]⟩,
   ⟨"LINK.REACH_HI", 0x4000B0034, [], [⟨0, 32, .ro, 0x0⟩]⟩]

/-- The LOOM device-wide registers and the aliases appear in every Bench's view; the model keeps them at Bench 0's
offset (05, Segment registers: "A write through any view reaches the one register"). -/
def canonOff (off : Nat) : Nat :=
  if 0x400100000 ≤ off && decide (off < 0x400900000) then
    let r := (off - 0x400100000) % 0x100000
    if 0x18000 ≤ r && decide (r < 0x20000) then 0x400100000 + r else off
  else off

/-- The register group that the aperture offset falls in (R445). -/
def regGroup (off : Nat) : List RegDesc :=
  if off < 0x400000000 then []
  else if off < 0x400010000 then regsTop
  else if off < 0x400020000 then regsTime
  else if off < 0x400030000 then regsMem
  else if off < 0x400040000 then regsDec
  else if off < 0x400050000 then regsEvt
  else if off < 0x400060000 then regsTally
  else if off < 0x400070000 then regsBias
  else if off < 0x400080000 then regsSense
  else if off < 0x400090000 then regsTherm
  else if off < 0x4000A0000 then regsAge
  else if off < 0x4000B0000 then regsPorter
  else if off < 0x4000C0000 then regsLink
  else if off < 0x400100000 then []
  else if off < 0x400900000 then
    let r := (off - 0x400100000) % 0x100000
    if r < 0x10000 then regsBench
    else if r < 0x11000 then regsLoom
    else if r < 0x12000 then regsLane
    else if r < 0x20000 then regsLoom
    else if r < 0x23000 then regsOut
    else if r < 0x30000 then regsOutb
    else if r < 0x40000 then regsRead
    else if r < 0x80000 then regsAssay
    else if r < 0x90000 then regsFm
    else []
  else []

/-- The register implemented at an aperture offset, if any (R445: other offsets are dropped or read 0). -/
def regAt (off : Nat) : Option RegDesc :=
  (regGroup off).find? (·.hits off)

/-- The reset word of a register: each field at its Reset column. -/
def fieldsReset : List RegField → Nat
  | [] => 0
  | f :: fs => f.rst * 2 ^ f.lo + fieldsReset fs

/-- What the aperture word at `off` holds when nothing has been written since reset: the Reset column of its register
(R10 tables), 0 for every memory window. Tap 0 of each flux FIR resets to 1.0 (R189). -/
def apReset (off : Nat) : Word :=
  match regAt off with
  | none => 0
  | some d =>
    if d.base == 0x400124040 && (off - 0x400124040) % 0x100 == 0 then 0x10000
    else BitVec.ofNat 32 (fieldsReset d.fields)

/-- The ranges of the memory windows held word by word in the aperture store (R446, R261, R119). -/
def isWindow (off : Nat) : Bool :=
  (decide (0x410000000 ≤ off) && decide (off < 0x410400000)) ||
  (decide (0x420000000 ≤ off) && decide (off < 0x421000000)) ||
  (decide (0x430000000 ≤ off) && decide (off < 0x438000000))

/-- The parts of a Bench memory window (R446). -/
inductive WinPart where
  | laneProg | kernel | assayProg | assayX | assayY | control
  deriving DecidableEq, Repr

/-- The part of a Bench memory window that an offset within it reaches, or none (R446). -/
def winPart (r : Nat) : Option WinPart :=
  if r < 0x40000 then some .laneProg
  else if 0x400000 ≤ r && decide (r < 0x600000) then some .kernel
  else if 0x600000 ≤ r && decide (r < 0x680000) then
    let q := (r - 0x600000) % 0x20000
    if q < 0x8000 then some .assayProg
    else if q < 0x10000 then some .assayX
    else some .assayY
  else if 0x800000 ≤ r && decide (r < 0x900000) then some .control
  else none

namespace R
/-- Word `i` (32-bit half `h`) of the lane program memory of Bench `b` (R446). -/
def LANE_PROG (b i h : Nat) : Nat := 0x430000000 + 0x1000000 * b + 8 * i + 4 * h
/-- Kernel weight `i` of Bench `b` (R211). -/
def KERNEL (b i : Nat) : Nat := 0x430400000 + 0x1000000 * b + 4 * i
/-- Half `h` of program bundle `i` of engine `e` (R224). -/
def ASSAY_PROG (b e i h : Nat) : Nat := 0x430600000 + 0x1000000 * b + 0x20000 * e + 8 * i + 4 * h
/-- Half `h` of X word `i` of engine `e` (R224). -/
def ASSAY_X (b e i h : Nat) : Nat := 0x430608000 + 0x1000000 * b + 0x20000 * e + 8 * i + 4 * h
/-- 32-bit part `h` of Y word `i` of engine `e` (R224). -/
def ASSAY_Y (b e i h : Nat) : Nat := 0x430610000 + 0x1000000 * b + 0x20000 * e + 16 * i + 4 * h
/-- 32-bit part `h` of control-store word `w` (R303). -/
def CONTROL (b w h : Nat) : Nat := 0x430800000 + 0x1000000 * b + 32 * w + 4 * h
/-- The 32-bit word that holds OLT entry `i` (R261); the entry is its half `i % 2`. -/
def OLT (i : Nat) : Nat := 0x410000000 + 4 * (i / 2)
/-- Word `w` of the directory entry of segment `n` (R119). -/
def SEGDIR (n w : Nat) : Nat := 0x420000000 + 16 * n + 4 * w
end R

end Sys2Proof.Machine
end

