-- ==== Sys2Proof/Machine/State.lean ====
section
/-!
DEFINITION. The state of the IXQ256: everything the specification gives the device, as plain data. Software-visible
registers and memory windows live in the aperture store `ap` (one word per offset, default `apReset`), waveform memory
in `mem`; what registers only report (sequencers, queues, engines, timers) is held below in typed form. Fields that the
specification does not name and the model needs (clock phases, due ticks, the outbox, the free-value counter) say so.
-/
namespace Sys2Proof.Machine

/-! ### 01, 02: clocks, modes and transitions -/

/-- The twelve modes (R40). -/
inductive Mode where
  | dormant | boot | sanitise | pattern | trim | idle | keep | armed | run | hold | service | latched
  deriving DecidableEq, Repr

/-- The encoding of TOP.MODE.MODE (R40). -/
def Mode.code : Mode → Nat
  | .dormant => 0 | .boot => 1 | .sanitise => 2 | .pattern => 3 | .trim => 4 | .idle => 5
  | .keep => 6 | .armed => 7 | .run => 8 | .hold => 9 | .service => 10 | .latched => 11

/-- The clocks (R7, R21, R22, R109, R486). `now` counts physical ticks and is the model's own, for durations. -/
structure Clocks where
  /-- TIME (R88), kept below 2^64. -/
  time : Nat := 0
  /-- Physical ticks elapsed; the model's own clock, by which durations are measured. -/
  now : Nat := 0
  /-- Ticks since the last REFCLK rising edge, 0 to 29 (R7). -/
  phRef : Nat := 0
  /-- Ticks since the last AON edge, 0 to 119 (R7). -/
  phAon : Nat := 0
  /-- The core PLL runs (R21). -/
  core : Bool := false
  /-- The core dividers are aligned, so TIME advances by 1 per tick (R22). -/
  aligned : Bool := false
  /-- The physical tick by which the dividers of the running core PLL are aligned (R22); 0 where none is set. -/
  alignBy : Nat := 0
  /-- The AON count of a loss of REFCLK (R109): TIME at the declaration, with 120 for each AON cycle since the last edge
  seen; and the AON edges since the declaration. -/
  edgeTime : Nat := 0
  aonSince : Nat := 0
  /-- The physical tick at which the loss of REFCLK was declared (R109). -/
  lostAt : Nat := 0
  /-- The converter PLL runs (R21). -/
  conv : Bool := false
  /-- A stop of the fast clocks waits for the next REFCLK edge (R22). -/
  stopPend : Bool := false
  /-- TIME takes the next multiple of 30 at the next REFCLK edge (R109, R486). -/
  snapPend : Bool := false
  /-- REFCLK is present (R107, R109); the REF_LOSS of cause 1 and REFCLK_RETURN move it. -/
  refclk : Bool := true
  deriving DecidableEq, Repr

/-- How a transition in progress completes (R45). -/
inductive TransKind where
  /-- A timed transition that TRANSITION_DONE completes. -/
  | timed
  /-- The offset writes before the PLL lock step of an entry to ARMED, which the first ARMED_ENTRY_DONE ends (R50). -/
  | offsets
  /-- The entry to ARMED that ARMED_ENTRY_DONE completes (R50). -/
  | armedEntry
  /-- Leaving KEEP; `toArmed` says whether the entry to ARMED follows (R51). -/
  | keepExit (toArmed : Bool)
  deriving DecidableEq, Repr

/-- A transition in progress: TOP.MODE.TRANSIT and TARGET (R47). -/
structure Transit where
  src : Mode
  dst : Mode
  kind : TransKind
  /-- Physical tick before which it does not complete. -/
  due : Nat
  /-- The cause that its MODE mark carries: the code of MODE_ERR where an entry to ARMED was ended (R487, R369). -/
  cause : Nat := 0
  deriving DecidableEq, Repr

/-- A HOLD that waits for the shot boundary in RUN (R52). -/
structure HoldReq where
  /-- A software HOLD request, or an IDLE or SERVICE request carried out as one (R46). -/
  soft : Bool := false
  /-- A SHED action asked for it (R425). -/
  shed : Bool := false
  /-- BUDGET_SHORT asked for it (R48). -/
  budget : Bool := false
  /-- The mode that follows once HOLD is reached (R46). -/
  follow : Option Mode := none
  /-- Physical tick of the SHED deadline (R425). -/
  shedDue : Nat := 0
  /-- Benches whose SHOT has taken effect since the request (R52), one bit each. -/
  reached : Nat := 0
  deriving DecidableEq, Repr

/-- The TRIM selections of MODE_REQ (02). -/
structure TrimSel where
  conv : Bool := false
  skew : Bool := false
  survey : Bool := false
  full : Bool := false
  /-- The echo measurements of SKEW still to run, one bit per Crier port (R99). -/
  ports : Nat := 0
  /-- The survey has completed or been discarded (R430). -/
  surveyDone : Bool := false
  deriving DecidableEq, Repr

/-- A Bench's run state beyond its registers (R36, R38, R63). -/
structure BenchSt where
  /-- STATUS.STOPPING: a disable has not reached every boundary (R36). -/
  stopping : Bool := false
  /-- STATUS.EN_PEND (R38). -/
  enPend : Bool := false
  /-- A Bench reset waits for quiet, then for its wipe (R63). -/
  resetPend : Bool := false
  /-- Physical tick at which the 6 µs wipe ends; 0 before the Bench is quiet (R63). -/
  wipeDue : Nat := 0
  /-- A POISON mark took a SEQ since the Bench's last SHOT mark (R371). -/
  poisoned : Bool := false
  /-- The physical tick of the Bench's last SHOT, plus one (R369). -/
  shotAt : Nat := 0
  /-- A shot begins at the next tick (R196). -/
  fresh : Bool := false
  /-- The first strobe after the start condition has been issued (R45). -/
  firstStrobe : Bool := false
  deriving DecidableEq, Repr

/-! ### 03: Pattern loads -/

/-- The phase of a load (TOP.PAT_STATUS.PHASE). -/
inductive LoadPhase where
  | check | apply
  deriving DecidableEq, Repr

/-- A Pattern load in progress (R75 to R83). -/
structure Load where
  overlay : Bool
  phase : LoadPhase
  /-- PAT_SRC and PAT_LEN when START was written. -/
  src : Nat
  len : Nat
  /-- A Bench reset held until the apply phase ends (R86), one bit per Bench. -/
  heldReset : Nat := 0
  deriving DecidableEq, Repr

/-- A budget record (R84, R491), by Bench and by Crier port. -/
structure Budget where
  rt : List Nat := []
  tally : List Nat := []
  olt : List Nat := []
  slots : List Nat := []
  ports : List Nat := []
  deriving DecidableEq, Repr

/-- What the present Pattern leaves beside its registers and stores: the budget record in force (R84), and SEALED
(R74). -/
structure PatSt where
  budget : Budget := {}
  isSealed : Bool := false
  deriving DecidableEq, Repr

/-! ### 04: Epoch, echo and triggers -/

/-- An Epoch between its capture edge and its load edge (R90). -/
structure EpochCap where
  /-- Physical tick of the load edge, 60 ticks after the capture edge. -/
  loadAt : Nat
  /-- The TDC result, latched 30 ticks after the capture edge (R90, R93). -/
  arrival : Nat := 0
  /-- The device was in ARMED at the capture edge (R304). -/
  armed : Bool
  deriving DecidableEq, Repr

/-- An echo measurement under way (R98, R99). -/
structure Echo where
  port : Nat
  /-- log2 of the number of exchanges. -/
  count : Nat
  /-- Exchanges recorded so far. -/
  got : Nat := 0
  sumRtt : Int := 0
  sumOfs : Int := 0
  /-- Physical tick at which the present request times out (30,000 ticks after it was sent). -/
  due : Nat
  deriving DecidableEq, Repr

/-- A scheduled edge of an output trigger line (R106): the time in sixteenths of a tick and the level driven. -/
structure TrigEdge where
  line : Nat
  at16 : Int
  level : Bool
  deriving DecidableEq, Repr

/-- The timebase beyond its registers. -/
structure TimeSt where
  /-- Captured Epochs whose load edge has not come, oldest first (R90). -/
  epoch : List EpochCap := []
  /-- The expected load edge last reported missed, plus one (R92). -/
  missed : Nat := 0
  /-- TIME at the last load edge since the timeline was set (R92). -/
  lastEdge : Option Nat := none
  echo : Option Echo := none
  /-- Levels driven on the output trigger lines, one bit each. -/
  trigLevel : Nat := 0
  /-- Edges waiting for their time (R106). -/
  trigQ : List TrigEdge := []
  /-- The arrival of the last timestamped edge of each input line, in sixteenths of a physical tick, offset by one so
  that 0 means none (R104). -/
  trigLast : NMap Nat := []
  /-- The EPOCH_TRIM and FDLY values in force, applied at an entry to ARMED or in a gap (R100, R101). -/
  trimNow : Int := 0
  fdlyNow : NMap Int := []
  deriving DecidableEq, Repr

/-! ### 05: segments, caches and streams -/

/-- A requester's staging descriptor (R120): words 0 to 2 as far as staged, and the ID they were staged for. -/
structure DescStage where
  words : NMap Nat := []
  ids : List Nat := []
  deriving DecidableEq, Repr

/-- The page hint of a memory request (R337). -/
inductive PageHint where
  | open_ | close | auto
  deriving DecidableEq, Repr

/-- A request for a granule that has not arrived (R133, R339): the granule, the physical tick of its issue, how many later
requests have passed it, and its hint (R337). -/
structure Ask where
  gran : Nat
  at_ : Nat
  passed : Nat := 0
  hint : PageHint := .close
  deriving DecidableEq, Repr

/-- Granules on their way into a streaming window or a transient copy (R126, R133). -/
structure Fetch where
  seg : Nat
  /-- Serial of the play it serves, for a stream; 0 for a transient copy. -/
  ser : Nat := 0
  /-- The first address, the bytes per granule and the number of granules. -/
  addr : Nat
  gran : Nat
  total : Nat
  /-- Requests go on from this granule; those below it have been requested or cancelled (R136). -/
  asked : Nat := 0
  /-- Granules requested and not arrived, oldest first. -/
  out : List Ask := []
  /-- The granules present: their bytes as a little-endian number, plus one. -/
  got : NMap Nat := []
  deriving DecidableEq, Repr

/-- A transient copy in the segment cache (R124, R126): its space in 4 KiB units, its last use, and its fetch. -/
structure Transient where
  seg : Nat
  units : Nat
  used : Nat
  fetch : Fetch
  deriving DecidableEq, Repr

/-- An entry of the directory cache with the tick of its last use (R121). -/
structure DirEntry where
  seg : Nat
  used : Nat
  deriving DecidableEq, Repr

/-- A descriptor read under way (R121): who waits is found in the lanes. `at_` is the physical tick, plus one, at which its
request took a slot of its port (R328), 0 while it waits for one; `passed` as for a granule. -/
structure DirMiss where
  seg : Nat
  at_ : Nat := 0
  passed : Nat := 0
  deriving DecidableEq, Repr

/-- A streaming window (R133): its size in bytes and its streams in issue order. -/
structure Window where
  size : Nat := 0
  streams : List Fetch := []
  panic : Bool := false
  deriving DecidableEq, Repr

/-- The Loom of one Bench beyond its lanes. -/
structure Loom where
  dir : List DirEntry := []
  misses : List DirMiss := []
  transients : List Transient := []
  windows : NMap Window := []
  /-- Resident copies (R124): the stored bytes of a segment as a little-endian number. -/
  residents : NMap Nat := []
  /-- Lane instructions executed in a tick (R140): its TIME plus one, and their number. -/
  execAt : Nat × Nat := (0, 0)
  /-- LEAD and PANIC of STREAM_CFG as the last entry to ARMED took them (05). -/
  lead : Nat := 16
  panicAt : Nat := 16
  deriving DecidableEq, Repr

/-- The device-wide segment state (R120, R125, R131). -/
structure Segs where
  stages : NMap DescStage := []
  /-- Bench mask of each RESIDENT segment (R125). -/
  resident : NMap Nat := []
  /-- Segment IDs being retired, in order of request (R131). -/
  retiring : List Nat := []
  deriving DecidableEq, Repr

/-! ### 06: lanes -/

/-- The lane states (LANEm_STATUS.STATE). -/
inductive LaneSt where
  | off | ready | issuing | sync | wait | done | stopping
  deriving DecidableEq, Repr

/-- The encoding of LANEm_STATUS.STATE. -/
def LaneSt.code : LaneSt → Nat
  | .off => 0 | .ready => 1 | .issuing => 2 | .sync => 3 | .wait => 4 | .done => 5 | .stopping => 6

/-- What is known of a play's descriptor (R115, R121, R126). -/
inductive DescSt where
  /-- Awaited from the directory. -/
  | awaited
  /-- The play is good: its descriptor words. -/
  | good (ws : List Nat)
  /-- Invalid under R115. -/
  | bad
  /-- LOST is set (R115). -/
  | lost
  /-- The transient region cannot hold the segment (R126). -/
  | full
  deriving DecidableEq, Repr

/-- A play in a voice's queue (R150, R151). -/
structure Play where
  /-- Issue serial within the lane: items with a higher serial were issued later. -/
  ser : Nat
  start : Nat
  /-- PLAY ticks; 0 while the descriptor is awaited. -/
  len : Nat
  seg : Nat
  amp : Nat
  frame : Nat
  /-- PLAYX phase, 0.32 turns. -/
  phase : Nat := 0
  /-- The window serial it opens, with WIN (R204). -/
  win : Option Nat := none
  /-- The tick at which it was issued, or at which its descriptor arrived. -/
  issued : Nat
  desc : DescSt
  /-- The play names a segment, or an alias whose VALID was 1 at issue (R115). -/
  aliasOk : Bool := true
  started : Bool := false
  /-- The tick at which it ends: start + len, or earlier when cut (R152). -/
  ends : Nat
  /-- The tick at which a later play cuts it while its descriptor is still awaited (R152). -/
  cut : Option Nat := none
  /-- Granules that were missing at their need tick (R136). -/
  missed : List Nat := []
  /-- Granules that a stage buffer held for it (R162): their bytes as a number, plus one. -/
  pre : NMap Nat := []
  /-- The output sample from which it is zero, once its granule in progress is to be its last (R171, R195, R196), and
  the sample at which a linear ramp to it began. -/
  last : Option Nat := none
  ramp : Option Nat := none
  deriving DecidableEq, Repr

/-- A scheduled FRAME update (R179). -/
structure FrameUpd where
  ser : Nat
  at_ : Nat
  voice : Nat
  frm : Nat
  freq : Bool
  add : Bool
  value : Nat
  deriving DecidableEq, Repr

/-- A scheduled MARK (R150). -/
structure MarkUpd where
  ser : Nat
  at_ : Nat
  tal : Bool
  evt : Bool
  code : Nat
  line : Nat
  deriving DecidableEq, Repr

/-- A checkpoint (R160). -/
structure Checkpoint where
  pc : Nat
  cursor : Nat
  v : List Nat
  dr : Nat
  loops : List (Nat × Nat)
  /-- The lane's last window on the restored path (R144 SRC 0). -/
  lastWin : Option Nat
  deriving DecidableEq, Repr

/-- The scanned head of one alternative (R162): the instruction words found (offsets in the partition), and where the
scan ended. -/
structure Head where
  alt : Nat
  target : Nat
  /-- The plays with their voices; start ticks count from the boundary. -/
  plays : List (Nat × Play) := []
  frames : List FrameUpd := []
  endPc : Nat
  endCursor : Nat := 0
  deriving DecidableEq, Repr

/-- Staging of a pending branch (R162). -/
inductive StageSt where
  | none_ | staging (due : Nat) | staged
  deriving DecidableEq, Repr

/-- A pending branch (R158 to R163). -/
structure Branch where
  /-- Issue serial at its execution; items above it were issued on its default path. -/
  ser : Nat
  /-- The instruction word (R142) and its offset. -/
  word : Nat
  pc : Nat
  bnd : Nat
  chk : Checkpoint
  heads : List Head
  stage : StageSt
  /-- Render slots held from the lane's reservation and from the pool, and the number sought. -/
  resHeld : Nat := 0
  poolHeld : Nat := 0
  hot : Bool := false
  /-- The window whose decision it waits on (R144), as channel and serial. -/
  window : Option (Nat × Nat) := none
  /-- Serial of the pending WAITD that governs a BR on DR (R146). -/
  onWaitd : Option Nat := none
  /-- The settle tick and the source word, once the decision is known (R158). -/
  settled : Option (Nat × Nat) := none
  deriving DecidableEq, Repr

/-- Why the sequencer of an ISSUING or WAIT lane does not go on (R151, R153, R160). -/
inductive Stall where
  | none_ | queue (voice : Nat) | descriptor (seg : Nat)
  /-- Plays of a chosen head wait for queue entries (R161). -/
  | head
  deriving DecidableEq, Repr

/-- The strobes a lane can receive (R156). -/
inductive StrobeKind where
  | start | sync | flush | abort | poison | stop
  deriving DecidableEq, Repr

/-- A strobe on its way to a lane: when it arrives and the tick S it carries (R292). -/
structure Strobe where
  kind : StrobeKind
  arrive : Nat
  s : Nat
  deriving DecidableEq, Repr

/-- Render slots that a commit took or gave back, until they return (R167): a chosen one once its 64 ticks have entered the
output chain, an unchosen one at the commit. What returns at a tick can be granted from the next on (R320). -/
structure SlotRel where
  at_ : Nat
  res : Nat
  pool : Nat
  /-- The segments its alternative plays (R128), one for each slot. -/
  segs : List Nat := []
  deriving DecidableEq, Repr

/-- Stage buffers that a commit took or gave back, until they return: those of the chosen head once its 128 ticks have
entered the output chain (R163, R164), the others at the commit. -/
structure StageRel where
  at_ : Nat
  /-- A buffer's voice, and the segments it holds. -/
  bufs : List (Nat × List Nat) := []
  deriving DecidableEq, Repr

/-- A committed branch on a live source that was not taken (R168): COND 6 or 7, the GDS bit, the value that would take
it, and its boundary. -/
structure Watch where
  cond : Nat
  sel : Nat
  want : Bool
  bnd : Nat
  deriving DecidableEq, Repr

/-- A lane (R139). V0–V7 and the sticky flags and counters live in the aperture. -/
structure Lane where
  st : LaneSt := .off
  /-- TIME at which the state was entered. -/
  since : Nat := 0
  pc : Nat := 0
  cursor : Nat := 0
  dr : Nat := 0
  /-- Loop stack, innermost first: body offset and remaining count (R147). -/
  loops : List (Nat × Nat) := []
  event : Bool := false
  /-- The start tick of the present shot (R144), and the physical tick, plus one, in which its strobe came. -/
  start : Nat := 0
  startAt : Nat := 0
  /-- The next issue serial. -/
  ser : Nat := 1
  /-- First TIME at which the next instruction may execute (R140). -/
  next : Nat := 0
  stall : Stall := .none_
  /-- Play queues of the voices D, P and F, by start of issue (R151). -/
  plays : NMap (List Play) := []
  frames : List FrameUpd := []
  marks : List MarkUpd := []
  /-- Pending branches, oldest first (R160). -/
  branches : List Branch := []
  slots : List SlotRel := []
  stages : List StageRel := []
  /-- Plays of a chosen head that wait for a queue entry, with their voices, in order (R161). -/
  headQ : List (Nat × Play) := []
  /-- Serial of the window opened by the lane's last WIN play (R144). -/
  lastWin : Option Nat := none
  /-- First publication of each GDS bit after the start of the shot: tick and value (R144 SRC 2). -/
  gds : NMap (Option (Nat × Nat)) := []
  strobes : List Strobe := []
  /-- Where STOPPING ends: READY after an abort, OFF after a disable (R156, R171), and when. -/
  stopReady : Bool := false
  stopDue : Nat := 0
  /-- The lane is to become READY when its Bench is enabled (R172). -/
  enWait : Bool := false
  /-- Voices that have underrun in the present shot, one bit each (R136). -/
  underran : Nat := 0
  watches : List Watch := []
  /-- TIME of the last write of EN = 1, plus one (R172). -/
  enAt : Nat := 0
  deriving DecidableEq, Repr

/-! ### 07: output chains -/

/-- A frame of a tone (R178): P to 40 bits, F to 32 bits, and the reference tick. -/
structure Frame where
  p : Nat := 0
  f : Nat := 0
  t : Nat := 0
  deriving DecidableEq, Repr

/-- A tone: the frequency word in force and those committed for later ticks, oldest first (R177). -/
structure Tone where
  fw : Nat := 0
  nextFw : List (Nat × Nat) := []
  /-- The last 15 samples y of the tone, newest first (R174, R182). -/
  hist : List (Dy × Dy) := []
  deriving DecidableEq, Repr

/-- An RF converter: a range change under way ends at this TIME (R194). -/
structure Conv where
  changeEnd : Option Nat := none
  /-- Output current on (R195, R196), and TIME at which a park turns it off. -/
  on : Bool := false
  offAt : Option Nat := none
  /-- ISINC as the last entry to ARMED took it (R185). -/
  isinc : Bool := true
  /-- The last sums after the gain, newest first (R185); empty while they have all been zero. -/
  hist : List Dy := []
  deriving DecidableEq, Repr

/-- A flux DAC's tail corrector (R189, R190): s_k of the six sections and the last 47 values u, newest first; both empty
where the state is cleared to zero. -/
structure Flux where
  sec : List Dy := []
  fir : List Dy := []
  deriving DecidableEq, Repr

/-- The output chains of the device, by Bench and unit. -/
structure OutSt where
  /-- Tone u of Bench b at 64b + u; frame f at 256b + 4u + f. -/
  tones : NMap Tone := []
  frames : NMap Frame := []
  /-- Converter c of Bench b at 6b + c; flux DAC k at 16b + k. -/
  convs : NMap Conv := []
  flux : NMap Flux := []
  /-- Codes on their way to the balls of converter output i (as FDLYi): the physical tick at which each group of samples
  arrives, and the codes (R150, R187); groups of zeros are not listed. -/
  pipe : NMap (List (Nat × List Int)) := []
  /-- The codes of the present tick at the balls; an unlisted output converts code 0. -/
  balls : NMap (List Int) := []
  /-- SAFE_PARK of the device (R196). -/
  parked : Bool := false
  deriving DecidableEq, Repr

/-! ### 08: readout -/

/-- An integration window of a channel (R204, R212), from the issue of its play until its decision is known. -/
structure Win where
  /-- The model's serial of the window within its channel; SER is its low 8 bits once it opens (R212). -/
  ser : Nat
  /-- Lane and play serial of the opening play. -/
  lane : Nat
  play : Nat
  start : Nat
  /-- CHc_WIN, CHc_KCFG and CHc_TRACE as they stood when the play was issued (R204). -/
  wcfg : Nat
  kcfg : Nat
  tcfg : Nat
  /-- The first ADC sample, 4 × TIME + s. -/
  m0 : Int
  opened : Bool := false
  /-- SER, taken when the window opens or is refused (R212). -/
  num : Nat := 0
  /-- Its final or VOID entry has been formed. -/
  closed : Bool := false
  /-- Refused (R206) or ended early (R207). -/
  void_ : Bool := false
  /-- Decimated samples integrated so far and the exact sums of the four kernels, I and Q (R208). -/
  taken : Nat := 0
  sums : List (Int × Int) := []
  partials : Nat := 0
  /-- The frame and the PLAYX phase of the opening play (R202). -/
  frame : Nat := 0
  phase : Nat := 0
  /-- The place of its opening among the channel's openings (R213). -/
  order : Nat := 0
  /-- θ(m) of the samples so far, newest first, in units of 2^-54 turn (R202). -/
  theta : List Nat := []
  /-- The 12-bit ADC samples so far, oldest first (R198). -/
  adc : List Int := []
  /-- Weights of the channel overwritten since the window closed: what they were, plus one (R211). -/
  kold : NMap Nat := []
  inv : Bool := false
  clip : Bool := false
  /-- The engine owes it a decision (R218). -/
  owed : Bool := false
  /-- The decision: tick at which it was present at the lane, and word (R256). -/
  decided : Option (Nat × Nat) := none
  /-- Trace samples not yet offered, and the index of the first of them (R215, R370). -/
  traceAt : Nat := 0
  deriving DecidableEq, Repr

/-- A demodulation channel. -/
structure Chan where
  /-- Windows, oldest first. -/
  wins : List Win := []
  nextSer : Nat := 0
  /-- SER of the next window to open (R212). -/
  opens : Nat := 0
  deriving DecidableEq, Repr

/-- An ADC: an attenuator change under way ends at this TIME (R200). -/
structure Adc where
  changeEnd : Option Nat := none
  /-- The end of the last interval of invalid samples, as an ADC sample index; its start. -/
  badFrom : Int := 0
  badTo : Int := 0
  deriving DecidableEq, Repr

/-! ### 09: Assay engines -/

/-- The engine states (ASSAYe.STATUS.STATE); STOPPING is reported while a stop is requested. -/
inductive EngSt where
  | off | run | wait | rep | halted | fault
  deriving DecidableEq, Repr

/-- The encoding of ASSAYe.STATUS.STATE. -/
def EngSt.code : EngSt → Nat
  | .off => 0 | .run => 1 | .wait => 2 | .rep => 3 | .halted => 4 | .fault => 5

/-- A FIFO entry (R212): the header word and the four sums, each 36 bits. `win` is the model's window serial. -/
structure Entry where
  hdr : Nat
  sums : List Nat
  ch : Nat
  win : Nat
  at_ : Nat
  deriving DecidableEq, Repr

/-- The program-visible registers of an engine (R222): D as 36-bit words, A, BEST and NEXT as signed values, P, M, IDX,
LC, HDR and the flags Z, N, NQ, V, MX in bits 0 to 4. -/
structure AsRegs where
  d : NMap Nat := []
  a : NMap Int := []
  best : Int := 0
  next : Int := 0
  p : NMap Nat := []
  m : NMap Int := []
  idx : Nat := 0
  lc : Nat := 0
  hdr : Nat := 0
  flags : Nat := 0
  deriving DecidableEq, Repr

/-- An automatic answer waiting for the port (R219, R220): Bench channel and window. -/
structure Answer where
  ch : Nat
  win : Nat
  /-- The channel's lost latch is set for it (R213, R219). -/
  lost : Bool := false
  deriving DecidableEq, Repr

/-- A window write of an X or Y word at tick `at_` (R224): the bundles of its assay cycle still read `old`. -/
structure XyLate where
  y : Bool
  word : Nat
  at_ : Nat
  old : Nat
  deriving DecidableEq, Repr

/-- An Assay engine (09). -/
structure Engine where
  st : EngSt := .off
  pc : Nat := 0
  stack : List Nat := []
  regs : AsRegs := {}
  /-- The registers as the present bundle leaves them: written by its slots, taken at its end (R226). -/
  shadow : AsRegs := {}
  /-- Slots of the present bundle already performed: bit 0 control, bit 1 MAC, bit 2 address. -/
  done : Nat := 0
  /-- The next address, once the control slot has set it, and the extra cycle of a taken branch (R227). -/
  nxt : Nat := 0
  taken : Bool := false
  /-- A register write to BEST and NEXT saturated in this bundle (R234). -/
  sat : Bool := false
  /-- TIME at which the present bundle's cycle starts. -/
  cyc : Nat := 0
  /-- Repetitions of the bundle at PC still to run (R246), and those done in this REP. -/
  rep : Nat := 0
  repDone : Nat := 0
  /-- TIME at which the present WAITIN began to wait; none while it does not (R231). -/
  waitFrom : Option Nat := none
  fifo : List Entry := []
  /-- Channel and window of the entry in HDR; none before the first pop. -/
  cur : Option (Nat × Nat) := none
  /-- Automatic answers due (R219). -/
  answers : List Answer := []
  /-- An X write of the present bundle (R242). -/
  xw : Option (Nat × Nat) := none
  /-- The X and Y words that window writes have committed since the present bundle began, oldest first (R224, R242). -/
  xyLate : List XyLate := []
  /-- A trap is requested (R248); the engine stops at its next boundary (R244); HALT or a fault ends it (R245, R249). -/
  trapReq : Bool := false
  stopReq : Bool := false
  halted : Bool := false
  faulted : Nat := 0
  /-- The cycle in which the last automatic answer left, plus one, and how many left in it (R220). -/
  ansCyc : Nat := 0
  ansCount : Nat := 0
  deriving DecidableEq, Repr

/-- A staging word of the X or Y memory window, per requester (R224): the word's offset and its lower half. -/
structure XyStage where
  word : Nat
  low : Nat
  deriving DecidableEq, Repr

/-! ### 10: decisions -/

/-- A word on a Bench's decision bus (R220, R256): it is present at `due`. -/
structure BusWord where
  bench : Nat
  ch : Nat
  win : Nat
  word : Nat
  due : Nat
  deriving DecidableEq, Repr

/-- A lookup tag (R262). -/
inductive TagSt where
  | idle | armed | ready | done
  deriving DecidableEq, Repr

structure Tag where
  st : TagSt := .idle
  /-- Inputs collected: Bench channels, and whether TGDS has been. -/
  chans : Nat := 0
  gds : Bool := false
  /-- The tick of arming and of the last input (R263). -/
  armTick : Nat := 0
  readyTick : Nat := 0
  act : Nat := 0
  idx : Nat := 0
  /-- The tick at which the action is present (R263). -/
  actTick : Nat := 0
  deriving DecidableEq, Repr

/-- A looked-up action on its way (R263, R264). -/
structure OltAct where
  bench : Nat
  tag : Nat
  idx : Nat
  act : Nat
  due : Nat
  deriving DecidableEq, Repr

/-- An update in a Crier queue: GDS index, value and the tick it entered (R274). -/
structure Upd where
  idx : Nat
  val : Bool
  at_ : Nat
  deriving DecidableEq, Repr

/-- A Crier port (R272 to R277): own queue, relay queues by row port, the SEQ counters, link and pair state. -/
structure Crier where
  own : List Upd := []
  relay : NMap (List Upd) := []
  up : Bool := false
  /-- The port runs or trains (R277). -/
  running : Bool := false
  /-- Consecutive good, and consecutive bad or missing, cells. -/
  good : Nat := 0
  bad : Nat := 0
  /-- SEQ of the next cell expected (R273). -/
  rxSeq : Nat := 0
  /-- The even cell of the pair being received was good, bad or not yet seen. -/
  even : Option Bool := none
  /-- The next GDS bit to refresh (R275). -/
  refresh : Nat := 0
  /-- The last pair start at which the port has sent, as TIME plus one. -/
  sent : Nat := 0
  rxSrc : Nat := 0
  deriving DecidableEq, Repr

/-- The decision block. -/
structure DecSt where
  bus : List BusWord := []
  /-- Channel latch c of Bench b at 32b + c (R256), and the tick of its last write, plus one, with the value before. -/
  latch : NMap Nat := []
  latchAt : NMap (Nat × Nat) := []
  /-- OLT event-input latch j of Bench b at 16b + j (R259). -/
  oltEv : NMap Bool := []
  /-- The tick of each event latch's last change, plus one, with the level before it (R263). -/
  oltEvAt : NMap (Nat × Bool) := []
  /-- Tag t of Bench b at 256b + t. -/
  tags : NMap Tag := []
  acts : List OltAct := []
  /-- Mirror bits (R266). -/
  mirror : NMap Bool := []
  /-- The latest writes of each mirror bit, newest first: the tick and the value before it (R267). -/
  mirrorAt : NMap (List (Nat × Bool)) := []
  /-- The ticks of the last publications of each bit (R287), and those at which its value last changed, newest first, as
  far back as the last that every reader sees; the tick at which a load wrote the initial values (R266, R299). -/
  pubs : NMap (List Nat) := []
  mirrorSet : NMap (List Nat) := []
  mirrorLoad : Nat := 0
  ports : NMap Crier := []
  /-- Slot ticks already used, by Bench: TIME plus one of the last lookup (R263). -/
  slotUsed : NMap Nat := []
  deriving DecidableEq, Repr

/-! ### 11: the Foreman -/

/-- The Foreman's states (FOREMAN.STATUS.STATE). -/
inductive FmSt where
  | off | start | run | wait | trap | held | done | fault | stopping
  deriving DecidableEq, Repr

/-- The encoding of FOREMAN.STATUS.STATE. -/
def FmSt.code : FmSt → Nat
  | .off => 0 | .start => 1 | .run => 2 | .wait => 3 | .trap => 4 | .held => 5 | .done => 6 | .fault => 7
  | .stopping => 8

/-- An entry of the schedule queue (R293): a point strobe (LOP 4 to 7, or 0) and events due at S. -/
structure Sched where
  at_ : Nat
  lop : Nat
  mask : Nat
  evo : Nat
  /-- BASE and the fault cause carried by a SHOT or POISON. -/
  base : Nat
  /-- The effect-log entry of its word. -/
  log : Nat
  /-- The next address of the word, for a SHOT (R306). -/
  nxt : Nat := 0
  deriving DecidableEq, Repr

/-- An effect-log entry (R317). -/
structure ELog where
  addr : Nat := 0
  lop : Nat := 0
  dop : Nat := 0
  dsel : Nat := 0
  evo : Nat := 0
  mask : Nat := 0
  issue : Nat := 0
  sched : Nat := 0
  disc : Bool := false
  late : Bool := false
  trap : Bool := false
  deriving DecidableEq, Repr

/-- A saved frame (R312). -/
structure FmFrame where
  pc : Nat
  stack : List Nat
  u : List Nat
  c : List Nat
  flags : Nat
  /-- For a word interrupted in a wait or hold: when its wait began, and the ticks waited so far. -/
  wait : Option (Nat × Nat)
  /-- A synchronous fault saved it. -/
  sync : Bool
  deriving DecidableEq, Repr

/-- A Foreman (11). U0–U7, C0–C3 and the configuration registers live in the aperture. -/
structure Fm where
  st : FmSt := .off
  pc : Nat := 0
  /-- Call stack, innermost first (R286). -/
  stack : List Nat := []
  /-- BASE (R290), below 2^64. -/
  base : Nat := 0
  /-- Flags Z, N, C, V in bits 0 to 3 (R285, R299). -/
  flags : Nat := 0
  /-- TIME at the start of the cycle of the word at PC (R279). -/
  cyc : Nat := 0
  /-- The word at PC as fetched, and the values its fields read (R280). -/
  word : Nat := 0
  u : List Nat := []
  c : List Nat := []
  z : Nat := 0
  cond : Nat := 0
  mbox : List Nat := []
  ld : Nat := 0
  sbase : Nat := 0
  /-- Fields of the word already performed, one bit each: BRS, LOP, DOP, ALU, C0 to C3, TRG. -/
  done : Nat := 0
  /-- The effect-log entry of the word has been made. -/
  logged : Bool := false
  /-- The word waits on WSEL since this TIME (R288), the ticks it had waited before a trap interrupted it, and whether
  it holds on the schedule queue (R293). -/
  waitFrom : Nat := 0
  waited : Nat := 0
  holding : Bool := false
  /-- A return from a trap resumes this wait (R314): when it began, and the ticks waited. -/
  carry : Option (Nat × Nat) := none
  /-- TIME at which the open timed region's budget ends; none while no region is open (R315). -/
  region : Option Nat := none
  queue : List Sched := []
  /-- NEW bits of the 32 channels and the tick of each channel's last word (R289, R299). -/
  newBits : Nat := 0
  newTick : NMap Nat := []
  /-- Event-input latches and the tick each was set (R297). -/
  evLatch : Nat := 0
  evTick : NMap Nat := []
  /-- Tw of BEV (R299). -/
  tw : Nat := 0
  /-- Pending trap requests by vector and the tick each was raised (R311). -/
  trapPend : Nat := 0
  trapTick : NMap Nat := []
  /-- Trap levels in use, innermost first (R312, R313). -/
  frames : List FmFrame := []
  /-- A synchronous fault waiting for the next cycle boundary: its FAULT.CAUSE code, 0 for none (R316). -/
  fault : Nat := 0
  /-- FOREMAN.SHOTS, below 2^48 (R295). -/
  shots : Nat := 0
  /-- Effect log: entries by index, and the index of the newest (R317). -/
  elog : NMap ELog := []
  elogHead : Nat := 0
  /-- HOLD_PEND stopped fetching after a SHOT was issued (R306). -/
  shotIssued : Bool := false
  /-- A stop under R35 waits for the next boundary outside a timed region (R307). -/
  stopReq : Bool := false
  /-- The word in progress is the last (R307): the state that follows at its cycle's end, and whether RESUME becomes
  ENTRY. -/
  halt : Option (FmSt × Bool) := none
  /-- The tick of each micro-register's last write, plus one, with the value before it (R263). -/
  uAt : NMap (Nat × Nat) := []
  /-- The trigger of the start condition has occurred at this TIME plus one (R304). -/
  startE : Nat := 0
  /-- KIND, SEL and START_VAL as the entry to ARMED took them (R304). -/
  startKind : Nat := 0
  startSel : Nat := 0
  startVal : Nat := 0
  deriving DecidableEq, Repr

/-! ### 13: the waveform memory controller -/

/-- The states of a memory device (MEM.DEVd_STATE.STATE). -/
inductive DevSt where
  | active | spare | retired | dead
  deriving DecidableEq, Repr

/-- The encoding of MEM.DEVd_STATE.STATE. -/
def DevSt.code : DevSt → Nat
  | .active => 0 | .spare => 1 | .retired => 2 | .dead => 3

/-- A GDDR6 device (R334, R357): state, slot, and the error counts of the last 24 hours, newest hour first. -/
structure MemDev where
  st : DevSt := .active
  slot : Nat := 0
  ce : List Nat := []
  ue : List Nat := []
  /-- Retraining of the device is due (R343, R344), and retirement is due, in order of falling due (R357). -/
  retrainDue : Bool := false
  retireDue : Nat := 0
  /-- Failed training attempts of the present ladder (R356). -/
  tries : Nat := 0
  deriving DecidableEq, Repr

/-- A channel's refresh state (R347): debt in sixteenths of an interval, catch-up, neighbour refreshes in the window. -/
structure MemChan where
  debt : Nat := 0
  catchUp : Bool := false
  trr : Nat := 0
  deriving DecidableEq, Repr

/-- A row that a bank holds open (R338): its number, and the physical tick up to which it stays open without an access. -/
structure OpenRow where
  row : Nat := 0
  till : Nat := 0
  deriving DecidableEq, Repr

/-- Memory maintenance under way (R354). -/
inductive Maint where
  | retrain (due : Nat)
  | migrate (dev : Nat) (spare : Nat) (due : Nat)
  deriving DecidableEq, Repr

/-- The waveform memory controller beyond its registers. -/
structure MemSt where
  devs : NMap MemDev := []
  chans : NMap MemChan := []
  /-- Open rows (R338), at channel × 16 + bank. -/
  rows : NMap OpenRow := []
  maint : Option Maint := none
  /-- Units that decode as a UE until they are written again (R342). -/
  ue : NMap Bool := []
  /-- Requesters limited on a channel for the rest of the window, at channel × 16 + requester (R346). -/
  limited : NMap Bool := []
  /-- The memory is trained and powered; in self-refresh; pin rate in Gb/s. -/
  powered : Bool := false
  selfRef : Bool := false
  rate : Nat := 22
  hot : Bool := false
  guard : Bool := false
  /-- The last temperature sample in 0.5 °C and its device, and the temperature at the last training (R351, R355). -/
  temp : Int := 0
  tempDev : Nat := 0
  trainTemp : Int := 0
  /-- Accumulated HOLD and IDLE time since the last training, in ticks (R355). -/
  restTime : Nat := 0
  /-- Physical tick at which the present stay in HOLD or IDLE began. -/
  restSince : Nat := 0
  /-- KEEPc as the last entry to KEEP took it (R362), by channel; an unlisted channel keeps every bank. -/
  keep : NMap Nat := []
  /-- REF_CFG as the last exit from self-refresh took it. -/
  refCfg : Nat := 1900
  /-- TIME of the last request in IDLE (R42), as physical tick. -/
  lastReq : Nat := 0
  cacheOnly : Bool := false
  /-- SANITISE: the physical tick at which training and wipe have taken their time (R53). -/
  wipeDue : Option Nat := none
  /-- The number of retirements that have fallen due, for their order (R357). -/
  dueCount : Nat := 0
  deriving DecidableEq, Repr

/-! ### 14: Tally -/

/-- A Tally record as it waits in staging: its header fields and its payload as (offset, bytes, value) items (R368,
R369). `left` is the number of its 32-byte parts not yet written. -/
structure Rec where
  typ : Nat
  len : Nat
  stream : Nat
  src : Nat
  seq : Nat
  time : Nat
  pay : List (Nat × Nat × Nat)
  left : Nat
  /-- A GAP or WRAP record in its stream's own place, outside the shared staging (R367). -/
  own : Bool := false
  /-- Its place in the ring once its writing has begun. -/
  ofs : Nat := 0
  /-- The physical tick of its acceptance, plus one (R34). -/
  acc : Nat := 0
  deriving DecidableEq, Repr

/-- A stream's state (R365, R366, R376). -/
structure Stream where
  /-- The next SEQ. -/
  seq : Nat := 0
  /-- Drops not yet reported, and the SEQ of the first of them. -/
  drops : Nat := 0
  firstDrop : Nat := 0
  /-- A GAP or WRAP of the stream is staged. -/
  gapHeld : Bool := false
  wrapHeld : Bool := false
  /-- The stream's SEQ has wrapped and no WRAP has been staged for it. -/
  wrapDue : Bool := false
  /-- A disable asks for a final GAP as soon as the GAP place is free (R377). -/
  finalGap : Bool := false
  /-- The stream was disabled at this tick of the physical clock plus one: an offer at that tick counts as dropped
  (R377). -/
  offAt : Nat := 0
  deriving DecidableEq, Repr

/-- A record whose writing into the ring has begun: its ring offset, its bytes and its parts still to write. -/
structure Placed where
  ofs : Nat
  len : Nat
  left : Nat
  deriving DecidableEq, Repr

/-- Tally beyond its registers (R366 to R380). -/
structure Tally where
  streams : NMap Stream := []
  /-- Staged records of source 0 to 7 (a Bench) and 8 (the device), in order of acceptance. -/
  staging : NMap (List Rec) := []
  /-- Records and PADs placed in the ring and not wholly written, in ring order (R373). -/
  placed : List Placed := []
  /-- The offset at which the next record is placed; WP follows it past whole records. -/
  head : Nat := 0
  wp : Nat := 0
  /-- The writer's round: the Bench being served and the parts it has moved in this round (R374). -/
  turn : Nat := 0
  moved : Nat := 0
  /-- Device parts moved in each of the last three writer slots (R374). -/
  devRecent : List Nat := [0, 0, 0]
  /-- Physical tick of the next writer slot (R373). -/
  slotDue : Nat := 0
  /-- The writer is stopped for want of ring space (R375). -/
  full : Bool := false
  /-- DMA_HWP (R379). -/
  hwp : Nat := 0
  /-- Bytes copied since the last drain interrupt, and the physical tick of the first unreported copy plus one
  (R380). -/
  unreported : Nat := 0
  firstCopy : Nat := 0
  /-- The drain is stopped by DMA_ERR until DRAIN_EN is written 0 and then 1 (R380), or by a link (R444). -/
  stopped : Bool := false
  paused : Bool := false
  deriving DecidableEq, Repr

/-! ### 15: the event fabric -/

/-- A producer line (R381, R382). -/
structure Line where
  level : Bool := false
  /-- Cycles since the last rise, saturating at 8; 8 means a rise is allowed. -/
  since : Nat := 8
  /-- A held rise: 0 none, 1 pulse, 2 level. -/
  held : Nat := 0
  /-- Consecutive held rises (R394). -/
  train : Nat := 0
  deriving DecidableEq, Repr

/-- A Joiner cell (R391, R392). -/
structure Cell where
  /-- The present output: for FF and FILTER as the cycles before have left it. -/
  out : Bool := false
  /-- The filter count. -/
  count : Nat := 0
  deriving DecidableEq, Repr

/-- The event fabric (15). -/
structure Fabric where
  lines : NMap Line := []
  cells : NMap Cell := []
  /-- Pulses demanded and not yet made: the line and the fabric cycle (TIME / 8) that holds the demand (R381). -/
  demand : List (Nat × Nat) := []
  /-- The first cycle since the core clock started has been evaluated (R381). -/
  started : Bool := false
  /-- Physical tick of the last evaluated cycle, plus one. -/
  last : Nat := 0
  /-- The AON producer levels as the fabric sees them, and as sampled at the last AON edge (R383). -/
  aonSeen : Nat := 0
  aonNext : Nat := 0
  /-- Cycles for which trigger output k stays busy and driven high (R385, R386). -/
  trigBusy : NMap Nat := []
  /-- Physical tick until which LED k is lit (R386). -/
  ledUntil : NMap Nat := []
  deriving DecidableEq, Repr

/-! ### 16: bias outputs, sensors, loops and panel -/

/-- The steps of a range change (R401). -/
inductive RangeStep where
  | none_ | waitGlide | waitWrap | toZero | switching (due : Nat)
  deriving DecidableEq, Repr

/-- What an output glides towards (R400, R404, R405, R44): its target; 0 V at RATE to park; its target at its safe rate;
0 V at its safe rate to park. -/
inductive Aim where
  | target | parking | safe | parkSafe
  deriving DecidableEq, Repr

/-- A bias output (R396 to R405). Voltages are whole numbers of 2^-20 µV, so that every LSB is exact. -/
structure Bias where
  parked : Bool := true
  range : Nat := 0
  /-- The target code in force (CHn_TARGET). -/
  target : Nat := 0
  /-- The present output without the sine. -/
  out : Int := 0
  aim : Aim := .target
  /-- The staged code waits to move (R398). -/
  staged : Bool := false
  step : RangeStep := .none_
  /-- The request in execution: range code and CODE; a later one waits (R401). -/
  req : Nat := 0
  reqCode : Nat := 0
  later : Option (Nat × Nat) := none
  /-- SAFE_N suspends the change (R404); the glide after an unpark or a range change goes on (R402, R403). -/
  susp : Bool := false
  unpark : Bool := false
  /-- The sine runs, its phase, and its stop waits for the wrap (R402). -/
  sin : Bool := false
  phase : Nat := 0
  sinStop : Bool := false
  sinWait : Bool := false
  /-- The value driven at the last boundary, sine included. -/
  driven : Int := 0
  /-- Consecutive readings off the commanded value, and below the load current (R405). -/
  misses : Nat := 0
  opens : Nat := 0
  deriving DecidableEq, Repr

/-- A strobe made and not yet acting: group, TIME of AON edges from which it may act, and whether the fabric made it
(R398). -/
structure LoadReq where
  group : Nat
  after : Nat
  fabric : Bool
  deriving DecidableEq, Repr

/-- The scan in progress (R409 to R414). -/
structure Scan where
  entry : Nat := 0
  /-- SCANe_B as the pass began with it: later writes of SETTLE and AVG act at the next pass (R414). -/
  cfg : Nat := 0
  /-- The readings taken in the entry: resistance and lead drop, single precision words. -/
  readings : List (Nat × Nat) := []
  /-- Physical tick at which the settle time and filter fill end. -/
  settle : Nat := 0
  /-- The entry was ended by OPEN, SHORT or OVERRANGE. -/
  failed : Bool := false
  /-- Excitation is on. -/
  excited : Bool := false
  deriving DecidableEq, Repr

/-- A loop output (R416, R417): the commanded current in µA, the sensed current, and consecutive bad readings. -/
structure Loop where
  cmd : Nat := 3600
  sensed : Nat := 0
  bad : Nat := 0
  atFault : Bool := false
  /-- A load has configured it since the last device-level reset (R417). -/
  configured : Bool := false
  /-- Undriven after a trip of rail 10 (R470). -/
  undriven : Bool := false
  deriving DecidableEq, Repr

/-- The slow side of the device. -/
structure Slow where
  bias : NMap Bias := []
  loads : List LoadReq := []
  /-- Physical tick of the next update boundary. -/
  boundary : Nat := 0
  scan : Scan := {}
  loops : NMap Loop := []
  /-- Panel levels as the device counts them (R407): PRESENT in bits 0 to 15, SAFE_N in 16, LOAD_N in 17. -/
  panel : Nat := 0x30000
  deriving DecidableEq, Repr

/-! ### 17: thermal protection, survey and margin plan -/

/-- A thermal action in force (R424). -/
inductive ThermAct where
  | none_ | shed | convOff | latch
  deriving DecidableEq, Repr

/-- The encoding of THERM.STATUS.ACTION and of the THERMAL mark (R369). -/
def ThermAct.code : ThermAct → Nat
  | .none_ => 0 | .shed => 1 | .convOff => 2 | .latch => 3

/-- A die sensor: its present reading in 0.5 °C, its readings of the preceding 100,000 samples (10 s, newest first), and
the cause by which it is broken, 0 for none (R421, R424). -/
structure Sensor where
  temp : Int := 0
  hist : List Int := []
  broken : Nat := 0
  deriving DecidableEq, Repr

/-- A margin plan (R431): four offsets in 2.5 mV, trims, and a pin-rate step. -/
structure Plan where
  seq : Nat := 0
  offsets : List Int := [0, 0, 0, 0]
  trims : List Nat := []
  rateUp : Bool := false
  life : Nat := 0
  deriving DecidableEq, Repr

/-- Thermal supervision and ageing. -/
structure Therm where
  sensors : NMap Sensor := []
  diodes : NMap Int := []
  diodeFault : Nat := 0
  tj : Int := 0
  hot : Nat := 0
  action : ThermAct := .none_
  rearmOk : Bool := true
  /-- Samples taken since power-on, saturating (R423), and the physical tick of the next. -/
  samples : Nat := 0
  due : Nat := 0
  /-- A sensor failed a test of the first 16 samples after power-on (R423). -/
  bootBad : Bool := false
  /-- THERM_N asserted, and the physical tick by which Porter has committed the LATCH record (R427). -/
  thermN : Bool := false
  latchDue : Option Nat := none
  /-- What the LATCH record is to hold (R433): cause, sensor, TJ and rise, the last two in two's complement. -/
  latchInfo : List Nat := []
  /-- The plan in force, the pending plan, and the offsets the regulators hold. -/
  plan : Plan := {}
  pend : Option Plan := none
  held : List (Option Int) := [some 0, some 0, some 0, some 0]
  /-- The eye margin of the last full survey was at least RATE_UP (R431). -/
  eyeGood : Bool := false
  rateUpPend : Bool := false
  /-- The survey runs (AGE.STATUS.RUNNING). -/
  surveying : Bool := false
  /-- Converters held off by CONV_OFF until the next entry to ARMED (R426). -/
  convOff : Bool := false
  deriving DecidableEq, Repr

/-! ### 18: host, cores, Porter, OTP and flash -/


/-- The life-cycle states (R462). -/
inductive LifeCycle where
  | blank | vendor | owned | returned | scrapped
  deriving DecidableEq, Repr

/-- The encoding of PORTER.LC.STATE. -/
def LifeCycle.code : LifeCycle → Nat
  | .blank => 0 | .vendor => 1 | .owned => 2 | .returned => 3 | .scrapped => 4

/-- The OTP (R459), apart from the production calibration and the unreadable root key. -/
structure Otp where
  serial : Nat := 0
  vendorSet : Bool := true
  ownCnt : Nat := 0
  retCnt : Nat := 0
  scrap : Bool := false
  fwFloor : Nat := 1
  /-- OWNER_HASH slots burnt, latest first. -/
  ownerHash : List Nat := []
  deriving DecidableEq, Repr

/-- A command Porter is working on (R460): for FW_WRITE the part's length, whether it is the last, whether the written copy
verifies, and the version; for LC_TOKEN the RESULT found, and what an accepted token carries. -/
inductive PorterJob where
  | ident | ledgerKey | ledgerRead (seq : Nat) | provKey
  | fwWrite (bytes : Nat) (last verifies : Bool) (version : Nat)
  | lcToken (result : Nat) (target : LifeCycle) (hash : Nat) (key : Bool)
  deriving DecidableEq, Repr

/-- A Ledger record, as far as its content drives the device (R433 to R436, R463). -/
inductive LedgerKind where
  | baseline | survey | annual | mem | latch | lifecycle (intent : Bool) (target : Nat)
  deriving DecidableEq, Repr

/-- A Ledger record with its SEQ, the power-on count and the powered time of its commit (R433), and the powered time at
which its present copy was written (R436). -/
structure LedgerRec where
  seq : Nat
  kind : LedgerKind
  /-- Content words: the plan of a SURVEY, device, slot, state and rate of a MEM record, readings of a LATCH. -/
  data : List Nat := []
  powerOn : Nat := 1
  made : Nat := 0
  written : Nat := 0
  deriving DecidableEq, Repr

/-- The host side, the cores, Porter, OTP and flash. -/
structure HostSt where
  /-- DEVID[5:0] as sampled (R441), and the straps. -/
  devid : Nat := 0
  straps : Nat := 0
  /-- The lead's PCIe link is up (R439). -/
  pcieUp : Bool := false
  /-- State of the five Carter ports: 0 DOWN, 1 TRAINING, 2 UP, 3 DISABLED (R442). -/
  carter : NMap Nat := []
  /-- Reachable devices, one bit each (LINK.REACH), at the lead. -/
  reach : Nat := 0
  /-- The port through which a device below was announced, by DEVID, and its depth. -/
  below : NMap (Nat × Nat) := []
  /-- Cores out of reset, one bit each (CORE_STATUS.RUNNING). -/
  coresRun : Nat := 0
  /-- A verified core image is loaded (R450). -/
  coreImage : Bool := false
  /-- Porter owns the management port (R454). -/
  mgmtPorter : Bool := false
  /-- Physical tick by which core 0 must kick (R453); 0 while no watchdog runs. -/
  wdogDue : Nat := 0
  job : Option PorterJob := none
  /-- FW_WRITE bytes received so far (R460). -/
  fwBytes : Nat := 0
  otp : Otp := {}
  /-- A Pattern key is stored (R73). -/
  patternKey : Bool := false
  /-- Version of the firmware running; 0 before it runs. -/
  fwVer : Nat := 0
  /-- Firmware versions in FW_A and FW_B (0: none that verifies) and which is primary and which booted (false: A). -/
  fwA : Nat := 1
  fwB : Nat := 1
  fwPrimaryB : Bool := false
  fwBootedB : Bool := false
  /-- The customer partitions CORE_A, CORE_B and CUSTOM hold content (erased by a life-cycle change, R464). -/
  customFlash : Bool := true
  ledger : List LedgerRec := [{ seq := 1, kind := .baseline }]
  nextSeq : Nat := 2
  /-- The power-on resets so far, counting the present one (R433). -/
  powerOns : Nat := 1
  deriving DecidableEq, Repr

/-! ### 19: supplies and pins -/

/-- Supplies and control pins (R468 to R472, R488). -/
structure Pins where
  pwrgd : Bool := true
  /-- Physical tick of the boot request that ends a power-on reset or RESET_N (R53, R54), while it is awaited. -/
  bootDue : Option Nat := some 9000000
  /-- Rails out of their window, one bit each (R470). -/
  railsOut : Nat := 0
  /-- An alert waits for the end of the offset writes, and whether its STATUS_WORD shows a fault (R471). -/
  alertHeld : Option Bool := none
  /-- The memory-device rail is on (R472). -/
  memRail : Bool := false
  deriving DecidableEq, Repr

/-- What the device puts out (the model's outbox, oldest first). -/
inductive Out where
  /-- An MSI-X message (R448). -/
  | msix (vector : Nat)
  /-- An interrupt signalled to the application cores (R448). -/
  | coreIrq (source : Nat)
  /-- A Crier cell: port, whether it is the odd cell of a pair, and its 128 bits before scrambling (R272). -/
  | cell (port : Nat) (odd : Bool) (word : Nat)
  /-- An echo request (0) or answer (1) with t2 and t3 in ps (R98). -/
  | echo (port : Nat) (kind : Nat) (t2 t3 : Nat)
  /-- An edge of an output trigger line, in sixteenths of a tick (R106). -/
  | trig (line : Nat) (at16 : Int) (level : Bool)
  /-- A record written to the host ring: its offset there and its bytes (R379). -/
  | drain (ofs : Nat) (bytes : List Byte)
  /-- A PMBus command: address, code and data (R471, R472). -/
  | pmbus (addr code data : Nat)
  /-- A completion without success: 0 Unsupported Request, 1 poisoned data, 2 bus error (R342, R439, R440). -/
  | completion (status : Nat)
  /-- A Porter answer over the management port: the command code (R454). -/
  | mgmt (code : Nat)
  deriving DecidableEq, Repr

/-! ### The state -/

/-- The state of the device. -/
structure State where
  /-- Commands waiting, first in first out. -/
  pending : List Instr := []
  /-- VDD_AON is valid (R56). -/
  powered : Bool := true
  clk : Clocks := {}
  mode : Mode := .dormant
  transit : Option Transit := none
  hold : Option HoldReq := none
  trim : TrimSel := {}
  load : Option Load := none
  pat : PatSt := {}
  /-- Software-visible registers and memory windows, by aperture offset (R9, R445); default `apReset`. -/
  ap : NMap Word := []
  /-- Waveform memory by byte address below 2^34; an unlisted byte reads as 0. -/
  mem : List Host.Cell := []
  bench : NMap BenchSt := []
  time : TimeSt := {}
  segs : Segs := {}
  looms : NMap Loom := []
  /-- Lane m of Bench b at 32b + m. -/
  lanes : NMap Lane := []
  out : OutSt := {}
  /-- Demodulation channel c of Bench b at 32b + c; ADC a at 2b + a. -/
  chans : NMap Chan := []
  adcs : NMap Adc := []
  /-- Engine e of Bench b at 4b + e; window staging words by engine × 8 + requester × 2 + (0 X, 1 Y). -/
  engines : NMap Engine := []
  xyStages : NMap (Option XyStage) := []
  dec : DecSt := {}
  fms : NMap Fm := []
  memc : MemSt := {}
  tally : Tally := {}
  fabric : Fabric := {}
  slow : Slow := {}
  therm : Therm := {}
  host : HostSt := {}
  pins : Pins := {}
  /-- Captured _HI halves by requester × 2^36 + offset, each plus 2^32 so that 0 means none (R89). -/
  captures : NMap Nat := []
  /-- Software writes that govern from the next tick (R122, R148, R204), by aperture offset: the physical tick of the last
  one plus one, and the word before that tick's writes; and the tick, plus one, of the last SETV of a V register. -/
  recent : NMap (Nat × Nat) := []
  setvAt : NMap Nat := []
  /-- Writes that govern samples from 8 ticks on (R183, R185, R202), by aperture offset: the physical tick from which
  each value is in force, oldest first; the first is the value before them. -/
  later : NMap (List (Nat × Nat)) := []
  /-- The word the last read returned, and the Ledger or IRQ code it carried (the model's own). -/
  readData : Nat := 0
  /-- The model's outbox. -/
  outbox : List Out := []
  /-- Counter that numbers the free values taken; the model's own, no statement rests on its value. -/
  freeCtr : Nat := 0
  deriving DecidableEq, Repr

/-- Why the machine stops. Safe: the specification gives no behaviour in this case. -/
inductive Fault where
  /-- Raised by every command but POWER_ON_RESET while VDD_AON is not valid: R3 leaves the device's behaviour outside
  its environment unspecified. Safe. -/
  | unpowered
  deriving DecidableEq, Repr

/-- Why a command has no meaning. -/
inductive Refusal where
  /-- Raised by an arm of `exec` whose command is not modelled; no arm raises it. Safe. -/
  | notModelled (mnemonic : String)
  deriving DecidableEq, Repr

/-- The device right after a power-on reset (R56): DORMANT, TIME 0, every register at its Reset column, all stores
empty, no command waiting. -/
def State.reset : State := {}

end Sys2Proof.Machine
end

