-- ==== Sys2Proof/Machine/Ops.lean ====
section
/-!
DEFINITION. The named operations over the state: registers of the aperture and their fields, waveform memory, the
typed tables, free values, and what every unit shares: refusals (R9, R447), interrupts (R448), breach flags (R331),
fabric pulses (R381), Foreman trap requests (R311), Tally offers (R366, R367, R376) and poisoning (R371).
-/
namespace Sys2Proof.Machine

/-- A command acts only while VDD_AON is valid: without it the device is outside its environment (R3, R56). -/
def whenPowered (s : State) (f : State → State) : Host.Outcome State Fault Refusal :=
  if s.powered then .next (f s) else .fault .unpowered

/-! ### Registers -/

/-- The word held at an aperture offset. -/
def State.reg (s : State) (off : Nat) : Word := NMap.get apReset s.ap off

/-- Store a word at an aperture offset. -/
def State.setReg (s : State) (off : Nat) (v : Word) : State := { s with ap := NMap.set apReset s.ap off v }

/-- A field of the register at an offset. -/
def State.fld (s : State) (off : Nat) (f : Bits) : Nat := bitsOf (s.reg off).toNat f.lo f.w

/-- Replace a field of the register at an offset. -/
def State.setFld (s : State) (off : Nat) (f : Bits) (v : Nat) : State :=
  s.setReg off (BitVec.ofNat 32 (putBits (s.reg off).toNat f.lo f.w v))

/-- A one-bit field as a Boolean. -/
def State.flag (s : State) (off : Nat) (f : Bits) : Bool := s.fld off f != 0

/-- Set every bit of a field. -/
def State.raise (s : State) (off : Nat) (f : Bits) : State := s.setFld off f (2 ^ f.w - 1)

/-- Clear a field. -/
def State.clear (s : State) (off : Nat) (f : Bits) : State := s.setFld off f 0

/-- Set bits of a field, leaving its others (`m` is a mask within the field). -/
def State.orFld (s : State) (off : Nat) (f : Bits) (m : Nat) : State := s.setFld off f (s.fld off f ||| m)

/-- Bit `i` of a field. -/
def State.fbit (s : State) (off : Nat) (f : Bits) (i : Nat) : Bool := bitAt (s.fld off f) i

/-- Count into a counter field; counters saturate (R13). -/
def State.satAdd (s : State) (off : Nat) (f : Bits) (n : Nat) : State :=
  s.setFld off f (min (s.fld off f + n) (2 ^ f.w - 1))

/-- Count into a counter field that wraps (R13). -/
def State.wrapAdd (s : State) (off : Nat) (f : Bits) (n : Nat) : State := s.setFld off f (s.fld off f + n)

/-- Two adjacent registers as one 64-bit value, lower offset first (R9). -/
def State.reg64 (s : State) (off : Nat) : Nat := (s.reg off).toNat + (s.reg (off + 4)).toNat * 2 ^ 32

/-- Store a 64-bit value in two adjacent registers. -/
def State.setReg64 (s : State) (off v : Nat) : State :=
  (s.setReg off (BitVec.ofNat 32 v)).setReg (off + 4) (BitVec.ofNat 32 (v / 2 ^ 32))

/-- The word that a register held before the software writes of the present tick, for registers whose writes govern from
the next tick (R122, R148, R204). -/
def State.regBefore (s : State) (off : Nat) : Word :=
  let r := NMap.get (fun _ => (0, 0)) s.recent off
  if r.1 = s.clk.now + 1 then BitVec.ofNat 32 r.2 else s.reg off

/-- A software write that governs from the next tick. -/
def State.softReg (s : State) (off : Nat) (v : Word) : State :=
  { (s.setReg off v) with
    recent := NMap.set (fun _ => (0, 0)) s.recent off (s.clk.now + 1, (s.regBefore off).toNat) }

/-! ### Waveform memory (R334) -/

/-- What an unlisted byte of waveform memory reads as: 0, the content after the wipe of R58. -/
def memDefault (_ : Nat) : Byte := 0

/-- The bytes of usable waveform memory: 16 GiB. -/
def memSize : Nat := 0x400000000

/-- Read a byte of waveform memory. -/
def State.byteAt (s : State) (a : Nat) : Byte := NMap.get memDefault s.mem a

/-- Write a byte of waveform memory. -/
def State.setByte (s : State) (a : Nat) (v : Byte) : State := { s with mem := NMap.set memDefault s.mem a v }

/-- Write consecutive bytes, the first at `a`. -/
def State.setBytes (s : State) (a : Nat) : List Byte → State
  | [] => s
  | v :: vs => (s.setByte a v).setBytes (a + 1) vs

/-- A write into waveform memory: the bytes are stored, and each 64-byte unit it touches is written whole with new
check symbols (R340), so that it no longer decodes as a UE (R342). -/
def State.memStore (s : State) (a : Nat) (vs : List Byte) : State :=
  let s := s.setBytes a vs
  let u0 := a / 64
  let n := (a + vs.length + 63) / 64 - u0
  { s with memc := { s.memc with ue := NMap.erase (fun u => decide (u0 ≤ u) && decide (u < u0 + n)) s.memc.ue } }

/-- Read `n` bytes little-endian as a number. -/
def State.readLE (s : State) (a : Nat) : Nat → Nat
  | 0 => 0
  | n + 1 => (s.byteAt a).toNat + 256 * s.readLE (a + 1) n

/-- The `n` bytes of a number, little-endian. -/
def bytesLE (v : Nat) : Nat → List Byte
  | 0 => []
  | n + 1 => BitVec.ofNat 8 v :: bytesLE (v / 256) n

/-! ### Instances -/

/-- A Bench's run state. -/
def State.benchSt (s : State) (b : Nat) : BenchSt := NMap.get (fun _ => {}) s.bench b
/-- Change a Bench's run state. -/
def State.onBench (s : State) (b : Nat) (f : BenchSt → BenchSt) : State :=
  { s with bench := NMap.upd (fun _ => {}) s.bench b f }
/-- Lane `l` of Bench `b`. -/
def State.lane (s : State) (b l : Nat) : Lane := NMap.get (fun _ => {}) s.lanes (32 * b + l)
/-- Change a lane. -/
def State.onLane (s : State) (b l : Nat) (f : Lane → Lane) : State :=
  { s with lanes := NMap.upd (fun _ => {}) s.lanes (32 * b + l) f }
/-- The Loom of a Bench. -/
def State.loom (s : State) (b : Nat) : Loom := NMap.get (fun _ => {}) s.looms b
/-- Change a Loom. -/
def State.onLoom (s : State) (b : Nat) (f : Loom → Loom) : State :=
  { s with looms := NMap.upd (fun _ => {}) s.looms b f }
/-- Demodulation channel `c` of Bench `b`. -/
def State.chan (s : State) (b c : Nat) : Chan := NMap.get (fun _ => {}) s.chans (32 * b + c)
/-- Change a channel. -/
def State.onChan (s : State) (b c : Nat) (f : Chan → Chan) : State :=
  { s with chans := NMap.upd (fun _ => {}) s.chans (32 * b + c) f }
/-- ADC `a` of Bench `b`. -/
def State.adc (s : State) (b a : Nat) : Adc := NMap.get (fun _ => {}) s.adcs (2 * b + a)
/-- Change an ADC. -/
def State.onAdc (s : State) (b a : Nat) (f : Adc → Adc) : State :=
  { s with adcs := NMap.upd (fun _ => {}) s.adcs (2 * b + a) f }
/-- Engine `e` of Bench `b`. -/
def State.eng (s : State) (b e : Nat) : Engine := NMap.get (fun _ => {}) s.engines (4 * b + e)
/-- Change an engine. -/
def State.onEng (s : State) (b e : Nat) (f : Engine → Engine) : State :=
  { s with engines := NMap.upd (fun _ => {}) s.engines (4 * b + e) f }
/-- The Foreman of a Bench. -/
def State.fm (s : State) (b : Nat) : Fm := NMap.get (fun _ => {}) s.fms b
/-- Change a Foreman. -/
def State.onFm (s : State) (b : Nat) (f : Fm → Fm) : State :=
  { s with fms := NMap.upd (fun _ => {}) s.fms b f }
/-- A memory device before anything has happened to it: device `d` of 0 to 7 stands in slot `d`, device 8 is the
spare (R334). -/
def memDev0 (d : Nat) : MemDev := if d = 8 then { st := .spare } else { slot := d }
/-- A memory device. -/
def State.dev (s : State) (d : Nat) : MemDev := NMap.get memDev0 s.memc.devs d
/-- Change a memory device. -/
def State.onDev (s : State) (d : Nat) (f : MemDev → MemDev) : State :=
  { s with memc := { s.memc with devs := NMap.upd memDev0 s.memc.devs d f } }
/-- A memory channel. -/
def State.mch (s : State) (c : Nat) : MemChan := NMap.get (fun _ => {}) s.memc.chans c
/-- Change a memory channel. -/
def State.onMch (s : State) (c : Nat) (f : MemChan → MemChan) : State :=
  { s with memc := { s.memc with chans := NMap.upd (fun _ => {}) s.memc.chans c f } }
/-- A bias output. -/
def State.bias (s : State) (n : Nat) : Bias := NMap.get (fun _ => {}) s.slow.bias n
/-- Change a bias output. -/
def State.onBias (s : State) (n : Nat) (f : Bias → Bias) : State :=
  { s with slow := { s.slow with bias := NMap.upd (fun _ => {}) s.slow.bias n f } }
/-- A loop output. -/
def State.loop (s : State) (k : Nat) : Loop := NMap.get (fun _ => {}) s.slow.loops k
/-- Change a loop output. -/
def State.onLoop (s : State) (k : Nat) (f : Loop → Loop) : State :=
  { s with slow := { s.slow with loops := NMap.upd (fun _ => {}) s.slow.loops k f } }
/-- A Crier port. -/
def State.port (s : State) (p : Nat) : Crier := NMap.get (fun _ => {}) s.dec.ports p
/-- Change a Crier port. -/
def State.onPort (s : State) (p : Nat) (f : Crier → Crier) : State :=
  { s with dec := { s.dec with ports := NMap.upd (fun _ => {}) s.dec.ports p f } }
/-- Lookup tag `t` of Bench `b`. -/
def State.tag (s : State) (b t : Nat) : Tag := NMap.get (fun _ => {}) s.dec.tags (256 * b + t)
/-- Change a lookup tag. -/
def State.onTag (s : State) (b t : Nat) (f : Tag → Tag) : State :=
  { s with dec := { s.dec with tags := NMap.upd (fun _ => {}) s.dec.tags (256 * b + t) f } }
/-- A GDS mirror bit (R266). -/
def State.gds (s : State) (i : Nat) : Bool := NMap.get (fun _ => false) s.dec.mirror i
/-- A Tally stream. -/
def State.stream (s : State) (i : Nat) : Stream := NMap.get (fun _ => {}) s.tally.streams i
/-- Change a Tally stream. -/
def State.onStream (s : State) (i : Nat) (f : Stream → Stream) : State :=
  { s with tally := { s.tally with streams := NMap.upd (fun _ => {}) s.tally.streams i f } }
/-- The staged records of a source (0 to 7 a Bench, 8 the device). -/
def State.staged (s : State) (q : Nat) : List Rec := NMap.get (fun _ => []) s.tally.staging q
/-- Replace the staged records of a source. -/
def State.setStaged (s : State) (q : Nat) (rs : List Rec) : State :=
  { s with tally := { s.tally with staging := NMap.set (fun _ => []) s.tally.staging q rs } }
/-- An RF converter of a Bench (0 to 3 DRV, 4 and 5 PRB). -/
def State.conv (s : State) (b c : Nat) : Conv := NMap.get (fun _ => {}) s.out.convs (6 * b + c)
/-- Change an RF converter. -/
def State.onConv (s : State) (b c : Nat) (f : Conv → Conv) : State :=
  { s with out := { s.out with convs := NMap.upd (fun _ => {}) s.out.convs (6 * b + c) f } }
/-- A tone of a Bench (0 to 31 drive, 32 to 63 probe). -/
def State.tone (s : State) (b u : Nat) : Tone := NMap.get (fun _ => {}) s.out.tones (64 * b + u)
/-- Change a tone. -/
def State.onTone (s : State) (b u : Nat) (f : Tone → Tone) : State :=
  { s with out := { s.out with tones := NMap.upd (fun _ => {}) s.out.tones (64 * b + u) f } }

/-- The members 0 to n − 1 for which `p` holds. -/
def pick (n : Nat) (p : Nat → Bool) : List Nat := (List.range n).filter p

/-- The bits of a mask, lowest first. -/
def bitsSet (n m : Nat) : List Nat := pick n fun i => bitAt m i

/-- Set bit `i` of a mask. -/
def setBit (m i : Nat) : Nat := m ||| 2 ^ i

/-- Clear bit `i` of a mask. -/
def clrBit (m i : Nat) : Nat := if bitAt m i then m - 2 ^ i else m

/-! ### Free values -/

/-- The next free value, and the state with the counter advanced. -/
def State.free (s : State) : Word × State :=
  (Config.freeWord s.freeCtr, { s with freeCtr := s.freeCtr + 1 })

/-! ### What every unit shares -/

/-- Append to the outbox. -/
def State.emit (s : State) (o : Out) : State := { s with outbox := s.outbox ++ [o] }

/-- A refused access (R9, R447): ACCESS_DENIED is set, and the first refusal since the flag was clear is logged. -/
def State.denied (s : State) (who : Who) (off : Nat) (wr : Bool) : State :=
  if s.flag R.TOP_ACCESS Fd.TOP_ACCESS_ACCESS_DENIED then s
  else
    ((s.raise R.TOP_ACCESS Fd.TOP_ACCESS_ACCESS_DENIED).setReg R.TOP_ACCESS_LOG_LO (BitVec.ofNat 32 off)).setReg
      R.TOP_ACCESS_LOG_HI (BitVec.ofNat 32 (bitsOf off 32 4 + 16 * who.code + 128 * bit wr))

/-- Messages of this device reach the lead's PCIe function: the lead's own link, or the up port of another device
(R437, R444). -/
def State.upstream (s : State) : Bool :=
  if s.host.devid = 0 then s.host.pcieUp else NMap.get (fun _ => 0) s.host.carter 0 == 2

/-- The modes in which the links are up (R439, R442). -/
def Mode.linked : Mode → Bool
  | .dormant | .boot | .sanitise | .latched => false
  | _ => true

/-- The modes in which the cores run (R41). -/
def Mode.hasCores : Mode → Bool
  | .dormant | .boot | .sanitise | .keep | .latched => false
  | _ => true

/-- An access of this requester reaches the registers of the device: the host's path closes with the links (R55, R439),
and the cores are off in the modes of R41 and while none runs. -/
def State.reaches (s : State) (who : Who) : Bool :=
  match who with
  | .host => s.mode.linked && s.upstream
  | .cores => s.mode.hasCores && s.host.coresRun != 0
  | .porter | .jtag => true

/-- An access of this requester reaches SRAM and waveform memory: while SANITISE_OPEN is 1 no path is open but Porter's
(R58). -/
def State.dataOpen (s : State) (who : Who) : Bool :=
  s.reaches who && (who == .porter || !s.flag R.TOP_MODE Fd.TOP_MODE_SANITISE_OPEN)

/-- A command of a requester: one that does not reach the device changes nothing in it (R55, R439). -/
def whenReached (who : Who) (s : State) (f : State → State) : Host.Outcome State Fault Refusal :=
  whenPowered s fun s => if s.reaches who then f s else s

/-- A command of a requester upon SRAM or waveform memory (R58). -/
def whenOpen (who : Who) (s : State) (f : State → State) : Host.Outcome State Fault Refusal :=
  whenPowered s fun s => if s.dataOpen who then f s else s

/-- Interrupt source `k` raises (R448). -/
def State.irq (s : State) (k : Nat) : State :=
  if s.fbit R.TOP_IRQ_PEND Fd.TOP_IRQ_PEND_BITS k then s
  else
    let s := s.orFld R.TOP_IRQ_PEND Fd.TOP_IRQ_PEND_BITS (2 ^ k)
    let s :=
      if s.fbit R.TOP_IRQ_ROUTE_HOST Fd.TOP_IRQ_ROUTE_HOST_BITS k && s.upstream then
        s.emit (.msix (32 * s.host.devid + k))
      else s
    if s.fbit R.TOP_IRQ_ROUTE_CORE Fd.TOP_IRQ_ROUTE_CORE_BITS k then s.emit (.coreIrq k) else s

/-- Set a sticky flag; its interrupt source raises when the flag is newly set (R448). -/
def State.flagIrq (s : State) (off : Nat) (f : Bits) (k : Nat) : State :=
  if s.flag off f then s else (s.raise off f).irq k

/-- Set a flag of BENCHn.EVENTS (01); source 18 + b raises when it is newly set (R448). -/
def State.benchEvent (s : State) (b : Nat) (f : Bits) : State := s.flagIrq (R.BENCH_EVENTS b) f (18 + b)

/-- Set a flag of TOP.BREACH (R331). -/
def State.breach (s : State) (f : Bits) : State := s.raise R.TOP_BREACH f

/-- The fast core clock runs and its dividers are aligned, so the event fabric runs (R381, R22). -/
def Clocks.fabricRuns (c : Clocks) : Bool := c.core && c.aligned

/-- A pulse producer demands an event on its line in the fabric cycle that holds the present tick (R381). With the core
clock stopped there is no cycle to make it in. Pulses of one cycle make one event (R384). -/
def State.pulse (s : State) (line : Nat) : State :=
  if s.clk.fabricRuns && !s.fabric.demand.contains (line, s.clk.time / 8) then
    { s with fabric := { s.fabric with demand := s.fabric.demand ++ [(line, s.clk.time / 8)] } }
  else s

/-- An asynchronous trap request to a Bench's Foreman (R310, R311). -/
def State.fmTrap (s : State) (b v : Nat) : State :=
  if bitAt (s.fm b).trapPend v then s
  else s.onFm b fun f =>
    { f with trapPend := setBit f.trapPend v, trapTick := NMap.set (fun _ => 0) f.trapTick v s.clk.time }

/-- The SRC field of a record of a Bench (R368). -/
def srcOf (b lane ch kind : Nat) : Nat := b * 2 ^ 13 + lane * 2 ^ 8 + ch * 2 ^ 3 + kind

/-- The SRC field of a record of the device stream (R368). -/
def srcDev : Nat := 7

/-- The source whose staging buffer a stream uses (R365, R367). -/
def streamSrc (st : Nat) : Nat := if st = 24 then 8 else st / 3

/-- Is the stream's staging part the MARK part of its Bench (R367)? -/
def markPart (st : Nat) : Bool := st < 24 && st % 3 == 0

/-- The capacity in bytes of a stream's staging part (R367). -/
def stageCap (st : Nat) : Nat := if st = 24 then 4096 else if markPart st then 2048 else 14336

/-- The bytes in use in a stream's staging part (R367). -/
def State.stageUse (s : State) (st : Nat) : Nat :=
  ((s.staged (streamSrc st)).filter fun r => !r.own && markPart r.stream == markPart st).foldl
    (fun n r => n + 32 * r.left) 0

/-- The SRC field that the records of a stream's own (GAP, WRAP) carry. -/
def srcOwn (st : Nat) : Nat := if st = 24 then srcDev else srcOf (st / 3) 0 0 (st % 3)

/-- The GAP record of a stream (R369, R376). -/
def gapRec (st : Nat) (x : Stream) (time : Nat) : Rec :=
  { typ := 0x23, len := 1, stream := st, src := srcOwn st, seq := x.firstDrop, time := time,
    pay := [(0, 4, x.drops)], left := 1, own := true }

/-- The WRAP record of a stream (R369, R376). -/
def wrapRec (st n time : Nat) : Rec :=
  { typ := 0x27, len := 1, stream := st, src := srcOwn st, seq := 0, time := time, pay := [(0, 4, n)], left := 1,
    own := true }

/-- A dropped record (R367): counted, reported, and a TALLY_FULL trap request of the Bench's Foreman (R310). -/
def State.dropRec (s : State) (st seq : Nat) : State :=
  let s := s.satAdd (R.TALLY_STREAM_DROP st) Fd.TALLY_STREAM_DROP_COUNT 1
  let s := s.onStream st fun x =>
    { x with drops := x.drops + 1, firstDrop := if x.drops = 0 then seq else x.firstDrop }
  let s := s.flagIrq R.TALLY_STATUS Fd.TALLY_STATUS_DROP 4
  let s := s.breach Fd.TOP_BREACH_TIER6
  if st < 24 then s.fmTrap (st / 3) 10 else s

/-- A DEAD device makes the memory serve no request (R361). -/
def State.memDead (s : State) : Bool := (List.range 9).any fun d => (s.dev d).st == .dead

/-- A stream is enabled (R365). -/
def State.streamOn (s : State) (st : Nat) : Bool := s.flag (R.TALLY_STREAM_CTL st) Fd.TALLY_STREAM_CTL_EN

/-- A Bench is enabled: EN is 1 and does not wait for the next entry to ARMED (R36, R38). -/
def State.benchOn (s : State) (b : Nat) : Bool :=
  s.flag (R.BENCH_CTL b) Fd.BENCH_CTL_EN && !(s.benchSt b).enPend

/-- A stream takes an offer: it is enabled, and its Bench is not stopping, for the disable of a Bench disables its Tally
sources with the rest (R36); the LANE_STOPPED marks of the lanes that stop are still taken (R35, R171). -/
def State.streamOpen (s : State) (st typ : Nat) : Bool :=
  s.streamOn st && !(decide (st < 24) && (s.benchSt (st / 3)).stopping && typ != 0x28)

/-- The order in which offers of one tick take SEQ (R366): by SRC, a SHOT mark last. -/
def Rec.order (r : Rec) : Nat := 65536 * bit (r.typ == 0x21) + r.src

/-- A record accepted after others of its stream in the same tick takes the place and the SEQ that its SRC gives it
(R366). -/
def insertOffer (r : Rec) : List Rec → List Rec
  | [] => [r]
  | y :: ys =>
    if y.stream == r.stream && !y.own && y.acc == r.acc && y.left == y.len && decide (r.order < y.order) then
      { r with seq := y.seq } :: insertOffer { y with seq := r.seq } ys
    else y :: insertOffer r ys

/-- TALLY_OFFER (R366, R367, R376): the record takes the stream's SEQ and is accepted into staging, after a GAP and a
WRAP that fall due, or dropped. An offer to a disabled stream is discarded without count, one at the tick of the disable
is dropped (R377). While a device of the memory is DEAD every record is dropped at acceptance (R321, R361). -/
def State.offer (s : State) (st src typ len time : Nat) (pay : List (Nat × Nat × Nat)) : State :=
  if !s.streamOpen st typ then
    if (s.stream st).offAt = s.clk.now + 1 then
      let seq := (s.stream st).seq
      (s.onStream st fun x => { x with seq := (x.seq + 1) % 2 ^ 32, finalGap := true }).dropRec st seq
    else s
  else
    let x := s.stream st
    let wraps := x.seq == 0xFFFFFFFF
    let s1 := s.onStream st fun x => { x with seq := (x.seq + 1) % 2 ^ 32, wrapDue := x.wrapDue || wraps }
    let s1 := if wraps then s1.satAdd (R.TALLY_STREAM_WRAPS st) Fd.TALLY_STREAM_WRAPS_COUNT 1 else s1
    let gapDue := x.drops != 0
    if decide (s.stageUse st + 32 * len ≤ stageCap st) && !(gapDue && x.gapHeld) && !s.memDead then
      let q := streamSrc st
      let gap := if gapDue then [gapRec st x s.clk.time] else []
      let wrap :=
        if x.wrapDue then
          [wrapRec st (s.fld (R.TALLY_STREAM_WRAPS st) Fd.TALLY_STREAM_WRAPS_COUNT) s.clk.time]
        else []
      let rec_ : Rec :=
        { typ := typ, len := len, stream := st, src := src, seq := x.seq, time := time, pay := pay, left := len,
          acc := s.clk.now + 1 }
      let s2 := s1.setStaged q
        (if gap.isEmpty && wrap.isEmpty then insertOffer rec_ (s1.staged q) else s1.staged q ++ gap ++ wrap ++ [rec_])
      s2.onStream st fun y =>
        { y with
          drops := if gapDue then 0 else y.drops
          gapHeld := y.gapHeld || gapDue
          wrapHeld := y.wrapHeld || x.wrapDue
          wrapDue := wraps }
    else s1.dropRec st x.seq

/-- BENCHn.STATUS.ACTIVE (01): enabled, in ARMED, RUN or HOLD. -/
def State.benchActive (s : State) (b : Nat) : Bool :=
  s.benchOn b && (s.mode == .armed || s.mode == .run || s.mode == .hold)

/-- A SHOT mark of Bench `b` accepted at the present tick gets POISONED set (R366, R371): the SHOT mark comes last in its
tick. -/
def State.shotPoisoned (s : State) (b : Nat) : State :=
  let mark := fun (r : Rec) =>
    if r.typ == 0x21 && r.stream == 3 * b && r.acc == s.clk.now + 1 then
      { r with pay := r.pay.map fun p => if p.1 = 0 then (0, 8, setBit p.2.2 63) else p }
    else r
  s.setStaged b ((s.staged b).map mark)

/-- A POISON mark of Bench `b` (R371, R369), with what R384, BENCHn.EVENTS and the SHOT mark make of it. At the tick of a
SHOT it names the shot that the SHOT ends. -/
def State.poison (s : State) (b cause detail : Nat) : State :=
  let took := s.streamOpen (3 * b) 0x22 || (s.stream (3 * b)).offAt == s.clk.now + 1
  let now_ := (s.benchSt b).shotAt == s.clk.now + 1
  let s := s.offer (3 * b) (srcOf b 0 0 0) 0x22 1 s.clk.time
    [(0, 1, cause), (4, 4, detail), (8, 8, (s.fm b).shots + 1 - bit now_)]
  let s := if took then (if now_ then s.shotPoisoned b else s.onBench b fun x => { x with poisoned := true }) else s
  (s.benchEvent b Fd.BENCH_EVENTS_POISON).pulse (328 + b)

/-- A device-wide cause: one POISON mark on every enabled Bench (R371). -/
def State.poisonAll (s : State) (cause detail : Nat) : State :=
  foldAll (fun s b => if s.benchOn b then s.poison b cause detail else s) s (List.range 8)

/-- A refused or aborted transition (TOP.MODE_ERR). -/
def State.modeErr (s : State) (code req : Nat) : State :=
  ((s.setFld R.TOP_MODE_ERR Fd.TOP_MODE_ERR_CODE code).setFld R.TOP_MODE_ERR Fd.TOP_MODE_ERR_REQ req).flagIrq
    R.TOP_MODE_ERR Fd.TOP_MODE_ERR_NEW 0

/-- TOP.MODE.MODE changes (R45): the MODE mark, EV_TOP_MODE and interrupt source 0. -/
def State.enter (s : State) (m : Mode) (cause : Nat) : State :=
  let s := s.offer 24 srcDev 0x25 1 s.clk.time [(0, 1, s.mode.code), (1, 1, m.code), (2, 1, cause)]
  (({ s with mode := m } : State).pulse 346).irq 0

/-- MEM.FLAGS bit, with interrupt source 2 (R364, R448). -/
def State.memFlag (s : State) (f : Bits) : State := s.flagIrq R.MEM_FLAGS f 2

/-- DEC.FLAGS bit, with interrupt source 3 (R278, R448). -/
def State.decFlag (s : State) (f : Bits) : State := s.flagIrq R.DEC_FLAGS f 3

/-- THERM.FLAGS bit, with interrupt source 5 (R428, R448). -/
def State.thermFlag (s : State) (f : Bits) : State := s.flagIrq R.THERM_FLAGS f 5

/-- The global mode conditions used by many rules: the timeline modes ARMED, RUN and HOLD. -/
def Mode.timeline : Mode → Bool
  | .armed | .run | .hold => true
  | _ => false

/-- TOP.MODE.PATTERNED (02). -/
def State.patterned (s : State) : Bool := s.flag R.TOP_MODE Fd.TOP_MODE_PATTERNED

/-- TOP.MODE.COHERENT as the Epoch and REF_LOSS leave it (02, R108). -/
def State.coherent (s : State) : Bool := s.flag R.TOP_MODE Fd.TOP_MODE_COHERENT

/-- A software request or transition finds TRANSIT at 1 (R47): a transition, a load or memory maintenance. -/
def State.inTransit (s : State) : Bool := s.transit.isSome || s.load.isSome || s.memc.maint.isSome

end Sys2Proof.Machine
end

