-- ==== Sys2Proof/Machine/MemOps.lean ====
section
/-!
DEFINITION. Shared operations of the waveform memory controller (13): slots and devices (R334, R335), error counts and
retirement (R341, R357), and the uncorrectable error (R342).
-/
namespace Sys2Proof.Machine

/-- The memory device that holds a slot, if one does (MEM.MAP, R334). -/
def State.slotDev (s : State) (slot : Nat) : Option Nat :=
  (List.range 9).find? fun d => (s.dev d).st == .active && (s.dev d).slot == slot

/-- The device of a 64-byte unit (R335). -/
def State.unitDev (s : State) (u : Nat) : Option Nat := s.slotDev (u % 8)

/-- The bank of a unit (R335). -/
def unitBank (u : Nat) : Nat := 4 * (u / 2 ^ 26 % 4) + u / 2 ^ 9 % 4

/-- The row of a unit (R335). -/
def unitRow (u : Nat) : Nat := u / 2 ^ 11 % 2 ^ 15

/-! ### Open rows (R338) -/

/-- `n` command clocks in ticks, rounded up. PRESUMED: the command clock of GDDR6, an eighth of the data rate per pin. -/
def State.cmdClocks (s : State) (n : Nat) : Nat := (24 * n + s.memc.rate - 1) / s.memc.rate

/-- The row of a unit is open on a channel of its device. -/
def State.rowOpenOn (s : State) (c u : Nat) : Bool :=
  let x := NMap.get (fun _ => {}) s.memc.rows (16 * c + unitBank u)
  x.row == unitRow u && decide (s.clk.now < x.till)

/-- The row of a unit is open on both channels of its device. -/
def State.rowOpen (s : State) (u : Nat) : Bool :=
  match s.unitDev u with
  | none => false
  | some d => s.rowOpenOn (2 * d) u && s.rowOpenOn (2 * d + 1) u

/-- The row that an access leaves behind (R338): open for 1,024 or 64 idle command clocks, or precharged. -/
def State.rowAfter (s : State) (u : Nat) (h : PageHint) : OpenRow :=
  match h with
  | .open_ => { row := unitRow u, till := s.clk.now + s.cmdClocks 1024 }
  | .auto => { row := unitRow u, till := s.clk.now + s.cmdClocks 64 }
  | .close => {}

/-- A unit is accessed (R335, R338). -/
def State.access (s : State) (u : Nat) (h : PageHint) : State :=
  match s.unitDev u with
  | none => s
  | some d =>
    let k := 32 * d + unitBank u
    let r := s.rowAfter u h
    { s with memc := { s.memc with
        rows := NMap.set (fun _ => {}) (NMap.set (fun _ => {}) s.memc.rows k r) (k + 16) r } }

/-- The units of a range are accessed. -/
def State.accessAll (s : State) (a n : Nat) (h : PageHint) : State :=
  foldAll (fun s i => s.access (a / 64 + i) h) s (List.range ((a + n + 63) / 64 - a / 64))

/-- A refresh closes the rows it takes: those of a bank, or of every bank of the channel (R338, R349). -/
def State.rowsClose (s : State) (c : Nat) (bank : Option Nat) : State :=
  { s with memc := { s.memc with rows := NMap.erase (fun k => k / 16 == c && bank.all (· == k % 16)) s.memc.rows } }

/-- A count per hour, newest hour first, increased in the present hour (R357). -/
def hourAdd (n : Nat) : List Nat → List Nat
  | [] => [n]
  | h :: t => (h + n) :: t

/-- The errors of the last 24 hours. -/
def hourSum (l : List Nat) : Nat := l.foldl (· + ·) 0

/-- A device that is an unassigned spare, if one is left (R356, R357). -/
def State.spare (s : State) : Option Nat := (List.range 9).find? fun d => (s.dev d).st == .spare

/-- RETIRE_DUE of an active device (R357): above the CE limit, or 2 UEs in 24 hours. The order of falling due is
kept. Without a spare RETIRE_NO_SPARE is set (R359). -/
def State.retireCheck (s : State) (d : Nat) : State :=
  let x := s.dev d
  if x.st == .active && x.retireDue == 0 &&
      (decide (s.fld R.MEM_RETIRE_CFG Fd.MEM_RETIRE_CFG_CE_LIMIT < hourSum x.ce) || decide (2 ≤ hourSum x.ue)) then
    let s := if s.spare.isNone then s.memFlag Fd.MEM_FLAGS_RETIRE_NO_SPARE else s
    ({ s with memc := { s.memc with dueCount := s.memc.dueCount + 1 } } : State).onDev d fun x =>
      { x with retireDue := s.memc.dueCount + 1 }
  else s

/-- A corrected error of a device (R341). -/
def State.countCe (s : State) (d n : Nat) : State :=
  (s.onDev d fun x => { x with ce := hourAdd n x.ce }).retireCheck d

/-- An uncorrectable error counted against a device (R341, R343). -/
def State.countUe (s : State) (d : Nat) : State :=
  (s.onDev d fun x => { x with ue := hourAdd 1 x.ue }).retireCheck d

/-- Write the poison pattern of R342 into a unit. -/
def State.poisonUnit (s : State) (u : Nat) : State :=
  { s with memc := { s.memc with ue := NMap.set (fun _ => false) s.memc.ue u true } }

/-- The unit decodes as a UE (R342). -/
def State.unitBad (s : State) (u : Nat) : Bool := NMap.get (fun _ => false) s.memc.ue u

/-- Refresh states with the whole debt issued (R350). -/
def debtsPaid (m : NMap MemChan) : NMap MemChan :=
  let paid : NMap MemChan := m.map fun e => (e.1, { trr := e.2.trr })
  paid.filter fun e => decide (e.2 ≠ {})

/-- FLAGS.UE with UE_LOG: the first address and requester since the flag was cleared (R342). -/
def State.ueFlag (s : State) (u req : Nat) : State :=
  if s.flag R.MEM_FLAGS Fd.MEM_FLAGS_UE then s
  else
    ((s.setReg R.MEM_UE_LOG_LO (BitVec.ofNat 32 (64 * u))).setReg R.MEM_UE_LOG_HI
      (BitVec.ofNat 32 (64 * u / 2 ^ 32 + 16 * req))).memFlag Fd.MEM_FLAGS_UE

/-- UNCORRECTABLE_ERROR (R342): the unit is poisoned, counted against its device (R341), flagged and logged. With a
DEAD device the request completes as a UE without a memory access (R361). -/
def State.uncorrectable (s : State) (u req : Nat) : State :=
  if s.memDead then s.ueFlag u req
  else
    let s := s.poisonUnit u
    let s := match s.unitDev u with
      | some d => s.countUe d
      | none => s
    s.ueFlag u req

/-- Any unit of the bytes from `a` on decodes as a UE. -/
def State.badUnits (s : State) (a n : Nat) : List Nat :=
  ((List.range ((a + n + 63) / 64 - a / 64)).map (· + a / 64)).filter s.unitBad

end Sys2Proof.Machine
end

