-- ==== Sys2Proof/Machine/Operands.lean ====
section
/-!
DEFINITION. The fields of a lane instruction word (R141, R142) and of a segment descriptor (R113, R114), and the
comparisons that lane branches use (R145).
-/
namespace Sys2Proof.Machine

/-- A lane instruction word of Bench `b` at offset `off` of lane `l`'s partition (R137). -/
def State.laneWord (s : State) (b l off : Nat) : Nat :=
  s.reg64 (R.LANE_PROG b ((s.fld (R.LOOM_LANE_PART b l) Fd.LOOM_LANE_PART_BASE + off) % 32768) 0)

/-- Fields of a lane instruction word (R142), named as the table names them. -/
def liOp (w : Nat) : Nat := bitsOf w 58 6
/-- VOICE. -/
def liVoice (w : Nat) : Nat := bitsOf w 56 2
/-- ALIAS. -/
def liAlias (w : Nat) : Bool := bitAt w 55
/-- SEG, or the alias number. -/
def liSeg (w : Nat) : Nat := if bitAt w 55 then bitsOf w 35 12 else bitsOf w 35 20
/-- OFS of PLAY and PLAYX. -/
def liOfs (w : Nat) : Nat := bitsOf w 21 14
/-- AMP of PLAY. -/
def liAmp (w : Nat) : Nat := bitsOf w 5 16
/-- FRAME of PLAY and PLAYX. -/
def liFrame (w : Nat) : Nat := bitsOf w 3 2
/-- ADV. -/
def liAdv (w : Nat) : Bool := bitAt w 2
/-- WIN. -/
def liWin (w : Nat) : Bool := bitAt w 1
/-- VA and VP of PLAYX. -/
def liVa (w : Nat) : Nat := bitsOf w 18 3
/-- VP of PLAYX. -/
def liVp (w : Nat) : Nat := bitsOf w 15 3
/-- USEV of IDLE and LOOP. -/
def liUsev (w : Nat) : Bool := bitAt w 57
/-- VREG of IDLE and LOOP. -/
def liVreg (w : Nat) : Nat := bitsOf w 54 3
/-- The low 32 bits: N of IDLE, VALUE of FRAME and SETV. -/
def liValue (w : Nat) : Nat := bitsOf w 0 32
/-- OFS of FRAME and MARK. -/
def liOfsF (w : Nat) : Nat := bitsOf w 34 14
/-- FRM, KIND, ADD, USEV and VREG of FRAME. -/
def liFrm (w : Nat) : Nat := bitsOf w 54 2
/-- KIND of FRAME. -/
def liKind (w : Nat) : Bool := bitAt w 53
/-- ADD of FRAME. -/
def liFAdd (w : Nat) : Bool := bitAt w 52
/-- USEV of FRAME. -/
def liFUsev (w : Nat) : Bool := bitAt w 51
/-- VREG of FRAME. -/
def liFVreg (w : Nat) : Nat := bitsOf w 48 3
/-- ASAP of WAITD. -/
def liAsap (w : Nat) : Bool := bitAt w 57
/-- SRC of WAITD. -/
def liSrc (w : Nat) : Nat := bitsOf w 54 3
/-- KSEL of WAITD. -/
def liKsel (w : Nat) : Nat := bitsOf w 52 2
/-- DEF of WAITD. -/
def liDef (w : Nat) : Nat := bitsOf w 48 4
/-- DL of WAITD and SYNC. -/
def liDl (w : Nat) : Nat := bitsOf w 28 20
/-- SEL of WAITD. -/
def liSel (w : Nat) : Nat := bitsOf w 16 12
/-- The number of alternatives of a WAITD. -/
def liAlts (w : Nat) : Nat := if liKsel w = 0 then 2 else if liKsel w = 1 then 4 else 16
/-- COND of BR. -/
def liCond (w : Nat) : Nat := bitsOf w 54 4
/-- NEG of BR. -/
def liNeg (w : Nat) : Bool := bitAt w 53
/-- CMP of BR. -/
def liCmp (w : Nat) : Nat := bitsOf w 51 2
/-- DEFT of BR. -/
def liDeft (w : Nat) : Bool := bitAt w 50
/-- TGT of BR. -/
def liTgt (w : Nat) : Nat := bitsOf w 35 15
/-- SEL of BR. -/
def liBsel (w : Nat) : Nat := bitsOf w 23 12
/-- IMM of BR. -/
def liImm (w : Nat) : Nat := bitsOf w 3 20
/-- COUNT of LOOP. -/
def liCount (w : Nat) : Nat := bitsOf w 0 20
/-- TAL, EVT, CODE and LINE of MARK. -/
def liTal (w : Nat) : Bool := bitAt w 57
/-- EVT of MARK. -/
def liEvt (w : Nat) : Bool := bitAt w 56
/-- CODE of MARK. -/
def liCode (w : Nat) : Nat := bitsOf w 48 8
/-- LINE of MARK. -/
def liLine (w : Nat) : Nat := bitsOf w 33 1
/-- VREG and ADD of SETV. -/
def liSVreg (w : Nat) : Nat := bitsOf w 55 3
/-- ADD of SETV. -/
def liSAdd (w : Nat) : Bool := bitAt w 54

/-- The comparison CMP of BR: EQ, NE, LT, GE (R142). -/
def cmpInt (c : Nat) (x y : Int) : Bool :=
  match c with
  | 0 => x == y
  | 1 => x != y
  | 2 => decide (x < y)
  | _ => decide (y ≤ x)

/-- A comparison of unsigned values. -/
def cmpNat (c x y : Nat) : Bool := cmpInt c (Int.ofNat x) (Int.ofNat y)

/-- A quotient rounded to the nearest whole number, ties to even. -/
def rndEven (a : Int) (n : Nat) : Int :=
  let q := a / Int.ofNat n
  let r := a - q * Int.ofNat n
  if 2 * r < Int.ofNat n then q else if Int.ofNat n < 2 * r then q + 1 else if q % 2 = 0 then q else q + 1

/-- The VOID bit of a decision word (R250). -/
def voidWord : Nat := 0x800

/-- STATE of a decision word (R250). -/
def dwState (w : Nat) : Nat := bitsOf w 0 3
/-- CONF of a decision word (R250). -/
def dwConf (w : Nat) : Nat := bitsOf w 3 6

/-! ### Segment descriptors (R113, R114): the four words of a directory entry -/

/-- Word `i` of a descriptor. -/
def dWord (ws : List Nat) (i : Nat) : Nat := ws.getD i 0
/-- ADDR as a byte address. -/
def dAddr (ws : List Nat) : Nat := 64 * bitsOf (dWord ws 0) 0 30
/-- The LEN field. -/
def dLenRaw (ws : List Nat) : Nat := bitsOf (dWord ws 1) 0 20
/-- The length in granules; 0 encodes 2^20. -/
def dLen (ws : List Nat) : Nat := if dLenRaw ws = 0 then 0x100000 else dLenRaw ws
/-- The STEP field. -/
def dStepRaw (ws : List Nat) : Nat := bitsOf (dWord ws 2) 0 24
/-- STEP in units of 2^-24; 0 encodes 1.0. -/
def dStep (ws : List Nat) : Nat := if dStepRaw ws = 0 then 0x1000000 else dStepRaw ws
/-- FMT (R111). -/
def dFmt (ws : List Nat) : Nat := bitsOf (dWord ws 2) 24 4
/-- PLAY in ticks. -/
def dPlay (ws : List Nat) : Nat := bitsOf (dWord ws 3) 0 24
/-- STREAM. -/
def dStream (ws : List Nat) : Bool := bitAt (dWord ws 3) 24
/-- RESIDENT. -/
def dResident (ws : List Nat) : Bool := bitAt (dWord ws 3) 25
/-- LOOPABLE. -/
def dLoopable (ws : List Nat) : Bool := bitAt (dWord ws 3) 26
/-- LOST. -/
def dLost (ws : List Nat) : Bool := bitAt (dWord ws 3) 30
/-- VALID. -/
def dValid (ws : List Nat) : Bool := bitAt (dWord ws 3) 31
/-- Bytes per granule (R112). -/
def dGran (ws : List Nat) : Nat := if dFmt ws = 0 then 64 else 32
/-- The stored samples in bytes. -/
def dBytes (ws : List Nat) : Nat := dLen ws * dGran ws

end Sys2Proof.Machine
end

