-- ==== Sys2Proof/Machine/LaneOps.lean ====
section
/-!
DEFINITION. What several units do to lanes and read of them: lane flags and counters (R173), bindings (R18, R20), the
late change of a live source (R168), and the play queues.
-/
namespace Sys2Proof.Machine

/-- Set a flag of a lane. -/
def State.laneFlag (s : State) (b l : Nat) (f : Bits) : State := s.raise (R.LOOM_LANE_FLAGS b l) f

/-- LATE_PLAY of a lane: flag, counter and BENCHn.EVENTS, and a tier-4 breach (R173, R331). -/
def State.laneLate (s : State) (b l : Nat) : State :=
  (((s.laneFlag b l Fd.LOOM_LANE_FLAGS_LATE_PLAY).satAdd (R.LOOM_LANE_CNT_A b l) Fd.LOOM_LANE_CNT_A_LATE_PLAY
    1).benchEvent b Fd.BENCH_EVENTS_LATE_PLAY).breach Fd.TOP_BREACH_TIER4

/-- COLD_BRANCH of a lane: flag, counter and BENCHn.EVENTS, and a tier-5 breach (R159, R173, R331). -/
def State.laneCold (s : State) (b l : Nat) : State :=
  (((s.laneFlag b l Fd.LOOM_LANE_FLAGS_COLD_BRANCH).satAdd (R.LOOM_LANE_CNT_A b l) Fd.LOOM_LANE_CNT_A_COLD_BRANCH
    1).benchEvent b Fd.BENCH_EVENTS_COLD_BRANCH).breach Fd.TOP_BREACH_TIER5

/-- VOID of a lane: flag, counter and BENCHn.EVENTS, and a tier-5 breach (R173, R331). -/
def State.laneVoid (s : State) (b l : Nat) : State :=
  (((s.laneFlag b l Fd.LOOM_LANE_FLAGS_VOID).satAdd (R.LOOM_LANE_CNT_B b l) Fd.LOOM_LANE_CNT_B_VOID 1).benchEvent b
    Fd.BENCH_EVENTS_VOID).breach Fd.TOP_BREACH_TIER5

/-- A poisoning by a lane: the mark of R371 and the lane's POISONED flag. -/
def State.lanePoison (s : State) (b l cause detail : Nat) : State :=
  (s.poison b cause detail).laneFlag b l Fd.LOOM_LANE_FLAGS_POISONED

/-- A V register as an instruction executed now reads it (R148). -/
def State.vreg (s : State) (b l r : Nat) : Nat := (s.regBefore (R.LOOM_LANE_V b l r)).toNat

/-- A lane's bindings (LANEm_BIND): the tone of its D or P voice, or the flux DAC of its F voice. -/
def State.voiceUnit (s : State) (b l voice : Nat) : Option Nat :=
  let r := R.LOOM_LANE_BIND b l
  match voice with
  | 0 => if s.flag r Fd.LOOM_LANE_BIND_DEN then some (s.fld r Fd.LOOM_LANE_BIND_DTONE) else none
  | 1 => if s.flag r Fd.LOOM_LANE_BIND_PEN then some (32 + s.fld r Fd.LOOM_LANE_BIND_PTONE) else none
  | _ => if s.flag r Fd.LOOM_LANE_BIND_FEN then some (s.fld r Fd.LOOM_LANE_BIND_FLX) else none

/-- The window number of a lane's voice (VSTREAMv): D lane m is m, P is 32 + m, F on flux DAC k is 64 + k. -/
def State.windowOf (s : State) (b l voice : Nat) : Nat :=
  match voice with
  | 0 => l
  | 1 => 32 + l
  | _ => 64 + (s.voiceUnit b l 2).getD 0

/-- The lane and voice behind a window number, if one is bound. -/
def State.windowVoice (s : State) (b v : Nat) : Option (Nat × Nat) :=
  if v < 32 then some (v, 0)
  else if v < 64 then some (v - 32, 1)
  else ((List.range 32).find? fun l => s.voiceUnit b l 2 == some (v - 64)).map fun l => (l, 2)

/-- The converter output i of a lane's voice (FDLYi): drive 4b + k, probe 32 + 2b + k, flux 48 + 16b + k. -/
def State.voiceOut (s : State) (b l voice : Nat) : Nat :=
  let u := (s.voiceUnit b l voice).getD 0
  match voice with
  | 0 => 4 * b + u / 8
  | 1 => 32 + 2 * b + (u - 32) / 16
  | _ => 48 + 16 * b + u

/-- The demodulation channel that a lane's P voice owns (R20, CHc_BIND). -/
def State.laneChan (s : State) (b l : Nat) : Option Nat :=
  (List.range 32).find? fun c =>
    s.flag (R.READ_CH_BIND b c) Fd.READ_CH_BIND_BOUND && s.fld (R.READ_CH_BIND b c) Fd.READ_CH_BIND_LANE == l

/-- The plays queued on a voice of a lane. -/
def Lane.queue (x : Lane) (voice : Nat) : List Play := NMap.get (fun _ => []) x.plays voice

/-- Replace the plays of a voice. -/
def Lane.setQueue (x : Lane) (voice : Nat) (q : List Play) : Lane :=
  { x with plays := NMap.set (fun _ => []) x.plays voice q }

/-- Change every play of a lane. -/
def Lane.mapPlays (x : Lane) (f : Play → Play) : Lane := { x with plays := x.plays.map fun e => (e.1, e.2.map f) }

/-- Keep the plays of a lane that satisfy a test. -/
def Lane.keepPlays (x : Lane) (p : Play → Bool) : Lane :=
  { x with plays := (x.plays.map fun e => (e.1, e.2.filter p)).filter fun e => !e.2.isEmpty }

/-- Every play of a lane, whatever its voice. -/
def Lane.allPlays (x : Lane) : List Play := x.plays.flatMap fun e => e.2

/-- A play whose last output sample has left the Loom (R149); one that awaits its descriptor has not. -/
def Play.over (p : Play) (time : Nat) : Bool := p.started && p.desc != .awaited && decide (p.ends ≤ time)

/-- A play is in progress at a tick. -/
def Play.active (p : Play) (time : Nat) : Bool := p.started && !p.over time

/-- The first tick at which a play is heard (R157): its start, or 126 ticks after its issue. -/
def Play.heard (p : Play) : Nat := max p.start (p.issued + 126)

/-- The segments of some plays, once each. -/
def segsOf (ps : List (Nat × Play)) : List Nat := (ps.map (·.2.seg)).eraseDups

/-- What the render slots of an alternative hold (R163): for each voice on which its head plays before B + 64, the
segments played there. -/
def Head.slotSegs (h : Head) : List (List Nat) :=
  (List.range 3).filterMap fun v =>
    match h.plays.filter fun e => e.1 == v && decide (e.2.start < 64) with
    | [] => none
    | ps => some (segsOf ps)

/-- What the stage buffers of a head hold, voice by voice (R162). -/
def Head.stageSegs (h : Head) : List (Nat × List Nat) :=
  (List.range 3).filterMap fun v =>
    match h.plays.filter fun e => e.1 == v with
    | [] => none
    | ps => some (v, segsOf ps)

/-- The first of several heads that start at the same address: they share a stage buffer (R162). -/
def oneByTarget : List Head → List Head
  | [] => []
  | h :: hs => h :: (oneByTarget hs).filter fun g => g.target != h.target

/-- The references that the render slots and stage buffers of a lane hold (R128): those of pending branches, and those of
chosen alternatives until they are released. -/
def Lane.heldSegs (x : Lane) : List Nat :=
  let slots := x.branches.flatMap fun br =>
    if br.resHeld + br.poolHeld = 0 then [] else br.heads.flatMap fun h => h.slotSegs.flatten
  let stages := (oneByTarget ((x.branches.filter fun br => br.stage != .none_).flatMap (·.heads))).flatMap fun h =>
    h.stageSegs.flatMap (·.2)
  slots ++ stages ++ x.slots.flatMap (·.segs) ++ x.stages.flatMap fun e => e.bufs.flatMap (·.2)

/-- A live source of a committed branch turns at tick `t` to the value that would have taken it, no later than the
boundary (R168): LATE_JUMP is counted. The watches of boundaries that have passed are dropped. -/
def State.lateJump (s : State) (b l cond sel t : Nat) (v : Bool) : State :=
  let x := s.lane b l
  let hit := x.watches.filter fun w => w.cond == cond && w.sel == sel && w.want == v && decide (t ≤ w.bnd)
  if x.watches.isEmpty then s
  else
    let s := s.onLane b l fun x =>
      { x with watches := x.watches.filter fun w => decide (s.clk.time ≤ w.bnd) && !hit.contains w }
    if hit.isEmpty then s
    else
      (s.laneFlag b l Fd.LOOM_LANE_FLAGS_LATE_JUMP).satAdd (R.LOOM_LANE_CNT_B b l) Fd.LOOM_LANE_CNT_B_LATE_JUMP
        hit.length

/-- The four words of a committed descriptor (R113, R119). -/
def State.segWords (s : State) (id : Nat) : List Nat :=
  (List.range 4).map fun w => (s.reg (R.SEGDIR id w)).toNat

/-- Store a descriptor. -/
def State.setSeg (s : State) (id : Nat) (ws : List Nat) : State :=
  foldAll (fun s w => s.setReg (R.SEGDIR id w) (BitVec.ofNat 32 (dWord ws w))) s (List.range 4)

/-- The residency mask of a segment: the Benches it is resident in (R125). -/
def State.resMask (s : State) (id : Nat) : Nat := NMap.get (fun _ => 0) s.segs.resident id

/-- The base of the segment directory in waveform memory: the 16 MiB below the Tally ring (R71). -/
def State.dirBase (s : State) : Nat := s.fld R.TALLY_RING_CFG Fd.TALLY_RING_CFG_BASE * 0x4000000 - 0x1000000

/-- The residency threshold in bytes (R123). -/
def State.threshold (s : State) : Nat := 1024 * s.fld R.LOOM_SEG_CFG Fd.LOOM_SEG_CFG_THRESH

/-- The segment IDs that are referenced in a Bench, once per reference of R128: queued plays, render-slot alternatives,
streaming windows, stage buffers and residencies. -/
def State.benchRefs (s : State) (b : Nat) : List Nat :=
  let lanes := (List.range 32).flatMap fun l =>
    let x := s.lane b l
    (x.allPlays.filter fun p => !p.over s.clk.time).map (·.seg) ++ x.headQ.map (·.2.seg) ++ x.heldSegs
  let live := fun (v : Nat) (f : Fetch) => match s.windowVoice b v with
    | some (l, voice) => ((s.lane b l).queue voice).any fun p => p.ser == f.ser && !p.over s.clk.time
    | none => false
  let wins := (s.loom b).windows.flatMap fun w => ((w.2.streams.filter (live w.1)).map (·.seg)).eraseDups
  lanes ++ wins ++ (s.segs.resident.filter fun e => bitAt e.2 b).map (·.1)

/-- REFS of a segment (R128). -/
def State.segRefs (s : State) (id : Nat) : Nat :=
  ((List.range 8).flatMap fun b => (s.benchRefs b).filter (· == id)).length

/-- A segment is active (R128). -/
def State.segActive (s : State) (id : Nat) : Bool := s.segRefs id != 0

/-- Every active segment, once. -/
def State.activeSegs (s : State) : List Nat := ((List.range 8).flatMap s.benchRefs).eraseDups

/-- LOST is set in a segment's descriptor (R132): stored data are lost (R331). -/
def State.segLost (s : State) (id : Nat) : State :=
  let ws := s.segWords id
  (s.setReg (R.SEGDIR id 3) (BitVec.ofNat 32 (dWord ws 3 ||| 0x40000000))).breach Fd.TOP_BREACH_TIER2

end Sys2Proof.Machine
end

