-- ==== Sys2Proof/Machine/AssayOps.lean ====
section
/-!
DEFINITION. What the readout channels and the engines share (08, 09): windows and their samples (R204, R206), the input
FIFO (R213, R217), owed windows and automatic answers (R218, R219), the output port (R220, R221) and the stop of an
engine (R244, R249).
-/
namespace Sys2Proof.Machine

/-! ### Windows -/

/-- N of a window (CHc_WIN): values outside 16 to 4,096 are treated as the nearer limit. -/
def Win.n (w : Win) : Nat := max 16 (min 4096 (bitsOf w.wcfg 16 13))
/-- The number of kernels K (CHc_KCFG). -/
def Win.k (w : Win) : Nat := bitsOf w.kcfg 0 2 + 1
/-- PARTIAL. -/
def Win.partial_ (w : Win) : Bool := bitAt w.kcfg 2
/-- IQ. -/
def Win.iq (w : Win) : Bool := bitAt w.kcfg 3
/-- SHIFT. -/
def Win.shift (w : Win) : Nat := bitsOf w.kcfg 4 4
/-- The last ADC sample (R204). -/
def Win.last (w : Win) : Int := w.m0 + 16 * Int.ofNat w.n - 1
/-- The window is open at a tick: it has opened, has not ended early, and its last sample has not passed. -/
def Win.isOpen (w : Win) (time : Nat) : Bool :=
  w.opened && !w.void_ && decide (4 * Int.ofNat time ≤ w.last)

/-- Change one window of a channel. -/
def State.onWin (s : State) (b c ser : Nat) (f : Win → Win) : State :=
  s.onChan b c fun x => { x with wins := x.wins.map fun w => if w.ser = ser then f w else w }

/-- A window of a channel. -/
def State.win (s : State) (b c ser : Nat) : Option Win := (s.chan b c).wins.find? fun w => w.ser == ser

/-- The ADC of a channel (CHc_BIND). -/
def State.chanAdc (s : State) (b c : Nat) : Nat := s.fld (R.READ_CH_BIND b c) Fd.READ_CH_BIND_ADC

/-- The open windows of an ADC, as channel and window. -/
def State.adcOpen (s : State) (b a : Nat) : List (Nat × Win) :=
  (List.range 32).flatMap fun c =>
    if s.chanAdc b c = a then (((s.chan b c).wins.filter (·.isOpen s.clk.time)).map fun w => (c, w)) else []

/-- Set a flag of a channel. -/
def State.chFlag (s : State) (b c : Nat) (f : Bits) : State := s.raise (R.READ_CH_FLAGS b c) f

/-! ### Engines -/

/-- The engine runs its program, or will run it to its boundary. -/
def Engine.runs (x : Engine) : Bool := x.st == .run || x.st == .wait || x.st == .rep

/-- Set a flag of an engine. -/
def State.engFlag (s : State) (b e : Nat) (f : Bits) : State := s.raise (R.ASSAY_FLAGS b e) f

/-- A window is still to be answered by a DECIDE: it is owed and no automatic answer is due for it (R218, R219). -/
def State.isOwed (s : State) (b c ser : Nat) : Bool :=
  match s.win b c ser with
  | some w => w.owed && !((s.eng b (c / 8)).answers.any fun a => a.ch == c && a.win == ser)
  | none => false

/-- An automatic answer falls due for an owed window (R219). -/
def State.answerDue (s : State) (b c ser : Nat) (lost : Bool) : State :=
  if s.isOwed b c ser then
    s.onEng b (c / 8) fun x => { x with answers := x.answers ++ [{ ch := c, win := ser, lost := lost }] }
  else s

/-- Owed windows of a channel that a test names are answered automatically, with SKIP (R219). -/
def State.skipOwed (s : State) (b c : Nat) (p : Win → Bool) : State :=
  foldAll (fun s w =>
    if s.isOwed b c w.ser then (s.answerDue b c w.ser false).engFlag b (c / 8) Fd.ASSAY_FLAGS_SKIP else s) s
    ((s.chan b c).wins.filter fun w => w.owed && p w)

/-- The header word of a window entry (R212). -/
def entryHdr (c kind idx : Nat) (w : Win) (sat : Bool) : Nat :=
  c % 8 + 8 * kind + 32 * (idx % 256) + 8192 * bit w.inv + 16384 * bit w.clip + 32768 * bit sat + 65536 * w.num +
    16777216 * (w.k - 1)

/-- An entry takes its place in the FIFO: of the entries of one tick, those of lower channels come first (R213). -/
def insertEntry (x : Entry) : List Entry → List Entry
  | [] => [x]
  | y :: ys => if y.at_ = x.at_ && x.ch < y.ch then x :: y :: ys else y :: insertEntry x ys

/-- A window entry goes to the input FIFO (R213, R219, R244): to a stopped engine it is answered and discarded; a full
FIFO drops it. -/
def State.pushEntry (s : State) (b c kind idx : Nat) (w : Win) (sat : Bool) (sums : List Nat) : State :=
  let e := c / 8
  let x := s.eng b e
  if !x.runs then (if kind = 0 then s else s.answerDue b c w.ser false)
  else if 64 ≤ x.fifo.length then
    let s := s.chFlag b c Fd.READ_CH_FLAGS_FIFO_DROP
    if kind = 0 then s
    else ((s.answerDue b c w.ser true).engFlag b e Fd.ASSAY_FLAGS_FIFO_LOST).breach Fd.TOP_BREACH_TIER5
  else
    let ent : Entry := { hdr := entryHdr c kind idx w sat, sums := sums, ch := c, win := w.ser, at_ := s.clk.time }
    let s := s.onEng b e fun x => { x with fifo := insertEntry ent x.fifo }
    if kind = 2 then s.answerDue b c w.ser false else s

/-- A VOID entry of a window (R206, R207): the window ends. -/
def State.voidWin (s : State) (b c : Nat) (w : Win) : State :=
  let s := s.onWin b c w.ser fun x => { x with closed := true, void_ := true }
  s.pushEntry b c 2 0 w false [0, 0, 0, 0]

/-- Every open window of the device ends at once with a VOID entry (R207). -/
def State.endWindows (s : State) : State :=
  foldAll (fun s b => foldAll (fun s c =>
    foldAll (fun s w => s.voidWin b c w) s ((s.chan b c).wins.filter (·.isOpen s.clk.time))) s (List.range 32))
    s (List.range 8)

/-- A word is placed on an engine's output port at tick `t` (R218, R220, R221): the window is answered, the word is on
the Bench decision bus 6 ticks later, and with TALLY_DEC a DEC record is written. -/
def State.placeWord (s : State) (b c ser word t : Nat) (auto : Bool) : State :=
  let e := c / 8
  let num := ((s.win b c ser).map (·.num)).getD 0
  let s := s.onWin b c ser fun w => { w with owed := false }
  let s : State := { s with dec := { s.dec with
    bus := s.dec.bus ++ [{ bench := b, ch := c, win := ser, word := word, due := t + 6 }] } }
  let s := if auto then s.satAdd (R.ASSAY_CNT_AUTO b e) Fd.ASSAY_CNT_AUTO_COUNT 1
    else s.wrapAdd (R.ASSAY_CNT_DEC b e) Fd.ASSAY_CNT_DEC_COUNT 1
  if s.flag (R.ASSAY_CFG b e) Fd.ASSAY_CFG_TALLY_DEC then
    s.offer (3 * b + 1) (srcOf b 0 c 1) 0x02 1 t [(0, 2, word + 4096 * bit auto), (2, 1, num)]
  else s

/-- The default word of a channel (R251). -/
def State.defaultWord (s : State) (b c : Nat) : Nat :=
  voidWord + bitsOf (s.reg (R.ASSAY_DEFAULT b (c / 8))).toNat (3 * (c % 8)) 3

/-- The engine stops (R244, R245, R249): the FIFO is discarded and every owed window of its channels is to be answered,
in ascending channel order. -/
def State.engStop (s : State) (b e : Nat) (st : EngSt) : State :=
  let s := s.onEng b e fun x =>
    { x with st := st, fifo := [], stopReq := false, trapReq := false, rep := 0, waitFrom := none, done := 0
             halted := false, xw := none, xyLate := [], cur := none }
  foldAll (fun s k =>
    let c := 8 * e + k
    foldAll (fun s w => s.answerDue b c w.ser false) s ((s.chan b c).wins.filter (·.owed))) s (List.range 8)

/-- ENGINE_FAULT (R249): cause and PC are recorded and the engine stops in FAULT; in RUN the shot is poisoned. -/
def State.engFault (s : State) (b e cause pc : Nat) : State :=
  let s := ((s.setFld (R.ASSAY_FAULT b e) Fd.ASSAY_FAULT_CAUSE cause).setFld (R.ASSAY_FAULT b e) Fd.ASSAY_FAULT_PC
    (pc % 4096)).engFlag b e Fd.ASSAY_FLAGS_FAULT
  let s := s.engStop b e .fault
  if s.mode == .run then s.poison b 8 e else s

end Sys2Proof.Machine
end

