-- ==== Sys2Proof/Machine/AssayRun.lean ====
section
/-!
DEFINITION. How an Assay bundle is performed (R225 to R227, R246): the slots of the bundle at PC, each performed once
and reading the registers as they stood at the start of the bundle; the end of the bundle, where all writes take effect.
-/
namespace Sys2Proof.Machine

/-- The bundle at an address of an engine's program memory (R224, R225). -/
def State.bundle (s : State) (b e pc : Nat) : Nat := s.reg64 (R.ASSAY_PROG b e pc 0)

/-- The control slot of a bundle. -/
def ctlOf (w : Nat) : Nat := bitsOf w 48 16
/-- The MAC slot of a bundle. -/
def macOf (w : Nat) : Nat := bitsOf w 20 28
/-- The address slot of a bundle. -/
def adrOf (w : Nat) : Nat := bitsOf w 0 20
/-- The opcode of a control slot. -/
def ctlOp (c : Nat) : Nat := bitsOf c 12 4
/-- The opcode of a MAC slot. -/
def macOp (m : Nat) : Nat := bitsOf m 24 4
/-- The form of an address slot. -/
def adrForm (a : Nat) : Nat := bitsOf a 18 2

/-- The slots of a bundle that hold an operation: bit 0 control, bit 1 MAC, bit 2 address. -/
def slotsOf (w : Nat) : Nat :=
  bit (ctlOp (ctlOf w) != 0) + 2 * bit (macOp (macOf w) != 0) +
    4 * bit (adrForm (adrOf w) != 0 || bitAt (adrOf w) 11)

/-- A signed 12-bit offset or its two's complement. -/
def AsRegs.mreg (r : AsRegs) (i : Nat) : Int := NMap.get (fun _ => 0) r.m i
/-- A pointer. -/
def AsRegs.preg (r : AsRegs) (i : Nat) : Nat := NMap.get (fun _ => 0) r.p i
/-- A D register, 36 bits. -/
def AsRegs.dreg (r : AsRegs) (i : Nat) : Nat := NMap.get (fun _ => 0) r.d i
/-- An accumulator. -/
def AsRegs.areg (r : AsRegs) (i : Nat) : Int := NMap.get (fun _ => 0) r.a i
/-- Set a pointer. -/
def AsRegs.setP (r : AsRegs) (i v : Nat) : AsRegs := { r with p := NMap.set (fun _ => 0) r.p i (v % 4096) }
/-- Set an offset. -/
def AsRegs.setM (r : AsRegs) (i v : Nat) : AsRegs := { r with m := NMap.set (fun _ => 0) r.m i (sext 12 v) }
/-- Set a D register. -/
def AsRegs.setD (r : AsRegs) (i v : Nat) : AsRegs := { r with d := NMap.set (fun _ => 0) r.d i (v % 2 ^ 36) }
/-- Set an accumulator. -/
def AsRegs.setA (r : AsRegs) (i : Nat) (v : Int) : AsRegs := { r with a := NMap.set (fun _ => 0) r.a i v }
/-- A pointer moves on by an offset, modulo 4,096 (R241). -/
def AsRegs.bump (r : AsRegs) (old : AsRegs) (p m : Nat) : AsRegs :=
  r.setP p (lowBits 12 (Int.ofNat (old.preg p) + old.mreg m))

/-- The engine may go on with its bundle (R244, R246 to R248): a stop or a trap that is asked for comes first at a
boundary, and a REP that has ended is closed first. -/
def Engine.free (x : Engine) : Bool :=
  x.runs && !((x.stopReq || x.trapReq) && x.st != .rep && (x.done == 0 || x.st == .wait)) &&
    !(x.st == .rep && x.rep == 0)

/-- The word of the bundle at PC, if the engine performs slot `k` of it now. -/
def State.slotNow (s : State) (b e k : Nat) : Option Nat :=
  let x := s.eng b e
  let w := s.bundle b e x.pc
  if x.free && decide (x.cyc ≤ s.clk.time) && bitAt (slotsOf w) k && !bitAt x.done k then some w else none

/-- A PC past 0xFFF faults (R249). -/
def State.pcCheck (s : State) (b e : Nat) : State :=
  if 4096 ≤ (s.eng b e).pc then s.engFault b e 3 0xFFF else s

/-- A bundle without an operation takes its cycle and nothing else (R227): it is passed once its cycle has begun, unless
a stop or a trap comes first. -/
def State.nopPass (s : State) (b e : Nat) : State :=
  let x := s.eng b e
  if x.st == .run && x.done == 0 && x.free && decide (x.cyc ≤ s.clk.time) && slotsOf (s.bundle b e x.pc) == 0 then
    let late := x.xyLate.filter fun r => decide (x.cyc + 2 ≤ r.at_)
    (s.onEng b e fun x => { x with pc := x.pc + 1, cyc := x.cyc + 2, xyLate := late }).pcCheck b e
  else s

/-- The bundles without an operation whose cycles begin at the present tick or have begun are passed, in all engines. -/
def State.nopsTick (s : State) : State :=
  foldAll (fun s b => foldAll (fun s e => s.nopPass b e) s (List.range 4)) s (List.range 8)

/-- An X word (R222). -/
def State.xWord (s : State) (b e i : Nat) : Nat :=
  (s.reg (R.ASSAY_X b e i 0)).toNat + (s.reg (R.ASSAY_X b e i 1)).toNat % 16 * 2 ^ 32

/-- A Y word (R222). -/
def State.yWord (s : State) (b e i : Nat) : Nat :=
  (s.reg (R.ASSAY_Y b e i 0)).toNat + (s.reg (R.ASSAY_Y b e i 1)).toNat * 2 ^ 32 +
    (s.reg (R.ASSAY_Y b e i 2)).toNat % 256 * 2 ^ 64

/-- A word as the present bundle reads it (R224): a window write is seen from the assay cycle after its commit. -/
def Engine.seen (x : Engine) (y : Bool) (i now : Nat) : Nat :=
  ((x.xyLate.find? fun r => r.y == y && r.word == i && decide (x.cyc ≤ r.at_)).map (·.old)).getD now

/-- A MAC slot moves a value into FLAGS (R236). -/
def movFlags (w : Nat) : Bool := macOp (macOf w) == 10 && bitsOf (macOf w) 18 6 == 46

/-- The X write of the bundle reaches the memory, unless a window write of the same cycle has (R242). Behind a window
write of a later cycle it is what the cycles before that one read. -/
def State.commitX (s : State) (b e : Nat) : State :=
  let x := s.eng b e
  match x.xw with
  | some (p, v) =>
    let i := p % 4096
    let late := x.xyLate.filter fun r => !r.y && r.word == i && decide (x.cyc ≤ r.at_)
    if late.isEmpty then
      (s.setReg (R.ASSAY_X b e i 0) (BitVec.ofNat 32 v)).setReg (R.ASSAY_X b e i 1) (BitVec.ofNat 32 (v / 2 ^ 32))
    else if late.any fun r => decide (r.at_ < x.cyc + 2) then s
    else
      let first := (late.head?.map (·.at_)).getD 0
      s.onEng b e fun x => { x with xyLate := x.xyLate.map fun r =>
        if !r.y && r.word == i && r.at_ == first then { r with old := v } else r }
  | none => s

/-- The bundle ends (R226, R227, R240, R246): its writes take effect together, and the engine goes to its next bundle,
its next repetition, or the bundle after the repeated one. -/
def State.bundleEnd (s : State) (b e w : Nat) : State :=
  let s := s.commitX b e
  let s := s.onEng b e fun x =>
    let f := if movFlags w then x.shadow.flags else x.shadow.flags - bitsOf x.shadow.flags 3 1 * 8 + 8 * bit x.sat
    let r : AsRegs := { x.shadow with flags := f }
    let lc := x.regs.lc
    let cyc := x.cyc + (if x.taken then 4 else 2)
    let x := { x with regs := r, shadow := r, done := 0, sat := false, xw := none, waitFrom := none, cyc := cyc
                      xyLate := x.xyLate.filter fun l => decide (cyc ≤ l.at_), taken := false }
    let c := ctlOf w
    if x.st = .rep then
      if 1 < x.rep then { x with rep := x.rep - 1, repDone := x.repDone + 1 }
      else { x with rep := 0, repDone := x.repDone + 1, pc := x.pc + 1 }
    else if ctlOp c = 5 then
      let n := if bitAt c 11 then (if lc = 0 then 65536 else lc) else bitsOf c 0 11 + 1
      { x with st := .rep, rep := n, repDone := 0, pc := x.pc + 1 }
    else { x with st := .run, pc := if ctlOp c = 0 then x.pc + 1 else x.nxt }
  let x := s.eng b e
  if x.halted then s.engStop b e .halted
  else if x.st = .rep then
    if x.rep != 0 && slotsOf (s.bundle b e x.pc) = 0 then
      s.onEng b e fun x =>
        { x with cyc := x.cyc + 2 * x.rep, repDone := x.repDone + x.rep, rep := 0, pc := x.pc + 1 }
    else s
  else s.pcCheck b e

/-- A slot of the present bundle has been performed, with what it does to the registers; the last one ends the
bundle. -/
def State.slotDone (s : State) (b e w k : Nat) (f : AsRegs → AsRegs) : State :=
  let s := s.onEng b e fun x => { x with shadow := f x.shadow, done := setBit x.done k }
  if (s.eng b e).done = slotsOf w then s.bundleEnd b e w else s

/-- A control slot that only says where the engine goes (R227): `taken` costs a cycle. -/
def State.ctlGo (s : State) (b e w pc : Nat) (taken : Bool) : State :=
  (s.onEng b e fun x => { x with nxt := pc, taken := taken }).slotDone b e w 0 id

/-- An engine starts (R222, R243): registers cleared, call stack empty, PC 0. -/
def State.engBegin (s : State) (b e : Nat) : State :=
  s.onEng b e fun x =>
    { ({} : Engine) with st := .run, cyc := alignUp s.clk.time 2, answers := x.answers, ansCyc := x.ansCyc
                         ansCount := x.ansCount }

/-- The modes in which engines run (R243). -/
def Mode.engines : Mode → Bool
  | .armed | .run | .hold | .service => true
  | _ => false

/-- An engine starts if it may (R243, R245): `again` says whether a halted or faulted engine restarts too. -/
def State.engStart (s : State) (b e : Nat) (again : Bool) : State :=
  let x := s.eng b e
  if s.flag (R.ASSAY_CTL b e) Fd.ASSAY_CTL_EN && s.benchOn b && s.mode.engines && !x.runs && (x.st == .off || again) then
    s.engBegin b e
  else s

/-- A stop is requested of an engine that runs (R244). -/
def State.engAskStop (s : State) (b e : Nat) : State :=
  if (s.eng b e).runs then s.onEng b e fun x => { x with stopReq := true } else s

end Sys2Proof.Machine
end

