-- ==== Sys2Proof/Machine/DecOps.lean ====
section
/-!
DEFINITION. What lanes, the Foreman and the Crier ports share of the decision block (10): lookup tags (R262), the mirror
as readers see it (R267), channel latches (R256) and publications (R267, R269).
-/
namespace Sys2Proof.Machine

/-- A mirror bit as the lanes and Foremen of the device see it (R267): a write at tick t is visible from t + 2. -/
def State.gdsSeen (s : State) (i : Nat) : Bool :=
  let recent := (NMap.get (fun _ => []) s.dec.mirrorAt i).filter fun e => decide (s.clk.time < e.1 + 2)
  (recent.getLast?.map (·.2)).getD (s.gds i)

/-- A mirror bit as an OLT gather sees it (R263): a write at tick t is visible to a slot at t + 1. -/
def State.gdsGather (s : State) (i : Nat) : Bool :=
  let recent := (NMap.get (fun _ => []) s.dec.mirrorAt i).filter fun e => decide (s.clk.time ≤ e.1)
  (recent.getLast?.map (·.2)).getD (s.gds i)

/-- An OLT event latch as a gather at the present tick sees it: a change at the tick is not seen yet (R263). -/
def State.oltEvSeen (s : State) (k : Nat) : Bool :=
  let w := NMap.get (fun _ => (0, false)) s.dec.oltEvAt k
  if w.1 = s.clk.time + 1 then w.2 else NMap.get (fun _ => false) s.dec.oltEv k

/-- An OLT event latch is set, or the SHOT strobe clears it (R259). -/
def State.oltEvPut (s : State) (k : Nat) (v : Bool) : State :=
  { s with dec := { s.dec with
      oltEv := NMap.set (fun _ => false) s.dec.oltEv k v
      oltEvAt := NMap.set (fun _ => (0, false)) s.dec.oltEvAt k (s.clk.time + 1, s.oltEvSeen k) } }

/-- A tick is put before those of a history that goes back to the last tick every reader sees (R267). -/
def recentTicks (t : Nat) (xs : List Nat) : List Nat :=
  t :: (xs.filter fun p => decide (t < p + 2)) ++ (xs.filter fun p => decide (p + 2 ≤ t)).take 1

/-- The latest tick of a history whose write the Foremen see in a cycle that starts at `c` (R267). -/
def seenTick (c : Nat) (xs : List Nat) : Option Nat := xs.find? fun p => decide (p + 2 ≤ c)

/-- The tick of the last publication of a bit. -/
def State.lastPub (s : State) (i : Nat) : Option Nat := (NMap.get (fun _ => []) s.dec.pubs i).head?

/-- The latch of a Bench channel as seen by what acts at tick `t`: a word at `t` is not seen yet (R263, R280). -/
def State.latchSeen (s : State) (b c t : Nat) : Nat :=
  let w := NMap.get (fun _ => (0, 0)) s.dec.latchAt (32 * b + c)
  if w.1 = t + 1 then w.2 else NMap.get (fun _ => 0) s.dec.latch (32 * b + c)

/-- An armed tag of Bench `b` whose every named input is collected is ready (R262). -/
def State.tagCheck (s : State) (b t : Nat) : State :=
  let x := s.tag b t
  let need := s.fld (R.DEC_TAG_CH b t) Fd.DEC_TAG_CH_CHMASK
  let en := s.flag (R.DEC_TAG_CFG b t) Fd.DEC_TAG_CFG_TGDS_EN
  if x.st == .armed && (need != 0 || en) && need &&& x.chans == need && (x.gds || !en) then
    s.onTag b t fun x => { x with st := .ready, readyTick := s.clk.time }
  else s

/-- The channels of a Bench on which a word was placed in the present tick. -/
def State.wordsNow (s : State) (b : Nat) : Nat :=
  (List.range 32).foldl (fun m c =>
    if (NMap.get (fun _ => (0, 0)) s.dec.latchAt (32 * b + c)).1 = s.clk.time + 1 then m + 2 ^ c else m) 0

/-- TAG_ARM (R262): arming takes effect at the start of its tick. Inputs and action are cleared; a pending lookup whose
slot is at or after the tick is cancelled, which OLT_REARM reports (R278); the inputs of the tick itself are collected.
Arming twice in one tick is one arming (R265). -/
def State.armTag (s : State) (b t : Nat) : State :=
  let x := s.tag b t
  if (x.st == .armed || x.st == .ready) && x.armTick == s.clk.time then s
  else
    let slot := fun (a : OltAct) => a.bench == b && a.tag == t && a.due == s.clk.time + 2
    let s := if x.st == .ready || s.dec.acts.any slot then s.decFlag Fd.DEC_FLAGS_OLT_REARM else s
    let s : State := { s with dec := { s.dec with acts := s.dec.acts.filter fun a => !slot a } }
    let pub := s.lastPub (s.fld (R.DEC_TAG_CFG b t) Fd.DEC_TAG_CFG_TGDS)
    let now : Tag := { x with
      st := .armed, armTick := s.clk.time, act := 0, gds := pub == some s.clk.time
      chans := s.wordsNow b &&& s.fld (R.DEC_TAG_CH b t) Fd.DEC_TAG_CH_CHMASK }
    (s.onTag b t fun _ => now).tagCheck b t

/-- The tags of a Bench that a start strobe to a lane arms (R262). -/
def State.armByLane (s : State) (b l : Nat) : State :=
  foldAll (fun s t =>
    if s.flag (R.DEC_TAG_CFG b t) Fd.DEC_TAG_CFG_ALANE_EN && s.fld (R.DEC_TAG_CFG b t) Fd.DEC_TAG_CFG_ALANE == l then
      s.armTag b t
    else s) s (List.range 256)

/-- The armed tags of a Bench. -/
def State.armedTags (s : State) (b : Nat) : List Nat := pick 256 fun t => (s.tag b t).st == .armed

/-- A word for channel `c` reaches the tags of its Bench (R262). -/
def State.tagsChan (s : State) (b c : Nat) : State :=
  foldAll (fun s t =>
    if s.fbit (R.DEC_TAG_CH b t) Fd.DEC_TAG_CH_CHMASK c then
      (s.onTag b t fun x => { x with chans := setBit x.chans c }).tagCheck b t
    else s) s (s.armedTags b)

/-- A publication of bit `i` reaches the tags that wait for it (R262). -/
def State.tagsGds (s : State) (i : Nat) : State :=
  foldAll (fun s b => foldAll (fun s t =>
    if s.flag (R.DEC_TAG_CFG b t) Fd.DEC_TAG_CFG_TGDS_EN && s.fld (R.DEC_TAG_CFG b t) Fd.DEC_TAG_CFG_TGDS == i then
      (s.onTag b t fun x => { x with gds := true }).tagCheck b t
    else s) s (s.armedTags b)) s (List.range 8)

/-- A write into the mirror at the present tick (R267): readers of the device see it from t + 2. -/
def State.mirrorPut (s : State) (i : Nat) (v : Bool) : State :=
  let old := s.gds i
  let t := s.clk.time
  let recent := (t, old) :: ((NMap.get (fun _ => []) s.dec.mirrorAt i).filter fun e => decide (t < e.1 + 2))
  { s with dec := { s.dec with
      mirror := NMap.set (fun _ => false) s.dec.mirror i v
      mirrorAt := NMap.set (fun _ => []) s.dec.mirrorAt i recent
      mirrorSet := if old = v then s.dec.mirrorSet
        else NMap.upd (fun _ => []) s.dec.mirrorSet i (recentTicks t) } }

/-- A live source of committed branches changes (R168): COND 6 sees the mirror from two ticks after the write. -/
def State.gdsLate (s : State) (i : Nat) (v : Bool) : State :=
  foldAll (fun s b => foldAll (fun s l => s.lateJump b l 6 i (s.clk.time + 2) v) s (List.range 32)) s (List.range 8)

/-- The start tick after which a publication counts for a lane (R144 SRC 2): that of its present shot, or the one that a
start strobe on its way to a READY lane carries. -/
def Lane.shotStart (x : Lane) : Option Nat :=
  if x.st == .off then none
  else if x.st == .ready then (x.strobes.find? fun e => e.kind == .start).map (·.s)
  else some x.start

/-- A publication counts for the lanes of the device (R144 SRC 2): the first after the start of each lane's shot. -/
def State.lanesGds (s : State) (i : Nat) (v : Bool) : State :=
  foldAll (fun s b => foldAll (fun s l =>
    let x := s.lane b l
    let fresh := fun (t : Nat) => decide (t < s.clk.time) &&
      !(NMap.get (fun _ => none) x.gds i).any fun p => decide (t < p.1)
    if x.shotStart.any fresh then
      s.onLane b l fun x => { x with gds := NMap.set (fun _ => none) x.gds i (some (s.clk.time, bit v)) }
    else s) s (List.range 32)) s (List.range 8)

/-- The trigger of a Foreman's start condition (R304): every Foreman waiting for it takes E. -/
def State.startHit (s : State) (kind sel e : Nat) : State :=
  foldAll (fun s b =>
    let f := s.fm b
    if f.st == .start && f.startE == 0 && f.startKind == kind && (kind == 1 || f.startSel == sel) then
      s.onFm b fun f => { f with startE := e + 1 }
    else s) s (List.range 8)

/-- A publication reaches this device's mirror at the present tick (R267): the owner's own or a received update. It is
counted whether or not it changes the value. -/
def State.mirrorPublish (s : State) (i : Nat) (v : Bool) : State :=
  let was := s.gds i
  let s := s.mirrorPut i v
  let s : State := { s with dec := { s.dec with pubs := NMap.upd (fun _ => []) s.dec.pubs i (recentTicks s.clk.time) } }
  let s := ((s.lanesGds i v).tagsGds i).startHit 3 i s.clk.time
  if was = v then s else s.gdsLate i v

/-- The modes in which the Crier ports run (R277). -/
def Mode.criers : Mode → Bool
  | .trim | .armed | .run | .hold | .service => true
  | _ => false

/-- Port `p` is in use (CRIERp_CFG). -/
def State.portUsed (s : State) (p : Nat) : Bool := s.flag (R.DEC_CRIER_CFG p) Fd.DEC_CRIER_CFG_USED

/-- Set a flag of a port. -/
def State.portFlag (s : State) (p : Nat) (f : Bits) : State := s.raise (R.DEC_CRIER_STATUS p) f

/-- An update enters the transmit queue of port `p` (R274): own updates, 64 entries. -/
def State.queueOwn (s : State) (p : Nat) (u : Upd) : State :=
  if 64 ≤ (s.port p).own.length then s.portFlag p Fd.DEC_CRIER_STATUS_Q_DROP
  else s.onPort p fun x => { x with own := x.own ++ [u] }

/-- GDS_PUBLISH (R267, R269): source `kind` of Bench `b` publishes bit `i`. -/
def State.publish (s : State) (i : Nat) (v : Bool) (kind b : Nat) : State :=
  let r := R.DEC_GDSMAP i
  if s.flag r Fd.DEC_GDSMAP_USED && s.fld r Fd.DEC_GDSMAP_OWNER == s.host.devid &&
      s.fld r Fd.DEC_GDSMAP_KIND == kind && s.fld r Fd.DEC_GDSMAP_BENCH == b then
    let s := s.mirrorPublish i v
    foldAll (fun s p =>
      if s.portUsed p && (s.port p).running then s.queueOwn p { idx := i, val := v, at_ := s.clk.time } else s) s
      (List.range 14)
  else s.decFlag Fd.DEC_FLAGS_OWN_ERR

end Sys2Proof.Machine
end

