-- ==== Sys2Proof/Machine/Clock.lean ====
section
/-!
DEFINITION. The clocks (R7, R21, R22, R88, R109, R486): one physical tick, starts and stops of the core and converter
PLLs, and the fabric state that a start of the core clock sets (R381, R392).
-/
namespace Sys2Proof.Machine

/-- The number of values of TIME, a 64-bit counter, which wraps (R7, R332). -/
def timeMod : Nat := 2 ^ 64

/-- TIME counted on by `n` (R88, R332). -/
def timeAdd (t n : Nat) : Nat := (t + n) % timeMod

/-- The smallest multiple of 30 greater than a value (R109, R486). -/
def snap30 (t : Nat) : Nat := (t / 30 + 1) * 30 % timeMod

/-- The longest time from a start of the core PLL to the alignment of its dividers (R22). -/
def alignTicks : Nat := 120000

/-- One physical tick. REFCLK rises when `phRef` returns to 0 and is present; an AON cycle begins when `phAon` returns
to 0. TIME advances by 1 while the core clock runs aligned, else by 30 per REFCLK edge, else, with REFCLK lost, by 120
per AON cycle (R22, R109). A pending stop acts at the REFCLK edge (R22), a pending snap likewise (R486), and at the
latest 40 µs after its start the core PLL is aligned (R22). -/
def Clocks.tick (c : Clocks) : Clocks :=
  let ref := (c.phRef + 1) % 30
  let aon := (c.phAon + 1) % 120
  let edge := c.refclk && ref == 0
  let c1 := { c with now := c.now + 1, phRef := ref, phAon := aon }
  if edge && c.snapPend then
    let run := !c.stopPend
    { c1 with
      time := snap30 c.time, snapPend := false, aligned := false, stopPend := false
      core := c.core && run, conv := c.conv && run, alignBy := c.now + alignTicks }
  else if c.core && c.aligned then
    if edge && c.stopPend then
      { c1 with time := timeAdd c.time 1, core := false, conv := false, aligned := false, stopPend := false }
    else
      { c1 with
        time := timeAdd c.time 1
        aonSince := if c.refclk then c.aonSince else c.aonSince + (if aon = 0 then 1 else 0) }
  else if c.refclk then
    if ref = 0 then
      { c1 with
        time := timeAdd c.time 30
        aligned := c.core && c.alignBy != 0 && decide (c.alignBy ≤ c.now + 1) }
    else c1
  else if aon = 0 then { c1 with time := timeAdd c.time 120, aonSince := c.aonSince + 1 }
  else c1

/-- The core PLL starts, and the converter PLL with it where the mode asks for it; alignment follows (R21, R22). Clocks
that run already go on; a stop that waited is not made, but the converter PLL runs on only if it is asked for. -/
def Clocks.start (c : Clocks) (conv : Bool) : Clocks :=
  if c.core then { c with conv := conv || (c.conv && !c.stopPend), stopPend := false }
  else { c with core := true, conv := conv, aligned := false, stopPend := false, alignBy := c.now + alignTicks }

/-- The fast clocks stop: at the next REFCLK edge while TIME counts ticks of an aligned core clock (R22); at once, with
TIME at the AON count but never below its value (R88), while REFCLK is absent (R109); at once otherwise, TIME counting
REFCLK edges either way. -/
def Clocks.stop (c : Clocks) : Clocks :=
  if c.core && c.aligned then
    if c.refclk then { c with stopPend := true }
    else
      { c with
        core := false, conv := false, aligned := false, stopPend := false
        time := max c.time (timeAdd c.edgeTime (120 * c.aonSince)) }
  else { c with core := false, conv := false, aligned := false, stopPend := false }

/-- TIME at the last REFCLK rising edge: with an aligned core clock, the ticks since it taken off. -/
def Clocks.atEdge (c : Clocks) : Nat := if c.core && c.aligned then c.time - c.phRef else c.time

/-- The converter PLL alone stops (R21). -/
def Clocks.stopConv (c : Clocks) : Clocks := { c with conv := false }

/-- Start the fast clocks. -/
def State.startClocks (s : State) (conv : Bool) : State := { s with clk := s.clk.start conv }

/-- Stop the fast clocks. -/
def State.stopClocks (s : State) : State := { s with clk := s.clk.stop }

/-- The INIT output of Joiner cell `j` (R392). -/
def State.cellInit (s : State) (j : Nat) : Bool := s.flag (R.EVT_CELL_CFG j) Fd.EVT_CELL_CFG_INIT

/-- A start of the core clock: every cell takes output INIT and restarts its count, held rises are gone, and the next
fabric cycle gives each line its first level (R381, R392). -/
def State.fabricStart (s : State) : State :=
  { s with fabric := { s.fabric with
      lines := []
      cells := foldAll (fun m j => NMap.set (fun _ => {}) m j { out := s.cellInit j })
        [] (List.range 64)
      demand := [], started := false } }

/-- The dividers are aligned from now on (R22). -/
def State.align (s : State) : State := { s with clk := { s.clk with aligned := true } }.fabricStart

end Sys2Proof.Machine
end

