-- ==== Sys2Proof/Machine/Timebase.lean ====
section
/-!
DEFINITION. The timebase (04): Epochs, echo measurements, trims and fine delays, the trigger bus, and the return of
REFCLK and of divider alignment.
-/
namespace Sys2Proof.Machine

/-- A count or average that the specification does not say how to round: the exact quotient where it is whole, else the
one below or the one above it, which is left free. -/
def State.quotFree (s : State) (a : Int) (n : Nat) : Int × State :=
  if n = 0 || a % Int.ofNat n = 0 then (a / Int.ofNat n, s)
  else
    let (w, s) := s.free
    (a / Int.ofNat n + (if w.toNat % 2 = 0 then 0 else 1), s)

/-- The signed value of a field. -/
def State.sfld (s : State) (off : Nat) (f : Bits) : Int := sext f.w (s.fld off f)

/-! ### The Epoch -/

/-- EPOCH_CAPTURE (R90): EPOCH_P/N is sampled high after low at a REFCLK edge; `arrival` is what the TDC measures. -/
def epochCapture (arrival : Nat) (s : State) : State :=
  if s.clk.refclk && s.clk.phRef == 0 then
    { s with time := { s.time with
      epoch := s.time.epoch ++ [{ loadAt := s.clk.now + 60, arrival := arrival, armed := s.mode == .armed }] } }
  else s

/-- The TDC result of an Epoch is latched 30 ticks after its capture edge, with MARGINAL (R90, R93). -/
def State.tdcLatch (s : State) : State :=
  match s.time.epoch.find? fun c => c.loadAt == s.clk.now + 30 with
  | none => s
  | some c =>
    (s.setFld R.TIME_EPOCH_TDC Fd.TIME_EPOCH_TDC_ARRIVAL c.arrival).setFld R.TIME_STATUS Fd.TIME_STATUS_MARGINAL
      (bit (decide (c.arrival ≤ 500) || decide (9500 ≤ c.arrival)))

/-- EPOCH_CAPTURE (R90). -/
def execEpochCapture (arrival : Fin 10000) (s : State) : Host.Outcome State Fault Refusal :=
  whenPowered s (epochCapture arrival)

/-- The EPOCH mark (R369). -/
def State.epochMark (s : State) (before after kind : Nat) (slip : Int) (arrival : Nat) : State :=
  s.offer 24 srcDev 0x24 2 s.clk.time
    [(0, 8, before), (8, 8, after), (16, 1, kind), (20, 4, lowBits 32 slip), (24, 4, arrival)]

/-- The period P of R92 in ticks. -/
def State.epochPeriod (s : State) : Nat := 3000 * max 1 (s.fld R.TIME_EPOCH_PERIOD Fd.TIME_EPOCH_PERIOD_N)

/-- TIME minus the nearest expected load edge (R92); the earlier edge where two are equally near. -/
def State.epochOff (s : State) (t : Nat) : Int :=
  let p := s.epochPeriod
  let d := ((Int.ofNat t - Int.ofNat (s.reg64 R.TIME_EPOCH_LOAD_LO)) % Int.ofNat p).toNat
  if 2 * d ≤ p then Int.ofNat d else Int.ofNat d - Int.ofNat p

/-- The slip of a load edge (R92). Midway between two expected edges the manual does not say which is the nearest: the
sign is then free. -/
def State.epochSlip (s : State) : Int × State :=
  let off := s.epochOff s.clk.time
  if 2 * off = Int.ofNat s.epochPeriod then
    let (w, s) := s.free
    (if w.toNat % 2 = 0 then off else -off, s)
  else (off, s)

/-- Periodic checking is in force (R92). -/
def State.epochChecks (s : State) : Bool := s.flag R.TIME_EPOCH_CTL Fd.TIME_EPOCH_CTL_PERIODIC && s.coherent

/-- What every load edge does after TIME has been loaded or checked (R90, R304, R384). -/
def State.epochSeen (s : State) (armed : Bool) : State :=
  let s := (s.setReg64 R.TIME_EPOCH_LAST_LO s.clk.time).raise R.TIME_STATUS Fd.TIME_STATUS_EPOCH_SEEN
  let s : State := { s with time := { s.time with lastEdge := some s.clk.time } }
  (if armed then s.startHit 1 0 s.clk.time else s).pulse 344

/-- EPOCH_LOAD (R91, R92): at the load edge TIME is loaded if ARM is set; otherwise the Epoch is recorded and, where
periodic checking is in force, checked for a slip. -/
def epochLoad (s : State) : State :=
  match s.time.epoch with
  | [] => s
  | c :: rest =>
    if decide (s.clk.now < c.loadAt) || !s.clk.refclk || s.clk.phRef != 0 then s
    else
      let s : State := { s with time := { s.time with epoch := rest } }
      let arrival := s.fld R.TIME_EPOCH_TDC Fd.TIME_EPOCH_TDC_ARRIVAL
      let before := s.clk.time
      if s.flag R.TIME_EPOCH_CTL Fd.TIME_EPOCH_CTL_ARM then
        let s : State := { s with clk := { s.clk with time := s.reg64 R.TIME_EPOCH_LOAD_LO } }
        let s := (s.clear R.TIME_EPOCH_CTL Fd.TIME_EPOCH_CTL_ARM).clear R.TIME_STATUS Fd.TIME_STATUS_MISS_COUNT
        let s := if s.clk.refclk then s.raise R.TOP_MODE Fd.TOP_MODE_COHERENT else s
        let s : State := { s with time := { s.time with missed := 0 } }
        (s.epochSeen c.armed).epochMark before s.clk.time 0 0 arrival
      else
        if s.epochChecks && s.epochOff s.clk.time != 0 then
          let (off, s) := s.epochSlip
          let s := (s.flagIrq R.TIME_STATUS Fd.TIME_STATUS_EPOCH_SLIP 1).setReg R.TIME_EPOCH_SLIP_AMT
            (BitVec.ofInt 32 off)
          (s.epochSeen c.armed).epochMark before before 2 off arrival
        else (s.epochSeen c.armed).epochMark before before 1 0 arrival

/-- EPOCH_LOAD (R91). -/
def execEpochLoad (s : State) : Host.Outcome State Fault Refusal := whenPowered s epochLoad

/-- EPOCH_MISS (R92): TIME is 30 ticks past an expected load edge E, and no load edge fell from E − 30 to E + 30. -/
def epochMiss (s : State) : State :=
  let e := s.clk.time - 30
  let hit := match s.time.lastEdge with
    | some t => decide (e ≤ t + 30) && decide (t ≤ e + 30)
    | none => false
  if s.epochChecks && decide (30 ≤ s.clk.time) && s.epochOff e == 0 && !hit && s.time.missed != e + 1 then
    let s := (s.flagIrq R.TIME_STATUS Fd.TIME_STATUS_EPOCH_MISS 1).satAdd R.TIME_STATUS Fd.TIME_STATUS_MISS_COUNT 1
    let s : State := { s with time := { s.time with missed := e + 1 } }
    let (w, s) := s.free
    s.epochMark s.clk.time s.clk.time 3 0 (w.toNat % 10000)
  else s

/-- EPOCH_MISS (R92). -/
def execEpochMiss (s : State) : Host.Outcome State Fault Refusal := whenPowered s epochMiss

/-- The modes in which ARM can be set (R91). -/
def Mode.epochArms : Mode → Bool
  | .dormant | .boot | .sanitise | .pattern | .idle | .keep => true
  | _ => false

/-- EPOCH_ARM (R90, R91): a write of TIME.EPOCH_CTL. PERIODIC is written; ARM is set only in the permitted modes and
with an EPOCH_LOAD that is a multiple of 30. -/
def epochArm (who : Who) (v : Word) (s : State) : State :=
  let s := s.setFld R.TIME_EPOCH_CTL Fd.TIME_EPOCH_CTL_PERIODIC (bitsOf v.toNat 1 1)
  if !bitAt v.toNat 0 then s.clear R.TIME_EPOCH_CTL Fd.TIME_EPOCH_CTL_ARM
  else
    let bad := s.reg64 R.TIME_EPOCH_LOAD_LO % 30 != 0
    let s := if bad then s.raise R.TIME_STATUS Fd.TIME_STATUS_LOAD_BAD else s
    if !s.mode.epochArms then s.denied who R.TIME_EPOCH_CTL true
    else if bad then s
    else s.raise R.TIME_EPOCH_CTL Fd.TIME_EPOCH_CTL_ARM

/-- EPOCH_ARM (R91). -/
def execEpochArm (who : Who) (v : Word) (s : State) : Host.Outcome State Fault Refusal := whenReached who s (epochArm who v)

/-! ### Echo measurements -/

/-- A measurement ends (R98, R99): RESULT, and DONE with interrupt source 1. -/
def State.echoEnd (s : State) (result : Nat) : State :=
  (({ s with time := { s.time with echo := none } } : State).setFld R.TIME_ECHO_CTL Fd.TIME_ECHO_CTL_RESULT
    result).flagIrq R.TIME_ECHO_CTL Fd.TIME_ECHO_CTL_DONE 1

/-- A measurement on a port begins with its first request (R98), or ends at once: a port that does not exist, or whose
link is down (ECHO_CTL.RESULT). -/
def State.echoBegin (s : State) (port count : Nat) : State :=
  if 14 ≤ port then s.echoEnd 3
  else if !(s.port port).up then s.echoEnd 2
  else
    (({ s with time := { s.time with echo := some { port := port, count := count, due := s.clk.now + 30000 } } } :
      State)).emit (.echo port 0 0 0)

/-- The next echo of a SKEW selection of TRIM (R99): COUNT = 10 on each port whose link is up, in port order. -/
def State.echoNext (s : State) : State :=
  match (List.range 14).find? fun p => bitAt s.trim.ports p with
  | none => s
  | some p =>
    (({ s with trim := { s.trim with ports := clrBit s.trim.ports p } } : State)).echoBegin p 10

/-- ECHO_START (R99): a write of TIME.ECHO_CTL. DONE is cleared by a 1; START counts only in TRIM and SERVICE, and
while no measurement runs. -/
def echoStart (who : Who) (v : Word) (s : State) : State :=
  let s := (s.setFld R.TIME_ECHO_CTL Fd.TIME_ECHO_CTL_PORT (bitsOf v.toNat 0 4)).setFld R.TIME_ECHO_CTL
    Fd.TIME_ECHO_CTL_COUNT (bitsOf v.toNat 4 4)
  let s := if bitAt v.toNat 12 then s.clear R.TIME_ECHO_CTL Fd.TIME_ECHO_CTL_DONE else s
  if !bitAt v.toNat 8 then s
  else if s.mode != .trim && s.mode != .service then s.denied who R.TIME_ECHO_CTL true
  else if s.time.echo.isSome then s
  else s.echoBegin (bitsOf v.toNat 0 4) (min 10 (bitsOf v.toNat 4 4))

/-- ECHO_START (R99). -/
def execEchoStart (who : Who) (v : Word) (s : State) : Host.Outcome State Fault Refusal :=
  whenReached who s (echoStart who v)

/-- ECHO_REQ (R98, R99): answered in TRIM and SERVICE only, with t2 and t3. -/
def echoReq (port t2 t3 : Nat) (s : State) : State :=
  if s.mode == .trim || s.mode == .service then s.emit (.echo port 1 t2 t3) else s

/-- ECHO_REQ (R98). -/
def execEchoReq (port : Fin 14) (t2 t3 : Nat) (s : State) : Host.Outcome State Fault Refusal :=
  whenPowered s (echoReq port t2 t3)

/-- ECHO_ANS (R98): the exchange is recorded; after 2^COUNT of them RTT and OFS are reported, else the next request
goes out. -/
def echoAns (port : Nat) (t1 t2 t3 t4 : Int) (s : State) : State :=
  match s.time.echo with
  | none => s
  | some e =>
    if e.port != port then s
    else
      let e := { e with
        got := e.got + 1
        sumRtt := e.sumRtt + ((t4 - t1) - (t3 - t2))
        sumOfs := e.sumOfs + ((t2 - t1) - (t4 - t3)) }
      if e.got < 2 ^ e.count then
        (({ s with time := { s.time with echo := some { e with due := s.clk.now + 30000 } } } : State)).emit
          (.echo port 0 0 0)
      else
        let (rtt, s) := s.quotFree e.sumRtt (2 ^ e.count)
        let (ofs, s) := s.quotFree e.sumOfs (2 * 2 ^ e.count)
        let s := (s.setReg (R.TIME_ECHO_RTT port) (BitVec.ofInt 32 rtt)).setReg (R.TIME_ECHO_OFS port)
          (BitVec.ofInt 32 ofs)
        (s.echoEnd 0).echoNext

/-- ECHO_ANS (R98). -/
def execEchoAns (port : Fin 14) (t1 t2 t3 t4 : Int) (s : State) : Host.Outcome State Fault Refusal :=
  whenPowered s (echoAns port t1 t2 t3 t4)

/-- ECHO_TIMEOUT (R99): 10 µs without an answer. -/
def echoTimeout (s : State) : State :=
  match s.time.echo with
  | none => s
  | some e => if s.clk.now < e.due then s else (s.echoEnd 1).echoNext

/-- ECHO_TIMEOUT (R99). -/
def execEchoTimeout (s : State) : Host.Outcome State Fault Refusal := whenPowered s echoTimeout

/-! ### Trims and fine delays -/

/-- EPOCH_TRIM_WRITE (R100): TRIM is pending until the next entry to ARMED. -/
def epochTrimWrite (v : Word) (s : State) : State :=
  (s.setFld R.TIME_EPOCH_TRIM Fd.TIME_EPOCH_TRIM_TRIM (bitsOf v.toNat 0 10)).raise R.TIME_EPOCH_TRIM
    Fd.TIME_EPOCH_TRIM_TRIM_PEND

/-- EPOCH_TRIM_WRITE (R100). -/
def execEpochTrimWrite (v : Word) (s : State) : Host.Outcome State Fault Refusal := whenPowered s (epochTrimWrite v)

/-- FDLY_WRITE (R101): DLY is pending until it can be applied. -/
def fdlyWrite (i : Nat) (v : Word) (s : State) : State :=
  (s.setFld (R.TIME_FDLY i) Fd.TIME_FDLY_DLY (bitsOf v.toNat 0 14)).raise (R.TIME_FDLY i) Fd.TIME_FDLY_DLY_PEND

/-- FDLY_WRITE (R101). -/
def execFdlyWrite (i : Fin 176) (v : Word) (s : State) : Host.Outcome State Fault Refusal := whenPowered s (fdlyWrite i v)

/-- The DLY of output `i` comes into force. -/
def State.fdlyTake (s : State) (i : Nat) : State :=
  if s.flag (R.TIME_FDLY i) Fd.TIME_FDLY_DLY_PEND then
    let s : State := { s with time := { s.time with
      fdlyNow := NMap.set (fun _ => 0) s.time.fdlyNow i (s.sfld (R.TIME_FDLY i) Fd.TIME_FDLY_DLY) } }
    s.clear (R.TIME_FDLY i) Fd.TIME_FDLY_DLY_PEND
  else s

/-- An entry to ARMED takes EPOCH_TRIM and every fine delay into force (R100, R101). -/
def State.takeTrims (s : State) : State :=
  let s := if s.flag R.TIME_EPOCH_TRIM Fd.TIME_EPOCH_TRIM_TRIM_PEND then
      ({ s with time := { s.time with trimNow := s.sfld R.TIME_EPOCH_TRIM Fd.TIME_EPOCH_TRIM_TRIM } } : State).clear
        R.TIME_EPOCH_TRIM Fd.TIME_EPOCH_TRIM_TRIM_PEND
    else s
  foldAll State.fdlyTake s (List.range 176)

/-- The total delay of converter output `i` in 1/256 tick before the limits of R101. -/
def State.delaySum (s : State) (i : Nat) : Int :=
  16 * s.time.trimNow + s.sfld (R.TIME_FDLY i) Fd.TIME_FDLY_CAL + NMap.get (fun _ => 0) s.time.fdlyNow i

/-- The total delay of converter output `i` (R101). -/
def State.delay (s : State) (i : Nat) : Int := max (-8192) (min 8191 (s.delaySum i))

/-- The increase of every commit lead on output `i` (R102): ⌈|d| / 256⌉ ticks for a negative delay. -/
def State.leadExtra (s : State) (i : Nat) : Nat :=
  if s.delay i < 0 then ((-(s.delay i)).toNat + 255) / 256 else 0

/-! ### The trigger bus -/

/-- EDGE of a trigger line selects this edge (TRIGk_CTL). -/
def State.trigSelects (s : State) (k : Nat) (falling : Bool) : Bool :=
  let e := s.fld (R.TIME_TRIG_CTL k) Fd.TIME_TRIG_CTL_EDGE
  e == 2 || (e == 0 && !falling) || (e == 1 && falling)

/-- TIME at the next REFCLK rising edge, while it counts those edges (R105): an Epoch that loads there is counted in. -/
def State.timeNextEdge (s : State) : Nat :=
  match s.time.epoch with
  | c :: _ =>
    if c.loadAt == s.clk.now + (30 - s.clk.phRef) && s.flag R.TIME_EPOCH_CTL Fd.TIME_EPOCH_CTL_ARM then
      s.reg64 R.TIME_EPOCH_LOAD_LO
    else if s.clk.snapPend then snap30 s.clk.time else timeAdd s.clk.time 30
  | [] => if s.clk.snapPend then snap30 s.clk.time else timeAdd s.clk.time 30

/-- TRIG_EDGE (R104, R105): a selected edge at an input line is timestamped, `frac` sixteenths into the tick. -/
def trigEdge (k : Nat) (falling : Bool) (frac : Nat) (s : State) : State :=
  if s.flag (R.TIME_TRIG_CTL k) Fd.TIME_TRIG_CTL_OUT || !s.trigSelects k falling then s
  else
    let phys := 16 * s.clk.now + frac
    let last := NMap.get (fun _ => 0) s.time.trigLast k
    if last != 0 && decide (phys < last - 1 + 64) then s.raise (R.TIME_TRIG_STAT k) Fd.TIME_TRIG_STAT_OVER
    else
      let coarse := !(s.clk.core && s.clk.aligned)
      let arrival := if coarse then
          16 * (if s.clk.phRef = 0 && frac = 0 then s.clk.time else s.timeNextEdge)
        else 16 * s.clk.time + frac
      let ts := Int.ofNat arrival - s.time.trimNow - Int.ofNat (s.fld (R.TIME_TRIG_CTL k) Fd.TIME_TRIG_CTL_DLY)
      let f := lowBits 4 ts
      let t := lowBits 64 (ts / 16)
      let up := lowBits 64 ((ts + 15) / 16)
      let s : State := { s with time := { s.time with trigLast := NMap.set (fun _ => 0) s.time.trigLast k (phys + 1) } }
      let s := s.setReg64 (R.TIME_TRIG_TS_LO k) t
      let s := ((s.setFld (R.TIME_TRIG_STAT k) Fd.TIME_TRIG_STAT_FRAC f).raise (R.TIME_TRIG_STAT k)
        Fd.TIME_TRIG_STAT_NEW).setFld (R.TIME_TRIG_STAT k) Fd.TIME_TRIG_STAT_COARSE (bit coarse)
      let s := s.offer 24 srcDev 0x20 1 t [(0, 1, k), (1, 1, f), (2, 1, bit falling + 2 * bit coarse)]
      (s.startHit 2 k up).pulse (336 + k)

/-- TRIG_EDGE (R104). -/
def execTrigEdge (k : Fin 8) (falling : Bool) (frac : Fin 16) (s : State) : Host.Outcome State Fault Refusal :=
  whenPowered s (trigEdge k falling frac)

/-- TRIG_OUT_EDGE (R106): the next edge of an output line whose time has come is driven. -/
def trigOutEdge (k : Nat) (s : State) : State :=
  match s.time.trigQ.find? fun e => e.line == k && decide (e.at16 < Int.ofNat (16 * (s.clk.time + 1))) with
  | none => s
  | some e =>
    let s : State := { s with time := { s.time with trigQ := s.time.trigQ.erase e } }
    if s.flag (R.TIME_TRIG_CTL k) Fd.TIME_TRIG_CTL_OUT then
      ({ s with time := { s.time with
        trigLevel := if e.level then setBit s.time.trigLevel k else clrBit s.time.trigLevel k } } : State).emit
          (.trig k e.at16 e.level)
    else s

/-- TRIG_OUT_EDGE (R106). -/
def execTrigOutEdge (k : Fin 8) (s : State) : Host.Outcome State Fault Refusal := whenPowered s (trigOutEdge k)

/-- TRIG_CONTEND (R106): the ball of an output line differs from the level driven. -/
def trigContend (k : Nat) (s : State) : State :=
  if s.flag (R.TIME_TRIG_CTL k) Fd.TIME_TRIG_CTL_OUT then s.raise (R.TIME_TRIG_STAT k) Fd.TIME_TRIG_STAT_CONTEND else s

/-- TRIG_CONTEND (R106). -/
def execTrigContend (k : Fin 8) (s : State) : Host.Outcome State Fault Refusal := whenPowered s (trigContend k)

/-! ### The reference -/

/-- A count of REFCLK edges in 1,024 AON cycles that R107 accepts. -/
def goodCount (n : Nat) : Bool := decide (4076 ≤ n) && decide (n ≤ 4116)

/-- REFCLK_RETURN (R109): the first REFCLK edge after a window that passed, whose 1,024 AON cycles fit between the loss and
it. TIME takes the next multiple of 30 and counts edges again, the edge giving the new phase of REFCLK; clocks in holdover relock and align. -/
def refclkReturn (s : State) : State :=
  if s.clk.refclk || decide (s.clk.now < s.clk.lostAt + 1024 * 120) then s
  else
    { s with clk := { s.clk with
      time := snap30 s.clk.time, phRef := 0, refclk := true, aligned := false, aonSince := 0, stopPend := false
      snapPend := false, alignBy := s.clk.now + alignTicks } }

/-- REFCLK_RETURN (R109). -/
def execRefclkReturn (s : State) : Host.Outcome State Fault Refusal := whenPowered s refclkReturn

/-- DIVIDER_ALIGNED (R22): at a REFCLK edge the dividers of a running core PLL are aligned. In an entry to ARMED the
alignment is the last step of R50 and ARMED_ENTRY_DONE makes it. -/
def dividerAligned (s : State) : State :=
  let entry := match s.transit with
    | some t => t.kind == .armedEntry && t.src != .hold
    | none => false
  if s.clk.core && !s.clk.aligned && s.clk.refclk && !s.clk.snapPend && s.clk.phRef == 0 && !entry then s.align else s

/-- DIVIDER_ALIGNED (R22). -/
def execDividerAligned (s : State) : Host.Outcome State Fault Refusal := whenPowered s dividerAligned

end Sys2Proof.Machine
end

