-- ==== Sys2Proof/Machine/Segments.lean ====
section
/-!
DEFINITION. Segments (05): where a play's samples come from, the directory and its caches, aliases, retirement, writes
to waveform memory, and streaming.
-/
namespace Sys2Proof.Machine

/-- Output samples per tick: 4 on a D or P voice, 1 on an F voice (R116). -/
def spt (voice : Nat) : Nat := if voice = 2 then 1 else 4

/-- The divisor q of R116. -/
def delayQ (voice : Nat) : Nat := if voice = 2 then 256 else 64

/-- The delay of a voice as the resampler applies it (R116, R117): on flux outputs rounded to a multiple of 4, ties to
even. -/
def State.voiceDelay (s : State) (b l voice : Nat) : Int :=
  let d := s.delay (s.voiceOut b l voice)
  if voice = 2 then
    let k := d / 4
    let r := d - 4 * k
    4 * (if r = 3 || (r = 2 && k % 2 = 1) then k + 1 else k)
  else d

/-- ⌊x(n)⌋ of R116: the stored-sample position of output sample `n`. -/
def position (step voice : Nat) (d : Int) (n : Nat) : Int :=
  ((Int.ofNat (n * delayQ voice) - d) * Int.ofNat step) / Int.ofNat (delayQ voice * 2 ^ 24)

/-- The stored-sample position of a play at a tick. -/
def Play.posAt (p : Play) (ws : List Nat) (voice : Nat) (d : Int) (time : Nat) : Int :=
  position (dStep ws) voice d ((time - p.start) * spt voice)

/-- The first output sample of a play whose interpolator taps ⌊x⌋ − 7 to ⌊x⌋ + 8 reach stored sample `k` (R117). -/
def firstTap (step voice : Nat) (d k : Int) : Nat :=
  let num := (k - 8) * Int.ofNat (delayQ voice * 2 ^ 24)
  ((-((-num) / Int.ofNat step) + d + Int.ofNat (delayQ voice) - 1) / Int.ofNat (delayQ voice)).toNat

/-- The first stored sample that the taps of a play's first output sample take, minus 15: a granule that begins below it
lies before them. -/
def tapsFrom (step voice : Nat) (d : Int) : Int := position step voice d 0 - 22

/-- The stored position, counted on through the repeats of a LOOPABLE segment (R118), at which granule `g` first meets
the taps; none where it lies before them. -/
def granuleFirst (ws : List Nat) (voice : Nat) (d : Int) (g : Nat) : Option Int :=
  let from_ := tapsFrom (dStep ws) voice d
  let k := 16 * Int.ofNat g
  if dLoopable ws then
    let n := 16 * Int.ofNat (dLen ws)
    some (k - (k - from_) / n * n)
  else if from_ ≤ k then some k
  else none

/-- The need tick of granule `g` (R133): the tick at which its first stored sample first enters the interpolator's taps;
none where the play ends before it. -/
def Play.needTick (p : Play) (ws : List Nat) (voice : Nat) (d : Int) (g : Nat) : Option Nat :=
  match granuleFirst ws voice d g with
  | none => none
  | some k =>
    let t := p.start + firstTap (dStep ws) voice d k / spt voice
    if t < p.ends && g < dLen ws then some t else none

/-- The granules of a play that lie wholly behind the interpolator at a tick. -/
def Play.consumed (p : Play) (ws : List Nat) (voice : Nat) (d : Int) (time : Nat) : Nat :=
  if p.started then min (dLen ws) ((p.posAt ws voice d time - 7) / 16).toNat else 0

/-- One past the last granule of a play that its taps reach before its end. -/
def Play.reached (p : Play) (ws : List Nat) (voice : Nat) (d : Int) : Nat :=
  min (dLen ws) ((position (dStep ws) voice d ((p.ends - p.start) * spt voice - 1) + 8) / 16 + 1).toNat

/-- The descriptor words of a play whose descriptor is good. -/
def Play.words (p : Play) : List Nat :=
  match p.desc with
  | .good ws => ws
  | _ => []

/-- The stored granule in progress is a play's last (R171, R195, R196): the output samples past it are zero, with a
linear ramp to zero from now on where asked; `stop` says whether the play ends there. A play that awaits its descriptor is
cut now. -/
def Play.finish (p : Play) (voice : Nat) (d : Int) (time : Nat) (stop ramp : Bool) : Play :=
  if !p.active time then p
  else
    match p.desc with
    | .awaited => if stop then { p with cut := some ((p.cut.map (min time)).getD time) } else { p with last := some 0 }
    | .good ws =>
      let now := (time - p.start) * spt voice
      let g := p.posAt ws voice d time / 16 + 1
      let num := 16 * g * Int.ofNat (delayQ voice * 2 ^ 24)
      let n := max now ((-((-num) / Int.ofNat (dStep ws)) + d + Int.ofNat (delayQ voice) - 1) /
        Int.ofNat (delayQ voice)).toNat
      let n := (p.last.map (min n)).getD n
      { p with
        last := some n, ramp := if ramp then some now else p.ramp
        ends := if stop then min p.ends (p.start + (n + spt voice - 1) / spt voice) else p.ends }
    | _ => if stop then { p with ends := min p.ends time } else p

/-! ### Descriptors and where samples are held -/

/-- FMT suits the voice (R111). -/
def fmtSuits (fmt voice : Nat) : Bool := if voice = 2 then fmt == 2 else fmt == 0 || fmt == 1

/-- The segment is resident in the Bench (R124). -/
def State.residentIn (s : State) (b id : Nat) (ws : List Nat) : Bool := dResident ws && bitAt (s.resMask id) b

/-- The segment is streamed in the Bench (R124). -/
def State.streamedIn (s : State) (b id : Nat) (ws : List Nat) : Bool :=
  !s.residentIn b id ws && (dStream ws || decide (s.threshold < dBytes ws))

/-- The check of R115 of a descriptor that has reached a play; `aliasOk` is false for an alias without VALID. -/
def State.descOk (s : State) (b voice id : Nat) (ws : List Nat) (aliasOk : Bool) : Bool :=
  aliasOk && dValid ws && !s.segs.retiring.contains id &&
    !(decide (1 ≤ dLenRaw ws) && decide (dLenRaw ws ≤ 7)) &&
    !(decide (1 ≤ dStepRaw ws) && decide (dStepRaw ws ≤ 0xFFFF)) && fmtSuits (dFmt ws) voice && dPlay ws != 0 &&
    decide (dAddr ws + dBytes ws ≤ s.dirBase) &&
    !(dLoopable ws && (dStream ws || (decide (s.threshold < dBytes ws) && !s.residentIn b id ws)))

/-- The transient region of a Bench in 4 KiB units (R123). -/
def State.transientCap (s : State) (b : Nat) : Nat :=
  1024 - s.fld (R.LOOM_CACHE_MAP b) Fd.LOOM_CACHE_MAP_RES - s.fld (R.LOOM_CACHE_MAP b) Fd.LOOM_CACHE_MAP_WIN

/-- 4 KiB units held by transient copies. -/
def unitsHeld (ts : List Transient) : Nat := ts.foldl (fun n t => n + t.units) 0

/-- Drop inactive copies, least recently used first, until `need` units are free; `refs` are the referenced IDs. -/
def evict (cap need : Nat) (refs : List Nat) : Nat → List Transient → List Transient
  | 0, ts => ts
  | n + 1, ts =>
    if unitsHeld ts + need ≤ cap then ts
    else
      let idle := ts.filter fun t => !refs.contains t.seg
      match idle with
      | [] => ts
      | t :: rest =>
        let v := rest.foldl (fun a t => if t.used < a.used then t else a) t
        evict cap need refs n (ts.erase v)

/-- The granule is present. -/
def Fetch.has (f : Fetch) (i : Nat) : Bool := NMap.get (fun _ => 0) f.got i != 0

/-- The first granule from `i` on that is neither present nor requested. -/
def Fetch.gapFrom (f : Fetch) : Nat → Nat → Nat
  | 0, i => i
  | n + 1, i => if f.has i || f.out.any (·.gran == i) then f.gapFrom n (i + 1) else i

/-- The next granule to request. -/
def Fetch.nextAsk (f : Fetch) : Nat := f.gapFrom (f.out.length + f.got.length) f.asked

/-- A granule is still to be requested. -/
def Fetch.wants (f : Fetch) : Bool := decide (f.nextAsk < f.total)

/-- The unit that holds a granule of a fetch (R335). -/
def Fetch.unit (f : Fetch) (i : Nat) : Nat := (f.addr + i * f.gran) / 64

/-- The hint of a granule's request (R337): OPEN where its successor lies in the same row. -/
def Fetch.hint (f : Fetch) (i : Nat) : PageHint :=
  let (u, v) := (f.unit i, f.unit (i + 1))
  if decide (i + 1 < f.total) && unitRow u == unitRow v && unitBank u == unitBank v then .open_ else .close

/-- The next granule is requested at a physical tick. -/
def Fetch.ask (f : Fetch) (now : Nat) : Fetch :=
  { f with asked := f.nextAsk + 1, out := f.out ++ [{ gran := f.nextAsk, at_ := now, hint := f.hint f.nextAsk }] }

/-- The granule that arrives next: the oldest one asked for. -/
def Fetch.head (f : Fetch) : Nat := (f.out.head?.map (·.gran)).getD 0

/-- The fetch of a segment's granules from waveform memory. -/
def fetchOf (id ser : Nat) (ws : List Nat) : Fetch :=
  { seg := id, ser := ser, addr := dAddr ws, gran := dGran ws, total := dLen ws }

/-- A copy holds the stored samples that a descriptor names. -/
def Fetch.fits (f : Fetch) (id : Nat) (ws : List Nat) : Bool :=
  f.seg == id && f.addr == dAddr ws && f.gran == dGran ws && f.total == dLen ws

/-- A transient copy for a play (R124, R126): the copy there is, whose cancelled granules are asked for again, or space
and a fetch for a new one; none if the region cannot hold it. -/
def State.transientFor (s : State) (b id : Nat) (ws : List Nat) : Option State :=
  let lm := s.loom b
  if lm.transients.any fun t => t.fetch.fits id ws then
    some (s.onLoom b fun x =>
      { x with transients := x.transients.map fun t =>
          if t.fetch.fits id ws then { t with used := s.clk.time, fetch := { t.fetch with asked := 0 } } else t })
  else
    let need := (dBytes ws + 4095) / 4096
    let old := lm.transients.filter fun t => t.seg != id
    let ts := evict (s.transientCap b) need (s.benchRefs b) old.length old
    if unitsHeld ts + need ≤ s.transientCap b then
      some (s.onLoom b fun x =>
        { x with transients := ts ++ [{ seg := id, units := need, used := s.clk.time, fetch := fetchOf id 0 ws }] })
    else none

/-- The play's samples are sought (R124, R126, R133): nothing for a resident segment, a stream behind the earlier ones
of the voice's window, or a transient copy. CACHE_FULL is counted where none can be held. Answers whether the samples
can be had. -/
def State.seekSamples (s : State) (b l voice id ser : Nat) (ws : List Nat) : State × Bool :=
  if s.residentIn b id ws then (s, true)
  else if s.streamedIn b id ws then
    let v := s.windowOf b l voice
    (s.onLoom b fun x =>
      { x with windows := NMap.upd (fun _ => {}) x.windows v fun w =>
          { w with streams := w.streams ++ [fetchOf id ser ws] } }, true)
  else
    match s.transientFor b id ws with
    | some s => (s, true)
    | none => (s.satAdd (R.LOOM_CNT b 3) Fd.LOOM_CNT_COUNT 1, false)

/-- What a descriptor makes of a play before its samples are sought (R115). -/
def State.descState (s : State) (b voice id : Nat) (ws : List Nat) (aliasOk : Bool) : DescSt :=
  if !s.descOk b voice id ws aliasOk then .bad else if dLost ws then .lost else .good ws

/-- Samples are sought for a play whose descriptor is good (R124, R126). -/
def State.seekFor (s : State) (b l voice id ser : Nat) (d : DescSt) : State × DescSt :=
  match d with
  | .good ws =>
    match s.seekSamples b l voice id ser ws with
    | (s, true) => (s, .good ws)
    | (s, false) => (s, .full)
  | d => (s, d)

/-- What a descriptor that reaches a play makes of it (R115): samples are sought for a good one. -/
def State.descReaches (s : State) (b l voice id ser : Nat) (ws : List Nat) (aliasOk : Bool) : State × DescSt :=
  s.seekFor b l voice id ser (s.descState b voice id ws aliasOk)

/-- An entry of the directory cache is used or made (R121); with 4,096 entries the least recently used one that nothing
references leaves. -/
def State.dirTouch (s : State) (b id : Nat) : State :=
  let refs := s.benchRefs b
  s.onLoom b fun x =>
    let others := x.dir.filter fun e => e.seg != id
    let kept :=
      if others.length < 4096 then others
      else
        match others.filter fun e => !refs.contains e.seg with
        | [] => others
        | e :: rest => others.erase (rest.foldl (fun a e => if e.used < a.used then e else a) e)
    { x with dir := kept ++ [{ seg := id, used := s.clk.time }] }

/-- An ID leaves all eight directory caches (R121, R131). -/
def State.dirPurge (s : State) (id : Nat) : State :=
  foldAll (fun s b => if (s.loom b).dir.any (·.seg == id) then
      s.onLoom b fun x => { x with dir := x.dir.filter (·.seg != id) } else s) s (List.range 8)

/-- The request slots in use of a Bench's real-time port (R328): granules on their way, and descriptor reads that have
taken one. -/
def Loom.slotsUsed (x : Loom) : Nat :=
  x.windows.foldl (fun n e => e.2.streams.foldl (fun n f => n + f.out.length) n) 0 +
    x.transients.foldl (fun n t => n + t.fetch.out.length) 0 + (x.misses.filter (·.at_ != 0)).length

/-- The 96 request slots of the port are all in use: a further request waits for one of them (R328). -/
def Loom.portFull (x : Loom) : Bool := decide (96 ≤ x.slotsUsed)

/-- A slot of the port has freed: a descriptor read that waits takes it (R328). -/
def State.slotFreed (s : State) (b : Nat) : State :=
  let x := s.loom b
  if x.portFull then s
  else match x.misses.find? (·.at_ == 0) with
  | none => s
  | some m => s.onLoom b fun x =>
    { x with misses := x.misses.map fun y => if y.seg = m.seg then { y with at_ := s.clk.now + 1 } else y }

/-- A directory miss is under way from now on, or already is (R121). -/
def State.dirMiss (s : State) (b id : Nat) : State :=
  if (s.loom b).misses.any (·.seg == id) then s
  else
    ((s.wrapAdd (R.LOOM_CNT b 2) Fd.LOOM_CNT_COUNT 1).onLoom b fun x =>
      { x with misses := x.misses ++ [{ seg := id }] }).slotFreed b

/-! ### Order of the requests of the real-time ports (R320, R327 to R329, R337 to R339) -/

/-- A request of a real-time port in a bank queue: its Bench, its unit, the physical tick of its issue, and how often it
was passed. -/
structure MemReq where
  port : Nat
  unit : Nat
  at_ : Nat
  passed : Nat
  deriving DecidableEq, Repr

/-- The class of a port's requests (R327): 2 while one of its windows is in panic, else 3. -/
def State.portClass (s : State) (b : Nat) : Nat := if (s.loom b).windows.any fun e => e.2.panic then 2 else 3

/-- The unit of a segment's descriptor (R119). -/
def State.descUnit (s : State) (id : Nat) : Nat := (s.dirBase + 16 * id) / 64

/-- The requests of one fetch. -/
def Fetch.reqs (f : Fetch) (b : Nat) : List MemReq :=
  f.out.map fun a => { port := b, unit := f.unit a.gran, at_ := a.at_, passed := a.passed }

/-- The requests of all real-time ports that wait or are served. -/
def State.memReqs (s : State) : List MemReq :=
  (List.range 8).flatMap fun b =>
    let x := s.loom b
    (x.windows.flatMap fun e => e.2.streams.flatMap (·.reqs b)) ++ (x.transients.flatMap fun t => t.fetch.reqs b) ++
      (x.misses.filter (·.at_ != 0)).map fun m =>
        { port := b, unit := s.descUnit m.seg, at_ := m.at_ - 1, passed := m.passed }

/-- Request `q` is older than `r`; of one tick, the lower Bench comes first (R320). -/
def MemReq.older (q r : MemReq) : Bool := decide (q.at_ < r.at_) || (q.at_ == r.at_ && decide (q.port < r.port))

/-- A request of class 3 that has waited 48,000 ticks is promoted (R329). -/
def State.promoted (s : State) (r : MemReq) : Bool := s.portClass r.port == 3 && decide (r.at_ + 48000 ≤ s.clk.now)

/-- A requester is limited on a channel of a unit's device (R346). -/
def State.limitedOn (s : State) (u q : Nat) : Bool :=
  match s.unitDev u with
  | none => false
  | some d => NMap.get (fun _ => false) s.memc.limited (32 * d + q) || NMap.get (fun _ => false) s.memc.limited
      (32 * d + 16 + q)

/-- Request `r` may pass `q` (R339): same bank, the row of `r` open, and `q` passed fewer than 16 times. -/
def State.mayPass (s : State) (r q : MemReq) : Bool :=
  unitBank q.unit == unitBank r.unit && s.rowOpen r.unit && decide (q.passed < 16)

/-- Request `q` comes before `r` on their device (R327, R329, R339). -/
def State.comesFirst (s : State) (r q : MemReq) : Bool :=
  q.unit % 8 == r.unit % 8 && q.older r && (decide (s.portClass q.port ≤ s.portClass r.port) || s.promoted q) &&
    !s.promoted r && !s.limitedOn q.unit q.port && !s.mayPass r q

/-- A request is served next of those before it. -/
def State.served (s : State) (r : MemReq) : Bool := !s.memReqs.any (s.comesFirst r)

/-- Count for one fetch's requests that `r` has passed them. -/
def Fetch.pass (f : Fetch) (b : Nat) (r : MemReq) : Fetch :=
  { f with out := f.out.map fun a =>
      let q : MemReq := { port := b, unit := f.unit a.gran, at_ := a.at_, passed := a.passed }
      if q.unit % 8 == r.unit % 8 && unitBank q.unit == unitBank r.unit && q.older r then { a with passed := a.passed + 1 }
      else a }

/-- Request `r` is served: the older ones of its bank have been passed (R339), and the row is left as its hint says. -/
def State.serve (s : State) (r : MemReq) (h : PageHint) : State :=
  let pass := fun (s : State) b =>
    if s.portClass b != s.portClass r.port then s
    else
      s.onLoom b fun x =>
        { x with
          windows := x.windows.map fun e => (e.1, { e.2 with streams := e.2.streams.map (·.pass b r) })
          transients := x.transients.map fun t => { t with fetch := t.fetch.pass b r }
          misses := x.misses.map fun m =>
            let u := s.descUnit m.seg
            if m.at_ != 0 && u % 8 == r.unit % 8 && unitBank u == unitBank r.unit && decide (m.at_ - 1 < r.at_) then
              { m with passed := m.passed + 1 }
            else m }
  (foldAll pass s (List.range 8)).access r.unit h

/-- BAD_DESC or LOST of a play is reported (R115). -/
def State.descReport (s : State) (b l : Nat) (p : Play) : State :=
  match p.desc with
  | .bad => (s.satAdd (R.LOOM_CNT b 1) Fd.LOOM_CNT_COUNT 1).lanePoison b l 3 p.seg
  | .lost => s.lanePoison b l 4 p.seg
  | .full => (s.breach Fd.TOP_BREACH_TIER4).lanePoison b l 5 p.seg
  | _ => s

/-- Output sample `n` of a play of a segment that is not LOOPABLE lies at or past its last stored sample (R118). -/
def pastEnd (ws : List Nat) (voice : Nat) (d : Int) (n : Nat) : Bool :=
  !dLoopable ws && decide (Int.ofNat (16 * dLen ws) ≤ position (dStep ws) voice d n)

/-- SHORT_SEG is counted once for a play, in the tick in which it runs out of stored samples (R118). -/
def State.countShort (s : State) (b l voice : Nat) (p : Play) : State :=
  let ws := p.words
  let d := s.voiceDelay b l voice
  let n := (s.clk.time - p.start) * spt voice
  if !ws.isEmpty && pastEnd ws voice d (n + spt voice - 1) && (n == 0 || !pastEnd ws voice d (n - 1)) then
    s.satAdd (R.LOOM_CNT b 0) Fd.LOOM_CNT_COUNT 1
  else s

/-- A descriptor reaches one waiting play of a lane (R115, R121, R153). -/
def State.fillPlay (s : State) (b l voice id : Nat) (ws : List Nat) (p : Play) : State :=
  let (s, d) := s.descReaches b l voice id p.ser ws p.aliasOk
  let len := dPlay ws
  let p' := { p with
    desc := d, len := len, issued := s.clk.time, cut := none, ends := (p.cut.map (min (p.start + len))).getD (p.start + len) }
  let s := s.onLane b l fun x =>
    let x := x.setQueue voice ((x.queue voice).map fun q => if q.ser = p.ser then p' else q)
    match x.stall with
    | .descriptor g => if g = id && p.ser + 1 = x.ser then { x with stall := .none_, cursor := p.start + len } else x
    | _ => x
  let s := if decide (p'.ends < p.start + len) then s.laneFlag b l Fd.LOOM_LANE_FLAGS_OVERLAP else s
  if p.started then s.descReport b l p' else s

/-- The plays of a Bench that wait for a descriptor: lane, voice and play. -/
def State.waiting (s : State) (b id : Nat) : List (Nat × Nat × Play) :=
  (List.range 32).flatMap fun l => (List.range 3).flatMap fun v =>
    (((s.lane b l).queue v).filter fun p => p.seg == id && p.desc == .awaited).map fun p => (l, v, p)

/-- DIR_MISS_FILL (R121): the descriptor arrives. After a UE it reads with VALID = 0, its PLAY being left open (R342). -/
def dirMissFill (b seg : Nat) (ue : Bool) (s : State) : State :=
  match (s.loom b).misses.find? (·.seg == seg) with
  | none => s
  | some m =>
    let r : MemReq := { port := b, unit := s.descUnit seg, at_ := m.at_ - 1, passed := m.passed }
    if m.at_ = 0 || !s.served r then s else
    let s := s.serve r .close
    let s := (s.onLoom b fun x => { x with misses := x.misses.filter (·.seg != seg) }).slotFreed b
    let (ws, s) :=
      if ue then
        let s := s.uncorrectable (s.descUnit seg) b
        let (w, s) := s.free
        ([0, 0, 0, bitsOf w.toNat 0 24], s)
      else (s.segWords seg, s.dirTouch b seg)
    foldAll (fun s e => s.fillPlay b e.1 e.2.1 seg ws e.2.2) s (s.waiting b seg)

/-- DIR_MISS_FILL (R121). -/
def execDirMissFill (b : Fin 8) (seg : BitVec 20) (ue : Bool) (s : State) : Host.Outcome State Fault Refusal :=
  whenPowered s (dirMissFill b seg.toNat ue)

/-! ### Writes -/

/-- A write dropped because it touches an active segment (R129). -/
def State.segBusy (s : State) (who : Who) (addr : Nat) (dir : Bool) : State :=
  let first := s.fld R.LOOM_SEG_BUSY Fd.LOOM_SEG_BUSY_COUNT == 0
  let s := s.satAdd R.LOOM_SEG_BUSY Fd.LOOM_SEG_BUSY_COUNT 1
  if first then
    (s.setReg R.LOOM_SEG_BUSY_LOG_LO (BitVec.ofNat 32 addr)).setReg R.LOOM_SEG_BUSY_LOG_HI
      (BitVec.ofNat 32 (bitsOf addr 32 2 + 4 * bit dir + 16 * who.code))
  else s

/-- The staging descriptor of a requester (R120). -/
def State.descStage (s : State) (who : Who) : DescStage := NMap.get (fun _ => {}) s.segs.stages who.code

/-- Replace the staging descriptor of a requester. -/
def State.setDescStage (s : State) (who : Who) (d : DescStage) : State :=
  { s with segs := { s.segs with stages := NMap.set (fun _ => {}) s.segs.stages who.code d } }

/-- A whole descriptor is committed (R120, R129): RESIDENT and LOST are stored as 0; the descriptor of an active segment
is left, and the window offset of the write that would commit it is logged. -/
def State.commitDesc (s : State) (who : Who) (id first : Nat) (ws : List Nat) : State :=
  let s := s.setDescStage who {}
  if s.segActive id then s.segBusy who (16 * id + 4 * first) true
  else
    let w3 := putBits (putBits (dWord ws 3) 25 1 0) 30 1 0
    (s.setSeg id (ws.take 3 ++ [w3])).dirPurge id

/-- Stage words of a descriptor from word `first` on (R120). -/
def DescStage.put (d : DescStage) (id first : Nat) : List Nat → DescStage
  | [] => d
  | w :: ws =>
    DescStage.put { words := NMap.set (fun _ => 0x100000000) d.words first w,
                    ids := if d.ids.contains id then d.ids else d.ids ++ [id] } id (first + 1) ws

/-- The modes in which the memory serves the host, the cores and Porter (R41, R58, R439). -/
def State.memServes (s : State) : Bool :=
  match s.mode with
  | .dormant | .boot | .sanitise | .keep | .latched => false
  | _ => true

/-- A request of the host, the cores or Porter to waveform memory keeps it out of self-refresh for 1 ms (R42). -/
def State.memTouch (s : State) : State := { s with memc := { s.memc with lastReq := s.clk.now } }

/-- SEGDIR_WRITE (R120): a write of 1, 2 or 4 aligned words through the directory window. IEEE 1149.1 is refused (R89, R447):
DEDUCED, log entry 15. -/
def segdirWrite (who : Who) (id first : Nat) (ws : List Word) (s : State) : State :=
  let n := ws.length
  let ns := ws.map (·.toNat)
  if who == .jtag || !(n == 1 || (n == 2 && first % 2 == 0) || (n == 4 && first == 0)) then
    s.denied who (R.SEGDIR id first) true
  else if !s.memServes then s
  else
    let s := s.memTouch
    if n = 4 then s.commitDesc who id 0 ns
    else
      let d := (s.descStage who).put id first ns
      if first + n ≤ 3 then s.setDescStage who d
      else if d.ids.all (· == id) then
        let old := s.segWords id
        let new := (List.range 4).map fun i =>
          let w := NMap.get (fun _ => 0x100000000) d.words i
          if w = 0x100000000 then dWord old i else w
        s.commitDesc who id first new
      else (s.setDescStage who {}).raise R.LOOM_SEG_STATUS Fd.LOOM_SEG_STATUS_DESC_TORN

/-- SEGDIR_WRITE (R120). -/
def execSegdirWrite (who : Who) (id : BitVec 20) (first : Fin 4) (ws : List Word) (s : State) :
    Host.Outcome State Fault Refusal := whenOpen who s (segdirWrite who id.toNat first ws)

/-- ALIAS_WRITE (R122). -/
def aliasWrite (a : Nat) (v : Word) (s : State) : State := s.softReg (R.LOOM_ALIAS a) (v &&& 0x800FFFFF#32)

/-- ALIAS_WRITE (R122). -/
def execAliasWrite (a : BitVec 12) (v : Word) (s : State) : Host.Outcome State Fault Refusal :=
  whenPowered s (aliasWrite a.toNat v)

/-- A valid alias names the segment (R131). -/
def State.aliased (s : State) (id : Nat) : Bool :=
  s.ap.any fun e => decide (R.LOOM_ALIAS 0 ≤ e.1) && decide (e.1 < R.LOOM_ALIAS 4096) && bitAt e.2.toNat 31 &&
    bitsOf e.2.toNat 0 20 == id

/-- A retirement completes (R131): VALID = 0, the caches purged, DONE and LAST_ID. -/
def State.retireDone (s : State) (id : Nat) : State :=
  let ws := s.segWords id
  let s := (s.setReg (R.SEGDIR id 3) (BitVec.ofNat 32 (putBits (dWord ws 3) 31 1 0))).dirPurge id
  let s : State := { s with segs := { s.segs with retiring := s.segs.retiring.filter (· != id) } }
  (s.raise R.LOOM_RETIRE_STATUS Fd.LOOM_RETIRE_STATUS_DONE).setFld R.LOOM_RETIRE_STATUS Fd.LOOM_RETIRE_STATUS_LAST_ID id

/-- A refused retire request (R131). -/
def State.retireRefuse (s : State) (cause : Nat) : State :=
  (s.raise R.LOOM_RETIRE_STATUS Fd.LOOM_RETIRE_STATUS_REFUSED).setFld R.LOOM_RETIRE_STATUS Fd.LOOM_RETIRE_STATUS_CAUSE
    cause

/-- RETIRE (R131): a request is merged, refused, completed at once, queued, or dropped with 16 pending. -/
def retire (v : Word) (s : State) : State :=
  let id := bitsOf v.toNat 0 20
  if s.segs.retiring.contains id then s
  else if dResident (s.segWords id) then s.retireRefuse 1
  else if s.aliased id then s.retireRefuse 2
  else if !s.segActive id then s.retireDone id
  else if 16 ≤ s.segs.retiring.length then s.raise R.LOOM_RETIRE_STATUS Fd.LOOM_RETIRE_STATUS_FULL
  else { s with segs := { s.segs with retiring := s.segs.retiring ++ [id] } }

/-- RETIRE (R131). -/
def execRetire (v : Word) (s : State) : Host.Outcome State Fault Refusal := whenPowered s (retire v)

/-- RETIRE_COMPLETE (R131): the first pending ID that has become inactive. -/
def retireComplete (s : State) : State :=
  match s.segs.retiring.find? fun id => !s.segActive id with
  | some id => s.retireDone id
  | none => s

/-- RETIRE_COMPLETE (R131). -/
def execRetireComplete (s : State) : Host.Outcome State Fault Refusal := whenPowered s retireComplete

/-- Two byte ranges overlap. -/
def overlaps (a n c m : Nat) : Bool := decide (a < c + m) && decide (c < a + n)

/-- The base of the application-core region: from the top of the Tally ring to 16 GiB (R71). -/
def State.coreBase (s : State) : Nat :=
  (s.fld R.TALLY_RING_CFG Fd.TALLY_RING_CFG_BASE + s.fld R.TALLY_RING_CFG Fd.TALLY_RING_CFG_SIZE) * 0x4000000

/-- A range of waveform memory that a requester may not reach: beyond 16 GiB (R445), the directory's addresses (R119),
and the application-core region from another requester while the cores are not held (R452). -/
def State.memRefuses (s : State) (who : Who) (a n : Nat) : Bool :=
  decide (memSize < a + n) || overlaps a n s.dirBase 0x1000000 ||
    (who != .cores && s.host.coresRun != 0 && overlaps a n s.coreBase (memSize - s.coreBase))

/-- The staging area of a load in progress (R77). -/
def State.inStaging (s : State) (a n : Nat) : Bool :=
  match s.load with
  | some ld => overlaps a n ld.src ld.len
  | none => false

/-- A transient copy of a segment whose stored samples are overwritten is invalid (R127). -/
def State.dropCopies (s : State) (a n : Nat) : State :=
  foldAll (fun s b =>
    s.onLoom b fun x =>
      { x with transients := x.transients.filter fun t => !overlaps a n t.fetch.addr (t.fetch.gran * t.fetch.total) })
    s (List.range 8)

/-- A byte range overlaps the stored samples of an active segment (R129); a free ID has none. -/
def State.heldSamples (s : State) (a n : Nat) : Bool :=
  s.activeSegs.any fun id =>
    let ws := s.segWords id
    dValid ws && overlaps a n (dAddr ws) (dBytes ws)

/-- WAVEFORM_WRITE (R129, R130): accepted, or dropped for a refused range, the staging area of a load, or an active
segment. -/
def waveformWrite (who : Who) (a : Nat) (bytes : List Byte) (s : State) : State :=
  let n := bytes.length
  let s := s.memTouch
  if !s.memServes || n = 0 then s
  else if s.memRefuses who a n || (s.inStaging a n && (who == .host || who == .cores)) then s.denied who a true
  else if s.memDead then s
  else if s.heldSamples a n then
    s.segBusy who a false
  else ((s.memStore a bytes).accessAll a n .auto).dropCopies a n

/-- WAVEFORM_WRITE (R129). -/
def execWaveformWrite (who : Who) (addr : BitVec 34) (bytes : List Byte) (s : State) :
    Host.Outcome State Fault Refusal := whenOpen who s (waveformWrite who addr.toNat bytes)

/-! ### Streaming -/

/-- The play that a stream serves, with its lane and voice. -/
def State.streamPlay (s : State) (b v : Nat) (f : Fetch) : Option (Nat × Nat × Play) :=
  match s.windowVoice b v with
  | none => none
  | some (l, voice) => (((s.lane b l).queue voice).find? fun p => p.ser == f.ser).map fun p => (l, voice, p)

/-- The streaming window of a voice. -/
def State.window (s : State) (b v : Nat) : Window := NMap.get (fun _ => {}) (s.loom b).windows v

/-- Change a streaming window. -/
def State.onWindow (s : State) (b v : Nat) (f : Window → Window) : State :=
  s.onLoom b fun x => { x with windows := NMap.upd (fun _ => {}) x.windows v f }

/-- Granules of a stream that playback has left behind. -/
def State.consumedOf (s : State) (b v : Nat) (f : Fetch) : Nat :=
  match s.streamPlay b v f with
  | some (l, voice, p) => if p.over s.clk.time then f.total else p.consumed p.words voice (s.voiceDelay b l voice) s.clk.time
  | none => 0

/-- Granules of a stream that its play reaches (R118, R135). -/
def State.reachedOf (s : State) (b v : Nat) (f : Fetch) : Nat :=
  match s.streamPlay b v f with
  | some (l, voice, p) => min f.total (p.reached p.words voice (s.voiceDelay b l voice))
  | none => 0

/-- Granules of a fetch that are present and not below an index. -/
def Fetch.held (f : Fetch) (from_ : Nat) : Nat := (f.got.filter fun e => decide (from_ ≤ e.1) && e.2 != 0).length

/-- Bytes of the window taken by granules asked for and not yet played (R133). -/
def State.windowUsed (s : State) (b v : Nat) : Nat :=
  (s.window b v).streams.foldl (fun n f =>
    let c := s.consumedOf b v f
    n + (f.held c + (f.out.filter fun a => decide (c ≤ a.gran)).length) * f.gran) 0

/-- Data present ahead of the playback point, and data still to be played (R135). -/
def State.windowFill (s : State) (b v : Nat) : Nat × Nat :=
  (s.window b v).streams.foldl (fun n f =>
    let c := s.consumedOf b v f
    (n.1 + f.held c * f.gran, n.2 + (s.reachedOf b v f - c) * f.gran)) (0, 0)

/-- Fill in bytes and the amount it is measured against (R135). -/
def State.fillOf (s : State) (b v : Nat) : Nat × Nat :=
  let (have_, todo) := s.windowFill b v
  (have_, min (s.window b v).size todo)

/-- PANIC as taken, within 1 to 48 (STREAM_CFG). -/
def State.panicLevel (s : State) (b : Nat) : Nat := max 1 (min 48 (s.loom b).panicAt)

/-- The voice is playing a streamed segment. -/
def State.streamsNow (s : State) (b v : Nat) : Bool :=
  (s.window b v).streams.any fun f =>
    match s.streamPlay b v f with
    | some (_, _, p) => p.active s.clk.time
    | none => false

/-- PANIC_ENTRY (R135): a window that is playing a stream falls below PANIC/64. -/
def panicEntry (b v : Nat) (s : State) : State :=
  let (f, d) := s.fillOf b v
  if s.streamsNow b v && !(s.window b v).panic && decide (64 * f < s.panicLevel b * d) then
    (s.onWindow b v fun w => { w with panic := true }).satAdd (R.LOOM_PORT_STATUS b)
      Fd.LOOM_PORT_STATUS_PANIC_COUNT 1
  else s

/-- PANIC_ENTRY (R135). -/
def execPanicEntry (b : Fin 8) (v : Fin 80) (s : State) : Host.Outcome State Fault Refusal :=
  whenPowered s (panicEntry b v)

/-- Change the first stream of a window that satisfies a test. -/
def onFirst (p : Fetch → Bool) (g : Fetch → Fetch) : List Fetch → List Fetch
  | [] => []
  | f :: fs => if p f then g f :: fs else f :: onFirst p g fs

/-- The first stream of a window that has a granule to ask for and room for it (R133). -/
def State.windowAsk (s : State) (b v : Nat) : Option Fetch :=
  ((s.window b v).streams.find? (·.wants)).filter fun f => decide (s.windowUsed b v + f.gran ≤ (s.window b v).size)

/-- The next granule of a window is requested: in order, and with room in the window (R133). -/
def State.windowRequest (s : State) (b v : Nat) : State :=
  match s.windowAsk b v with
  | none => s
  | some _ =>
    if (s.loom b).portFull then s
    else s.onWindow b v fun w => { w with streams := onFirst (·.wants) (·.ask s.clk.now) w.streams }

/-- GRANULE_REQUEST (R134): the next granule of the first stream that still has one to ask for; for a transient copy its
next granule. While the port's share of the request slots is full the request waits (R328). -/
def granuleRequest (b : Nat) (src : GranSrc) (s : State) : State :=
  match src with
  | .window v => s.windowRequest b v
  | .transient seg =>
    if (s.loom b).portFull then s
    else s.onLoom b fun x =>
      { x with transients := x.transients.map fun t =>
          if t.seg = seg.toNat && t.fetch.wants then { t with fetch := t.fetch.ask s.clk.now } else t }

/-- The refill lead L of R134 in ticks: LEAD × 750, where LEAD is taken as at least 1. -/
def State.refillLead (s : State) (b : Nat) : Nat := 750 * max 1 (s.loom b).lead

/-- The next granule of a window must be requested by now (R134): its need tick is at most L away. -/
def State.requestDue (s : State) (b v : Nat) : Bool :=
  match s.windowAsk b v with
  | none => false
  | some f =>
    match s.streamPlay b v f with
    | none => false
    | some (l, voice, p) =>
      match p.needTick p.words voice (s.voiceDelay b l voice) f.nextAsk with
      | some t => decide (t ≤ s.clk.time + s.refillLead b)
      | none => false

/-- The requests that a window may not put off any longer go out, up to a number (R134). -/
def State.requestsDue (s : State) (b v : Nat) : Nat → State
  | 0 => s
  | n + 1 => if s.requestDue b v then (s.windowRequest b v).requestsDue b v n else s

/-- GRANULE_REQUEST (R134). -/
def execGranuleRequest (b : Fin 8) (src : GranSrc) (s : State) : Host.Outcome State Fault Refusal :=
  whenPowered s (granuleRequest b src)

/-- The bytes of a range of waveform memory as a little-endian number. -/
def State.memNat (s : State) (a n : Nat) : Nat :=
  s.mem.foldl (fun x c => if a ≤ c.1 && c.1 < a + n then x + c.2.toNat * 2 ^ (8 * (c.1 - a)) else x) 0

/-- The oldest granule asked for leaves the list of requests; one to be kept is present from now on. -/
def Fetch.arrive (f : Fetch) (content : Option Nat) : Fetch :=
  match f.out with
  | [] => f
  | i :: rest =>
    { f with
      out := rest
      got := match content with
        | some c => NMap.set (fun _ => 0) f.got i.gran (c + 1)
        | none => f.got }

/-- The content of the granule that arrives next. -/
def State.arriving (s : State) (f : Fetch) : Nat := s.memNat (f.addr + f.head * f.gran) f.gran

/-- A granule read as a UE (R342): the unit is poisoned, the segment is LOST and the shot is poisoned with MEM_UE. -/
def State.granuleUe (s : State) (b : Nat) (f : Fetch) : State :=
  let u := f.unit f.head
  (((s.uncorrectable u b).segLost f.seg).dirPurge f.seg).poison b 0x0E u

/-- Panic of a window ends when its fill exceeds (PANIC + 4)/64, and when it no longer plays a stream (R135). -/
def State.panicEnd (s : State) (b v : Nat) : State :=
  let (f, d) := s.fillOf b v
  if (s.window b v).panic && (!s.streamsNow b v || decide ((s.panicLevel b + 4) * d < 64 * f)) then
    s.onWindow b v fun w => { w with panic := false }
  else s

/-- An underrun of a voice (R136, R170): counted, and the first of the voice in the shot poisons it. -/
def State.underrunAt (s : State) (b l voice : Nat) : State :=
  let v := s.windowOf b l voice
  let s := ((s.satAdd (R.LOOM_VSTREAM b v) Fd.LOOM_VSTREAM_UNDERRUN 1).benchEvent b Fd.BENCH_EVENTS_UNDERRUN).breach
    Fd.TOP_BREACH_TIER4
  if bitAt (s.lane b l).underran voice then s
  else (s.lanePoison b l 1 v).onLane b l fun x => { x with underran := setBit x.underran voice }

/-- A granule was missing at its need tick for a play (R136): its samples are zero. Where it comes through a transient
copy, the play's data is late too (R157, R173), once. -/
def State.granuleMissed (s : State) (b l voice : Nat) (p : Play) (g : Nat) (copy : Bool) : State :=
  let s := s.onLane b l fun x =>
    x.setQueue voice ((x.queue voice).map fun q => if q.ser = p.ser then { q with missed := q.missed ++ [g] } else q)
  let s := s.underrunAt b l voice
  if copy && p.missed.isEmpty then (s.laneLate b l).lanePoison b l 2 voice else s

/-- The need tick of a granule has passed for a play that has started. -/
def State.granuleLate (s : State) (b l voice : Nat) (p : Play) (g : Nat) : Bool :=
  p.started &&
    match p.needTick p.words voice (s.voiceDelay b l voice) g with
    | some t => decide (t < s.clk.time)
    | none => false

/-- The plays of a Bench that a transient copy of a segment serves: lane, voice and play. -/
def State.copyPlays (s : State) (b id : Nat) : List (Nat × Nat × Play) :=
  (List.range 32).flatMap fun l => (List.range 3).flatMap fun v =>
    (((s.lane b l).queue v).filter fun p =>
      p.seg == id && !p.words.isEmpty && !p.over s.clk.time && !s.residentIn b id p.words &&
        !s.streamedIn b id p.words).map fun p => (l, v, p)

/-- A granule that comes too late for some plays was missing for them (R136), unless that has been reported. -/
def State.lateFor (s : State) (b g : Nat) (copy : Bool) (ps : List (Nat × Nat × Play)) : State :=
  foldAll (fun s e => if e.2.2.missed.contains g then s else s.granuleMissed b e.1 e.2.1 e.2.2 g copy) s ps

/-- The oldest granule asked for is the next that its bank queue serves (R339); the state once it has been served. -/
def State.serveHead (s : State) (b : Nat) (f : Fetch) : Option State :=
  match f.out, f.reqs b with
  | a :: _, r :: _ => if s.served r then some (s.serve r a.hint) else none
  | _, _ => none

/-- GRANULE_ARRIVE (R133): the oldest granule asked for arrives, when its turn has come (R339); one whose need tick has
passed is discarded (R136). A UE counts as not arrived (R342). -/
def granuleArrive (b : Nat) (src : GranSrc) (ue : Bool) (s : State) : State :=
  match src with
  | .window v =>
    let due := fun (f : Fetch) => !f.out.isEmpty
    match (s.window b v).streams.find? due with
    | none => s
    | some f =>
      match s.serveHead b f with
      | none => s
      | some s =>
      let g := f.head
      let late := match s.streamPlay b v f with
        | some (l, voice, p) => if s.granuleLate b l voice p g then [(l, voice, p)] else []
        | none => []
      let content := if ue || !late.isEmpty then none else some (s.arriving f)
      let s := if ue then s.granuleUe b f else s
      let s := s.onWindow b v fun w => { w with streams := onFirst due (·.arrive content) w.streams }
      ((s.slotFreed b).lateFor b g false late).panicEnd b v
  | .transient seg =>
    match (s.loom b).transients.find? fun t => t.seg == seg.toNat && !t.fetch.out.isEmpty with
    | none => s
    | some t =>
      match s.serveHead b t.fetch with
      | none => s
      | some s =>
      let g := t.fetch.head
      let ps := s.copyPlays b t.seg
      let late := ps.filter fun e => s.granuleLate b e.1 e.2.1 e.2.2 g
      let content := if ue || (!late.isEmpty && late.length == ps.length) then none else some (s.arriving t.fetch)
      let s := if ue then s.granuleUe b t.fetch else s
      let s := s.onLoom b fun x =>
        { x with transients := x.transients.map fun u =>
            if u.seg = t.seg then { u with fetch := u.fetch.arrive content } else u }
      (s.slotFreed b).lateFor b g true late

/-- GRANULE_ARRIVE (R133). -/
def execGranuleArrive (b : Fin 8) (src : GranSrc) (ue : Bool) (s : State) : Host.Outcome State Fault Refusal :=
  whenPowered s (granuleArrive b src ue)

/-- The granules that a play in progress may lack at the present tick. -/
def State.needed (s : State) (b l voice : Nat) (p : Play) : List Nat :=
  let ws := p.words
  let d := s.voiceDelay b l voice
  if dLoopable ws then List.range (dLen ws)
  else
    let c := p.consumed ws voice d s.clk.time
    let n := (s.clk.time - p.start) * spt voice + spt voice - 1
    let top := ((position (dStep ws) voice d n + 8) / 16 + 1).toNat
    (List.range (top - c)).map (c + ·)

/-- The first granule of a fetch that a play needs by now, lacks, and has not been reported to lack (R136). -/
def State.lacking (s : State) (b l voice : Nat) (p : Play) (f : Fetch) : Option Nat :=
  if p.words.isEmpty || !p.active s.clk.time then none
  else
    (s.needed b l voice p).find? fun g =>
      !f.has g && !p.missed.contains g && NMap.get (fun _ => 0) p.pre g == 0 &&
        match p.needTick p.words voice (s.voiceDelay b l voice) g with
        | some t => decide (t ≤ s.clk.time)
        | none => false

/-- A request not yet sent for a granule is cancelled (R136). -/
def Fetch.cancel (f : Fetch) (g : Nat) : Fetch := if f.asked ≤ g then { f with asked := g + 1 } else f

/-- The first fetch of a voice's plays in progress that lacks a granule: the play, the fetch, the granule, and whether it
is a transient copy. -/
def State.underrunOf (s : State) (b v l voice : Nat) : Option (Play × Fetch × Nat × Bool) :=
  let q := (s.lane b l).queue voice
  let streams := (s.window b v).streams.filterMap fun f =>
    (q.find? fun p => p.ser == f.ser).bind fun p => (s.lacking b l voice p f).map fun g => (p, f, g, false)
  let copies := q.filterMap fun p =>
    if p.words.isEmpty || s.residentIn b p.seg p.words || s.streamedIn b p.seg p.words then none
    else ((s.loom b).transients.find? fun t => t.fetch.fits p.seg p.words).bind fun t =>
      (s.lacking b l voice p t.fetch).map fun g => (p, t.fetch, g, true)
  (streams ++ copies).head?

/-- UNDERRUN (R136): a granule of the voice's stream, or of the transient copy it plays, is missing at its need tick. -/
def underrun (b v : Nat) (s : State) : State :=
  match s.windowVoice b v with
  | none => s
  | some (l, voice) =>
    match s.underrunOf b v l voice with
    | none => s
    | some (p, f, g, copy) =>
      let s :=
        if copy then s.onLoom b fun x =>
          { x with transients := x.transients.map fun u =>
              if u.seg = f.seg then { u with fetch := u.fetch.cancel g } else u }
        else s.onWindow b v fun w =>
          { w with streams := onFirst (fun u => u.ser == f.ser) (·.cancel g) w.streams }
      s.granuleMissed b l voice p g copy

/-- UNDERRUN (R136). -/
def execUnderrun (b : Fin 8) (v : Fin 80) (s : State) : Host.Outcome State Fault Refusal := whenPowered s (underrun b v)

/-! ### Resident copies -/

/-- The resident copies of a Bench are made (R124): at the end of a load, when its WIPED bit clears, and on leaving
KEEP. -/
def State.residentsMade (s : State) (b : Nat) : State :=
  let ids := (s.segs.resident.filter fun e => bitAt e.2 b).map (·.1)
  s.onLoom b fun x =>
    { x with residents := foldAll (fun m id =>
        let ws := s.segWords id
        NMap.set (fun _ => 0) m id (s.memNat (dAddr ws) (dBytes ws))) [] ids }

/-- The windows of a voice's plays go on in panic only while it plays a stream (R135). -/
def State.panicsOver (s : State) (b : Nat) : State :=
  foldAll (fun s e => if e.2.panic then s.panicEnd b e.1 else s) s (s.loom b).windows

end Sys2Proof.Machine
end

