-- ==== Sys2Proof/Machine/ToneOps.lean ====
section
/-!
DEFINITION. Tones and frames as the lanes and the output chains share them (R174, R175, R177 to R180): the frequency
word in force, the frame phase and its fold, and the band check.
-/
namespace Sys2Proof.Machine

/-- The frequency word that governs a tone at a tick (R177). -/
def Tone.fwAt (x : Tone) (time : Nat) : Nat :=
  ((x.nextFw.filter fun e => decide (e.1 ≤ time)).getLast?.map (·.2)).getD x.fw

/-- Frame `f` of tone `u` of Bench `b`. -/
def State.frm (s : State) (b u f : Nat) : Frame := NMap.get (fun _ => {}) s.out.frames (256 * b + 4 * u + f)

/-- Change a frame. -/
def State.onFrm (s : State) (b u f : Nat) (g : Frame → Frame) : State :=
  { s with out := { s.out with frames := NMap.upd (fun _ => {}) s.out.frames (256 * b + 4 * u + f) g } }

/-- The phase of a frame at sample 0 of a tick, in units of 2^-40 turn (R178). -/
def Frame.phaseAt (x : Frame) (t : Nat) : Nat :=
  lowBits 40 (Int.ofNat x.p + sext 32 x.f * (4 * (Int.ofNat t - Int.ofNat x.t)))

/-- A frame update at tick `t` (R179): a frequency update folds the phase first; a phase update acts on the upper 32 of
the 40 phase bits. -/
def Frame.update (x : Frame) (freq add : Bool) (value t : Nat) : Frame :=
  if freq then
    { p := x.phaseAt t, f := (if add then x.f + value else value) % 2 ^ 32, t := t }
  else { x with p := (if add then x.p + value * 256 else value * 256) % 2 ^ 40 }

/-- A frame takes its initial state with the given reference tick (R180). -/
def State.frameInit (s : State) (b u f t : Nat) : State :=
  s.onFrm b u f fun _ =>
    { p := (s.reg (R.OUT_TONE_FRAME_INIT_P b u f)).toNat * 256, f := (s.reg (R.OUT_TONE_FRAME_INIT_F b u f)).toNat,
      t := t }

/-- The RF converter of a tone: DRV0 to DRV3 are 0 to 3, PRB0 and PRB1 are 4 and 5. -/
def toneConv (u : Nat) : Nat := if u < 32 then u / 8 else 4 + (u - 32) / 16

/-- An effective frequency word lies in the band of a converter mode (R175): 0.05 to 5.5 GHz, or 6.5 to 11.0 GHz. -/
def inBand (mix : Bool) (w : Int) : Bool :=
  if mix then decide (13 * 2 ^ 48 ≤ 24 * w) && decide (12 * w ≤ 11 * 2 ^ 48)
  else decide (2 ^ 48 ≤ 240 * w) && decide (24 * w ≤ 11 * 2 ^ 48)

/-- The effective frequency word of a tone with a frequency word and a frame offset (R175). -/
def effWord (fw f : Nat) : Int := Int.ofNat fw + 256 * sext 32 f

/-- OUT_OF_BAND of a tone's converter, where the effective frequency with frame `f` lies outside the band (R175). -/
def State.bandCheck (s : State) (b u f fw : Nat) : State :=
  let c := toneConv u
  if inBand (s.flag (R.OUT_CONV_CFG b c) Fd.OUT_CONV_CFG_MODE) (effWord fw (s.frm b u f).f) then s
  else s.raise (R.OUT_CONV_FLAGS b c) Fd.OUT_CONV_FLAGS_OUT_OF_BAND

/-- The lane and voice bound to a tone, if one is (R20). -/
def State.toneVoice (s : State) (b u : Nat) : Option (Nat × Nat) :=
  ((List.range 32).find? fun l => s.voiceUnit b l (if u < 32 then 0 else 1) == some u).map fun l =>
    (l, if u < 32 then 0 else 1)

/-- The play in progress on a tone, if one is. -/
def State.tonePlay (s : State) (b u : Nat) : Option Play :=
  match s.toneVoice b u with
  | some (l, v) => ((s.lane b l).queue v).find? fun p => p.active s.clk.time
  | none => none

end Sys2Proof.Machine
end

