-- ==== Sys2Proof/Machine/LanePlay.lean ====
section
/-!
DEFINITION. How a play enters its voice's queue (R151 to R153, R204), how issue is taken back (R156, R161, R171), and
what happens at a play's start tick (R115, R152, R157, R175).
-/
namespace Sys2Proof.Machine

/-- The operands of a PLAY or PLAYX word (R142). -/
structure PlayArgs where
  voice : Nat
  seg : Nat
  aliasOk : Bool
  ofs : Nat
  amp : Nat
  frame : Nat
  phase : Nat
  adv : Bool
  win : Bool
  deriving DecidableEq, Repr

/-- Read the operands of a PLAY or PLAYX word (R142): an alias is resolved now (R122), and PLAYX takes amplitude and
phase from V registers. -/
def State.playArgs (s : State) (b l w : Nat) : PlayArgs :=
  let x := liOp w == 2
  let a := (s.regBefore (R.LOOM_ALIAS (liSeg w))).toNat
  { voice := liVoice w
    seg := if liAlias w then bitsOf a 0 20 else liSeg w
    aliasOk := !liAlias w || bitAt a 31
    ofs := liOfs w
    amp := if x then bitsOf (s.vreg b l (liVa w)) 0 16 else liAmp w
    frame := liFrame w
    phase := if x then s.vreg b l (liVp w) else 0
    adv := liAdv w
    win := liWin w && liVoice w == 1 }

/-- Streams whose play has left its queue leave the window (R128, R133). -/
def State.tidyStreams (s : State) (b l : Nat) : State :=
  foldAll (fun s voice =>
    let v := s.windowOf b l voice
    if (s.window b v).streams.isEmpty then s
    else
      let q := (s.lane b l).queue voice
      s.onWindow b v fun w => { w with streams := w.streams.filter fun f => q.any fun p => p.ser == f.ser })
    s (List.range 3)

/-- Plays whose last sample has left the Loom leave their queues (R149, R151). -/
def State.pruneLane (s : State) (b l : Nat) : State :=
  (s.onLane b l fun x => x.keepPlays fun p => !p.over s.clk.time).tidyStreams b l

/-- A window that a play with WIN = 1 will open (R202, R204): the channel's settings as they stand, the frame and phase of
the play, and the first sample. -/
def State.newWindow (s : State) (b l c ser start frame phase : Nat) : State × Nat :=
  let n := (s.chan b c).nextSer
  let delay := bitsOf (s.regBefore (R.READ_CH_WIN b c)).toNat Fd.READ_CH_WIN_DELAY.lo Fd.READ_CH_WIN_DELAY.w
  let w : Win := {
    ser := n, lane := l, play := ser, start := start, frame := frame, phase := phase
    wcfg := (s.regBefore (R.READ_CH_WIN b c)).toNat
    kcfg := (s.regBefore (R.READ_CH_KCFG b c)).toNat
    tcfg := (s.regBefore (R.READ_CH_TRACE b c)).toNat
    m0 := 4 * Int.ofNat (start + delay) + rndEven s.time.trimNow 4 }
  (s.onChan b c fun x => { x with nextSer := n + 1, wins := x.wins ++ [w] }, n)

/-- The window of a play with WIN = 1 is promised on its lane's channel, where it has one (R201, R204). -/
def State.playWindow (s : State) (b l ser start frame phase : Nat) (win : Bool) : State × Option Nat :=
  if !win then (s, none)
  else
    match s.laneChan b l with
    | none => (s, none)
    | some c =>
      let (s, n) := s.newWindow b l c ser start frame phase
      (s, some n)

/-- Put a play at the end of its voice's queue and number it. -/
def State.pushPlay (s : State) (b l voice : Nat) (p : Play) : State :=
  s.onLane b l fun x =>
    { (x.setQueue voice (x.queue voice ++ [p])) with
      ser := x.ser + 1, lastWin := if p.win.isSome then p.win else x.lastWin }

/-- A cursor counted on: 64 bits (R139). -/
def cursorAdd (c n : Nat) : Nat := (c + n) % 2 ^ 64

/-- A play is issued (R151): its descriptor is checked on a directory-cache hit and awaited on a miss (R115, R121). -/
def State.enterPlay (s : State) (b l : Nat) (a : PlayArgs) (start : Nat) : State × Play :=
  let ser := (s.lane b l).ser
  let (s, win) := s.playWindow b l ser start a.frame a.phase a.win
  let hit := (s.loom b).dir.any fun e => e.seg == a.seg
  let ws := s.segWords a.seg
  let (s, d) :=
    if hit then (s.dirTouch b a.seg).descReaches b l a.voice a.seg ser ws a.aliasOk
    else (s.dirMiss b a.seg, .awaited)
  let len := if hit then dPlay ws else 0
  let p : Play := {
    ser := ser, start := start, len := len, seg := a.seg, amp := a.amp, frame := a.frame, phase := a.phase
    win := win, issued := s.clk.time, desc := d, aliasOk := a.aliasOk, ends := start + len }
  (s.pushPlay b l a.voice p, p)

/-- The PLAY or PLAYX at the lane's PC is executed (R142, R151, R153): it waits for a queue entry, or is issued, and
with ADV and a directory miss the sequencer waits for the descriptor. -/
def State.issuePlay (s : State) (b l w : Nat) : State :=
  let s := s.pruneLane b l
  let a := s.playArgs b l w
  if 8 ≤ ((s.lane b l).queue a.voice).length then s.onLane b l fun x => { x with stall := .queue a.voice }
  else
    let start := cursorAdd (s.lane b l).cursor a.ofs
    let (s, p) := s.enterPlay b l a start
    let waits := a.adv && p.desc == .awaited
    s.onLane b l fun x =>
      { x with
        pc := (x.pc + 1) % 32768
        next := s.clk.time + 4
        cursor := if a.adv && !waits then cursorAdd start p.len else x.cursor
        stall := if waits then .descriptor a.seg else .none_ }

/-- Plays, frame updates and marks are taken back (R156, R161, R171): windows of theirs that have not opened are
discarded with them (R205). -/
def State.discard (s : State) (b l : Nat) (play : Play → Bool) (frm : FrameUpd → Bool) (mrk : MarkUpd → Bool) : State :=
  let dead := ((s.lane b l).allPlays.filter play).filterMap (·.win)
  let s := s.onLane b l fun x =>
    { (x.keepPlays fun p => !play p) with
      frames := x.frames.filter fun f => !frm f, marks := x.marks.filter fun m => !mrk m }
  let s := match s.laneChan b l with
    | none => s
    | some c => if dead.isEmpty then s else
      s.onChan b c fun x => { x with wins := x.wins.filter fun w => w.opened || w.lane != l || !dead.contains w.ser }
  s.tidyStreams b l

/-! ### The start tick -/

/-- The unstarted play of a queue that comes due first: the earliest start, and of equal starts the latest issue, which
keeps the others from playing (R152). -/
def duePlay (time : Nat) (q : List Play) : Option Play :=
  (q.filter fun p => !p.started && decide (p.start ≤ time)).foldl (fun a p =>
    match a with
    | none => some p
    | some c => if p.start < c.start || (p.start = c.start && c.ser < p.ser) then some p else a) none

/-- A play governs its voice from its start tick (R152): earlier-issued plays in progress end there, and those that
start there or later do not play. One that still awaits its descriptor is cut when that arrives. Where the outputs are
parked the play is not heard (R196). -/
def cutBy (p : Play) (parked : Bool) (q : List Play) : List Play :=
  (q.filter fun x => !(decide (x.ser < p.ser) && !x.started && decide (p.start ≤ x.start))).map fun x =>
    if x.ser < p.ser && x.started then
      if x.desc == .awaited then { x with cut := some ((x.cut.map (min p.start)).getD p.start) }
      else { x with ends := min x.ends p.start }
    else if x.ser = p.ser then { x with started := true, last := if parked then some 0 else x.last }
    else x

/-- What a play that starts does at its output chain (R175). -/
def State.playChain (s : State) (b l voice : Nat) (p : Play) : State :=
  match s.voiceUnit b l voice with
  | none => s
  | some u => if voice = 2 then s else s.bandCheck b u p.frame ((s.tone b u).fwAt s.clk.time)

/-- PLAY_START_TICK (R115, R152, R157): the play that comes due on a voice governs it from its start tick. -/
def playStartTick (b l voice : Nat) (s : State) : State :=
  let x := s.lane b l
  if x.st == .stopping then s
  else
    match duePlay s.clk.time (x.queue voice) with
    | none => s
    | some p =>
      let old := x.queue voice
      let new := cutBy p s.out.parked old
      let cut := decide (new.length < old.length) || old.any fun o =>
        decide (o.ser < p.ser) && o.started && o.desc != .awaited && decide (p.start < o.ends)
      let s := s.onLane b l fun x => x.setQueue voice new
      let s := if cut then s.laneFlag b l Fd.LOOM_LANE_FLAGS_OVERLAP else s
      let s := if p.desc == .awaited || decide (p.start < p.issued + 126) then
          (s.laneLate b l).lanePoison b l 2 voice
        else s
      let s := s.descReport b l p
      (s.playChain b l voice p).tidyStreams b l

/-- PLAY_START_TICK (R152). -/
def execPlayStartTick (b : Fin 8) (l : Fin 32) (voice : Fin 3) (s : State) : Host.Outcome State Fault Refusal :=
  whenPowered s (playStartTick b l voice)

end Sys2Proof.Machine
end

