-- ==== Sys2Proof/Machine/Branch.lean ====
section
/-!
DEFINITION. Branches (06): the head scan and render slots (R162, R163, R167), WAITD and BR (R158 to R166), and the
commit (R161, R166).
-/
namespace Sys2Proof.Machine

/-! ### Sources -/

/-- The branch is a WAITD. -/
def Branch.isWaitd (br : Branch) : Bool := liOp br.word == 5
/-- The branch is a WAITD in ASAP mode. -/
def Branch.isAsap (br : Branch) : Bool := br.isWaitd && liAsap br.word

/-- The decision of a window and its settle tick (R158), once it is present. -/
def State.winKnown (s : State) (b c ser : Nat) : Option (Nat × Nat) :=
  (((s.chan b c).wins.find? fun w => w.ser == ser).bind (·.decided)).map fun d => (d.1 + 3, d.2)

/-- The window that SRC 1 names (R144): on channel `c`, the one whose play starts latest not after the cursor. -/
def State.chanWindow (s : State) (b c cursor : Nat) : Option Nat :=
  (((s.chan b c).wins.filter fun w => decide (w.start ≤ cursor)).foldl (fun a w =>
    match a with
    | none => some w
    | some v => if v.start ≤ w.start then some w else a) none).map (·.ser)

/-- The action of a lookup tag that is present at the lanes (R144 SRC 3): its settle tick and ALT. -/
def State.tagKnown (s : State) (b t : Nat) : Option (Nat × Nat) :=
  let x := s.tag b t
  if x.st == .done && decide (x.actTick ≤ s.clk.time) then some (x.actTick + 3, x.act % 16) else none

/-- The lane's last window, as channel and serial (R144 SRC 0). -/
def State.ownWindow (s : State) (b l : Nat) : Option (Nat × Nat) :=
  match s.laneChan b l, (s.lane b l).lastWin with
  | some c, some n => some (c, n)
  | _, _ => none

/-- What is known of a pending branch's source: its settle tick and value (R144, R145, R158). -/
def State.branchKnown (s : State) (b l : Nat) (br : Branch) : Option (Nat × Nat) :=
  let own := br.window.bind fun w => s.winKnown b w.1 w.2
  if br.isWaitd then
    match liSrc br.word with
    | 0 => own
    | 1 =>
      let c := liSel br.word % 32
      (s.chanWindow b c br.chk.cursor).bind fun n => s.winKnown b c n
    | 2 => (NMap.get (fun _ => none) (s.lane b l).gds (liSel br.word)).map fun p => (p.1 + 5, p.2)
    | _ => br.settled
  else if liCond br.word = 5 then own
  else br.settled

/-- The alternative a value selects (R142 KSEL). -/
def waitdIndex (w v : Nat) : Nat := v % liAlts w

/-- The word that DR takes of a value (R146). -/
def drOf (w v : Nat) : Nat := if liSrc w = 0 || liSrc w = 1 then v % 4096 else if liSrc w = 2 then v % 2 else v % 16

/-- The condition of a BR on a value of its pending source or of DR (R145), NEG applied. -/
def condOn (w v : Nat) : Bool :=
  let raw := match liCond w with
    | 1 => bitAt v (liBsel w % 16)
    | 2 => cmpNat (liCmp w) (dwConf v) (liImm w % 64)
    | 5 => bitAt v (liBsel w % 16)
    | _ => cmpNat (liCmp w) v (liImm w % 16)
  raw != liNeg w

/-- The condition of a BR that is resolved by what the lane holds (R145 COND 0, 3, 4), NEG applied. -/
def State.condNow (s : State) (b l w : Nat) : Bool :=
  let raw := match liCond w with
    | 3 => cmpInt (liCmp w) (sext 32 (s.vreg b l (liBsel w % 8))) (sext 20 (liImm w))
    | 4 => cmpNat (liCmp w) (((s.lane b l).loops.getD (liBsel w % 4) (0, 0)).2) (liImm w)
    | _ => true
  raw != liNeg w

/-- The value of a live source at the commit point (R145 COND 6, 7), NEG applied. -/
def State.condLive (s : State) (b l w : Nat) : Bool :=
  (if liCond w = 6 then s.gdsSeen (liBsel w) else (s.lane b l).event) != liNeg w

/-! ### Heads, slots and stages -/

/-- Scan the head of one alternative (R162): ticks count from the boundary. A descriptor that the directory cache lacks is
read first (R121). -/
def State.scanHead (s : State) (b l : Nat) : Nat → Head → Head
  | 0, h => h
  | n + 1, h =>
    let w := s.laneWord b l h.endPc
    match liOp w with
    | 3 =>
      s.scanHead b l n { h with
        endPc := h.endPc + 1
        endCursor := h.endCursor + (if liUsev w then s.vreg b l (liVreg w) else liValue w) }
    | 4 =>
      s.scanHead b l n { h with
        endPc := h.endPc + 1
        frames := h.frames ++ [{
          ser := 0, at_ := h.endCursor + liOfsF w, voice := liVoice w, frm := liFrm w, freq := liKind w,
          add := liFAdd w, value := if liFUsev w then s.vreg b l (liFVreg w) else liValue w }] }
    | 6 =>
      if liCond w = 0 then s.scanHead b l n { h with endPc := if liNeg w then h.endPc + 1 else liTgt w } else h
    | op =>
      if op = 1 || op = 2 then
        let a := s.playArgs b l w
        let start := h.endCursor + a.ofs
        if 128 ≤ start then h
        else
          let ws := s.segWords a.seg
          let p : Play := {
            ser := 0, start := start, len := dPlay ws, seg := a.seg, amp := a.amp, frame := a.frame
            phase := a.phase, win := if a.win then some 0 else none, issued := 0
            desc := s.descState b a.voice a.seg ws a.aliasOk, aliasOk := a.aliasOk, ends := start + dPlay ws }
          let h := { h with
            endPc := h.endPc + 1
            plays := h.plays ++ [(a.voice, p)]
            endCursor := if a.adv then start + dPlay ws else h.endCursor }
          if 4 ≤ (h.plays.filter fun e => e.1 == a.voice).length then h else s.scanHead b l n h
      else h

/-- The head of the alternative at an address. -/
def State.headAt (s : State) (b l alt target : Nat) : Head :=
  s.scanHead b l 16 { alt := alt, target := target, endPc := target }

/-- The voices on which a head plays before B + 64: each takes a render slot (R163). -/
def Head.slots (h : Head) : Nat := h.slotSegs.length

/-- The start addresses staged on a voice by a list of heads (R162: heads at one address share a stage buffer). -/
def stageTargets (hs : List Head) (v : Nat) : List Nat :=
  ((hs.filter fun h => h.plays.any fun e => e.1 == v).map (·.target)).eraseDups

/-- Reserved and pool slots that a lane holds at a tick: those of its pending branches and those a commit has not given
back by then. -/
def Lane.slotsHeld (x : Lane) (time : Nat) : Nat × Nat :=
  let rel := x.slots.filter fun e => decide (time ≤ e.at_)
  (x.branches.foldl (fun n br => n + br.resHeld) 0 + rel.foldl (fun n e => n + e.res) 0,
    x.branches.foldl (fun n br => n + br.poolHeld) 0 + rel.foldl (fun n e => n + e.pool) 0)

/-- Reserved slots of a lane that can be granted at the present tick (R167, R320). -/
def State.resFree (s : State) (b l : Nat) : Nat :=
  s.fld (R.LOOM_LANE_SLOTS b l) Fd.LOOM_LANE_SLOTS_RES - ((s.lane b l).slotsHeld s.clk.time).1

/-- Pool slots of a Bench that are free at a tick. -/
def State.poolFreeAt (s : State) (b time : Nat) : Nat :=
  s.fld (R.LOOM_SLOT_POOL b) Fd.LOOM_SLOT_POOL_SIZE -
    (List.range 32).foldl (fun n l => n + ((s.lane b l).slotsHeld time).2) 0

/-- Pool slots of a Bench that can be granted at the present tick: what returns at a tick is granted from the next on
(R320). -/
def State.poolFree (s : State) (b : Nat) : Nat := s.poolFreeAt b s.clk.time

/-- The stage buffers of a voice of a lane that the heads of pending branches and those not yet given back hold. -/
def Lane.stagesHeld (x : Lane) (time : Nat) (hs : List Head) (v : Nat) : Nat :=
  (stageTargets (((x.branches.filter fun br => br.stage != .none_).flatMap (·.heads)) ++ hs) v).length +
    (((x.stages.filter fun e => decide (time ≤ e.at_)).flatMap (·.bufs)).filter fun e => e.1 == v).length

/-- The checkpoint of a lane at the branch instruction it executes (R160). -/
def State.checkpoint (s : State) (b l : Nat) : Checkpoint :=
  let x := s.lane b l
  { pc := x.pc, cursor := x.cursor, v := (List.range 8).map (s.vreg b l), dr := x.dr, loops := x.loops
    lastWin := x.lastWin }

/-- The descriptors of a head's plays that the directory cache lacks are read (R121). -/
def State.headMisses (s : State) (b : Nat) (h : Head) : State :=
  foldAll (fun s (e : Nat × Play) =>
    if (s.loom b).dir.any fun d => d.seg == e.2.seg then s.dirTouch b e.2.seg else s.dirMiss b e.2.seg) s h.plays

/-- A branch becomes pending (R160, R162, R163, R167): its alternatives' heads are scanned; every slot they need is
sought, from the reservation and then from the pool, all or none; then staging begins where stage buffers are free, and
a branch that cannot be staged holds no slot. -/
def State.addBranch (s : State) (b l word bnd : Nat) (alts : List (Nat × Nat)) (stages : Bool) (onWaitd : Option Nat) :
    State :=
  let x := s.lane b l
  let heads := alts.map fun e => s.headAt b l e.1 e.2
  let sought := stages && !alts.isEmpty
  let need := if sought then heads.foldl (fun n h => n + h.slots) 0 else 0
  let res := min need (s.resFree b l)
  let granted := decide (need ≤ res + s.poolFree b)
  let fits := sought && (List.range 3).all fun v => decide (x.stagesHeld s.clk.time heads v ≤ 4)
  let hot := fits && granted
  let br : Branch := {
    ser := x.ser, word := word, pc := x.pc, bnd := bnd, chk := s.checkpoint b l, heads := heads
    stage := if fits then .staging (s.clk.time + 86) else .none_
    resHeld := if hot then res else 0, poolHeld := if hot then need - res else 0, hot := hot
    window := s.ownWindow b l, onWaitd := onWaitd }
  let s := if granted then s else s.satAdd (R.LOOM_SLOT_POOL b) Fd.LOOM_SLOT_POOL_DENIED 1
  let s := if fits then foldAll (fun s h => s.headMisses b h) s heads else s
  s.onLane b l fun x => { x with branches := x.branches ++ [br], ser := x.ser + 1 }

/-! ### Execution -/

/-- Lane instructions that a Bench has executed in the present tick (R140). -/
def State.executed (s : State) (b : Nat) : Nat :=
  let e := (s.loom b).execAt
  if e.1 = s.clk.time + 1 then e.2 else 0

/-- One more lane instruction is executed in the present tick. -/
def State.counted (s : State) (b : Nat) : State :=
  s.onLoom b fun x => { x with execAt := (s.clk.time + 1, s.executed b + 1) }

/-- The instruction at the PC, if the lane executes one with this opcode now (R140, R151, R153): at most 8 are executed
per tick in a Bench. -/
def State.laneInstr (s : State) (b l op : Nat) : Option Nat :=
  let x := s.lane b l
  let w := s.laneWord b l x.pc
  if x.st == .issuing && x.stall == .none_ && decide (x.next ≤ s.clk.time) && decide (s.executed b < 8) &&
    liOp w == op then some w else none

/-- The lane executes the instruction at its PC, where it has this opcode and can be executed now. -/
def State.withInstr (s : State) (b l op : Nat) (f : State → Nat → State) : State :=
  match s.laneInstr b l op with
  | none => s
  | some w => f (s.counted b) w

/-- Continue at an offset, at most one instruction per 4 ticks (R140). -/
def State.goTo (s : State) (b l pc : Nat) : State :=
  s.onLane b l fun x => { x with pc := pc % 32768, next := s.clk.time + 4 }

/-- The sequencer waits (R160, R166). -/
def State.laneWait (s : State) (b l : Nat) : State := s.onLane b l fun x => { x with st := .wait, since := s.clk.time }

/-- The target of alternative `k` of the dispatch table after a WAITD (R143). -/
def State.altTarget (s : State) (b l pc k : Nat) : Nat := liTgt (s.laneWord b l (pc + 1 + k))

/-- The commit of a WAITD gives DR its word, also to what later branches would restore (R146). -/
def State.setDr (s : State) (b l dr : Nat) : State :=
  s.onLane b l fun x =>
    { x with dr := dr, branches := x.branches.map fun br => { br with chk := { br.chk with dr := dr } } }

/-- A branch executed too late takes its default without evaluation (R164). -/
def State.tooLate (s : State) (b l : Nat) : State := (s.laneVoid b l).laneLate b l

/-- The ASAP record (R166, R369). -/
def State.asapRec (s : State) (b l bnd alt : Nat) (hot void_ : Bool) : State :=
  s.offer (3 * b) (srcOf b l 0 0) 0x05 1 s.clk.time [(0, 8, bnd), (8, 1, alt + 16 * bit hot + 32 * bit void_)]

/-- A WAITD follows an alternative from boundary `bnd` on, with the word that DR takes. -/
def State.waitdGo (s : State) (b l w bnd alt dr : Nat) : State :=
  let pc := (s.lane b l).pc
  let s := s.onLane b l fun x => { x with dr := dr, cursor := bnd }
  s.goTo b l (s.altTarget b l pc (alt % liAlts w))

/-- What a WAITD executed now already knows (R158). -/
def State.waitdKnown (s : State) (b l w : Nat) : Option (Nat × Nat) :=
  let probe : Branch := {
    ser := 0, word := w, pc := 0, bnd := 0, chk := s.checkpoint b l, heads := [], stage := .none_
    window := s.ownWindow b l, settled := s.tagKnown b (liSel w % 256) }
  s.branchKnown b l probe

/-- A WAITD in FIXED mode (R158, R160, R164, R165). -/
def State.waitdFixed (s : State) (b l w : Nat) : State :=
  let x := s.lane b l
  let bnd := cursorAdd x.cursor (liDl w)
  match (s.waitdKnown b l w).filter fun k => decide (k.1 ≤ s.clk.time) with
  | some (_, v) => s.waitdGo b l w bnd (waitdIndex w v) (drOf w v)
  | none =>
    if 8 ≤ x.branches.length then s.laneWait b l
    else if bnd < s.clk.time + 126 then (s.tooLate b l).waitdGo b l w bnd (liDef w) voidWord
    else
      let n := liAlts w
      let alts := (List.range (min n 4)).filter (· != liDef w)
      let known := s.waitdKnown b l w
      let s := s.addBranch b l w bnd (alts.map fun k => (k, s.altTarget b l x.pc k)) (decide (n ≤ 4)) none
      let s := s.onLane b l fun y =>
        { y with
          cursor := bnd
          branches := y.branches.map fun br =>
            if br.ser = x.ser && liSrc w = 3 then { br with settled := known } else br }
      s.goTo b l (s.altTarget b l x.pc (liDef w))

/-- A WAITD in ASAP mode (R160, R166). -/
def State.waitdAsap (s : State) (b l w : Nat) : State :=
  let x := s.lane b l
  if !x.branches.isEmpty then s.laneWait b l
  else if x.cursor < s.clk.time + 126 then
    let bnd := cursorAdd x.cursor (liDl w)
    ((s.tooLate b l).asapRec b l bnd (liDef w) false true).waitdGo b l w bnd (liDef w) voidWord
  else
    match (s.waitdKnown b l w).filter fun k => decide (k.1 ≤ s.clk.time) with
    | some (_, v) =>
      (s.asapRec b l x.cursor (waitdIndex w v) false false).waitdGo b l w x.cursor (waitdIndex w v) (drOf w v)
    | none =>
      let n := liAlts w
      let alts := if n ≤ 4 then List.range n else []
      let known := s.waitdKnown b l w
      let s := s.addBranch b l w (cursorAdd x.cursor (liDl w)) (alts.map fun k => (k, s.altTarget b l x.pc k)) true none
      (s.onLane b l fun y =>
        { y with branches := y.branches.map fun br =>
            if br.ser = x.ser && liSrc w = 3 then { br with settled := known } else br }).laneWait b l

/-- WAITD (R165). -/
def waitd (b l : Nat) (s : State) : State :=
  s.withInstr b l 5 fun s w => if liAsap w then s.waitdAsap b l w else s.waitdFixed b l w

/-- WAITD (R165). -/
def execWaitd (b : Fin 8) (l : Fin 32) (s : State) : Host.Outcome State Fault Refusal := whenPowered s (waitd b l)

/-- A BR goes its way: taken or not. -/
def State.brGo (s : State) (b l w : Nat) (taken : Bool) : State :=
  s.goTo b l (if taken then liTgt w else (s.lane b l).pc + 1)

/-- A BR whose source is not known when it is executed (R158, R160, R164). -/
def State.brPend (s : State) (b l w : Nat) (onWaitd : Option Nat) (known : Option (Nat × Nat)) : State :=
  let x := s.lane b l
  if 8 ≤ x.branches.length then s.laneWait b l
  else if x.cursor < s.clk.time + 126 then (s.tooLate b l).brGo b l w (liDeft w)
  else
    let alt := if liDeft w then (0, x.pc + 1) else (1, liTgt w)
    let s := s.addBranch b l w x.cursor [alt] true onWaitd
    (s.onLane b l fun y =>
      { y with branches := y.branches.map fun br =>
          if br.ser = x.ser then { br with settled := known } else br }).brGo b l w (liDeft w)

/-- The pending WAITD that governs a BR on DR: the latest (R146). -/
def Lane.pendingWaitd (x : Lane) : Option Nat := ((x.branches.filter (·.isWaitd)).getLast?).map (·.ser)

/-- BR (R145, R146, R158). -/
def br (b l : Nat) (s : State) : State :=
  s.withInstr b l 6 fun s w =>
    let now := fun (k : Option (Nat × Nat)) =>
      match k.filter fun k => decide (k.1 ≤ s.clk.time) with
      | some (_, v) => s.brGo b l w (condOn w v)
      | none => s.brPend b l w none (if liCond w = 8 then k else none)
    match liCond w with
    | 1 | 2 =>
      match (s.lane b l).pendingWaitd with
      | some n => s.brPend b l w (some n) none
      | none => s.brGo b l w (condOn w (s.lane b l).dr)
    | 5 => now ((s.ownWindow b l).bind fun p => s.winKnown b p.1 p.2)
    | 8 => now (s.tagKnown b (liBsel w % 256))
    | 6 | 7 => s.brPend b l w none none
    | _ => s.brGo b l w (s.condNow b l w)

/-- BR (R158). -/
def execBr (b : Fin 8) (l : Fin 32) (s : State) : Host.Outcome State Fault Refusal := whenPowered s (br b l)

/-- The granules of a play that its ticks before B + 128 need, the play's start tick counting from B (R162). -/
def headGranules (p : Play) (ws : List Nat) (voice : Nat) (d : Int) : List Nat :=
  let n := (min p.len (128 - p.start)) * spt voice - 1
  let top := ((position (dStep ws) voice d n + 8) / 16 + 1).toNat
  if dLoopable ws then List.range (dLen ws) else List.range (min (dLen ws) top)

/-- A play of a head with its descriptor and its granules in the stage buffer (R162): from the resident copy, else from
waveform memory, where a unit that decodes as a UE gives nothing. -/
def State.stagePlay (s : State) (b l voice : Nat) (p : Play) : Play :=
  let ws := s.segWords p.seg
  let desc := s.descState b voice p.seg ws p.aliasOk
  match desc with
  | .good ws =>
    let res := if s.residentIn b p.seg ws then some (NMap.get (fun _ => 0) (s.loom b).residents p.seg) else none
    { p with
      desc := desc
      pre := foldAll (fun m g =>
        let a := dAddr ws + g * dGran ws
        match res with
        | some r => NMap.set (fun _ => 0) m g (bitsOf r (8 * dGran ws * g) (8 * dGran ws) + 1)
        | none => if (s.badUnits a (dGran ws)).isEmpty then NMap.set (fun _ => 0) m g (s.memNat a (dGran ws) + 1) else m)
        [] (headGranules p ws voice (s.voiceDelay b l voice)) }
  | _ => { p with desc := desc }

/-- The heads of a staging branch can be staged now: no descriptor of theirs is still awaited (R121, R162). -/
def State.stageable (s : State) (b : Nat) (br : Branch) : Bool :=
  (match br.stage with
    | .staging _ => true
    | _ => false) &&
    br.heads.all fun h => h.plays.all fun e => !(s.loom b).misses.any fun m => m.seg == e.2.seg

/-- STAGE_DONE (R162): the Loom has read the descriptors and stored samples of the heads of the oldest branch that was
being staged. -/
def stageDone (b l : Nat) (s : State) : State :=
  match (s.lane b l).branches.find? (s.stageable b) with
  | none => s
  | some d =>
    let heads := d.heads.map fun h => { h with plays := h.plays.map fun e => (e.1, s.stagePlay b l e.1 e.2) }
    s.onLane b l fun x =>
      { x with branches := x.branches.map fun br =>
          if br.ser = d.ser then { br with stage := .staged, heads := heads } else br }

/-- STAGE_DONE (R162). -/
def execStageDone (b : Fin 8) (l : Fin 32) (s : State) : Host.Outcome State Fault Refusal := whenPowered s (stageDone b l)

/-! ### The commit -/

/-- What R102 adds to every commit lead of a lane: the largest of its outputs. -/
def State.laneLead (s : State) (b l : Nat) : Nat :=
  (List.range 3).foldl (fun n v =>
    if (s.voiceUnit b l v).isSome then max n (s.leadExtra (s.voiceOut b l v)) else n) 0

/-- The commit lead L (R159). -/
def Branch.lead (br : Branch) (extra : Nat) : Nat :=
  (if br.stage == .none_ then 126 else if br.hot then 6 else if br.isAsap then 126 else 40) + extra

/-- The branch is hot at its commit (R159): slots and stages are there. -/
def Branch.isHot (br : Branch) : Bool := br.hot && br.stage == .staged

/-- The next play of a chosen head enters its voice's queue (R161). -/
def State.enterHeadPlay (s : State) (b l voice : Nat) (p : Play) : State :=
  let ser := (s.lane b l).ser
  let (s, win) := s.playWindow b l ser p.start p.frame p.phase p.win.isSome
  let (s, d) :=
    if p.desc == .awaited then
      if (s.loom b).dir.any fun e => e.seg == p.seg then
        (s.dirTouch b p.seg).descReaches b l voice p.seg ser (s.segWords p.seg) p.aliasOk
      else (s.dirMiss b p.seg, .awaited)
    else s.seekFor b l voice p.seg ser p.desc
  let len := if d == .awaited then 0 else dPlay (s.segWords p.seg)
  s.pushPlay b l voice { p with ser := ser, win := win, desc := d, len := len, ends := p.start + len }

/-- Plays of a chosen head enter the queues in order, as their entries free (R161); the sequencer goes on once all
have. -/
def State.enterHeads (s : State) (b l : Nat) : Nat → State
  | 0 => s
  | n + 1 =>
    match (s.lane b l).headQ with
    | [] => s.onLane b l fun x => { x with stall := if x.stall == .head then .none_ else x.stall }
    | (v, p) :: rest =>
      if 8 ≤ ((s.lane b l).queue v).length then s
      else ((s.onLane b l fun x => { x with headQ := rest }).enterHeadPlay b l v p).enterHeads b l n

/-- A chosen head enters the play queues and frame updates with the boundary known (R161, R163): a staged one was rendered
ahead, so it is not late; the plays of one that was not are issued now. -/
def State.enterHead (s : State) (b l bnd : Nat) (staged : Bool) (h : Head) : State :=
  let s := s.pruneLane b l
  let now := s.clk.time
  let ps := h.plays.map fun e =>
    let start := cursorAdd bnd e.2.start
    (e.1, { e.2 with
      start := start, ends := start + e.2.len, issued := if staged then min now (start - 126) else now
      desc := if staged then e.2.desc else .awaited, pre := if staged then e.2.pre else [] })
  let s := s.onLane b l fun x => { x with headQ := x.headQ ++ ps, stall := .head }
  let s := s.enterHeads b l (ps.length + 1)
  foldAll (fun s f => s.onLane b l fun x =>
    { x with frames := x.frames ++ [{ f with ser := x.ser, at_ := cursorAdd bnd f.at_ }], ser := x.ser + 1 }) s h.frames

/-- The slots of a branch as a commit leaves them (R167): those of the chosen head stay held until B + 64, reserved ones
first; the others return at the commit. -/
def Branch.slotsLeft (br : Branch) (bnd time : Nat) (h : Option Head) : List SlotRel :=
  let segs := ((h.map (·.slotSegs)).getD []).flatten
  let n := (h.map (·.slots)).getD 0
  let r := min n br.resHeld
  let keep : List SlotRel := if br.hot && n != 0 then [{ at_ := bnd + 64, res := r, pool := n - r, segs := segs }] else []
  let r := if br.hot then r else 0
  let p := if br.hot then n - r else 0
  let back : List SlotRel := if r < br.resHeld || p < br.poolHeld then
    [{ at_ := time, res := br.resHeld - r, pool := br.poolHeld - p }] else []
  keep ++ back

/-- The stage buffers of a branch as a commit leaves them (R163, R164): those of the chosen head stay held until B + 128;
the others return at the commit. -/
def Branch.stagesLeft (br : Branch) (bnd time : Nat) (h : Option Head) : List StageRel :=
  if br.stage == .none_ then []
  else
    let kept := (h.map (·.stageSegs)).getD []
    let all := (oneByTarget br.heads).flatMap (·.stageSegs)
    let back := (List.range 3).flatMap fun v =>
      List.replicate ((all.filter fun e => e.1 == v).length - (kept.filter fun e => e.1 == v).length) (v, ([] : List Nat))
    (if kept.isEmpty then [] else [{ at_ := bnd + 128, bufs := kept }]) ++
      (if back.isEmpty then [] else [{ at_ := time, bufs := back }])

/-- Slots and stages of a branch go back, but for those of the chosen head. -/
def State.giveBack (s : State) (b l bnd : Nat) (br : Branch) (h : Option Head) : State :=
  s.onLane b l fun x =>
    { x with slots := x.slots ++ br.slotsLeft bnd s.clk.time h, stages := x.stages ++ br.stagesLeft bnd s.clk.time h }

/-- The lane goes on after a commit, unless it was stopped. -/
def Lane.resume (x : Lane) (time : Nat) : Lane :=
  if x.st == .wait then { x with st := .issuing, since := time, next := max x.next time } else x

/-- The sequencer goes on with an alternative from boundary `bnd` (R161, R166): its head enters the queues, from the stage
where it was staged, and the sequencer resumes where the head's scan ended. -/
def State.follow (s : State) (b l bnd : Nat) (br : Branch) (alt target : Nat) : State :=
  let staged := br.stage == .staged && (!br.isAsap || br.isHot)
  let found := br.heads.find? fun h => h.alt == alt
  let s := s.giveBack b l bnd br (if staged then found else none)
  if (s.lane b l).st == .done then s
  else
    let h := match found with
      | some h => h
      | none => s.headAt b l alt target
    let s := s.onLane b l fun x => { x.resume s.clk.time with stall := .none_, next := s.clk.time }
    (s.enterHead b l bnd staged h).onLane b l fun x =>
      { x with pc := h.endPc % 32768, cursor := cursorAdd bnd h.endCursor }

/-- Restore a checkpoint (R160, R161). -/
def State.restore (s : State) (b l : Nat) (k : Checkpoint) : State :=
  let s := foldAll (fun s r => s.setReg (R.LOOM_LANE_V b l r) (BitVec.ofNat 32 (k.v.getD r 0))) s (List.range 8)
  let v0 := R.LOOM_LANE_V b l 0
  let s : State := { s with recent := NMap.erase (fun o => decide (v0 ≤ o) && decide (o < v0 + 32)) s.recent }
  s.onLane b l fun x => { x with pc := k.pc, cursor := k.cursor, dr := k.dr, loops := k.loops, lastWin := k.lastWin }

/-- A commit whose alternative is not the default (R161): what was issued on the default path is discarded, the
checkpoint restored and the alternative followed. -/
def State.turn (s : State) (b l : Nat) (br : Branch) (dr alt : Nat) : State :=
  let s := s.discard b l (fun p => decide (br.ser < p.ser)) (fun f => decide (br.ser < f.ser))
    (fun m => decide (br.ser < m.ser))
  let later := (s.lane b l).branches
  let s := foldAll (fun s br => s.giveBack b l br.bnd br none) s later
  let s := (s.restore b l { br.chk with dr := dr }).onLane b l fun x => { x with branches := [], headQ := [] }
  let target := if br.isWaitd then s.altTarget b l br.pc alt else if alt = 1 then liTgt br.word else br.pc + 1
  s.follow b l br.bnd br alt target

/-- The outcome of a FIXED or BR commit (R161): alternative (1 for taken), and whether the default was taken for want
of a decision. -/
def State.outcome (s : State) (b l : Nat) (br : Branch) (cp : Nat) : Nat × Bool × Option Nat :=
  let known := (s.branchKnown b l br).filter fun k => decide (k.1 ≤ cp)
  if br.isWaitd then
    match known with
    | some (_, v) => (waitdIndex br.word v, false, some (drOf br.word v))
    | none => (liDef br.word, true, some voidWord)
  else if liCond br.word = 6 || liCond br.word = 7 then (bit (s.condLive b l br.word), false, none)
  else
    match known with
    | some (_, v) => (bit (condOn br.word v), false, none)
    | none => (bit (liDeft br.word), true, none)

/-- A live source whose branch was not taken is watched until the boundary (R168): a mirror bit that has been written and is
not yet visible changes after the commit point. A branch taken on the event latch clears it (R161). -/
def State.liveAfter (s : State) (b l : Nat) (br : Branch) (taken : Bool) : State :=
  let c := liCond br.word
  if br.isWaitd || !(c == 6 || c == 7) then s
  else if taken then
    (if c = 7 && (s.lane b l).event then
      (s.onLane b l fun x => { x with event := false }).lateJump b l 7 0 s.clk.time false
    else s)
  else
    let sel := if c = 6 then liBsel br.word else 0
    let want := !liNeg br.word
    let s := s.onLane b l fun x =>
      { x with watches := x.watches ++ [{ cond := c, sel := sel, want := want, bnd := br.bnd }] }
    if c = 6 && NMap.get (fun _ => false) s.dec.mirror sel == want then
      s.lateJump b l 6 sel (((NMap.get (fun _ => []) s.dec.mirrorSet sel).headD 0) + 2) want
    else s

/-- The commit of the oldest branch in FIXED mode or of a BR (R159, R161, R165). -/
def State.commitFixed (s : State) (b l : Nat) (br : Branch) (rest : List Branch) : State :=
  let cp := br.bnd - br.lead (s.laneLead b l)
  if s.clk.time < cp then s
  else
    let (alt, void_, dr) := s.outcome b l br cp
    let dflt := if br.isWaitd then liDef br.word else bit (liDeft br.word)
    let s := if void_ then s.laneVoid b l else s
    let s := if br.isHot then s else s.laneCold b l
    let rest := match dr with
      | some d => rest.map fun r => if r.onWaitd == some br.ser then { r with settled := some (cp, d) } else r
      | none => rest
    let s := s.onLane b l fun x => { x with branches := rest }
    let s := match dr with
      | some d => s.setDr b l d
      | none => s
    let s := s.liveAfter b l br (alt == 1)
    if alt = dflt then (s.giveBack b l br.bnd br none).onLane b l fun x => x.resume s.clk.time
    else s.turn b l br (dr.getD br.chk.dr) alt

/-- The commit of a WAITD in ASAP mode (R166): at the settle tick or B − L, or the default at C + DL − L. -/
def State.commitAsap (s : State) (b l : Nat) (br : Branch) : State :=
  let lead := br.lead (s.laneLead b l)
  let c := br.chk.cursor
  let last := br.bnd - lead
  let known := (s.branchKnown b l br).filter fun k => decide (k.1 ≤ last)
  let go := fun (alt bnd dr : Nat) (void_ : Bool) =>
    let s := if void_ then s.laneVoid b l else s
    let s := if br.isHot then s else s.laneCold b l
    let s := s.asapRec b l bnd alt br.isHot void_
    let s := (s.onLane b l fun x => { x with branches := [] }).setDr b l dr
    s.follow b l bnd br alt (s.altTarget b l br.pc alt)
  match known with
  | some (st, v) =>
    if max (c - lead) st ≤ s.clk.time then go (waitdIndex br.word v) (max c (st + lead)) (drOf br.word v) false else s
  | none => if last ≤ s.clk.time then go (liDef br.word) br.bnd voidWord true else s

/-- BRANCH_COMMIT (R161, R166): the oldest pending branch of a lane reaches its commit point. -/
def branchCommit (b l : Nat) (s : State) : State :=
  let x := s.lane b l
  if x.st == .stopping then s
  else
    match x.branches with
    | [] => s
    | br :: rest => if br.isAsap then s.commitAsap b l br else s.commitFixed b l br rest

/-- BRANCH_COMMIT (R161). -/
def execBranchCommit (b : Fin 8) (l : Fin 32) (s : State) : Host.Outcome State Fault Refusal :=
  whenPowered s (branchCommit b l)

/-- SLOT_RELEASE (R167, R128): slots and stages whose ticks have entered the output chain return, and with them their
references. -/
def slotRelease (b l : Nat) (s : State) : State :=
  let t := s.clk.time
  s.onLane b l fun x =>
    { x with
      slots := (x.slots.filter fun e => decide (t ≤ e.at_)).map fun e => if e.at_ = t then { e with segs := [] } else e
      stages := (x.stages.filter fun e => decide (t ≤ e.at_)).map fun e =>
        if e.at_ = t then { e with bufs := e.bufs.map fun c => (c.1, []) } else e }

/-- SLOT_RELEASE (R167). -/
def execSlotRelease (b : Fin 8) (l : Fin 32) (s : State) : Host.Outcome State Fault Refusal :=
  whenPowered s (slotRelease b l)

end Sys2Proof.Machine
end

