-- ==== Sys2Proof/Machine/Lane.lean ====
section
/-!
DEFINITION. Lane programs (06): the instructions but WAITD and BR (R142, R147 to R155), scheduled effects (R150, R179),
strobes (R156), and the enable, the disable and the end of a lane (R149, R171, R172).
-/
namespace Sys2Proof.Machine

/-- PLAY (R151). -/
def play (b l : Nat) (s : State) : State :=
  s.withInstr b l 1 fun s w => s.issuePlay b l w

/-- PLAY (R151). -/
def execPlay (b : Fin 8) (l : Fin 32) (s : State) : Host.Outcome State Fault Refusal := whenPowered s (play b l)

/-- PLAYX (R142). -/
def playx (b l : Nat) (s : State) : State :=
  s.withInstr b l 2 fun s w => s.issuePlay b l w

/-- PLAYX (R142). -/
def execPlayx (b : Fin 8) (l : Fin 32) (s : State) : Host.Outcome State Fault Refusal := whenPowered s (playx b l)

/-- PLAY_QUEUE_SPACE (R151, R161): a sequencer that waits on a full queue issues its play once an entry is free; plays of
a chosen head enter as their entries free. -/
def playQueueSpace (b l : Nat) (s : State) : State :=
  let s := s.pruneLane b l
  match (s.lane b l).stall with
  | .head => s.enterHeads b l ((s.lane b l).headQ.length + 1)
  | .queue v =>
    if ((s.lane b l).queue v).length < 8 then
      let s := s.onLane b l fun x => { x with stall := .none_ }
      playx b l (play b l s)
    else s
  | _ => s

/-- PLAY_QUEUE_SPACE (R151). -/
def execPlayQueueSpace (b : Fin 8) (l : Fin 32) (s : State) : Host.Outcome State Fault Refusal :=
  whenPowered s (playQueueSpace b l)

/-- IDLE (R142): the cursor advances by N or by a V register. -/
def idle (b l : Nat) (s : State) : State :=
  s.withInstr b l 3 fun s w =>
    let n := if liUsev w then s.vreg b l (liVreg w) else liValue w
    (s.onLane b l fun x => { x with cursor := cursorAdd x.cursor n }).goTo b l ((s.lane b l).pc + 1)

/-- IDLE (R142). -/
def execIdle (b : Fin 8) (l : Fin 32) (s : State) : Host.Outcome State Fault Refusal := whenPowered s (idle b l)

/-- FRAME (R142, R179): a frame update is scheduled at cursor + OFS. -/
def frame (b l : Nat) (s : State) : State :=
  s.withInstr b l 4 fun s w =>
    let value := if liFUsev w then s.vreg b l (liFVreg w) else liValue w
    (s.onLane b l fun x =>
      { x with
        ser := x.ser + 1
        frames := x.frames ++ [{
          ser := x.ser, at_ := cursorAdd x.cursor (liOfsF w), voice := liVoice w, frm := liFrm w, freq := liKind w
          add := liFAdd w, value := value }] }).goTo b l ((s.lane b l).pc + 1)

/-- FRAME (R179). -/
def execFrame (b : Fin 8) (l : Fin 32) (s : State) : Host.Outcome State Fault Refusal := whenPowered s (frame b l)

/-- LOOP (R147): a level is pushed; COUNT 0 encodes 2^20. -/
def loop (b l : Nat) (s : State) : State :=
  s.withInstr b l 7 fun s w =>
    let n := if liUsev w then s.vreg b l (liVreg w) % 0x100000 else liCount w
    (s.onLane b l fun x =>
      { x with loops := (x.pc + 1, if n = 0 then 0x100000 else n) :: x.loops.take 3 }).goTo b l ((s.lane b l).pc + 1)

/-- LOOP (R147). -/
def execLoop (b : Fin 8) (l : Fin 32) (s : State) : Host.Outcome State Fault Refusal := whenPowered s (loop b l)

/-- ENDL (R147): the innermost count decreases; the body is repeated while it is above 0. -/
def endl (b l : Nat) (s : State) : State :=
  s.withInstr b l 8 fun s _ =>
    match (s.lane b l).loops with
    | (body, n) :: outer =>
      if 1 < n then (s.onLane b l fun x => { x with loops := (body, n - 1) :: outer }).goTo b l body
      else (s.onLane b l fun x => { x with loops := outer }).goTo b l ((s.lane b l).pc + 1)
    | [] => s.goTo b l ((s.lane b l).pc + 1)

/-- ENDL (R147). -/
def execEndl (b : Fin 8) (l : Fin 32) (s : State) : Host.Outcome State Fault Refusal := whenPowered s (endl b l)

/-- SYNC (R155, R160): the lane waits for a sync-release strobe; with a branch pending it is not executed. -/
def sync (b l : Nat) (s : State) : State :=
  if !(s.lane b l).branches.isEmpty then s
  else
    s.withInstr b l 9 fun s _ =>
      (s.onLane b l fun x => { x with st := .sync, since := s.clk.time }).goTo b l ((s.lane b l).pc + 1)

/-- SYNC (R155). -/
def execSync (b : Fin 8) (l : Fin 32) (s : State) : Host.Outcome State Fault Refusal := whenPowered s (sync b l)

/-- MARK (R142, R150): a mark is scheduled at cursor + OFS. -/
def mark (b l : Nat) (s : State) : State :=
  s.withInstr b l 10 fun s w =>
    (s.onLane b l fun x =>
      { x with
        ser := x.ser + 1
        marks := x.marks ++ [{
          ser := x.ser, at_ := cursorAdd x.cursor (liOfsF w), tal := liTal w, evt := liEvt w, code := liCode w
          line := liLine w }] }).goTo b l ((s.lane b l).pc + 1)

/-- MARK (R150). -/
def execMark (b : Fin 8) (l : Fin 32) (s : State) : Host.Outcome State Fault Refusal := whenPowered s (mark b l)

/-- SETV (R148): a V register is set, or has a value added with wrapping. -/
def setv (b l : Nat) (s : State) : State :=
  s.withInstr b l 11 fun s w =>
    let r := R.LOOM_LANE_V b l (liSVreg w)
    let v := BitVec.ofNat 32 (liValue w)
    let s1 := s.setReg r (if liSAdd w then s.regBefore r + v else v)
    let s2 : State := { s1 with
      recent := NMap.set (fun _ => (0, 0)) s.recent r (0, 0)
      setvAt := NMap.set (fun _ => 0) s.setvAt r (s.clk.now + 1) }
    s2.goTo b l ((s.lane b l).pc + 1)

/-- SETV (R148). -/
def execSetv (b : Fin 8) (l : Fin 32) (s : State) : Host.Outcome State Fault Refusal := whenPowered s (setv b l)

/-- The lane's program ends (R149). -/
def State.laneEnd (s : State) (b l : Nat) : State :=
  s.onLane b l fun x => { x with st := .done, since := s.clk.time, stall := .none_ }

/-- END (R149, R160): not executed while a branch is pending. -/
def end_ (b l : Nat) (s : State) : State :=
  if (s.lane b l).branches.isEmpty then s.withInstr b l 12 fun s _ => s.laneEnd b l else s

/-- END (R149). -/
def execEnd (b : Fin 8) (l : Fin 32) (s : State) : Host.Outcome State Fault Refusal := whenPowered s (end_ b l)

/-! ### Scheduled effects -/

/-- The first of the items that have come due: the earliest tick, then the earliest issue. -/
def firstDue {α : Type} (time : Nat) (at_ ser : α → Nat) (xs : List α) : Option α :=
  (xs.filter fun x => decide (at_ x ≤ time)).foldl (fun a x =>
    match a with
    | none => some x
    | some y => if at_ x < at_ y || (at_ x = at_ y && ser x < ser y) then some x else a) none

/-- FRAME_EFFECT (R179, R175): the next frame update that has come due takes effect at its tick. -/
def frameEffect (b l : Nat) (s : State) : State :=
  let x := s.lane b l
  if x.st == .stopping then s
  else
    match firstDue s.clk.time (·.at_) (·.ser) x.frames with
    | none => s
    | some f =>
      let s := s.onLane b l fun x => { x with frames := x.frames.erase f }
      match s.voiceUnit b l f.voice with
      | none => s
      | some u =>
        let s := s.onFrm b u f.frm fun g => g.update f.freq f.add f.value f.at_
        match s.tonePlay b u with
        | some p => if p.frame = f.frm then s.bandCheck b u f.frm ((s.tone b u).fwAt f.at_) else s
        | none => s

/-- FRAME_EFFECT (R179). -/
def execFrameEffect (b : Fin 8) (l : Fin 32) (s : State) : Host.Outcome State Fault Refusal :=
  whenPowered s (frameEffect b l)

/-- MARK_EFFECT (R150, R160): the next mark that has come due goes out, unless a branch before it is pending. -/
def markEffect (b l : Nat) (s : State) : State :=
  let x := s.lane b l
  let free := x.marks.filter fun m => x.branches.all fun br => decide (m.ser < br.ser)
  if x.st == .stopping then s
  else
    match firstDue s.clk.time (·.at_) (·.ser) free with
    | none => s
    | some m =>
      let s := s.onLane b l fun x => { x with marks := x.marks.erase m }
      let s := if m.tal then
          s.offer (3 * b) (srcOf b l 0 0) 0x2A 1 m.at_ [(0, 1, m.code), (1, 1, bit m.evt + 2 * m.line)]
        else s
      if m.evt then s.pulse (32 * b + 2 * (l % 16) + m.line) else s

/-- MARK_EFFECT (R150). -/
def execMarkEffect (b : Fin 8) (l : Fin 32) (s : State) : Host.Outcome State Fault Refusal :=
  whenPowered s (markEffect b l)

/-! ### Strobes -/

/-- The first strobe of a kind that has reached the lane (R292, R294), with the strobe taken out of the inbox. -/
def State.takeStrobe (s : State) (b l : Nat) (k : StrobeKind) : Option Strobe × State :=
  match (s.lane b l).strobes.find? fun e => e.kind == k && decide (e.arrive ≤ s.clk.time) with
  | none => (none, s)
  | some e => (some e, s.onLane b l fun x => { x with strobes := x.strobes.erase e })

/-- A strobe for a lane not in the required state (R156, R172). -/
def State.startLost (s : State) (b l : Nat) : State := s.laneFlag b l Fd.LOOM_LANE_FLAGS_START_LOST

/-- A strobe reaches a lane: it acts if the lane's state allows it, else START_LOST is set (R156). -/
def State.strobe (s : State) (b l : Nat) (k : StrobeKind) (ok : Lane → Bool) (act : State → Nat → State) : State :=
  match s.takeStrobe b l k with
  | (none, s) => s
  | (some e, s) => if ok (s.lane b l) then act s e.s else s.startLost b l

/-- ISSUING, SYNC or WAIT: the states in which Flush and Stop act (R156). -/
def Lane.running (x : Lane) : Bool := x.st == .issuing || x.st == .sync || x.st == .wait

/-- The frames of a lane's tones whose FRESET is 1 take their initial state at a start strobe (R180). -/
def State.framesReset (s : State) (b l t : Nat) : State :=
  foldAll (fun s v =>
    match s.voiceUnit b l v with
    | none => s
    | some u =>
      if s.flag (R.OUT_TONE_CFG b u) Fd.OUT_TONE_CFG_FRESET then
        foldAll (fun s f => s.frameInit b u f t) s (List.range 4)
      else s) s [0, 1]

/-- START_STROBE (R139, R156, R172, R180, R262): a READY lane starts at the strobe's tick; a start in the tick of the
write of EN = 1 is lost. -/
def startStrobe (b l : Nat) (s : State) : State :=
  s.strobe b l .start (fun x => x.st == .ready && x.enAt != s.clk.time + 1) fun s t =>
    let s := s.onLane b l fun x =>
      { x with
        st := .issuing, since := s.clk.time, pc := 0, cursor := t, dr := 0, loops := [], event := false
        start := t, startAt := s.clk.now + 1, next := s.clk.time, stall := .none_, lastWin := none, gds := x.gds.filter fun e => e.2.any fun p => decide (t < p.1) }
    (s.framesReset b l t).armByLane b l

/-- START_STROBE (R156). -/
def execStartStrobe (b : Fin 8) (l : Fin 32) (s : State) : Host.Outcome State Fault Refusal :=
  whenPowered s (startStrobe b l)

/-- SYNC_RELEASE (R155): the cursor becomes the greater of the cursor and S. -/
def syncRelease (b l : Nat) (s : State) : State :=
  s.strobe b l .sync (fun x => x.st == .sync) fun s t =>
    let behind := decide (t < (s.lane b l).cursor)
    let s := if behind then s.laneFlag b l Fd.LOOM_LANE_FLAGS_SYNC_BEHIND else s
    s.onLane b l fun x => { x with st := .issuing, since := s.clk.time, cursor := max x.cursor t }

/-- SYNC_RELEASE (R155). -/
def execSyncRelease (b : Fin 8) (l : Fin 32) (s : State) : Host.Outcome State Fault Refusal :=
  whenPowered s (syncRelease b l)

/-- SYNC_TIMEOUT (R155): no strobe by cursor + DL − 126. -/
def syncTimeout (b l : Nat) (s : State) : State :=
  let x := s.lane b l
  let dl := liDl (s.laneWord b l (x.pc + 32767))
  if x.st == .sync && decide (x.cursor + dl ≤ s.clk.time + 126) then
    (s.laneVoid b l).onLane b l fun x => { x with st := .issuing, since := s.clk.time, cursor := cursorAdd x.cursor dl }
  else s

/-- SYNC_TIMEOUT (R155). -/
def execSyncTimeout (b : Fin 8) (l : Fin 32) (s : State) : Host.Outcome State Fault Refusal :=
  whenPowered s (syncTimeout b l)

/-- A lane begins to stop (R156, R171): each voice finishes the stored granule in progress, with a ramp to zero where
the rule asks for one (R195), then outputs zero. `ready` says whether READY follows in place of OFF. A lane that started
in this very tick has lost its start (R34). -/
def State.laneStop (s : State) (b l : Nat) (ready ramp : Bool) : State :=
  let x := s.lane b l
  if x.st == .off then s
  else if x.st == .stopping then s.onLane b l fun x => { x with stopReady := x.stopReady && ready }
  else
    let s := if !ready && x.st == .issuing && x.startAt == s.clk.now + 1 then
        s.laneFlag b l Fd.LOOM_LANE_FLAGS_START_LOST else s
    let plays : NMap (List Play) := x.plays.map fun e =>
      (e.1, e.2.map fun p => p.finish e.1 (s.voiceDelay b l e.1) s.clk.time true ramp)
    let due := (plays.flatMap fun e => e.2.filter fun p => p.started && p.desc != .awaited).foldl
      (fun n p => max n p.ends) s.clk.time
    s.onLane b l fun x =>
      { x with st := .stopping, since := s.clk.time, stopReady := ready, stopDue := due, plays := plays
               stall := .none_, headQ := [] }

/-- ABORT_STROBE (R156): as a disable, but the lane returns to READY. -/
def abortStrobe (b l : Nat) (s : State) : State :=
  s.strobe b l .abort (fun x => x.st != .off) fun s _ => s.laneStop b l true false

/-- ABORT_STROBE (R156). -/
def execAbortStrobe (b : Fin 8) (l : Fin 32) (s : State) : Host.Outcome State Fault Refusal :=
  whenPowered s (abortStrobe b l)

/-- What a Flush at tick `t` does to a lane (R156). -/
def State.laneFlush (s : State) (b l t : Nat) : State :=
  let s := s.discard b l (fun p => decide (t ≤ p.start)) (fun f => decide (t ≤ f.at_)) (fun m => decide (t ≤ m.at_))
  let gone := (s.lane b l).branches.filter fun br => decide (t ≤ br.bnd)
  let s := foldAll (fun s br => s.giveBack b l br.bnd br none) s gone
  let s := match gone with
    | [] => s
    | br :: _ =>
      (s.restore b l br.chk).onLane b l fun x =>
        { x with st := .issuing, since := s.clk.time, next := s.clk.time
                 branches := x.branches.filter fun br => decide (br.bnd < t) }
  s.onLane b l fun x =>
    let q := x.headQ.filter fun e => decide (e.2.start < t)
    { x with cursor := t, headQ := q, stall := if q.isEmpty then .none_ else .head }

/-- FLUSH_STROBE (R156). -/
def flushStrobe (b l : Nat) (s : State) : State := s.strobe b l .flush Lane.running fun s t => s.laneFlush b l t

/-- FLUSH_STROBE (R156). -/
def execFlushStrobe (b : Fin 8) (l : Fin 32) (s : State) : Host.Outcome State Fault Refusal :=
  whenPowered s (flushStrobe b l)

/-- POISON_STROBE (R156): the present shot is poisoned with cause FOREMAN. -/
def poisonStrobe (b l : Nat) (s : State) : State :=
  s.strobe b l .poison (fun x => x.st != .off) fun s _ => s.lanePoison b l 7 0

/-- POISON_STROBE (R156). -/
def execPoisonStrobe (b : Fin 8) (l : Fin 32) (s : State) : Host.Outcome State Fault Refusal :=
  whenPowered s (poisonStrobe b l)

/-- STOP_STROBE (R156): as END. -/
def stopStrobe (b l : Nat) (s : State) : State := s.strobe b l .stop Lane.running fun s _ => s.laneEnd b l

/-- STOP_STROBE (R156). -/
def execStopStrobe (b : Fin 8) (l : Fin 32) (s : State) : Host.Outcome State Fault Refusal :=
  whenPowered s (stopStrobe b l)

/-! ### Enable, disable and end -/

/-- LANE_DISABLE (R171): a write of EN = 0. -/
def laneDisable (b l : Nat) (s : State) : State :=
  ((s.clear (R.LOOM_LANE_CTL b l) Fd.LOOM_LANE_CTL_EN).onLane b l fun x => { x with enWait := false }).laneStop b l
    false false

/-- LANE_DISABLE (R171). -/
def execLaneDisable (b : Fin 8) (l : Fin 32) (s : State) : Host.Outcome State Fault Refusal :=
  whenPowered s (laneDisable b l)

/-- A stopped lane (R156, R171): queues, branches, marks and frame updates are gone, with slots and stages; the
LANE_STOPPED mark is written; the state is OFF, or READY after an abort. Only a play that has not started takes its window
with it (R205). -/
def State.laneStopped (s : State) (b l : Nat) : State :=
  let x := s.lane b l
  let s := s.discard b l (fun p => !p.started) (fun _ => true) (fun _ => true)
  let s := (s.onLane b l fun x => { x with plays := [] }).tidyStreams b l
  let s := s.onLane b l fun x =>
    { x with
      st := if x.stopReady then .ready else .off, since := s.clk.time, stopReady := false, stopDue := 0
      branches := [], slots := [], stages := [], headQ := [], watches := [] }
  s.offer (3 * b) (srcOf b l 0 0) 0x28 1 s.clk.time [(0, 8, x.cursor), (8, 4, x.pc)]

/-- A lane whose EN is 1 becomes READY once its Bench is enabled and it is OFF (R172). -/
def State.laneArm (s : State) (b l : Nat) : State :=
  let x := s.lane b l
  if x.enWait && x.st == .off && s.benchOn b then
    s.onLane b l fun x => { x with st := .ready, since := s.clk.time, enWait := false }
  else s

/-- LANE_STOP_DONE (R171): the voices of a stopping lane have finished their granules. -/
def laneStopDone (b l : Nat) (s : State) : State :=
  let x := s.lane b l
  if x.st == .stopping && decide (x.stopDue ≤ s.clk.time) then (s.laneStopped b l).laneArm b l else s

/-- LANE_STOP_DONE (R171). -/
def execLaneStopDone (b : Fin 8) (l : Fin 32) (s : State) : Host.Outcome State Fault Refusal :=
  whenPowered s (laneStopDone b l)

/-- LANE_ENABLE (R172): a write of EN = 1. -/
def laneEnable (b l : Nat) (s : State) : State :=
  ((s.raise (R.LOOM_LANE_CTL b l) Fd.LOOM_LANE_CTL_EN).onLane b l fun x =>
    { x with enAt := s.clk.time + 1, enWait := x.enWait || x.st == .off || (x.st == .stopping && !x.stopReady) }).laneArm
      b l

/-- LANE_ENABLE (R172). -/
def execLaneEnable (b : Fin 8) (l : Fin 32) (s : State) : Host.Outcome State Fault Refusal :=
  whenPowered s (laneEnable b l)

/-- LANE_DRAINED (R149): the last queued play of a DONE lane has left the Loom. -/
def laneDrained (b l : Nat) (s : State) : State :=
  let s := s.pruneLane b l
  let x := s.lane b l
  if x.st == .done && x.allPlays.isEmpty && x.headQ.isEmpty && x.branches.isEmpty then
    s.onLane b l fun x => { x with st := .ready, since := s.clk.time }
  else s

/-- LANE_DRAINED (R149). -/
def execLaneDrained (b : Fin 8) (l : Fin 32) (s : State) : Host.Outcome State Fault Refusal :=
  whenPowered s (laneDrained b l)

/-- LANE_ABORT_ALL (R492): every lane that is ISSUING, SYNC, WAIT or DONE is aborted; at an immediate HOLD its voices ramp
to zero (R45, R195). -/
def State.abortAll (s : State) (ramp : Bool) : State :=
  foldAll (fun s b => foldAll (fun s l =>
    let x := s.lane b l
    if x.running || x.st == .done then s.laneStop b l true ramp else s) s (List.range 32)) s (List.range 8)

end Sys2Proof.Machine
end

