-- ==== Sys2Proof/Machine/Output.lean ====
section
/-!
DEFINITION. The output chains (07): frequency words (R177), full-scale range changes (R193, R194), fine delays that
wait for a gap (R101), and the tail corrector's registers (R189 to R192).
-/
namespace Sys2Proof.Machine

/-! ### Idle voices -/

/-- The earliest tick at which a head of a pending branch can begin: its boundary, or in ASAP mode what a decision that
settles now would give (R166). -/
def State.headFrom (s : State) (b l : Nat) (br : Branch) : Nat :=
  if br.isAsap then max br.chk.cursor (s.clk.time + br.lead (s.laneLead b l)) else br.bnd

/-- A voice is idle at the present tick (R191): nothing in progress, and nothing that starts before T + 64, the heads of
pending branches included. -/
def State.voiceIdle (s : State) (b l voice : Nat) : Bool :=
  let x := s.lane b l
  let t := s.clk.time
  (x.queue voice).all (fun p => if p.started then p.over t else decide (t + 64 ≤ p.start)) &&
    x.headQ.all (fun e => e.1 != voice || decide (t + 64 ≤ e.2.start)) &&
    x.branches.all fun br =>
      let from_ := s.headFrom b l br
      decide (t + 64 ≤ from_) ||
        br.heads.all fun h => h.plays.all fun e => e.1 != voice || decide (t + 64 ≤ from_ + e.2.start)

/-- The Bench of converter output `i` (FDLYi). -/
def outBench (i : Nat) : Nat := if i < 32 then i / 4 else if i < 48 then (i - 32) / 2 else (i - 48) / 16

/-- Every voice bound to converter output `i` is idle (R101, R193). -/
def State.outIdle (s : State) (i : Nat) : Bool :=
  let b := outBench i
  (List.range 32).all fun l => (List.range 3).all fun v =>
    (s.voiceUnit b l v).isNone || s.voiceOut b l v != i || s.voiceIdle b l v

/-- The converter output of RF converter `c` of Bench `b`. -/
def convOut (b c : Nat) : Nat := if c < 4 then 4 * b + c else 32 + 2 * b + (c - 4)

/-! ### Frequency words -/

/-- TONE_FW_COMMIT (R177): the word governs from T + 8; without a low half the low word last written counts. -/
def toneFwCommit (b u : Nat) (lo : Option Word) (hi : Word) (s : State) : State :=
  let low := lo.getD (s.reg (R.OUT_TONE_FW_LO b u))
  let s := (s.setReg (R.OUT_TONE_FW_LO b u) low).setReg (R.OUT_TONE_FW_HI b u) (hi &&& 0xFFFF#32)
  let fw := low.toNat + hi.toNat % 0x10000 * 2 ^ 32
  let t := s.clk.time
  s.onTone b u fun x =>
    { x with fw := x.fwAt t, nextFw := (x.nextFw.filter fun e => decide (t < e.1)) ++ [(t + 8, fw)] }

/-- TONE_FW_COMMIT (R177). -/
def execToneFwCommit (b : Fin 8) (u : Fin 64) (lo : Option Word) (hi : Word) (s : State) :
    Host.Outcome State Fault Refusal := whenPowered s (toneFwCommit b u lo hi)

/-! ### Range changes -/

/-- REQ and CUR of a converter. -/
def State.fsrReq (s : State) (b c : Nat) : Nat := s.fld (R.OUT_CONV_FSR b c) Fd.OUT_CONV_FSR_REQ
/-- CUR of a converter. -/
def State.fsrCur (s : State) (b c : Nat) : Nat := s.fld (R.OUT_CONV_FSR b c) Fd.OUT_CONV_FSR_CUR
/-- RANGE_PEND (R193, R194): the request differs from the code in force. -/
def State.rangePend (s : State) (b c : Nat) : Bool := s.fsrReq b c != s.fsrCur b c
/-- CUR takes the requested code. -/
def State.fsrTake (s : State) (b c : Nat) : State := s.setFld (R.OUT_CONV_FSR b c) Fd.OUT_CONV_FSR_CUR (s.fsrReq b c)

/-- FSR_REQUEST (R193, R194): REQ is set; a value equal to CUR cancels; parked, the change is made at once. -/
def fsrRequest (b c : Nat) (v : Word) (s : State) : State :=
  let s := s.setFld (R.OUT_CONV_FSR b c) Fd.OUT_CONV_FSR_REQ (v.toNat % 16)
  if s.out.parked then s.fsrTake b c else s

/-- FSR_REQUEST (R193). -/
def execFsrRequest (b : Fin 8) (c : Fin 6) (v : Word) (s : State) : Host.Outcome State Fault Refusal :=
  whenPowered s (fsrRequest b c v)

/-- Tones that are playing on a source whose injection into converter `c` is enabled. -/
def State.injected (s : State) (b c : Nat) : Bool :=
  (List.range 32).any fun g =>
    s.flag (R.OUT_XF_SRC b g) Fd.OUT_XF_SRC_EN &&
      (List.range 4).any (fun j =>
        let slot := bitsOf (s.reg (R.OUT_XF_SLOTS b g)).toNat (8 * j) 8
        bitAt slot 3 && slot % 8 == c) &&
      (s.tonePlay b (s.fld (R.OUT_XF_SRC b g) Fd.OUT_XF_SRC_TONE)).isSome

/-- XF_MUTED of a converter whose injections are now suppressed (R184). -/
def State.muted (s : State) (b c : Nat) : State :=
  if s.injected b c then s.raise (R.OUT_CONV_FLAGS b c) Fd.OUT_CONV_FLAGS_XF_MUTED else s

/-- The range switch of a converter begins (R194). -/
def State.rangeStart (s : State) (b c : Nat) : State :=
  (s.onConv b c fun x => { x with changeEnd := some (s.clk.time + 48) }).muted b c

/-- A range change may start now (R193). -/
def State.rangeReady (s : State) (b c : Nat) : Bool :=
  s.mode.timeline && s.rangePend b c && (s.conv b c).changeEnd.isNone && !s.out.parked && s.outIdle (convOut b c)

/-- RANGE_CHANGE_START (R193, R194): at a tick at which every voice of the converter is idle. A fine delay that is
pending takes effect at the same tick. -/
def rangeChangeStart (b c : Nat) (s : State) : State :=
  if s.rangeReady b c then (s.rangeStart b c).fdlyTake (convOut b c) else s

/-- RANGE_CHANGE_START (R194). -/
def execRangeChangeStart (b : Fin 8) (c : Fin 6) (s : State) : Host.Outcome State Fault Refusal :=
  whenPowered s (rangeChangeStart b c)

/-- RANGE_CHANGE_DONE (R194): 48 ticks after the switch began. -/
def rangeChangeDone (b c : Nat) (s : State) : State :=
  match (s.conv b c).changeEnd with
  | none => s
  | some t =>
    if t ≤ s.clk.time then (s.onConv b c fun x => { x with changeEnd := none }).fsrTake b c else s

/-- RANGE_CHANGE_DONE (R194). -/
def execRangeChangeDone (b : Fin 8) (c : Fin 6) (s : State) : Host.Outcome State Fault Refusal :=
  whenPowered s (rangeChangeDone b c)

/-- FDLY_APPLY (R101, R193): in ARMED, RUN and HOLD a pending delay takes effect at an idle gap; a range change that is
pending for the converter starts at the same tick. -/
def fdlyApply (i : Nat) (s : State) : State :=
  if s.mode.timeline && s.flag (R.TIME_FDLY i) Fd.TIME_FDLY_DLY_PEND && s.outIdle i then
    let b := outBench i
    let s := match (List.range 6).find? fun c => convOut b c == i && s.rangeReady b c with
      | some c => s.rangeStart b c
      | none => s
    s.fdlyTake i
  else s

/-- FDLY_APPLY (R101). -/
def execFdlyApply (i : Fin 176) (s : State) : Host.Outcome State Fault Refusal := whenPowered s (fdlyApply i)

/-! ### The tail corrector -/

/-- The lane whose F voice is bound to flux DAC `k`. -/
def State.fluxLane (s : State) (b k : Nat) : Option Nat :=
  (List.range 32).find? fun l => s.voiceUnit b l 2 == some k

/-- The corrector's registers are quiet (R192). -/
def State.fluxQuiet (s : State) (b k : Nat) : Bool :=
  match s.fluxLane b k with
  | some l => s.voiceIdle b l 2
  | none => true

/-- The offset of a corrector register, and its field. -/
def corrOff (b k : Nat) : CorrReg → Nat × Bits
  | .amp i => (R.OUT_FLX_SEC_AMP b k i, Fd.OUT_FLX_SEC_AMP_AMP)
  | .tau i => (R.OUT_FLX_SEC_TAU b k i, Fd.OUT_FLX_SEC_TAU_TAU)
  | .fir i => (R.OUT_FLX_FIR b k i, Fd.OUT_FLX_FIR_H)

/-- The corrector's state is cleared to zero (R190). -/
def State.fluxClear (s : State) (b k : Nat) : State :=
  { s with out := { s.out with flux := NMap.set (fun _ => {}) s.out.flux (16 * b + k) {} } }

/-- Every corrector of the device is cleared (R190). -/
def State.fluxClearAll (s : State) : State := { s with out := { s.out with flux := [] } }

/-- TAU_CLIP (R189): a section's time constant is clamped. -/
def State.tauClip (s : State) (b k : Nat) : Bool :=
  (List.range 6).any fun i =>
    let t := s.fld (R.OUT_FLX_SEC_TAU b k i) Fd.OUT_FLX_SEC_TAU_TAU
    decide (t < 16) || decide (1600000 < t)

/-- CORRECTOR_WRITE (R190, R192): taken while the F voice is idle, and clears the corrector's state; else the register
keeps its value, and a different one counts as a refusal (R484). -/
def correctorWrite (who : Who) (b k : Nat) (r : CorrReg) (v : Word) (s : State) : State :=
  let (off, f) := corrOff b k r
  let x := bitsOf v.toNat f.lo f.w
  if s.fluxQuiet b k then (s.setFld off f x).fluxClear b k
  else if x = s.fld off f then s
  else s.denied who off true

/-- CORRECTOR_WRITE (R192). -/
def execCorrectorWrite (who : Who) (b : Fin 8) (k : Fin 16) (r : CorrReg) (v : Word) (s : State) :
    Host.Outcome State Fault Refusal := whenReached who s (correctorWrite who b k r v)

end Sys2Proof.Machine
end

