-- ==== Sys2Proof/Machine/Chain.lean ====
section
/-!
DEFINITION. The samples of the output chains (05, 07): the resampler (R116 to R118), carrier and frame phase (R95, R178),
tones, cross-feed and the converter sums (R174 to R187), and the flux chain with its tail corrector (R188 to R190). The
numbers are exact; what the specification does not give (tap values, the precision of exp and of the filters) are
constants of Config.
-/
namespace Sys2Proof

/-! ### Arithmetic -/

/-- An integer as a dyadic number. -/
def Machine.dyOf (i : Int) : Dy := { num := i }
/-- A sum. -/
def Dy.add (x y : Dy) : Dy :=
  let e := max x.exp y.exp
  { num := x.num * 2 ^ (e - x.exp) + y.num * 2 ^ (e - y.exp), exp := e }
/-- A product. -/
def Dy.mul (x y : Dy) : Dy := { num := x.num * y.num, exp := x.exp + y.exp }
/-- A number divided by 2^n. -/
def Dy.shr (x : Dy) (n : Nat) : Dy := { x with exp := x.exp + n }
/-- The negative. -/
def Dy.neg (x : Dy) : Dy := { x with num := -x.num }
/-- The number is zero. -/
def Dy.isZero (x : Dy) : Bool := x.num == 0
/-- A product that is zero where a factor is, whatever the other. -/
def Dy.scale (x y : Dy) : Dy := if x.isZero then {} else x.mul y

end Sys2Proof

namespace Sys2Proof.Machine

/-- A complex number. -/
abbrev Cx := Dy × Dy
/-- A sum of complex numbers. -/
def cxAdd (x y : Cx) : Cx := (x.1.add y.1, x.2.add y.2)
/-- A product of complex numbers. -/
def cxMul (x y : Cx) : Cx := ((x.1.mul y.1).add (x.2.mul y.2).neg, (x.1.mul y.2).add (x.2.mul y.1))
/-- A complex number times a real one. -/
def cxScale (r : Dy) (x : Cx) : Cx := (r.mul x.1, r.mul x.2)
/-- The complex number is zero. -/
def cxZero (x : Cx) : Bool := x.1.isZero && x.2.isZero

/-- Narrowing to 16 bits with convergent rounding and saturation (R181): the code, and whether it saturated. -/
def narrow16 (x : Dy) : Int × Bool :=
  let r := rndEven x.num (2 ^ x.exp)
  if 32767 < r then (32767, true) else if r < -32768 then (-32768, true) else (r, false)

/-! ### The envelope -/

/-- Stored sample `j` of a granule's bytes (R111): I and Q, or the value. -/
def storedSample (fmt content j : Nat) : Int × Int :=
  match fmt with
  | 0 => (sext 16 (bitsOf content (32 * j) 16), sext 16 (bitsOf content (32 * j + 16) 16))
  | 1 => (256 * sext 8 (bitsOf content (16 * j) 8), 256 * sext 8 (bitsOf content (16 * j + 8) 8))
  | _ => (sext 16 (bitsOf content (16 * j) 16), 0)

/-- The bytes of granule `g` as a play finds them (R124, R133, R136, R162): in its stage buffer, the resident copy, its
stream, or the transient copy; a missing granule reads as zero. -/
def State.granule (s : State) (b l voice : Nat) (p : Play) (ws : List Nat) (g : Nat) : Nat :=
  let staged := NMap.get (fun _ => 0) p.pre g
  if staged != 0 then staged - 1
  else if p.missed.contains g then 0
  else if s.residentIn b p.seg ws then
    bitsOf (NMap.get (fun _ => 0) (s.loom b).residents p.seg) (8 * dGran ws * g) (8 * dGran ws)
  else if s.streamedIn b p.seg ws then
    match (s.window b (s.windowOf b l voice)).streams.find? fun f => f.ser == p.ser with
    | some f => NMap.get (fun _ => 0) f.got g - 1
    | none => 0
  else
    match (s.loom b).transients.find? fun t => t.fetch.fits p.seg ws with
    | some t => NMap.get (fun _ => 0) t.fetch.got g - 1
    | none => 0

/-- Stored sample `k` of a play (R117, R118): zero outside the segment, or the index modulo its length with LOOPABLE. -/
def State.stored (s : State) (b l voice : Nat) (p : Play) (ws : List Nat) (k : Int) : Int × Int :=
  let n := 16 * Int.ofNat (dLen ws)
  let k := if dLoopable ws then k % n else k
  if k < 0 || n ≤ k then (0, 0)
  else storedSample (dFmt ws) (s.granule b l voice p ws (k.toNat / 16)) (k.toNat % 16)

/-- ⌊x(n)⌋ and the phase of R117, a phase of 64 having become phase 0 of the next stored sample. -/
def tapPhase (step voice : Nat) (d : Int) (n : Nat) : Int × Nat :=
  let num := (Int.ofNat (n * delayQ voice) - d) * Int.ofNat step
  let den := delayQ voice * 2 ^ 24
  let fl := num / Int.ofNat den
  let ph := (rndEven ((num - fl * Int.ofNat den) * 64) den).toNat
  if ph = 64 then (fl + 1, 0) else (fl, ph)

/-- The resampled envelope e(n) of a good play (R116 to R118). -/
def State.resample (s : State) (b l voice : Nat) (p : Play) (ws : List Nat) (d : Int) (n : Nat) : Cx :=
  let (k, ph) := tapPhase (dStep ws) voice d n
  if pastEnd ws voice d n then ({}, {})
  else if ph = 0 then
    let x := s.stored b l voice p ws k
    (dyOf x.1, dyOf x.2)
  else
    (List.range 16).foldl (fun a i =>
      let x := s.stored b l voice p ws (k - 7 + Int.ofNat i)
      let h := Config.resampTap ph i
      (a.1.add (dyOf x.1 |>.scale h), a.2.add (dyOf x.2 |>.scale h))) ({}, {})

/-- e(n) × AMP at output sample `n` of a play (R174, R188): zero while it is not heard (R157), past the granule that is
its last (R195, R196), and for a play that is not good; the amplitude falls linearly where a ramp was asked for. -/
def State.envelope (s : State) (b l voice : Nat) (p : Play) (n : Nat) : Cx :=
  let ws := p.words
  if ws.isEmpty || decide (s.clk.time < p.heard) || p.last.any (fun z => decide (z ≤ n)) then ({}, {})
  else
    let e := s.resample b l voice p ws (s.voiceDelay b l voice) n
    let y := cxScale ((dyOf (sext 16 p.amp)).shr 15) e
    match p.ramp, p.last with
    | some from_, some z => if cxZero y then ({}, {}) else cxScale (Config.rampWeight (z - n) (z - from_)) y
    | _, _ => y

/-! ### Phases -/

/-- The carrier phase of R95 at sample `k` = 4T + s, shifted by the delay `d` in 1/256 tick, in units of 2^-54 turn. -/
def carrierPhase (fw : Nat) (k d : Int) : Int := Int.ofNat fw * (64 * k - d)

/-- The frame phase of R178 at sample `k` = 4T + s, shifted by the delay `d`, in units of 2^-54 turn. -/
def Frame.turns (x : Frame) (k d : Int) : Int :=
  Int.ofNat x.p * 2 ^ 14 + sext 32 x.f * (64 * (k - 4 * Int.ofNat x.t) - d) * 2 ^ 8

/-- A phase modulo one turn, in units of 2^-54 turn. -/
def oneTurn (i : Int) : Nat := lowBits 54 i

/-- The sample y of a tone at sample `s4` of the present tick (R174): e(n) × AMP × exp(j2π(φc + φf)), the play's own phase
added (R142). -/
def State.toneSample (s : State) (b l voice u : Nat) (p : Play) (s4 : Nat) : Cx :=
  let t := s.clk.time
  let e := s.envelope b l voice p (4 * (t - p.start) + s4)
  if cxZero e then ({}, {})
  else
    let k := 4 * Int.ofNat t + Int.ofNat s4
    let d := s.delay (s.voiceOut b l voice)
    let ph := carrierPhase ((s.tone b u).fwAt t) k d + (s.frm b u p.frame).turns k d + Int.ofNat p.phase * 2 ^ 22
    cxMul e (Config.expTurn (oneTurn ph))

/-! ### Converters -/

/-- The register value in force now, where a write governs samples from 8 ticks on (R183, R185, R202). -/
def State.inForce (s : State) (off : Nat) : Nat :=
  (((NMap.get (fun _ => []) s.later off).filter fun e => decide (e.1 ≤ s.clk.now)).getLast?.map (·.2)).getD
    (s.reg off).toNat

/-- The play of a voice that sounds now: of those in progress the one issued last (R152). -/
def State.sounding (s : State) (b l voice : Nat) : Option Play :=
  ((((s.lane b l).queue voice).filter fun p => p.active s.clk.time && decide (p.start ≤ s.clk.time))).getLast?

/-- A tone's samples of the present tick, s = 0 to 3; none where its voice is silent. -/
def State.toneNow (s : State) (b u : Nat) : Option (List Cx) :=
  (s.toneVoice b u).bind fun (l, v) =>
    (s.sounding b l v).map fun p => (List.range 4).map fun s4 => s.toneSample b l v u p s4

/-- The samples of a tone in the present tick and the 15 before it, newest first, where any differ from zero (R182). -/
def State.toneHist (s : State) (b u : Nat) : List Cx :=
  let now := ((s.toneNow b u).getD (List.replicate 4 ({}, {}))).reverse
  let h := (now ++ (s.tone b u).hist).take 19
  if h.all cxZero then [] else h

/-- y(n − DLY) of a tone at sample `s4` of the present tick. -/
def histAt (h : List Cx) (s4 dly : Nat) : Cx := h.getD (3 - s4 + dly) ({}, {})

/-- Cross-feed group `g` injects into converter `c` through slot `j` (R182): its source tone and delay. -/
def State.injection (s : State) (b c g j : Nat) : Option (Nat × Nat) :=
  let slot := bitsOf (s.reg (R.OUT_XF_SLOTS b g)).toNat (8 * j) 8
  if s.flag (R.OUT_XF_SRC b g) Fd.OUT_XF_SRC_EN && bitAt slot 3 && slot % 8 == c then
    some (s.fld (R.OUT_XF_SRC b g) Fd.OUT_XF_SRC_TONE, slot / 16)
  else none

/-- The tones of a Bench that have samples in the present tick or just had, with those samples. -/
def State.liveTones (s : State) (b : Nat) : List (Nat × List Cx) :=
  (List.range 64).filterMap fun u => match s.toneHist b u with
    | [] => none
    | h => some (u, h)

/-- The cross-feed sum into converter `c` at sample `s4` (R182): Re(c × y(n − DLY)) of each enabled slot, with the
coefficient in force (R183). -/
def State.crossfeed (s : State) (b c s4 : Nat) (live : List (Nat × List Cx)) : Dy :=
  (List.range 32).foldl (fun a g => (List.range 4).foldl (fun a j =>
    match s.injection b c g j with
    | none => a
    | some (u, dly) =>
      match live.find? fun e => e.1 == u with
      | none => a
      | some (_, h) =>
        let w := s.inForce (R.OUT_XF_COEF b g j)
        let k : Cx := ((dyOf (sext 16 w)).shr 15, (dyOf (sext 16 (w / 65536))).shr 15)
        a.add (cxMul k (histAt h s4 dly)).1) a) {}

/-- A converter outputs code 0 whatever its tones do: its range is changing (R194), or it is parked or about to lose its
output current (R196). -/
def State.convSilent (s : State) (b c : Nat) : Bool :=
  let x := s.conv b c
  x.changeEnd.isSome || !x.on || x.offAt.any fun t => decide (t ≤ s.clk.time + 64)

/-- The sum of a converter at sample `s4` of the present tick, before the gain (R174, R176, R181). -/
def State.convSum (s : State) (b c s4 : Nat) (live : List (Nat × List Cx)) : Dy :=
  let own := (live.filter fun e => toneConv e.1 == c).foldl (fun a e => cxAdd a (histAt e.2 s4 0)) ({}, {})
  let re := if cxZero own then ({} : Dy)
    else if s.flag (R.OUT_CONV_CFG b c) Fd.OUT_CONV_CFG_MODE then (cxMul Config.mixRot own).1 else own.1
  if s.out.parked then re else re.add (s.crossfeed b c s4 live)

/-- One sample of a converter (R181, R185): gain, inverse-sinc correction, narrowing. The history of the sums, the code,
and whether it saturated. -/
def State.convSample (s : State) (b c s4 : Nat) (live : List (Nat × List Cx)) (hist : List Dy) : List Dy × Int × Bool :=
  let x := ((s.convSum b c s4 live).mul (dyOf (Int.ofNat (s.inForce (R.OUT_CONV_GAIN b c) % 65536)))).shr 14
  let h := (x :: hist).take 256
  if h.all (·.isZero) then ([], 0, false)
  else
    let y := if (s.conv b c).isinc then Config.isinc (s.flag (R.OUT_CONV_CFG b c) Fd.OUT_CONV_CFG_MODE) h else x
    let (code, sat) := narrow16 y
    (h, code, sat)

/-- Codes that enter an output chain now reach the balls 96 ticks later (R150, R187). -/
def State.pipePut (s : State) (i : Nat) (codes : List Int) : State :=
  if codes.all (· == 0) then s
  else
    { s with out := { s.out with
        pipe := NMap.upd (fun _ => []) s.out.pipe i fun q => q ++ [(s.clk.now + 96, codes)] } }

/-- Count saturated samples (R181, R188). -/
def State.satCount (s : State) (reg : Nat) (flag cnt : Bits) (n : Nat) : State :=
  if n = 0 then s else (s.raise reg flag).satAdd reg cnt n

/-- The samples of a converter in the present tick (R174 to R187). -/
def State.convTick (s : State) (b c : Nat) (live : List (Nat × List Cx)) : State :=
  if s.convSilent b c then s.onConv b c fun x => { x with hist := [] }
  else
    let (h, codes, n) := (List.range 4).foldl (fun (a : List Dy × List Int × Nat) s4 =>
      let (h, code, sat) := s.convSample b c s4 live a.1
      (h, a.2.1 ++ [code], a.2.2 + bit sat)) ((s.conv b c).hist, [], 0)
    ((s.onConv b c fun x => { x with hist := h }).pipePut (convOut b c) codes).satCount (R.OUT_CONV_FLAGS b c)
      Fd.OUT_CONV_FLAGS_SAT Fd.OUT_CONV_FLAGS_SATCNT n

/-- XF_MUTED of the targets that a sounding tone injects into while they change range or are parked (R184). -/
def State.mutedTick (s : State) (b : Nat) (live : List (Nat × List Cx)) : State :=
  foldAll (fun s c =>
    if (s.conv b c).changeEnd.isSome || s.out.parked then
      if (List.range 32).any fun g => (List.range 4).any fun j =>
          match s.injection b c g j with
          | some (u, _) => live.any fun e => e.1 == u
          | none => false then
        s.raise (R.OUT_CONV_FLAGS b c) Fd.OUT_CONV_FLAGS_XF_MUTED
      else s
    else s) s (List.range 6)

/-- OUT_OF_BAND is judged for a tone that is playing when a committed word comes to govern it (R175, R177). -/
def State.bandTick (s : State) (b : Nat) : State :=
  foldAll (fun s u =>
    if (s.tone b u).nextFw.any fun e => e.1 == s.clk.time then
      match s.tonePlay b u with
      | some p => s.bandCheck b u p.frame ((s.tone b u).fwAt s.clk.time)
      | none => s
    else s) s (List.range 64)

/-! ### Flux -/

/-- Section `i` of a corrector: A, as Q1.17, and τ clamped (R189). -/
def State.section_ (s : State) (b k i : Nat) : Int × Nat :=
  (sext 18 (s.fld (R.OUT_FLX_SEC_AMP b k i) Fd.OUT_FLX_SEC_AMP_AMP),
    max 16 (min 1600000 (s.fld (R.OUT_FLX_SEC_TAU b k i) Fd.OUT_FLX_SEC_TAU_TAU)))

/-- One sample through the tail corrector (R189): the new state and v. -/
def State.correct (s : State) (b k : Nat) (f : Flux) (x : Dy) : Flux × Dy :=
  if x.isZero && f.sec.isEmpty && f.fir.isEmpty then (f, {})
  else
    let sec := (List.range 6).map fun i =>
      let old := f.sec.getD i {}
      old.add ((Config.alpha (s.section_ b k i).2).mul (x.add old.neg))
    let u := (List.range 6).foldl (fun (a : Dy) i =>
      let amp := (s.section_ b k i).1
      if amp = 0 then a else a.add (((dyOf amp).shr 17).mul (x.add (sec.getD i {}).neg))) x
    let us := u :: f.fir
    let v := (List.range 48).foldl (fun (a : Dy) i =>
      let h := sext 18 (s.fld (R.OUT_FLX_FIR b k i) Fd.OUT_FLX_FIR_H)
      if h = 0 then a else a.add (((dyOf h).shr 16).mul (us.getD i {}))) {}
    ({ sec := sec, fir := us.take 47 }, v)

/-- The sample of a flux output in the present tick (R188 to R190): the corrector runs on while its voice is silent; the
output is code 0 while parked (R196) and while the converters do not run. -/
def State.fluxTick (s : State) (b k : Nat) : State :=
  let x : Dy := if s.out.parked then {} else
    match (s.fluxLane b k).bind fun l => (s.sounding b l 2).map fun p => (l, p) with
    | some (l, p) => (s.envelope b l 2 p (s.clk.time - p.start)).1
    | none => {}
  let old := NMap.get (fun _ => {}) s.out.flux (16 * b + k)
  let (f, v) := s.correct b k old x
  let s : State := { s with out := { s.out with flux := NMap.set (fun _ => {}) s.out.flux (16 * b + k) f } }
  if s.out.parked || !s.clk.conv || (x.isZero && old.sec.isEmpty && old.fir.isEmpty) then s
  else
    let (code, sat) := narrow16 v
    (s.pipePut (48 + 16 * b + k) [code]).satCount (R.OUT_FLX_STATUS b k) Fd.OUT_FLX_STATUS_SAT
      Fd.OUT_FLX_STATUS_SATCNT (bit sat)

/-! ### One tick -/

/-- SHORT_SEG of the plays that sound in the present tick (R118). -/
def State.shortTick (s : State) (b l : Nat) : State :=
  foldAll (fun s v => match s.sounding b l v with
    | some p => s.countShort b l v p
    | none => s) s (List.range 3)

/-- The output chains of a Bench in the present tick. -/
def State.benchChain (s : State) (b : Nat) : State :=
  let s := foldAll (fun s l => if (s.lane b l).plays.isEmpty then s else s.shortTick b l) s (List.range 32)
  let s := s.bandTick b
  let live := if s.clk.conv then s.liveTones b else []
  let s := s.mutedTick b live
  let s := if s.clk.conv then foldAll (fun s c => s.convTick b c live) s (List.range 6) else s
  let s := foldAll (fun s k => s.fluxTick b k) s (List.range 16)
  foldAll (fun s u =>
    let h := ((live.find? fun e => e.1 == u).map (·.2)).getD []
    let h := if h.all cxZero then [] else h.take 15
    if h == (s.tone b u).hist then s else s.onTone b u fun x => { x with hist := h }) s (List.range 64)

/-- Nothing of a Bench sounds or rings on: its chains stay as they are in this tick. -/
def State.chainQuiet (s : State) (b : Nat) : Bool :=
  (List.range 32).all (fun l => (s.lane b l).plays.isEmpty) &&
    (List.range 6).all (fun c => (s.conv b c).hist.isEmpty) &&
    (List.range 16).all (fun k => NMap.get (fun _ => {}) s.out.flux (16 * b + k) == ({} : Flux)) &&
    (List.range 64).all (fun u => (s.tone b u).hist.isEmpty)

/-- The output chains in the present tick, while the core clock runs and counts ticks (R174 to R190). -/
def State.chainTick (s : State) : State :=
  if s.clk.core && s.clk.aligned then
    foldAll (fun s b => if s.chainQuiet b then s else s.benchChain b) s (List.range 8)
  else s

/-- The codes at the balls in the tick that begins now (R150, R187). -/
def State.ballsTick (s : State) : State :=
  if s.out.pipe.isEmpty then (if s.out.balls.isEmpty then s else { s with out := { s.out with balls := [] } })
  else
    let now := s.clk.now
    let balls : NMap (List Int) := s.out.pipe.filterMap fun e =>
      (e.2.find? fun c => c.1 == now).map fun c => (e.1, c.2)
    let pipe : NMap (List (Nat × List Int)) := (s.out.pipe.map fun e => (e.1, e.2.filter fun c => decide (now < c.1))).filter
      fun e => !e.2.isEmpty
    { s with out := { s.out with balls := balls, pipe := pipe } }

end Sys2Proof.Machine
end

