-- ==== Sys2Proof/Machine/Readout.lean ====
section
/-!
DEFINITION. The readout chain (08): clips and attenuators (R198 to R200), windows, sums and entries (R204 to R214),
kernel weights (R211), and traces (R215, R370).
-/
namespace Sys2Proof.Machine

/-- ADC_CLIP (R198): sample `s4` of the present tick is at full scale; the windows that contain it carry CLIP. -/
def adcClip (b a s4 : Nat) (s : State) : State :=
  let s := (s.raise (R.READ_ACQ_FLAGS b a) Fd.READ_ACQ_FLAGS_CLIP).satAdd (R.READ_ACQ_FLAGS b a)
    Fd.READ_ACQ_FLAGS_CLIPCNT 1
  let m := 4 * Int.ofNat s.clk.time + Int.ofNat s4
  foldAll (fun s e => s.onWin b e.1 e.2.ser fun w => { w with clip := true }) s
    ((s.adcOpen b a).filter fun e => decide (e.2.m0 ≤ m) && decide (m ≤ e.2.last))

/-- ADC_CLIP (R198). -/
def execAdcClip (b : Fin 8) (a : AdcAt) (s : State) : Host.Outcome State Fault Refusal :=
  whenPowered s (adcClip b a.adc a.sample)

/-! ### Attenuators -/

/-- ATTN_PEND (R199): the request differs from the code in force. -/
def State.attnPend (s : State) (b a : Nat) : Bool :=
  s.fld (R.READ_ACQ_CFG b a) Fd.READ_ACQ_CFG_ATTN_REQ != s.fld (R.READ_ACQ_CFG b a) Fd.READ_ACQ_CFG_ATTN_CUR

/-- A window has invalid samples (R200). -/
def State.winInvalid (s : State) (b a : Nat) (e : Nat × Win) : State :=
  (s.onWin b e.1 e.2.ser fun w => { w with inv := true }).raise (R.READ_ACQ_FLAGS b a) Fd.READ_ACQ_FLAGS_ATTN_HIT

/-- A change is made at tick `t` (R200): 60 ticks of invalid samples. -/
def State.attnStart (s : State) (b a t : Nat) : State :=
  let s := s.onAdc b a fun x =>
    { x with changeEnd := some (t + 60), badFrom := 4 * Int.ofNat t, badTo := 4 * Int.ofNat (t + 60) - 1 }
  foldAll (fun s e => s.winInvalid b a e) s (s.adcOpen b a)

/-- ATTN_REQUEST (R199): with no window open on the ADC the change is made at the next tick. -/
def attnRequest (b a : Nat) (v : Word) (s : State) : State :=
  let s := s.setFld (R.READ_ACQ_CFG b a) Fd.READ_ACQ_CFG_ATTN_REQ (v.toNat % 4)
  if s.attnPend b a && (s.adc b a).changeEnd.isNone && (s.adcOpen b a).isEmpty then s.attnStart b a (s.clk.time + 1)
  else s

/-- ATTN_REQUEST (R199). -/
def execAttnRequest (b : Fin 8) (a : Fin 2) (v : Word) (s : State) : Host.Outcome State Fault Refusal :=
  whenPowered s (attnRequest b a v)

/-- A window of the ADC opens in the present tick while no other is open on it (R199). -/
def State.loneOpening (s : State) (b a : Nat) : Bool :=
  let here := fun (w : Win) => decide (w.m0 / 4 = Int.ofNat s.clk.time)
  let others := (s.adcOpen b a).filter fun e => !here e.2
  others.isEmpty && (List.range 32).any fun c => s.chanAdc b c == a && (s.chan b c).wins.any fun w => !w.void_ && here w

/-- ATTN_CHANGE_START (R199): a deferred change is made at the start of a lone window, or outside RUN. -/
def attnChangeStart (b a : Nat) (s : State) : State :=
  if s.attnPend b a && (s.adc b a).changeEnd.isNone && (s.mode != .run || s.loneOpening b a) then
    s.attnStart b a s.clk.time
  else s

/-- ATTN_CHANGE_START (R199). -/
def execAttnChangeStart (b : Fin 8) (a : Fin 2) (s : State) : Host.Outcome State Fault Refusal :=
  whenPowered s (attnChangeStart b a)

/-- ATTN_CHANGE_DONE (R200): ATTN_CUR takes the new code. -/
def attnChangeDone (b a : Nat) (s : State) : State :=
  match (s.adc b a).changeEnd with
  | none => s
  | some t =>
    if t ≤ s.clk.time then
      (s.onAdc b a fun x => { x with changeEnd := none }).setFld (R.READ_ACQ_CFG b a) Fd.READ_ACQ_CFG_ATTN_CUR
        (s.fld (R.READ_ACQ_CFG b a) Fd.READ_ACQ_CFG_ATTN_REQ)
    else s

/-- ATTN_CHANGE_DONE (R200). -/
def execAttnChangeDone (b : Fin 8) (a : Fin 2) (s : State) : Host.Outcome State Fault Refusal :=
  whenPowered s (attnChangeDone b a)

/-! ### Windows -/

/-- The next window of a channel whose first sample falls in the present tick or before. -/
def State.winDue (s : State) (b c : Nat) : Option Win :=
  ((s.chan b c).wins.filter fun w => !w.opened && decide (w.m0 < 4 * (Int.ofNat s.clk.time + 1))).foldl (fun a w =>
    match a with
    | none => some w
    | some v => if w.m0 < v.m0 then some w else a) none

/-- WINDOW_OPEN (R204, R206, R218, R219): the window opens at its first sample, or is refused where it overlaps the
channel's open window. Either way it takes a serial and is owed. -/
def windowOpen (b c : Nat) (s : State) : State :=
  match s.winDue b c with
  | none => s
  | some w =>
    let x := s.chan b c
    let num := x.opens % 256
    let clash := x.wins.any fun o => o.opened && !o.void_ && decide (w.m0 ≤ o.last)
    let s := s.skipOwed b c fun o => o.num == num
    let s := s.onChan b c fun x => { x with opens := x.opens + 1 }
    let open_ := fun (w : Win) => { w with opened := true, num := num, owed := true, order := x.opens }
    let s := s.onWin b c w.ser open_
    let w := open_ w
    let a := s.chanAdc b c
    let d := s.adc b a
    let bad := d.badFrom < d.badTo && w.m0 ≤ d.badTo && d.badFrom ≤ w.last
    let s := if bad then s.winInvalid b a (c, w) else s
    if clash then ((s.voidWin b c { w with inv := bad }).chFlag b c Fd.READ_CH_FLAGS_WIN_OVERLAP).poison b 6 c else s

/-- WINDOW_OPEN (R204). -/
def execWindowOpen (b : Fin 8) (c : Fin 32) (s : State) : Host.Outcome State Fault Refusal :=
  whenPowered s (windowOpen b c)

/-! ### Samples -/

/-- θ(m) of a window for the sample `m` of the present tick (R202), in units of 2^-54 turn: the carrier of the bound tone
and the frame at m − w, the phase of the play, and DPH as in force. -/
def State.theta (s : State) (b c : Nat) (w : Win) (m : Int) : Nat :=
  let u := (s.voiceUnit b w.lane 1).getD 0
  let k := m - rndEven s.time.trimNow 4
  oneTurn (carrierPhase ((s.tone b u).fwAt s.clk.time) k 0 + (s.frm b u w.frame).turns k 0 +
    Int.ofNat w.phase * 2 ^ 22 + Int.ofNat (s.inForce (R.READ_CH_DPH b c)) * 2 ^ 22)

/-- The phases of the samples of the present tick that lie in an open window are taken (R202). -/
def State.thetaTick (s : State) (b c : Nat) (w : Win) : State :=
  let ms := ((List.range 4).map fun s4 => 4 * Int.ofNat s.clk.time + Int.ofNat s4).filter fun m =>
    decide (w.m0 ≤ m) && decide (m ≤ w.last)
  let ts := ms.map (s.theta b c w)
  if ts.isEmpty then s else s.onWin b c w.ser fun w => { w with theta := ts.reverse ++ w.theta }

/-- The readout chains in the present tick, while the core clock runs and counts ticks. -/
def State.readTick (s : State) : State :=
  if s.clk.core && s.clk.aligned then
    foldAll (fun s (e : Nat × Chan) =>
      foldAll (fun s w => s.thetaTick (e.1 / 32) (e.1 % 32) w) s (e.2.wins.filter (·.isOpen s.clk.time))) s s.chans
  else s

/-- Further 12-bit ADC samples of a window reach the channel (R198): those taken by now. -/
def State.adcTake (s : State) (w : Win) (xs : List (BitVec 12)) : Win :=
  let have_ := w.adc.length
  let upto := (4 * Int.ofNat s.clk.time + 4 - w.m0).toNat
  let n := min (16 * w.n) upto - have_
  let new := (xs.take n).map (·.toInt)
  { w with adc := w.adc ++ new, clip := w.clip || new.any fun x => decide (x = -2048) || decide (x = 2047) }

/-- Samples of a window that are both taken and demodulated so far. -/
def Win.ready (w : Win) : Nat := min w.adc.length w.theta.length

/-- The mixed samples x(m) × exp(−j2πθ(m)) of a window up to sample `n` (R202), oldest first. -/
def Win.mixed (w : Win) (n : Nat) : List Cx :=
  let th := w.theta.reverse
  (List.range n).map fun i => cxScale (dyOf (w.adc.getD i 0)) (Config.expTurn (oneTurn (-(Int.ofNat (th.getD i 0)))))

/-- Decimated sample `i` of a window (R203), I and Q. -/
def Win.z (w : Win) (i : Nat) : Sample :=
  let d := Config.decimate (w.mixed (16 * i + 16))
  { i := d.1, q := d.2 }

/-- Decimated samples of a window from `i` on. -/
def Win.zs (w : Win) (i n : Nat) : List Sample := (List.range n).map fun k => w.z (i + k)

/-! ### Sums -/

/-- Weight `i` of kernel `k` of a channel, I and Q (R208), as it governs a window: a write after the window closed does
not (R211). -/
def State.weight (s : State) (b c : Nat) (win : Win) (k i : Nat) : Int × Int :=
  let n := (4 * c + k) * 4096 + i
  let old := NMap.get (fun _ => 0) win.kold n
  let w := if old = 0 then (s.reg (R.KERNEL b n)).toNat else old - 1
  (sext 16 w, sext 16 (w / 65536))

/-- Sum one decimated sample at index `i` into kernel `k` (R208): exact complex products. -/
def State.accumulate (s : State) (b c : Nat) (win : Win) (k i : Nat) (acc : Int × Int) (z : Sample) : Int × Int :=
  let (wi, wq) := s.weight b c win k i
  (acc.1 + (wi * z.i.toInt - wq * z.q.toInt), acc.2 + (wi * z.q.toInt + wq * z.i.toInt))

/-- The sums of a window after further decimated samples (R208). -/
def State.winSums (s : State) (b c : Nat) (w : Win) (zs : List Sample) : List (Int × Int) :=
  (List.range w.k).map fun k =>
    (zs.foldl (fun (a : (Int × Int) × Nat) z => (s.accumulate b c w k a.2 a.1 z, a.2 + 1))
      (w.sums.getD k (0, 0), w.taken)).1

/-- A value narrowed with convergent rounding and saturation to a signed width; the second part tells saturation. -/
def narrowSat (v : Int) (shift width : Nat) : Int × Bool :=
  let r := rndEven v (2 ^ shift)
  let top := Int.ofNat (2 ^ (width - 1))
  if top ≤ r then (top - 1, true) else if r < -top then (-top, true) else (r, false)

/-- A sum narrowed to 18-bit I and Q (R209): the weights carry 15 fraction bits. -/
def narrowSum (shift : Nat) (v : Int × Int) : Nat × Bool :=
  let (i, a) := narrowSat v.1 (15 + shift) 18
  let (q, c) := narrowSat v.2 (15 + shift) 18
  (lowBits 18 i + 262144 * lowBits 18 q, a || c)

/-- The sums as an entry carries them, padded with 0 (R212), and whether a component saturated. -/
def entrySums (shift : Nat) (sums : List (Int × Int)) : List Nat × Bool :=
  let ns := sums.map (narrowSum shift)
  ((List.range 4).map fun k => (ns.getD k (0, false)).1, ns.any (·.2))

/-- The window of a channel that opened first of those that have not ended (R213). -/
def State.winRunning (s : State) (b c : Nat) : Option Win :=
  (((s.chan b c).wins.filter fun w => w.opened && !w.closed)).foldl (fun a w =>
    match a with
    | none => some w
    | some v => if w.order < v.order then some w else a) none

/-- The tick, 69 after the last ADC sample of decimated sample `n` − 1, at which an entry is written (R210, R27). -/
def Win.entryTick (w : Win) (n : Nat) : Int := (w.m0 + 16 * Int.ofNat n - 1) / 4 + 69

/-- The number of partial entries of a window (R210): each j ≥ 1 with 16j < N. -/
def Win.partialsDue (w : Win) : Nat := if w.partial_ then (w.n - 1) / 16 else 0

/-- PARTIAL_ENTRY (R210): with the ADC samples that have come, the cumulative sums over 16 further decimated samples. -/
def partialEntry (b c : Nat) (xs : List (BitVec 12)) (s : State) : State :=
  match s.winRunning b c with
  | none => s
  | some w =>
    let w := s.adcTake w xs
    let s := s.onWin b c w.ser fun _ => w
    let j := w.partials + 1
    if decide (j ≤ w.partialsDue) && decide (256 * j ≤ w.ready) &&
        decide (w.entryTick (16 * j) ≤ Int.ofNat s.clk.time) then
      let sums := s.winSums b c w (w.zs w.taken 16)
      let (es, sat) := entrySums w.shift sums
      let s := s.onWin b c w.ser fun w => { w with partials := j, taken := 16 * j, sums := sums }
      let s := if sat then s.chFlag b c Fd.READ_CH_FLAGS_SUM_SAT else s
      s.pushEntry b c 0 j w sat es
    else s

/-- PARTIAL_ENTRY (R210). -/
def execPartialEntry (b : Fin 8) (c : Fin 32) (xs : List (BitVec 12)) (s : State) : Host.Outcome State Fault Refusal :=
  whenPowered s (partialEntry b c xs)

/-- The IQ record of a final entry (R214, R369). -/
def State.iqRec (s : State) (b c : Nat) (w : Win) (sat : Bool) (es : List Nat) : State :=
  let sums := (List.range w.k).flatMap fun k =>
    let e := es.getD k 0
    [(8 + 8 * k, 4, lowBits 32 (sext 18 e)), (12 + 8 * k, 4, lowBits 32 (sext 18 (e / 262144)))]
  s.offer (3 * b + 1) (srcOf b w.lane c 1) 0x01 (if w.k = 1 then 1 else 2) s.clk.time
    ([(0, 1, w.num), (1, 1, w.k - 1 + 4 * bit w.inv + 8 * bit w.clip + 16 * bit sat)] ++ sums)

/-- WINDOW_FINAL (R209, R210, R212 to R214): with the ADC samples that have come, the remaining decimated samples complete
the window, whose partial entries have all been written. -/
def windowFinal (b c : Nat) (xs : List (BitVec 12)) (s : State) : State :=
  match s.winRunning b c with
  | none => s
  | some w =>
    let w := s.adcTake w xs
    let s := s.onWin b c w.ser fun _ => w
    if decide (16 * w.n ≤ w.ready) && w.partials == w.partialsDue && decide (w.entryTick w.n ≤ Int.ofNat s.clk.time) then
      let sums := s.winSums b c w (w.zs w.taken (w.n - w.taken))
      let (es, sat) := entrySums w.shift sums
      let full := (s.eng b (c / 8)).runs && decide (64 ≤ (s.eng b (c / 8)).fifo.length)
      let s := s.onWin b c w.ser fun w => { w with taken := w.n, sums := sums, closed := true }
      let s := if sat then s.chFlag b c Fd.READ_CH_FLAGS_SUM_SAT else s
      let s := if full then s else s.wrapAdd (R.READ_CH_FLAGS b c) Fd.READ_CH_FLAGS_WINCNT 1
      let s := s.pushEntry b c 1 w.partials w sat es
      if w.iq then s.iqRec b c w sat es else s
    else s

/-- WINDOW_FINAL (R212). -/
def execWindowFinal (b : Fin 8) (c : Fin 32) (xs : List (BitVec 12)) (s : State) : Host.Outcome State Fault Refusal :=
  whenPowered s (windowFinal b c xs)

/-- The windows of a channel that have closed and whose final entry is still to be formed keep the weight `n` as it
was (R211). -/
def State.weightKept (s : State) (b c n : Nat) : State :=
  let old := (s.reg (R.KERNEL b n)).toNat + 1
  s.onChan b c fun x =>
    { x with wins := x.wins.map fun w =>
        if w.opened && !w.closed && NMap.get (fun _ => 0) w.kold n = 0 then
          { w with kold := NMap.set (fun _ => 0) w.kold n old }
        else w }

/-- KERNEL_WRITE (R211): a weight of a channel with an open window is not written. -/
def kernelWrite (who : Who) (b i : Nat) (v : Word) (s : State) : State :=
  let c := i / 16384
  if (s.chan b c).wins.any (·.isOpen s.clk.time) then
    (s.chFlag b c Fd.READ_CH_FLAGS_KW_BUSY).denied who (R.KERNEL b i) true
  else (s.weightKept b c i).setReg (R.KERNEL b i) v

/-- KERNEL_WRITE (R211). -/
def execKernelWrite (who : Who) (b : Fin 8) (i : BitVec 19) (v : Word) (s : State) :
    Host.Outcome State Fault Refusal := whenOpen who s (kernelWrite who b i.toNat v)

/-! ### Traces -/

/-- MODE of a window's trace (R215): 0 for OFF and for the values treated as OFF. -/
def Win.tmode (w : Win) : Nat := if bitsOf w.tcfg 0 3 ≤ 5 then bitsOf w.tcfg 0 3 else 0
/-- INTV (CHc_TRACE): values outside 16 to 1,048,576 are treated as the nearer limit. -/
def Win.intv (w : Win) : Nat := max 16 (min 1048576 (bitsOf w.tcfg 11 21))

/-- The trace of a window: samples of its source, samples per item, and the number of items (R215). -/
def Win.traceItems (w : Win) : Nat × Nat × Nat :=
  let src := if w.tmode = 2 || w.tmode = 3 then 16 * w.n else w.n
  let per := if w.tmode ≤ 2 then 1 else w.intv
  (src, per, (src + per - 1) / per)

/-- A trace record's type, words per item, bytes per word and item limit (R369). -/
def traceShape (mode : Nat) : Nat × Nat × Nat × Nat :=
  match mode with
  | 1 => (0x10, 2, 4, 1016)
  | 2 => (0x11, 1, 2, 4064)
  | 3 => (0x12, 2, 2, 2032)
  | 4 => (0x13, 2, 4, 1016)
  | _ => (0x14, 4, 4, 508)

/-- The tick of the ADC sample that begins sample `i` of the trace's source. -/
def Win.traceTick (w : Win) (i : Nat) : Int :=
  (w.m0 + (if w.tmode = 2 || w.tmode = 3 then 1 else 16) * Int.ofNat i) / 4

/-- The least and the greatest of some values. -/
def minMax (xs : List Int) : List Int :=
  match xs with
  | [] => [0, 0]
  | x :: rest => [rest.foldl min x, rest.foldl max x]

/-- The words of trace item `i` of a window (R215): of `src` source samples, `per` to the item. -/
def Win.traceItem (w : Win) (src per i : Nat) : List Int :=
  let n := min src ((i + 1) * per) - i * per
  match w.tmode with
  | 1 => let z := w.z i; [z.i.toInt, z.q.toInt]
  | 2 => [w.adc.getD i 0]
  | 3 => minMax ((List.range n).map fun k => w.adc.getD (i * per + k) 0)
  | 4 => minMax ((w.zs (i * per) n).map fun z => Int.ofNat (Config.magnitude z.i z.q).toNat)
  | _ =>
    let zs := w.zs (i * per) n
    minMax (zs.map (·.i.toInt)) ++ minMax (zs.map (·.q.toInt))

/-- TRACE_RECORD (R215, R370): with the ADC samples that have come, the next record of the first window whose trace is
not all offered, once its last sample or interval is present; only the last one is shorter than its limit. -/
def traceRecord (b c : Nat) (xs : List (BitVec 12)) (s : State) : State :=
  match (s.chan b c).wins.find? fun w =>
      w.opened && !w.void_ && w.tmode != 0 && decide (w.traceAt < w.traceItems.2.2) with
  | none => s
  | some w =>
    let w := s.adcTake w xs
    let s := s.onWin b c w.ser fun _ => w
    let (src, per, items) := w.traceItems
    let (typ, _, bytes, limit) := traceShape w.tmode
    let n := min limit (items - w.traceAt)
    let stop := min src ((w.traceAt + n) * per)
    let unit := if w.tmode = 2 || w.tmode = 3 then 1 else 16
    if unit * stop ≤ (if unit = 1 then w.adc.length else w.ready) then
      let data := (List.range n).flatMap fun i => w.traceItem src per (w.traceAt + i)
      let final := w.traceAt + n == items
      let lastn := if final && 3 ≤ w.tmode then src - (items - 1) * per else 0
      let pay := (List.range data.length).map fun i => (16 + bytes * i, bytes, lowBits (8 * bytes) (data.getD i 0))
      let s := s.onWin b c w.ser fun w => { w with traceAt := w.traceAt + n }
      s.offer (3 * b + 2) (srcOf b w.lane c 2) typ ((32 + bytes * data.length + 31) / 32)
        (lowBits 64 (w.traceTick (w.traceAt * per)))
        ([(0, 1, w.num), (1, 1, bit final), (2, 2, w.traceAt), (4, 2, n), (8, 4, lastn)] ++ pay)
    else s

/-- TRACE_RECORD (R370). -/
def execTraceRecord (b : Fin 8) (c : Fin 32) (xs : List (BitVec 12)) (s : State) : Host.Outcome State Fault Refusal :=
  whenPowered s (traceRecord b c xs)

end Sys2Proof.Machine
end

