-- ==== Sys2Proof/Machine/AssayControl.lean ====
section
/-!
DEFINITION. The control slot of an Assay engine (R229 to R232, R246, R252, R253), automatic answers (R219, R220), and
running, stopping and trapping an engine (R243 to R249).
-/
namespace Sys2Proof.Machine

/-- A control slot with this opcode, if the engine performs it now. -/
def State.ctlNow (s : State) (b e op : Nat) : Option Nat :=
  (s.slotNow b e 0).filter fun w => ctlOp (ctlOf w) == op

/-- ASSAY_JMP (R229). -/
def assayJmp (b e : Nat) (s : State) : State :=
  match s.ctlNow b e 1 with
  | none => s
  | some w => s.ctlGo b e w (bitsOf (ctlOf w) 0 12) true

/-- ASSAY_JMP (R229). -/
def execAssayJmp (b : Fin 8) (e : Fin 4) (s : State) : Host.Outcome State Fault Refusal := whenPowered s (assayJmp b e)

/-- ASSAY_CALL (R229, R249): a fifth level faults. -/
def assayCall (b e : Nat) (s : State) : State :=
  match s.ctlNow b e 2 with
  | none => s
  | some w =>
    let x := s.eng b e
    if 4 ≤ x.stack.length then s.engFault b e 1 x.pc
    else (s.onEng b e fun x => { x with stack := (x.pc + 1) :: x.stack }).ctlGo b e w (bitsOf (ctlOf w) 0 12) true

/-- ASSAY_CALL (R229). -/
def execAssayCall (b : Fin 8) (e : Fin 4) (s : State) : Host.Outcome State Fault Refusal := whenPowered s (assayCall b e)

/-- KIND of a header word (R212). -/
def hdrKind (h : Nat) : Nat := bitsOf h 3 2

/-- A branch condition (R230), on the registers at the start of the bundle; LCD looks at LC decremented. -/
def State.asCond (s : State) (b e cond : Nat) : Bool :=
  let x := s.eng b e
  let r := x.regs
  match cond with
  | 0 => true
  | 1 => bitAt r.flags 0
  | 2 => !bitAt r.flags 0
  | 3 => bitAt r.flags 1
  | 4 => !bitAt r.flags 1
  | 5 => bitAt r.flags 2
  | 6 => !bitAt r.flags 2
  | 7 => hdrKind r.hdr == 1
  | 8 => hdrKind r.hdr == 0
  | 9 => hdrKind r.hdr == 2
  | 10 => match x.cur with
    | some (c, n) => !s.isOwed b c n
    | none => true
  | 11 => bitsOf r.hdr 13 3 != 0
  | 12 => (r.lc + 65535) % 65536 != 0
  | 13 => bitAt r.flags 4
  | _ => x.fifo.all fun h => decide (x.cyc < h.at_)

/-- PC + REL of a control slot (R229). -/
def relTarget (pc c : Nat) : Nat := (Int.ofNat pc + sext 8 c).toNat

/-- ASSAY_BR (R229, R230): LCD also writes LC. -/
def assayBr (b e : Nat) (s : State) : State :=
  match s.ctlNow b e 3 with
  | none => s
  | some w =>
    let c := ctlOf w
    let cond := bitsOf c 8 4
    let taken := s.asCond b e cond
    let pc := (s.eng b e).pc
    let s := s.onEng b e fun x => { x with nxt := if taken then relTarget pc c else pc + 1, taken := taken }
    s.slotDone b e w 0 fun r => if cond = 12 then { r with lc := (r.lc + 65535) % 65536 } else r

/-- ASSAY_BR (R230). -/
def execAssayBr (b : Fin 8) (e : Fin 4) (s : State) : Host.Outcome State Fault Refusal := whenPowered s (assayBr b e)

/-- The first assay cycle at or after the present one that begins at or after a tick (R227). -/
def cycleFrom (cyc t : Nat) : Nat := if t ≤ cyc then cyc else cyc + (t - cyc + 1) / 2 * 2

/-- A WAITIN pops the head of the FIFO (R219, R223): HDR and D12 to D15 are loaded, and a final or VOID entry passes over
every earlier window of its channel that is still owed. -/
def State.popEntry (s : State) (b e w : Nat) (h : Entry) (cyc : Nat) : State :=
  let s := s.onEng b e fun x =>
    { x with fifo := x.fifo.tail, cur := some (h.ch, h.win), cyc := cyc, st := .run, nxt := x.pc + 1, taken := false }
  let s := if hdrKind h.hdr = 0 then s else s.skipOwed b h.ch fun o => decide (o.ser < h.win)
  s.slotDone b e w 0 fun r =>
    foldAll (fun r i => r.setD (12 + i) (h.sums.getD i 0)) { r with hdr := h.hdr } (List.range 4)

/-- The tick at which a WAITIN that began to wait at `t` times out (R231). -/
def State.waitEnd (s : State) (b e w t : Nat) : Nat :=
  t + 2 * s.fld (R.ASSAY_TO b e (bitsOf (ctlOf w) 10 2)) Fd.ASSAY_TO_TO

/-- WAITIN (R223, R227, R231): pops the head of the FIFO, or waits. -/
def waitin (b e : Nat) (s : State) : State :=
  match s.ctlNow b e 4 with
  | none => s
  | some w =>
    let x := s.eng b e
    match x.fifo with
    | h :: _ =>
      let c := cycleFrom x.cyc h.at_
      if decide (c ≤ s.clk.time) && x.waitFrom.all (fun t => decide (h.at_ < s.waitEnd b e w t)) then
        s.popEntry b e w h c
      else s
    | [] =>
      if x.waitFrom.isSome then s
      else s.onEng b e fun x => { x with st := .wait, waitFrom := some x.cyc }

/-- WAITIN (R223). -/
def execWaitin (b : Fin 8) (e : Fin 4) (s : State) : Host.Outcome State Fault Refusal := whenPowered s (waitin b e)

/-- WAITIN_TIMEOUT (R231): no entry within ENGe_TO[TO] cycles. -/
def waitinTimeout (b e : Nat) (s : State) : State :=
  match s.ctlNow b e 4 with
  | none => s
  | some w =>
    let x := s.eng b e
    let c := ctlOf w
    match x.waitFrom with
    | none => s
    | some t =>
      let due := s.waitEnd b e w t
      if x.fifo.all (fun h => decide (due ≤ h.at_)) && decide (due ≤ s.clk.time) then
        let s := ((s.engFlag b e Fd.ASSAY_FLAGS_VOID).satAdd (R.ASSAY_CNT_TO b e) Fd.ASSAY_CNT_TO_COUNT 1).benchEvent b
          Fd.BENCH_EVENTS_VOID
        (s.onEng b e fun x => { x with cyc := due, st := .run }).ctlGo b e w (relTarget x.pc c) true
      else s

/-- WAITIN_TIMEOUT (R231). -/
def execWaitinTimeout (b : Fin 8) (e : Fin 4) (s : State) : Host.Outcome State Fault Refusal :=
  whenPowered s (waitinTimeout b e)

/-- REP (R246): from the end of its bundle the next bundle is repeated. -/
def rep (b e : Nat) (s : State) : State :=
  match s.ctlNow b e 5 with
  | none => s
  | some w => s.ctlGo b e w ((s.eng b e).pc + 1) false

/-- REP (R246). -/
def execRep (b : Fin 8) (e : Fin 4) (s : State) : Host.Outcome State Fault Refusal := whenPowered s (rep b e)

/-- REP_END (R247): the last repetition is over; REPMAX records the run, and the engine goes on. -/
def repEnd (b e : Nat) (s : State) : State :=
  let x := s.eng b e
  if x.st == .rep && x.rep == 0 && decide (x.cyc ≤ s.clk.time) then
    let r := R.ASSAY_REPMAX b e
    let s := s.setFld r Fd.ASSAY_REPMAX_CYCLES (max x.repDone (s.fld r Fd.ASSAY_REPMAX_CYCLES))
    (s.onEng b e fun x => { x with st := .run }).pcCheck b e
  else s

/-- REP_END (R247). -/
def execRepEnd (b : Fin 8) (e : Fin 4) (s : State) : Host.Outcome State Fault Refusal := whenPowered s (repEnd b e)

/-- The decision word of a DECIDE (R252). -/
def State.decideWord (s : State) (b e c : Nat) : Nat :=
  let r := (s.eng b e).regs
  let state := if bitAt c 11 then bitsOf c 8 3 else r.idx % 8
  let v := if bitAt c 2 then Int.ofNat (r.areg 0).natAbs else r.best - r.next
  let conf := (max 0 (min 63 (rndEven v (2 ^ bitsOf c 3 5)))).toNat
  let lm := s.fld (R.ASSAY_CFG b e) Fd.ASSAY_CFG_LEAKMIN
  let leak := bitAt c 1 || (lm != 0 && decide (lm ≤ state))
  state + 8 * conf + 512 * bit leak + 1024 * bit (hdrKind r.hdr == 0)

/-- DECIDE (R252, R253): the word goes to the port at the end of the cycle; for a window not owed nothing does. -/
def decide_ (b e : Nat) (s : State) : State :=
  match s.ctlNow b e 6 with
  | none => s
  | some w =>
    let x := s.eng b e
    let s := match x.cur.filter fun p => s.isOwed b p.1 p.2 with
      | some (c, n) => s.placeWord b c n (s.decideWord b e (ctlOf w)) (x.cyc + 2) false
      | none => s.engFlag b e Fd.ASSAY_FLAGS_DUP_DECIDE
    s.ctlGo b e w (x.pc + 1) false

/-- DECIDE (R252). -/
def execDecide (b : Fin 8) (e : Fin 4) (s : State) : Host.Outcome State Fault Refusal := whenPowered s (decide_ b e)

/-- EMIT (R232, R369): registers Dn onwards go to Tally. -/
def emit (b e : Nat) (s : State) : State :=
  match s.ctlNow b e 7 with
  | none => s
  | some w =>
    let x := s.eng b e
    let c := ctlOf w
    let n := bitsOf c 5 3 + 1
    let regs := (List.range n).map fun i => (8 + 8 * i, 8, x.regs.dreg ((bitsOf c 8 4 + i) % 16))
    let s := s.offer (3 * b + 1) (srcOf b 0 0 1) 0x03 ((24 + 8 * n + 31) / 32) (x.cyc + 2)
      ([(0, 1, bitsOf c 0 5), (1, 1, n - 1), (2, 2, x.pc)] ++ regs)
    s.ctlGo b e w (x.pc + 1) false

/-- EMIT (R232). -/
def execEmit (b : Fin 8) (e : Fin 4) (s : State) : Host.Outcome State Fault Refusal := whenPowered s (emit b e)

/-- ASSAY_RET (R229, R249): an empty stack faults. -/
def assayRet (b e : Nat) (s : State) : State :=
  match (s.ctlNow b e 8).filter fun w => bitsOf (ctlOf w) 8 4 == 0 with
  | none => s
  | some w =>
    let x := s.eng b e
    match x.stack with
    | [] => s.engFault b e 2 x.pc
    | t :: rest => (s.onEng b e fun x => { x with stack := rest }).ctlGo b e w t true

/-- ASSAY_RET (R229). -/
def execAssayRet (b : Fin 8) (e : Fin 4) (s : State) : Host.Outcome State Fault Refusal := whenPowered s (assayRet b e)

/-- HALT (R245): the engine stops at the end of its bundle, in HALTED. -/
def halt (b e : Nat) (s : State) : State :=
  match (s.ctlNow b e 8).filter fun w => bitsOf (ctlOf w) 8 4 == 1 with
  | none => s
  | some w => (s.onEng b e fun x => { x with halted := true }).ctlGo b e w ((s.eng b e).pc + 1) false

/-- HALT (R245). -/
def execHalt (b : Fin 8) (e : Fin 4) (s : State) : Host.Outcome State Fault Refusal := whenPowered s (halt b e)

/-! ### Automatic answers -/

/-- The automatic answer that leaves next: the lowest channel, oldest window; lost-latch answers wait for the end of a
REP (R220, R247). -/
def Engine.nextAnswer (x : Engine) : Option Answer :=
  (x.answers.filter fun a => !(a.lost && x.st == .rep)).foldl (fun m a =>
    match m with
    | none => some a
    | some y => if a.ch < y.ch || (a.ch = y.ch && a.win < y.win) then some a else m) none

/-- AUTO_ANSWER (R219, R220): one word per assay cycle while the engine runs, two while it is stopped. -/
def autoAnswer (b e : Nat) (s : State) : State :=
  let x := s.eng b e
  let cyc := s.clk.time / 2 + 1
  let left := if x.ansCyc = cyc then x.ansCount else 0
  match x.nextAnswer with
  | none => s
  | some a =>
    if left < (if x.runs then 1 else 2) then
      let s := s.onEng b e fun x => { x with answers := x.answers.erase a, ansCyc := cyc, ansCount := left + 1 }
      s.placeWord b a.ch a.win (s.defaultWord b a.ch) s.clk.time true
    else s

/-- AUTO_ANSWER (R219). -/
def execAutoAnswer (b : Fin 8) (e : Fin 4) (s : State) : Host.Outcome State Fault Refusal :=
  whenPowered s (autoAnswer b e)

/-! ### Running, stopping and traps -/

/-- ENGINE_ENABLE (R243, R245): a write of EN = 1 starts an engine that is off, or one that HALT or a fault stopped if EN
was 0. -/
def engineEnable (b e : Nat) (s : State) : State :=
  let was := s.flag (R.ASSAY_CTL b e) Fd.ASSAY_CTL_EN
  (s.raise (R.ASSAY_CTL b e) Fd.ASSAY_CTL_EN).engStart b e (!was)

/-- ENGINE_ENABLE (R243). -/
def execEngineEnable (b : Fin 8) (e : Fin 4) (s : State) : Host.Outcome State Fault Refusal :=
  whenPowered s (engineEnable b e)

/-- ENGINE_DISABLE (R244): a stop is requested; an engine that does not run is OFF at once. -/
def engineDisable (b e : Nat) (s : State) : State :=
  let s := s.clear (R.ASSAY_CTL b e) Fd.ASSAY_CTL_EN
  if (s.eng b e).runs then s.engAskStop b e else s.onEng b e fun x => { x with st := .off }

/-- ENGINE_DISABLE (R244). -/
def execEngineDisable (b : Fin 8) (e : Fin 4) (s : State) : Host.Outcome State Fault Refusal :=
  whenPowered s (engineDisable b e)

/-- The engine stands at a boundary at which it can stop or trap (R244, R248). -/
def Engine.atBoundary (x : Engine) : Bool := (x.st == .run && x.done == 0) || x.st == .wait

/-- ENGINE_STOP (R244). -/
def engineStop (b e : Nat) (s : State) : State :=
  let x := s.eng b e
  if x.stopReq && x.atBoundary then s.engStop b e .off else s

/-- ENGINE_STOP (R244). -/
def execEngineStop (b : Fin 8) (e : Fin 4) (s : State) : Host.Outcome State Fault Refusal :=
  whenPowered s (engineStop b e)

/-- ENGINE_TRAP_REQUEST (R248): discarded unless the engine runs. -/
def engineTrapRequest (b e : Nat) (s : State) : State :=
  if (s.eng b e).runs then s.onEng b e fun x => { x with trapReq := true } else s

/-- ENGINE_TRAP_REQUEST (R248). -/
def execEngineTrapRequest (b : Fin 8) (e : Fin 4) (s : State) : Host.Outcome State Fault Refusal :=
  whenPowered s (engineTrapRequest b e)

/-- ENGINE_TRAP (R248): the address of the next bundle, or of a waiting WAITIN, is pushed; a full stack refuses the
trap. -/
def engineTrap (b e : Nat) (s : State) : State :=
  let x := s.eng b e
  if x.trapReq && !x.stopReq && x.atBoundary then
    if 4 ≤ x.stack.length then
      (s.onEng b e fun x => { x with trapReq := false }).engFlag b e Fd.ASSAY_FLAGS_TRAP_OVF
    else
      s.onEng b e fun x =>
        { x with
          trapReq := false, stack := x.pc :: x.stack, pc := s.fld (R.ASSAY_CFG b e) Fd.ASSAY_CFG_TVEC, st := .run
          done := 0, shadow := x.regs, sat := false, xw := none, waitFrom := none
          cyc := cycleFrom x.cyc s.clk.time }
  else s

/-- ENGINE_TRAP (R248). -/
def execEngineTrap (b : Fin 8) (e : Fin 4) (s : State) : Host.Outcome State Fault Refusal :=
  whenPowered s (engineTrap b e)

/-! ### Windows of the memories and registers -/

/-- A whole X or Y word is committed (R224): 36 or 72 bits. -/
def State.xyCommit (s : State) (b e : Nat) (y : Bool) (i v : Nat) : State :=
  let old := if y then s.yWord b e i else s.xWord b e i
  let s := if (s.eng b e).runs then
      s.onEng b e fun x => { x with xyLate := x.xyLate ++ [{ y := y, word := i, at_ := s.clk.time, old := old }] }
    else s
  if y then
    foldAll (fun s h => s.setReg (R.ASSAY_Y b e i h) (BitVec.ofNat 32 (v % 2 ^ 72 / 2 ^ (32 * h)))) s (List.range 3)
  else
    foldAll (fun s h => s.setReg (R.ASSAY_X b e i h) (BitVec.ofNat 32 (v % 2 ^ 36 / 2 ^ (32 * h)))) s (List.range 2)

/-- The offset of an X or Y word. -/
def xyOff (b e : Nat) (y : Bool) (i : Nat) : Nat := if y then R.ASSAY_Y b e i 0 else R.ASSAY_X b e i 0

/-- ASSAY_XY_WRITE (R224): a whole word is committed at once; a lower half is staged; an upper half commits with the
staged half of the same word, or is dropped. -/
def assayXyWrite (who : Who) (b e : Nat) (y : Bool) (i : Nat) (half : XyPart) (v : Nat) (s : State) : State :=
  let k := (4 * b + e) * 8 + 2 * who.code + bit y
  let w := if y then 64 else 32
  let stage := fun (s : State) (x : Option XyStage) =>
    ({ s with xyStages := NMap.set (fun _ => none) s.xyStages k x } : State)
  match half with
  | .whole => s.xyCommit b e y i v
  | .lower => stage s (some { word := i, low := v % 2 ^ w })
  | .upper =>
    match NMap.get (fun _ => none) s.xyStages k with
    | some x =>
      if x.word = i then (stage s none).xyCommit b e y i (x.low + v % 2 ^ w * 2 ^ w)
      else (stage s none).denied who (xyOff b e y i + w / 8) true
    | none => s.denied who (xyOff b e y i + w / 8) true

/-- ASSAY_XY_WRITE (R224). -/
def execAssayXyWrite (who : Who) (b : Fin 8) (e : Fin 4) (y : Bool) (i : BitVec 12) (half : XyPart) (v : BitVec 128)
    (s : State) : Host.Outcome State Fault Refusal := whenOpen who s (assayXyWrite who b e y i.toNat half v.toNat)

/-- The register of a MOV code (R236) as an unsigned word; codes 42 to 44 belong to a bundle in progress and hold
nothing else. -/
def AsRegs.code (r : AsRegs) (c : Nat) : Option Nat :=
  if c < 16 then some (r.dreg c)
  else if c < 20 then some (lowBits 48 (r.areg (c - 16)))
  else if c < 28 then some (r.preg (c - 20))
  else if c < 36 then some (lowBits 12 (r.mreg (c - 28)))
  else match c with
    | 36 => some r.idx
    | 37 => some r.lc
    | 38 => some (lowBits 48 r.best)
    | 39 => some (lowBits 48 r.next)
    | 40 => some (bitsOf r.hdr 5 8)
    | 41 => some (bitsOf r.hdr 0 3)
    | 45 => some r.hdr
    | 46 => some r.flags
    | _ => none

/-- Set the register of a MOV code to the low bits of a value; read-only codes stay. -/
def AsRegs.setCode (r : AsRegs) (c v : Nat) : AsRegs :=
  if c < 16 then r.setD c v
  else if c < 20 then r.setA (c - 16) (sext 48 v)
  else if c < 28 then r.setP (c - 20) v
  else if c < 36 then r.setM (c - 28) v
  else match c with
    | 36 => { r with idx := v % 256 }
    | 37 => { r with lc := v % 65536 }
    | 38 => { r with best := sext 48 v }
    | 39 => { r with next := sext 48 v }
    | 46 => { r with flags := v % 32 }
    | _ => r

/-- ASSAY_REG_ACCESS (R222, R236): registers are reached only while the engine is OFF, HALTED or FAULT. What codes 42 to
44 read as there is not stated, and is left free. -/
def assayRegAccess (who : Who) (b e r : Nat) (hi : Bool) (wr : Option Word) (s : State) : State :=
  let off := if hi then R.ASSAY_REG_HI b e r else R.ASSAY_REG_LO b e r
  let x := s.eng b e
  let (v, s) := match x.regs.code r with
    | some v => (v, s)
    | none =>
      let (w, s) := s.free
      (w.toNat, s)
  let part := if hi then v / 2 ^ 32 else v % 2 ^ 32
  match wr with
  | none => if x.runs then ({ s with readData := 0 } : State).denied who off false else { s with readData := part }
  | some d =>
    let new := if hi then v % 2 ^ 32 + d.toNat * 2 ^ 32 else v / 2 ^ 32 * 2 ^ 32 + d.toNat
    if x.runs then (if part = d.toNat then s else s.denied who off true)
    else s.onEng b e fun x =>
      let regs := x.regs.setCode r new
      { x with regs := regs, shadow := regs }

/-- ASSAY_REG_ACCESS (R222). -/
def execAssayRegAccess (who : Who) (b : Fin 8) (e : Fin 4) (r : Fin 47) (hi : Bool) (wr : Option Word) (s : State) :
    Host.Outcome State Fault Refusal := whenReached who s (assayRegAccess who b e r hi wr)

end Sys2Proof.Machine
end

