-- ==== Sys2Proof/Machine/AssayMac.lean ====
section
/-!
DEFINITION. The MAC slot (R233 to R238) and the address slot (R241, R242) of an Assay engine.
-/
namespace Sys2Proof.Machine

/-! ### Operands -/

/-- I and Q of a 36-bit complex word (R222). -/
def cI (v : Nat) : Int := sext 18 v
/-- Q of a 36-bit complex word. -/
def cQ (v : Nat) : Int := sext 18 (v / 262144)
/-- A 36-bit complex word of its components. -/
def mkC (i q : Int) : Nat := lowBits 18 i + 262144 * lowBits 18 q

/-- The X word that the bundle's address slot reads (R241): the pointer stands as at the start of the bundle. -/
def State.xOperand (s : State) (b e w : Nat) : Nat :=
  let a := (s.eng b e).regs.preg (bitsOf (adrOf w) 15 3)
  (s.eng b e).seen false a (s.xWord b e a)

/-- The Y word that the bundle's address slot reads, 72 bits (R241). -/
def State.yOperand (s : State) (b e w : Nat) : Nat :=
  let a := (s.eng b e).regs.preg (bitsOf (adrOf w) 8 3)
  (s.eng b e).seen true a (s.yWord b e a)

/-- The X operand of QUAD, CPX and SQACC: the X read, or Dn with XS = 1 (R233). -/
def State.macX (s : State) (b e w : Nat) : Nat :=
  let m := macOf w
  if bitAt m 23 then (s.eng b e).regs.dreg (bitsOf m 19 4) else s.xOperand b e w

/-- Coefficient `i` of a Y word. -/
def coef (y i : Nat) : Int := sext 18 (y / 2 ^ (18 * i))

/-- A result in a signed register (R234): saturated or wrapped where it exceeds it; the second part tells
saturation. -/
def fitReg (width : Nat) (sat : Bool) (v : Int) : Int × Bool :=
  let top := Int.ofNat (2 ^ (width - 1))
  if sat then if top ≤ v then (top - 1, true) else if v < -top then (-top, true) else (v, false)
  else (sext width (lowBits width v), false)

/-- narrow(v, SH) (R235): rounded convergently, then saturated or wrapped to signed 18 bits. -/
def narrow18 (sat : Bool) (v : Int) (sh : Nat) : Int × Bool := fitReg 18 sat (rndEven v (2 ^ sh))

/-- Flags Z, N and NQ of a result (R237); the other flags stay. -/
def AsRegs.setZN (r : AsRegs) (z n nq : Bool) : AsRegs :=
  { r with flags := r.flags / 8 * 8 + bit z + 2 * bit n + 4 * bit nq }

/-- A complex result goes to a D register and sets the flags (R237). -/
def AsRegs.putD (r : AsRegs) (d : Nat) (i q : Int) : AsRegs :=
  (r.setD d (mkC i q)).setZN (i == 0 && q == 0) (decide (i < 0)) (decide (q < 0))

/-- A result goes to an accumulator and sets the flags (R237). -/
def AsRegs.putA (r : AsRegs) (a : Nat) (v : Int) : AsRegs := (r.setA a v).setZN (v == 0) (decide (v < 0)) false

/-- A MAC slot with this opcode, if the engine performs it now. -/
def State.macNow (s : State) (b e op : Nat) : Option Nat :=
  (s.slotNow b e 1).filter fun w => macOp (macOf w) == op

/-- The MAC slot is performed; a saturation sets V for the bundle and SAT (R234, R240). -/
def State.macDone (s : State) (b e w : Nat) (sat : Bool) (f : AsRegs → AsRegs) : State :=
  let s := if sat then (s.engFlag b e Fd.ASSAY_FLAGS_SAT).onEng b e fun x => { x with sat := true } else s
  s.slotDone b e w 1 f

/-! ### Multiplying -/

/-- QUAD (R233, R234). -/
def quad (b e : Nat) (s : State) : State :=
  match s.macNow b e 1 with
  | none => s
  | some w =>
    let m := macOf w
    let r := (s.eng b e).regs
    let o := s.macX b e w
    let x := if bitAt m 18 then cQ o else cI o
    let y := s.yOperand b e w
    let res := (List.range 4).map fun i =>
      let p := x * coef y i
      fitReg 48 (bitAt m 15) ((if bitAt m 17 then r.areg i else 0) + (if bitAt m 16 then -p else p))
    s.macDone b e w (res.any (·.2)) fun q => foldAll (fun q i => q.setA i (res.getD i (0, false)).1) q (List.range 4)

/-- QUAD (R233). -/
def execQuad (b : Fin 8) (e : Fin 4) (s : State) : Host.Outcome State Fault Refusal := whenPowered s (quad b e)

/-- CPX (R233, R234). -/
def cpx (b e : Nat) (s : State) : State :=
  match s.macNow b e 2 with
  | none => s
  | some w =>
    let m := macOf w
    let r := (s.eng b e).regs
    let o := s.macX b e w
    let y := s.yOperand b e w
    let h := if bitAt m 18 then 2 else 0
    let (a, bb) := (cI o, cQ o)
    let (c, d) := (coef y h, coef y (h + 1))
    let (re, im) := if bitAt m 16 then (a * c + bb * d, bb * c - a * d) else (a * c - bb * d, a * d + bb * c)
    let k := if bitAt m 14 then 2 else 0
    let acc := fun i => if bitAt m 17 then r.areg i else 0
    let (vr, s1) := fitReg 48 (bitAt m 15) (acc k + re)
    let (vi, s2) := fitReg 48 (bitAt m 15) (acc (k + 1) + im)
    s.macDone b e w (s1 || s2) fun q => (q.setA k vr).setA (k + 1) vi

/-- CPX (R234). -/
def execCpx (b : Fin 8) (e : Fin 4) (s : State) : Host.Outcome State Fault Refusal := whenPowered s (cpx b e)

/-- SQACC (R233). -/
def sqacc (b e : Nat) (s : State) : State :=
  match s.macNow b e 3 with
  | none => s
  | some w =>
    let m := macOf w
    let o := s.macX b e w
    let a := bitsOf m 13 2
    let (v, sat) := fitReg 48 (bitAt m 15)
      ((if bitAt m 17 then (s.eng b e).regs.areg a else 0) + cI o * cI o + cQ o * cQ o)
    s.macDone b e w sat fun q => q.setA a v

/-- SQACC (R233). -/
def execSqacc (b : Fin 8) (e : Fin 4) (s : State) : Host.Outcome State Fault Refusal := whenPowered s (sqacc b e)

/-! ### Componentwise operations -/

/-- An operation on an accumulator or on both components of a D register (R233): `f` gives the exact result. -/
def State.macUnary (s : State) (b e w : Nat) (sat : Bool) (f : Int → Int) : State :=
  let m := macOf w
  let r := (s.eng b e).regs
  let d := bitsOf m 20 4
  let t := bitsOf m 16 4
  if bitAt m 10 then
    let (v, sv) := fitReg 48 sat (f (r.areg (t % 4)))
    s.macDone b e w sv fun q => q.putA (d % 4) v
  else
    let (i, s1) := fitReg 18 sat (f (cI (r.dreg t)))
    let (q, s2) := fitReg 18 sat (f (cQ (r.dreg t)))
    s.macDone b e w (s1 || s2) fun x => x.putD d i q

/-- ADD and SUB (R233): with TY the second operand is c0 + jc1 of the Y word, with AM all are accumulators. -/
def State.macSum (s : State) (b e w : Nat) (f : Int → Int → Int) : State :=
  let m := macOf w
  let r := (s.eng b e).regs
  let d := bitsOf m 20 4
  let x := bitsOf m 16 4
  let t := bitsOf m 12 4
  let sat := bitAt m 9
  if bitAt m 10 then
    let (v, sv) := fitReg 48 sat (f (r.areg (x % 4)) (r.areg (t % 4)))
    s.macDone b e w sv fun q => q.putA (d % 4) v
  else
    let y := s.yOperand b e w
    let (ti, tq) := if bitAt m 11 then (coef y 0, coef y 1) else (cI (r.dreg t), cQ (r.dreg t))
    let (i, s1) := fitReg 18 sat (f (cI (r.dreg x)) ti)
    let (q, s2) := fitReg 18 sat (f (cQ (r.dreg x)) tq)
    s.macDone b e w (s1 || s2) fun z => z.putD d i q

/-- ASSAY_ADD (R233). -/
def assayAdd (b e : Nat) (s : State) : State :=
  match s.macNow b e 4 with
  | none => s
  | some w => s.macSum b e w fun x y => x + y

/-- ASSAY_ADD (R233). -/
def execAssayAdd (b : Fin 8) (e : Fin 4) (s : State) : Host.Outcome State Fault Refusal := whenPowered s (assayAdd b e)

/-- ASSAY_SUB (R233). -/
def assaySub (b e : Nat) (s : State) : State :=
  match s.macNow b e 5 with
  | none => s
  | some w => s.macSum b e w fun x y => x - y

/-- ASSAY_SUB (R233). -/
def execAssaySub (b : Fin 8) (e : Fin 4) (s : State) : Host.Outcome State Fault Refusal := whenPowered s (assaySub b e)

/-- ABS (R233). -/
def abs (b e : Nat) (s : State) : State :=
  match s.macNow b e 6 with
  | none => s
  | some w => s.macUnary b e w (bitAt (macOf w) 9) fun x => Int.ofNat x.natAbs

/-- ABS (R233). -/
def execAbs (b : Fin 8) (e : Fin 4) (s : State) : Host.Outcome State Fault Refusal := whenPowered s (abs b e)

/-- ASSAY_SHL (R233). -/
def assayShl (b e : Nat) (s : State) : State :=
  match s.macNow b e 7 with
  | none => s
  | some w => s.macUnary b e w (bitAt (macOf w) 9) fun x => x * Int.ofNat (2 ^ bitsOf (macOf w) 12 4)

/-- ASSAY_SHL (R233). -/
def execAssayShl (b : Fin 8) (e : Fin 4) (s : State) : Host.Outcome State Fault Refusal := whenPowered s (assayShl b e)

/-- ASSAY_SHR (R233): truncating towards −∞. -/
def assayShr (b e : Nat) (s : State) : State :=
  match s.macNow b e 8 with
  | none => s
  | some w => s.macUnary b e w false fun x => x / Int.ofNat (2 ^ bitsOf (macOf w) 12 4)

/-- ASSAY_SHR (R233). -/
def execAssayShr (b : Fin 8) (e : Fin 4) (s : State) : Host.Outcome State Fault Refusal := whenPowered s (assayShr b e)

/-- RND (R235). -/
def rnd (b e : Nat) (s : State) : State :=
  match s.macNow b e 9 with
  | none => s
  | some w =>
    let m := macOf w
    let r := (s.eng b e).regs
    let sh := bitsOf m 10 6
    let (i, s1) := narrow18 (bitAt m 9) (r.areg (bitsOf m 18 2)) sh
    let (q, s2) := narrow18 (bitAt m 9) (r.areg (bitsOf m 16 2)) sh
    s.macDone b e w (s1 || s2) fun x => x.putD (bitsOf m 20 4) i q

/-- RND (R235). -/
def execRnd (b : Fin 8) (e : Fin 4) (s : State) : Host.Outcome State Fault Refusal := whenPowered s (rnd b e)

/-- The source of a MOV (R236). -/
inductive MovSrc where
  /-- A D register or a complex code. -/
  | complex (i q : Int)
  /-- A, BEST or NEXT. -/
  | wide (v : Int)
  /-- Any other register. -/
  | plain (v : Int)

/-- Read the source of a MOV (R236). -/
def State.movSrc (s : State) (b e w c : Nat) : MovSrc :=
  let r := (s.eng b e).regs
  let y := s.yOperand b e w
  if c < 16 then .complex (cI (r.dreg c)) (cQ (r.dreg c))
  else if c < 20 then .wide (r.areg (c - 16))
  else if c < 28 then .plain (Int.ofNat (r.preg (c - 20)))
  else if c < 36 then .plain (r.mreg (c - 28))
  else match c with
    | 38 => .wide r.best
    | 39 => .wide r.next
    | 42 => .complex (coef y 0) (coef y 1)
    | 43 => .complex (coef y 2) (coef y 3)
    | 44 => .complex (cI (s.xOperand b e w)) (cQ (s.xOperand b e w))
    | _ => .plain (Int.ofNat ((r.code c).getD 0))

/-- MOV (R235 to R237). -/
def mov (b e : Nat) (s : State) : State :=
  match s.macNow b e 10 with
  | none => s
  | some w =>
    let m := macOf w
    let dst := bitsOf m 18 6
    let sh := bitsOf m 6 6
    let src := s.movSrc b e w (bitsOf m 12 6)
    if dst < 16 then
      let (i, q, sat) := match src with
        | .complex i q => (i, q, false)
        | .wide v => ((narrow18 (bitAt m 5) v sh).1, 0, (narrow18 (bitAt m 5) v sh).2)
        | .plain v => (sext 18 (lowBits 18 v), 0, false)
      s.macDone b e w sat fun x => x.putD dst i q
    else
      let full := match src with
        | .complex i _ => i
        | .wide v => v
        | .plain v => v
      if dst < 20 then s.macDone b e w false fun x => x.putA (dst - 16) full
      else if dst = 38 then s.macDone b e w false fun x => { x with best := full }
      else if dst = 39 then s.macDone b e w false fun x => { x with next := full }
      else
        let (v, sat) := match src with
          | .wide v => narrow18 (bitAt m 5) v sh
          | _ => (full, false)
        s.macDone b e w sat fun x => x.setCode dst (lowBits 32 v)

/-- MOV (R236). -/
def execMov (b : Fin 8) (e : Fin 4) (s : State) : Host.Outcome State Fault Refusal := whenPowered s (mov b e)

/-- CLR (R233). -/
def clr (b e : Nat) (s : State) : State :=
  match s.macNow b e 11 with
  | none => s
  | some w =>
    let m := macOf w
    let k := bitsOf m 18 4
    s.macDone b e w false fun x =>
      match bitsOf m 22 2 with
      | 0 => x.setA (k % 4) 0
      | 1 => { x with best := -(2 ^ 47), next := -(2 ^ 47) }
      | 2 => { x with best := 2 ^ 47 - 1, next := 2 ^ 47 - 1 }
      | _ => x.setD k 0

/-- CLR (R233). -/
def execClr (b : Fin 8) (e : Fin 4) (s : State) : Host.Outcome State Fault Refusal := whenPowered s (clr b e)

/-- MINX and MAXX (R238): `beats` says whether the first value takes the place of the second. -/
def State.extremum (s : State) (b e w : Nat) (beats : Int → Int → Bool) : State :=
  let m := macOf w
  let r := (s.eng b e).regs
  let v := r.areg (bitsOf m 22 2)
  let p := bitsOf m 18 3
  let idx := if bitAt m 21 then r.preg p % 256 else r.lc % 256
  let mx := fun (x : AsRegs) (f : Bool) => { x with flags := x.flags - bitsOf x.flags 4 1 * 16 + 16 * bit f }
  s.macDone b e w false fun x =>
    let x := if bitAt m 14 then x.bump r p (bitsOf m 15 3) else x
    if beats v r.best then mx { x with next := r.best, best := v, idx := idx } true
    else if beats v r.next then mx { x with next := v } false
    else mx x false

/-- MINX (R238). -/
def minx (b e : Nat) (s : State) : State :=
  match s.macNow b e 12 with
  | none => s
  | some w => s.extremum b e w fun x y => decide (x < y)

/-- MINX (R238). -/
def execMinx (b : Fin 8) (e : Fin 4) (s : State) : Host.Outcome State Fault Refusal := whenPowered s (minx b e)

/-- MAXX (R238). -/
def maxx (b e : Nat) (s : State) : State :=
  match s.macNow b e 13 with
  | none => s
  | some w => s.extremum b e w fun x y => decide (y < x)

/-- MAXX (R238). -/
def execMaxx (b : Fin 8) (e : Fin 4) (s : State) : Host.Outcome State Fault Refusal := whenPowered s (maxx b e)

/-! ### The address slot -/

/-- An address slot of this form, if the engine performs it now. -/
def State.adrNow (s : State) (b e form : Nat) : Option Nat :=
  (s.slotNow b e 2).filter fun w => adrForm (adrOf w) == form

/-- The post-modification of a Y read, where the slot has one (R241). -/
def AsRegs.yStep (r old : AsRegs) (a : Nat) : AsRegs :=
  if bitAt a 11 then r.bump old (bitsOf a 8 3) (bitsOf a 5 3) else r

/-- The post-modification of an X access (R241). -/
def AsRegs.xStep (r old : AsRegs) (a : Nat) : AsRegs := r.bump old (bitsOf a 15 3) (bitsOf a 12 3)

/-- Y_READ (R241): the word goes to the MAC slot; the pointer moves on. -/
def yRead (b e : Nat) (s : State) : State :=
  match s.adrNow b e 0 with
  | none => s
  | some w => s.slotDone b e w 2 fun r => r.yStep (s.eng b e).regs (adrOf w)

/-- Y_READ (R241). -/
def execYRead (b : Fin 8) (e : Fin 4) (s : State) : Host.Outcome State Fault Refusal := whenPowered s (yRead b e)

/-- X_READ (R241), with a Y read where the slot asks for one. -/
def xRead (b e : Nat) (s : State) : State :=
  match s.adrNow b e 1 with
  | none => s
  | some w =>
    let old := (s.eng b e).regs
    s.slotDone b e w 2 fun r => (r.xStep old (adrOf w)).yStep old (adrOf w)

/-- X_READ (R241). -/
def execXRead (b : Fin 8) (e : Fin 4) (s : State) : Host.Outcome State Fault Refusal := whenPowered s (xRead b e)

/-- X_WRITE (R241, R242): X[Px] takes Ds at the end of the bundle. -/
def xWrite (b e : Nat) (s : State) : State :=
  match s.adrNow b e 2 with
  | none => s
  | some w =>
    let old := (s.eng b e).regs
    let a := adrOf w
    let s := s.onEng b e fun x => { x with xw := some (old.preg (bitsOf a 15 3), old.dreg (bitsOf a 1 4)) }
    s.slotDone b e w 2 fun r => (r.xStep old a).yStep old a

/-- X_WRITE (R242). -/
def execXWrite (b : Fin 8) (e : Fin 4) (s : State) : Host.Outcome State Fault Refusal := whenPowered s (xWrite b e)

/-- LDI (R241): LC takes 4,096 for an immediate of 0. -/
def ldi (b e : Nat) (s : State) : State :=
  match s.adrNow b e 3 with
  | none => s
  | some w =>
    let g := bitsOf (adrOf w) 13 5
    let v := bitsOf (adrOf w) 0 12
    s.slotDone b e w 2 fun r =>
      if g < 8 then r.setP g v
      else if g < 16 then r.setM (g - 8) v
      else { r with lc := if v = 0 then 4096 else v }

/-- LDI (R241). -/
def execLdi (b : Fin 8) (e : Fin 4) (s : State) : Host.Outcome State Fault Refusal := whenPowered s (ldi b e)

end Sys2Proof.Machine
end

