-- ==== Sys2Proof/Machine/Fabric.lean ====
section
/-!
DEFINITION. The event fabric and its Joiner cells (15): one fabric cycle, the consumers, and the LEDs. The command of a
fabric-cycle boundary evaluates the cycle that ends there and delivers its events, which the consumers take at that
boundary (R383).
-/
namespace Sys2Proof.Machine

/-- The Bench whose disable holds a producer line at 0, if any (R381, R384). -/
def lineBench (l : Nat) : Option Nat :=
  if l < 256 then some (l / 32)
  else if l < 320 then some ((l - 256) / 8)
  else if l < 328 then some (l - 320)
  else if l < 336 then some (l - 328)
  else none

/-- The AON level that drives a level line: bits of the panel word, PRESENTk in bit k, SAFE_N and LOAD_N inverted in
bits 16 and 17 (R384, R407). -/
def lineAon (l : Nat) : Option Nat :=
  if l = 348 then some 16 else if l = 349 then some 17 else if 352 ≤ l && decide (l < 368) then some (l - 352) else none

/-- The panel word as producer levels: EV_PANEL_SAFE and EV_PANEL_LOAD are 1 while their pins are low (R384). -/
def panelLevels (panel : Nat) : Nat := panel ^^^ 0x30000

/-- A producer line goes through one cycle (R382). `want` is the level or the demand of the cycle, `lvl` whether the
line is a level producer, `free` whether the cycle makes no event (the first since the core clock started). Answers the
line, whether it rose and whether a rise was newly held. -/
def Line.cycle (x : Line) (lvl want free : Bool) : Line × Bool × Bool :=
  let n := min 8 (x.since + 1)
  if free then ({ level := want, since := 8 }, false, false)
  else if x.held != 0 then
    if n = 8 then
      if x.held = 1 || want then
        ({ level := true, since := 0, held := 0, train := x.train + 1 }, true, false)
      else ({ level := false, since := n, held := 0, train := x.train }, false, false)
    else ({ x with level := false, since := n }, false, false)
  else if want && !(lvl && x.level) then
    if n = 8 then ({ level := true, since := 0, held := 0, train := 0 }, true, false)
    else ({ level := false, since := n, held := if lvl then 2 else 1, train := x.train }, false, true)
  else ({ x with level := want, since := n }, false, false)

/-- The lines of a reach set (R390): the line that reach index `r` of cell `j` selects. -/
def reachLine (j r : Nat) : Nat :=
  if j < 16 then if r < 16 then 352 + r else 448 + (r - 16)
  else if j < 24 then
    if r < 8 then 336 + r
    else if r < 16 then [344, 345, 346, 347, 348, 349, 350, 351].getD (r - 8) 0
    else 448 + (r - 16)
  else
    let b := (j - 24) / 5
    if r < 8 then 256 + 8 * b + r
    else if r = 8 then 320 + b
    else if r = 9 then 328 + b
    else if r < 18 then 336 + (r - 10)
    else if r = 18 then 344
    else if r < 27 then 448 + 16 + (r - 19)
    else 448 + 24 + 5 * b + (r - 27)

/-- The state of a producer line. -/
def lineGet (m : NMap Line) (l : Nat) : Line := NMap.get (fun _ => {}) m l

/-- The look-up result of cell `j` on the given line levels (R389). -/
def State.cellResult (s : State) (j : Nat) (lines : NMap Line) : Bool :=
  let sel := fun f => bit (lineGet lines (reachLine j (s.fld (R.EVT_CELL_IN j) f))).level
  s.fbit (R.EVT_CELL_CFG j) Fd.EVT_CELL_CFG_LUT
    (sel Fd.EVT_CELL_IN_A + 2 * sel Fd.EVT_CELL_IN_B + 4 * sel Fd.EVT_CELL_IN_C + 8 * sel Fd.EVT_CELL_IN_D)

/-- What a cycle has found: the lines, the lines that rose, and the rises newly held. -/
structure CycleAcc where
  lines : NMap Line := []
  rose : List Nat := []
  held : Nat := 0
  deriving DecidableEq, Repr

/-- Put one line through the cycle. -/
def CycleAcc.line (a : CycleAcc) (old : NMap Line) (free lvl : Bool) (l : Nat) (want : Bool) : CycleAcc :=
  let (x, r, h) := (lineGet old l).cycle lvl want free
  { lines := NMap.set (fun _ => {}) a.lines l x
    rose := if r then a.rose ++ [l] else a.rose
    held := a.held + bit h }

/-- The line belongs to a Bench that is disabled: it holds 0, and a held rise is gone (R381). -/
def State.lineOff (s : State) (l : Nat) : Bool :=
  match lineBench l with
  | some b => !s.benchOn b
  | none => false

/-- The level or demand of a line that is no Joiner output, in the cycle that ends at this boundary (R381, R383,
R384). -/
def State.lineWant (s : State) (cyc l : Nat) : Bool :=
  if s.lineOff l then false
  else match lineAon l with
    | some i => bitAt s.fabric.aonSeen i
    | none => s.fabric.demand.any fun d => d.1 == l && decide (d.2 ≤ cyc)

/-- The Joiner outputs on the given lines: FF and FILTER cells as they stand, COMB cells from the lines (R391). -/
def State.joinPass (s : State) (old : NMap Line) (free : Bool) (base a : CycleAcc) : CycleAcc :=
  foldAll (fun acc j =>
    let out :=
      if s.fld (R.EVT_CELL_CFG j) Fd.EVT_CELL_CFG_MODE = 0 then s.cellResult j a.lines
      else (NMap.get (fun _ => {}) s.fabric.cells j : Cell).out
    acc.line old free true (448 + j) out) base (List.range 64)

/-- A cell after the cycle (R391): COMB shows the result, FF takes it, FILTER counts. -/
def Cell.after (x : Cell) (mode : Nat) (minWidth strobe r : Bool) (n : Nat) : Cell :=
  if mode = 2 then
    if minWidth then
      let c := if strobe then min n (x.count + 1) else x.count
      if r != x.out && decide (n ≤ c) then { out := r, count := 0 } else { x with count := c }
    else if r = x.out then { x with count := 0 }
    else
      let c := if strobe then x.count + 1 else x.count
      if n ≤ c then { out := r, count := 0 } else { x with count := c }
  else { out := r, count := 0 }

/-- Candidate `n` of consumer input `c` (R385). -/
def candLine (c n : Nat) : Nat :=
  if c < 64 then
    let b := c / 8
    let k := c % 8
    if n < 8 then 336 + n else if n = 8 then 344 else 256 + 8 * ((b + n - 8) % 8) + k
  else if c < 192 then
    let b := (c - 64) / 16
    let j := (c - 64) % 16
    if n < 2 then 32 * b + 2 * j + n
    else if n < 10 then 256 + 8 * b + (n - 2)
    else if n = 10 then 336 + j % 8
    else if n = 11 then 344
    else if n < 14 then 32 * ((b + 1) % 8) + 2 * j + (n - 12)
    else if n = 14 then 328 + b
    else 320 + b
  else if c < 224 then
    if n < 8 then 336 + n else 256 + 8 * ((c - 192) / 4) + (n - 8)
  else if c < 232 then
    if n < 8 then 256 + 8 * n + (c - 224) else 320 + (n - 8)
  else if c < 240 then
    if n < 8 then 336 + n else 256 + 8 * (n - 8) + (c - 232)
  else if c < 248 then
    if n < 8 then 328 + n
    else [347, 345, 346, 348, 350, 351, 344, 336 + (c - 240) % 4].getD (n - 8) 0
  else if n < 8 then 320 + n
  else 328 + (n - 8)

/-- The number of enabled sources of consumer input `c` that made an event (R385, R387). -/
def State.hits (s : State) (c : Nat) (rose : List Nat) : Nat :=
  ((pick 16 fun n => s.fbit (R.EVT_CONS_EN c) Fd.EVT_CONS_EN_CAND n && rose.contains (candLine c n)).length) +
    ((pick 64 fun j =>
      rose.contains (448 + j) &&
        (if j < 32 then s.fbit (R.EVT_CONS_JLO c) Fd.EVT_CONS_JLO_JOIN j
         else s.fbit (R.EVT_CONS_JHI c) Fd.EVT_CONS_JHI_JOIN (j - 32))).length)

/-- Is an edge input busy (R385, R388)? -/
def State.consBusy (s : State) (c : Nat) : Bool :=
  if c < 64 then bitAt (s.fm (c / 8)).evLatch (c % 8)
  else if c < 192 then NMap.get (fun _ => false) s.dec.oltEv (c - 64)
  else if c < 224 then false
  else if c < 232 then decide (0 < NMap.get (fun _ => 0) s.fabric.trigBusy (c - 224))
  else if c < 240 then s.slow.loads.any fun r => r.fabric && r.group == c - 232
  else if c < 244 then false
  else if c < 248 then s.fbit R.EVT_IRQ Fd.EVT_IRQ_PEND (c - 244)
  else false

/-- The trimmed tick of an output trigger edge in sixteenths (R106): `t` + 24 ticks + DLY on the grid that EPOCH_TRIM
shifts. -/
def State.trigAt (s : State) (k t : Nat) : Int :=
  Int.ofNat (16 * (t + 24) + s.fld (R.TIME_TRIG_CTL k) Fd.TIME_TRIG_CTL_DLY) + s.time.trimNow

/-- Line `k` is driven high for 32 ticks from the edge of tick `t` (R106, R386). -/
def State.trigPulse (s : State) (k t : Nat) : State :=
  { s with time := { s.time with trigQ := s.time.trigQ ++
    [{ line := k, at16 := s.trigAt k t, level := true },
     { line := k, at16 := s.trigAt k (t + 32), level := false }] } }

/-- A scheduled event on producer line `line` at tick `t` reaches the output trigger lines with SRC = 0 that enable it
(R106, R385). -/
def State.trigScheduled (s : State) (line t : Nat) : State :=
  foldAll (fun s k =>
    if s.flag (R.TIME_TRIG_CTL k) Fd.TIME_TRIG_CTL_OUT && !s.flag (R.TIME_TRIG_CTL k) Fd.TIME_TRIG_CTL_SRC &&
        (pick 16 fun n => s.fbit (R.EVT_CONS_EN (224 + k)) Fd.EVT_CONS_EN_CAND n && candLine (224 + k) n == line) != []
    then s.trigPulse k t else s) s (List.range 8)

/-- An event sets a Foreman event-input latch (R297): with its IRQEN bit set it requests the EVENT trap. -/
def State.fmEvent (s : State) (b k : Nat) : State :=
  let s := s.onFm b fun f =>
    { f with evLatch := setBit f.evLatch k, evTick := NMap.set (fun _ => 0) f.evTick k s.clk.time }
  if s.fbit (R.FM_EVIN b) Fd.FM_EVIN_IRQEN k then s.fmTrap b 8 else s

/-- An event reaches lane event input `i` of Bench `b`: every lane whose LSEL field names it latches it (R386). -/
def State.laneEvent (s : State) (b i : Nat) : State :=
  foldAll (fun s m =>
    let sel := bitsOf (if m < 16 then (s.reg (R.EVT_LSEL_LO b)).toNat else (s.reg (R.EVT_LSEL_HI b)).toNat)
      (2 * (m % 16)) 2
    if sel = i then
      (if (s.lane b m).event then s else s.lateJump b m 7 0 s.clk.time true).onLane b m fun x => { x with event := true }
    else s) s (List.range 32)

/-- SAFE_N is low (R404, R407). -/
def State.safeLow (s : State) : Bool := !bitAt s.slow.panel 16

/-- A strobe of load group `g` (R398, R404): it acts at the first update boundary at least 2 AON cycles on; while SAFE_N
is low it is ignored and sets LOAD_BLOCK. -/
def State.strobeGroup (s : State) (g : Nat) (fabric : Bool) : State :=
  if s.safeLow then s.raise R.BIAS_STATUS Fd.BIAS_STATUS_LOAD_BLOCK
  else { s with slow := { s.slow with
    loads := s.slow.loads ++ [{ group := g, after := s.clk.now + 240, fabric := fabric }] } }

/-- What one event does at an edge input (R386, R398). -/
def State.consAct (s : State) (c : Nat) : State :=
  if c < 64 then s.fmEvent (c / 8) (c % 8)
  else if c < 192 then s.oltEvPut (c - 64) true
  else if c < 224 then s.laneEvent ((c - 192) / 4) ((c - 192) % 4)
  else if c < 232 then
    let k := c - 224
    let s : State := { s with fabric := { s.fabric with trigBusy := NMap.set (fun _ => 0) s.fabric.trigBusy k 8 } }
    if s.flag (R.TIME_TRIG_CTL k) Fd.TIME_TRIG_CTL_OUT && s.flag (R.TIME_TRIG_CTL k) Fd.TIME_TRIG_CTL_SRC then
      s.trigPulse k s.clk.time
    else s
  else if c < 240 then s.strobeGroup (c - 232) true
  else if c < 244 then
    { s with fabric := { s.fabric with
      ledUntil := NMap.set (fun _ => 0) s.fabric.ledUntil (c - 240) (s.clk.now + 300000000) } }
  else
    (s.orFld R.EVT_IRQ Fd.EVT_IRQ_PEND (2 ^ (c - 244))).irq (26 + (c - 244))

/-- Set a flag of a consumer input and its summary (R387, R388). -/
def State.consFlag (s : State) (c : Nat) (f g : Bits) : State := (s.raise (R.EVT_CONS_EN c) f).raise R.EVT_FLAGS g

/-- The events of a cycle reach consumer input `c` (R385 to R388). -/
def State.consume (s : State) (rose : List Nat) (c : Nat) : State :=
  let n := s.hits c rose
  if n = 0 then s
  else if 248 ≤ c then
    let s := s.wrapAdd (R.EVT_CNT (c - 248)) Fd.EVT_CNT_COUNT (min 3 n)
    if 4 ≤ n then s.consFlag c Fd.EVT_CONS_EN_COINCIDE Fd.EVT_FLAGS_COINCIDE else s
  else if s.consBusy c then s.consFlag c Fd.EVT_CONS_EN_OVERRUN Fd.EVT_FLAGS_OVERRUN
  else
    let s := s.consAct c
    if 2 ≤ n then s.consFlag c Fd.EVT_CONS_EN_COINCIDE Fd.EVT_FLAGS_COINCIDE else s

/-- The lines and cells of the fabric cycle that ends at this boundary (R381, R382, R389 to R392): the state with both
moved on and the held rises counted, and the lines that rose. -/
def State.fabricEval (s : State) : State × List Nat :=
  let free := !s.fabric.started
  let old := s.fabric.lines
  let cyc := s.clk.time / 8 - 1
  let base := foldAll (fun acc l =>
    let was := if s.lineOff l then NMap.upd (fun _ => {}) old l fun x => { x with held := 0 } else old
    acc.line was free (lineAon l).isSome l (s.lineWant cyc l)) ({} : CycleAcc) (List.range 368)
  let a := foldAll (fun a (_ : Nat) => s.joinPass old free base a) (s.joinPass old free base base) (List.range 4)
  let strobe := decide (0 < s.clk.phAon) && decide (s.clk.phAon ≤ 8)
  let cells := foldAll (fun m j =>
    let cfg := R.EVT_CELL_CFG j
    let mode := s.fld cfg Fd.EVT_CELL_CFG_MODE
    let st := !s.flag cfg Fd.EVT_CELL_CFG_FDOM || strobe
    let n := max 1 (s.fld (R.EVT_CELL_FILT j) Fd.EVT_CELL_FILT_N)
    NMap.upd (fun _ => {}) m j fun x =>
      x.after mode (s.flag cfg Fd.EVT_CELL_CFG_FKIND) st (s.cellResult j a.lines) n) s.fabric.cells (List.range 64)
  let s := s.satAdd R.EVT_RATE_HIT Fd.EVT_RATE_HIT_COUNT a.held
  ({ s with fabric := { s.fabric with
      lines := a.lines
      cells := cells
      demand := s.fabric.demand.filter fun d => decide (cyc < d.2)
      started := true
      last := s.clk.now + 1
      aonSeen := s.fabric.aonNext
      aonNext := panelLevels s.slow.panel
      trigBusy := (s.fabric.trigBusy.map fun e => (e.1, e.2 - 1)).filter fun e => e.2 != 0 } }, a.rose)

/-- LOOP_SUSPECT (R394): a line has made its 128th consecutive held rise. -/
def State.loopSuspect (s : State) (rose : List Nat) : State :=
  foldAll (fun s l =>
    if (lineGet s.fabric.lines l).train = 128 then
      (s.raise R.EVT_FLAGS Fd.EVT_FLAGS_LOOP_SUSPECT).setFld R.EVT_LOOP_LINE Fd.EVT_LOOP_LINE_LINE l
    else s) s rose

/-- FABRIC_CYCLE (R381): at a fabric-cycle boundary of a running fabric, once. -/
def fabricCycle (s : State) : State :=
  if !s.clk.fabricRuns || s.clk.time % 8 != 0 || s.fabric.last == s.clk.now + 1 then s
  else
    let (s, rose) := s.fabricEval
    foldAll (fun s c => s.consume rose c) (s.loopSuspect rose) (List.range 256)

/-- FABRIC_CYCLE (R381). -/
def execFabricCycle (s : State) : Host.Outcome State Fault Refusal := whenPowered s fabricCycle

/-- LED_TIMEOUT (R386): 100 ms after its last event a LED goes dark. -/
def ledTimeout (k : Nat) (s : State) : State :=
  let t := NMap.get (fun _ => 0) s.fabric.ledUntil k
  if t != 0 && decide (t ≤ s.clk.now) then
    { s with fabric := { s.fabric with ledUntil := NMap.set (fun _ => 0) s.fabric.ledUntil k 0 } }
  else s

/-- LED_TIMEOUT (R386). -/
def execLedTimeout (k : Fin 4) (s : State) : Host.Outcome State Fault Refusal := whenPowered s (ledTimeout k)

end Sys2Proof.Machine
end

