-- ==== Sys2Proof/Machine/Cells.lean ====
section
/-!
DEFINITION. The Crier cell (R272): its CRC-16, how a cell's 128 bits are put together and how a received one is read.
-/
namespace Sys2Proof.Machine

/-- One bit of CRC-16 with polynomial 0x1021, the highest bit first (R272). -/
def crcStep (c : Nat) (b : Bool) : Nat :=
  let top := decide (32768 ≤ c) != b
  let c := 2 * c % 65536
  if top then c ^^^ 0x1021 else c

/-- CRC-16 of the low `n` bits of a number, from the highest, with initial value 0xFFFF (R272). -/
def crc16 (n w : Nat) : Nat := (List.range n).foldl (fun c k => crcStep c (bitAt w (n - 1 - k))) 0xFFFF

/-- The fields of a cell (R272). -/
structure CrierCell where
  /-- TYPE: control. -/
  control : Bool
  /-- V of a data cell; KIND in bits [6:4] of a control cell. -/
  v : Nat
  src : Nat
  hop : Nat
  seq : Nat
  /-- Slots 0 to 6: GDS index and value. -/
  slots : List (Nat × Bool)
  deriving DecidableEq, Repr

/-- Bits [127:16] of a cell (R272): slot k stands at [106 − 13k : 94 − 13k]. -/
def CrierCell.body (c : CrierCell) : Nat :=
  2 ^ 111 * bit c.control + 2 ^ 104 * (c.v % 128) + 2 ^ 98 * (c.src % 64) + 2 ^ 96 * (c.hop % 4) +
    2 ^ 91 * (c.seq % 32) +
    (List.range 7).foldl (fun a k =>
      let u := c.slots.getD k (0, false)
      a + 2 ^ (78 - 13 * k) * (2 * (u.1 % 4096) + bit u.2)) 0

/-- The cell as sent (R272). -/
def CrierCell.word (c : CrierCell) : Nat := 65536 * c.body + crc16 112 c.body

/-- The CRC of a received cell is good (R272). -/
def cellGood (w : Nat) : Bool := crc16 112 (bitsOf w 16 112) == bitsOf w 0 16

/-- The fields of a received cell (R272). -/
def cellOf (w : Nat) : CrierCell where
  control := bitAt w 127
  v := bitsOf w 120 7
  src := bitsOf w 114 6
  hop := bitsOf w 112 2
  seq := bitsOf w 107 5
  slots := (List.range 7).map fun k => (bitsOf w (95 - 13 * k) 12, bitAt w (94 - 13 * k))

/-- KIND of a control cell: 0 IDLE, 1 REFRESH, 2 ECHO_REQ, 3 ECHO_ANS (R272). -/
def CrierCell.kind (c : CrierCell) : Nat := c.v / 16

/-- The updates that a data cell holds, in slot order (R272). -/
def CrierCell.updates (c : CrierCell) : List (Nat × Bool) :=
  ((List.range 7).filter fun k => bitAt c.v k).map fun k => c.slots.getD k (0, false)

end Sys2Proof.Machine
end

