-- ==== Sys2Proof/Machine/Decision.lean ====
section
/-!
DEFINITION. The decision block's commands (10): words on a Bench's decision bus (R256), lookups and actions (R263,
R264), and the Crier ports (R270 to R277).
-/
namespace Sys2Proof.Machine

/-! ### The decision bus -/

/-- The publication map of a Bench publishes a word's bits in ascending entry order; a VOID word publishes nothing
(R268). -/
def State.publishWord (s : State) (b c w : Nat) : State :=
  if bitAt w 11 then s
  else
    foldAll (fun s e =>
      let r := R.DEC_PUB b e
      if s.flag r Fd.DEC_PUB_EN && s.fld r Fd.DEC_PUB_CH == c then
        s.publish (s.fld r Fd.DEC_PUB_GDS) (s.fld r Fd.DEC_PUB_BIT < 12 && bitAt w (s.fld r Fd.DEC_PUB_BIT)) 0 b
      else s) s (List.range 64)

/-- The channel latch takes a word (R256). -/
def State.latchPut (s : State) (b c w : Nat) : State :=
  let k := 32 * b + c
  let at_ := NMap.get (fun _ => (0, 0)) s.dec.latchAt k
  let old := if at_.1 = s.clk.time + 1 then at_.2 else NMap.get (fun _ => 0) s.dec.latch k
  { s with dec := { s.dec with
      latch := NMap.set (fun _ => 0) s.dec.latch k (w % 4096)
      latchAt := NMap.set (fun _ => (0, 0)) s.dec.latchAt k (s.clk.time + 1, old) } }

/-- The Foreman's NEW bit of a channel is set (R289). -/
def State.fmWord (s : State) (b c : Nat) : State :=
  s.onFm b fun f =>
    { f with newBits := setBit f.newBits c, newTick := NMap.set (fun _ => 0) f.newTick c s.clk.time }

/-- DECISION_WORD (R256, R257): the oldest word of the Bench's bus that is present reaches its window's waiters, the
channel latch, the Foreman, the lookup tags and the publication map. -/
def decisionWord (b : Nat) (s : State) : State :=
  match s.dec.bus.find? fun w => w.bench == b && decide (w.due ≤ s.clk.time) with
  | none => s
  | some w =>
    let s : State := { s with dec := { s.dec with bus := s.dec.bus.erase w } }
    let s := s.onChan b w.ch fun x =>
      { x with wins := x.wins.map fun v => if v.ser = w.win then { v with decided := some (w.due, w.word) } else v }
    ((((s.latchPut b w.ch w.word).fmWord b w.ch).tagsChan b w.ch).publishWord b w.ch w.word)

/-- DECISION_WORD (R256). -/
def execDecisionWord (b : Fin 8) (s : State) : Host.Outcome State Fault Refusal := whenPowered s (decisionWord b)

/-! ### The outcome lookup table -/

/-- Selector `k` of a Bench's gather map. -/
def State.selector (s : State) (b k : Nat) : Nat :=
  s.fld (R.DEC_GATHER b (k / 2)) (if k % 2 = 0 then Fd.DEC_GATHER_SEL_A else Fd.DEC_GATHER_SEL_B)

/-- A micro-register as a gather at the present tick sees it: a write at the tick is not seen yet (R263). -/
def State.uSeen (s : State) (b i : Nat) : Nat :=
  let w := NMap.get (fun _ => (0, 0)) (s.fm b).uAt i
  if w.1 = s.clk.time + 1 then w.2 else (s.reg (R.FM_U b i)).toNat

/-- The bit that a selector gathers (R259); an encoding that is not listed reads as 0. -/
def State.gatherBit (s : State) (b sel : Nat) : Bool :=
  if bitAt sel 12 then s.gdsGather (bitsOf sel 0 12)
  else if !bitAt sel 11 then
    bitsOf sel 9 2 = 0 && bitsOf sel 0 4 < 12 && bitAt (s.latchSeen b (bitsOf sel 4 5) s.clk.time) (bitsOf sel 0 4)
  else
    match bitsOf sel 9 2 with
    | 0 => s.oltEvSeen (16 * b + bitsOf sel 0 4)
    | 1 => bitAt (s.uSeen b (bitsOf sel 5 3)) (bitsOf sel 0 5)
    | 2 => bitAt sel 0
    | _ => false

/-- The index a gather forms (R258). -/
def State.oltIndex (s : State) (b : Nat) : Nat :=
  let g := fun n => (List.range n).foldl (fun a k => a + 2 ^ k * bit (s.gatherBit b (s.selector b k))) 0
  if s.flag R.DEC_CFG Fd.DEC_CFG_UNIFIED then g 21 else g 18 + 262144 * b

/-- Entry `i` of the OLT (R261). -/
def State.oltEntry (s : State) (i : Nat) : Nat := bitsOf (s.reg (R.OLT i)).toNat (16 * (i % 2)) 16

/-- OLT_LOOKUP (R263): in its Bench's slot the lowest tag that became ready before it is looked up. -/
def oltLookup (b : Nat) (s : State) : State :=
  let used := NMap.get (fun _ => 0) s.dec.slotUsed b = s.clk.time + 1
  let ready := (List.range 256).find? fun t => (s.tag b t).st == .ready && decide ((s.tag b t).readyTick < s.clk.time)
  match ready with
  | none => s
  | some t =>
    if s.clk.time % 8 != b || used then s
    else
      let last := (s.tag b t).readyTick
      let idx := s.oltIndex b
      let act := s.oltEntry idx
      let due := s.clk.time + 2
      let s := s.onTag b t fun x => { x with st := .done, act := act, idx := idx, actTick := due }
      let s : State := { s with dec := { s.dec with
        slotUsed := NMap.set (fun _ => 0) s.dec.slotUsed b (s.clk.time + 1)
        acts := s.dec.acts ++ [{ bench := b, tag := t, idx := idx, act := act, due := due }] } }
      let s := s.wrapAdd (R.DEC_OLT_LOOKUPS b) Fd.DEC_OLT_LOOKUPS_COUNT 1
      s.setFld (R.DEC_OLT_WAITMAX b) Fd.DEC_OLT_WAITMAX_TICKS
        (max (s.fld (R.DEC_OLT_WAITMAX b) Fd.DEC_OLT_WAITMAX_TICKS) (min 0xFFFF (due - last)))

/-- OLT_LOOKUP (R263). -/
def execOltLookup (b : Fin 8) (s : State) : Host.Outcome State Fault Refusal := whenPowered s (oltLookup b)

/-- A branch waits on lookup tag `t` (R144 SRC 3, R145 COND 8). -/
def Branch.onTag (br : Branch) (t : Nat) : Bool :=
  if liOp br.word = 5 then liSrc br.word = 3 && liSel br.word % 256 == t
  else liOp br.word = 6 && liCond br.word = 8 && liBsel br.word % 256 == t

/-- An action reaches the lanes of its Bench that wait on the tag (R264): it settles 3 ticks later (R158). -/
def State.lanesAct (s : State) (b t alt due : Nat) : State :=
  foldAll (fun s l =>
    if (s.lane b l).branches.any fun br => br.onTag t && br.settled.isNone then
      s.onLane b l fun x =>
        { x with branches := x.branches.map fun br =>
            if br.onTag t && br.settled.isNone then { br with settled := some (due + 3, alt) } else br }
    else s) s (List.range 32)

/-- OLT_ACTION (R264): the Bench's next action that is present reaches its receivers. -/
def oltAction (b : Nat) (s : State) : State :=
  match s.dec.acts.find? fun a => a.bench == b && decide (a.due ≤ s.clk.time) with
  | none => s
  | some a =>
    let s : State := { s with dec := { s.dec with acts := s.dec.acts.erase a } }
    let s := s.lanesAct b a.tag (bitsOf a.act 0 4) a.due
    let s := if bitAt a.act 5 then
        s.publish (s.fld (R.DEC_TAG_CFG b a.tag) Fd.DEC_TAG_CFG_PUBIDX) (bitAt a.act 4) 2 b
      else s
    let s := if bitAt a.act 10 then
        s.offer (3 * b + 1) (srcOf b 0 0 1) 0x04 1 a.due [(0, 2, a.act), (2, 2, a.tag), (4, 4, a.idx)]
      else s
    if bitAt a.act 11 then s.poison b 9 a.tag else s

/-- OLT_ACTION (R264). -/
def execOltAction (b : Fin 8) (s : State) : Host.Outcome State Fault Refusal := whenPowered s (oltAction b)

/-- The tags of a Bench are disarmed and its lookups discarded (R265). -/
def State.tagsOff (s : State) (b : Nat) : State :=
  let s := foldAll (fun s t =>
    let x := s.tag b t
    if x.st == .armed || x.st == .ready then s.onTag b t fun x => { x with st := .idle, chans := 0, gds := false }
    else s) s (List.range 256)
  { s with dec := { s.dec with acts := s.dec.acts.filter fun a => a.bench != b } }

/-! ### Crier links -/

/-- Slot `k` of a port's slot table (R274). -/
def State.slotMask (s : State) (p k : Nat) : Nat :=
  if k < 4 then bitsOf (s.reg (R.DEC_CRIER_SLOTS_LO p)).toNat (8 * k) 8
  else bitsOf (s.reg (R.DEC_CRIER_SLOTS_HI p)).toNat (8 * (k - 4)) 8

/-- Queue `j` of a port: 0 its own updates, 1 to 7 the relay queues of row ports 0 to 6. -/
def Crier.queue (x : Crier) (j : Nat) : List Upd := if j = 0 then x.own else NMap.get (fun _ => []) x.relay (j - 1)

/-- Replace a queue. -/
def Crier.setQueue (x : Crier) (j : Nat) (q : List Upd) : Crier :=
  if j = 0 then { x with own := q } else { x with relay := NMap.set (fun _ => []) x.relay (j - 1) q }

/-- The queue that a slot takes from at tick `t` (R274): of those its mask names whose head entered before `t`, the one
whose head entered first; on a tie the own queue, then ascending. -/
def Crier.pickQueue (x : Crier) (mask t : Nat) : Option Nat :=
  ((pick 8 fun j => bitAt mask j && match (x.queue j).head? with
    | some u => decide (u.at_ < t)
    | none => false).foldl (fun a j =>
      let tick := fun i => ((x.queue i).head?.map (·.at_)).getD 0
      match a with
      | none => some j
      | some i => if tick j < tick i then some j else a) none)

/-- Fill the slots of a pair from the queues (R274): what each filled slot holds. -/
def State.fillSlots (s : State) (p : Nat) :
    List Nat → Crier → List (Nat × Nat × Bool) → Crier × List (Nat × Nat × Bool)
  | [], x, us => (x, us)
  | k :: ks, x, us =>
    match x.pickQueue (s.slotMask p k) s.clk.time with
    | none => s.fillSlots p ks x us
    | some j =>
      match x.queue j with
      | [] => s.fillSlots p ks x us
      | u :: rest => s.fillSlots p ks (x.setQueue j rest) (us ++ [(k, u.idx, u.val)])

/-- The bits that port `p` refreshes (R275). -/
def State.refreshBits (s : State) (p : Nat) : List Nat :=
  (List.range 4096).filter fun i =>
    let o := s.fld (R.DEC_GDSMAP i) Fd.DEC_GDSMAP_OWNER
    s.flag (R.DEC_GDSMAP i) Fd.DEC_GDSMAP_USED &&
      (if p < 7 then o == s.host.devid else o / 8 == s.host.devid / 8)

/-- Seven bits in turn, from the position of the first that is not below `from_` (R275). -/
def inTurn (bits : List Nat) (from_ : Nat) : List Nat :=
  let n := bits.length
  let k := (bits.findIdx? fun i => decide (from_ ≤ i)).getD 0
  if n = 0 then [] else (List.range 7).map fun j => bits.getD ((k + j) % n) 0

/-- The payload of a cell that a port sends at a pair start (R272, R274, R275): the updates of its queues; without one,
REFRESH; IDLE while the link is not UP (R277) or the device has no bit to refresh. -/
def State.portCell (s : State) (p : Nat) : Crier × CrierCell :=
  let x := s.port p
  let made := fun (control : Bool) (v : Nat) (slots : List (Nat × Bool)) =>
    ({ control := control, v := v, src := s.host.devid, hop := if p < 7 then 0 else 1, seq := 0, slots := slots } : CrierCell)
  if !x.up then (x, made true 0 [])
  else
    let (x, us) := s.fillSlots p (List.range 7) x []
    if us.isEmpty then
      let turn := inTurn (s.refreshBits p) x.refresh
      let from_ := (turn.getLast?.map (· + 1)).getD x.refresh
      ({ x with refresh := from_ }, made true (if turn.isEmpty then 0 else 16) (turn.map fun i => (i, s.gds i)))
    else
      let at_ := fun k => (us.find? fun u => u.1 == k).map (·.2)
      (x, made false ((List.range 7).foldl (fun m k => m + 2 ^ k * bit (at_ k).isSome) 0)
        ((List.range 7).map fun k => (at_ k).getD (0, false)))

/-- The pair, or the single cell, that a port sends (R273). -/
def State.portSend (s : State) (p seq : Nat) (paired odd : Bool) : State :=
  let (x, c) := s.portCell p
  let s := (s.onPort p fun _ => { x with sent := s.clk.time + 1 }).emit (.cell p odd { c with seq := seq }.word)
  if paired then s.emit (.cell p true { c with seq := seq + 1 }.word) else s

/-- CRIER_PAIR_SEND (R272 to R275, R277): at a pair start every port that runs sends its pair; in TRIM and SERVICE every
cell start stands alone. -/
def crierPairSend (s : State) : State :=
  let paired := s.mode != .trim && s.mode != .service
  if s.clk.time % (if paired then 24 else 12) != 0 then s
  else
    foldAll (fun s p =>
      let x := s.port p
      if s.portUsed p && x.running && x.sent != s.clk.time + 1 then
        s.portSend p (s.clk.time / 12 % 32) paired (s.clk.time / 12 % 2 == 1)
      else s) s (List.range 14)

/-- CRIER_PAIR_SEND (R274). -/
def execCrierPairSend (s : State) : Host.Outcome State Fault Refusal := whenPowered s crierPairSend

/-- The acceptance rule of R269 for a bit that `src` sends and port `p` receives. -/
def State.accepts (s : State) (p src i : Nat) : Bool :=
  let o := s.fld (R.DEC_GDSMAP i) Fd.DEC_GDSMAP_OWNER
  s.flag (R.DEC_GDSMAP i) Fd.DEC_GDSMAP_USED && o != s.host.devid &&
    (if p < 7 then o == src else o / 8 == src / 8)

/-- RELAY (R271, R274): an update from a row port enters the relay queue of that port on every column port in use. -/
def State.relay (s : State) (p i : Nat) (v : Bool) : State :=
  foldAll (fun s q =>
    if s.portUsed q && (s.port q).running then
      if 16 ≤ ((s.port q).queue (p + 1)).length then s.portFlag q Fd.DEC_CRIER_STATUS_Q_DROP
      else s.onPort q fun x => x.setQueue (p + 1) (x.queue (p + 1) ++ [{ idx := i, val := v, at_ := s.clk.time }])
    else s) s ((List.range 7).map (· + 7))

/-- One received update or refreshed bit (R267, R269, R271, R275). -/
def State.takeUpdate (s : State) (p src : Nat) (refresh : Bool) (i : Nat) (v : Bool) : State :=
  if !s.accepts p src i then s.portFlag p Fd.DEC_CRIER_STATUS_OWN_ERR
  else if refresh then
    if s.gds i = v then s
    else ((s.mirrorPut i v).gdsLate i v).satAdd (R.DEC_CRIER_CNT_B p) Fd.DEC_CRIER_CNT_B_REPAIR 1
  else
    let s := s.mirrorPublish i v
    if p < 7 then s.relay p i v else s

/-- A cell is applied (R273): the updates of a data cell, or the seven bits of a REFRESH. -/
def State.applyCell (s : State) (p : Nat) (c : CrierCell) : State :=
  if !c.control then foldAll (fun s u => s.takeUpdate p c.src false u.1 u.2) s c.updates
  else if c.kind = 1 then foldAll (fun s u => s.takeUpdate p c.src true u.1 u.2) s c.slots
  else s

/-- The cell comes from the expected device and the right class of port (R270). -/
def State.cellRight (s : State) (p : Nat) (c : CrierCell) : Bool :=
  c.src == s.fld (R.DEC_CRIER_CFG p) Fd.DEC_CRIER_CFG_PEER && c.hop == (if p < 7 then 0 else 1)

/-- The receiver's count of good and bad cells (R277), the SEQ it expects next and the last SRC (R273). -/
def State.countCell (s : State) (p : Nat) : Option CrierCell → State
  | some c =>
    let x := s.port p
    let s := if x.up && c.seq != x.rxSeq then s.portFlag p Fd.DEC_CRIER_STATUS_SEQ_ERR else s
    s.onPort p fun x => { x with good := x.good + 1, bad := 0, rxSeq := (c.seq + 1) % 32, rxSrc := c.src }
  | none =>
    (s.satAdd (R.DEC_CRIER_CNT_A p) Fd.DEC_CRIER_CNT_A_CRC_ERR 1).onPort p fun x =>
      { x with good := 0, bad := x.bad + 1, rxSeq := (x.rxSeq + 1) % 32 }

/-- A cell with a good CRC is applied if it is right, and discarded with CABLE if not (R270, R273). -/
def State.takeCell (s : State) (p : Nat) (c : CrierCell) : State :=
  if s.cellRight p c then s.applyCell p c else s

/-- A cell comes in, or fails to (R269 to R273): it counts for the link; of a pair one good cell is applied. -/
def State.cellIn (s : State) (p : Nat) (odd : Bool) (got : Option CrierCell) : State :=
  let s := s.countCell p got
  let s := if got.any fun c => !s.cellRight p c then s.portFlag p Fd.DEC_CRIER_STATUS_CABLE else s
  if !(s.port p).up then s
  else if s.mode == .trim || s.mode == .service then (got.map (s.takeCell p)).getD s
  else if !odd then
    let s := s.onPort p fun x => { x with even := some got.isSome }
    (got.map (s.takeCell p)).getD s
  else
    let evenGood := (s.port p).even == some true
    let s := s.onPort p fun x => { x with even := none }
    if evenGood then s
    else match got with
      | none => (s.satAdd (R.DEC_CRIER_CNT_B p) Fd.DEC_CRIER_CNT_B_LOST_PAIR 1).breach Fd.TOP_BREACH_TIER5
      | some c =>
        let s := if s.cellRight p c then s.satAdd (R.DEC_CRIER_CNT_A p) Fd.DEC_CRIER_CNT_A_COPY_USED 1 else s
        s.takeCell p c

/-- CRIER_CELL_RECEIVE (R269 to R273): the 128 bits that stand in a cell's place at a running port, or none where no cell
is made out; a cell with a bad CRC counts as bad. -/
def crierCellReceive (p : Nat) (odd : Bool) (cell : Option Nat) (s : State) : State :=
  if s.portUsed p && (s.port p).running then s.cellIn p odd ((cell.filter cellGood).map cellOf) else s

/-- CRIER_CELL_RECEIVE (R273). -/
def execCrierCellReceive (p : Fin 14) (c : CellIn) (s : State) : Host.Outcome State Fault Refusal :=
  whenPowered s (crierCellReceive p c.odd (c.cell.map (·.toNat)))

/-- LINK_UP (R277): 32 consecutive good cells. -/
def linkUp (p : Nat) (s : State) : State :=
  let x := s.port p
  if s.portUsed p && x.running && !x.up && decide (32 ≤ x.good) then
    s.onPort p fun x => { x with up := true, even := none }
  else s

/-- LINK_UP (R277). -/
def execLinkUp (p : Fin 14) (s : State) : Host.Outcome State Fault Refusal := whenPowered s (linkUp p)

/-- A link is DOWN: the flags of R277. -/
def State.linkDownFlag (s : State) (p : Nat) : State :=
  (s.portFlag p Fd.DEC_CRIER_STATUS_LINK_DOWN).decFlag Fd.DEC_FLAGS_LINK_DOWN

/-- LINK_DOWN (R277): 16 consecutive bad or missing cells. -/
def linkDown (p : Nat) (s : State) : State :=
  let x := s.port p
  if x.up && decide (16 ≤ x.bad) then
    (s.onPort p fun x => { x with up := false, even := none }).linkDownFlag p
  else s

/-- LINK_DOWN (R277). -/
def execLinkDown (p : Fin 14) (s : State) : Host.Outcome State Fault Refusal := whenPowered s (linkDown p)

/-- The ports in use begin to train on the way into TRIM, ARMED or SERVICE (R277); those that run go on. -/
def State.criersTrain (s : State) : State :=
  foldAll (fun s p => if s.portUsed p then s.onPort p fun x => { x with running := true } else s) s (List.range 14)

/-- The mode is entered: a port in use that is not UP sets LINK_DOWN (R277). -/
def State.criersEntered (s : State) : State :=
  foldAll (fun s p => if s.portUsed p && !(s.port p).up then s.linkDownFlag p else s) s.criersTrain (List.range 14)

/-- The ports stop (R277, R57): queues and link state are gone; RX_SRC stays. -/
def State.criersStop (s : State) : State :=
  foldAll (fun s p => s.onPort p fun x => { rxSrc := x.rxSrc }) s (List.range 14)

end Sys2Proof.Machine
end

