-- ==== Sys2Proof/Machine/Rom.lean ====
section
/-!
DEFINITION. The routines of the Foreman's mask ROM (R309), as the microwords that do what its table states. DESIGN CHOICE:
the specification gives the routines and no words, so the addresses within a routine, the cycles its steps take and the
tick S of SHOT_LOOP's SHOT are the model's; that tick stays free. START and SYNC of a routine stand at BASE + U1, which
`romAtU1` marks, since no field of a microword adds a register to S.
-/
namespace Sys2Proof.Machine

/-- The fields of a microword (R281). -/
structure Mw where
  nxt : Nat := 0
  brs : Nat := 0
  csel : Nat := 0
  wsel : Nat := 0
  wto : Nat := 0
  lop : Nat := 0
  toff : Nat := 0
  dop : Nat := 0
  dsel : Nat := 0
  cnt : Nat := 0
  op : Nat := 0
  d : Nat := 0
  a : Nat := 0
  imm : Nat := 0
  trg : Nat := 0

/-- The function bits of a microword (R281). -/
def Mw.word (w : Mw) : Nat :=
  w.nxt + 2 ^ 15 * w.brs + 2 ^ 19 * w.csel + 2 ^ 25 * w.wsel + 2 ^ 31 * w.wto + 2 ^ 65 * w.lop + 2 ^ 69 * w.toff +
    2 ^ 85 * w.dop + 2 ^ 90 * w.dsel + 2 ^ 110 * w.cnt + 2 ^ 118 * w.imm + 2 ^ 123 * w.a + 2 ^ 126 * w.d +
    2 ^ 129 * w.op + 2 ^ 133 * w.trg

/-- JUMP to an address. -/
def romGo (t : Nat) : Mw := { nxt := t, brs := 1 }

/-- A timed region of 32 ticks opens; the routine goes on at `t`. -/
def romOpen (t : Nat) : Mw := { nxt := t, brs := 1, trg := 1, dsel := 31 }

/-- The wait of SHOT_LOOP: every lane of U5 READY, by TO0. -/
def romReady (t : Nat) : Mw := { nxt := t, brs := 1, wsel := 9, lop := 8 }

/-- Every lane of U5 in SYNC, by TO0. -/
def romSyncd (t : Nat) : Mw := { nxt := t, brs := 1, wsel := 10, lop := 8 }

/-- One shot of SHOT_LOOP and SWEEP, at offset `k` of the loop at `l`: START to U5 at BASE + U1, the wait, SHOT, and
BASE += U0; where `last` is an address, C0 counts the shots and the routine goes there after the last. -/
def romShot (l k : Nat) (last : Option Nat) : Option Mw :=
  match k with
  | 0 => some (romOpen (l + 1))
  | 1 => some { nxt := l + 2, brs := 1, lop := 9, trg := 2 }
  | 2 | 3 | 4 => some (romGo (l + k + 1))
  | 5 => some (romReady (l + 8))
  | 8 => some (romOpen (l + 10))
  | 9 => some (romGo 0x130)
  | 10 =>
    some { nxt := l + 12, brs := 1, lop := 7, trg := 2, cnt := if last.isSome then 1 else 0
           toff := (Config.romWord (BitVec.ofNat 14 (l + 10))).toNat / 2 ^ 69 % 2 ^ 16 }
  | 12 =>
    match last with
    | some _ => some { nxt := l + 14, brs := 2, csel := 1, op := 12, a := 0 }
    | none => some { nxt := l, brs := 1, op := 12, a := 0 }
  | 14 => some (romGo l)
  | 15 => last.map romGo
  | _ => none

/-- One round of ACTIVE_RESET and LEAK_REMOVE, at offset `k` of the routine at `l`: CHSUM bit `n` repeats it while C2 is
not 0. -/
def romRounds (l k n : Nat) : Option Mw :=
  match k with
  | 0 => some { nxt := l + 1, brs := 1, op := 6, d := 3, a := 3, imm := 3 }
  | 1 => some (romSyncd (l + 2))
  | 2 => some (romOpen (l + 4))
  | 3 | 7 => some (romGo 0x130)
  | 4 => some { nxt := l + 5, brs := 1, lop := 10, trg := 2, cnt := 16, op := 2, d := 3, a := 3, imm := 1 }
  | 5 => some { nxt := l + 6, brs := 1, wsel := 3 }
  | 6 => some { nxt := l + 16, brs := 4, csel := 9 }
  | 9 => some { nxt := l + 24, brs := 4, csel := 1 }
  | _ =>
    if 16 ≤ k && k < 24 then some (romGo (if bitAt (k - 16) n then l + 9 else 0x132))
    else if 24 ≤ k && k < 28 then some { nxt := l + 1, brs := 1, op := 12, a := 0 }
    else if 28 ≤ k && k < 32 then some (romGo 0x132)
    else none

/-- The words of QEC_ROUND from 0x300. -/
def romQec (k : Nat) : Option Mw :=
  match k with
  | 0 => some { nxt := 0x301, brs := 1, dop := 4, dsel := 0x800 }
  | 1 => some (romSyncd 0x302)
  | 2 => some (romOpen 0x304)
  | 3 | 7 => some (romGo 0x130)
  | 4 => some { nxt := 0x305, brs := 1, lop := 10, trg := 2, cnt := 64 }
  | 5 => some { nxt := 0x306, brs := 1, wsel := 4, dsel := 0x800 }
  | 6 => some { nxt := 0x310, brs := 5, csel := 1, dop := 7, dsel := 0x51, op := 12, a := 0 }
  | _ => if 16 ≤ k && k < 32 then some (romGo (if k < 24 then 0x300 else 0x132)) else none

/-- The word of a routine at a ROM address (R309): SHOT_LOOP at 0x100 with its loops at 0x110 and, until HOLD, 0x120;
the returns with status 1 at 0x130 and 0 at 0x132; SWEEP at 0x180, ACTIVE_RESET at 0x200, LEAK_REMOVE at 0x280, QEC_ROUND
at 0x300 and SURVEY_STEP at 0x380. -/
def romStep (p : Nat) : Option Mw :=
  match p with
  | 0x100 => some { nxt := 0x102, brs := 2, csel := 1 }
  | 0x102 => some (romGo 0x110)
  | 0x103 => some (romGo 0x120)
  | 0x130 => some { nxt := 0x131, brs := 1, op := 6, d := 0, a := 0, imm := 0 }
  | 0x131 => some { brs := 7, op := 2, d := 0, a := 0, imm := 1 }
  | 0x132 => some { brs := 7, op := 6, d := 0, a := 0, imm := 0 }
  | 0x180 => some { nxt := 0x182, brs := 2, csel := 1 }
  | 0x182 => some (romGo 0x190)
  | 0x183 => some (romGo 0x120)
  | 0x1A0 => some { nxt := 0x1A1, brs := 1, dop := 8, dsel := 0x10, cnt := 4 }
  | 0x1A1 => some { nxt := 0x1A2, brs := 1, wsel := 11, dsel := 3, wto := 1 }
  | 0x1A2 => some { nxt := 0x1A4, brs := 3, csel := 1, cnt := 2 }
  | 0x1A3 => some (romGo 0x130)
  | 0x1A4 | 0x1A5 => some (romGo 0x190)
  | 0x1A6 | 0x1A7 => some (romGo 0x132)
  | 0x380 => some { nxt := 0x381, brs := 1, op := 6, d := 2, a := 2, imm := 2 }
  | 0x381 => some { nxt := 0x382, brs := 1, op := 2, d := 2, a := 2, imm := 1 }
  | 0x382 => some { nxt := 0x383, brs := 1, op := 6, d := 0, a := 0, imm := 0 }
  | 0x383 => some { brs := 7, op := 3, d := 0, a := 0, imm := 2 }
  | _ =>
    if 0x110 ≤ p && p < 0x120 then romShot 0x110 (p - 0x110) (some 0x132)
    else if 0x120 ≤ p && p < 0x130 then romShot 0x120 (p - 0x120) none
    else if 0x190 ≤ p && p < 0x1A0 then romShot 0x190 (p - 0x190) (some 0x1A0)
    else if 0x200 ≤ p && p < 0x220 then romRounds 0x200 (p - 0x200) 0
    else if 0x280 ≤ p && p < 0x2A0 then romRounds 0x280 (p - 0x280) 2
    else if 0x300 ≤ p && p < 0x320 then romQec (p - 0x300)
    else none

/-- The START and SYNC words of the routines, whose S counts from BASE + U1 (R309). -/
def romAtU1 (p : Nat) : Bool := [0x111, 0x121, 0x191, 0x204, 0x284, 0x304].contains p

end Sys2Proof.Machine
end

