-- ==== Sys2Proof/Machine/ForemanOps.lean ====
section
/-!
DEFINITION. The Foreman's microword (R281) and how a word is executed (R279, R280): fetch and snapshot, holding (R293),
the fields still to perform, the end of a word and the next one. Each field of a word is performed by its own command at
the word's issue tick; all of them read what was snapshot at the start of the word's final cycle.
-/
namespace Sys2Proof.Machine

/-! ### Fields of a microword (R281) -/

/-- NXT. -/
def mwNxt (w : Nat) : Nat := bitsOf w 0 15
/-- BRS. -/
def mwBrs (w : Nat) : Nat := bitsOf w 15 4
/-- CSEL. -/
def mwCsel (w : Nat) : Nat := bitsOf w 19 6
/-- WSEL. -/
def mwWsel (w : Nat) : Nat := bitsOf w 25 6
/-- WTO. -/
def mwWto (w : Nat) : Nat := bitsOf w 31 2
/-- LSTR. -/
def mwLstr (w : Nat) : Nat := bitsOf w 33 32
/-- LOP. -/
def mwLop (w : Nat) : Nat := bitsOf w 65 4
/-- LOP[2:0]. -/
def mwOp (w : Nat) : Nat := bitsOf w 65 3
/-- TOFF. -/
def mwToff (w : Nat) : Nat := bitsOf w 69 16
/-- DOP. -/
def mwDop (w : Nat) : Nat := bitsOf w 85 5
/-- DSEL. -/
def mwDsel (w : Nat) : Nat := bitsOf w 90 12
/-- EVO. -/
def mwEvo (w : Nat) : Nat := bitsOf w 102 8
/-- CNT of counter `n`. -/
def mwCnt (w n : Nat) : Nat := bitsOf w (110 + 2 * n) 2
/-- OP of the ALU field. -/
def mwAlu (w : Nat) : Nat := bitsOf w 129 4
/-- D of the ALU field. -/
def mwD (w : Nat) : Nat := bitsOf w 126 3
/-- A of the ALU field. -/
def mwA (w : Nat) : Nat := bitsOf w 123 3
/-- IMM of the ALU field. -/
def mwImm (w : Nat) : Nat := bitsOf w 118 5
/-- TRG. -/
def mwTrg (w : Nat) : Nat := bitsOf w 133 2

/-- The fields of a word that a command performs: bit 0 BRS, 1 LOP, 2 DOP, 3 ALU, 4 to 7 the counters, 8 TRG. -/
def mwNeed (w : Nat) : Nat :=
  bit (mwBrs w != 0) + 2 * bit (mwOp w != 0) + 4 * bit (mwDop w != 0) + 8 * bit (mwAlu w != 0) +
    16 * bit (mwCnt w 0 != 0) + 32 * bit (mwCnt w 1 != 0) + 64 * bit (mwCnt w 2 != 0) + 128 * bit (mwCnt w 3 != 0) +
    256 * bit (mwTrg w != 0)

/-- The word uses the schedule queue: a point strobe or events (R293). -/
def mwQueued (w : Nat) : Bool := decide (4 ≤ mwOp w) || mwEvo w != 0

/-! ### The Foreman's registers -/

/-- A micro-register. -/
def State.fmU (s : State) (b i : Nat) : Nat := (s.reg (R.FM_U b i)).toNat
/-- Write a micro-register. -/
def State.setU (s : State) (b i v : Nat) : State :=
  let old := s.uSeen b i
  (s.onFm b fun f => { f with uAt := NMap.set (fun _ => (0, 0)) f.uAt i (s.clk.time + 1, old) }).setReg (R.FM_U b i)
    (BitVec.ofNat 32 v)
/-- A counter. -/
def State.fmC (s : State) (b i : Nat) : Nat := s.fld (R.FM_C b i) Fd.FM_C_VALUE
/-- Write a counter. -/
def State.setC (s : State) (b i v : Nat) : State := s.setFld (R.FM_C b i) Fd.FM_C_VALUE v
/-- Set a flag of a Foreman. -/
def State.fmFlag (s : State) (b : Nat) (f : Bits) : State := s.raise (R.FM_FLAGS b) f
/-- A micro-register as the present word reads it (R280). -/
def Fm.ureg (f : Fm) (i : Nat) : Nat := f.u.getD i 0
/-- A counter as the present word reads it (R280). -/
def Fm.creg (f : Fm) (i : Nat) : Nat := f.c.getD i 0
/-- S, the scheduled tick of the present word (R290). -/
def Fm.sched (f : Fm) : Nat := (f.sbase + mwToff f.word) % timeMod
/-- The issue tick of the present word (R280). -/
def Fm.issue (f : Fm) : Nat := f.cyc + 2
/-- The strobe mask of the present word (R291). -/
def Fm.mask (f : Fm) : Nat := if bitAt (mwLop f.word) 3 then f.ureg 5 else mwLstr f.word
/-- The tag that the present word names (R287). -/
def Fm.tagNo (f : Fm) : Nat := if bitAt (mwDsel f.word) 11 then f.ureg 7 % 256 else mwDsel f.word % 256

/-- The state counts as stopped (R308 and the registers' "quiet"). -/
def FmSt.quiet : FmSt → Bool
  | .off | .held | .done | .fault => true
  | _ => false

/-- The start of a Foreman cycle at or before a tick (R279). -/
def evenDown (t : Nat) : Nat := t / 2 * 2

/-! ### Conditions (R285) -/

/-- The members of a mask of 32. -/
def inMask (m : Nat) : List Nat := bitsSet 32 m

/-- A NEW bit as a cycle starting at `c` sees it (R280, R289). -/
def Fm.newAt (f : Fm) (c ch : Nat) : Bool :=
  bitAt f.newBits ch && decide (NMap.get (fun _ => 0) f.newTick ch < c)

/-- A pending trap request as a cycle starting at `c` sees it (R280). -/
def Fm.pendAt (f : Fm) (c v : Nat) : Bool :=
  bitAt f.trapPend v && decide (NMap.get (fun _ => 0) f.trapTick v < c)

/-- An event latch as a cycle starting at `c` sees it (R280, R297). -/
def Fm.evAt (f : Fm) (c k : Nat) : Bool :=
  bitAt f.evLatch k && decide (NMap.get (fun _ => 0) f.evTick k < c)

/-- Four condition bits as one number. -/
def nib (b0 b1 b2 b3 : Bool) : Nat := bit b0 + 2 * bit b1 + 4 * bit b2 + 8 * bit b3

/-- The condition group that CSEL selects, for a cycle that starts at `c` (R285). -/
def State.condGroup (s : State) (b csel c : Nat) : Nat :=
  let f := s.fm b
  let tag := s.tag b (s.fmU b 7 % 256)
  let latch := fun ch => s.latchSeen b ch c
  if 0x20 ≤ csel then latch (csel - 0x20) % 8 + 8 * bit (bitAt (latch (csel - 0x20)) 11)
  else
    match csel with
    | 1 => nib (s.fmC b 0 == 0) (s.fmC b 1 == 0) (s.fmC b 2 == 0) (s.fmC b 3 == 0)
    | 2 => f.flags % 16
    | 3 => if tag.st == .done && decide (tag.actTick < c) then bitsOf tag.act 6 4 else 0
    | 4 =>
      let slot := tag.actTick - 2
      nib (tag.st == .done && decide (slot < c))
        ((tag.st == .ready && decide (tag.readyTick < c)) || (tag.st == .done && decide (c ≤ slot)))
        ((tag.st == .armed && decide (tag.armTick < c)) || (tag.st == .ready && decide (c ≤ tag.readyTick))) false
    | 5 =>
      let g := fun i => s.gdsSeen ((s.fmU b 6 + i) % 4096)
      nib (g 0) (g 1) (g 2) (g 3)
    | 6 => nib (f.evAt c 0) (f.evAt c 1) (f.evAt c 2) (f.evAt c 3)
    | 7 => nib (f.evAt c 4) (f.evAt c 5) (f.evAt c 6) (f.evAt c 7)
    | 8 =>
      let ls := (inMask (s.fmU b 5)).map fun l => (s.lane b l).st
      nib (ls.all (· == .ready)) (ls.any (· == .sync)) (ls.any (· == .wait)) (ls.any (· == .off))
    | 9 =>
      let cs := inMask (s.fmU b 4)
      nib (cs.any fun ch => latch ch % 8 != 0) (cs.any fun ch => bitAt (latch ch) 11)
        (cs.any fun ch => bitAt (latch ch) 9) (cs.all fun ch => f.newAt c ch)
    | 10 =>
      nib s.hold.isSome (f.pendAt c 4 || f.pendAt c 5 || f.pendAt c 6 || f.pendAt c 7) (f.pendAt c 9) (f.pendAt c 10)
    | _ => 0

/-! ### Next address (R283, R284) -/

/-- The next address of the present word (R283). A stack that is empty makes no address: the word faults. -/
def Fm.nextAddr (f : Fm) : Nat :=
  let w := f.word
  match mwBrs w with
  | 1 | 6 => mwNxt w
  | 2 => mwNxt w ||| f.cond % 2
  | 3 => mwNxt w ||| f.cond % 4
  | 4 => mwNxt w ||| f.cond % 8
  | 5 => mwNxt w ||| f.cond % 16
  | 7 => f.stack.headD 0
  | _ => (f.pc + 1) % 32768

/-! ### Fetch -/

/-- The match register that patches a ROM address (R302). -/
def State.romPatch (s : State) (b a : Nat) : Option Nat :=
  (List.range 32).find? fun k =>
    s.flag (R.FM_MATCH b k) Fd.FM_MATCH_EN && s.fld (R.FM_MATCH b k) Fd.FM_MATCH_ROM == a

/-- The word at a control-store address (R301 to R303): the patch of a matched ROM address, else the stored word; none
where no word is. Of the ROM, R309 gives what its routines do, and no other word. -/
def State.microword (s : State) (b a : Nat) : Option Nat :=
  let stored := fun a => (List.range 5).foldl (fun n h => n + (s.reg (R.CONTROL b a h)).toNat * 2 ^ (32 * h)) 0
  if a < 0x4000 then
    match s.romPatch b a with
    | some k => some (stored (0x4000 + s.fld (R.FM_MATCH b k) Fd.FM_MATCH_PATCH))
    | none => some (((romStep a).map Mw.word).getD (Config.romWord (BitVec.ofNat 14 a)).toNat)
  else if a < 0x4200 then some (stored a)
  else if 0x6000 ≤ a && s.flag (R.FM_STORE b) Fd.FM_STORE_MODE then some (stored a)
  else none

/-- The word whose final cycle starts at `c` reads registers, counters, flags, conditions and BASE as they stand
(R280); the ROM routines place START and SYNC at BASE + U1 (R309). -/
def State.fmSnap (s : State) (b c : Nat) : State :=
  let cond := s.condGroup b (mwCsel (s.fm b).word) c
  let u := (List.range 8).map (s.fmU b)
  let k := (List.range 4).map (s.fmC b)
  let m := (List.range 4).map fun i => (s.reg (R.FM_MBOX b i)).toNat
  let ld := s.latchSeen b (mwDsel (s.fm b).word % 32) c
  let pc := (s.fm b).pc
  let ofs := if romAtU1 pc && (s.romPatch b pc).isNone then s.fmU b 1 else 0
  s.onFm b fun f => { f with cyc := c, u := u, c := k, mbox := m, ld := ld, z := f.flags % 2, cond := cond
                             sbase := (f.base + ofs) % timeMod, done := 0
                             logged := false }

/-- The present word cannot issue in the cycle that starts at `c` (R293): the schedule queue is full, or S lies more
than 65,536 ticks after the end of that cycle. -/
def Fm.mustHold (f : Fm) (c : Nat) : Bool :=
  mwQueued f.word && (decide (16 ≤ f.queue.length) || decide (c + 2 + 65536 < f.sched))

/-- The word begins its final cycle at `c`, or holds (R280, R293). -/
def State.fmReady (s : State) (b c : Nat) : State :=
  let s := s.fmSnap b c
  if (s.fm b).mustHold c then s.onFm b fun f => { f with st := .wait, holding := true }
  else s.onFm b fun f => { f with st := .run, holding := false }

/-- The word at PC is fetched in the cycle that starts at `c` (R279, R282, R287, R301). An address that holds no word
raises ILLEGAL. -/
def State.fmFetch (s : State) (b c : Nat) : State :=
  match s.microword b (s.fm b).pc with
  | none => s.onFm b fun f => { f with st := .run, cyc := c, done := 0, word := 0, fault := 7, carry := none }
  | some w =>
    let s := s.onFm b fun f =>
      { f with
        word := w, cyc := c, done := 0, holding := false
        waitFrom := (f.carry.map (·.1)).getD c, waited := (f.carry.map (·.2)).getD 0, carry := none }
    if mwWsel w = 0 then s.fmReady b c else s.onFm b fun f => { f with st := .wait }

/-! ### The effect log (R317) -/

/-- The present word makes its effect-log entry, once. -/
def State.fmLog (s : State) (b : Nat) (mask : Nat) : State :=
  let f := s.fm b
  if f.logged then s
  else
    let w := f.word
    let i := (f.elogHead + 1) % 16
    s.onFm b fun f =>
      { f with
        logged := true, elogHead := i
        elog := NMap.set (fun _ => {}) f.elog i {
          addr := f.pc, lop := mwLop w, dop := mwDop w, dsel := mwDsel w, evo := mwEvo w, mask := mask
          issue := f.issue, sched := f.sched, trap := !f.frames.isEmpty } }

/-- STROBE_LATE at the present word (R292). -/
def State.fmLate (s : State) (b : Nat) : State :=
  (s.fmFlag b Fd.FM_FLAGS_STROBE_LATE).onFm b fun f =>
    { f with elog := NMap.upd (fun _ => {}) f.elog f.elogHead fun e => { e with late := true } }

/-- A point strobe or events of the present word enter the schedule queue at S, or at the issue tick where S has passed
(R292, R293). -/
def State.fmQueue (s : State) (b lop : Nat) : State :=
  let f := s.fm b
  let s := s.fmLog b f.mask
  let s := if f.sched < f.issue then s.fmLate b else s
  s.onFm b fun g =>
    { g with queue := g.queue ++ [{
        at_ := max f.sched f.issue, lop := lop, mask := f.mask, evo := mwEvo f.word, base := f.sbase
        log := g.elogHead, nxt := f.nextAddr }] }

/-- The discarded entries are recorded with DISC (R306, R307). -/
def Fm.discard (f : Fm) (p : Sched → Bool) : Fm :=
  { f with
    queue := f.queue.filter fun e => !p e
    elog := (f.queue.filter p).foldl (fun m e => NMap.upd (fun _ => {}) m e.log fun x => { x with disc := true })
      f.elog }

/-! ### Stopping (R306, R307) -/

/-- The Foreman stops at its boundary for a stop under R35 and R36 (R307): the schedule queue stays. -/
def State.fmOff (s : State) (b : Nat) : State :=
  s.onFm b fun f =>
    { f with
      st := if f.st.quiet then f.st else .off
      trapPend := 0, trapTick := [], stopReq := false, holding := false, carry := none, fault := 0, frames := []
      shotIssued := false, region := none }

/-- The Foreman has a word in progress: one that executes, waits or holds (R279). -/
def Fm.inWord (f : Fm) : Bool := f.st == .run || f.st == .wait

/-- A stop under R35 and R36 acts at the next microword boundary outside a timed region (R307): at once where no word is
in progress. -/
def State.fmAskStop (s : State) (b : Nat) : State :=
  let f := s.fm b
  if f.inWord || (f.region.isSome && !f.st.quiet) then
    s.onFm b fun f => { f with stopReq := true, trapPend := 0, trapTick := [] }
  else s.fmOff b

/-- The Foreman stops for an immediate HOLD or the entry to IDLE from ARMED (R307): timed region and schedule queue are
abandoned; RESUME becomes ENTRY at a HOLD. -/
def State.fmHaltNow (s : State) (b : Nat) (st : FmSt) (hold : Bool) : State :=
  let s := s.onFm b fun f => { f.discard (fun _ => true) with region := none, halt := none }
  let was := (s.fm b).st
  let s := (s.fmOff b).onFm b fun f => { f with st := if was.quiet then was else st }
  if hold then
    s.setFld (R.FM_ENTRY b) Fd.FM_ENTRY_RESUME (s.fld (R.FM_ENTRY b) Fd.FM_ENTRY_ENTRY)
  else s

/-- An immediate HOLD, or the entry to IDLE from ARMED (R307), acts at the next cycle boundary: a word whose final cycle
has begun ends first. -/
def State.fmHalt (s : State) (b : Nat) (st : FmSt) (hold : Bool) : State :=
  let f := s.fm b
  if f.st == .run && f.fault == 0 && decide (f.cyc < s.clk.time) then
    s.onFm b fun f => { f with halt := some (st, hold), trapPend := 0, trapTick := [] }
  else s.fmHaltNow b st hold

/-- The Bench has reached its boundary by a SHOT (R306): later entries are discarded, active lanes get an abort, and the
state is HELD. -/
def State.fmHeld (s : State) (b t : Nat) : State :=
  let s := s.onFm b fun f =>
    { f.discard (fun e => decide (t < e.at_)) with
      st := .held, shotIssued := false, holding := false, carry := none, region := none }
  foldAll (fun s l =>
    let x := s.lane b l
    if x.st == .ready || x.st == .off then s
    else s.onLane b l fun x => { x with strobes := x.strobes ++ [{ kind := .abort, arrive := s.clk.time, s := t }] })
    s (List.range 32)

/-! ### The end of a word -/

/-- What the completion of a wait clears, at the issue tick (R287); a set at that tick stays (R289). -/
def Fm.completed (f : Fm) : Fm :=
  let w := f.word
  let clear := fun (cs : List Nat) =>
    cs.foldl (fun n c => if NMap.get (fun _ => 0) f.newTick c < f.issue then clrBit n c else n) f.newBits
  match mwWsel w with
  | 2 => { f with newBits := clear [mwDsel w % 32] }
  | 3 => { f with newBits := clear (inMask (f.ureg 4)) }
  | 8 => { f with evLatch := clrBit f.evLatch (mwDsel w % 8) }
  | 11 => { f with trapPend := clrBit f.trapPend (4 + mwDsel w % 4) }
  | _ => f

/-- Registers that a return from a trap restores (R314): those that DSEL marks keep what the handler left. -/
def State.fmRestore (s : State) (b keep : Nat) (x : FmFrame) : State :=
  let s := foldAll (fun s i => if bitAt keep i then s else s.setU b i (x.u.getD i 0)) s (List.range 8)
  foldAll (fun s i => if bitAt keep (8 + i) then s else s.setC b i (x.c.getD i 0)) s (List.range 4)

/-- A TRET word has issued (R314): the frame is restored in 4 ticks. -/
def State.fmReturn (s : State) (b : Nat) : State :=
  let f := s.fm b
  match f.frames with
  | [] => s
  | x :: rest =>
    (s.fmRestore b (mwDsel f.word) x).onFm b fun g =>
      { g with
        st := .trap, frames := rest, stack := x.stack, flags := x.flags, cyc := f.issue + 4, done := 0
        pc := if x.sync then mwNxt f.word else x.pc, carry := if x.sync then none else x.wait }

/-- The word has performed every field (R279, R280, R283): events are scheduled, what its wait completed is cleared, a
RET pops its level, and the next word begins, unless the Foreman ends, stops, has issued a SHOT with a HOLD pending, or
faults. -/
def State.fmRetire (s : State) (b : Nat) : State :=
  let f := s.fm b
  let s := if mwEvo f.word != 0 && mwOp f.word < 4 then s.fmQueue b 0 else s
  let s := s.onFm b fun g => { g.completed with stack := if mwBrs f.word = 7 then g.stack.tail else g.stack }
  let next := f.nextAddr
  if let some (st, hold) := f.halt then s.fmHaltNow b st hold
  else if f.fault != 0 then s.onFm b fun g => { g with cyc := f.issue, done := 0 }
  else if mwBrs f.word = 9 then s.onFm b fun g => { g with st := .done, done := 0, holding := false }
  else if f.shotIssued then
    (s.setFld (R.FM_ENTRY b) Fd.FM_ENTRY_RESUME next).onFm b fun g => { g with st := .stopping, done := 0 }
  else if f.stopReq && f.region.isNone then s.fmOff b
  else if mwBrs f.word = 8 then s.fmReturn b
  else (s.onFm b fun g => { g with pc := next }).fmFetch b f.issue

/-- The Foreman of a Bench executes words (R279), or ends the word in progress as the device leaves ARMED or RUN (R307). -/
def State.fmRuns (s : State) (b : Nat) : Bool := s.mode == .armed || s.mode == .run || (s.fm b).halt.isSome

/-- What happens of itself as time passes: a handler or a resumed word begins once its frame is saved or restored (R312,
R314), and words that hold no field for a command take their cycle (R279). -/
def State.fmCatch (s : State) (b : Nat) : Nat → State
  | 0 => s
  | n + 1 =>
    let f := s.fm b
    if f.st == .trap && decide (f.cyc ≤ s.clk.time) then (s.fmFetch b f.cyc).fmCatch b n
    else if f.st == .run && f.fault == 0 && mwNeed f.word == 0 && decide (f.issue ≤ s.clk.time) then
      (s.fmRetire b).fmCatch b n
    else s

/-- The Foreman as it stands at the present tick. -/
def State.fmNow (s : State) (b : Nat) : State :=
  if s.fmRuns b then s.fmCatch b (min 32768 ((s.clk.time - (s.fm b).cyc) / 2 + 2)) else s

/-- A field of the present word is performed at its issue tick (R280), once; the last one ends the word. `k` is its bit
in `mwNeed`, `is` the test that the word holds this operation. -/
def State.fmField (s : State) (b k : Nat) (is : Nat → Bool) (act : State → Fm → State) : State :=
  let s := s.fmNow b
  let f := s.fm b
  if s.fmRuns b && f.st == .run && !(f.fault != 0 && f.done == 0) && bitAt (mwNeed f.word) k && !bitAt f.done k &&
      is f.word && decide (f.issue ≤ s.clk.time) then
    let s := (act s f).onFm b fun g => { g with done := setBit g.done k }
    if (s.fm b).done = mwNeed f.word then s.fmRetire b else s
  else s

/-- A synchronous fault is raised at the present word (R310); FAULT.CAUSE codes. -/
def State.fmRaise (s : State) (b cause : Nat) : State := s.onFm b fun f => { f with fault := cause }

end Sys2Proof.Machine
end

