-- ==== Sys2Proof/Machine/Foreman.lean ====
section
/-!
DEFINITION. The Foreman's word fields (11): branch modes (R283 to R286, R314), strobes (R291 to R293, R306), DOP (R296),
the ALU (R299), counters (R298) and timed regions (R315). Every command performs its field of the word at PC.
-/
namespace Sys2Proof.Machine

/-! ### Next address -/

/-- A branch mode: `k` is its BRS value; the next address follows at the end of the word (R283). -/
def fmBranch (b k : Nat) (act : State → Fm → State) (s : State) : State := s.fmField b 0 (fun w => mwBrs w == k) act

/-- A branch that leaves the Foreman as it is until the word ends. -/
def fmGoes (s : State) (_ : Fm) : State := s

/-- JUMP (R283). -/
def execJump (b : Fin 8) (s : State) : Host.Outcome State Fault Refusal := whenPowered s (fmBranch b 1 fmGoes)
/-- MW2 (R284). -/
def execMw2 (b : Fin 8) (s : State) : Host.Outcome State Fault Refusal := whenPowered s (fmBranch b 2 fmGoes)
/-- MW4 (R284). -/
def execMw4 (b : Fin 8) (s : State) : Host.Outcome State Fault Refusal := whenPowered s (fmBranch b 3 fmGoes)
/-- MW8 (R284). -/
def execMw8 (b : Fin 8) (s : State) : Host.Outcome State Fault Refusal := whenPowered s (fmBranch b 4 fmGoes)
/-- MW16 (R284). -/
def execMw16 (b : Fin 8) (s : State) : Host.Outcome State Fault Refusal := whenPowered s (fmBranch b 5 fmGoes)

/-- FOREMAN_CALL (R286): PC + 1 is pushed; a ninth level raises ILLEGAL. -/
def foremanCall (b : Nat) : State → State :=
  fmBranch b 6 fun s f =>
    if 8 ≤ f.stack.length then s.fmRaise b 3
    else s.onFm b fun g => { g with stack := (f.pc + 1) % 32768 :: g.stack }

/-- FOREMAN_CALL (R286). -/
def execForemanCall (b : Fin 8) (s : State) : Host.Outcome State Fault Refusal := whenPowered s (foremanCall b)

/-- FOREMAN_RET (R286): an empty stack raises ILLEGAL; the level is popped as the word ends. -/
def foremanRet (b : Nat) : State → State :=
  fmBranch b 7 fun s f => if f.stack.isEmpty then s.fmRaise b 4 else s

/-- FOREMAN_RET (R286). -/
def execForemanRet (b : Fin 8) (s : State) : Host.Outcome State Fault Refusal := whenPowered s (foremanRet b)

/-- TRET (R314): without a trap level in use it raises ILLEGAL; the frame is restored as the word ends. -/
def tret (b : Nat) : State → State := fmBranch b 8 fun s f => if f.frames.isEmpty then s.fmRaise b 5 else s

/-- TRET (R314). -/
def execTret (b : Fin 8) (s : State) : Host.Outcome State Fault Refusal := whenPowered s (tret b)

/-- FOREMAN_END (R283). -/
def execForemanEnd (b : Fin 8) (s : State) : Host.Outcome State Fault Refusal := whenPowered s (fmBranch b 9 fmGoes)

/-! ### Strobes -/

/-- The first strobe of a Bench after its start condition has been issued (R45). -/
def State.fmFirst (s : State) (b : Nat) : State := s.onBench b fun x => { x with firstStrobe := true }

/-- A timeline strobe (R292): it reaches the lanes of its mask 4 ticks after issue, carrying S. A START or SYNC whose S
is less than 134 ticks past the issue tick is late. -/
def fmTimeline (b k : Nat) (kind : StrobeKind) : State → State :=
  fun s => s.fmField b 1 (fun w => mwOp w == k) fun s f =>
    let s := (s.fmLog b f.mask).fmFirst b
    let s := if kind != .flush && decide (f.sched < f.issue + 134) then s.fmLate b else s
    foldAll (fun s l =>
      s.onLane b l fun x => { x with strobes := x.strobes ++ [{ kind := kind, arrive := f.issue + 4, s := f.sched }] }) s
      (inMask f.mask)

/-- LOP_START (R292). -/
def execLopStart (b : Fin 8) (s : State) : Host.Outcome State Fault Refusal := whenPowered s (fmTimeline b 1 .start)
/-- LOP_SYNC (R292). -/
def execLopSync (b : Fin 8) (s : State) : Host.Outcome State Fault Refusal := whenPowered s (fmTimeline b 2 .sync)
/-- LOP_FLUSH (R292). -/
def execLopFlush (b : Fin 8) (s : State) : Host.Outcome State Fault Refusal := whenPowered s (fmTimeline b 3 .flush)

/-- A point strobe (R293): it enters the schedule queue for S. -/
def fmPoint (b k : Nat) (s : State) : State :=
  s.fmField b 1 (fun w => mwOp w == k) fun s _ => (s.fmQueue b k).fmFirst b

/-- LOP_ABORT (R293). -/
def execLopAbort (b : Fin 8) (s : State) : Host.Outcome State Fault Refusal := whenPowered s (fmPoint b 4)
/-- LOP_POISON (R293). -/
def execLopPoison (b : Fin 8) (s : State) : Host.Outcome State Fault Refusal := whenPowered s (fmPoint b 5)
/-- LOP_STOP (R293). -/
def execLopStop (b : Fin 8) (s : State) : Host.Outcome State Fault Refusal := whenPowered s (fmPoint b 6)

/-- LOP_SHOT (R293, R306): a SHOT is scheduled; with a HOLD pending no further word is fetched. -/
def lopShot (b : Nat) (s : State) : State :=
  s.fmField b 1 (fun w => mwOp w == 7) fun s _ =>
    let s := (s.fmQueue b 7).fmFirst b
    if s.hold.isSome then s.onFm b fun f => { f with shotIssued := true } else s

/-- LOP_SHOT (R306). -/
def execLopShot (b : Fin 8) (s : State) : Host.Outcome State Fault Refusal := whenPowered s (lopShot b)

/-- The entry of a schedule queue that takes effect next (R294): the earliest tick, of equal ticks the first issued. -/
def Fm.dueEntry (f : Fm) (time : Nat) : Option Sched :=
  (f.queue.filter fun e => decide (e.at_ ≤ time)).foldl (fun a e =>
    match a with
    | none => some e
    | some x => if e.at_ < x.at_ then some e else a) none

/-- The events of a schedule-queue entry (R297): EV_FOREMAN_OUTk pulse at S, and drive trigger outputs (R106). -/
def State.evoPulse (s : State) (b : Nat) (e : Sched) : State :=
  foldAll (fun s k => (s.pulse (256 + 8 * b + k)).trigScheduled (256 + 8 * b + k) e.at_) s (bitsSet 8 e.evo)

/-- The lane action of a point strobe (R291). -/
def pointKind (lop : Nat) : StrobeKind := if lop = 4 then .abort else if lop = 5 then .poison else .stop

/-- POINT_STROBE_EFFECT (R292 to R294, R297): the next entry that is due, other than a SHOT. -/
def pointStrobeEffect (b : Nat) (s : State) : State :=
  match (s.fm b).dueEntry s.clk.time with
  | none => s
  | some e =>
    if e.lop = 7 then s
    else
      let s := s.onFm b fun f => { f with queue := f.queue.erase e }
      let s := if e.lop = 0 then s else
        foldAll (fun s l => s.onLane b l fun x =>
          { x with strobes := x.strobes ++ [{ kind := pointKind e.lop, arrive := s.clk.time, s := e.at_ }] }) s
          (inMask e.mask)
      s.evoPulse b e

/-- POINT_STROBE_EFFECT (R293). -/
def execPointStrobeEffect (b : Fin 8) (s : State) : Host.Outcome State Fault Refusal :=
  whenPowered s (pointStrobeEffect b)

/-- What begins a new shot (R196, R136): underruns are counted anew; its first tick is the next one. -/
def State.newShot (s : State) (b : Nat) : State :=
  let s := foldAll (fun s l =>
    if (s.lane b l).underran = 0 then s else s.onLane b l fun x => { x with underran := 0 }) s (List.range 32)
  s.onBench b fun x => { x with fresh := true }

/-- The first tick of a shot (R196): one that begins while SAFE_PARK is set is poisoned with cause SAFE. -/
def State.shotTick (s : State) (b : Nat) : State :=
  if !(s.benchSt b).fresh then s
  else
    let s := s.onBench b fun x => { x with fresh := false }
    if s.out.parked && s.mode == .run && s.benchOn b then (s.breach Fd.TOP_BREACH_TIER4).poison b 10 0 else s

/-- The SHOT mark (R295, R369). -/
def State.shotMark (s : State) (b n base : Nat) : State :=
  let p := (s.benchSt b).poisoned
  (s.offer (3 * b) (srcOf b 0 0 0) 0x21 1 s.clk.time [(0, 8, n + 2 ^ 63 * bit p), (8, 8, base)]).onBench b fun x =>
    { x with poisoned := false, shotAt := s.clk.now + 1 }

/-- SHOT (R295, R306, R52): a SHOT that is due takes effect; with a HOLD pending the Foreman reaches its boundary. -/
def shot (b : Nat) (s : State) : State :=
  match (s.fm b).dueEntry s.clk.time with
  | none => s
  | some e =>
    if e.lop != 7 then s
    else
      let n := min ((s.fm b).shots + 1) (2 ^ 48 - 1)
      let t := s.clk.time
      let s := s.onFm b fun f =>
        { f with
          queue := f.queue.erase e, shots := n
          newBits := (bitsSet 32 f.newBits).foldl
            (fun m c => if NMap.get (fun _ => 0) f.newTick c = t then m else clrBit m c) f.newBits }
      let s := foldAll (fun s k =>
        if NMap.get (fun _ => false) s.dec.oltEv (16 * b + k) then s.oltEvPut (16 * b + k) false else s) s (List.range 16)
      let s := ((s.shotMark b n e.base).pulse (320 + b)).trigScheduled (320 + b) e.at_
      let s := s.evoPulse b e
      let s := if s.hold.isSome then
          let s : State := { s with hold := s.hold.map fun h => { h with reached := setBit h.reached b } }
          let st := (s.fm b).st
          if st == .stopping then s.fmHeld b t
          else if st.quiet then s
          else
            let s := s.setFld (R.FM_ENTRY b) Fd.FM_ENTRY_RESUME e.nxt
            (s.onFm b fun f => { f with stack := (f.frames.getLast?.map (·.stack)).getD f.stack, frames := [] }).fmHeld b t
        else s
      s.newShot b

/-- SHOT (R295). -/
def execShot (b : Fin 8) (s : State) : Host.Outcome State Fault Refusal := whenPowered s (shot b)

/-! ### DOP (R296) -/

/-- A DOP of value `k`. -/
def fmDop (b k : Nat) (act : State → Fm → State) (s : State) : State := s.fmField b 2 (fun w => mwDop w == k) act

/-- A publication by the Foreman (R296, R267, R269), with its effect-log entry (R317). -/
def fmPublish (b k : Nat) (v : Fm → Bool) : State → State :=
  fmDop b k fun s f => (s.fmLog b f.mask).publish (mwDsel f.word) (v f) 1 b

/-- PUB0 (R296). -/
def execPub0 (b : Fin 8) (s : State) : Host.Outcome State Fault Refusal := whenPowered s (fmPublish b 1 fun _ => false)
/-- PUB1 (R296). -/
def execPub1 (b : Fin 8) (s : State) : Host.Outcome State Fault Refusal := whenPowered s (fmPublish b 2 fun _ => true)
/-- PUBZ (R296). -/
def execPubz (b : Fin 8) (s : State) : Host.Outcome State Fault Refusal := whenPowered s (fmPublish b 3 fun f => f.z == 1)

/-- DOP_ARM (R262). -/
def execDopArm (b : Fin 8) (s : State) : Host.Outcome State Fault Refusal :=
  whenPowered s (fmDop b 4 fun s f => s.armTag b f.tagNo)

/-- A Foreman lookup operation counts as every input collected (R262). -/
def State.fmLookup (s : State) (b t : Nat) : State :=
  if (s.tag b t).st == .armed then s.onTag b t fun x => { x with st := .ready, readyTick := s.clk.time } else s

/-- DOP_LOOKUP (R262). -/
def execDopLookup (b : Fin 8) (s : State) : Host.Outcome State Fault Refusal :=
  whenPowered s (fmDop b 5 fun s f => s.fmLookup b f.tagNo)

/-- CLRNEW (R289). -/
def clrnew (b : Nat) : State → State :=
  fmDop b 6 fun s f => s.onFm b fun g =>
    let clear := fun m c => if NMap.get (fun _ => 0) g.newTick c < f.issue then clrBit m c else m
    { g with newBits := (inMask (f.ureg 4)).foldl clear g.newBits }

/-- CLRNEW (R289). -/
def execClrnew (b : Fin 8) (s : State) : Host.Outcome State Fault Refusal := whenPowered s (clrnew b)

/-- DOP_MARK (R296, R369). -/
def execDopMark (b : Fin 8) (s : State) : Host.Outcome State Fault Refusal :=
  whenPowered s (fmDop b 7 fun s f =>
    s.offer (3 * b) (srcOf b 0 0 0) 0x2B 1 f.issue [(0, 1, mwDsel f.word % 256), (8, 8, f.sbase)])

/-- DOP_IRQ (R296, R448). -/
def execDopIrq (b : Fin 8) (s : State) : Host.Outcome State Fault Refusal :=
  whenPowered s (fmDop b 8 fun s f =>
    (s.setFld (R.FM_TRAP b) Fd.FM_TRAP_IRQ_CODE (mwDsel f.word % 256)).irq (10 + b))

/-- LDCH (R296): U3 takes the latch of channel DSEL[4:0] as it stood at the start of the cycle. -/
def execLdch (b : Fin 8) (s : State) : Host.Outcome State Fault Refusal :=
  whenPowered s (fmDop b 9 fun s f => s.setU b 3 f.ld)

/-- LOGRD (R296): U2 and U3 take mask and S of an effect-log entry, 0 the newest. -/
def execLogrd (b : Fin 8) (s : State) : Host.Outcome State Fault Refusal :=
  whenPowered s (fmDop b 10 fun s f =>
    let e := NMap.get (fun _ => {}) f.elog ((f.elogHead + 32 - bit f.logged - mwDsel f.word % 16) % 16)
    (s.setU b 2 e.mask).setU b 3 e.sched)

/-! ### The ALU (R299) -/

/-- An ALU operation of value `k`. -/
def fmAlu (b k : Nat) (act : State → Fm → State) (s : State) : State := s.fmField b 3 (fun w => mwAlu w == k) act

/-- The operand Ub. -/
def Fm.ub (f : Fm) : Nat := f.ureg (mwImm f.word % 8)
/-- The operand Ua. -/
def Fm.ua (f : Fm) : Nat := f.ureg (mwA f.word)

/-- Set the flags Z, N, C and V of a result (R299). -/
def State.fmFlags (s : State) (b r : Nat) (c v : Bool) : State :=
  s.onFm b fun f => { f with flags := nib (r % 2 ^ 32 == 0) (bitAt r 31) c v }

/-- Sum of two 32-bit values: C is the carry out, V the signed overflow. -/
def State.fmSum (s : State) (b d x y : Nat) : State :=
  let z := sext 32 x + sext 32 y
  (s.setU b d (x + y)).fmFlags b (x + y) (decide (2 ^ 32 ≤ x + y)) (decide (z < -(2 ^ 31)) || decide (2 ^ 31 ≤ z))

/-- Flags of a difference: C is "no borrow". -/
def State.fmDiff (s : State) (b x y : Nat) : State :=
  let z := sext 32 x - sext 32 y
  s.fmFlags b (x + 2 ^ 32 - y) (decide (y ≤ x)) (decide (z < -(2 ^ 31)) || decide (2 ^ 31 ≤ z))

/-- A logical result: C and V have no stated value, so they are free (R299). -/
def State.fmLogic (s : State) (b d r : Nat) : State :=
  let (w, s) := s.free
  (s.setU b d r).fmFlags b r (bitAt w.toNat 0) (bitAt w.toNat 1)

/-- FOREMAN_ADD (R299). -/
def execForemanAdd (b : Fin 8) (s : State) : Host.Outcome State Fault Refusal :=
  whenPowered s (fmAlu b 1 fun s f => s.fmSum b (mwD f.word) f.ua f.ub)
/-- ADDI (R299). -/
def execAddi (b : Fin 8) (s : State) : Host.Outcome State Fault Refusal :=
  whenPowered s (fmAlu b 2 fun s f => s.fmSum b (mwD f.word) f.ua (mwImm f.word))
/-- FOREMAN_SUB (R299). -/
def execForemanSub (b : Fin 8) (s : State) : Host.Outcome State Fault Refusal :=
  whenPowered s (fmAlu b 3 fun s f => (s.setU b (mwD f.word) (f.ua + 2 ^ 32 - f.ub)).fmDiff b f.ua f.ub)
/-- AND (R299). -/
def execAnd (b : Fin 8) (s : State) : Host.Outcome State Fault Refusal :=
  whenPowered s (fmAlu b 4 fun s f => s.fmLogic b (mwD f.word) (f.ua &&& f.ub))
/-- OR (R299). -/
def execOr (b : Fin 8) (s : State) : Host.Outcome State Fault Refusal :=
  whenPowered s (fmAlu b 5 fun s f => s.fmLogic b (mwD f.word) (f.ua ||| f.ub))
/-- XOR (R299). -/
def execXor (b : Fin 8) (s : State) : Host.Outcome State Fault Refusal :=
  whenPowered s (fmAlu b 6 fun s f => s.fmLogic b (mwD f.word) (f.ua ^^^ f.ub))
/-- FOREMAN_SHL (R299). -/
def execForemanShl (b : Fin 8) (s : State) : Host.Outcome State Fault Refusal :=
  whenPowered s (fmAlu b 7 fun s f => s.fmLogic b (mwD f.word) (f.ua * 2 ^ mwImm f.word))
/-- FOREMAN_SHR (R299). -/
def execForemanShr (b : Fin 8) (s : State) : Host.Outcome State Fault Refusal :=
  whenPowered s (fmAlu b 8 fun s f => s.fmLogic b (mwD f.word) (f.ua / 2 ^ mwImm f.word))
/-- CMP (R299): flags only. -/
def execCmp (b : Fin 8) (s : State) : Host.Outcome State Fault Refusal :=
  whenPowered s (fmAlu b 9 fun s f => s.fmDiff b f.ua f.ub)
/-- MOVC (R299). -/
def execMovc (b : Fin 8) (s : State) : Host.Outcome State Fault Refusal :=
  whenPowered s (fmAlu b 10 fun s f => s.setU b (mwD f.word) (f.creg (mwImm f.word % 4)))
/-- MBX (R299): the mailbox is read at the start of the word. -/
def execMbx (b : Fin 8) (s : State) : Host.Outcome State Fault Refusal :=
  whenPowered s (fmAlu b 11 fun s f => s.setU b (mwD f.word) (f.mbox.getD (mwImm f.word % 4) 0))

/-- BASE takes a value (R290). -/
def State.setBase (s : State) (b v : Nat) : State := s.onFm b fun f => { f with base := v % timeMod }

/-- BADD (R299). -/
def execBadd (b : Fin 8) (s : State) : Host.Outcome State Fault Refusal :=
  whenPowered s (fmAlu b 12 fun s f => s.setBase b (f.sbase + f.ua))
/-- BEV (R299). -/
def execBev (b : Fin 8) (s : State) : Host.Outcome State Fault Refusal :=
  whenPowered s (fmAlu b 13 fun s f => s.setBase b (f.tw + f.ua))
/-- BNOW (R299). -/
def execBnow (b : Fin 8) (s : State) : Host.Outcome State Fault Refusal :=
  whenPowered s (fmAlu b 14 fun s f => s.setBase b (f.issue + f.ua))

/-! ### Counters (R298) -/

/-- A counter operation of value `k` on counter `n`. -/
def fmCount (b n k : Nat) (act : State → Fm → Nat) (s : State) : State :=
  s.fmField b (4 + n) (fun w => mwCnt w n == k) fun s f => s.setC b n (act s f)

/-- CNT_DECREMENT (R298). -/
def execCntDecrement (b : Fin 8) (n : Fin 4) (s : State) : Host.Outcome State Fault Refusal :=
  whenPowered s (fmCount b n 1 fun _ f => f.creg n - 1)
/-- CNT_RELOAD (R298). -/
def execCntReload (b : Fin 8) (n : Fin 4) (s : State) : Host.Outcome State Fault Refusal :=
  whenPowered s (fmCount b n 2 fun s _ => s.fld (R.FM_CRLD b n) Fd.FM_CRLD_VALUE)
/-- CNT_INCREMENT (R298). -/
def execCntIncrement (b : Fin 8) (n : Fin 4) (s : State) : Host.Outcome State Fault Refusal :=
  whenPowered s (fmCount b n 3 fun _ f => f.creg n + 1)

/-! ### Timed regions (R315) -/

/-- TRG_BEGIN (R315): the region opens with a budget of DSEL + 1 ticks from the word's start; a BEGIN inside an open
region raises ILLEGAL. -/
def trgBegin (b : Nat) (s : State) : State :=
  s.fmField b 8 (fun w => mwTrg w == 1) fun s f =>
    if f.region.isSome then s.fmRaise b 6
    else s.onFm b fun g => { g with region := some (f.cyc + mwDsel f.word + 1) }

/-- TRG_BEGIN (R315). -/
def execTrgBegin (b : Fin 8) (s : State) : Host.Outcome State Fault Refusal := whenPowered s (trgBegin b)

/-- TRG_END (R315): the region closes; an END outside any region raises ILLEGAL. -/
def trgEnd (b : Nat) (s : State) : State :=
  s.fmField b 8 (fun w => mwTrg w == 2) fun s f =>
    if f.region.isNone then s.fmRaise b 6 else s.onFm b fun g => { g with region := none }

/-- TRG_END (R315). -/
def execTrgEnd (b : Fin 8) (s : State) : Host.Outcome State Fault Refusal := whenPowered s (trgEnd b)

end Sys2Proof.Machine
end

