-- ==== Sys2Proof/Machine/ForemanRun.lean ====
section
/-!
DEFINITION. Starting, waiting, holding, traps and synchronous faults of the Foreman (11): R287, R288, R293, R304, R305
and R310 to R316.
-/
namespace Sys2Proof.Machine

/-! ### Starting (R304, R305) -/

/-- The entry to ARMED puts the Foreman of an enabled Bench in START (R304, R305): KIND, SEL and START_VAL take effect;
it will begin at RESUME after a HOLD, keeping its call stack, and at ENTRY otherwise. -/
def State.fmArm (s : State) (b : Nat) (resume : Bool) : State :=
  let kind := s.fld (R.FM_START b) Fd.FM_START_KIND
  let sel := s.fld (R.FM_START b) Fd.FM_START_SEL
  let val := s.reg64 (R.FM_START_VAL_LO b)
  let pc := s.fld (R.FM_ENTRY b) (if resume then Fd.FM_ENTRY_RESUME else Fd.FM_ENTRY_ENTRY)
  let s := s.onBench b fun x => { x with firstStrobe := false }
  s.onFm b fun f =>
    { f with
      st := .start, pc := pc, stack := if resume then f.stack else [], frames := if resume then f.frames else []
      region := none, done := 0, holding := false, carry := none, fault := 0, shotIssued := false, stopReq := false, halt := none
      startE := if kind = 0 || kind = 4 then s.clk.time + 1 else 0
      startKind := kind, startSel := if kind = 2 then sel % 8 else sel, startVal := val }

/-- FOREMAN_START_CONDITION (R304): the first cycle that starts after E begins at the start address with BASE set. -/
def foremanStartCondition (b : Nat) (s : State) : State :=
  let f := s.fm b
  let e := f.startE - 1
  let c := (e / 2 + 1) * 2
  if s.fmRuns b && f.st == .start && f.startE != 0 && decide (c ≤ s.clk.time) then
    let base := if f.startKind = 0 then f.startVal else (e + f.startVal % 2 ^ 32) % timeMod
    (s.onFm b fun f => { f with base := base, startE := 0 }).fmFetch b c
  else s

/-- FOREMAN_START_CONDITION (R304). -/
def execForemanStartCondition (b : Fin 8) (s : State) : Host.Outcome State Fault Refusal :=
  whenPowered s (foremanStartCondition b)

/-! ### Waiting (R287, R288) -/

/-- The greatest of some ticks, or the start of the cycle where there are none. -/
def latest (c : Nat) : List Nat → Nat
  | [] => c
  | t :: ts => ts.foldl max t

/-- Every lane of the word's strobe mask has been in a state since before the cycle. -/
def State.lanesIn (s : State) (b c : Nat) (st : LaneSt) : Option Nat :=
  let w := (s.fm b).word
  let ls := (inMask (if bitAt (mwLop w) 3 then s.fmU b 5 else mwLstr w)).map (s.lane b)
  if ls.all fun x => x.st == st && decide (x.since < c) then some (latest c (ls.map (·.since))) else none

/-- The wait condition of the present word in the cycle that starts at `c`: the tick Tw of the input that met it, where
it holds (R287, R299 BEV). -/
def State.fmMet (s : State) (b c : Nat) : Option Nat :=
  let f := s.fm b
  let w := f.word
  let sel := mwDsel w
  match mwWsel w with
  | 1 =>
    let t := (f.base + mwToff w) % timeMod
    if t ≤ c + 2 then some t else none
  | 2 => if f.newAt c (sel % 32) then some (NMap.get (fun _ => 0) f.newTick (sel % 32)) else none
  | 3 =>
    let cs := inMask (s.fmU b 4)
    if cs.all (f.newAt c) then some (latest c (cs.map fun ch => NMap.get (fun _ => 0) f.newTick ch)) else none
  | 4 =>
    let x := s.tag b (if bitAt sel 11 then s.fmU b 7 % 256 else sel % 256)
    if x.st == .done && decide (x.actTick < c) then some x.actTick else none
  | 5 =>
    (seenTick c (NMap.get (fun _ => []) s.dec.pubs sel)).filter fun p => decide (f.waitFrom ≤ p)
  | 6 | 7 =>
    if s.gdsSeen sel == (mwWsel w == 6) then
      some ((seenTick c (NMap.get (fun _ => []) s.dec.mirrorSet sel)).getD s.dec.mirrorLoad)
    else none
  | 8 => if f.evAt c (sel % 8) then some (NMap.get (fun _ => 0) f.evTick (sel % 8)) else none
  | 9 => s.lanesIn b c .ready
  | 10 => s.lanesIn b c .sync
  | 11 => if f.pendAt c (4 + sel % 4) then some (NMap.get (fun _ => 0) f.trapTick (4 + sel % 4)) else none
  | _ => none

/-- The present word waits on WSEL. -/
def State.fmWaits (s : State) (b : Nat) : Bool := s.fmRuns b && (s.fm b).st == .wait && !(s.fm b).holding && (s.fm b).fault == 0

/-- The cycle boundary of the present tick for a word that waits or holds. -/
def State.fmBoundary (s : State) (b : Nat) : Nat := max (s.fm b).cyc (evenDown s.clk.time)

/-- WAIT_COMPLETE (R287, R288): the condition holds at the start of a cycle, which becomes the word's final one. -/
def waitComplete (b : Nat) (s : State) : State :=
  let s := s.fmNow b
  let c := s.fmBoundary b
  if s.fmWaits b && decide (c ≤ s.clk.time) then
    match s.fmMet b c with
    | none => s
    | some t => (s.onFm b fun f => { f with tw := t, waited := f.waited + (c - f.cyc) }).fmReady b c
  else s

/-- WAIT_COMPLETE (R288). -/
def execWaitComplete (b : Fin 8) (s : State) : Host.Outcome State Fault Refusal := whenPowered s (waitComplete b)

/-- WAIT_TIMEOUT (R288, R318): the condition has not held by the first cycle boundary at or after the timeout: the word
has no effect, the next address is NXT + 1, and VOID is set. -/
def waitTimeout (b : Nat) (s : State) : State :=
  let s := s.fmNow b
  let f := s.fm b
  let ticks := s.fld (R.FM_TO b (mwWto f.word)) Fd.FM_TO_TICKS
  let c := alignUp (f.cyc + (ticks - f.waited)) 2
  if s.fmWaits b && decide (c ≤ s.clk.time) && (s.fmMet b c).isNone then
    let s := ((s.fmFlag b Fd.FM_FLAGS_VOID).benchEvent b Fd.BENCH_EVENTS_VOID).breach Fd.TOP_BREACH_TIER5
    let s := s.onFm b fun g => { g with pc := (mwNxt f.word + 1) % 32768 }
    if f.stopReq && f.region.isNone then s.fmOff b else s.fmFetch b c
  else s

/-- WAIT_TIMEOUT (R288). -/
def execWaitTimeout (b : Fin 8) (s : State) : Host.Outcome State Fault Refusal := whenPowered s (waitTimeout b)

/-- HOLD_RELEASE (R293): the queue has room and S is in range, so the holding word issues. -/
def holdRelease (b : Nat) (s : State) : State :=
  let s := s.fmNow b
  let c := s.fmBoundary b
  let f := s.fm b
  if s.fmRuns b && f.st == .wait && f.holding && f.fault == 0 && decide (c ≤ s.clk.time) && !f.mustHold c then s.fmReady b c
  else s

/-- HOLD_RELEASE (R293). -/
def execHoldRelease (b : Fin 8) (s : State) : Host.Outcome State Fault Refusal := whenPowered s (holdRelease b)

/-! ### Traps (R310 to R313) -/

/-- A write of CTL.DOORBELL (R310): bit n requests vector 4 + n. -/
def doorbell (b mask : Nat) (s : State) : State := foldAll (fun s n => s.fmTrap b (4 + n)) s (bitsSet 4 mask)

/-- DOORBELL (R310). -/
def execDoorbell (b : Fin 8) (mask : BitVec 4) (s : State) : Host.Outcome State Fault Refusal :=
  whenPowered s (doorbell b mask.toNat)

/-- A trap is taken at boundary `c` (R312): the frame is saved in 4 ticks and the handler begins with an empty stack. -/
def State.fmEnter (s : State) (b v c : Nat) (sync : Bool) : State :=
  let u := (List.range 8).map (s.fmU b)
  let k := (List.range 4).map (s.fmC b)
  let addr := s.fld (R.FM_TVEC b v) Fd.FM_TVEC_ADDR
  s.onFm b fun f =>
    let waits := f.st == .wait
    let x : FmFrame := {
      pc := f.pc, stack := f.stack, u := u, c := k, flags := f.flags
      wait := if waits then some (f.waitFrom, f.waited + (c - f.cyc)) else none, sync := sync }
    { f with
      st := .trap, pc := addr, stack := [], frames := x :: f.frames, cyc := c + 4, done := 0, holding := false
      carry := none, fault := 0 }

/-- The vector of a Foreman is enabled (TVECv). -/
def State.vecOn (s : State) (b v : Nat) : Bool := s.flag (R.FM_TVEC b v) Fd.FM_TVEC_EN

/-- FOREMAN_TRAP (R311 to R313, R297): at a boundary outside every timed region, with no level in use, the lowest
enabled request that is at least 4 ticks old is taken. -/
def foremanTrap (b : Nat) (s : State) : State :=
  let s := s.fmNow b
  let f := s.fm b
  let c := if f.st == .wait then s.fmBoundary b else f.cyc
  let at_ := (f.st == .run && f.done == 0) || f.st == .wait
  let ask := (List.range 16).find? fun v =>
    bitAt f.trapPend v && s.vecOn b v && decide (NMap.get (fun _ => 0) f.trapTick v + 4 ≤ c)
  if s.fmRuns b && at_ && f.fault == 0 && f.region.isNone && f.frames.isEmpty && decide (c ≤ s.clk.time) then
    match ask with
    | none => s
    | some v =>
      let en := s.fld (R.FM_EVIN b) Fd.FM_EVIN_IRQEN
      let s := s.onFm b fun f =>
        { f with
          trapPend := clrBit f.trapPend v
          evLatch := if v = 8 then (bitsSet 8 en).foldl clrBit f.evLatch else f.evLatch }
      s.fmEnter b v c false
  else s

/-- FOREMAN_TRAP (R311). -/
def execForemanTrap (b : Fin 8) (s : State) : Host.Outcome State Fault Refusal := whenPowered s (foremanTrap b)

/-! ### Synchronous faults (R310, R313, R315, R316) -/

/-- TIMED_OVERRUN (R315): the region is still open at the first boundary at or after its budget's end. -/
def timedOverrun (b : Nat) (s : State) : State :=
  let s := s.fmNow b
  let f := s.fm b
  match f.region with
  | none => s
  | some e => if s.fmRuns b && f.fault == 0 && decide (alignUp e 2 ≤ s.clk.time) then s.fmRaise b 2 else s

/-- TIMED_OVERRUN (R315). -/
def execTimedOverrun (b : Fin 8) (s : State) : Host.Outcome State Fault Refusal := whenPowered s (timedOverrun b)

/-- The vector of a FAULT.CAUSE code (R310). -/
def faultVec (cause : Nat) : Nat := if cause = 1 then 0 else if cause = 2 then 1 else 2

/-- The flags of a synchronous fault in FLAGS and BENCHn.EVENTS (R316). -/
def State.fmFaultFlags (s : State) (b cause : Nat) : State :=
  if cause = 1 then s.fmFlag b Fd.FM_FLAGS_UECC
  else if cause = 2 then (s.fmFlag b Fd.FM_FLAGS_TIMED_OVERRUN).benchEvent b Fd.BENCH_EVENTS_TIMED_OVERRUN
  else s.fmFlag b Fd.FM_FLAGS_ILLEGAL

/-- SYNC_FAULT (R282, R313, R316): at the cycle boundary after its cause the fault that is raised, or an uncorrectable
word at the fetch, is taken: region closed, all lanes aborted, shot poisoned, and the trap entered or the Foreman
stopped in FAULT. -/
def syncFault (b : Nat) (uecc : Bool) (s : State) : State :=
  let s := s.fmNow b
  let f := s.fm b
  let fetched := (f.st == .run || f.st == .wait) && f.done == 0
  let cause := if f.fault != 0 then f.fault else if uecc && fetched then 1 else 0
  let retired := f.done == 0 && f.fault != 0 && f.fault != 7
  let c := if f.st == .wait || cause == 2 then s.fmBoundary b else if retired then f.cyc else f.issue
  if !(s.fmRuns b && (f.st == .run || f.st == .wait) && cause != 0 && decide (c ≤ s.clk.time)) then s
  else
    let s := s.onFm b fun f => { f with region := none }
    let s := foldAll (fun s l =>
      s.onLane b l fun x => { x with strobes := x.strobes ++ [{ kind := .abort, arrive := s.clk.time, s := c }] }) s
      (List.range 32)
    let v := faultVec cause
    let fatal := !s.vecOn b v || decide (2 ≤ f.frames.length) || match f.frames with
      | [x] => x.sync
      | _ => false
    let s := (s.poison b 7 cause).fmFaultFlags b cause
    let s := ((s.setFld (R.FM_FAULT b) Fd.FM_FAULT_CAUSE cause).setFld (R.FM_FAULT b) Fd.FM_FAULT_FATAL
      (bit fatal)).setFld (R.FM_FAULT b) Fd.FM_FAULT_PC f.pc
    if fatal then
      s.onFm b fun f => { f with st := .fault, fault := 0, done := 0, holding := false, carry := none }
    else s.fmEnter b v c true

/-- SYNC_FAULT (R316). -/
def execSyncFault (b : Fin 8) (uecc : Bool) (s : State) : Host.Outcome State Fault Refusal :=
  whenPowered s (syncFault b uecc)

end Sys2Proof.Machine
end

