-- ==== Sys2Proof/Machine/Tally.lean ====
section
/-!
DEFINITION. Tally (14): the writer slots, the ring, stream disable and the drain (R372 to R380).
-/
namespace Sys2Proof.Machine

/-- The ring's size in bytes (RING_CFG.SIZE, 64 MiB units). -/
def State.ringSize (s : State) : Nat := s.fld R.TALLY_RING_CFG Fd.TALLY_RING_CFG_SIZE * 0x4000000

/-- The ring's base in waveform memory (RING_CFG.BASE). -/
def State.ringBase (s : State) : Nat := s.fld R.TALLY_RING_CFG Fd.TALLY_RING_CFG_BASE * 0x4000000

/-- RP (R372). -/
def State.rp (s : State) : Nat := s.fld R.TALLY_RP Fd.TALLY_RP_OFS

/-- The free space of a ring of `size` bytes whose next write is at `w` and whose reader is at `r` (R372, R379). -/
def ringFree (size w r : Nat) : Nat := (r + 2 * size - w - 32) % size

/-- The header of a record, bytes 0 to 15 (R368). -/
def Rec.header (r : Rec) : List Byte :=
  bytesLE r.typ 1 ++ bytesLE r.len 1 ++ bytesLE r.src 2 ++ bytesLE r.seq 4 ++ bytesLE r.time 8

/-- Byte `i` of a record; bytes that the record table does not name are 0 (R368, R369). -/
def Rec.byteAt (r : Rec) (i : Nat) : Byte :=
  if i < 16 then r.header.getD i 0
  else
    match r.pay.find? fun p => decide (p.1 ≤ i - 16) && decide (i - 16 < p.1 + p.2.1) with
    | some p => BitVec.ofNat 8 (p.2.2 / 256 ^ (i - 16 - p.1))
    | none => 0

/-- The 32 bytes of part `k` of a record. -/
def Rec.part (r : Rec) (k : Nat) : List Byte := (List.range 32).map fun i => r.byteAt (32 * k + i)

/-- The PAD record that fills `units` × 32 bytes before record `r` (R369, R373). -/
def padOf (r : Rec) (units time : Nat) : Rec := { r with typ := 0, len := units, time := time, pay := [], left := 1 }

/-- The source whose part the writer moves next (R374): the device stream within its limit, else the Bench of the
round with weight left, else none. Answers the source and, for a Bench, the parts moved in its turn so far. -/
def State.nextSource (s : State) (devNow : Nat) : Option (Nat × Nat) :=
  if !(s.staged 8).isEmpty && decide (devNow + s.tally.devRecent.foldl (· + ·) 0 < 2) then some (8, 0)
  else
    let cand := (List.range 9).map fun i => ((s.tally.turn + i) % 8, if i = 0 then s.tally.moved else 0)
    cand.find? fun p =>
      !(s.staged p.1).isEmpty && decide (p.2 < 2 * max 1 (s.fld (R.TALLY_WEIGHT p.1) Fd.TALLY_WEIGHT_W))

/-- WP follows the records that are wholly written (R373). -/
def advanceWp (size wp : Nat) : List Placed → Nat × List Placed
  | [] => (wp, [])
  | p :: ps => if p.left = 0 then advanceWp size ((p.ofs + p.len) % size) ps else (wp, p :: ps)

/-- One part of the record placed at `ofs` has been written. -/
def placedWrite (ofs : Nat) : List Placed → List Placed
  | [] => []
  | p :: ps => if p.ofs = ofs && p.left != 0 then { p with left := p.left - 1 } :: ps else p :: placedWrite ofs ps

/-- Charge a part to the round of R374. -/
def State.charge (s : State) (q moved : Nat) : State :=
  if q = 8 then s else { s with tally := { s.tally with turn := q, moved := moved + 1 } }

/-- Write part `k` of the head record `r` of source `q`, already placed, and let WP follow (R373). -/
def State.writePart (s : State) (q : Nat) (r : Rec) : State :=
  let k := r.len - r.left
  let a := s.ringBase + r.ofs + 32 * k
  let s := (s.memStore a (r.part k)).access (a / 64) .open_
  let pl := placedWrite r.ofs s.tally.placed
  let wp := advanceWp s.ringSize s.tally.wp pl
  let s : State := { s with tally := { s.tally with placed := wp.2, wp := wp.1 } }
  let rest := (s.staged q).tail
  if r.left ≤ 1 then
    let s := s.setStaged q rest
    if r.own then
      s.onStream r.stream fun x =>
        if r.typ = 0x23 then { x with gapHeld := false } else { x with wrapHeld := false }
    else s
  else s.setStaged q ({ r with left := r.left - 1 } :: rest)

/-- Move the next part of source `q` (R373). Answers the state and whether a part was moved. A record not yet begun is
placed first; without room for it and its PAD the writer stops (R375). -/
def State.movePart (s : State) (q : Nat) : State × Bool :=
  match s.staged q with
  | [] => (s, false)
  | r :: rest =>
    if r.left < r.len then (s.writePart q r, true)
    else
      let size := s.ringSize
      let len := 32 * r.len
      let room := size - s.tally.head
      let need := if room < len then room + len else len
      if ringFree size s.tally.head s.rp < need then
        ({ s with tally := { s.tally with full := true } }, false)
      else if room < len then
        let pad := padOf r (room / 32) s.clk.time
        let s := s.memStore (s.ringBase + s.tally.head) (pad.part 0)
        let pl := s.tally.placed ++ [({ ofs := s.tally.head, len := room, left := 0 } : Placed)]
        let wp := advanceWp size s.tally.wp pl
        ({ s with tally := { s.tally with placed := wp.2, wp := wp.1, head := 0, full := false } }, true)
      else
        let r := { r with ofs := s.tally.head }
        let s := s.setStaged q (r :: rest)
        let s : State := { s with tally := { s.tally with
          placed := s.tally.placed ++ [{ ofs := s.tally.head, len := len, left := r.len }]
          head := (s.tally.head + len) % size
          full := false } }
        (s.writePart q r, true)

/-- One of the two parts of a slot (R373, R374): answers the state, whether a part moved and whether it was a device
part. -/
def State.slotPart (s : State) (devNow : Nat) : State × Bool × Bool :=
  match s.nextSource devNow with
  | none => (s, false, false)
  | some (q, moved) =>
    match s.movePart q with
    | (s, true) => (s.charge q moved, true, q == 8)
    | (s, false) => (s, false, false)

/-- A stream's final GAP (R377) goes into its place as soon as the place is free. -/
def State.finalGap (s : State) (st : Nat) : State :=
  let x := s.stream st
  if x.finalGap && !x.gapHeld then
    if x.drops = 0 then s.onStream st fun x => { x with finalGap := false }
    else
      let s := s.setStaged (streamSrc st) (s.staged (streamSrc st) ++ [gapRec st x s.clk.time])
      s.onStream st fun x => { x with finalGap := false, drops := 0, gapHeld := true }
  else s

/-- The writer runs while the core clock runs and the memory can be written (R378, R361). -/
def State.writerRuns (s : State) : Bool := s.clk.core && !s.memDead

/-- WRITER_SLOT (R373): up to two parts leave staging for the ring. -/
def writerSlot (s : State) : State :=
  if !s.writerRuns || decide (s.clk.now < s.tally.slotDue) then s
  else
    let (s, m1, d1) := s.slotPart 0
    let (s, _, d2) := if m1 then s.slotPart (bit d1) else (s, false, false)
    let s : State := { s with tally := { s.tally with
      slotDue := s.clk.now + 6
      devRecent := (bit d1 + bit d2) :: s.tally.devRecent.take 2 } }
    foldAll State.finalGap s (List.range 25)

/-- WRITER_SLOT (R373). -/
def execWriterSlot (s : State) : Host.Outcome State Fault Refusal := whenPowered s writerSlot

/-- May RP take this value (R372): a multiple of 32, below the ring size, from RP to WP in ring order. -/
def State.rpOk (s : State) (v : Nat) : Bool :=
  let size := s.ringSize
  v % 32 == 0 && decide (v < size) &&
    decide ((v + size - s.rp) % size ≤ (s.tally.wp + size - s.rp) % size)

/-- RP_WRITE (R372): accepted with DMA = 0 and a value that may be taken; anything else is refused. -/
def rpWrite (who : Who) (v : Word) (s : State) : State :=
  if !s.flag R.TALLY_CTL Fd.TALLY_CTL_DMA && s.rpOk v.toNat then s.setReg R.TALLY_RP v
  else s.denied who R.TALLY_RP true

/-- RP_WRITE (R372). -/
def execRpWrite (who : Who) (v : Word) (s : State) : Host.Outcome State Fault Refusal := whenReached who s (rpWrite who v)

/-- The host ring's size (DMA_SIZE, R379). -/
def State.hostSize (s : State) : Nat := 2 ^ max 16 (min 32 (s.fld R.TALLY_DMA_SIZE Fd.TALLY_DMA_SIZE_LOG2))

/-- The drain runs (R379, R380): selected, enabled, not stopped by an error or a lost link. -/
def State.drains (s : State) : Bool :=
  s.flag R.TALLY_CTL Fd.TALLY_CTL_DMA && s.flag R.TALLY_CTL Fd.TALLY_CTL_DRAIN_EN && !s.tally.stopped &&
    !s.tally.paused && s.upstream

/-- The stream that a SRC field names (R368). -/
def srcStream (src : Nat) : Nat := if bitAt src 2 then 24 else 3 * (src / 2 ^ 13) + src % 4

/-- A staged or drained record that is lost without a new SEQ: it counts in the next GAP of its stream (R342, R378). -/
def State.lostRec (s : State) (st seq : Nat) : State :=
  (s.satAdd (R.TALLY_STREAM_DROP st) Fd.TALLY_STREAM_DROP_COUNT 1).onStream st fun x =>
    { x with drops := x.drops + 1, firstDrop := if x.drops = 0 then seq else x.firstDrop }

/-- DRAIN_COPY (R379): the record at RP goes to the host ring if the ring has space for all of it; RP and DMA_HWP
advance. A record in a unit that is a UE is dropped and counts in its stream's next GAP (R342). -/
def drainCopy (s : State) : State :=
  if !s.drains || s.rp == s.tally.wp then s
  else
    let a := s.ringBase + s.rp
    let len := 32 * (s.byteAt (a + 1)).toNat
    let rp := BitVec.ofNat 32 ((s.rp + len) % s.ringSize)
    let bad := if s.memDead then [a / 64] else s.badUnits a (if s.byteAt a = 0 then 32 else len)
    match bad with
    | u :: _ =>
      ((s.uncorrectable u 8).lostRec (srcStream (s.readLE (a + 2) 2)) (s.readLE (a + 4) 4)).setReg R.TALLY_RP rp
    | [] =>
      if ringFree s.hostSize s.tally.hwp (s.fld R.TALLY_DMA_HRP Fd.TALLY_DMA_HRP_OFS) < len then s
      else
        let bytes := (List.range len).map fun i => s.byteAt (a + i)
        let s := (s.accessAll a len .auto).setReg R.TALLY_RP rp
        let s := s.emit (.drain s.tally.hwp bytes)
        { s with tally := { s.tally with
          hwp := (s.tally.hwp + len) % s.hostSize
          unreported := s.tally.unreported + len
          firstCopy := if s.tally.firstCopy = 0 then s.clk.now + 1 else s.tally.firstCopy } }

/-- DRAIN_COPY (R379). -/
def execDrainCopy (s : State) : Host.Outcome State Fault Refusal := whenPowered s drainCopy

/-- The drain interrupt is due (R380): IRQ_KB copied, or IRQ_US after the first unreported copy (3,000 ticks per
µs). -/
def State.drainDue (s : State) : Bool :=
  let kb := s.fld R.TALLY_DMA_IRQ Fd.TALLY_DMA_IRQ_IRQ_KB
  let us := s.fld R.TALLY_DMA_IRQ Fd.TALLY_DMA_IRQ_IRQ_US
  decide (max 1 kb * 1024 ≤ s.tally.unreported) ||
    (us != 0 && s.tally.firstCopy != 0 && decide (s.tally.firstCopy - 1 + 3000 * us ≤ s.clk.now))

/-- DRAIN_IRQ (R380). -/
def drainIrq (s : State) : State :=
  if s.drainDue then ({ s with tally := { s.tally with unreported := 0, firstCopy := 0 } } : State).irq 4 else s

/-- DRAIN_IRQ (R380). -/
def execDrainIrq (s : State) : Host.Outcome State Fault Refusal := whenPowered s drainIrq

/-- DMA_ERROR (R380): the drain stops until DRAIN_EN is written 0 and then 1. -/
def dmaError (s : State) : State :=
  if s.drains then
    ({ s with tally := { s.tally with stopped := true } } : State).flagIrq R.TALLY_STATUS Fd.TALLY_STATUS_DMA_ERR 4
  else s

/-- DMA_ERROR (R380). -/
def execDmaError (s : State) : Host.Outcome State Fault Refusal := whenPowered s dmaError

/-- A stream stops (R35, R377): a record accepted in this very tick counts as dropped (R34), and a GAP for all drops goes
into the stream's place at once, or as soon as it is free. -/
def State.streamStops (s : State) (st : Nat) : State :=
  let q := streamSrc st
  let new := fun (r : Rec) => r.stream == st && !r.own && r.left == r.len && r.acc == s.clk.now + 1
  let gone := (s.staged q).filter new
  let s := if gone.isEmpty then s else s.setStaged q ((s.staged q).filter fun r => !new r)
  let s := foldAll (fun s r => s.dropRec st r.seq) s gone
  (s.onStream st fun x => { x with finalGap := true, offAt := s.clk.now + 1 }).finalGap st

/-- STREAM_DISABLE (R377): EN becomes 0; a GAP for all drops goes into the stream's place at once, or as soon as it is
free. -/
def streamDisable (st : Nat) (s : State) : State :=
  if s.streamOn st then (s.clear (R.TALLY_STREAM_CTL st) Fd.TALLY_STREAM_CTL_EN).streamStops st else s

/-- STREAM_DISABLE (R377). -/
def execStreamDisable (st : Fin 25) (s : State) : Host.Outcome State Fault Refusal :=
  whenPowered s (streamDisable st)

/-- The end of the 50 µs that an entry to IDLE or KEEP gives the writer (R378): records begun are completed, the
others are dropped and counted. `parts` bounds the parts still to write of a begun record. -/
def State.tallyStop (s : State) : State :=
  let fin := fun (s : State) (q : Nat) =>
    match s.staged q with
    | r :: _ =>
      if r.left < r.len then
        foldAll (fun s _ => match s.staged q with
          | r :: _ => if r.left < r.len then s.writePart q r else s
          | [] => s) s (List.range 255)
      else s
    | [] => s
  let s := if s.memDead then s else foldAll fin s (List.range 9)
  let lost := fun (s : State) (q : Nat) =>
    let rs := s.staged q
    let s := foldAll (fun s r =>
      if r.own then
        s.onStream r.stream fun x =>
          if r.typ = 0x23 then
            { x with gapHeld := false, drops := x.drops + (r.pay.headD (0, 0, 0)).2.2, firstDrop := r.seq }
          else { x with wrapHeld := false, wrapDue := true }
      else s.lostRec r.stream r.seq) s rs
    s.setStaged q []
  foldAll lost s (List.range 9)

end Sys2Proof.Machine
end

