-- ==== Sys2Proof/Machine/BenchCtl.lean ====
section
/-!
DEFINITION. Benches: enabling and disabling them (R36, R38), quiet (R37), and the Bench reset (R63).
-/
namespace Sys2Proof.Machine

/-! ### Quiet (R37) -/

/-- The lane outputs zero, with empty play queues and render slots. -/
def Lane.isQuiet (x : Lane) : Bool := x.allPlays.isEmpty && x.slots.isEmpty

/-- The engine is stopped with an empty FIFO and no window left unanswered (R244). -/
def Engine.isQuiet (x : Engine) : Bool := !x.runs && x.fifo.isEmpty && x.answers.isEmpty

/-- The Foreman is stopped with an empty schedule queue (R307). -/
def Fm.isQuiet (f : Fm) : Bool := f.st.quiet && f.queue.isEmpty

/-- A Bench is quiet (R37): BENCHn.STATUS.QUIET. -/
def State.benchQuiet (s : State) (b : Nat) : Bool :=
  ((List.range 32).all fun l => (s.lane b l).isQuiet) && ((List.range 4).all fun e => (s.eng b e).isQuiet) &&
    (s.fm b).isQuiet

/-! ### Disabling (R36) -/

/-- A lane of a Bench that is disabled (R171): it stops, and becomes READY at the next enable if its EN is 1 (R172). -/
def State.benchLaneOff (s : State) (b l : Nat) : State :=
  if s.flag (R.LOOM_LANE_CTL b l) Fd.LOOM_LANE_CTL_EN then
    (s.onLane b l fun x => { x with enWait := true }).laneStop b l false false
  else s.laneStop b l false false

/-- An engine of a Bench that is disabled (R244). -/
def State.benchEngOff (s : State) (b e : Nat) : State :=
  if (s.eng b e).runs then s.engAskStop b e else s.onEng b e fun x => { x with st := .off }

/-- A Bench stops (R36, R265): its lanes, engines, Foreman and Tally sources are asked to stop together. -/
def State.benchStop (s : State) (b : Nat) : State :=
  let was := s.benchOn b
  let s := (s.clear (R.BENCH_CTL b) Fd.BENCH_CTL_EN).onBench b fun x => { x with enPend := false }
  if was then
    let s := s.onBench b fun x => { x with stopping := true }
    let s := foldAll (fun s l => s.benchLaneOff b l) s (List.range 32)
    let s := foldAll (fun s e => s.benchEngOff b e) s (List.range 4)
    let s := foldAll (fun s k => if s.streamOn (3 * b + k) then s.streamStops (3 * b + k) else s) s (List.range 3)
    (s.fmAskStop b).tagsOff b
  else s

/-- BENCH_DISABLE (R36): a write of EN = 0. -/
def benchDisable (b : Nat) (s : State) : State := s.benchStop b

/-- BENCH_DISABLE (R36). -/
def execBenchDisable (b : Fin 8) (s : State) : Host.Outcome State Fault Refusal := whenPowered s (benchDisable b)

/-! ### Enabling (R38) -/

/-- A Bench becomes enabled: its lanes whose EN is 1 become READY (R172), its engines start where the mode runs them
(R243). -/
def State.benchStart (s : State) (b : Nat) : State :=
  let s := (s.raise (R.BENCH_CTL b) Fd.BENCH_CTL_EN).onBench b fun x => { x with enPend := false, stopping := false }
  let s := foldAll (fun s l => s.laneArm b l) s (List.range 32)
  foldAll (fun s e => s.engStart b e false) s (List.range 4)

/-- The Bench holds no Pattern content (R63): its WIPED bit. -/
def State.wiped (s : State) (b : Nat) : Bool := s.fbit R.TOP_MODE Fd.TOP_MODE_WIPED b

/-- A request to enable a Bench (R38): at once, or at the next entry to ARMED. During a reset of the Bench it is dropped:
DESIGN CHOICE, log entry 11. -/
def State.benchAsk (s : State) (b : Nat) : State :=
  if s.mode.timeline then
    if s.benchOn b then s
    else (s.raise (R.BENCH_CTL b) Fd.BENCH_CTL_EN).onBench b fun x => { x with enPend := true }
  else if s.benchOn b then s
  else s.benchStart b

/-- BENCH_ENABLE (R38, R63): a write of EN = 1; dropped for a wiped Bench, and (a choice of the model) for one whose reset
is not over. -/
def benchEnable (who : Who) (b : Nat) (s : State) : State :=
  if s.wiped b || (s.benchSt b).resetPend then s.denied who (R.BENCH_CTL b) true else s.benchAsk b

/-- BENCH_ENABLE (R38). -/
def execBenchEnable (who : Who) (b : Fin 8) (s : State) : Host.Outcome State Fault Refusal :=
  whenReached who s (benchEnable who b)

/-! ### Reset (R63, R64, R86) -/

/-- Every function of a Bench has reached its boundary (R36): it is quiet and no lane is still stopping. -/
def State.benchSettled (s : State) (b : Nat) : Bool :=
  s.benchQuiet b && (List.range 32).all fun l => (s.lane b l).st != .stopping

/-- A reset of Bench `b` begins (R63): it is disabled; once quiet, its wipe takes 6 µs. -/
def State.benchResetBegin (s : State) (b : Nat) : State :=
  if (s.benchSt b).resetPend then s
  else
    let s := (s.benchStop b).onBench b fun x => { x with resetPend := true }
    if s.benchSettled b then s.onBench b fun x => { x with wipeDue := s.clk.now + 18000 } else s

/-- BENCH_QUIET (R36, R37, R63): every function of a disabled Bench has reached its boundary; STOPPING clears, and the wipe
of a pending reset begins. -/
def benchQuietReached (b : Nat) (s : State) : State :=
  let x := s.benchSt b
  if s.benchSettled b && !s.benchOn b && (x.stopping || (x.resetPend && x.wipeDue = 0)) then
    s.onBench b fun x =>
      { x with stopping := false, wipeDue := if x.resetPend && x.wipeDue = 0 then s.clk.now + 18000 else x.wipeDue }
  else s

/-- BENCH_QUIET (R37). -/
def execBenchQuiet (b : Fin 8) (s : State) : Host.Outcome State Fault Refusal := whenPowered s (benchQuietReached b)

/-- The offset lies in what a reset of Bench `b` wipes (R63): its memory window, and its OLT partition in partitioned
mode. -/
def State.benchSram (s : State) (b off : Nat) : Bool :=
  (decide (0x430000000 + 0x1000000 * b ≤ off) && decide (off < 0x431000000 + 0x1000000 * b)) ||
    (!s.flag R.DEC_CFG Fd.DEC_CFG_UNIFIED && decide (0x410000000 + 0x80000 * b ≤ off) &&
      decide (off < 0x410080000 + 0x80000 * b))

/-- The caches of a Bench are empty (R63, R41): directory cache, resident and transient copies, and what the windows hold.
The residency list and the sizes of the windows stay; resident copies are made again when a load restores the Bench, or
on leaving KEEP (R124). -/
def State.cachesLost (s : State) (b : Nat) : State :=
  s.onLoom b fun x =>
    { ({} : Loom) with
      lead := x.lead, panicAt := x.panicAt
      windows := (x.windows.map fun e => (e.1, ({ size := e.2.size } : Window))).filter fun e => e.2.size != 0 }

/-- The SRAMs of a Bench are wiped (R63 step 2, R83). -/
def State.benchWipe (s : State) (b : Nat) : State :=
  let s : State := { s with ap := NMap.erase (s.benchSram b) s.ap }
  let s : State := { s with xyStages := NMap.erase (fun k => k / 32 == b) s.xyStages }
  let s := foldAll (fun s l =>
    s.onLane b l fun x => { x with plays := [], branches := [], slots := [], stages := [], headQ := [] }) s (List.range 32)
  s.cachesLost b

/-- BENCH_WIPE_DONE (R63): the wipe of a quiet Bench has taken 6 µs; its WIPED bit is set. -/
def benchWipeDone (b : Nat) (s : State) : State :=
  let x := s.benchSt b
  if x.resetPend && x.wipeDue != 0 && decide (x.wipeDue ≤ s.clk.now) then
    ((s.benchWipe b).orFld R.TOP_MODE Fd.TOP_MODE_WIPED (2 ^ b)).onBench b fun x =>
      { x with resetPend := false, wipeDue := 0 }
  else s

/-- BENCH_WIPE_DONE (R63). -/
def execBenchWipeDone (b : Fin 8) (s : State) : Host.Outcome State Fault Refusal := whenPowered s (benchWipeDone b)

end Sys2Proof.Machine
end

