-- ==== Sys2Proof/Machine/Bias.lean ====
section
/-!
DEFINITION. Bias outputs and the front panel (R396 to R407): codes and load groups, the update boundary, unparking,
parking and range changes, the sine, supervision, and the panel inputs. Voltages are whole numbers of 2^-20 µV.
-/
namespace Sys2Proof.Machine

/-! ### Ranges and codes (R396) -/

/-- The LSB of a range in 2^-20 µV: 5, 10 or 20 V over 2^20 codes. -/
def rangeLsb (r : Nat) : Int := if r = 0 || r = 2 then 5000000 else if r = 1 || r = 3 then 10000000 else 20000000

/-- A bipolar range. -/
def rangeBip (r : Nat) : Bool := decide (2 ≤ r)

/-- The voltage of a code in a range. -/
def codeVolt (r code : Nat) : Int := (if rangeBip r then sext 20 code else Int.ofNat (code % 2 ^ 20)) * rangeLsb r

/-- The lower and the upper limit of a range. -/
def rangeLimits (r : Nat) : Int × Int :=
  if rangeBip r then (-(524288 * rangeLsb r), 524287 * rangeLsb r) else (0, 1048575 * rangeLsb r)

/-- The value an output glides towards. -/
def Bias.goal (x : Bias) : Int :=
  match x.aim with
  | .parking | .parkSafe => 0
  | _ => if x.step == .toZero then 0 else codeVolt x.range x.target

/-- GLIDING (R399): the output differs from its target. -/
def Bias.gliding (x : Bias) : Bool := !x.parked && x.out != x.goal

/-- RANGE_PEND (R401, R404). -/
def Bias.rangePend (x : Bias) : Bool := x.step != .none_ || x.susp

/-- The SAFE code of an output. -/
def State.safeCode (s : State) (n : Nat) : Nat := s.fld (R.BIAS_CH_SAFE n) Fd.BIAS_CH_SAFE_CODE

/-- The most that an output moves at one boundary, in 2^-20 µV; none for a jump (R399, R404, R44). -/
def State.biasStep (s : State) (n : Nat) (x : Bias) : Option Int :=
  let rate := 1048576 * Int.ofNat (max 1 (s.fld (R.BIAS_CH_CFG n) Fd.BIAS_CH_CFG_RATE))
  let safe := 10485760 * Int.ofNat (max 1 (s.fld (R.BIAS_CH_SAFE n) Fd.BIAS_CH_SAFE_SAFE_RATE))
  match x.aim with
  | .parkSafe => some safe
  | .safe => if s.flag (R.BIAS_CH_SAFE n) Fd.BIAS_CH_SAFE_SAFE_JUMP then none else some safe
  | _ => if s.flag (R.BIAS_CH_CFG n) Fd.BIAS_CH_CFG_JUMP then none else some rate

/-- One move from `v` towards `g` (R399); the last step lands on it. -/
def glide (v g : Int) : Option Int → Int
  | none => g
  | some d => if g - v ≤ d && v - g ≤ d then g else if v < g then v + d else v - d

/-! ### The sine (R402) -/

/-- The sine's contribution at a phase, in 2^-20 µV: the amplitude in µV times the 20-bit table entry. -/
def sineAt (amp phase : Nat) : Int :=
  let e := bitsOf phase 20 10
  let q := bitsOf phase 30 2
  let t := (Config.sineTable (BitVec.ofNat 10 (if q % 2 = 0 then e else 1023 - e))).toNat
  Int.ofNat (amp * t) * (if q < 2 then 1 else -1)

/-- SIN_FTW within its limits. -/
def State.sinFtw (s : State) (n : Nat) : Nat := max 1 (min 429496730 (s.reg (R.BIAS_CH_SIN_FTW n)).toNat)

/-- The sine stops, with SIN_EN as it stands. -/
def Bias.quiet (x : Bias) : Bias := { x with sin := false, phase := 0, sinStop := false, sinWait := false }

/-! ### The update boundary (R397) -/

/-- A load takes the staged code (R398, R401): as the target, or in place of CODE while a range change goes on. -/
def State.biasLoad (s : State) (n : Nat) : State :=
  let code := s.fld (R.BIAS_CH_CODE n) Fd.BIAS_CH_CODE_CODE
  s.onBias n fun x =>
    if x.rangePend then { x with staged := false, reqCode := code }
    else { x with staged := false, target := code, aim := if x.aim == .safe then .target else x.aim }

/-- A staged code moves at this boundary (R398, R404): a written one at once without a load group, else what the staging
register holds, by a strobe of its group. -/
def State.biasLoads (s : State) (n : Nat) (groups : List Nat) : Bool :=
  let r := R.BIAS_CH_CFG n
  !s.safeLow &&
    if s.flag r Fd.BIAS_CH_CFG_LGEN then groups.contains (s.fld r Fd.BIAS_CH_CFG_LGRP) else (s.bias n).staged

/-- The phase of the sine at a boundary: the next phase, and whether it wraps. -/
def nextPhase (phase ftw : Nat) : Nat × Bool := ((phase + ftw) % 2 ^ 32, decide (2 ^ 32 ≤ phase + ftw))

/-- The sine at a boundary (R401 to R403): it advances, stops at a wrap where that is asked for, or starts. -/
def Bias.sineStep (x : Bias) (ftw : Nat) : Bias :=
  if x.sin then
    let (p, wraps) := nextPhase x.phase ftw
    if wraps && (x.sinStop || x.step == .waitWrap) then x.quiet else { x with phase := p }
  else if x.sinWait && !x.unpark && !x.rangePend && !x.parked then { x with sin := true, phase := 0, sinWait := false }
  else x

/-- The output glides (R399); an output that reaches 0 V parks where it is to (R400): a range change not yet switched is
then that of a parked channel (R401). -/
def Bias.move (x : Bias) (d : Option Int) : Bias :=
  let v := glide x.out x.goal d
  let x := { x with out := v }
  let x := if v = x.goal then { x with unpark := false } else x
  if v = 0 && (x.aim == .parking || x.aim == .parkSafe) then
    { x.quiet with
        parked := true, unpark := false, aim := .target
        step := if x.step == .none_ then .none_ else .waitGlide }
  else x

/-- A range change of an unparked output goes on (R401): after the glide and the sine's wrap it glides to 0 V, and there
it parks for the switch. -/
def Bias.advance (x : Bias) (now : Nat) : Bias :=
  if x.parked then x
  else
  let x := if x.step == .waitGlide && x.out == x.goal then { x with step := .waitWrap } else x
  let x := if x.step == .waitWrap && !x.sin then
      { x with step := .toZero, aim := if x.aim == .safe then .target else x.aim } else x
  if x.step == .toZero && x.out == 0 then { x with step := .switching (now + 120000), parked := true } else x

/-- The value at the pin (R400, R402): the output with the sine, saturated to the range; CLIPPED says so. -/
def State.biasDrive (s : State) (n : Nat) : State :=
  let x := s.bias n
  if x.parked then s.onBias n fun x => { x with driven := 0 }
  else
    let v := x.out + (if x.sin then sineAt (s.fld (R.BIAS_CH_SIN_AMP n) Fd.BIAS_CH_SIN_AMP_VALUE) x.phase else 0)
    let (lo, hi) := rangeLimits x.range
    let s := if v < lo || hi < v then s.raise (R.BIAS_CH_FLAGS n) Fd.BIAS_CH_FLAGS_CLIPPED else s
    s.onBias n fun x => { x with driven := max lo (min hi v) }

/-- A later range request follows a change that has ended (R401). -/
def Bias.nextReq (x : Bias) : Bias :=
  match x.later with
  | none => x
  | some (r, c) =>
    if r = x.range then { x with later := none }
    else { x with later := none, req := r, reqCode := c, step := .waitGlide }

/-- One output at an update boundary (R397 to R402). A parked one switches range and stays parked. -/
def State.biasTick (s : State) (n : Nat) (groups : List Nat) : State :=
  let s := if s.biasLoads n groups then s.biasLoad n else s
  let x := s.bias n
  if x.parked then
    if x.step == .waitGlide && !x.susp then
      s.onBias n fun x => ({ x with range := x.req, target := x.reqCode, step := .none_ } : Bias).nextReq
    else s.biasDrive n
  else
    let d := s.biasStep n x
    let ftw := s.sinFtw n
    (s.onBias n fun x => ((x.sineStep ftw).move d).advance s.clk.now).biasDrive n

/-- BIAS_UPDATE (R397): the update boundary that has come, every 25th AON cycle. -/
def biasUpdate (s : State) : State :=
  if s.clk.now < s.slow.boundary then s
  else
    let t := s.slow.boundary
    let due := s.slow.loads.filter fun r => decide (r.after ≤ t)
    let s : State := { s with slow := { s.slow with
      boundary := t + 3000, loads := s.slow.loads.filter fun r => !decide (r.after ≤ t) } }
    let s := if s.safeLow && !due.isEmpty then s.raise R.BIAS_STATUS Fd.BIAS_STATUS_LOAD_BLOCK else s
    foldAll (fun s n => s.biasTick n (due.map (·.group))) s (List.range 64)

/-- BIAS_UPDATE (R397). -/
def execBiasUpdate (s : State) : Host.Outcome State Fault Refusal := whenPowered s biasUpdate

/-! ### Writes -/

/-- BIAS_CODE_WRITE (R398): the code is staged. -/
def biasCodeWrite (n : Nat) (v : Word) (s : State) : State :=
  (s.setFld (R.BIAS_CH_CODE n) Fd.BIAS_CH_CODE_CODE (bitsOf v.toNat 0 20)).onBias n fun x => { x with staged := true }

/-- BIAS_CODE_WRITE (R398). -/
def execBiasCodeWrite (n : Fin 64) (v : Word) (s : State) : Host.Outcome State Fault Refusal :=
  whenPowered s (biasCodeWrite n v)

/-- LOAD_STROBE (R398). -/
def loadStrobe (groups : Nat) (s : State) : State := foldAll (fun s g => s.strobeGroup g false) s (bitsSet 8 groups)

/-- LOAD_STROBE (R398). -/
def execLoadStrobe (groups : BitVec 8) (s : State) : Host.Outcome State Fault Refusal :=
  whenPowered s (loadStrobe groups.toNat)

/-- UNPARK (R400, R404): the amplifier is connected at 0 V; dropped while SAFE_N is low. -/
def unpark (who : Who) (n : Nat) (s : State) : State :=
  if s.safeLow then s.denied who (R.BIAS_CH_CTL n) true
  else
    let x := s.bias n
    let switching := match x.step with
      | .switching _ => true
      | _ => false
    if x.parked && !switching then
      s.onBias n fun x => { x with parked := false, out := 0, aim := .target, unpark := true }
    else s

/-- UNPARK (R400). -/
def execUnpark (who : Who) (n : Fin 64) (s : State) : Host.Outcome State Fault Refusal := whenReached who s (unpark who n)

/-- PARK (R400): the output glides to 0 V and parks. -/
def park (n : Nat) (s : State) : State :=
  let x := s.bias n
  let switching := match x.step with
    | .switching _ => true
    | _ => false
  if x.parked && !switching then s else s.onBias n fun x => { x with aim := .parking }

/-- PARK (R400). -/
def execPark (n : Fin 64) (s : State) : Host.Outcome State Fault Refusal := whenPowered s (park n)

/-- The output is asked for a range (R401): before step 3 a request replaces the one before, later ones wait. -/
def State.biasRange (s : State) (n r c : Nat) : State :=
  s.onBias n fun x =>
    match x.step with
    | .none_ =>
      if x.susp then
        (if r = x.range then { x with susp := false } else { x with req := r, reqCode := c })
      else if r = x.range then x
      else { x with req := r, reqCode := c, step := .waitGlide }
    | .waitGlide | .waitWrap =>
      if r = x.range then { x with step := .none_ } else { x with req := r, reqCode := c }
    | _ => { x with later := some (r, c) }

/-- BIAS_RANGE_REQUEST (R396, R401, R404): a write of CHn_RANGE; dropped for a reserved range and while SAFE_N is low. -/
def biasRangeRequest (who : Who) (n : Nat) (v : Word) (s : State) : State :=
  let r := bitsOf v.toNat 20 3
  let c := bitsOf v.toNat 0 20
  if s.safeLow || decide (5 ≤ r) then s.denied who (R.BIAS_CH_RANGE n) true
  else
    ((s.setFld (R.BIAS_CH_RANGE n) Fd.BIAS_CH_RANGE_CODE c).setFld (R.BIAS_CH_RANGE n) Fd.BIAS_CH_RANGE_REQ r).biasRange
      n r c

/-- BIAS_RANGE_REQUEST (R401). -/
def execBiasRangeRequest (who : Who) (n : Fin 64) (v : Word) (s : State) : Host.Outcome State Fault Refusal :=
  whenReached who s (biasRangeRequest who n v)

/-- BIAS_RANGE_SWITCH_DONE (R401, R403, R404): 40 µs after the output parked, the range has switched; it unparks and
glides to its new target, or to SAFE, with SIN_EN clear, while SAFE_N is low; a PARK in that time leaves it parked (log
entry 46). -/
def biasRangeSwitchDone (n : Nat) (s : State) : State :=
  let x := s.bias n
  match x.step with
  | .switching due =>
    if s.clk.now < due then s
    else
      let en := s.flag (R.BIAS_CH_CTL n) Fd.BIAS_CH_CTL_SIN_EN
      let safe := s.safeLow
      let code := if safe then s.safeCode n else x.reqCode
      let s := if safe then s.clear (R.BIAS_CH_CTL n) Fd.BIAS_CH_CTL_SIN_EN else s
      s.onBias n fun x =>
        let keep := x.aim == .parking || x.aim == .parkSafe
        ({ x with
            range := x.req, target := code, step := .none_, parked := keep, out := 0
            unpark := !keep, sinWait := en && !keep && !safe
            aim := if keep then .target else if safe then .safe else .target } : Bias).nextReq
  | _ => s

/-- BIAS_RANGE_SWITCH_DONE (R401). -/
def execBiasRangeSwitchDone (n : Fin 64) (s : State) : Host.Outcome State Fault Refusal :=
  whenPowered s (biasRangeSwitchDone n)

/-- SIN_START (R402): SIN_EN is set and the sine starts at a boundary; an unparked output has it cleared at once while
SAFE_N is low (R404). -/
def sinStart (n : Nat) (s : State) : State :=
  if s.safeLow && !(s.bias n).parked then s
  else
    (s.raise (R.BIAS_CH_CTL n) Fd.BIAS_CH_CTL_SIN_EN).onBias n fun x =>
      if x.sin then { x with sinStop := false } else { x with sinWait := true }

/-- SIN_START (R402). -/
def execSinStart (n : Fin 64) (s : State) : Host.Outcome State Fault Refusal := whenPowered s (sinStart n)

/-- SIN_STOP (R402): the sine stops at its next phase wrap. -/
def sinStop (n : Nat) (s : State) : State :=
  (s.clear (R.BIAS_CH_CTL n) Fd.BIAS_CH_CTL_SIN_EN).onBias n fun x =>
    if x.sin then { x with sinStop := true } else { x with sinWait := false }

/-- SIN_STOP (R402). -/
def execSinStop (n : Fin 64) (s : State) : Host.Outcome State Fault Refusal := whenPowered s (sinStop n)

/-! ### Supervision (R405) -/

/-- Set a flag of an output; EV_BIAS_FAULT is pulsed, and source 6 raises, when it is newly set (R405, R448). -/
def State.biasFault (s : State) (n : Nat) (f : Bits) : State :=
  if s.flag (R.BIAS_CH_FLAGS n) f then s else ((s.raise (R.BIAS_CH_FLAGS n) f).pulse 351).irq 6

/-- The magnitude of an integer. -/
def mag (i : Int) : Int := max i (-i)

/-- A voltage reading, checked against the commanded output (R405). -/
def State.monitorV (s : State) (n : Nat) (v : Int) : State :=
  let x := s.bias n
  let win := Int.ofNat (s.fld (R.BIAS_CH_SUP n) Fd.BIAS_CH_SUP_WIN)
  let s := s.setReg (R.BIAS_CH_MONV n) (BitVec.ofInt 32 v)
  if win != 0 && decide (win * 100 * 1048576 < mag (v * 1048576 - x.driven)) then
    let s := s.onBias n fun x => { x with misses := x.misses + 1 }
    if x.misses = 0 then s
    else
      let s := s.biasFault n Fd.BIAS_CH_FLAGS_MISMATCH
      if s.flag (R.BIAS_CH_CFG n) Fd.BIAS_CH_CFG_MM_SAFE then
        let code := s.safeCode n
        s.onBias n fun x => { x with target := code, aim := .safe }
      else s
  else s.onBias n fun x => { x with misses := 0 }

/-- A current reading, checked against the load (R405). -/
def State.monitorI (s : State) (n : Nat) (i : Int) : State :=
  let x := s.bias n
  let load := Int.ofNat (s.fld (R.BIAS_CH_SUP n) Fd.BIAS_CH_SUP_LOAD)
  let s := s.setReg (R.BIAS_CH_MONI n) (BitVec.ofInt 32 i)
  if decide (100000 * 1048576 ≤ mag x.driven) && load != 0 &&
      decide (mag i * 40 * load * 1048576 < mag x.driven * 1000) then
    let s := s.onBias n fun x => { x with opens := x.opens + 1 }
    if x.opens = 0 then s else s.biasFault n Fd.BIAS_CH_FLAGS_OPEN_LOAD
  else s.onBias n fun x => { x with opens := 0 }

/-- MONITOR_CONVERSION (R405): MONV in µV or MONI in nA is renewed; supervision applies to an unparked output whose sine
is stopped. -/
def monitorConversion (n : Nat) (current : Bool) (v : Int) (s : State) : State :=
  let x := s.bias n
  if x.parked || x.sin then
    let s := if current then s.setReg (R.BIAS_CH_MONI n) (BitVec.ofInt 32 v)
      else s.setReg (R.BIAS_CH_MONV n) (BitVec.ofInt 32 v)
    s.onBias n fun x => { x with misses := 0, opens := 0 }
  else if current then s.monitorI n v
  else s.monitorV n v

/-- MONITOR_CONVERSION (R405). -/
def execMonitorConversion (n : Fin 64) (current : Bool) (v : Int) (s : State) : Host.Outcome State Fault Refusal :=
  whenPowered s (monitorConversion n current v)

/-! ### SAFE_N and the panel (R404, R407, R196) -/

/-- SAFE_N goes low for an output (R404): the sine stops and SIN_EN clears; the SAFE code becomes its target; a range
change that has not parked is suspended. An output that glides to park (R44) is redirected and no longer parks: DESIGN
CHOICE, log entry 14. -/
def State.biasSafe (s : State) (n : Nat) : State :=
  let x := s.bias n
  if x.parked then s
  else
    let code := s.safeCode n
    (s.clear (R.BIAS_CH_CTL n) Fd.BIAS_CH_CTL_SIN_EN).onBias n fun x =>
      { x.quiet with target := code, aim := .safe, susp := x.rangePend, step := .none_ }

/-- SAFE_N is high again (R404): a suspended range change resumes. -/
def State.biasUnsafe (s : State) (n : Nat) : State :=
  s.onBias n fun x => if x.susp then { x with susp := false, step := .waitGlide } else x

/-- Entry to DORMANT or LATCHED (R44): an output glides to 0 V at its safe rate and parks. -/
def State.biasDown (s : State) (n : Nat) : State :=
  s.onBias n fun x => if x.parked && x.step == .none_ then x else { x with aim := .parkSafe }

/-- Every output parks at once (R44, R400). -/
def State.biasPark (s : State) (n : Nat) : State :=
  s.onBias n fun x =>
    { x.quiet with parked := true, out := 0, driven := 0, aim := .target, step := .none_, susp := false, later := none
                   unpark := false }

/-- A panel input has a new level (R407). -/
def State.panelPut (s : State) (i : Nat) (level : Bool) : State :=
  { s with slow := { s.slow with panel := if level then setBit s.slow.panel i else clrBit s.slow.panel i } }

end Sys2Proof.Machine
end

