-- ==== Sys2Proof/Machine/Budget.lean ====
section
/-!
DEFINITION. Admission (12): the real-time capability (R321), the checks of a budget record (R322), and the recording of a
check's outcome (R323, R324).
-/
namespace Sys2Proof.Machine

/-- CAP_RT in MB/s (R321). -/
def State.capRt (s : State) : Nat := if s.memDead then 0 else 460000 * s.memc.rate / 22

/-- The active channels (R321). -/
def State.activeCh (s : State) : Nat := if s.memDead then 14 else 16

/-- The Benches that would be enabled at an entry to ARMED (R323, R38): bit b. -/
def State.benchesAsked (s : State) : Nat := (pick 8 fun b => s.flag (R.BENCH_CTL b) Fd.BENCH_CTL_EN).foldl setBit 0

/-- The enabled Benches, bit b. -/
def State.benchesOn (s : State) : Nat := (pick 8 s.benchOn).foldl setBit 0

/-- An item of a budget record. -/
def itemOf (l : List Nat) (i : Nat) : Nat := l.getD i 0

/-- The sum of an item over the Benches of a mask. -/
def itemSum (l : List Nat) (mask : Nat) : Nat := ((bitsSet 8 mask).map (itemOf l)).foldl (· + ·) 0

/-- The first Bench of a mask for which an item exceeds a limit. -/
def firstOver (l : List Nat) (mask limit : Nat) : Option Nat :=
  (bitsSet 8 mask).find? fun b => decide (limit < itemOf l b)

/-- The first Crier port that names too many slots, or relay bits on a row port. -/
def crierOver (r : Budget) (slots : Nat → Nat → Nat) : Option Nat :=
  (List.range 14).find? fun p =>
    decide (7 < itemOf r.ports p) ||
      (decide (p < 7) && (List.range 7).any fun k => decide (1 < slots p k))

/-- The checks of R322 in table order: the first that fails, with its Bench or port; none when the record fits. `slots`
gives the source masks of the Crier slot tables. -/
def budgetFails (cap : Nat) (dead : Bool) (r : Budget) (mask : Nat) (slots : Nat → Nat → Nat) : Option (Nat × Nat) :=
  if cap < itemSum r.rt mask then some (1, 0)
  else match firstOver r.rt mask 96000 with
  | some b => some (2, b)
  | none =>
    if !dead && decide (32000 < itemSum r.tally mask) then some (3, 0)
    else match firstOver r.olt mask 375 with
    | some b => some (4, b)
    | none => match firstOver r.slots mask 128 with
      | some b => some (5, b)
      | none => match crierOver r slots with
        | some p => some (6, p)
        | none => none

/-- A record against the present capability. -/
def State.fails (s : State) (r : Budget) (mask : Nat) : Option (Nat × Nat) :=
  budgetFails s.capRt s.memDead r mask s.slotMask

/-- TOP.BUDGET_STATUS.FITS: a Pattern is present and its record fits with the enabled Benches. -/
def State.fitsNow (s : State) : Bool := s.patterned && (s.fails s.pat.budget s.benchesOn).isNone

/-- The outcome of a check is recorded (R323, R324): `point` is 0 at a load, 1 at an entry to ARMED, 2 after a capability
change. -/
def State.budgetNote (s : State) (r : Budget) (mask point : Nat) (out : Option (Nat × Nat)) : State :=
  let (item, wh) := out.getD (0, 0)
  let o := R.TOP_BUDGET_STATUS
  let s := ((s.setFld o Fd.TOP_BUDGET_STATUS_POINT point).setFld o Fd.TOP_BUDGET_STATUS_ITEM item).setFld o
    Fd.TOP_BUDGET_STATUS_WHERE wh
  let s := (s.setFld R.TOP_BUDGET_DEMAND Fd.TOP_BUDGET_DEMAND_RT_SUM (min 0x1FFFFF (itemSum r.rt mask))).setFld
    R.TOP_BUDGET_TALLY Fd.TOP_BUDGET_TALLY_TALLY_SUM (min 0xFFFF (itemSum r.tally mask))
  if out.isSome then s.flagIrq o Fd.TOP_BUDGET_STATUS_SHORT 0 else s

/-- BUDGET_CHECK (R323): the record in force at a point; whether it fits. -/
def State.budgetCheck (s : State) (mask point : Nat) : State × Bool :=
  let out := s.fails s.pat.budget mask
  (s.budgetNote s.pat.budget mask point out, out.isNone)

end Sys2Proof.Machine
end

