-- ==== Sys2Proof/Machine/Panel.lean ====
section
/-!
DEFINITION. The front-panel inputs (R407), and what SAFE_N does to the outputs and the shots (R196, R404).
-/
namespace Sys2Proof.Machine

/-! ### Parking under SAFE_N (R196) -/

/-- The tick by which the voice finishes the stored granule that is interpolated now (R196). -/
def State.voiceEnds (s : State) (b l voice : Nat) : Nat :=
  match ((s.lane b l).queue voice).find? fun p => p.active s.clk.time with
  | some p =>
    let p := p.finish voice (s.voiceDelay b l voice) s.clk.time false false
    match p.desc, p.last with
    | .good _, some n => max s.clk.time (min p.ends (p.start + (n + spt voice - 1) / spt voice))
    | _, _ => s.clk.time
  | none => s.clk.time

/-- Every voice of the device finishes its stored granule in progress and is zero from then on; its play goes on in
time (R196). -/
def State.voicesPark (s : State) : State :=
  { s with lanes := s.lanes.map fun e =>
      let b := e.1 / 32
      let l := e.1 % 32
      (e.1, { e.2 with plays := e.2.plays.map fun q =>
        (q.1, q.2.map fun p => p.finish q.1 (s.voiceDelay b l q.1) s.clk.time false false) }) }

/-- The tick by which every voice bound to converter output `i` has finished its granule. -/
def State.outEnds (s : State) (i : Nat) : Nat :=
  let b := outBench i
  (List.range 32).foldl (fun n l => (List.range 2).foldl (fun n v =>
    if (s.voiceUnit b l v).isSome && s.voiceOut b l v == i then max n (s.voiceEnds b l v) else n) n) s.clk.time

/-- An RF converter parks (R194, R196): code 0 for 64 ticks after its voices' granules, then no output current; a change
of range that is pending is made at once; injections into it are suppressed (R184). -/
def State.convPark (s : State) (b c : Nat) : State :=
  let e := s.outEnds (convOut b c)
  ((s.muted b c).onConv b c fun x => { x with changeEnd := none, offAt := some (e + 64) }).fsrTake b c

/-- Every RF converter parks. -/
def State.convParkAll (s : State) : State :=
  foldAll (fun s b => foldAll (fun s c => s.convPark b c) s (List.range 6)) s (List.range 8)

/-- SAFE_PARK is set (R196): every output parks; in RUN the shots in progress are poisoned. -/
def State.safePark (s : State) : State :=
  if s.out.parked then s
  else
    let s := s.convParkAll.voicesPark.fluxClearAll
    let s : State := { s with out := { s.out with parked := true } }
    if s.mode == .run then (s.breach Fd.TOP_BREACH_TIER4).poisonAll 10 0 else s

/-! ### SAFE_N -/

/-- SAFE_N is low from now on (R196, R404). -/
def State.safeFalls (s : State) : State :=
  foldAll State.biasSafe ((s.panelPut 16 false).safePark) (List.range 64)

/-- SAFE_N is high from now on (R196, R404): the outputs stay parked until the next entry to ARMED. -/
def State.safeRises (s : State) : State :=
  foldAll State.biasUnsafe (s.panelPut 16 true) (List.range 64)

/-- SAFE_N_LOW (R196, R404, R407): seen at an AON edge. -/
def safeNLow (s : State) : State := if s.clk.phAon = 0 && !s.safeLow then s.safeFalls else s

/-- SAFE_N_LOW (R196). -/
def execSafeNLow (s : State) : Host.Outcome State Fault Refusal := whenPowered s safeNLow

/-- SAFE_N_HIGH (R196, R404, R407): seen at an AON edge. -/
def safeNHigh (s : State) : State := if s.clk.phAon = 0 && s.safeLow then s.safeRises else s

/-- SAFE_N_HIGH (R404). -/
def execSafeNHigh (s : State) : Host.Outcome State Fault Refusal := whenPowered s safeNHigh

/-! ### The other panel inputs -/

/-- A falling edge of LOAD_N strobes the groups of BIAS.GRP_CFG (R398). -/
def State.loadPin (s : State) : State :=
  foldAll (fun s g => s.strobeGroup g false) (s.panelPut 17 false)
    (bitsSet 8 (s.fld R.BIAS_GRP_CFG Fd.BIAS_GRP_CFG_PIN))

/-- PANEL_LEVEL_CHANGE (R407): an input has been seen at a new level on 2 AON edges. -/
def panelLevelChange (i : Nat) (level : Bool) (s : State) : State :=
  if s.clk.phAon = 0 && bitAt s.slow.panel i != level then
    if i = 16 then (if level then s.safeRises else s.safeFalls)
    else if i = 17 && !level then s.loadPin
    else s.panelPut i level
  else s

/-- PANEL_LEVEL_CHANGE (R407). -/
def execPanelLevelChange (i : Fin 18) (level : Bool) (s : State) : Host.Outcome State Fault Refusal :=
  whenPowered s (panelLevelChange i level)

end Sys2Proof.Machine
end

