-- ==== Sys2Proof/Machine/Single.lean ====
section
/-!
DEFINITION. IEEE 754 single-precision arithmetic with rounding to nearest, ties to even (R412). A NaN is `none`, whatever
its pattern; every other value is its word.
-/
namespace Sys2Proof.Machine

/-- A single-precision value: a NaN, or the word of a number or an infinity. -/
abbrev Single := Option Word

/-- The exponent field of a word. -/
def sExp (w : Word) : Nat := bitsOf w.toNat 23 8

/-- The sign of a word. -/
def sNeg (w : Word) : Bool := bitAt w.toNat 31

/-- A word as a value. -/
def single (w : Word) : Single := if sExp w = 255 && bitsOf w.toNat 0 23 != 0 then none else some w

/-- The word stored for a value. -/
def Single.word (x : Single) : Word := x.getD Config.nanSingle

/-- The value is a finite number. -/
def Single.finite (x : Single) : Bool :=
  match x with
  | some w => sExp w != 255
  | none => false

/-- An infinite word. -/
def sInf (w : Word) : Bool := sExp w == 255

/-- A zero of either sign. -/
def sZero (w : Word) : Bool := w.toNat % 2 ^ 31 == 0

/-- The word with a sign and the magnitude of another. -/
def sSigned (neg : Bool) (m : Nat) : Word := BitVec.ofNat 32 (bit neg * 2 ^ 31 + m)

/-- Infinity with a sign. -/
def sInfinity (neg : Bool) : Word := sSigned neg 0x7F800000

/-- The magnitude of a finite word in units of 2^-149. -/
def sMag (w : Word) : Nat :=
  if sExp w = 0 then bitsOf w.toNat 0 23 else (2 ^ 23 + bitsOf w.toNat 0 23) * 2 ^ (sExp w - 1)

/-- A finite word in units of 2^-149. -/
def sUnits (w : Word) : Int := if sNeg w then -Int.ofNat (sMag w) else Int.ofNat (sMag w)

/-- The quotient of two whole numbers in units of 2^-149, rounded to a word's magnitude: to 24 significant bits, ties to
even, infinity beyond the largest number. -/
def sRoundMag (n d : Nat) : Nat :=
  let sh := Nat.log2 (n / d) - 23
  let q := (rndEven (Int.ofNat n) (d * 2 ^ sh)).toNat
  let (q, sh) := if q = 2 ^ 24 then (2 ^ 23, sh + 1) else (q, sh)
  if q < 2 ^ 23 then q
  else if 253 < sh then 0x7F800000
  else (sh + 1) * 2 ^ 23 + (q - 2 ^ 23)

/-- A signed quotient in units of 2^-149 as a word; an exact zero takes the sign given. -/
def sRound (n : Int) (d : Nat) (zneg : Bool) : Word :=
  if n = 0 then sSigned zneg 0 else sSigned (decide (n < 0)) (sRoundMag n.natAbs d)

/-- A word with its sign changed. -/
def sFlip (w : Word) : Word := w ^^^ 0x80000000#32

/-- The sum. -/
def Single.add (x y : Single) : Single :=
  match x, y with
  | some a, some b =>
    if sInf a then (if sInf b && sNeg a != sNeg b then none else some a)
    else if sInf b then some b
    else some (sRound (sUnits a + sUnits b) 1 (sNeg a && sNeg b))
  | _, _ => none

/-- The difference. -/
def Single.sub (x y : Single) : Single := x.add (y.map sFlip)

/-- The product. -/
def Single.mul (x y : Single) : Single :=
  match x, y with
  | some a, some b =>
    let neg := sNeg a != sNeg b
    if sInf a || sInf b then (if sZero a || sZero b then none else some (sInfinity neg))
    else some (sRound (sUnits a * sUnits b) (2 ^ 149) neg)
  | _, _ => none

/-- The quotient. -/
def Single.div (x y : Single) : Single :=
  match x, y with
  | some a, some b =>
    let neg := sNeg a != sNeg b
    if sInf a then (if sInf b then none else some (sInfinity neg))
    else if sInf b then some (sSigned neg 0)
    else if sZero b then (if sZero a then none else some (sInfinity neg))
    else if neg then some (sRound (-Int.ofNat (sMag a * 2 ^ 149)) (sMag b) true)
    else some (sRound (Int.ofNat (sMag a * 2 ^ 149)) (sMag b) false)
  | _, _ => none

/-- The mean, rounded once; of values that are not all finite it is their sum. -/
def meanOf (ws : List Word) : Single :=
  if ws.isEmpty then none
  else if ws.any fun w => sExp w == 255 then ws.foldl (fun x w => x.add (single w)) (some 0#32)
  else some (sRound (ws.foldl (fun n w => n + sUnits w) 0) ws.length false)

/-- A whole number of halves, as a word: exact for the ranges of R419. -/
def sHalves (i : Int) : Word := sRound (i * 2 ^ 148) 1 false

/-- Horner's scheme: the coefficients from the lowest power up. -/
def horner (x : Single) : List Word → Single
  | [] => some 0#32
  | [c] => single c
  | c :: cs => ((horner x cs).mul x).add (single c)

end Sys2Proof.Machine
end

