-- ==== Sys2Proof/Machine/Sense.lean ====
section
/-!
DEFINITION. Cryostat sensing and the loop outputs (R408 to R417): the scan list, readings and their checks,
linearisation, excitation switches and the two current loops.
-/
namespace Sys2Proof.Machine

/-! ### Scan entries (R409) -/

/-- Ticks of 3 GHz in a second. -/
def second : Nat := 3000000000

/-- The conversion rate of an entry per second. -/
def scanRate (cfg : Nat) : Nat :=
  match bitsOf cfg 24 2 with
  | 0 => 10
  | 1 => 50
  | 2 => 250
  | _ => 1000

/-- The excitation frequency of an entry in Hz. -/
def scanFreq (a : Nat) : Nat := max 3 (min 97 (bitsOf a 12 7))

/-- FORM of an entry. -/
def scanForm (a : Nat) : Nat := bitsOf a 10 2

/-- The entry is connected with 3 wires. -/
def scanThree (a : Nat) : Bool := bitsOf a 4 2 == 1

/-- The filter fill F of an entry in ticks, rounded up. -/
def scanFill (a cfg : Nat) : Nat :=
  match scanForm a with
  | 0 => 4 * second / scanRate cfg
  | 1 => 0
  | _ => (4 * second + scanFreq a - 1) / scanFreq a

/-- The time Tr of a reading in ticks, rounded up: doubled in 3-wire connection. -/
def scanReading (a cfg : Nat) : Nat :=
  let r := match scanForm a with
    | 0 => second / scanRate cfg
    | 1 => 10 * second / scanRate cfg
    | _ => (second + scanFreq a - 1) / scanFreq a
  if scanThree a then 2 * r else r

/-- The settle time of an entry in ticks. -/
def scanSettle (cfg : Nat) : Nat := 300000 * max 1 (bitsOf cfg 0 16)

/-- The number of readings of an entry. -/
def scanAvg (cfg : Nat) : Nat := bitsOf cfg 16 8 + 1

/-- SCANe_A of the entry in progress. -/
def State.scanA (s : State) : Nat := (s.reg (R.SENSE_SCAN_A s.slow.scan.entry)).toNat

/-- The channel of the entry in progress. -/
def State.scanCh (s : State) : Nat := bitsOf s.scanA 0 4

/-- The scan runs. -/
def State.scanning (s : State) : Bool := s.flag R.SENSE_CTL Fd.SENSE_CTL_RUN

/-- Entry `e` begins: the settle timer and the filter fill start with its excitation. -/
def State.scanBegin (s : State) (e : Nat) : State :=
  let a := (s.reg (R.SENSE_SCAN_A e)).toNat
  let cfg := (s.reg (R.SENSE_SCAN_B e)).toNat
  { s with slow := { s.slow with scan :=
      { entry := e, cfg := cfg, settle := s.clk.now + scanSettle cfg + scanFill a cfg, excited := true } } }

/-- The next entry of the list begins. -/
def State.scanNext (s : State) : State :=
  let e := s.slow.scan.entry
  s.scanBegin (if s.fld R.SENSE_CTL Fd.SENSE_CTL_LAST ≤ e then 0 else e + 1)

/-- SCAN_RUN (R409): the list runs from entry 0. -/
def scanRun (s : State) : State :=
  if s.scanning then s
  else
    let s := foldAll (fun s k => s.onLoop k fun x => { x with undriven := false }) s [0, 1]
    (s.raise R.SENSE_CTL Fd.SENSE_CTL_RUN).scanBegin 0

/-- SCAN_RUN (R409, R470). -/
def execScanRun (s : State) : Host.Outcome State Fault Refusal := whenPowered s scanRun

/-- The channel's results are stale. -/
def State.staleCh (s : State) (c : Nat) : State := s.raise (R.SENSE_CH_FLAGS c) Fd.SENSE_CH_FLAGS_STALE

/-- The scan stops (R414, R415): the entry in progress is abandoned and the excitation turns off. -/
def State.scanHalt (s : State) : State :=
  if s.scanning then
    let s := (s.staleCh s.scanCh).clear R.SENSE_CTL Fd.SENSE_CTL_RUN
    { s with slow := { s.slow with scan := {} } }
  else s

/-- SCAN_STOP (R414). -/
def scanStop (s : State) : State := s.scanHalt

/-- SCAN_STOP (R414). -/
def execScanStop (s : State) : Host.Outcome State Fault Refusal := whenPowered s scanStop

/-! ### Loop outputs (R416) -/

/-- One of the flags by which a loop takes its fault level is set. -/
def State.chFaulty (s : State) (c : Nat) : Bool :=
  s.flag (R.SENSE_CH_FLAGS c) Fd.SENSE_CH_FLAGS_OPEN || s.flag (R.SENSE_CH_FLAGS c) Fd.SENSE_CH_FLAGS_SHORT ||
    s.flag (R.SENSE_CH_FLAGS c) Fd.SENSE_CH_FLAGS_OVERRANGE || s.flag (R.SENSE_CH_FLAGS c) Fd.SENSE_CH_FLAGS_SETTLE_FAULT

/-- The loop is in force: enabled, and configured by a load since the last device-level reset (R417). -/
def State.loopOn (s : State) (k : Nat) : Bool :=
  s.flag (R.SENSE_LOOP_CFG k) Fd.SENSE_LOOP_CFG_EN && (s.loop k).configured

/-- The loop follows a channel. -/
def State.loopFollows (s : State) (k c : Nat) : Bool :=
  s.loopOn k && s.fld (R.SENSE_LOOP_CFG k) Fd.SENSE_LOOP_CFG_CH == c

/-- The loop takes its fault level. -/
def State.loopFault (s : State) (k : Nat) : State :=
  if s.flag (R.SENSE_LOOP_CFG k) Fd.SENSE_LOOP_CFG_FAULT_EN then
    let lvl := if s.flag (R.SENSE_LOOP_CFG k) Fd.SENSE_LOOP_CFG_FAULT_HI then 21000 else 3600
    s.onLoop k fun x => { x with cmd := lvl, atFault := true }
  else s

/-- The commanded current in µA for the channel's present result (R416), clamped. Where the formula has no finite value
(LO equal to HI, or an operand that is not a number) the specification states none and it is free. -/
def State.loopCmd (s : State) (k : Nat) : Nat × State :=
  let c := s.fld (R.SENSE_LOOP_CFG k) Fd.SENSE_LOOP_CFG_CH
  let v := if s.flag (R.SENSE_LOOP_CFG k) Fd.SENSE_LOOP_CFG_SRC then s.reg (R.SENSE_CH_RES c)
    else s.reg (R.SENSE_CH_TEMP c)
  let lo := s.reg (R.SENSE_LOOP_LO k)
  let hi := s.reg (R.SENSE_LOOP_HI k)
  let clamp := fun (i : Int) => (max 3800 (min 20500 i)).toNat
  if sInf v || sInf lo || sInf hi || sUnits hi == sUnits lo then
    let (w, s) := s.free
    (clamp (Int.ofNat w.toNat), s)
  else
    let d := sUnits hi - sUnits lo
    let n := 16000 * (sUnits v - sUnits lo) * (if d < 0 then -1 else 1)
    let (q, s) := s.quotFree n d.natAbs
    (clamp (4000 + q), s)

/-- The loop follows a result of its channel. -/
def State.loopResult (s : State) (k : Nat) : State :=
  let (i, s) := s.loopCmd k
  s.onLoop k fun x => { x with cmd := i, atFault := false }

/-- A write of LOOPk_CFG, or its configuration by a load (R416, R417): disabled, the loop drives 3.6 mA; enabled, it
takes the fault level, follows the present result, or holds while the channel is stale. -/
def State.loopConfig (s : State) (k : Nat) : State :=
  let c := s.fld (R.SENSE_LOOP_CFG k) Fd.SENSE_LOOP_CFG_CH
  if !s.loopOn k then s.onLoop k fun x => { x with cmd := 3600, atFault := false }
  else if s.flag (R.SENSE_CH_FLAGS c) Fd.SENSE_CH_FLAGS_STALE then (if s.chFaulty c then s.loopFault k else s)
  else s.loopResult k

/-! ### Readings -/

/-- Set a fault flag of a channel: EV_SENSE_FAULT is pulsed and source 6 raises when it is newly set (R413, R448); the
loops that follow the channel take their fault level (R416). -/
def State.senseFault (s : State) (c : Nat) (f : Bits) : State :=
  let s := if s.flag (R.SENSE_CH_FLAGS c) f then s else ((s.raise (R.SENSE_CH_FLAGS c) f).pulse 350).irq 6
  foldAll (fun s k => if s.loopFollows k c then s.loopFault k else s) s [0, 1]

/-- The entry ends without a result (R410, R411). -/
def State.scanFail (s : State) : State :=
  { s with slow := { s.slow with scan := { s.slow.scan with failed := true, excited := false } } }

/-- A reading is due: the scan runs, the entry still takes readings, and their time has passed. -/
def State.readingDue (s : State) : Bool :=
  let x := s.slow.scan
  s.scanning && !x.failed && decide (x.readings.length < scanAvg x.cfg) &&
    decide (x.settle + (x.readings.length + 1) * scanReading s.scanA x.cfg ≤ s.clk.now)

/-- Resistance and lead resistance of a reading (R410), in single precision. -/
def sensedOhms (r : Reading) (three : Bool) : Word × Word :=
  if three then
    ((((single r.volts).sub (single r.lead)).div (single r.amps)).word, ((single r.lead).div (single r.amps)).word)
  else (((single r.volts).div (single r.amps)).word, 0#32)

/-- Above or below the common-mode window in mV (R411): the flag to set. -/
def State.commonMode (s : State) (c : Nat) (r : Reading) : Option Bits :=
  let m := r.vp + r.vn
  if 2 * sext 16 (s.fld (R.SENSE_CH_CM c) Fd.SENSE_CH_CM_CM_HI) < m then some Fd.SENSE_CH_FLAGS_OPEN
  else if m < 2 * sext 16 (s.fld (R.SENSE_CH_CM c) Fd.SENSE_CH_CM_CM_LO) then some Fd.SENSE_CH_FLAGS_SHORT
  else none

/-- SENSOR_READING (R410, R411): the common mode and the full scale are checked; a good reading is kept. -/
def sensorReading (r : Reading) (s : State) : State :=
  if !s.readingDue then s
  else
    let c := s.scanCh
    let cm := s.commonMode c r
    let s := match cm with
      | some f => s.senseFault c f
      | none => s
    let s := if r.fullScale then s.senseFault c Fd.SENSE_CH_FLAGS_OVERRANGE else s
    if cm.isSome || r.fullScale then s.scanFail
    else
      let (v, l) := sensedOhms r (scanThree s.scanA)
      { s with slow := { s.slow with scan :=
          { s.slow.scan with readings := s.slow.scan.readings ++ [(v.toNat, l.toNat)] } } }

/-- SENSOR_READING (R411). -/
def execSensorReading (r : Reading) (s : State) : Host.Outcome State Fault Refusal := whenPowered s (sensorReading r)

/-! ### Linearisation (R412) -/

/-- The ten coefficients of power `j` of u in linearisation set `k`. -/
def State.coefs (s : State) (k j : Nat) : List Word := (List.range 10).map fun i => s.reg (R.SENSE_LSET_C k (i + 10 * j))

/-- The natural logarithm of a value (R412). -/
def Single.ln (x : Single) : Single :=
  match x with
  | none => none
  | some w =>
    if sZero w then some (sInfinity true)
    else if sNeg w then none
    else if sInf w then some w
    else single (Config.lnSingle w)

/-- The board temperature in °C: remote diode 0 (R412, R420). -/
def State.board (s : State) : Single := some (sHalves (NMap.get (fun _ => 0) s.therm.diodes 0))

/-- The temperature of a resistance under a linearisation set (R412). -/
def State.linearise (s : State) (k : Nat) (xlog : Bool) (res : Single) : Single :=
  let ratio := res.div (single (s.reg (R.SENSE_LSET_C k 30)))
  let x := if xlog then ratio.ln else ratio
  let u := s.board.sub (single (s.reg (R.SENSE_LSET_C k 31)))
  let p := fun j => horner x (s.coefs k j)
  ((((p 2).mul u).add (p 1)).mul u).add (p 0)

/-- The results of a completed entry (R410, R413): the mean of its readings, its temperature, NEW, and the loops. Outside
3-wire connection no lead resistance is measured, and LEAD takes a free value. -/
def State.scanResult (s : State) : State :=
  let a := s.scanA
  let c := s.scanCh
  let rs := s.slow.scan.readings
  let res := meanOf (rs.map fun r => BitVec.ofNat 32 r.1)
  let lead3 := meanOf (rs.map fun r => BitVec.ofNat 32 r.2)
  let (fl, s) := s.free
  let t := s.linearise (bitsOf a 19 3) (bitAt a 22) res
  let s := (s.setReg (R.SENSE_CH_RES c) res.word).setReg (R.SENSE_CH_LEAD c) (if scanThree a then lead3.word else fl)
  let s := if t.finite then s.setReg (R.SENSE_CH_TEMP c) t.word
    else s.raise (R.SENSE_CH_FLAGS c) Fd.SENSE_CH_FLAGS_LIN_ERR
  let s := ((s.raise (R.SENSE_CH_FLAGS c) Fd.SENSE_CH_FLAGS_NEW).clear (R.SENSE_CH_FLAGS c)
    Fd.SENSE_CH_FLAGS_STALE).clear (R.SENSE_CH_FLAGS c) Fd.SENSE_CH_FLAGS_RESTARTS
  foldAll (fun s k => if s.loopFollows k c then s.loopResult k else s) s [0, 1]

/-- SCAN_ENTRY_END (R413): the entry ends with a result, or without one and its channel becomes stale; the next entry
begins. -/
def scanEntryEnd (s : State) : State :=
  let x := s.slow.scan
  if !s.scanning then s
  else if x.failed then (s.staleCh s.scanCh).scanNext
  else if scanAvg x.cfg ≤ x.readings.length then s.scanResult.scanNext
  else s

/-- SCAN_ENTRY_END (R413). -/
def execScanEntryEnd (s : State) : Host.Outcome State Fault Refusal := whenPowered s scanEntryEnd

/-! ### Excitation switches (R414) -/

/-- A write changes CH, WIRE, EXC, FORM or FREQ. -/
def switches (old v : Nat) : Bool := bitsOf old 0 19 != bitsOf v 0 19

/-- The restart of an entry: readings are discarded, the settle timer starts again, STALE and RESTARTS follow; the 16th
consecutive restart sets SETTLE_FAULT and abandons the entry. -/
def State.scanRestart (s : State) (c0 : Nat) : State :=
  let c := s.scanCh
  let a := s.scanA
  let s : State := { s with slow := { s.slow with scan := { s.slow.scan with
    readings := [], settle := s.clk.now + scanSettle s.slow.scan.cfg + scanFill a s.slow.scan.cfg } } }
  let s := ((s.staleCh c0).staleCh c).satAdd (R.SENSE_CH_FLAGS c) Fd.SENSE_CH_FLAGS_RESTARTS 1
  if 16 ≤ s.fld (R.SENSE_CH_FLAGS c) Fd.SENSE_CH_FLAGS_RESTARTS then
    (s.senseFault c Fd.SENSE_CH_FLAGS_SETTLE_FAULT).scanNext
  else s

/-- EXCITATION_SWITCH (R414): a write of SCANi_A. -/
def excitationSwitch (i : Nat) (v : Word) (s : State) : State :=
  let old := (s.reg (R.SENSE_SCAN_A i)).toNat
  let live := s.scanning && s.slow.scan.entry == i && !s.slow.scan.failed
  let s := s.setReg (R.SENSE_SCAN_A i) (v &&& 0x7FFFFF#32)
  if live && switches old v.toNat then s.scanRestart (bitsOf old 0 4) else s

/-- EXCITATION_SWITCH (R414). -/
def execExcitationSwitch (i : Fin 32) (v : Word) (s : State) : Host.Outcome State Fault Refusal :=
  whenPowered s (excitationSwitch i v)

/-! ### Loop read-back (R417) -/

/-- LOOP_READBACK (R417): IOUT takes the sensed current; three consecutive readings more than 0.2 mA off set
LOOP_FAULT. -/
def loopReadback (k microamps : Nat) (s : State) : State :=
  let x := s.loop k
  let off := decide (x.cmd + 200 < microamps) || decide (microamps + 200 < x.cmd)
  let bad := if off then min 3 (x.bad + 1) else 0
  let s := (s.setFld (R.SENSE_LOOP_STAT k) Fd.SENSE_LOOP_STAT_IOUT microamps).onLoop k fun x =>
    { x with sensed := microamps, bad := bad }
  if bad = 3 && !s.flag (R.SENSE_LOOP_STAT k) Fd.SENSE_LOOP_STAT_LOOP_FAULT then
    ((s.raise (R.SENSE_LOOP_STAT k) Fd.SENSE_LOOP_STAT_LOOP_FAULT).pulse 350).irq 6
  else s

/-- LOOP_READBACK (R417). -/
def execLoopReadback (k : Fin 2) (microamps : BitVec 16) (s : State) : Host.Outcome State Fault Refusal :=
  whenPowered s (loopReadback k microamps.toNat)

end Sys2Proof.Machine
end

