-- ==== Sys2Proof/Machine/PowerOps.lean ====
section
/-!
DEFINITION. What the device loses with its core domain: the stores, the Pattern and the registers outside the AON domain
(R41, R56), and the shared actions of resets and of the modes DORMANT and LATCHED (R44, R57, R415, R417).
-/
namespace Sys2Proof.Machine

/-- The register is held in the AON domain and keeps its value when the core domain is lost: boot selection, wake time,
PMBus configuration, reset causes, supply monitors, TIME, BIAS, SENSE and THERM. -/
def aonReg (off : Nat) : Bool :=
  (decide (0x400010000 ≤ off) && decide (off < 0x400020000)) ||
    (decide (0x400060000 ≤ off) && decide (off < 0x400090000)) ||
    [R.TOP_AON_CTL, R.TOP_WAKE_TIME_LO, R.TOP_WAKE_TIME_HI, R.TOP_PMB_CFG, R.TOP_RESET_CAUSE, R.TOP_SUPPLY].contains off

/-- The register belongs to the Epoch state that a cold reset keeps whole (R485), or records reset causes. -/
def coldReg (off : Nat) : Bool :=
  [R.TOP_RESET_CAUSE, R.TIME_EPOCH_PERIOD, R.TIME_EPOCH_LOAD_LO, R.TIME_EPOCH_LOAD_HI, R.TIME_EPOCH_LAST_LO,
    R.TIME_EPOCH_LAST_HI, R.TIME_EPOCH_TDC, R.TIME_EPOCH_SLIP_AMT, R.TIME_EPOCH_TRIM, R.TIME_EPOCH_CTL,
    R.TIME_STATUS].contains off ||
    (decide (R.TIME_FDLY 0 ≤ off) && decide (off ≤ R.TIME_FDLY 175))

/-- Registers that satisfy `keep` stay; the others return to their Reset column. In TOP.MODE the fields COHERENT and,
with `open_`, SANITISE_OPEN stay (R485, R58). -/
def State.regsLost (s : State) (keep : Nat → Bool) (open_ : Bool) : State :=
  let coh := s.fld R.TOP_MODE Fd.TOP_MODE_COHERENT
  let san := if open_ then s.fld R.TOP_MODE Fd.TOP_MODE_SANITISE_OPEN else 0
  let s : State := { s with ap := NMap.erase (fun off => !keep off) s.ap }
  (s.setFld R.TOP_MODE Fd.TOP_MODE_COHERENT coh).setFld R.TOP_MODE Fd.TOP_MODE_SANITISE_OPEN san

/-- What the Ledger says of the memory devices (R434): assignment and rate stay, all else of the controller is lost. -/
def MemSt.lost (m : MemSt) : MemSt :=
  let devs : NMap MemDev := m.devs.map fun e => (e.1, { st := e.2.st, slot := e.2.slot })
  { ({} : MemSt) with devs := devs.filter fun e => decide (e.2 ≠ memDev0 e.1), rate := m.rate }

/-- What Porter and the host side keep when the core domain is lost: identity, keys, flash and the Ledger. -/
def HostSt.lost (h : HostSt) : HostSt :=
  { ({} : HostSt) with
    devid := h.devid, straps := h.straps, otp := h.otp, patternKey := h.patternKey, fwA := h.fwA, fwB := h.fwB
    fwPrimaryB := h.fwPrimaryB, customFlash := h.customFlash, ledger := h.ledger, nextSeq := h.nextSeq
    powerOns := h.powerOns }

/-- A loop output without configuration drives 3.6 mA (R417). -/
def State.loopsOff (s : State) : State :=
  foldAll (fun s k => s.onLoop k fun x => { x with cmd := 3600, atFault := false, configured := false }) s [0, 1]

/-- The survey in progress is discarded (R430). -/
def State.surveyLost (s : State) : State :=
  if s.therm.surveying then
    ({ s with therm := { s.therm with surveying := false } } : State).flagIrq R.AGE_STATUS
      Fd.AGE_STATUS_SURVEY_INCOMPLETE 5
  else s

/-! ### The life-cycle in OTP (R462) -/

/-- The life-cycle state that OTP shows (R462). -/
def lifeCycle (o : Otp) : LifeCycle :=
  if !o.vendorSet then .blank
  else if o.scrap then .scrapped
  else if o.retCnt < o.ownCnt then .owned
  else if o.ownCnt = 0 then .vendor
  else .returned

/-- The life-cycle state of a PORTER.LC.STATE code. -/
def lifeOf (n : Nat) : LifeCycle :=
  match n with
  | 0 => .blank
  | 1 => .vendor
  | 2 => .owned
  | 3 => .returned
  | _ => .scrapped

/-- The OTP bits that a transition burns (R462). -/
def Otp.burn (o : Otp) (target : LifeCycle) (hash : Nat) : Otp :=
  match target with
  | .owned => { o with ownCnt := o.ownCnt + 1, ownerHash := hash :: o.ownerHash }
  | .returned => { o with retCnt := o.retCnt + 1 }
  | .scrapped => { o with scrap := true }
  | _ => o

/-- A life-cycle transition is cut short by the loss of Porter's state (R463): whether its OTP bits were burnt by then is
not stated, and is free. -/
def State.tokenCut (s : State) : State :=
  match s.host.job with
  | some (.lcToken 0 target hash _) =>
    let (w, s) := s.free
    if w.toNat % 2 = 1 then { s with host := { s.host with otp := s.host.otp.burn target hash } } else s
  | _ => s

/-- The core, SRAM and memory domains lose everything (R41): stores, Pattern, waveform memory, sequencers, queues, staging
and ring. What the AON domain, OTP, flash and the Ledger hold stays. -/
def State.coreLost (s : State) (keep : Nat → Bool) (open_ : Bool) : State :=
  let inc := s.therm.surveying
  let s := s.tokenCut.regsLost keep open_
  let s : State := { s with
    transit := none, hold := none, trim := {}, load := none, pat := {}, mem := [], bench := []
    segs := {}, looms := [], lanes := [], out := { parked := s.out.parked }, chans := [], adcs := [], engines := []
    xyStages := [], dec := {}, fms := [], tally := {}, fabric := {}, captures := [], recent := [], setvAt := []
    memc := s.memc.lost, host := s.host.lost
    time := { s.time with echo := none, trigLevel := 0, trigQ := [] }
    therm := { s.therm with surveying := false, convOff := false }
    pins := { s.pins with alertHeld := none } }
  if inc then s.raise R.AGE_STATUS Fd.AGE_STATUS_SURVEY_INCOMPLETE else s

/-- A retirement that a reset finds in migration stands in the Ledger: the spare takes the slot (R61). -/
def State.migrationStands (s : State) : State :=
  match s.memc.maint with
  | some (.migrate d sp _) =>
    let slot := (s.dev d).slot
    ((s.onDev d fun x => { x with st := .retired }).onDev sp fun x => { x with st := .active, slot := slot }).raise
      R.TOP_RESET_CAUSE Fd.TOP_RESET_CAUSE_MIGRATION
  | _ => s

/-- Every bias output glides to 0 V at its safe rate and parks (R44). -/
def State.biasAllDown (s : State) : State := foldAll State.biasDown s (List.range 64)

/-- Every bias output parks (R44). -/
def State.biasAllPark (s : State) : State := foldAll State.biasPark s (List.range 64)

end Sys2Proof.Machine
end

