-- ==== Sys2Proof/Machine/Loss.lean ====
section
/-!
DEFINITION. The Ledger (17), and what the loss of stored units does to segments, descriptors, Tally and the
application-core region (R360, R363).
-/
namespace Sys2Proof.Machine

/-! ### The Ledger (R433) -/

/-- Porter commits a record: SEQ is one higher than the previous record's (R433). -/
def State.commit (s : State) (k : LedgerKind) (data : List Nat) : State :=
  let r : LedgerRec := { seq := s.host.nextSeq, kind := k, data := data, powerOn := s.host.powerOns, made := s.clk.now
                         written := s.clk.now }
  { s with host := { s.host with ledger := s.host.ledger ++ [r], nextSeq := s.host.nextSeq + 1 } }

/-- The record is one of the life-cycle (R463). -/
def LedgerRec.isLife (r : LedgerRec) : Bool :=
  match r.kind with
  | .lifecycle _ _ => true
  | _ => false

/-- The target of the latest life-cycle record where that is an INTENT without a DONE (R463). -/
def openIntent (l : List LedgerRec) : Option Nat :=
  match (l.filter (·.isLife)).getLast? with
  | some r => (match r.kind with
    | .lifecycle true t => some t
    | _ => none)
  | none => none

/-! ### Lost units -/

/-- Some unit of a byte range satisfies `lost`. -/
def anyUnit (lost : Nat → Bool) (a n : Nat) : Bool :=
  n != 0 && ((List.range ((a + n + 63) / 64 - a / 64)).any fun i => lost (a / 64 + i))

/-- The descriptor itself is held in a lost unit. -/
def State.descHeldIn (s : State) (lost : Nat → Bool) (id : Nat) : Bool := lost (s.descUnit id)

/-- A VALID descriptor whose stored samples have a lost unit. -/
def State.samplesIn (s : State) (lost : Nat → Bool) (id : Nat) : Bool :=
  let ws := s.segWords id
  dValid ws && anyUnit lost (dAddr ws) (dBytes ws)

/-- Every descriptor affected by the loss of units is marked (R360, R363): LOST, and VALID = 0 where the descriptor
itself was in a lost unit. The IDs affected are counted in MEM.LOST. -/
def State.markLost (s : State) (lost : Nat → Bool) : State :=
  let held := (List.range 0x100000).filter (s.descHeldIn lost)
  let hit := (List.range 0x100000).filter fun id => !s.descHeldIn lost id && s.samplesIn lost id
  let s := foldAll (fun s id => (s.segLost id).dirPurge id) s hit
  let s := foldAll (fun s id => (s.setSeg id [0, 0, 0, 0x40000000]).dirPurge id) s held
  let s := if held.isEmpty then s else s.breach Fd.TOP_BREACH_TIER2
  s.satAdd R.MEM_LOST Fd.MEM_LOST_COUNT (held.length + hit.length)

/-- The MEMORY mark (R369): event, memory device, and the count of MEM.LOST. -/
def State.memMark (s : State) (event dev : Nat) : State :=
  s.offer 24 srcDev 0x29 1 s.clk.time
    [(0, 1, event), (1, 1, dev), (4, 4, s.fld R.MEM_LOST Fd.MEM_LOST_COUNT)]

/-- The stored bytes of lost units are gone; the poison of R342 with them. -/
def State.bytesLost (s : State) (lost : Nat → Bool) : State :=
  { s with
    mem := NMap.erase (fun a => lost (a / 64)) s.mem
    memc := { s.memc with ue := NMap.erase lost s.memc.ue } }

/-- Records between RP and WP are dropped, each counting in the next GAP of its stream (R360). -/
def State.ringDrop : Nat → State → State
  | 0, s => s
  | n + 1, s =>
    if s.rp == s.tally.wp then s
    else
      let a := s.ringBase + s.rp
      let len := 32 * max 1 (s.byteAt (a + 1)).toNat
      let s := if s.byteAt a = 0 then s else s.lostRec (srcStream (s.readLE (a + 2) 2)) (s.readLE (a + 4) 4)
      (s.setReg R.TALLY_RP (BitVec.ofNat 32 ((s.rp + len) % s.ringSize))).ringDrop n

/-! ### KEEP (R363) -/

/-- A unit is retained through KEEP (R363): its bank is listed on both channels of its slot's device. -/
def State.retained (s : State) (u : Nat) : Bool :=
  match s.unitDev u with
  | none => false
  | some d =>
    let keeps := fun c => bitAt (NMap.get (fun _ => 0xFFFF) s.memc.keep c) (unitBank u)
    keeps (2 * d) && keeps (2 * d + 1)

/-- On leaving KEEP, what was not retained is lost (R363). -/
def State.keepLoss (s : State) : State :=
  let all := (List.range 18).all fun c => NMap.get (fun _ => 0xFFFF) s.memc.keep c == 0xFFFF
  if all then s
  else
    let lost := fun u => !s.retained u
    ((s.markLost lost).bytesLost lost).memMark 1 0

end Sys2Proof.Machine
end

