-- ==== Sys2Proof/Machine/Modes.lean ====
section
/-!
DEFINITION. Operating modes (02): what each change of mode does (R41, R45, R48, R52, R487, R492), the margin plan at an
entry to ARMED (R432, R471), the requests of software (R46, R47, R49), and REF_LOSS (R107 to R109, R486).
-/
namespace Sys2Proof.Machine

/-! ### Shared actions -/

/-- The modes whose time counts towards periodic retraining (R355). -/
def Mode.rests : Mode → Bool
  | .hold | .idle => true
  | _ => false

/-- TOP.MODE.MODE changes (R45); the time in HOLD and IDLE is accumulated (R355), and an entry to TRIM, ARMED or SERVICE
clears EPOCH_CTL.ARM (R91). -/
def State.become (s : State) (m : Mode) (cause : Nat) : State :=
  let x := s.memc
  let rest := if s.mode.rests then x.restTime + (s.clk.now - x.restSince) else x.restTime
  let s := if m == .trim || m == .armed || m == .service then s.clear R.TIME_EPOCH_CTL Fd.TIME_EPOCH_CTL_ARM else s
  ({ s with memc := { x with restTime := rest, restSince := s.clk.now } } : State).enter m cause

/-- The waveform memory leaves self-refresh (R42, R350); a written REF_CFG takes effect. -/
def State.memWake (s : State) : State :=
  if s.memc.selfRef then
    let x := s.memc
    { s with memc :=
      { x with selfRef := false, refCfg := (s.reg R.MEM_REF_CFG).toNat, chans := debtsPaid x.chans } }
  else s

/-- The waveform memory enters self-refresh (R42, R350): the whole debt is issued first. -/
def State.memSleep (s : State) : State :=
  { s with memc := { s.memc with selfRef := true, chans := debtsPaid s.memc.chans, rows := [] } }

/-- Every RF converter is without output current (R195); every change under way is over. -/
def State.convsOff (s : State) : State := { s with out := { s.out with convs := [] } }

/-- Every RF converter converts (R41); one that does already goes on as it was. -/
def State.convsOn (s : State) : State :=
  foldAll (fun s b => foldAll (fun s c => s.onConv b c fun x => if x.on && x.offAt.isNone then x else { on := true }) s
    (List.range 6)) s (List.range 8)

/-- ISINC of every converter comes into force (R185). -/
def State.isincTake (s : State) : State :=
  foldAll (fun s b => foldAll (fun s c =>
    s.onConv b c fun x => { x with isinc := s.flag (R.OUT_CONV_CFG b c) Fd.OUT_CONV_CFG_ISINC }) s (List.range 6)) s
    (List.range 8)

/-- Pending range changes are made (R194). -/
def State.fsrTakeAll (s : State) : State :=
  foldAll (fun s b => foldAll (fun s c => s.fsrTake b c) s (List.range 6)) s (List.range 8)

/-- The Foremen stop at the entry to IDLE (R307). -/
def State.fmsOff (s : State) : State :=
  let armed := s.mode == .armed
  foldAll (fun s b =>
    let s := if armed then s.fmHalt b .off false else s
    if (s.fm b).st == .held then s.onFm b fun f => { f with st := .off } else s) s (List.range 8)

/-- The engines stop as the device leaves the modes of R243. -/
def State.engsStop (s : State) : State :=
  foldAll (fun s b => foldAll (fun s e => if (s.eng b e).runs then s.engStop b e .off else s) s (List.range 4)) s
    (List.range 8)

/-- The application cores stop and lose their state (R451). -/
def State.coresStop (s : State) : State :=
  { s with host := { s.host with coresRun := 0, coreImage := false, wdogDue := 0 } }

/-- The segment and directory caches of every Bench are lost (R41). -/
def State.allCachesLost (s : State) : State := foldAll State.cachesLost s (List.range 8)

/-! ### Arrivals -/

/-- The entry to IDLE (R45, R378, R492, R277): lanes are aborted, engines and Foremen stop, staging is emptied, the Crier
ports and the fast clocks stop, the memory enters self-refresh. -/
def State.toIdle (s : State) (cause : Nat) : State :=
  let s := if s.mode == .armed || s.mode == .hold then s.abortAll false else s
  let s := if s.mode == .armed then s.endWindows else s
  let s := s.fmsOff.engsStop
  let s := if s.clk.core then s.tallyStop else s
  let s := s.criersStop.convsOff.stopClocks.memSleep
  ({ s with transit := none, hold := none, trim := {} } : State).become .idle cause

/-- The entry to KEEP (R41, R362, R451): caches are discarded, the cores stop, KEEPc takes effect. -/
def State.toKeep (s : State) : State :=
  let s := s.allCachesLost.coresStop
  let keep := foldAll (fun m c => NMap.set (fun _ => 0xFFFF) m c (s.fld (R.MEM_KEEP c) Fd.MEM_KEEP_BANKS)) []
    (List.range 18)
  ({ s with transit := none, memc := { s.memc with keep := keep } } : State).become .keep 0

/-- A PMBus OPERATION command for the memory-device rail (R472). -/
def State.memRail (s : State) (on : Bool) : State :=
  let a := s.fld R.TOP_PMB_CFG Fd.TOP_PMB_CFG_MEMADDR
  let s : State := { s with pins := { s.pins with memRail := on } }
  if a = 0 then s else s.emit (.pmbus a 1 (if on then 0x80 else 0))

/-- The entry to DORMANT by request (R41, R44, R415, R417, R472): only the AON domain stays. -/
def State.toDormant (s : State) : State :=
  let s := ((s.memRail false).scanHalt.loopsOff).stopClocks
  let s := s.become .dormant 0
  { s.coreLost aonReg true with pins := { s.pins with memRail := false, bootDue := none } }

/-- TRIM ends before its steps are done (R425, R430): the survey is discarded. -/
def State.trimAbort (s : State) (code : Nat) : State := s.surveyLost.toIdle code

/-- The entry to TRIM (R45, R194, R277, R99, R429): the survey and the echo measurements begin. A REF_LOSS that came on
the way and lasts is carried out now (R48). -/
def State.toTrim (s : State) : State :=
  let s := (({ s with transit := none } : State).fsrTakeAll.criersEntered).become .trim 0
  let s : State := { s with therm := { s.therm with surveying := s.trim.survey } }
  if !s.clk.refclk then s.trimAbort 7
  else if s.trim.skew then
    let up := (pick 14 fun p => s.portUsed p && (s.port p).up).foldl setBit 0
    ({ s with trim := { s.trim with ports := up } } : State).echoNext
  else s

/-- The entry to SERVICE (R45, R194, R243, R245, R277, R492). -/
def State.toService (s : State) : State :=
  let s : State := { s with transit := none }
  let s := ((s.abortAll false).fsrTakeAll.criersEntered.convsOff).become .service 0
  foldAll (fun s b => foldAll (fun s e => s.engStart b e true) s (List.range 4)) s (List.range 8)

/-- A timed transition begins (R45, R47). -/
def State.beginTo (s : State) (dst : Mode) (kind : TransKind) (ticks : Nat) : State :=
  { s with transit := some { src := s.mode, dst := dst, kind := kind, due := s.clk.now + ticks } }

/-- The fast clocks start for a mode that uses them; the Crier ports train (R22, R277). -/
def State.fastStart (s : State) : State := (s.startClocks true).memWake.criersTrain

/-- The way to SERVICE begins (R45): it ends when the dividers of the fast clocks are aligned (R22). R45 gives it no time:
DESIGN CHOICE, log entry 10. -/
def State.beginService (s : State) : State := s.fastStart.beginTo .service .timed 0

/-- The way to IDLE begins: 50 µs (R45). -/
def State.beginIdle (s : State) : State := s.beginTo .idle .timed 150000

/-- The mode that a request in RUN asked for follows once HOLD is reached (R46). -/
def State.followUp (s : State) (f : Option Mode) : State :=
  match f with
  | some .idle => s.beginIdle
  | some .service => s.beginService
  | _ => s

/-- HOLD at once, from RUN or ARMED (R45, R307, R492): a shot in progress is poisoned with the cause given. -/
def State.holdNow (s : State) (code : Nat) (poison : Option (Nat × Nat)) : State :=
  let s := match poison with
    | some (c, d) => if s.mode == Mode.run then s.poisonAll c d else s
    | none => s
  let s := (s.abortAll true).endWindows
  let s := foldAll (fun s b => s.fmHalt b .held true) s (List.range 8)
  let f := s.hold.bind (·.follow)
  (({ s with hold := none, transit := none } : State).become .hold code).followUp f

/-- Every enabled Bench has reached its boundary (R52, R308). -/
def State.allReached (s : State) (h : HoldReq) : Bool :=
  (List.range 8).all fun b =>
    !s.benchOn b || bitAt h.reached b || (s.fm b).st == .done || (s.fm b).st == .fault

/-- SHOT_BOUNDARY (R52): HOLD is reached. -/
def shotBoundary (s : State) : State :=
  match s.hold with
  | some h =>
    if s.mode == Mode.run && s.allReached h then
      let code := if h.budget then 5 else if h.shed then 6 else 0
      (({ s with hold := none } : State).become .hold code).followUp h.follow
    else s
  | none => s

/-- SHOT_BOUNDARY (R52). -/
def execShotBoundary (s : State) : Host.Outcome State Fault Refusal := whenPowered s shotBoundary

/-- START_CONDITION_MET (R45): every enabled Bench has issued its first strobe. -/
def startConditionMet (s : State) : State :=
  if s.mode == .armed && !s.inTransit && (List.range 8).any s.benchOn &&
      (List.range 8).all fun b => !s.benchOn b || (s.benchSt b).firstStrobe then
    let s := s.become .run 0
    foldAll (fun s b => if s.benchOn b then s.onBench b fun x => { x with fresh := true } else s) s (List.range 8)
  else s

/-- START_CONDITION_MET (R45). -/
def execStartConditionMet (s : State) : Host.Outcome State Fault Refusal := whenPowered s startConditionMet

/-! ### Entering ARMED (R50, R432, R471) -/

/-- The nominal voltage of a margin-planned domain in 0.1 mV (R467): core, SRAM, converters, SerDes. -/
def nominal (d : Nat) : Nat :=
  match d with
  | 0 => 7500
  | 1 => 8500
  | 2 => 10000
  | _ => 9000

/-- The offset of domain `d` in a plan, in 2.5 mV. -/
def Plan.offset (p : Plan) (d : Nat) : Int := p.offsets.getD d 0

/-- The PMBus commands that set a domain (R471): the voltage is carried in 0.1 mV. -/
def State.sendOffset (s : State) (d : Nat) (ofs : Int) : State :=
  let a := s.fld (R.AGE_DOM d) Fd.AGE_DOM_PMB
  let v := (Int.ofNat (nominal d) + 25 * ofs).toNat
  (((((s.emit (.pmbus a 0 0)).emit (.pmbus a 0x20 0)).emit (.pmbus a 0 0)).emit (.pmbus a 0x21 v)).emit
    (.pmbus a 0 0)).emit (.pmbus a 0x8B 0)

/-- The offsets of a plan are sent and verified, one changed domain at a time (R50, R432): whether every regulator
acknowledged. The first that does not ends the writes. -/
def State.sendPlan (s : State) (p : Plan) (ack : Nat) : State × Bool :=
  foldAll (fun (a : State × Bool) d =>
    let (s, ok) := a
    let o := p.offset d
    if !ok || s.therm.held.getD d none == some o then (s, ok)
    else
      let s := s.sendOffset d o
      if bitAt ack d then
        ({ s with therm := { s.therm with held := s.therm.held.set d (some o) } }, true)
      else (s, false)) (s, true) (List.range 4)

/-- The plan that an entry to ARMED brings into force. -/
def State.planNext (s : State) : Plan := s.therm.pend.getD s.therm.plan

/-- Some domain's regulator does not hold the offset of the plan (R50). -/
def State.offsetsDue (s : State) : Bool :=
  (List.range 4).any fun d => s.therm.held.getD d none != some (s.planNext.offset d)

/-- The offset writes of an entry to ARMED (R50, R432): where a regulator fails, PMB_FAIL is set and the plan stays
pending. -/
def State.planSend (s : State) (ack : Nat) : State :=
  let (s, ok) := s.sendPlan s.planNext ack
  if ok then s else s.flagIrq R.AGE_STATUS Fd.AGE_STATUS_PMB_FAIL 5

/-- The margin plan in the calibration restore (R50, R432): a pending plan whose offsets are held comes into force. -/
def State.planTake (s : State) : State :=
  match s.therm.pend with
  | some p => if s.offsetsDue then s else { s with therm := { s.therm with plan := p, pend := none } }
  | none => s

/-- The configured regulator addresses (R471). -/
def State.pmbAddrs (s : State) : List Nat :=
  (((List.range 4).map fun d => s.fld (R.AGE_DOM d) Fd.AGE_DOM_PMB) ++
    [s.fld R.TOP_PMB_CFG Fd.TOP_PMB_CFG_MEMADDR]).filter (· != 0)

/-- An alert is served (R471): STATUS_WORD is read from every configured address; a fault bit sets PMB_ALERT. -/
def State.alertServe (s : State) (faulty : Bool) : State :=
  let s := foldAll (fun s a => (s.emit (.pmbus a 0 0)).emit (.pmbus a 0x79 0)) s s.pmbAddrs
  if faulty then s.raise R.TOP_SUPPLY Fd.TOP_SUPPLY_PMB_ALERT else s

/-- An alert that waited for the offset writes is served (R471). -/
def State.alertLate (s : State) : State :=
  match s.pins.alertHeld with
  | some f => ({ s with pins := { s.pins with alertHeld := none } } : State).alertServe f
  | none => s

/-- LEAD and PANIC of STREAM_CFG come into force (05). -/
def State.streamTake (s : State) (b : Nat) : State :=
  s.onLoom b fun x =>
    { x with lead := s.fld (R.LOOM_STREAM_CFG b) Fd.LOOM_STREAM_CFG_LEAD
             panicAt := s.fld (R.LOOM_STREAM_CFG b) Fd.LOOM_STREAM_CFG_PANIC }

/-- The entry to ARMED (R45, R50, R38, R100, R101, R190, R194, R196, R304, R305): pending Benches are enabled, trims and
ranges come into force, the converters run, and the Foremen of enabled Benches await their start conditions. -/
def State.toArmed (s : State) (src : Mode) : State :=
  let fresh := (pick 8 fun b => (s.benchSt b).enPend).foldl setBit 0
  let s : State := { s with transit := none, therm := { s.therm with convOff := false } }
  let s := s.takeTrims
  let s := if src == .hold && !s.out.parked then s else s.fsrTakeAll
  let s := if src == .hold then s else s.fluxClearAll
  let s := if s.safeLow then s else { s with out := { s.out with parked := false } }
  let s := (if s.out.parked then s else s.convsOn).isincTake
  let s := foldAll State.streamTake s (List.range 8)
  let s := if src == .hold then s else s.criersEntered
  let s := s.become .armed 0
  let s := foldAll (fun s b => s.benchStart b) s (bitsSet 8 fresh)
  foldAll (fun s b =>
    if s.benchOn b then
      let s := foldAll (fun s e => s.engStart b e true) s (List.range 4)
      s.fmArm b (src == .hold && !bitAt fresh b)
    else s) s (List.range 8)

/-- The steps of R50 from the PLL lock on: 220 µs, the alignment being the last. -/
def State.pllLockStep (s : State) : State :=
  let s := s.fastStart
  let s : State := if s.clk.aligned then s else { s with clk := { s.clk with alignBy := 0 } }
  s.beginTo .armed .armedEntry 660000

/-- The steps of R50: offset writes first, where a regulator does not hold its offset. -/
def State.entrySteps (s : State) : State :=
  if s.offsetsDue then s.beginTo .armed .offsets 0 else s.pllLockStep

/-- An entry to ARMED is in progress (R48, R487). -/
def Transit.entersArmed (t : Transit) : Bool :=
  t.kind == .armedEntry || t.kind == .offsets || t.kind == .keepExit true

/-- An entry to ARMED is ended (R487): it ends in HOLD, in IDLE, or from KEEP in IDLE after the steps of R51. -/
def State.entryAbort (s : State) (t : Transit) (code : Nat) : State :=
  let s := (s.modeErr code Mode.armed.code).alertLate
  if t.kind == .keepExit true then
    { s with transit := some { t with kind := .keepExit false, dst := .idle, cause := code } }
  else if t.src == .hold then { s with transit := none }
  else if t.src == .keep then s.toIdle code
  else ({ s with transit := none } : State).criersStop.stopClocks.memSleep

/-- ARMED is reached, if the admission budget fits with the Benches that asked to be enabled since the request (R38). -/
def State.armedOrShort (s : State) (t : Transit) : State :=
  let (s, fits) := s.budgetCheck s.benchesAsked 1
  if fits then s.toArmed t.src else s.entryAbort t 5

/-- ARMED_ENTRY_DONE (R50): the offset writes are done, and the steps from the PLL lock on begin; or the entry is. From
IDLE or KEEP, ARMED begins at a REFCLK rising edge with the dividers aligned. An alert that fell during the offset writes
is served after them (R471). -/
def armedEntryDone (ack : Nat) (s : State) : State :=
  match s.transit with
  | some t =>
    if decide (s.clk.now < t.due) then s
    else match t.kind with
    | .offsets => (s.planSend ack).alertLate.pllLockStep
    | .armedEntry =>
      if t.src == .hold then s.armedOrShort t
      else if s.clk.phRef = 0 && s.clk.refclk && s.clk.core && !s.clk.snapPend then
        (if s.clk.aligned then s.planTake else s.planTake.align).armedOrShort t
      else s
    | _ => s
  | none => s

/-- ARMED_ENTRY_DONE (R50). -/
def execArmedEntryDone (pmbAck : BitVec 4) (s : State) : Host.Outcome State Fault Refusal :=
  whenPowered s (armedEntryDone pmbAck.toNat)

/-- TRANSITION_DONE (R45): a timed transition completes; TRIM and SERVICE wait for the alignment of the fast clocks
(R22). -/
def transitionDone (s : State) : State :=
  match s.transit with
  | some t =>
    if t.kind != .timed || decide (s.clk.now < t.due) then s
    else
      match t.dst with
      | .idle => s.toIdle t.cause
      | .keep => s.toKeep
      | .dormant => s.toDormant
      | .trim => if s.clk.aligned then s.toTrim else s
      | .service => if s.clk.aligned then s.toService else s
      | _ => s
  | none => s

/-- TRANSITION_DONE (R45). -/
def execTransitionDone (s : State) : Host.Outcome State Fault Refusal := whenPowered s transitionDone

/-! ### TRIM -/

/-- Every selected step of TRIM is done (R45, R99, R430). -/
def State.trimReady (s : State) : Bool :=
  s.mode == .trim && !s.inTransit && (!s.trim.skew || (s.trim.ports = 0 && s.time.echo.isNone)) &&
    (!s.trim.survey || s.trim.surveyDone)

/-- TRIM_DONE (R45, R99): loopback writes the CAL fields where SKEW was selected, and the device returns to IDLE. -/
def trimDone (cal : List (BitVec 14)) (s : State) : State :=
  if s.trimReady then
    let s := if s.trim.skew then
        foldAll (fun s i => s.setFld (R.TIME_FDLY i) Fd.TIME_FDLY_CAL (cal.getD i 0).toNat) s
          (List.range (min 176 cal.length))
      else s
    s.toIdle 0
  else s

/-- TRIM_DONE (R45). -/
def execTrimDone (cal : List (BitVec 14)) (s : State) : Host.Outcome State Fault Refusal := whenPowered s (trimDone cal)

/-! ### Software requests (R46, R47, R49, R52) -/

/-- A request is refused as busy (R47, R48 rank 7): a transition, a load or maintenance, or a SHED or BUDGET_SHORT that is
being carried out. -/
def State.busy (s : State) : Bool :=
  s.inTransit || (match s.hold with
    | some h => h.shed || h.budget
    | none => false)

/-- A HOLD request in RUN, with the mode that is to follow (R46, R52). A further request replaces that mode: DESIGN CHOICE,
log entry 13. -/
def State.holdAsk (s : State) (follow : Option Mode) : State :=
  { s with hold := some { s.hold.getD {} with soft := true, follow := follow } }

/-- Leaving KEEP begins (R51): 2.28 ms. -/
def State.keepExit (s : State) (toArmed : Bool) : State :=
  s.beginTo (if toArmed then .armed else .idle) (.keepExit toArmed) 6840000

/-- MODE_REQ_IDLE (R45, R46). -/
def modeReqIdle (s : State) : State :=
  if s.busy then s.modeErr 1 Mode.idle.code
  else match s.mode with
  | .run => s.holdAsk (some .idle)
  | .armed | .hold | .service => s.beginIdle
  | .keep => s.keepExit false
  | _ => s.modeErr 2 Mode.idle.code

/-- MODE_REQ_IDLE (R45). -/
def execModeReqIdle (s : State) : Host.Outcome State Fault Refusal := whenPowered s modeReqIdle

/-- MODE_REQ_KEEP (R45): 0.5 ms. -/
def modeReqKeep (s : State) : State :=
  if s.busy then s.modeErr 1 Mode.keep.code
  else if s.mode != .idle then s.modeErr 2 Mode.keep.code
  else if !s.patterned then s.modeErr 3 Mode.keep.code
  else s.beginTo .keep .timed 1500000

/-- MODE_REQ_KEEP (R45). -/
def execModeReqKeep (s : State) : Host.Outcome State Fault Refusal := whenPowered s modeReqKeep

/-- MODE_REQ_DORMANT (R45, R44): the bias outputs glide and park. R45 gives the transition no time, and it is due at once:
DESIGN CHOICE, log entry 10. -/
def modeReqDormant (s : State) : State :=
  if s.busy then s.modeErr 1 Mode.dormant.code
  else if s.mode != .idle then s.modeErr 2 Mode.dormant.code
  else s.biasAllDown.beginTo .dormant .timed 0

/-- MODE_REQ_DORMANT (R45). -/
def execModeReqDormant (s : State) : Host.Outcome State Fault Refusal := whenPowered s modeReqDormant

/-- MODE_REQ_TRIM (R45). R45 gives IDLE to TRIM no time: DESIGN CHOICE, log entry 10. -/
def modeReqTrim (conv skew survey full : Bool) (s : State) : State :=
  if s.busy then s.modeErr 1 Mode.trim.code
  else if s.mode != .idle || !(conv || skew || survey) then s.modeErr 2 Mode.trim.code
  else if !s.patterned then s.modeErr 3 Mode.trim.code
  else
    ({ s with trim := { conv := conv, skew := skew, survey := survey, full := full && survey } } :
      State).fastStart.beginTo .trim .timed 0

/-- MODE_REQ_TRIM (R45). -/
def execModeReqTrim (conv skew survey full : Bool) (s : State) : Host.Outcome State Fault Refusal :=
  whenPowered s (modeReqTrim conv skew survey full)

/-- The way to ARMED begins (R50, R51, R45). -/
def State.beginArmed (s : State) : State :=
  match s.mode with
  | .hold => s.beginTo .armed .armedEntry 3000
  | .keep => s.keepExit true
  | _ => s.entrySteps

/-- MODE_REQ_ARMED (R49): Pattern, Epoch, budget (R361 included) and temperature are checked in this order. -/
def modeReqArmed (s : State) : State :=
  let code := Mode.armed.code
  if s.busy then s.modeErr 1 code
  else if s.mode != .idle && s.mode != .keep && s.mode != .hold then s.modeErr 2 code
  else if !s.patterned then s.modeErr 3 code
  else if !s.coherent then s.modeErr 4 code
  else
    let (s, fits) := s.budgetCheck s.benchesAsked 1
    if !fits || (s.memDead && !s.memc.cacheOnly) then s.modeErr 5 code
    else if !s.therm.rearmOk then s.modeErr 6 code
    else s.beginArmed

/-- MODE_REQ_ARMED (R49). -/
def execModeReqArmed (s : State) : Host.Outcome State Fault Refusal := whenPowered s modeReqArmed

/-- MODE_REQ_HOLD (R45, R52): at the shot boundary in RUN, at once in ARMED. -/
def modeReqHold (s : State) : State :=
  if s.busy then s.modeErr 1 Mode.hold.code
  else match s.mode with
  | .run => s.holdAsk none
  | .armed => s.holdNow 0 none
  | _ => s.modeErr 2 Mode.hold.code

/-- MODE_REQ_HOLD (R52). -/
def execModeReqHold (s : State) : Host.Outcome State Fault Refusal := whenPowered s modeReqHold

/-- MODE_REQ_HOLD_FORCE (R52): in RUN at once, the shot poisoned, whatever HOLD is pending; FORCE is ignored elsewhere. -/
def modeReqHoldForce (s : State) : State :=
  if s.inTransit then s.modeErr 1 Mode.hold.code
  else match s.mode with
  | .run => s.holdNow 0 (some (13, 0))
  | .armed => s.holdNow 0 none
  | _ => s.modeErr 2 Mode.hold.code

/-- MODE_REQ_HOLD_FORCE (R52). -/
def execModeReqHoldForce (s : State) : Host.Outcome State Fault Refusal := whenPowered s modeReqHoldForce

/-- MODE_REQ_SERVICE (R45, R46). -/
def modeReqService (s : State) : State :=
  if s.busy then s.modeErr 1 Mode.service.code
  else match s.mode with
  | .run => s.holdAsk (some .service)
  | .idle | .hold => s.beginService
  | _ => s.modeErr 2 Mode.service.code

/-- MODE_REQ_SERVICE (R45). -/
def execModeReqService (s : State) : Host.Outcome State Fault Refusal := whenPowered s modeReqService

/-! ### REF_LOSS -/

/-- The encoding of TIME.STATUS.LOSS_CAUSE. -/
def lossCode : LossCause → Nat
  | .noEdge _ => 1 | .frequency _ => 2 | .lock => 3

/-- The mode action of REF_LOSS, rank 4 of R48 (R108, R430, R487). -/
def State.refLossMode (s : State) (cause : Nat) : State :=
  if s.therm.thermN then s
  else match s.transit with
  | some t =>
    if t.entersArmed then s.entryAbort t 7
    else if s.mode == .armed then s.holdNow 7 none
    else s
  | none =>
    match s.mode with
    | .run => s.holdNow 7 (some (12, cause))
    | .armed => s.holdNow 7 none
    | .trim => s.trimAbort 7
    | _ => s

/-- REF_LOSS is declared (R107, R108, R109): COHERENT clears, EV_TIME_REFLOSS pulses, and the mode action follows. With
REFCLK lost, TIME goes on by the AON count or in holdover. -/
def State.refLost (s : State) (cause : LossCause) : State :=
  let s := (s.flagIrq R.TIME_STATUS Fd.TIME_STATUS_REF_LOSS 1).setFld R.TIME_STATUS Fd.TIME_STATUS_LOSS_CAUSE
    (lossCode cause)
  let s := (s.clear R.TOP_MODE Fd.TOP_MODE_COHERENT).pulse 345
  let s : State := if lossCode cause = 1 then
      let c := { s.clk with refclk := false, edgeTime := s.clk.atEdge, aonSince := 0, lostAt := s.clk.now }
      { s with clk := if c.stopPend then c.stop else c }
    else s
  s.refLossMode (lossCode cause)

/-- The case of R107 holds: 5 AON cycles without an edge, a count off 4,096 by more than 20, or a PLL that runs. A missing
edge and a count are judged while REFCLK counts as present. -/
def State.lossSeen (s : State) (cause : LossCause) : Bool :=
  match cause with
  | .noEdge n => s.clk.refclk && decide (5 ≤ n)
  | .frequency n => s.clk.refclk && !goodCount n
  | .lock => s.clk.core || s.clk.conv

/-- REF_LOSS (R107, R108). -/
def refLoss (cause : LossCause) (s : State) : State := if s.lossSeen cause then s.refLost cause else s

/-- REF_LOSS (R108). -/
def execRefLoss (cause : LossCause) (s : State) : Host.Outcome State Fault Refusal := whenPowered s (refLoss cause)

/-- PLL_LOCK_LOSS (R486): REF_LOSS is declared; a core PLL that loses lock makes TIME take the next multiple of 30 at the
next REFCLK edge, and its dividers are aligned anew. While REFCLK is absent the clocks run on in holdover (R109). -/
def pllLockLoss (core : Bool) (s : State) : State :=
  if !(if core then s.clk.core else s.clk.conv) then s
  else
    let s := s.refLost .lock
    if core && s.clk.core && s.clk.refclk then { s with clk := { s.clk with snapPend := true } } else s

/-- PLL_LOCK_LOSS (R486). -/
def execPllLockLoss (core : Bool) (s : State) : Host.Outcome State Fault Refusal := whenPowered s (pllLockLoss core)

end Sys2Proof.Machine
end

