-- ==== Sys2Proof/Machine/Resets.lean ====
section
/-!
DEFINITION. Device-level resets, boot and SANITISE (R53 to R62, R488), and leaving KEEP (R51).
-/
namespace Sys2Proof.Machine

/-! ### LATCHED -/

/-- A LATCH has switched the device off (R427): resets are recorded only (R62). -/
def State.isLatched (s : State) : Bool := s.mode == .latched || s.therm.thermN

/-- LATCH switches off the converter, core and memory domains and asserts THERM_N (R427, R44, R415, R417, R472). A
migration that it interrupts sets RESET_CAUSE.MIGRATION as a reset would (R61): DESIGN CHOICE, log entry 16. -/
def State.latchOff (s : State) : State :=
  let s := (((s.memRail false).scanHalt.loopsOff).stopClocks.biasAllDown).migrationStands
  let s := s.coreLost aonReg true
  { s with
    therm := { s.therm with thermN := true, action := .latch }
    pins := { s.pins with bootDue := none } }

/-! ### What every device-level reset does (R57) -/

/-- PREV_MODE records the mode at the reset. -/
def State.notePrev (s : State) : State :=
  s.setFld R.TOP_RESET_CAUSE Fd.TOP_RESET_CAUSE_PREV_MODE s.mode.code

/-- The common effect of a device-level reset (R57, R61, R415): the registers that satisfy `keep` stay. -/
def State.resetCommon (s : State) (keep : Nat → Bool) : State :=
  ((s.notePrev.migrationStands.scanHalt.loopsOff).stopClocks).coreLost keep true

/-- A reset request is recorded only while PWRGD is low or a rail of 0 to 7 is out (R488, R470, R64) and in LATCHED
(R62). -/
def State.resetHeld (s : State) : Bool := s.isLatched || !s.pins.pwrgd || s.pins.railsOut % 256 != 0

/-! ### Power-on -/

/-- The state after a power-on reset (R56): every register at its reset value, TIME 0, and what OTP, flash and the Ledger
hold. -/
def State.powerOn (s : State) (straps : Nat) : State :=
  { State.reset with
    pending := s.pending
    clk := { now := s.clk.now, phRef := s.clk.phRef, phAon := s.clk.phAon, refclk := s.clk.refclk }
    memc := s.memc.lost
    slow := { boundary := s.clk.now, panel := s.slow.panel }
    therm := { plan := s.therm.plan, pend := s.therm.pend, rateUpPend := s.therm.rateUpPend
               eyeGood := s.therm.eyeGood, due := s.clk.now }
    host := { s.host.lost with devid := straps, straps := straps, powerOns := s.host.powerOns + 1 }
    pins := { bootDue := some (s.clk.now + 9000000), railsOut := s.pins.railsOut }
    readData := s.readData, outbox := s.outbox, freeCtr := s.freeCtr }

/-- The power-on reset that follows PWRGD or a rail monitor (R56, R488): RESET_CAUSE shows SUPPLY in place of POWER_ON, and
the mode that the fall found. -/
def State.supplyOn (s : State) (straps : Nat) : State :=
  let prev := s.fld R.TOP_RESET_CAUSE Fd.TOP_RESET_CAUSE_PREV_MODE
  (((s.powerOn straps).clear R.TOP_RESET_CAUSE Fd.TOP_RESET_CAUSE_POWER_ON).raise R.TOP_RESET_CAUSE
    Fd.TOP_RESET_CAUSE_SUPPLY).setFld R.TOP_RESET_CAUSE Fd.TOP_RESET_CAUSE_PREV_MODE prev

/-- POWER_ON_RESET (R56, R488). VDD_AON rises on an unpowered device, or PWRGD rises after it was low. In LATCHED the
second is recorded only. With a rail of 0 to 7 out of its window the reset waits for the rail (R470). -/
def powerOnReset (vdd : Bool) (straps : Nat) (s : State) : State :=
  if vdd then (if s.powered then s else s.powerOn straps)
  else if !s.powered || s.pins.pwrgd then s
  else
    let s : State := { s with pins := { s.pins with pwrgd := true } }
    if s.isLatched then s.raise R.TOP_RESET_CAUSE Fd.TOP_RESET_CAUSE_SUPPLY
    else if s.pins.railsOut % 256 = 0 then s.supplyOn straps
    else s

/-- POWER_ON_RESET (R56): the one command that acts on an unpowered device. -/
def execPowerOnReset (vddRose : Bool) (straps : Fin 64) (s : State) : Host.Outcome State Fault Refusal :=
  if vddRose then .next (powerOnReset true straps s) else whenPowered s (powerOnReset false straps)

/-- The effect of PWRGD low (R488, R44, R470): as a device-level reset, into DORMANT; TIME and the AON domain run on. -/
def State.supplyOff (s : State) : State :=
  let s := (s.memRail false).resetCommon aonReg
  { s.biasAllDown with mode := .dormant, pins := { s.pins with memRail := false, bootDue := none } }

/-- PWRGD_LOW (R488): in LATCHED it changes nothing else. -/
def pwrgdLow (s : State) : State :=
  if !s.pins.pwrgd then s
  else
    let s : State := { s with pins := { s.pins with pwrgd := false } }
    if s.isLatched then s else s.supplyOff

/-- PWRGD_LOW (R488). -/
def execPwrgdLow (s : State) : Host.Outcome State Fault Refusal := whenPowered s pwrgdLow

/-- VDD_AON_REMOVED (R56): the device is unpowered and every volatile state is gone, LATCHED included; a migration under
way stands in the Ledger (R61). -/
def vddAonRemoved (s : State) : State :=
  let s := s.migrationStands.tokenCut
  { s.powerOn s.host.straps with powered := false }

/-- VDD_AON_REMOVED (R56). -/
def execVddAonRemoved (s : State) : Host.Outcome State Fault Refusal := whenPowered s vddAonRemoved

/-! ### Cold and warm -/

/-- RESET_N (R56, R485, R44): TIME and the Epoch state stay, every other AON register is reset, every bias output parks;
DORMANT follows, and the boot request 100 µs after release (R480). It merges with a reset in progress, whose boot request
is not made earlier (R64). -/
def resetN (straps : Nat) (s : State) : State :=
  let s := s.raise R.TOP_RESET_CAUSE Fd.TOP_RESET_CAUSE_PIN
  if s.resetHeld then s
  else
    let s := ((s.memRail false).resetCommon coldReg).biasAllPark
    let ep := (s.setReg R.TIME_EPOCH_CTL (s.reg R.TIME_EPOCH_CTL &&& 2#32)).setReg R.TIME_STATUS
      (s.reg R.TIME_STATUS &&& 0xFFFF008E#32)
    let loops : NMap Loop := ep.slow.loops
    { ep with
      mode := .dormant
      out := {}
      slow := { bias := ep.slow.bias.map fun e => (e.1, ({} : Bias)), boundary := ep.slow.boundary, loops := loops
                panel := ep.slow.panel }
      time := { ep.time with trigLast := [] }
      host := { ep.host with devid := straps, straps := straps }
      pins := { ep.pins with memRail := false, bootDue := some (max (ep.clk.now + 300000) (s.pins.bootDue.getD 0)) } }

/-- RESET_N (R56). -/
def execResetN (straps : Fin 64) (s : State) : Host.Outcome State Fault Refusal := whenPowered s (resetN straps)

/-- A warm reset (R56): the AON registers stay, the bias outputs keep their codes (R44), and BOOT follows at once. A reset
in progress takes it in (R64). -/
def State.warm (s : State) (cause : Bits) : State :=
  let s := s.raise R.TOP_RESET_CAUSE cause
  if s.resetHeld || s.pins.bootDue.isSome then s
  else { s.resetCommon aonReg with mode := .boot, pins := { s.pins with bootDue := none, alertHeld := none } }

/-- WARM_RESET (R56): by software, or by Porter. -/
def warmReset (byPorter : Bool) (s : State) : State :=
  s.warm (if byPorter then Fd.TOP_RESET_CAUSE_PORTER else Fd.TOP_RESET_CAUSE_WARM)

/-- WARM_RESET (R56). -/
def execWarmReset (byPorter : Bool) (s : State) : Host.Outcome State Fault Refusal := whenPowered s (warmReset byPorter)

/-! ### Boot (R53 to R55) -/

/-- A boot request moves the device from DORMANT to BOOT (R45); with a sensor that failed at power-on it enters LATCHED
in place of BOOT (R423). -/
def State.boots (s : State) : State :=
  if s.mode != .dormant || !s.pins.pwrgd || s.pins.railsOut % 256 != 0 then s
  else
    let s : State := { s with pins := { s.pins with bootDue := none } }
    if s.therm.bootBad then { s.latchOff with mode := .latched }
    else s.become .boot 0

/-- BOOT_REQUEST (R54): a reset has ended and AUTOBOOT is 1. -/
def bootRequest (s : State) : State :=
  match s.pins.bootDue with
  | some t =>
    if decide (t ≤ s.clk.now) && s.flag R.TOP_AON_CTL Fd.TOP_AON_CTL_AUTOBOOT then s.boots else s
  | none => s

/-- BOOT_REQUEST (R54). -/
def execBootRequest (s : State) : Host.Outcome State Fault Refusal := whenPowered s bootRequest

/-- WAKE_TIMER (R54): the comparison is made at every AON cycle. -/
def wakeTimer (s : State) : State :=
  if s.clk.phAon = 0 && s.flag R.TOP_AON_CTL Fd.TOP_AON_CTL_WAKE_TIMER_EN &&
      decide (s.reg64 R.TOP_WAKE_TIME_LO ≤ s.clk.time) then s.boots
  else s

/-- WAKE_TIMER (R54). -/
def execWakeTimer (s : State) : Host.Outcome State Fault Refusal := whenPowered s wakeTimer

/-- WAKE_TRIG (R54): a rising edge on the line that AON_CTL.WAKE_TRIG names. -/
def wakeTrig (line : Nat) (s : State) : State :=
  if s.flag R.TOP_AON_CTL Fd.TOP_AON_CTL_WAKE_TRIG_EN && s.fld R.TOP_AON_CTL Fd.TOP_AON_CTL_WAKE_TRIG == line then s.boots
  else s

/-- WAKE_TRIG (R54). -/
def execWakeTrig (line : Fin 8) (s : State) : Host.Outcome State Fault Refusal := whenPowered s (wakeTrig line)

/-- At BOOT, a life-cycle INTENT without a DONE whose OTP bits were not burnt ends as ABORTED (R463). -/
def State.intentCheck (s : State) : State :=
  if (openIntent s.host.ledger).isSome then
    (s.commit (.lifecycle false 0) [4]).setFld R.PORTER_STATUS Fd.PORTER_STATUS_RESULT 4
  else s

/-- The target of a transition that BOOT finds unfinished while OTP shows its new state (R463). -/
def State.intentBurnt (s : State) : Option Nat :=
  (openIntent s.host.ledger).filter fun t => lifeOf t == lifeCycle s.host.otp

/-- Porter finishes a transition whose OTP bits are burnt, before it verifies any image (R463): it erases the partitions,
commits DONE and requests a reset. Whether a Pattern key that the token carried is stored is not stated, and is free. -/
def State.intentFinish (s : State) (t : Nat) : State :=
  let (w, s) := s.free
  let s : State := { s with host := { s.host with
    customFlash := false, patternKey := lifeOf t == .owned && w.toNat % 2 == 1 } }
  (s.commit (.lifecycle false t) [0]).warm Fd.TOP_RESET_CAUSE_PORTER

/-- The version in the primary partition, or in the alternate one. -/
def HostSt.image (h : HostSt) (alternate : Bool) : Nat := if h.fwPrimaryB != alternate then h.fwB else h.fwA

/-- FIRMWARE_VERIFIED (R55, R456, R58, R45): the image that verifies runs, the version floor follows it, and SANITISE
begins: SANITISE_OPEN is set, the core PLL starts, the memory rail is on, and training and wipe take 76.55 ms (R53). A
transition of the life-cycle that is to be finished comes first (R463). -/
def firmwareVerified (alternate : Bool) (s : State) : State :=
  let v := s.host.image alternate
  if s.mode == .boot && s.intentBurnt.isSome then s.intentFinish (s.intentBurnt.getD 0)
  else if s.mode == .boot && !s.flag R.TOP_MODE Fd.TOP_MODE_BOOT_FAIL && v != 0 && decide (s.host.otp.fwFloor ≤ v) then
    let s := s.intentCheck
    let s : State := { s with host := { s.host with
      fwVer := v, fwBootedB := s.host.fwPrimaryB != alternate
      otp := { s.host.otp with fwFloor := max s.host.otp.fwFloor v } } }
    let s := (((s.raise R.TOP_MODE Fd.TOP_MODE_SANITISE_OPEN).become .sanitise 0).startClocks false).memRail true
    let rate := if s.therm.rateUpPend then min 22 (s.memc.rate + 2) else s.memc.rate
    { s with
      memc := { s.memc with powered := true, rate := rate, wipeDue := some (s.clk.now + 229650000) }
      therm := { s.therm with rateUpPend := false, eyeGood := s.therm.eyeGood && !s.therm.rateUpPend } }
  else s

/-- FIRMWARE_VERIFIED (R55). -/
def execFirmwareVerified (alternate : Bool) (s : State) : Host.Outcome State Fault Refusal :=
  whenPowered s (firmwareVerified alternate)

/-- BOOT_FAIL (R55): the device stays in BOOT and Porter serves recovery over the management port (R454). -/
def bootFail (s : State) : State :=
  if s.mode == .boot && s.intentBurnt.isSome then s.intentFinish (s.intentBurnt.getD 0)
  else if s.mode == .boot then
    let s := s.intentCheck.raise R.TOP_MODE Fd.TOP_MODE_BOOT_FAIL
    { s with host := { s.host with mgmtPorter := true } }
  else s

/-- BOOT_FAIL (R55). -/
def execBootFail (s : State) : Host.Outcome State Fault Refusal := whenPowered s bootFail

/-- WIPE_COMPLETE (R58, R45): SANITISE_OPEN clears; memory to self-refresh and the stop of the clocks take 0.45 ms. -/
def wipeComplete (s : State) : State :=
  match s.memc.wipeDue with
  | some t =>
    if s.mode == Mode.sanitise && decide (t ≤ s.clk.now) && s.clk.aligned then
      let s := s.clear R.TOP_MODE Fd.TOP_MODE_SANITISE_OPEN
      ({ s with mem := [], ap := NMap.erase isWindow s.ap, xyStages := []
                memc := { s.memc with wipeDue := none, ue := [], trainTemp := s.memc.temp, restTime := 0 } } :
        State).beginTo .idle .timed 1350000
    else s
  | none => s

/-- WIPE_COMPLETE (R58). -/
def execWipeComplete (s : State) : Host.Outcome State Fault Refusal := whenPowered s wipeComplete

/-! ### Leaving KEEP -/

/-- KEEP_EXIT_DONE (R51, R363, R487): units not retained are lost, the RESIDENT segments are reloaded, and IDLE or the
steps of R50 follow. -/
def keepExitDone (s : State) : State :=
  match s.transit with
  | some t =>
    match t.kind with
    | .keepExit toArmed =>
      if s.clk.now < t.due then s
      else
        let s := foldAll State.residentsMade s.memWake.keepLoss (List.range 8)
        if toArmed then s.entrySteps else s.toIdle t.cause
    | _ => s
  | none => s

/-- KEEP_EXIT_DONE (R51). -/
def execKeepExitDone (s : State) : Host.Outcome State Fault Refusal := whenPowered s keepExitDone

end Sys2Proof.Machine
end

