-- ==== Sys2Proof/Machine/Thermal.lean ====
section
/-!
DEFINITION. Thermal supervision (R419 to R428), the ageing survey and its plan (R429 to R432), and the upkeep of the Ledger
(R435, R436). Temperatures are in 0.5 °C.
-/
namespace Sys2Proof.Machine

/-! ### Sensors (R419 to R422) -/

/-- A reading as the 10 bits hold it: beyond the span it reads as the nearer limit (R419). -/
def reading (t : Int) : Int := max (-512) (min 511 t)

/-- Sensor `i`. -/
def State.sensor (s : State) (i : Nat) : Sensor := NMap.get (fun _ => {}) s.therm.sensors i

/-- The sensors of the zone of sensor `i` (R419). -/
def zoneOf (i : Nat) : List Nat :=
  if i < 24 then [i / 3 * 3, i / 3 * 3 + 1, i / 3 * 3 + 2] else if i < 28 then [24, 25, 26, 27] else [28, 29, 30, 31]

/-- Insert into an ascending list. -/
def insInt (v : Int) : List Int → List Int
  | [] => [v]
  | x :: xs => if v ≤ x then v :: x :: xs else x :: insInt v xs

/-- The median; of an even number the lower of the two middle readings (R421). -/
def median (l : List Int) : Int := (l.foldl (fun a v => insInt v a) []).getD ((l.length - 1) / 2) 0

/-- The lowest of a list of readings, or the given one. -/
def lowest (d : Int) (l : List Int) : Int := l.foldl min d

/-- The highest of a list of readings, or the given one. -/
def highest (d : Int) (l : List Int) : Int := l.foldl max d

/-- The samples in 10 s (R421). -/
def stuckSamples : Nat := 100000

/-- Readings whose history spans 10 s and which have not changed in it (R421). -/
def Sensor.unchanged (x : Sensor) (t : Int) : Bool := decide (stuckSamples ≤ x.hist.length) && x.hist.all (· == t)

/-- The sensor has moved by more than 2 °C in the last 10 s (R421). -/
def Sensor.moved (x : Sensor) (t : Int) : Bool := decide (4 < highest t x.hist - lowest t x.hist)

/-- Why a sensor is broken at a sample: 0 not, else CAUSE (R421). `ts` are the present readings. -/
def State.brokenCause (s : State) (ts : List Int) (i : Nat) : Nat :=
  let t := ts.getD i 0
  let zone := zoneOf i
  let m := median (zone.map fun j => ts.getD j 0)
  if t < -120 || 350 < t then 1
  else if (s.sensor i).unchanged t && (zone.all fun j => j == i || (s.sensor j).moved (ts.getD j 0)) then 2
  else if 40 < max (t - m) (m - t) then 3
  else 0

/-- The rise of a sensor (R424): its reading minus the lowest of its preceding 100. -/
def State.riseOf (s : State) (ts : List Int) (i : Nat) : Int :=
  let t := ts.getD i 0
  t - lowest t ((s.sensor i).hist.take 100)

/-- A sensor takes a sample. -/
def State.takeSample (s : State) (ts : List Int) (i : Nat) : Sensor :=
  let t := ts.getD i 0
  { temp := t, hist := t :: (s.sensor i).hist.take (stuckSamples - 1), broken := s.brokenCause ts i }

/-! ### Limits (R424, R428): values above the default count as the default -/

/-- A limit in °C as 0.5 °C. -/
def State.limitT (s : State) (f : Bits) (d : Nat) : Int := Int.ofNat (2 * min d (s.fld R.THERM_LIMIT f))

/-- LATCH_T. -/
def State.latchT (s : State) : Int := s.limitT Fd.THERM_LIMIT_LATCH_T 118
/-- CONV_T. -/
def State.convT (s : State) : Int := s.limitT Fd.THERM_LIMIT_CONV_T 110
/-- SHED_T. -/
def State.shedT (s : State) : Int := s.limitT Fd.THERM_LIMIT_SHED_T 100
/-- The re-arm limit (R428). -/
def State.rearmT (s : State) : Int :=
  s.shedT - Int.ofNat (2 * max 2 (s.fld R.THERM_LIMIT Fd.THERM_LIMIT_REARM_HYST))
/-- SHED_RISE. -/
def State.shedRise (s : State) : Int := Int.ofNat (min 6 (s.fld R.THERM_RISE Fd.THERM_RISE_SHED_RISE))
/-- LATCH_RISE. -/
def State.latchRise (s : State) : Int := Int.ofNat (min 40 (s.fld R.THERM_RISE Fd.THERM_RISE_LATCH_RISE))

/-- Diode `k` is above its limit HI (R420); 0 disables. -/
def State.diodeHi (s : State) (ds : List (Option Int)) (k : Nat) : Bool :=
  let hi := s.fld (R.THERM_DIODE k) Fd.THERM_DIODE_HI
  hi != 0 && decide (Int.ofNat (2 * hi) < (ds.getD k none).getD 0)

/-! ### Actions (R425 to R428) -/

/-- The THERMAL mark (R369, R428). -/
def State.thermMark (s : State) (a sensor : Nat) : State :=
  s.offer 24 srcDev 0x26 1 s.clk.time [(0, 1, a), (1, 1, sensor), (2, 2, lowBits 16 s.therm.tj)]

/-- The mode action of SHED, rank 6 (R425, R48): an entry to ARMED ends; RUN goes to HOLD at the shot boundary with a
deadline; ARMED to HOLD; TRIM and SERVICE to IDLE. -/
def State.shedMode (s : State) : State :=
  let armed := s.mode == .armed
  match s.transit with
  | some t => if t.entersArmed then s.entryAbort t 6 else if armed then s.holdNow 6 none else s
  | none =>
    match s.mode with
    | .run =>
      let h := s.hold.getD {}
      if h.shed then s
      else
        let us := max 1 (s.fld R.THERM_RISE Fd.THERM_RISE_SHED_DEADLINE)
        { s with hold := some { h with shed := true, shedDue := s.clk.now + 3000 * us } }
    | .armed => s.holdNow 6 none
    | .trim => s.trimAbort 6
    | .service => s.toIdle 6
    | _ => s

/-- The mode action of CONV_OFF, rank 3 (R426, R48). -/
def State.convOffMode (s : State) : State :=
  let armed := s.mode == .armed
  match s.transit with
  | some t => if t.entersArmed then s.entryAbort t 6 else if armed then s.holdNow 6 none else s
  | none =>
    match s.mode with
    | .run => (s.breach Fd.TOP_BREACH_TIER3).holdNow 6 (some (11, 2))
    | .armed => s.holdNow 6 none
    | .trim => s.trimAbort 6
    | .service => s.toIdle 6
    | _ => s

/-- SHED is taken (R425). -/
def State.shedTake (s : State) (sensor : Nat) : State :=
  let s : State := { s with therm := { s.therm with action := .shed } }
  let s := ((s.thermMark 1 sensor).thermFlag Fd.THERM_FLAGS_SHED).pulse 347
  foldAll (fun s b => s.fmTrap b 9) s (List.range 8)

/-- CONV_OFF is taken (R426): the RF converters turn off, the flux DACs drive code 0. -/
def State.convOffTake (s : State) (sensor : Nat) : State :=
  let s : State := { s with therm := { s.therm with action := .convOff, convOff := true } }
  ((s.thermMark 2 sensor).thermFlag Fd.THERM_FLAGS_CONV_OFF).convOffMode.convsOff.fluxClearAll

/-- LATCH is taken (R427): the domains are off at the sample; Porter has 50 ms for the LATCH record. -/
def State.latchTake (s : State) (sensor cause : Nat) (rise : Int) : State :=
  let tj := s.therm.tj
  let mode := s.mode
  let s := ({ s with hold := none } : State).latchOff
  { s with
    transit := some { src := mode, dst := .latched, kind := .timed, due := s.clk.now + 150000000 }
    therm := { s.therm with
      latchDue := some (s.clk.now + 150000000)
      latchInfo := [cause, sensor, lowBits 16 tj, lowBits 16 rise] } }

/-- An action ends (R428). -/
def State.thermEnd (s : State) : State :=
  ({ s with therm := { s.therm with action := .none_ } } : State).thermMark 0 s.therm.hot

/-- The readings of a sample are recorded: sensors, diodes, TJ and its sensor (R419, R420, R422). -/
def State.thermRecord (s : State) (ts : List Int) (ds : List (Option Int)) : State :=
  let sens : NMap Sensor := foldAll (fun m i => NMap.set (fun _ => {}) m i (s.takeSample ts i)) [] (List.range 32)
  let counted := (List.range 32).map fun i => if s.brokenCause ts i = 0 then ts.getD i 0 else s.latchT
  let tj := highest (-512) counted
  let hot := ((List.range 32).find? fun i => counted.getD i 0 == tj).getD 0
  let diodes : NMap Int := foldAll (fun m k => NMap.set (fun _ => 0) m k (reading ((ds.getD k none).getD 0))) []
    (List.range 2)
  let bad := (pick 2 fun k => (ds.getD k none).isNone).foldl setBit 0
  { s with therm := { s.therm with
    sensors := sens, diodes := diodes, diodeFault := bad, tj := tj, hot := hot
    samples := min 16 (s.therm.samples + 1), due := s.therm.due + 300000 } }

/-- The sticky flags of a sample: RISE, BROKEN, REMOTE_HI, DIODE_FAULT. -/
def State.thermFlags (s : State) (rise broken hi bad : Bool) : State :=
  let s := if rise then s.thermFlag Fd.THERM_FLAGS_RISE else s
  let s := if broken then s.thermFlag Fd.THERM_FLAGS_BROKEN else s
  let s := if hi then s.thermFlag Fd.THERM_FLAGS_REMOTE_HI else s
  if bad then s.thermFlag Fd.THERM_FLAGS_DIODE_FAULT else s

/-- THERMAL_SAMPLE (R419 to R428): readings, TJ and rise, the tests of the first 16 samples after power-on (R423), and the
actions by rank. In LATCHED the supervision only reports (R43). -/
def thermalSample (temps : List Int) (ds : List (Option Int)) (s : State) : State :=
  if s.clk.now < s.therm.due then s
  else
    let ts := (List.range 32).map fun i => reading (temps.getD i 0)
    let first := decide (s.therm.samples < 16)
    let fails := pick 32 fun i => s.brokenCause ts i != 0
    let rises := (List.range 32).map (s.riseOf ts)
    let shedR := (List.range 32).find? fun i => decide (s.shedRise < rises.getD i 0)
    let latchR := (List.range 32).find? fun i => decide (s.latchRise < rises.getD i 0)
    let hi := pick 2 (s.diodeHi ds)
    let hiShed := hi.any fun k => s.flag (R.THERM_DIODE k) Fd.THERM_DIODE_HI_SHED
    let s1 := s.thermRecord ts ds
    if s.isLatched then s1
    else
      let s1 : State :=
        if first && !fails.isEmpty then { s1 with therm := { s1.therm with bootBad := true } } else s1
      let s1 := s1.thermFlags shedR.isSome (!fails.isEmpty) (!hi.isEmpty) (s1.therm.diodeFault != 0)
      let raw := highest (-512) ts
      let tj := if first then raw else s1.therm.tj
      let hot := s1.therm.hot
      let act :=
        if s.latchT ≤ tj then s1.latchTake hot (if s1.therm.tj ≤ raw then 0 else 1) (rises.getD hot 0)
        else match latchR with
        | some i => s1.latchTake i 2 (rises.getD i 0)
        | none =>
          if s.convT ≤ tj then
            if s.therm.action == .convOff then s1.convOffMode else s1.convOffTake hot
          else if decide (s.shedT ≤ tj) || shedR.isSome || hiShed then
            if s.therm.action == .none_ then
              (s1.shedTake (if s.shedT ≤ tj then hot else shedR.getD hot)).shedMode
            else s1.shedMode
          else if s.therm.action != .none_ && decide (tj < s.rearmT) then s1.thermEnd
          else s1
      { act with therm := { act.therm with
        rearmOk := act.therm.action == .none_ && decide (act.therm.tj ≤ s.rearmT) } }

/-- THERMAL_SAMPLE (R424). -/
def execThermalSample (temps : List Int) (diodes : List (Option Int)) (s : State) : Host.Outcome State Fault Refusal :=
  whenPowered s (thermalSample temps diodes)

/-- SHED_DEADLINE (R425): the boundary has not been reached; HOLD at once, the shot poisoned with cause THERMAL. -/
def shedDeadline (s : State) : State :=
  match s.hold with
  | some h =>
    if s.mode == Mode.run && h.shed && decide (h.shedDue ≤ s.clk.now) then
      (s.breach Fd.TOP_BREACH_TIER3).holdNow 6 (some (11, 1))
    else s
  | none => s

/-- SHED_DEADLINE (R425). -/
def execShedDeadline (s : State) : Host.Outcome State Fault Refusal := whenPowered s shedDeadline

/-- LATCHED_ENTRY (R427): Porter has committed the LATCH record; the device enters LATCHED. -/
def latchedEntry (s : State) : State :=
  match s.therm.latchDue with
  | some _ =>
    let s := s.commit .latch s.therm.latchInfo
    { s with mode := .latched, transit := none, therm := { s.therm with latchDue := none, latchInfo := [] } }
  | none => s

/-- LATCHED_ENTRY (R427). -/
def execLatchedEntry (s : State) : Host.Outcome State Fault Refusal := whenPowered s latchedEntry

/-! ### Survey and plan (R429 to R432) -/

/-- The new offset of a domain in 2.5 mV (R431): the difference TARGET − margin rounded up, limited by STEP_MAX, the result
clamped to −30 to +60 mV. `margin` is in 0.1 mV. -/
def planOffset (old target margin : Int) (stepMax : Nat) : Int :=
  let up := -((margin - 10 * target) / 25)
  let lim := Int.ofNat (max 1 stepMax)
  max (-12) (min 24 (old + max (-lim) (min lim up)))

/-- A margin as AGE.DOMd.MARGIN reports it, in mV: the rounding is left open, and so is a value that the field cannot
hold. -/
def State.marginPut (s : State) (d : Nat) (m : Int) : State :=
  let (q, s) := s.quotFree m 10
  if 0 ≤ q && decide (q < 256) then s.setFld (R.AGE_DOM d) Fd.AGE_DOM_MARGIN q.toNat
  else
    let (w, s) := s.free
    s.setFld (R.AGE_DOM d) Fd.AGE_DOM_MARGIN w.toNat

/-- The plan that a survey forms (R431). -/
def State.planOf (s : State) (r : SurveyResult) : Plan :=
  let full := s.trim.full
  let target := Int.ofNat (s.fld R.AGE_CFG Fd.AGE_CFG_TARGET)
  let sm := s.fld R.AGE_CFG Fd.AGE_CFG_STEP_MAX
  { seq := s.host.nextSeq
    offsets := (List.range 4).map fun d => planOffset (s.therm.plan.offset d) target (r.margins.getD d 0) sm
    trims := if full then r.trims else s.therm.plan.trims
    rateUp := full && decide (s.fld R.AGE_CFG Fd.AGE_CFG_RATE_UP ≤ r.eye) && s.therm.eyeGood && decide (s.memc.rate < 22)
    life := min 0xFFFF r.months }

/-- SURVEY_COMPLETE (R430, R431, R434): one SURVEY record is committed and the plan becomes pending. A commit that does not
verify twice sets LEDGER_FAIL, and the results are discarded. -/
def surveyComplete (r : SurveyResult) (s : State) : State :=
  if s.mode == .trim && s.therm.surveying then
    let s : State := { s with trim := { s.trim with surveyDone := true } }
    if !r.committed then s.surveyLost.flagIrq R.AGE_STATUS Fd.AGE_STATUS_LEDGER_FAIL 5
    else
      let p := s.planOf r
      let good := if s.trim.full then decide (s.fld R.AGE_CFG Fd.AGE_CFG_RATE_UP ≤ r.eye) else s.therm.eyeGood
      let s := s.commit .survey (p.offsets.map (lowBits 8) ++ [bit p.rateUp, p.life])
      let s := foldAll (fun s d => s.marginPut d (r.margins.getD d 0)) s (List.range 4)
      { s with therm := { s.therm with
        surveying := false, pend := some p, eyeGood := good, rateUpPend := s.therm.rateUpPend || p.rateUp } }
  else s

/-- SURVEY_COMPLETE (R430). -/
def execSurveyComplete (r : SurveyResult) (s : State) : Host.Outcome State Fault Refusal :=
  whenPowered s (surveyComplete r)

/-! ### The Ledger's upkeep -/

/-- A powered hour in ticks. -/
def hourTicks : Nat := 10800000000000

/-- The powered year of a record's commit. -/
def LedgerRec.year (r : LedgerRec) : Nat := r.made / (8760 * hourTicks)

/-- LEDGER_COMPACTION (R435): at IDLE with 90% of the 16,384 places in use, all but the last 1,024 SURVEY records give way
to one ANNUAL record per powered year. -/
def ledgerCompaction (s : State) : State :=
  let l := s.host.ledger
  if s.mode == .idle && decide (147456 ≤ 10 * l.length) then
    let surveys := l.filter (·.kind == .survey)
    let old := surveys.take (surveys.length - 1024)
    let years := (old.map (·.year)).eraseDups.filter fun y => !l.any fun r => r.kind == .annual && r.data == [y]
    let s : State := { s with host := { s.host with ledger := l.filter fun r => !old.any (·.seq == r.seq) } }
    (foldAll (fun s y => s.commit .annual [y]) s years).satAdd R.AGE_LEDGER Fd.AGE_LEDGER_COMPACTIONS 1
  else s

/-- LEDGER_COMPACTION (R435). -/
def execLedgerCompaction (s : State) : Host.Outcome State Fault Refusal := whenPowered s ledgerCompaction

/-- LEDGER_REFRESH (R436): at a boot or in IDLE, records last written 43,800 powered hours ago are written again. -/
def ledgerRefresh (s : State) : State :=
  if s.mode == .idle || s.mode == .boot then
    { s with host := { s.host with ledger := s.host.ledger.map fun r =>
        if 43800 * hourTicks ≤ s.clk.now - r.written then { r with written := s.clk.now } else r } }
  else s

/-- LEDGER_REFRESH (R436). -/
def execLedgerRefresh (s : State) : Host.Outcome State Fault Refusal := whenPowered s ledgerRefresh

end Sys2Proof.Machine
end

