-- ==== Sys2Proof/Machine/Memory.lean ====
section
/-!
DEFINITION. The waveform memory controller (13): reads of waveform memory, refresh and temperature, row disturbance, link
errors, self-refresh, and the maintenance that retrains, retires and migrates.
-/
namespace Sys2Proof.Machine

/-! ### Reads (R341, R342) -/

/-- A reader of a unit that decodes as a UE gets its result (R342): poisoned data, or a bus error with CORE_ERR (R453). -/
def State.ueResult (s : State) (who : Who) : State :=
  match who with
  | .cores => (s.emit (.completion 2)).irq 8
  | _ => s.emit (.completion 1)

/-- The UE_LOG requester of a reader (13). -/
def memReq (w : Who) : Nat := if w = .cores then 9 else 10

/-- WAVEFORM_READ (R341, R342, R119, R77, R452, R439): the 32-bit word at the address, or 0 where the read is refused. In
KEEP the host's access completes with Unsupported Request. -/
def waveformRead (who : Who) (a : Nat) (r : ReadCheck) (s : State) : State :=
  let s : State := { s.memTouch with readData := 0 }
  let a4 := a / 4 * 4
  if s.mode == .keep then (if who = .host then s.emit (.completion 0) else s)
  else if !s.memServes then s
  else if s.memRefuses who a4 4 || (s.inStaging a4 4 && (who == .host || who == .cores)) then s.denied who a false
  else
    let u := a / 64
    let s := if s.memDead then s else s.access u .auto
    if s.memDead || r == .uncorrectable || s.unitBad u then (s.uncorrectable u (memReq who)).ueResult who
    else
      let s := match r, s.unitDev u with
        | .corrected, some d => s.countCe d 1
        | _, _ => s
      { s with readData := s.readLE a4 4 }

/-- WAVEFORM_READ (R342). -/
def execWaveformRead (who : Who) (addr : BitVec 34) (r : ReadCheck) (s : State) : Host.Outcome State Fault Refusal :=
  whenOpen who s (waveformRead who addr.toNat r)

/-! ### Refresh (R347 to R353): debts in sixteenths of an interval -/

/-- One refresh: an interval with all-bank refresh, a sixteenth of one with per-bank refresh (R347, R349). -/
def State.refreshUnit (s : State) : Nat := if bitAt s.memc.refCfg 12 then 1 else 16

/-- The debt limit of a channel (R348, R352). -/
def State.debtLimit (s : State) (x : MemChan) : Nat := if x.catchUp then 0 else if s.memc.guard then 64 else 128

/-- A channel's debt is set; PEAK follows, in whole intervals rounded up; catch-up ends at 0 (R352). -/
def State.setDebt (s : State) (c debt : Nat) (catchUp : Bool) : State :=
  let s := s.onMch c fun x => { x with debt := debt, catchUp := catchUp && debt != 0 }
  s.setFld R.MEM_REFDEBT Fd.MEM_REFDEBT_PEAK (max (s.fld R.MEM_REFDEBT Fd.MEM_REFDEBT_PEAK) ((debt + 15) / 16))

/-- Refreshes issued without yielding are counted (R348, R352). -/
def State.forced (s : State) (n : Nat) : State := s.satAdd R.MEM_REFDEBT Fd.MEM_REFDEBT_FORCED n

/-- The controller refreshes while the memory is trained and out of self-refresh. -/
def State.refreshes (s : State) : Bool := s.memc.powered && !s.memc.selfRef

/-- A refresh closes the rows of every bank of the channel, or of one bank, which one being left open (R338, R349). -/
def State.rowsRefreshed (s : State) (c : Nat) : State :=
  if bitAt s.memc.refCfg 12 then
    let (w, s) := s.free
    s.rowsClose c (some (w.toNat % 16))
  else s.rowsClose c none

/-- REFRESH_DUE (R348, R338): the rows it concerns close; forced at the limit, postponed while a class-2 request can issue, else issued; a due refresh that
finds no class-2 request repays one refresh of the debt. -/
def refreshDue (c : Nat) (panicIssues : Bool) (s : State) : State :=
  if !s.refreshes then s
  else
    let s := s.rowsRefreshed c
    let x := s.mch c
    let u := s.refreshUnit
    if s.debtLimit x < x.debt + u then
      let s := s.forced 1
      if panicIssues then s else s.setDebt c (x.debt - u) x.catchUp
    else if panicIssues then s.setDebt c (x.debt + u) x.catchUp
    else s.setDebt c (x.debt - u) x.catchUp

/-- REFRESH_DUE (R348). -/
def execRefreshDue (ch : Fin 18) (panicIssues : Bool) (s : State) : Host.Outcome State Fault Refusal :=
  whenPowered s (refreshDue ch panicIssues)

/-- TEMP_CFG.THRESH in 0.5 °C: values outside 60 to 95 °C are treated as the nearer limit. -/
def State.memThresh (s : State) : Int := Int.ofNat (2 * max 60 (min 95 (s.fld R.MEM_TEMP_CFG Fd.MEM_TEMP_CFG_THRESH)))

/-- The refreshes in a debt, rounded up. -/
def refreshesIn (debt unit : Nat) : Nat := (debt + unit - 1) / unit

/-- A channel at the sample that enters HOT (R352). -/
def State.hotEnter (s : State) (c : Nat) : State :=
  let d2 := 2 * (s.mch c).debt
  let s := s.setDebt c d2 true
  if 128 < d2 then (s.forced (refreshesIn (d2 - 128) s.refreshUnit)).setDebt c 128 true else s

/-- A channel at the sample that enters GUARD (R352). -/
def State.guardEnter (s : State) (c : Nat) : State :=
  let d := (s.mch c).debt
  if 64 < d then (s.forced (refreshesIn (d - 64) s.refreshUnit)).setDebt c 64 (s.mch c).catchUp else s

/-- A channel at the sample that leaves HOT (R352): its debt is halved, rounded up to a refresh. -/
def State.hotLeave (s : State) (c : Nat) : State :=
  s.setDebt c (alignUp (((s.mch c).debt + 1) / 2) s.refreshUnit) (s.mch c).catchUp

/-- The read-outs that count: of active devices and the spare; a failed one is taken as hot (R351). -/
def State.memReadings (s : State) (temps : List (Option Int)) : List (Nat × Int) :=
  (pick 9 fun d => (s.dev d).st == .active || (s.dev d).st == .spare).map fun d =>
    (d, (temps.getD d none).getD s.memThresh)

/-- MEM_TEMP_SAMPLE (R351, R352). -/
def memTempSample (temps : List (Option Int)) (s : State) : State :=
  if !s.memc.powered then s
  else
    let rs := s.memReadings temps
    let m := highest (-256) (rs.map (·.2))
    let dev := ((rs.find? fun r => r.2 == m).map (·.1)).getD 0
    let th := s.memThresh
    let x := s.memc
    let hot := if x.hot then decide (th - 4 ≤ m) else decide (th ≤ m)
    let guard := if x.guard then decide (th - 12 ≤ m) else decide (th - 8 ≤ m)
    let bad := rs.any fun r => (temps.getD r.1 none).isNone
    let s := if bad then s.memFlag Fd.MEM_FLAGS_TEMP_BAD else s
    let s : State := { s with memc := { s.memc with
      temp := max (-256) (min 255 m), tempDev := dev, hot := hot, guard := guard } }
    let each := fun (f : State → Nat → State) (s : State) => foldAll f s (List.range 18)
    if hot && !x.hot then each State.hotEnter s
    else
      let s := if x.hot && !hot then each State.hotLeave s else s
      if guard && !x.guard then each State.guardEnter s else s

/-- MEM_TEMP_SAMPLE (R352). -/
def execMemTempSample (temps : List (Option Int)) (s : State) : Host.Outcome State Fault Refusal :=
  whenPowered s (memTempSample temps)

/-! ### Row disturbance (R345, R346) -/

/-- A requester is limited on a channel for the rest of the window (R346). -/
def State.limit (s : State) (c q : Nat) : State :=
  { s with memc := { s.memc with limited := NMap.set (fun _ => false) s.memc.limited (16 * c + q) true } }

/-- The neighbours of a row that exist (R346). -/
def neighbours (row : Nat) : Nat :=
  ((List.range 5).filter fun i => i != 2 && decide (2 ≤ row + i) && decide (row + i < 32770)).length

/-- ROW_THRESHOLD (R346): the neighbours are refreshed; the offender is counted and limited, a real-time port only once the
channel has used TRR_MAX neighbour refreshes in the window. -/
def rowThreshold (c row q : Nat) (s : State) : State :=
  if !s.refreshes then s
  else
    let s := ((s.satAdd (R.MEM_THROTTLE q) Fd.MEM_THROTTLE_COUNT 1).setFld (R.MEM_THROTTLE q) Fd.MEM_THROTTLE_ROW
      row).memFlag Fd.MEM_FLAGS_THROTTLE
    let s := s.onMch c fun x => { x with trr := x.trr + neighbours row }
    if 8 ≤ q then s.limit c q
    else if s.fld R.MEM_RH_CFG Fd.MEM_RH_CFG_TRR_MAX ≤ (s.mch c).trr then
      (s.limit c q).memFlag Fd.MEM_FLAGS_RT_THROTTLE
    else s

/-- ROW_THRESHOLD (R346). -/
def execRowThreshold (ch : Fin 18) (bank : Fin 16) (row : BitVec 15) (q : Fin 11) (s : State) :
    Host.Outcome State Fault Refusal :=
  let _ := bank
  whenPowered s (rowThreshold ch row.toNat q)

/-- RH_WINDOW (R345, R346): counts restart, and every limit ends. -/
def rhWindow (s : State) : State :=
  let s := foldAll (fun s c => s.onMch c fun x => { x with trr := 0 }) s (List.range 18)
  { s with memc := { s.memc with limited := [] } }

/-- RH_WINDOW (R345). -/
def execRhWindow (s : State) : Host.Outcome State Fault Refusal := whenPowered s rhWindow

/-! ### Link errors and promotion -/

/-- RETRAIN_DUE of a device (R343, R344). -/
def State.retrainAsk (s : State) (d : Nat) : State := s.onDev d fun x => { x with retrainDue := true }

/-- EDC_ERROR (R343): `failed` retries failed; with 3 the sequence is exhausted. An abandoned write counts as one UE; its
unit is poisoned (R342), the requester of UE_LOG being left open. -/
def edcError (d : Nat) (write : Bool) (failed unit : Nat) (s : State) : State :=
  if !s.refreshes || (s.dev d).st != .active then s
  else
    let s := s.satAdd (R.MEM_DEV_STATE d) Fd.MEM_DEV_STATE_EDC_RETRY (min 3 (failed + 1))
    if failed < 3 then s
    else
      let s := s.retrainAsk d
      if write then
        let (w, s) := s.free
        ((s.poisonUnit unit).countUe d).ueFlag unit (w.toNat % 16)
      else s

/-- EDC_ERROR (R343). -/
def execEdcError (dev : Fin 9) (write : Bool) (retries : Fin 4) (unit : BitVec 28) (s : State) :
    Host.Outcome State Fault Refusal := whenPowered s (edcError dev write retries unit.toNat)

/-- CA_PARITY_ALERT (R344): a replay, or, for writes that cannot be confirmed, poisoned units, CA_LOST and RETRAIN_DUE. -/
def caParityAlert (c : Nat) (units : List (BitVec 28)) (s : State) : State :=
  if !s.refreshes || units.isEmpty then s
  else
    let s := foldAll (fun s u => s.poisonUnit u.toNat) s units
    (s.memFlag Fd.MEM_FLAGS_CA_LOST).retrainAsk (c / 2)

/-- CA_PARITY_ALERT (R344). -/
def execCaParityAlert (ch : Fin 18) (unconfirmed : List (BitVec 28)) (s : State) : Host.Outcome State Fault Refusal :=
  whenPowered s (caParityAlert ch unconfirmed)

/-- The longest wait of a request of class 3 in ticks. -/
def State.waited3 (s : State) : Nat :=
  (s.memReqs.filter fun r => s.portClass r.port == 3).foldl (fun n r => max n (s.clk.now - r.at_)) 0

/-- REQUEST_PROMOTION (R329): the oldest request of class 3 + `k` has waited 48,000 ticks or more; for class 3 the requests
of the real-time ports tell it. More than 20 µs of class 5 or 6 is a tier-7 breach (R331). -/
def requestPromotion (k waited : Nat) (s : State) : State :=
  let waited := if k = 0 then s.waited3 else waited
  if 48000 ≤ waited then
    let s := s.satAdd (R.MEM_CLASS_AGE k) Fd.MEM_CLASS_AGE_PROMO 1
    let s := s.setFld (R.MEM_CLASS_AGE k) Fd.MEM_CLASS_AGE_MAXWAIT
      (max (s.fld (R.MEM_CLASS_AGE k) Fd.MEM_CLASS_AGE_MAXWAIT) (min 0xFFFF (waited / 750)))
    if 2 ≤ k && decide (60000 < waited) then s.breach Fd.TOP_BREACH_TIER7 else s
  else s

/-- REQUEST_PROMOTION (R329). -/
def execRequestPromotion (k : Fin 4) (waited : Nat) (s : State) : Host.Outcome State Fault Refusal :=
  whenPowered s (requestPromotion k waited)

/-- ERROR_COUNT_HOUR (R357): a new hour begins; the oldest of the 24 expires. -/
def errorCountHour (s : State) : State :=
  foldAll (fun s d => s.onDev d fun x =>
    { x with ce := if x.ce.all (· == 0) then [] else 0 :: x.ce.take 23
             ue := if x.ue.all (· == 0) then [] else 0 :: x.ue.take 23 }) s (List.range 9)

/-- ERROR_COUNT_HOUR (R357). -/
def execErrorCountHour (s : State) : Host.Outcome State Fault Refusal := whenPowered s errorCountHour

/-! ### Self-refresh in IDLE (R42) -/

/-- SELF_REFRESH_EXIT (R42): a request from the cores or the host finds the memory in self-refresh. -/
def selfRefreshExit (s : State) : State :=
  if s.mode == .idle && s.memc.selfRef then
    { s.memWake with memc := { s.memWake.memc with lastReq := s.clk.now } }
  else s

/-- SELF_REFRESH_EXIT (R42). -/
def execSelfRefreshExit (s : State) : Host.Outcome State Fault Refusal := whenPowered s selfRefreshExit

/-- SELF_REFRESH_ENTRY (R42): 1 ms without requests. -/
def selfRefreshEntry (s : State) : State :=
  if s.mode == .idle && !s.memc.selfRef && !s.inTransit && decide (s.memc.lastReq + 3000000 ≤ s.clk.now) then s.memSleep
  else s

/-- SELF_REFRESH_ENTRY (R42). -/
def execSelfRefreshEntry (s : State) : Host.Outcome State Fault Refusal := whenPowered s selfRefreshEntry

/-! ### Maintenance (R354 to R361) -/

/-- Maintenance may begin: HOLD or IDLE, and nothing in transit (R354, R86). -/
def State.maintOk (s : State) : Bool := (s.mode == .hold || s.mode == .idle) && !s.inTransit && s.memc.powered

/-- HOLD and IDLE time since the last training (R355). -/
def State.restNow (s : State) : Nat :=
  s.memc.restTime + if s.mode.rests then s.clk.now - s.memc.restSince else 0

/-- A retraining is due (R355). -/
def State.retrainDue (s : State) : Bool :=
  let min_ := s.fld R.MEM_RETRAIN_CFG Fd.MEM_RETRAIN_CFG_MINUTES
  (min_ != 0 && decide (min_ * 180000000000 ≤ s.restNow)) ||
    ((List.range 9).any fun d => (s.dev d).retrainDue && (s.dev d).st == .active) ||
    decide (30 ≤ max (s.memc.temp - s.memc.trainTemp) (s.memc.trainTemp - s.memc.temp))

/-- Maintenance under way. -/
def State.maint (s : State) (m : Option Maint) : State := { s with memc := { s.memc with maint := m } }

/-- A retraining of all channels: 4 ms (R355). -/
def State.retrainAll (s : State) : State := s.maint (some (.retrain (s.clk.now + 12000000)))

/-- RETRAIN_START (R355). -/
def retrainStart (s : State) : State :=
  if s.maintOk && s.retrainDue && !s.memDead then s.memWake.retrainAll else s

/-- RETRAIN_START (R355). -/
def execRetrainStart (s : State) : Host.Outcome State Fault Refusal := whenPowered s retrainStart

/-- The Ledger record of a memory step (R356, R433): device, slot, state, pin rate. -/
def State.memRecord (s : State) (d : Nat) : State :=
  s.commit .mem [d, (s.dev d).slot, (s.dev d).st.code, s.memc.rate]

/-- BUDGET_SHORT after a capability change, rank 5 of R48 (R324). -/
def State.budgetMode (s : State) : State :=
  match s.transit with
  | some t => if t.entersArmed then s.entryAbort t 5 else s
  | none =>
    match s.mode with
    | .run => { s with hold := some { s.hold.getD {} with budget := true } }
    | .armed => s.holdNow 5 none
    | _ => s

/-- The budget is re-checked after a capability change (R323, R324). -/
def State.capChanged (s : State) : State :=
  if s.patterned then
    let (s, fits) := s.budgetCheck s.benchesOn 2
    if fits then s else s.budgetMode
  else s

/-- The spare takes the slot of a device, which is RETIRED. -/
def State.takeSlot (s : State) (d sp : Nat) : State :=
  let slot := (s.dev d).slot
  (s.onDev d fun x => { x with st := .retired, retireDue := 0, retrainDue := false }).onDev sp fun x =>
    { x with st := .active, slot := slot }

/-- The contents of a slot are lost (R360): the spare holds zeros; segments, the ring and the core region follow. -/
def State.slotLost (s : State) (slot dev : Nat) : State :=
  let lost := fun u => u % 8 == slot
  let s := s.ringDrop (s.ringSize / 32)
  (((s.markLost lost).bytesLost lost).irq 8).memMark 2 dev

/-- Every segment that the Pattern's lane programs can name is RESIDENT in the Bench that names it (R361). -/
def State.allResident (s : State) : Bool :=
  (List.range 8).all fun b => (List.range 32768).all fun i =>
    let w := s.reg64 (R.LANE_PROG b i 0)
    let id := if liAlias w then bitsOf (s.reg (R.LOOM_ALIAS (liSeg w))).toNat 0 20 else liSeg w
    (liOp w != 1 && liOp w != 2) || s.residentIn b id (s.segWords id)

/-- A device is marked DEAD (R356 step 4, R361). -/
def State.deviceDead (s : State) (d : Nat) : State :=
  let s := s.onDev d fun x => { x with st := .dead, retireDue := 0, retrainDue := false }
  let s := ((s.memRecord d).memFlag Fd.MEM_FLAGS_DEAD).memMark 4 d
  let only := s.patterned && s.allResident
  let s := (({ s with memc := { s.memc with cacheOnly := only } } : State).maint none).capChanged
  if only then s.breach Fd.TOP_BREACH_TIER6 else s

/-- Training has succeeded (R355). -/
def State.trained (s : State) : State :=
  let s := foldAll (fun s d => s.onDev d fun x => { x with retrainDue := false, tries := 0 }) s (List.range 9)
  ({ s with memc := { s.memc with trainTemp := s.memc.temp, restTime := 0, restSince := s.clk.now } } : State).maint none

/-- A device has found no setting (R356): retries, the spare, a rate step, DEAD. In SANITISE the contents are wiped in any
case. -/
def State.ladder (s : State) (d : Nat) : State :=
  let wiping := s.mode == .sanitise
  let again := fun (s : State) => if wiping then s else s.retrainAll
  let s := s.memFlag Fd.MEM_FLAGS_TRAIN_FAIL
  if (s.dev d).tries < 3 then again ((s.memRecord d).onDev d fun x => { x with tries := x.tries + 1 })
  else match s.spare with
  | some sp =>
    let slot := (s.dev d).slot
    let s := (s.takeSlot d sp).memRecord d
    if wiping then s else (s.slotLost slot d).trained
  | none =>
    if 14 < s.memc.rate then
      let s := ({ s with memc := { s.memc with rate := s.memc.rate - 2 }
                         therm := { s.therm with eyeGood := false } } : State).memRecord d
      again (((s.memFlag Fd.MEM_FLAGS_RATE_STEP).memMark 5 d).capChanged)
    else s.deviceDead d

/-- RETRAIN_DONE (R356): all channels have a setting, or the device named has found none. -/
def retrainDone (failing : Option Nat) (s : State) : State :=
  match s.memc.maint with
  | some (.retrain due) =>
    if s.clk.now < due then s
    else match failing with
    | none => s.trained
    | some d => if (s.dev d).st == .active then s.ladder d else s
  | some (.migrate _ _ _) => s
  | none =>
    match failing with
    | some d => if s.mode == .sanitise && (s.dev d).st == .active then s.ladder d else s
    | none => s

/-- RETRAIN_DONE (R356). -/
def execRetrainDone (failing : Option (Fin 9)) (s : State) : Host.Outcome State Fault Refusal :=
  whenPowered s (retrainDone (failing.map (·.val)))

/-- The device whose retirement is due first (R357). -/
def State.firstDue (s : State) : Option Nat :=
  let due := pick 9 fun d => (s.dev d).st == .active && (s.dev d).retireDue != 0
  due.find? fun d => due.all fun e => decide ((s.dev d).retireDue ≤ (s.dev e).retireDue)

/-- RETIREMENT_START (R357, R358): the record is committed in 0.6 ms and the copy takes 24.4 ms at the full rate. -/
def retirementStart (s : State) : State :=
  match s.firstDue, s.spare with
  | some d, some sp =>
    if s.maintOk && !s.memDead then
      ((s.memRecord d).memWake).maint (some (.migrate d sp (s.clk.now + 1800000 + 73209670 * 22 / s.memc.rate)))
    else s
  | _, _ => s

/-- RETIREMENT_START (R357). -/
def execRetirementStart (s : State) : Host.Outcome State Fault Refusal := whenPowered s retirementStart

/-- MIGRATION_DONE (R357, R358): the map gives the spare the slot, the completion is committed, the budget re-checked. A
device still due finds no spare (R359). -/
def migrationDone (s : State) : State :=
  match s.memc.maint with
  | some (.migrate d sp due) =>
    if s.clk.now < due then s
    else
      let s := (((s.takeSlot d sp).memRecord d).memMark 3 d).maint none
      let s := if s.firstDue.isSome && s.spare.isNone then s.memFlag Fd.MEM_FLAGS_RETIRE_NO_SPARE else s
      s.capChanged
  | _ => s

/-- MIGRATION_DONE (R358). -/
def execMigrationDone (s : State) : Host.Outcome State Fault Refusal := whenPowered s migrationDone

end Sys2Proof.Machine
end

