-- ==== Sys2Proof/Machine/Links.lean ====
section
/-!
DEFINITION. The PCIe function and the Carter tree (R437 to R444), and the application cores (R449 to R453).
-/
namespace Sys2Proof.Machine

/-! ### PCIe -/

/-- PCIE_RESET (R438): the function alone is reset; DRAIN_EN of every device becomes 0. -/
def pcieReset (s : State) : State := s.clear R.TALLY_CTL Fd.TALLY_CTL_DRAIN_EN

/-- PCIE_RESET (R438). -/
def execPcieReset (s : State) : Host.Outcome State Fault Refusal := whenPowered s pcieReset

/-- PCIE_LINK_UP (R437, R439): only the lead has a link. -/
def pcieLinkUp (s : State) : State :=
  if s.mode.linked && s.host.devid = 0 then { s with host := { s.host with pcieUp := true } } else s

/-- PCIE_LINK_UP (R439). -/
def execPcieLinkUp (s : State) : Host.Outcome State Fault Refusal := whenPowered s pcieLinkUp

/-! ### Carter -/

/-- The state of Carter port `p`: 0 DOWN, 1 TRAINING, 2 UP, 3 DISABLED. -/
def State.carter (s : State) (p : Nat) : Nat := NMap.get (fun _ => 0) s.host.carter p

/-- A Carter port changes state: interrupt source 9 (R448). -/
def State.carterPut (s : State) (p st : Nat) : State :=
  if s.carter p = st then s
  else ({ s with host := { s.host with carter := NMap.set (fun _ => 0) s.host.carter p st } } : State).irq 9

/-- The lead refuses a DEVID that is already reachable, and DEVID 0 below it (R442). -/
def State.dupDevid (s : State) (dev : Nat) : Bool := dev = 0 || bitAt s.host.reach dev

/-- A refused announcement (R442): the flag, BAD_DEVID and interrupt source 9; the parent holds the link DISABLED. -/
def State.refuseDev (s : State) (f : Bits) (port dev : Nat) (parent : Bool) : State :=
  let s := (s.flagIrq R.LINK_TREE f 9).setFld R.LINK_TREE Fd.LINK_TREE_BAD_DEVID dev
  if parent then s.carterPut port 3 else s

/-- CARTER_ANNOUNCE (R442): a device below a down port announces its DEVID; `depth` is where it would stand. -/
def carterAnnounce (port dev depth : Nat) (s : State) : State :=
  let own := s.fld R.LINK_TREE Fd.LINK_TREE_DEPTH
  let parent := depth == own + 1
  if port = 0 || s.carter port != 2 || depth ≤ own then s
  else if 4 ≤ depth then
    if parent then s.refuseDev Fd.LINK_TREE_DEPTH_ERR port dev true
    else s.setFld R.LINK_TREE Fd.LINK_TREE_BAD_DEVID dev
  else if s.host.devid = 0 && s.dupDevid dev then s.refuseDev Fd.LINK_TREE_DUP_DEVID port dev parent
  else
    { s with host := { s.host with
      reach := setBit s.host.reach dev
      below := NMap.set (fun _ => (0, 0)) s.host.below dev (port, depth) } }

/-- CARTER_ANNOUNCE (R442). -/
def execCarterAnnounce (port : Fin 5) (dev : Fin 64) (depth : Fin 5) (s : State) : Host.Outcome State Fault Refusal :=
  whenPowered s (carterAnnounce port dev depth)

/-- CARTER_LINK_DOWN (R444): the devices below a down port are unreachable; below an up port the drain pauses. The link
retrains at once, a DISABLED one after its child was reset. -/
def carterLinkDown (port : Nat) (s : State) : State :=
  if s.carter port = 0 || s.carter port = 1 || !s.mode.linked then s
  else
    let s := (s.carterPut port 1).raise (R.LINK_CARTER port) Fd.LINK_CARTER_WENT_DOWN
    if port = 0 then { s with tally := { s.tally with paused := true } }
    else
      let gone := (s.host.below.filter fun e => e.2.1 == port).map (·.1)
      { s with host := { s.host with
        reach := gone.foldl clrBit s.host.reach
        below := NMap.erase (fun d => gone.contains d) s.host.below } }

/-- CARTER_LINK_DOWN (R444). -/
def execCarterLinkDown (port : Fin 5) (s : State) : Host.Outcome State Fault Refusal :=
  whenPowered s (carterLinkDown port)

/-- One message for every pending bit that is routed to the host (R448). -/
def State.resend (s : State) : State :=
  let m := s.fld R.TOP_IRQ_PEND Fd.TOP_IRQ_PEND_BITS &&& s.fld R.TOP_IRQ_ROUTE_HOST Fd.TOP_IRQ_ROUTE_HOST_BITS
  foldAll (fun s k => s.emit (.msix (32 * s.host.devid + k))) s (bitsSet 32 m)

/-- CARTER_LINK_UP (R442, R444): at the up port the device learns its depth and parent, which come from the parent and are
left free; the drain and the pending interrupts resume. The lead's port 0 is not used (R441). -/
def carterLinkUp (port : Nat) (s : State) : State :=
  if 2 ≤ s.carter port || !s.mode.linked || (port = 0 && s.host.devid = 0) then s
  else
    let s := s.carterPut port 2
    if port = 0 then
      let (w, s) := s.free
      let s := (s.setFld R.LINK_TREE Fd.LINK_TREE_DEPTH (1 + w.toNat % 3)).setFld R.LINK_TREE Fd.LINK_TREE_PARENT
        (w.toNat / 4)
      ({ s with tally := { s.tally with paused := false } } : State).resend
    else s

/-- CARTER_LINK_UP (R444). -/
def execCarterLinkUp (port : Fin 5) (s : State) : Host.Outcome State Fault Refusal := whenPowered s (carterLinkUp port)

/-- CARTER_FRAME_ERROR (R443). -/
def carterFrameError (port : Nat) (s : State) : State :=
  if s.carter port = 2 then s.satAdd (R.LINK_CARTER port) Fd.LINK_CARTER_RETRY 1 else s

/-- CARTER_FRAME_ERROR (R443). -/
def execCarterFrameError (port : Fin 5) (s : State) : Host.Outcome State Fault Refusal :=
  whenPowered s (carterFrameError port)

/-! ### Application cores -/

/-- The key under which Pattern images and core boot images must verify in a life-cycle state (R72, R457): none in BLANK
and SCRAPPED. -/
def imageKey (o : Otp) : Option Signer :=
  match lifeCycle o with
  | .owned => some .owner
  | .vendor | .returned => some .henileo
  | .blank | .scrapped => none

/-- HOLD of CORE_CTL. -/
def State.coresHeld (s : State) : Bool := s.flag R.TOP_CORE_CTL Fd.TOP_CORE_CTL_HOLD

/-- The watchdog's period in ticks, 0 while it is disabled (R453). -/
def State.wdogTicks (s : State) : Nat := 30000000 * s.fld R.TOP_CORE_CTL Fd.TOP_CORE_CTL_WDOG

/-- The watchdog starts again while core 0 runs. -/
def State.wdogArm (s : State) : State :=
  let due := if s.wdogTicks != 0 && bitAt s.host.coresRun 0 then s.clk.now + s.wdogTicks else 0
  { s with host := { s.host with wdogDue := due } }

/-- The core image that verifies (R450, R457): CORE_A (`false`), else CORE_B, under the key of the life-cycle state; none
where the customer partitions are erased (R464). -/
def State.coreImageOf (s : State) (a b : Signer) : Option Bool :=
  if !s.host.customFlash then none
  else match imageKey s.host.otp with
  | none => none
  | some k => if a = k then some false else if b = k then some true else none

/-- CORE_IMAGE_LOADED (R450, R451, R454, R457): core 0 is released at the image of CORE_A or CORE_B, and the cores own the
management port; with no image that verifies the cores stay held and Porter owns it. -/
def coreImageLoaded (a b : Signer) (s : State) : State :=
  if !s.mode.hasCores || s.coresHeld || s.host.coresRun != 0 then s
  else match s.coreImageOf a b with
  | some b =>
    let s := (s.clear R.TOP_CORE_STATUS Fd.TOP_CORE_STATUS_NO_IMAGE).setFld R.TOP_CORE_STATUS
      Fd.TOP_CORE_STATUS_IMAGE_B (bit b)
    ({ s with host := { s.host with coreImage := true, coresRun := 1, mgmtPorter := false } } : State).wdogArm
  | none =>
    let s := s.raise R.TOP_CORE_STATUS Fd.TOP_CORE_STATUS_NO_IMAGE
    { s with host := { s.host with mgmtPorter := true } }

/-- CORE_IMAGE_LOADED (R450). -/
def execCoreImageLoaded (image : CoreImages) (s : State) : Host.Outcome State Fault Refusal :=
  whenPowered s (coreImageLoaded image.a image.b)

/-- CORE_HOLD (R451): all cores are in reset at once. -/
def coreHold (s : State) : State := (s.raise R.TOP_CORE_CTL Fd.TOP_CORE_CTL_HOLD).coresStop

/-- CORE_HOLD (R451). -/
def execCoreHold (s : State) : Host.Outcome State Fault Refusal := whenPowered s coreHold

/-- CORE_RELEASE (R451): the cores boot under R450, which CORE_IMAGE_LOADED completes. -/
def coreRelease (s : State) : State := s.clear R.TOP_CORE_CTL Fd.TOP_CORE_CTL_HOLD

/-- CORE_RELEASE (R451). -/
def execCoreRelease (s : State) : Host.Outcome State Fault Refusal := whenPowered s coreRelease

/-- WATCHDOG_KICK (R453). -/
def watchdogKick (s : State) : State := s.wdogArm

/-- WATCHDOG_KICK (R453). -/
def execWatchdogKick (s : State) : Host.Outcome State Fault Refusal := whenPowered s watchdogKick

/-- WATCHDOG_FIRED (R453, R454): the cores are held, CORE_ERR raises and Porter takes the management port. -/
def watchdogFired (s : State) : State :=
  if s.host.wdogDue != 0 && decide (s.host.wdogDue ≤ s.clk.now) then
    let s := (s.raise R.TOP_CORE_CTL Fd.TOP_CORE_CTL_HOLD).coresStop
    let s := (s.raise R.TOP_CORE_STATUS Fd.TOP_CORE_STATUS_WDOG_FIRED).irq 8
    { s with host := { s.host with mgmtPorter := true } }
  else s

/-- WATCHDOG_FIRED (R453). -/
def execWatchdogFired (s : State) : Host.Outcome State Fault Refusal := whenPowered s watchdogFired

end Sys2Proof.Machine
end

