-- ==== Sys2Proof/Machine/Porter.lean ====
section
/-!
DEFINITION. Porter's commands (R454, R458, R460) and the life-cycle (R461 to R464).
-/
namespace Sys2Proof.Machine

/-! ### Life-cycle (R462) -/

/-- The transition from `a` to `b` exists (R462), and the signer may ask for it. -/
def lifeAllowed (a b : LifeCycle) (k : Signer) : Bool :=
  match a, b with
  | .vendor, .owned | .returned, .owned => k == .henileo
  | .owned, .returned => k == .owner || k == .henileo
  | .owned, .scrapped => k == .owner
  | .vendor, .scrapped | .returned, .scrapped => k == .henileo
  | _, _ => false

/-- RESULT of a token (R461, R462): 0 OK, 2 TOKEN, 3 EXHAUSTED. A wrong MAGIC is a refusal of R461: DEDUCED, log entry 47. -/
def tokenResult (o : Otp) (t : Token) : Nat :=
  let st := lifeCycle o
  let target := lifeOf t.target
  if !t.magicOk || t.serial.toNat != o.serial || t.ownCnt.val != o.ownCnt || !lifeAllowed st target t.signer then 2
  else if target == .owned && o.ownCnt == 15 then 3
  else 0

/-! ### Commands -/

/-- Porter takes commands once its firmware runs, or in recovery (R55, R460). -/
def State.porterUp (s : State) : Bool := s.host.fwVer != 0 || s.host.mgmtPorter

/-- A command starts, or is refused as BUSY (R460). -/
def State.porterStart (s : State) (j : PorterJob) : State :=
  if !s.porterUp then s
  else if s.host.job.isSome then s.setFld R.PORTER_STATUS Fd.PORTER_STATUS_RESULT 1
  else { s with host := { s.host with job := some j } }

/-- IDENT (R460). -/
def ident (s : State) : State := s.porterStart .ident
/-- IDENT (R460). -/
def execIdent (s : State) : Host.Outcome State Fault Refusal := whenPowered s ident

/-- LEDGER_KEY (R460). -/
def ledgerKey (s : State) : State := s.porterStart .ledgerKey
/-- LEDGER_KEY (R460). -/
def execLedgerKey (s : State) : Host.Outcome State Fault Refusal := whenPowered s ledgerKey

/-- LEDGER_READ (R460). -/
def ledgerRead (seq : Nat) (s : State) : State := s.porterStart (.ledgerRead seq)
/-- LEDGER_READ (R460). -/
def execLedgerRead (seq : Word) (s : State) : Host.Outcome State Fault Refusal := whenPowered s (ledgerRead seq.toNat)

/-- PROV_KEY (R460). -/
def provKey (s : State) : State := s.porterStart .provKey
/-- PROV_KEY (R460). -/
def execProvKey (s : State) : Host.Outcome State Fault Refusal := whenPowered s provKey

/-- FW_WRITE (R458, R460). -/
def fwWrite (p : FwPart) (s : State) : State :=
  s.porterStart (.fwWrite p.bytes p.last p.verifies p.version)
/-- FW_WRITE (R458). -/
def execFwWrite (p : FwPart) (s : State) : Host.Outcome State Fault Refusal := whenPowered s (fwWrite p)

/-- LC_TOKEN (R461 to R463): the token is checked; for one that is accepted, the INTENT record is committed first. -/
def lcToken (t : Token) (s : State) : State :=
  let r := tokenResult s.host.otp t
  if r = 0 && s.porterUp && s.host.job.isNone then
    (s.commit (.lifecycle true t.target) []).porterStart (.lcToken 0 (lifeOf t.target) t.ownerHash.toNat t.patternKey)
  else s.porterStart (.lcToken r (lifeOf t.target) 0 false)
/-- LC_TOKEN (R463). -/
def execLcToken (t : Token) (s : State) : Host.Outcome State Fault Refusal := whenPowered s (lcToken t)

/-! ### Completion -/

/-- A command ends (R460): BUSY clears, DONE and RESULT are set, source 7 raises (R448). -/
def State.porterEnd (s : State) (result olen : Nat) : State :=
  let s : State := { s with host := { s.host with job := none } }
  ((s.setFld R.PORTER_STATUS Fd.PORTER_STATUS_RESULT result).setFld R.PORTER_STATUS Fd.PORTER_STATUS_OLEN olen).flagIrq
    R.PORTER_STATUS Fd.PORTER_STATUS_DONE 7

/-- Mailbox words whose content the specification does not give. -/
def State.mboxFree (s : State) (n : Nat) : State :=
  let c := s.freeCtr
  foldAll (fun s i => s.setReg (R.PORTER_MBOX i) (Config.porterWord (c + i))) { s with freeCtr := c + n } (List.range n)

/-- The type code of a Ledger record (R433). -/
def LedgerKind.code : LedgerKind → Nat
  | .baseline => 1 | .survey => 2 | .annual => 3 | .mem => 0x10 | .latch => 0x11 | .lifecycle _ _ => 0x12

/-- A record in the mailbox (R433): SEQ, TYPE and FORMAT, the power-on count and the powered hours as the layout gives
them; payload and signature are left open. -/
def State.recordOut (s : State) (r : LedgerRec) : State :=
  foldAll (fun s w => s.setReg (R.PORTER_MBOX w.1) (BitVec.ofNat 32 w.2)) (s.mboxFree 64)
    [(0, r.seq), (1, r.kind.code + 256), (2, r.powerOn), (3, r.made / 10800000000000)]

/-- A part of a firmware image has been written (R458): with the last part the copy is verified, and only a good one is
marked primary (R456). The largest image is 1.75 MiB. -/
def State.fwPart (s : State) (bytes : Nat) (last verifies : Bool) (version : Nat) : State :=
  let n := s.host.fwBytes + bytes
  if !last then ({ s with host := { s.host with fwBytes := n } } : State).porterEnd 0 0
  else
    let b := !s.host.fwBootedB
    let good := verifies && version != 0 && decide (n ≤ 1835008)
    let v := if good then version else 0
    let ok := good && decide (s.host.otp.fwFloor ≤ version)
    let h := { s.host with fwBytes := 0, fwA := if b then s.host.fwA else v, fwB := if b then v else s.host.fwB }
    ({ s with host := { h with fwPrimaryB := if ok then b else h.fwPrimaryB } } : State).porterEnd (if ok then 0 else 5) 0

/-- An accepted transition (R463, R464): OTP is burnt, the customer partitions and the key store are erased, DONE is
committed and Porter requests a reset. A key that the token carries is then stored (R73). -/
def State.lifeChange (s : State) (target : LifeCycle) (hash : Nat) (key : Bool) : State :=
  let s : State := { s with host := { s.host with
    otp := s.host.otp.burn target hash, customFlash := false, patternKey := target == .owned && key } }
  ((s.commit (.lifecycle false target.code) [0]).porterEnd 0 0).warm Fd.TOP_RESET_CAUSE_PORTER

/-- PORTER_COMMAND_DONE (R460). -/
def porterCommandDone (s : State) : State :=
  match s.host.job with
  | none => s
  | some .ident =>
    let (w, s) := s.free
    (s.mboxFree 256).porterEnd 0 (w.toNat % 1025)
  | some .ledgerKey | some .provKey => (s.mboxFree 25).porterEnd 0 97
  | some (.ledgerRead seq) =>
    match s.host.ledger.find? fun r => r.seq == seq with
    | some r => (s.recordOut r).porterEnd 0 256
    | none =>
      let (w, s) := s.free
      s.porterEnd (w.toNat % 16) 0
  | some (.fwWrite n last ok v) => s.fwPart n last ok v
  | some (.lcToken 0 target hash key) => s.lifeChange target hash key
  | some (.lcToken r _ _ _) => s.porterEnd r 0

/-- PORTER_COMMAND_DONE (R460). -/
def execPorterCommandDone (s : State) : Host.Outcome State Fault Refusal := whenPowered s porterCommandDone

/-- MGMT_PACKET (R454): while it owns the port, Porter serves the commands of R460 and nothing else. Commands with an input
are the commands of their own rows. -/
def mgmtPacket (code : Nat) (s : State) : State :=
  if !s.host.mgmtPorter || code = 0 || 6 < code then s
  else
    let s := s.emit (.mgmt code)
    match code with
    | 1 => s.porterStart .ident
    | 3 => s.porterStart .ledgerKey
    | 6 => s.porterStart .provKey
    | _ => s

/-- MGMT_PACKET (R454). -/
def execMgmtPacket (code : BitVec 8) (s : State) : Host.Outcome State Fault Refusal :=
  whenPowered s (mgmtPacket code.toNat)

end Sys2Proof.Machine
end

