-- ==== Sys2Proof/Machine/Electrical.lean ====
section
/-!
DEFINITION. Rail monitors and regulator alerts (R470, R471).
-/
namespace Sys2Proof.Machine

/-- RAIL_TRIP (R470): TRIP is set; rails 0 to 7 act as PWRGD low, 8 and 9 park the bias outputs, 10 stops the sensors and
the loops. In LATCHED a trip of rails 0 to 7 is recorded only. -/
def railTrip (n : Nat) (s : State) : State :=
  if bitAt s.pins.railsOut n then s
  else
    let s : State := { s with pins := { s.pins with railsOut := setBit s.pins.railsOut n } }
    let s := s.orFld R.TOP_SUPPLY Fd.TOP_SUPPLY_TRIP (2 ^ n)
    if n < 8 then
      if s.isLatched then s.raise R.TOP_RESET_CAUSE Fd.TOP_RESET_CAUSE_SUPPLY
      else if s.pins.pwrgd then s.supplyOff else s
    else if n < 10 then (s.biasAllPark.pulse 351).irq 6
    else
      let s := (s.scanHalt.clear R.SENSE_CTL Fd.SENSE_CTL_RUN)
      let s := foldAll (fun s k => s.onLoop k fun x => { x with undriven := true }) s [0, 1]
      (s.pulse 350).irq 6

/-- RAIL_TRIP (R470). -/
def execRailTrip (n : Fin 11) (s : State) : Host.Outcome State Fault Refusal := whenPowered s (railTrip n)

/-- RAIL_RECOVER (R470): every rail is back in its window for 1 ms; after a trip of rails 0 to 7 a power-on reset with
SUPPLY follows, once PWRGD is high. -/
def railRecover (straps : Nat) (s : State) : State :=
  let core := s.pins.railsOut % 256 != 0
  let s : State := { s with pins := { s.pins with railsOut := 0 } }
  if core && s.pins.pwrgd && !s.isLatched then s.supplyOn straps else s

/-- RAIL_RECOVER (R470). -/
def execRailRecover (straps : Fin 64) (s : State) : Host.Outcome State Fault Refusal :=
  whenPowered s (railRecover straps)

/-- The offset writes of an entry to ARMED are under way (R50, R471). -/
def State.writesOffsets (s : State) : Bool :=
  match s.transit with
  | some t => t.kind == .offsets
  | none => false

/-- PMB_ALERT (R471): STATUS_WORD is read from every configured address; a fault bit sets TOP.SUPPLY.PMB_ALERT. An alert
during the offset writes of an entry to ARMED is served after them. -/
def pmbAlert (faulty : Bool) (s : State) : State :=
  if s.writesOffsets then
    { s with pins := { s.pins with alertHeld := some (faulty || s.pins.alertHeld == some true) } }
  else s.alertServe faulty

/-- PMB_ALERT (R471). -/
def execPmbAlert (faulty : Bool) (s : State) : Host.Outcome State Fault Refusal := whenPowered s (pmbAlert faulty)

end Sys2Proof.Machine
end

