-- ==== Sys2Proof/Machine/Image.lean ====
section
/-!
DEFINITION. Pattern images in waveform memory (03): header and section table (R66, R67), write runs (R489), the ranges of
each section type (R490), and what the runs of an image leave in registers, windows and memory.
-/
namespace Sys2Proof.Machine

/-! ### Header and section table -/

/-- A section table entry (R67), with its index. -/
structure Sec where
  idx : Nat
  typ : Nat
  bench : Nat
  sflags : Nat
  ofs : Nat
  len : Nat
  rsv : Nat
  deriving DecidableEq, Repr

/-- ENC of a section (R67). -/
def Sec.enc (x : Sec) : Bool := bitAt x.sflags 0

/-- The header (R66) and the section table (R67) of an image; `rsv` is the sum of its reserved bytes. -/
structure Image where
  src : Nat
  magic : Nat
  format : Nat
  flags : Nat
  len : Nat
  count : Nat
  target : Nat
  id : Nat
  base : Nat
  serial : Nat
  rsv : Nat
  secs : List Sec
  deriving DecidableEq, Repr

/-- OVERLAY. -/
def Image.overlay (x : Image) : Bool := bitAt x.flags 0
/-- ENCRYPTED. -/
def Image.encrypted (x : Image) : Bool := bitAt x.flags 1
/-- SERIAL_BOUND. -/
def Image.bound (x : Image) : Bool := bitAt x.flags 2
/-- SEALED. -/
def Image.isSealed (x : Image) : Bool := bitAt x.flags 3

/-- An entry of the section table (R67). -/
def State.secAt (s : State) (src i : Nat) : Sec :=
  let a := src + 0x40 + 16 * i
  { idx := i, typ := s.readLE a 1, bench := s.readLE (a + 1) 1, sflags := s.readLE (a + 2) 2, ofs := s.readLE (a + 4) 4
    len := s.readLE (a + 8) 4, rsv := s.readLE (a + 12) 4 }

/-- The image staged at an address; of a table with more than 256 entries the first 256 are read (R66). -/
def State.image (s : State) (src len : Nat) : Image :=
  let n := s.readLE (src + 0x0C) 2
  { src := src, magic := s.readLE src 4, format := s.readLE (src + 4) 2, flags := s.readLE (src + 6) 2
    len := s.readLE (src + 8) 4, count := n, target := s.readLE (src + 0x0E) 1, id := s.readLE (src + 0x10) 8
    base := s.readLE (src + 0x18) 8, serial := s.readLE (src + 0x20) 8
    rsv := s.readLE (src + 0x0F) 1 + s.readLE (src + 0x2C) 20 + s.readLE (src + len - 32) 32
    secs := (List.range (min n 256)).map (s.secAt src) }

/-- Two payloads overlap. -/
def secsOverlap (x y : Sec) : Bool := decide (x.ofs < y.ofs + y.len) && decide (y.ofs < x.ofs + x.len)

/-- Some two members of a list are related. -/
def anyPair {α : Type} (p : α → α → Bool) : List α → Bool
  | [] => false
  | x :: xs => xs.any (p x) || anyPair p xs

/-- Step 1 of R75: ERR of bounds, magic, format and header consistency (R66 to R68, R87), 0 where they hold. -/
def Image.headerErr (x : Image) (overlay : Bool) (len : Nat) : Nat :=
  if x.magic != 0x54505849 || x.format != 1 then 4
  else
    let top := 0x40 + 16 * x.count
    let bad :=
      x.len != len || decide (16 ≤ x.flags) || x.rsv != 0 || x.overlay != overlay || x.count == 0 ||
        decide (256 < x.count) || x.id == 0 || (!x.overlay && x.base != 0) || (!x.bound && x.serial != 0) ||
        (x.isSealed && !x.encrypted) ||
        x.secs.any (fun y =>
          y.rsv != 0 || decide (2 ≤ y.sflags) || y.ofs % 64 != 0 || decide (y.ofs < top) ||
            decide (x.len < y.ofs + y.len + 128)) ||
        anyPair secsOverlap x.secs
    if bad then 5 else 0

/-- The plaintext of a section (R68): its address and length. A section too short for its prefix has none. -/
def Image.payload (x : Image) (y : Sec) : Option (Nat × Nat) :=
  if y.enc then (if y.len < 32 then none else some (x.src + y.ofs + 32, y.len - 32)) else some (x.src + y.ofs, y.len)

/-! ### Section types (R70) -/

/-- A type of scope B. -/
def scopeB (t : Nat) : Bool := decide (0x10 ≤ t) && decide (t ≤ 0x17)

/-- A type of scope D. -/
def scopeD (t : Nat) : Bool := (decide (0x20 ≤ t) && decide (t ≤ 0x28)) || t == 0x2F

/-- The types of scope B. -/
def typesB : List Nat := [0x10, 0x11, 0x12, 0x13, 0x14, 0x15, 0x16, 0x17]

/-- The types of scope D that every full image carries. -/
def typesD : List Nat := [0x21, 0x22, 0x23, 0x24, 0x25, 0x27, 0x28, 0x2F]

/-- The section of a type and Bench (0xFF for scope D). -/
def Image.find (x : Image) (t b : Nat) : Option Sec := x.secs.find? fun y => y.typ == t && y.bench == b

/-- The image carries a section. -/
def Image.has (x : Image) (t b : Nat) : Bool := (x.find t b).isSome

/-- The table index of a section, 0 where the image has none. -/
def Image.secIdx (x : Image) (t b : Nat) : Nat := ((x.find t b).map (·.idx)).getD 0

/-- The Benches that sections of scope B name. -/
def Image.touched (x : Image) : List Nat := pick 8 fun b => x.secs.any fun y => scopeB y.typ && y.bench == b

/-- The first section that is no section (R70, R87 SECTION): unknown type, invalid BENCH, a duplicate, or ENC without
ENCRYPTED. -/
def Image.badSection (x : Image) : Option Nat :=
  (x.secs.find? fun y =>
    !(scopeB y.typ && decide (y.bench < 8)) && !(scopeD y.typ && y.bench == 0xFF) ||
      (y.enc && !x.encrypted) ||
      x.secs.any fun z => decide (z.idx < y.idx) && z.typ == y.typ && z.bench == y.bench).map (·.idx)

/-! ### Runs (R489) -/

/-- A write run: TARGET, COUNT and the address of its data. -/
structure Run where
  target : Nat
  count : Nat
  data : Nat
  deriving DecidableEq, Repr

/-- TARGET of the residency list (R489). -/
def resTarget : Nat := 0xFFFFFFFFFFFFFFFF

/-- The run writes the waveform-memory range. -/
def Run.inMem (r : Run) : Bool := decide (r.target < memSize)

/-- The run writes the OLT window. -/
def Run.inOlt (r : Run) : Bool := decide (0x410000000 ≤ r.target) && decide (r.target < 0x410400000)

/-- The alignment of TARGET and COUNT (R489). -/
def Run.unit (r : Run) : Nat := if r.inMem then 64 else if r.inOlt then 2 else 4

/-- TARGET and COUNT are aligned. -/
def Run.aligned (r : Run) : Bool :=
  if r.target == resTarget then r.count % 4 == 0 else r.target % r.unit == 0 && r.count % r.unit == 0

/-- The runs that fill `n` bytes from `a` (R489); none where one is malformed. -/
def State.runsAt (s : State) : Nat → Nat → Nat → Option (List Run)
  | 0, _, n => if n = 0 then some [] else none
  | fuel + 1, a, n =>
    if n = 0 then some []
    else
      let r : Run := { target := s.readLE a 8, count := s.readLE (a + 8) 4, data := a + 16 }
      let size := 16 + alignUp r.count 16
      if n < 16 || decide (n < size) || decide (r.count < 4) || s.readLE (a + 12) 4 != 0 || !r.aligned ||
          s.readLE (r.data + r.count) (alignUp r.count 16 - r.count) != 0 then none
      else (s.runsAt fuel (a + size) (n - size)).map fun rs => r :: rs

/-- The runs of a section. -/
def State.runsOf (s : State) (x : Image) (y : Sec) : Option (List Run) :=
  match x.payload y with
  | none => none
  | some (a, n) => s.runsAt (n / 16 + 1) a n

/-- The section holds runs: every type but CARVE and BUDGET (R489). -/
def Sec.hasRuns (y : Sec) : Bool := y.typ != 0x24 && y.typ != 0x2F

/-- Every run of an image with its section, in table order. -/
def State.allRuns (s : State) (x : Image) : List (Sec × Run) :=
  (x.secs.filter (·.hasRuns)).flatMap fun y => ((s.runsOf x y).getD []).map fun r => (y, r)

/-- Some run of a section type writes the offset. -/
def State.wrote (s : State) (x : Image) (t off : Nat) : Bool :=
  (s.allRuns x).any fun e =>
    e.1.typ == t && decide (e.2.target ≤ off) && decide (off < e.2.target + e.2.count)

/-! ### Ranges (R490) -/

/-- The registers that a section type may write, by the offset of their first instance. -/
def rangeRegs (t : Nat) : List Nat :=
  match t with
  | 0x10 => [R.LOOM_LANE_PART 0 0, R.LOOM_LANE_BIND 0 0, R.LOOM_CACHE_MAP 0, R.READ_CH_BIND 0 0]
  | 0x11 => [R.LOOM_LANE_V 0 0 0]
  | 0x12 => [R.READ_ACQ_CFG 0 0, R.READ_CH_WIN 0 0, R.READ_CH_KCFG 0 0, R.READ_CH_DPH 0 0, R.READ_CH_TRACE 0 0]
  | 0x13 => [R.ASSAY_CFG 0 0, R.ASSAY_DEFAULT 0 0, R.ASSAY_TO 0 0 0]
  | 0x14 => [R.FM_START 0, R.FM_START_VAL_LO 0, R.FM_START_VAL_HI 0, R.FM_ENTRY 0, R.FM_STORE 0, R.FM_TO 0 0,
      R.FM_U 0 0, R.FM_C 0 0, R.FM_CRLD 0 0, R.FM_EVIN 0, R.FM_TVEC 0 0, R.FM_MATCH 0 0]
  | 0x15 => [R.LOOM_LANE_SLOTS 0 0, R.LOOM_SLOT_POOL 0]
  | 0x16 => [R.OUT_CONV_CFG 0 0, R.OUT_CONV_FSR 0 0, R.OUT_CONV_GAIN 0 0, R.OUT_TONE_FW_LO 0 0, R.OUT_TONE_FW_HI 0 0,
      R.OUT_TONE_CFG 0 0, R.OUT_TONE_FRAME_INIT_P 0 0 0, R.OUT_TONE_FRAME_INIT_F 0 0 0, R.OUT_XF_SRC 0 0,
      R.OUT_XF_SLOTS 0 0, R.OUT_XF_COEF 0 0 0, R.OUT_FLX_SEC_AMP 0 0 0, R.OUT_FLX_SEC_TAU 0 0 0, R.OUT_FLX_FIR 0 0 0]
  | 0x17 => [R.DEC_GATHER 0 0, R.DEC_TAG_CH 0 0, R.DEC_TAG_CFG 0 0, R.DEC_PUB 0 0]
  | 0x20 => [R.DEC_CFG]
  | 0x21 => [R.DEC_GDSMAP 0]
  | 0x22 => [R.DEC_CRIER_CFG 0, R.DEC_CRIER_SLOTS_LO 0, R.DEC_CRIER_SLOTS_HI 0]
  | 0x23 => [R.EVT_LSEL_LO 0, R.EVT_LSEL_HI 0, R.EVT_CONS_EN 0, R.EVT_CONS_JLO 0, R.EVT_CONS_JHI 0, R.EVT_CELL_CFG 0,
      R.EVT_CELL_IN 0, R.EVT_CELL_FILT 0]
  | 0x25 => [R.LOOM_ALIAS 0]
  | 0x27 => [R.BIAS_GRP_CFG, R.BIAS_CH_CFG 0, R.BIAS_CH_SAFE 0, R.BIAS_CH_CODE 0, R.BIAS_CH_RANGE 0,
      R.BIAS_CH_SIN_FTW 0, R.BIAS_CH_SIN_AMP 0, R.BIAS_CH_SUP 0, R.SENSE_CTL, R.SENSE_SCAN_A 0, R.SENSE_SCAN_B 0,
      R.SENSE_CH_CM 0, R.SENSE_LOOP_CFG 0, R.SENSE_LOOP_LO 0, R.SENSE_LOOP_HI 0, R.SENSE_LSET_C 0 0]
  | 0x28 => [R.TALLY_STREAM_CTL 0, R.TALLY_WEIGHT 0]
  | _ => []

/-- The Bench of a register whose widest stride counts Benches. -/
def RegDesc.benchOf (d : RegDesc) (off : Nat) : Nat :=
  match d.dims with
  | [] => 0
  | (st, _) :: _ => (off - d.base) / st

/-- The section type and Bench that may write a window offset (R490): 0xFF for scope D. -/
def windowOwner (off : Nat) : Option (Nat × Nat) :=
  if 0x420000000 ≤ off && decide (off < 0x421000000) then some (0x25, 0xFF)
  else if 0x430000000 ≤ off && decide (off < 0x438000000) then
    let b := (off - 0x430000000) / 0x1000000
    let r := (off - 0x430000000) % 0x1000000
    match winPart r with
    | some .laneProg => some (0x11, b)
    | some .kernel => some (0x12, b)
    | some .control =>
      if (0x880000 ≤ r && decide (r < 0x884000)) || (0x8C0000 ≤ r && decide (r < 0x900000)) then some (0x14, b) else none
    | some _ => some (0x13, b)
    | none => none
  else none

/-- A section of type `t` and Bench `b` may write the word at `off` (R490). `uni` tells unified mode; an overlay's OLTPART
meets R81 instead. -/
def mayWrite (uni : Bool) (t b off : Nat) : Bool :=
  if 0x410000000 ≤ off && decide (off < 0x410400000) then
    t == 0x20 || (t == 0x17 && !uni && (off - 0x410000000) / 0x80000 == b)
  else if off < 0x410000000 then
    match regAt (canonOff off) with
    | some d => (rangeRegs t).contains d.base && (!scopeB t || d.benchOf off == b)
    | none => false
  else windowOwner off == some (t, b)

/-- The bits of a register that some field holds. -/
def RegDesc.mask (d : RegDesc) : Nat := d.fields.foldl (fun m f => m ||| (2 ^ f.w - 1) * 2 ^ f.lo) 0

/-- The bits of a word of a Bench memory window that are not reserved (R224, R303): X words have 36 bits, Y words 72, words
of the control store 144. -/
def winMask (r : Nat) : Nat :=
  match winPart r with
  | some .assayX => if r / 4 % 2 = 0 then 0xFFFFFFFF else 0xF
  | some .assayY => if r / 4 % 4 < 2 then 0xFFFFFFFF else if r / 4 % 4 = 2 then 0xFF else 0
  | some .control => if r / 4 % 8 < 4 then 0xFFFFFFFF else if r / 4 % 8 = 4 then 0xFFFF else 0
  | _ => 0xFFFFFFFF

/-- The bits of an aperture word that are not reserved: a register's fields (SEL_B of GATHERb_10 is reserved, R259), a
descriptor's fields (R113), the bits of a window's words. -/
def wordMask (off : Nat) : Nat :=
  match regAt (canonOff off) with
  | some d =>
    if decide (R.DEC_GATHER 0 0 ≤ off) && decide (off < R.DEC_GATHER 8 0) && (off - R.DEC_GATHER 0 0) % 0x80 == 40 then
      0x1FFF
    else d.mask
  | none =>
    if 0x420000000 ≤ off && decide (off < 0x421000000) then
      match off / 4 % 4 with
      | 0 => 0x3FFFFFFF
      | 1 => 0x000FFFFF
      | 2 => 0x0FFFFFFF
      | _ => 0xC7FFFFFF
    else if 0x430000000 ≤ off && decide (off < 0x438000000) then winMask ((off - 0x430000000) % 0x1000000)
    else 0xFFFFFFFF

/-- The run is one that its section may hold (R489, R490): `top` is the first address above the segment sample space. -/
def State.runOk (s : State) (uni : Bool) (top : Nat) (y : Sec) (r : Run) (last : Bool) : Bool :=
  if r.target == resTarget then y.typ == 0x25 && last
  else if r.inMem then y.typ == 0x26 && decide (r.target + r.count ≤ top)
  else
    (List.range ((r.target + r.count + 3) / 4 - r.target / 4)).all fun i =>
      let off := 4 * (r.target / 4 + i)
      mayWrite uni y.typ y.bench off &&
        (r.inOlt || s.readLE (r.data + 4 * i) 4 ||| wordMask off == wordMask off)

/-- The runs of a section, each with whether it is the last. -/
def withLast : List Run → List (Run × Bool)
  | [] => []
  | [r] => [(r, true)]
  | r :: rs => (r, false) :: withLast rs

/-- The first section with a malformed run, a payload of a wrong size, or a run it may not hold (R489, R491). A CARVE or
BUDGET payload of wrong length gives SECTION: DESIGN CHOICE, log entry 21. -/
def State.badRuns (s : State) (x : Image) (uni : Bool) (top : Nat) : Option Nat :=
  (x.secs.find? fun y =>
    if y.typ == 0x24 then (x.payload y).map (·.2) != some 16
    else if y.typ == 0x2F then (x.payload y).map (·.2) != some 256
    else match s.runsOf x y with
      | none => true
      | some rs => (withLast rs).any fun e => !s.runOk uni top y e.1 e.2).map (·.idx)

/-! ### Writes -/

/-- What a write makes of a register (R10, R484): RW, RWP and RWL fields take the data, W1C bits written 1 clear, RO and
WO fields keep what they hold. -/
def fieldWrite (old new : Nat) (f : RegField) : Nat :=
  match f.acc with
  | .rw | .rwp | .rwl => bitsOf new f.lo f.w
  | .w1c => bitsOf old f.lo f.w - (bitsOf old f.lo f.w &&& bitsOf new f.lo f.w)
  | .ro | .wo => bitsOf old f.lo f.w

/-- A register word after a write of `new`, field by field. -/
def RegDesc.write (d : RegDesc) (old new : Nat) : Nat :=
  d.fields.foldl (fun w f => putBits w f.lo f.w (fieldWrite old new f)) old

/-- The offset is that of a slot table of a row port, whose relay bits are stored as 0 (R274). -/
def rowSlots (o : Nat) : Bool := (List.range 7).any fun p => o == R.DEC_CRIER_SLOTS_LO p || o == R.DEC_CRIER_SLOTS_HI p

/-- A word of a run is written (R489). LOST of a descriptor is set by the device only (R114). -/
def State.loadWord (s : State) (off v : Nat) : State :=
  let o := canonOff off
  let v := if rowSlots o then v &&& 0x01010101 else v
  match regAt o with
  | some d => s.setReg o (BitVec.ofNat 32 (d.write (s.reg o).toNat v))
  | none =>
    if 0x420000000 ≤ off && decide (off < 0x421000000) && off / 4 % 4 == 3 then
      s.setReg off (BitVec.ofNat 32 (putBits v 30 1 0))
    else s.setReg off (BitVec.ofNat 32 v)

/-- A 16-bit entry of the OLT window is written. -/
def State.loadHalf (s : State) (off v : Nat) : State :=
  let o := 4 * (off / 4)
  s.setReg o (BitVec.ofNat 32 (putBits (s.reg o).toNat (8 * (off % 4)) 16 v))

/-- A run is carried out on `t`; its data are read from `s`. -/
def State.loadRun (s t : State) (r : Run) : State :=
  if r.target == resTarget then t
  else if r.inMem then
    (t.memStore r.target ((List.range r.count).map fun i => s.byteAt (r.data + i))).dropCopies r.target r.count
  else if r.inOlt then
    foldAll (fun t i => t.loadHalf (r.target + 2 * i) (s.readLE (r.data + 2 * i) 2)) t (List.range (r.count / 2))
  else foldAll (fun t i => t.loadWord (r.target + 4 * i) (s.readLE (r.data + 4 * i) 4)) t (List.range (r.count / 4))

/-- The CARVE record (R491): core region in 256 MiB, ring in 64 MiB, threshold in KiB; none where it breaks a rule. -/
def State.carveRec (s : State) (x : Image) : Option (Nat × Nat × Nat) :=
  match (x.find 0x24 0xFF).bind x.payload with
  | none => none
  | some (a, _) =>
    let c := s.readLE a 1
    let t := s.readLE (a + 2) 2
    let k := s.readLE (a + 4) 2
    if 4 ≤ c && decide (c ≤ 16) && decide (1 ≤ t) && decide (t ≤ 64) && decide (4 ≤ k) && decide (k ≤ 256) &&
        s.readLE (a + 1) 1 == 0 && s.readLE (a + 6) 10 == 0 then some (c, t, k)
    else none

/-- TALLY.RING_CFG and LOOM.SEG_CFG follow the CARVE record (R71, R491). -/
def State.carveSet (s : State) (c t k : Nat) : State :=
  ((s.setFld R.TALLY_RING_CFG Fd.TALLY_RING_CFG_SIZE t).setFld R.TALLY_RING_CFG Fd.TALLY_RING_CFG_BASE
    (256 - 4 * c - t)).setFld R.LOOM_SEG_CFG Fd.LOOM_SEG_CFG_THRESH k

/-- The word belongs to the structure that a full load replaces (R78): whatever a section may write, but for the ranges and
target codes of the bias outputs, which an output that the SLOW section leaves alone keeps (R406). -/
def isStructure (off : Nat) : Bool :=
  if 0x410000000 ≤ off then true
  else match regAt off with
    | some d =>
      (typesB ++ [0x20, 0x21, 0x22, 0x23, 0x25, 0x27, 0x28]).any (fun t => (rangeRegs t).contains d.base) &&
        d.base != R.BIAS_CH_CODE 0 && d.base != R.BIAS_CH_RANGE 0
    | none => false

/-- A structure word with its writable fields at reset. -/
def clearedWord (off : Nat) (v : Word) : Word :=
  match regAt off with
  | none => 0
  | some d =>
    BitVec.ofNat 32 (d.fields.foldl (fun w f =>
      match f.acc with
      | .rw | .rwp | .rwl => putBits w f.lo f.w (bitsOf (apReset off).toNat f.lo f.w)
      | _ => w) v.toNat)

/-- Every store that a load fills is cleared (R65, R78); the carve-outs return to their defaults (R71). -/
def State.structCleared (s : State) : State :=
  (foldAll (fun s e => if isStructure e.1 then s.setReg e.1 (clearedWord e.1 e.2) else s) s s.ap).carveSet 8 4 64

/-- The state that the runs of an image would leave (R489): a full image writes cleared stores (R78). -/
def State.staged_ (s : State) (x : Image) : State :=
  let t := if x.overlay then s else s.structCleared
  let t := match s.carveRec x with
    | some (c, r, k) => t.carveSet c r k
    | none => t
  (s.allRuns x).foldl (fun t e => s.loadRun t e.2) t

end Sys2Proof.Machine
end

