-- ==== Sys2Proof/Machine/ImageCheck.lean ====
section
/-!
DEFINITION. The structural checks of a load (R75 step 5), judged on the state that the runs would leave (R489): bindings
(R18, R20, R123, R125, R167, R182, R393), lane programs (R137, R141, R143), Assay bundles (R225 to R246) and Foreman
images (R281 to R304).
-/
namespace Sys2Proof.Machine

/-! ### Bindings -/

/-- The members of a list are distinct. -/
def distinct (xs : List Nat) : Bool := xs.eraseDups.length == xs.length

/-- The units that the lanes of a Bench bind to a voice. -/
def State.unitsBound (s : State) (b voice : Nat) : List Nat := (List.range 32).filterMap fun l => s.voiceUnit b l voice

/-- The lane has a voice. -/
def State.laneBound (s : State) (b l : Nat) : Bool := (List.range 3).any fun v => (s.voiceUnit b l v).isSome

/-- The Bench binds a lane (R70). -/
def State.binds (s : State) (b : Nat) : Bool := (List.range 32).any (s.laneBound b)

/-- The bound channels of a Bench. -/
def State.chansBound (s : State) (b : Nat) : List Nat :=
  pick 32 fun c => s.flag (R.READ_CH_BIND b c) Fd.READ_CH_BIND_BOUND

/-- Each P voice owns exactly one channel, which names its probe tone; no channel names a lane without a P voice; at most
16 channels on one ADC (R20). -/
def State.chansOk (s : State) (b : Nat) : Bool :=
  let cs := s.chansBound b
  let laneOf := fun c => s.fld (R.READ_CH_BIND b c) Fd.READ_CH_BIND_LANE
  let toneOf := fun c => s.fld (R.READ_CH_BIND b c) Fd.READ_CH_BIND_TONE
  let adcOf := fun c => s.fld (R.READ_CH_BIND b c) Fd.READ_CH_BIND_ADC
  (List.range 32).all (fun l =>
    (cs.filter fun c => laneOf c == l).length == bit (s.voiceUnit b l 1).isSome) &&
    cs.all (fun c => s.voiceUnit b (laneOf c) 1 == some (toneOf c)) &&
    [0, 1].all fun a => decide ((cs.filter fun c => adcOf c == a).length ≤ 16)

/-- Render slots reserved and pooled in a Bench (R167, R84). -/
def State.slotsAsked (s : State) (b : Nat) : Nat :=
  (List.range 32).foldl (fun n l => n + s.fld (R.LOOM_LANE_SLOTS b l) Fd.LOOM_LANE_SLOTS_RES)
    (s.fld (R.LOOM_SLOT_POOL b) Fd.LOOM_SLOT_POOL_SIZE)

/-- The cross-feed groups of a Bench keep R182: no slot of an assigned group, enabled or not, names the source's converter
or code 6 or 7. -/
def State.xfOk (s : State) (b : Nat) : Bool :=
  let gs := pick 32 fun g => s.flag (R.OUT_XF_SRC b g) Fd.OUT_XF_SRC_EN
  let tone := fun g => s.fld (R.OUT_XF_SRC b g) Fd.OUT_XF_SRC_TONE
  let slots := fun g =>
    let w := (s.reg (R.OUT_XF_SLOTS b g)).toNat
    (List.range 4).map fun j => (bitsOf w (8 * j) 3, bitAt w (8 * j + 3))
  distinct (gs.map tone) &&
    gs.all fun g => distinct (((slots g).filter (·.2)).map (·.1)) &&
      (slots g).all fun e => decide (e.1 < 6) && e.1 != toneConv (tone g)

/-- Every bound tone of a Bench lies in its band with its initial word and each frame's INIT_F (R175). -/
def State.bandsOk (s : State) (b : Nat) : Bool :=
  (s.unitsBound b 0 ++ s.unitsBound b 1).all fun u =>
    let fw := (s.reg (R.OUT_TONE_FW_LO b u)).toNat + s.fld (R.OUT_TONE_FW_HI b u) Fd.OUT_TONE_FW_HI_FW * 2 ^ 32
    (List.range 4).all fun f =>
      inBand (s.flag (R.OUT_CONV_CFG b (toneConv u)) Fd.OUT_CONV_CFG_MODE)
        (effWord fw (s.reg (R.OUT_TONE_FRAME_INIT_F b u f)).toNat)

/-- The division of a Bench's segment cache (R123): 4 MiB in 4 KiB units, of which the transient region keeps 512 KiB. -/
def State.cacheOk (s : State) (b : Nat) : Bool :=
  decide (s.fld (R.LOOM_CACHE_MAP b) Fd.LOOM_CACHE_MAP_RES + s.fld (R.LOOM_CACHE_MAP b) Fd.LOOM_CACHE_MAP_WIN + 128 ≤ 1024)

/-- A chain of `n` COMB cells in series ends at cell `j` (R393). -/
def State.combChain (s : State) : Nat → Nat → Bool
  | 0, _ => true
  | n + 1, j =>
    let comb := fun i => s.fld (R.EVT_CELL_CFG i) Fd.EVT_CELL_CFG_MODE == 0
    comb j && (n == 0 || [Fd.EVT_CELL_IN_A, Fd.EVT_CELL_IN_B, Fd.EVT_CELL_IN_C, Fd.EVT_CELL_IN_D].any fun f =>
      let line := reachLine j (s.fld (R.EVT_CELL_IN j) f)
      decide (448 ≤ line) && decide (line < 512) && s.combChain n (line - 448))

/-- The EVENT section keeps R393, and no cell has MODE 3. -/
def State.cellsOk (s : State) : Bool :=
  (List.range 64).all fun j => !s.combChain 5 j && s.fld (R.EVT_CELL_CFG j) Fd.EVT_CELL_CFG_MODE != 3

/-! ### Residency (R125) -/

/-- The segments whose descriptor has RESIDENT set. -/
def State.residentIds (s : State) : List Nat :=
  s.ap.filterMap fun e =>
    if 0x420000000 ≤ e.1 && decide (e.1 < 0x421000000) && e.1 / 4 % 4 == 3 && bitAt e.2.toNat 25 then
      some ((e.1 - 0x420000000) / 16)
    else none

/-- The residency list of an image: segment and Bench mask; none where a reserved bit is set. -/
def State.resList (s : State) (x : Image) : Option (List (Nat × Nat)) :=
  let rs := (s.allRuns x).filter fun e => e.2.target == resTarget
  let ws := rs.flatMap fun e => (List.range (e.2.count / 4)).map fun i => s.readLE (e.2.data + 4 * i) 4
  if ws.all fun w => decide (w < 2 ^ 28) then some (ws.map fun w => (bitsOf w 0 20, bitsOf w 20 8)) else none

/-- The segments whose descriptor an image writes. -/
def State.segsWritten (s : State) (x : Image) : List Nat :=
  ((s.allRuns x).flatMap fun e =>
    if e.1.typ == 0x25 && decide (0x420000000 ≤ e.2.target) && decide (e.2.target < 0x421000000) then
      (List.range ((e.2.target % 16 + e.2.count + 15) / 16)).map fun i => (e.2.target - 0x420000000) / 16 + i
    else []).eraseDups

/-- The residency that a load leaves: a full image's list; an overlay's in place of the entries of the segments it
writes. -/
def State.newResident (s : State) (x : Image) : NMap Nat :=
  let ids := s.segsWritten x
  let old : NMap Nat := if x.overlay then NMap.erase (fun id => ids.contains id) s.segs.resident else []
  foldAll (fun m e => NMap.set (fun _ => 0) m e.1 e.2) old ((s.resList x).getD [])

/-- The residency keeps R125 in the state `t` that the load leaves. -/
def State.residencyOk (s t : State) (x : Image) : Bool :=
  let m := s.newResident x
  let size := fun id => dBytes (t.segWords id)
  (s.resList x).isSome && ((s.resList x).getD []).all (fun e => e.2 != 0 && dResident (t.segWords e.1)) &&
    t.residentIds.all (fun id => NMap.get (fun _ => 0) m id != 0) &&
    (List.range 8).all fun b =>
      decide (((m.filter fun e => bitAt e.2 b).foldl (fun n e => n + size e.1) 0) ≤
        4096 * t.fld (R.LOOM_CACHE_MAP b) Fd.LOOM_CACHE_MAP_RES)

/-! ### Lane programs -/

/-- The bits that an instruction may set (R142), and none for an unknown opcode (R141). -/
def liMask (op : Nat) : Option Nat :=
  match op with
  | 1 => some (2 ^ 58 - 2)
  | 2 => some (2 ^ 58 - 2 ^ 15 + 2 ^ 5 - 2)
  | 3 => some (2 ^ 58 - 2 ^ 54 + 2 ^ 32 - 1)
  | 4 => some (2 ^ 58 - 2 ^ 34 + 2 ^ 32 - 1)
  | 5 => some (2 ^ 58 - 2 ^ 16)
  | 6 => some (2 ^ 58 - 2 ^ 3)
  | 7 => some (2 ^ 58 - 2 ^ 54 + 2 ^ 20 - 1)
  | 8 => some 0
  | 9 => some (2 ^ 48 - 2 ^ 28)
  | 10 => some (2 ^ 58 - 2 ^ 33)
  | 11 => some (2 ^ 58 - 2 ^ 54 + 2 ^ 32 - 1)
  | 12 => some 0
  | _ => none

/-- A word is a valid instruction of lane `l` (R141 to R145). -/
def State.liOk (s : State) (b l w : Nat) : Bool :=
  match liMask (liOp w) with
  | none => false
  | some m =>
    let plain := w % 2 ^ 58 ||| m == m
    match liOp w with
    | 1 | 2 =>
      plain && liVoice w != 3 && (s.voiceUnit b l (liVoice w)).isSome && (liVoice w != 2 || liFrame w == 0) &&
        (!liAlias w || bitsOf w 47 8 == 0)
    | 4 => plain && decide (liVoice w < 2)
    | 5 =>
      plain && liKsel w != 3 && (liKsel w != 2 || liSrc w == 3) && decide (liSrc w < 4) &&
        decide (liDef w < liAlts w) && liDl w != 0
    | 6 => plain && decide (liCond w < 9)
    | 9 => plain && liDl w != 0
    | _ => plain

/-- Where a word continues, as (offset, loop depth): none where the program is refused (R137, R143). -/
def State.liNext (s : State) (b l off depth : Nat) : Option (List (Nat × Nat)) :=
  let size := s.fld (R.LOOM_LANE_PART b l) Fd.LOOM_LANE_PART_SIZE
  let w := s.laneWord b l off
  let go := fun (t d : Nat) => if t < size then some [(t, d)] else none
  if !s.liOk b l w then none
  else match liOp w with
    | 5 =>
      let ks := (List.range (liAlts w)).map fun k => off + 1 + k
      let good := fun p =>
        let v := s.laneWord b l p
        decide (p < size) && s.liOk b l v && liOp v == 6 && liCond v == 0 && decide (liTgt v < size)
      if ks.all good then some (ks.map fun p => (liTgt (s.laneWord b l p), depth)) else none
    | 6 =>
      if liCond w = 0 then go (liTgt w) depth
      else match go (liTgt w) depth, go (off + 1) depth with
        | some a, some c => some (a ++ c)
        | _, _ => none
    | 7 => if depth = 4 then none else go (off + 1) (depth + 1)
    | 8 => if depth = 0 then none else go (off + 1) (depth - 1)
    | 12 => some []
    | _ => go (off + 1) depth

/-- Every path from the listed places is good (R137). `seen` holds 8 × offset + depth of the places visited. -/
def State.pathsOk (s : State) (b l : Nat) : Nat → List (Nat × Nat) → NMap Bool → Bool
  | 0, todo, _ => todo.isEmpty
  | fuel + 1, todo, seen =>
    match todo with
    | [] => true
    | (off, d) :: rest =>
      if NMap.get (fun _ => false) seen (8 * off + d) then s.pathsOk b l fuel rest seen
      else match s.liNext b l off d with
        | none => false
        | some next => s.pathsOk b l fuel (next ++ rest) (NMap.set (fun _ => false) seen (8 * off + d) true)

/-- The program of a bound lane (R137): its partition, and every path from offset 0. -/
def State.laneProgOk (s : State) (b l : Nat) : Bool :=
  let base := s.fld (R.LOOM_LANE_PART b l) Fd.LOOM_LANE_PART_BASE
  let size := s.fld (R.LOOM_LANE_PART b l) Fd.LOOM_LANE_PART_SIZE
  size % 16 == 0 && decide (16 ≤ size) && decide (base + size ≤ 32768) && s.pathsOk b l (100 * size) [(0, 0)] []

/-- No partitions of a Bench's bound lanes overlap (R137). -/
def State.partsApart (s : State) (b : Nat) : Bool :=
  let part := fun l =>
    (s.fld (R.LOOM_LANE_PART b l) Fd.LOOM_LANE_PART_BASE, s.fld (R.LOOM_LANE_PART b l) Fd.LOOM_LANE_PART_SIZE)
  !anyPair (fun l m => decide ((part l).1 < (part m).1 + (part m).2) && decide ((part m).1 < (part l).1 + (part l).2))
    (pick 32 (s.laneBound b))

/-- The lane programs of a Bench (R137, R141, R143). -/
def State.programsOk (s : State) (b : Nat) : Bool :=
  s.partsApart b && (pick 32 (s.laneBound b)).all (s.laneProgOk b)

/-! ### Assay bundles -/

/-- The registers a control slot writes, by the codes of R236. -/
def ctlWrites (c : Nat) : List Nat :=
  match ctlOp c with
  | 3 => if bitsOf c 8 4 = 12 then [37] else []
  | 4 => [12, 13, 14, 15, 45]
  | _ => []

/-- The registers a MAC slot writes, by the codes of R236. -/
def macWrites (m : Nat) : List Nat :=
  let dest := fun am => if am then 16 + bitsOf m 20 2 else bitsOf m 20 4
  match macOp m with
  | 1 => [16, 17, 18, 19]
  | 2 => [16 + 2 * bitsOf m 14 1, 17 + 2 * bitsOf m 14 1]
  | 3 => [16 + bitsOf m 13 2]
  | 4 | 5 | 6 | 7 | 8 => [dest (bitAt m 10)]
  | 9 => [bitsOf m 20 4]
  | 10 => [bitsOf m 18 6]
  | 11 =>
    match bitsOf m 22 2 with
    | 0 => [16 + bitsOf m 18 2]
    | 3 => [bitsOf m 18 4]
    | _ => [38, 39]
  | 12 | 13 => [36, 38, 39] ++ if bitAt m 14 then [20 + bitsOf m 18 3] else []
  | _ => []

/-- The registers an address slot writes, by the codes of R236. -/
def adrWrites (a : Nat) : List Nat :=
  let y := if bitAt a 11 then [20 + bitsOf a 8 3] else []
  match adrForm a with
  | 0 => y
  | 3 =>
    let g := bitsOf a 13 5
    if g < 8 then [20 + g] else if g < 16 then [20 + g] else [37]
  | _ => (20 + bitsOf a 15 3) :: y

/-- Two lists share a member. -/
def meet (xs ys : List Nat) : Bool := xs.any ys.contains

/-- The control slot keeps R229 to R231 and R246. -/
def State.ctlOk (s : State) (b e pc : Nat) : Bool :=
  let c := ctlOf (s.bundle b e pc)
  let rel := Int.ofNat pc + sext 8 c
  let inside := decide (0 ≤ rel) && decide (rel < 4096)
  match ctlOp c with
  | 0 | 1 | 2 | 6 | 7 => true
  | 3 => bitsOf c 8 4 != 15 && inside
  | 4 => inside && s.fld (R.ASSAY_TO b e (bitsOf c 10 2)) Fd.ASSAY_TO_TO != 0
  | 5 => pc != 4095 && ctlOp (ctlOf (s.bundle b e (pc + 1))) == 0
  | 8 => decide (bitsOf c 8 4 ≤ 1)
  | _ => false

/-- The MAC slot keeps R233, R235 and R236. A bundle reads X with address form 1 or 2 (R242) and Y with YEN. -/
def macOk (m a : Nat) : Bool :=
  let x := bitAt m 23 || adrForm a == 1 || adrForm a == 2
  let y := adrForm a != 3 && bitAt a 11
  match macOp m with
  | 1 | 2 => x && y
  | 3 => x
  | 4 | 5 => !bitAt m 11 || y
  | 9 => decide (bitsOf m 10 6 ≤ 47)
  | 10 =>
    let d := bitsOf m 18 6
    let r := bitsOf m 12 6
    decide (d ≤ 46) && !(decide (40 ≤ d) && decide (d ≤ 45)) && decide (r ≤ 46) && decide (bitsOf m 6 6 ≤ 47)
  | 14 | 15 => false
  | _ => true

/-- A bundle is not refused (R225 to R246). -/
def State.bundleOk (s : State) (b e pc : Nat) : Bool :=
  let w := s.bundle b e pc
  let c := ctlOf w
  let m := macOf w
  let a := adrOf w
  s.ctlOk b e pc && macOk m a && (adrForm a != 3 || decide (bitsOf a 13 5 ≤ 16)) &&
    !meet (ctlWrites c) (macWrites m) && !meet (ctlWrites c) (adrWrites a) && !meet (macWrites m) (adrWrites a)

/-- The words of a window range that are not 0, as places of `size` bytes from `base`. -/
def State.placesUsed (s : State) (base count size : Nat) : List Nat :=
  (s.ap.filterMap fun e =>
    if base ≤ e.1 && decide (e.1 < base + count * size) then some ((e.1 - base) / size) else none).eraseDups

/-- The engines of a Bench hold no bundle that is refused; a bundle of zeros never is. -/
def State.assayOk (s : State) (b : Nat) : Bool :=
  (List.range 4).all fun e => (s.placesUsed (R.ASSAY_PROG b e 0 0) 4096 8).all (s.bundleOk b e)

/-! ### Foreman images -/

/-- WSEL takes its operand from DSEL (R287). -/
def wselUses (w : Nat) : Bool := [2, 4, 5, 6, 7, 8, 11].contains w
/-- DOP takes its operand from DSEL (R296). -/
def dopUses (d : Nat) : Bool := d != 0 && d != 6

/-- The U registers that the ALU field writes (R299). -/
def aluWrites (w : Nat) : List Nat := if [1, 2, 3, 4, 5, 6, 7, 8, 10, 11].contains (mwAlu w) then [mwD w] else []
/-- The U registers that DOP writes (R296). -/
def dopWrites (w : Nat) : List Nat := if mwDop w = 9 then [3] else if mwDop w = 10 then [2, 3] else []

/-- A microword is not refused (R281 to R300). -/
def State.mwOk (s : State) (b w : Nat) : Bool :=
  let waits := mwWsel w != 0
  decide (mwBrs w ≤ 9) && mwTrg w != 3 &&
    (!(decide (2 ≤ mwBrs w) && decide (mwBrs w ≤ 5)) || decide (mwCsel w ≤ 0xA) || decide (0x20 ≤ mwCsel w)) &&
    decide (mwWsel w ≤ 11) &&
    !(mwWsel w == 11 && s.flag (R.FM_TVEC b (4 + mwDsel w % 4)) Fd.FM_TVEC_EN) &&
    (!waits || (mwBrs w == 1 && mwNxt w % 2 == 0 && s.reg (R.FM_TO b (mwWto w)) != 0)) &&
    !(bitAt (mwLop w) 3 && mwLstr w != 0) && !(mwOp w == 7 && mwLstr w != 0) && decide (mwDop w ≤ 10) &&
    mwAlu w != 15 && !([1, 3, 4, 5, 6, 9].contains (mwAlu w) && decide (8 ≤ mwImm w)) &&
    !meet (aluWrites w) (dopWrites w) &&
    !((mwTrg w == 1 || mwBrs w == 8) && (dopUses (mwDop w) || wselUses (mwWsel w)))

/-- The stored word at a control-store address. -/
def State.storeWord (s : State) (b a : Nat) : Nat :=
  (List.range 5).foldl (fun n h => n + (s.reg (R.CONTROL b a h)).toNat * 2 ^ (32 * h)) 0

/-- The Foreman image of a Bench (R281, R301, R302, R304): its words, no open-store content in VENDOR mode, match
registers that name distinct ROM addresses, and a START.KIND of the table. -/
def State.foremanOk (s : State) (b : Nat) : Bool :=
  let used := s.placesUsed (R.CONTROL b 0 0) 0x8000 32
  let ms := pick 32 fun k => s.flag (R.FM_MATCH b k) Fd.FM_MATCH_EN
  used.all (fun a => s.mwOk b (s.storeWord b a)) &&
    (s.flag (R.FM_STORE b) Fd.FM_STORE_MODE || used.all fun a => decide (a < 0x6000)) &&
    distinct (ms.map fun k => s.fld (R.FM_MATCH b k) Fd.FM_MATCH_ROM) &&
    decide (s.fld (R.FM_START b) Fd.FM_START_KIND ≤ 4)

/-! ### The slow side -/

/-- No bias output takes a range code that R396 refuses. -/
def State.slowOk (s : State) : Bool :=
  (List.range 64).all fun n => decide (s.fld (R.BIAS_CH_RANGE n) Fd.BIAS_CH_RANGE_REQ ≤ 4)

end Sys2Proof.Machine
end

