-- ==== Sys2Proof/Machine/Pattern.lean ====
section
/-!
DEFINITION. Pattern loads and overlays (03): their start, the check phase (R75), the apply phase (R78, R82, R83), the
events that meet them (R86), and the Bench reset, which may meet an overlay (R63, R86).
-/
namespace Sys2Proof.Machine

/-! ### Start and end -/

/-- The outcome of a load (R87): ERR, ERR_SECTION, WAS_OVERLAY, and DONE or FAIL with interrupt source 0. A refused second
START writes them too: DESIGN CHOICE, log entry 20. -/
def State.loadStatus (s : State) (overlay : Bool) (err sec : Nat) : State :=
  let o := R.TOP_PAT_STATUS
  let s := ((s.setFld o Fd.TOP_PAT_STATUS_ERR err).setFld o Fd.TOP_PAT_STATUS_ERR_SECTION sec).setFld o
    Fd.TOP_PAT_STATUS_WAS_OVERLAY (bit overlay)
  s.flagIrq o (if err = 0 then Fd.TOP_PAT_STATUS_DONE else Fd.TOP_PAT_STATUS_FAIL) 0

/-- Bytes of waveform memory are filled with zero (R77). -/
def State.memZero (s : State) (a n : Nat) : State :=
  { s with
    mem := NMap.erase (fun k => decide (a ≤ k) && decide (k < a + n)) s.mem
    memc := { s.memc with ue := NMap.erase (fun u => decide (a / 64 ≤ u) && decide (64 * u < a + n)) s.memc.ue } }

/-- The staging address that PAT_SRC holds. -/
def State.patSrc (s : State) : Nat :=
  (s.reg R.TOP_PAT_SRC_LO).toNat + s.fld R.TOP_PAT_SRC_HI Fd.TOP_PAT_SRC_HI_SRC * 2 ^ 32

/-- A load starts in its check phase (R75, R78, R80, R86, R87). A full load enters PATTERN with the core clock (R45).
During a mode transition ERR is BUSY: DESIGN CHOICE, log entry 12. -/
def State.loadStart (s : State) (overlay : Bool) : State :=
  if s.inTransit then s.loadStatus overlay 1 0
  else if s.mode != .idle && !(overlay && s.mode == .hold) then s.loadStatus overlay 2 0
  else
    let l : Load := { overlay := overlay, phase := .check, src := s.patSrc, len := (s.reg R.TOP_PAT_LEN).toNat }
    let s : State := { s with load := some l }
    if overlay then s else ((s.startClocks false).memWake).become .pattern 0

/-- PATTERN_LOAD_START (R75, R78). -/
def patternLoadStart (s : State) : State := s.loadStart false

/-- PATTERN_LOAD_START (R75). -/
def execPatternLoadStart (s : State) : Host.Outcome State Fault Refusal := whenPowered s patternLoadStart

/-- OVERLAY_START (R80). -/
def overlayStart (s : State) : State := s.loadStart true

/-- OVERLAY_START (R80). -/
def execOverlayStart (s : State) : Host.Outcome State Fault Refusal := whenPowered s overlayStart

/-- The staged image of a load has an encrypted section, so that the staging area is zeroed at the end (R77). One refused
for its header or bounds counts as not encrypted: DESIGN CHOICE, log entry 19. -/
def State.secretImage (s : State) (l : Load) : Bool :=
  let x := s.image l.src l.len
  x.headerErr l.overlay l.len == 0 && x.secs.any (·.enc)

/-- A load ends (R77, R78, R80): the staging area of an encrypted image is zeroed, the outcome is reported, and a full
load returns to IDLE with the core clock stopped (R45, R378). -/
def State.loadEnd (s : State) (l : Load) (wipe : Bool) (err sec : Nat) : State :=
  let s := if wipe then (s.memZero l.src l.len).dropCopies l.src l.len else s
  let s := ({ s with load := none } : State).loadStatus l.overlay err sec
  if l.overlay then s
  else
    let s := if s.clk.core then s.tallyStop else s
    (s.stopClocks.memSleep).become .idle 0

/-- PATTERN_ABORT (R75): a load in its check phase ends as ABORTED; in its apply phase nothing happens. -/
def patternAbort (s : State) : State :=
  match s.load with
  | some l => if l.phase == .check then s.loadEnd l (s.secretImage l) 0x17 0 else s
  | none => s

/-- PATTERN_ABORT (R75). -/
def execPatternAbort (s : State) : Host.Outcome State Fault Refusal := whenPowered s patternAbort

/-! ### The check phase (R75) -/

/-- The reserved bytes of an encrypted section's prefix are set (R68). -/
def State.prefixRsv (s : State) (x : Image) : Bool :=
  x.secs.any fun y => y.enc && decide (16 ≤ y.len) && s.readLE (x.src + y.ofs + 12) 4 != 0

/-- Steps 1 and 2: bounds, header, target and life-cycle state (R66, R72); ERR, 0 where they hold. -/
def State.checkHead (s : State) (l : Load) (x : Image) : Nat :=
  if l.src % 64 != 0 || l.len % 64 != 0 || decide (l.len < 256) || decide (memSize < l.src + l.len) then 3
  else if x.headerErr l.overlay l.len ≠ 0 then x.headerErr l.overlay l.len
  else if s.prefixRsv x then 5
  else if x.target != s.host.devid || (x.bound && x.serial != s.host.otp.serial) then 6
  else match lifeCycle s.host.otp with
    | .blank | .scrapped => 7
    | _ => 0

/-- Steps 3 and 4: the signature, which must verify under the key of the life-cycle state (R72), the Pattern key and the
GCM tags (R73). -/
def State.checkCrypto (s : State) (x : Image) (c : CheckResult) : Nat × Nat :=
  if imageKey s.host.otp != some c.signer then (8, 0)
  else if x.encrypted && !s.host.patternKey then (9, 0)
  else match c.badTag with
    | some i => if x.secs.any fun y => y.idx == i.val && y.enc then (0xA, i.val) else (0, 0)
    | none => (0, 0)

/-- Encrypted sections are decrypted in place (R73, R75): their plaintext follows the prefix. -/
def State.decrypted (s : State) (x : Image) (c : CheckResult) : State :=
  foldAll (fun s e =>
    match x.secs.find? fun y => y.idx == e.1.val && y.enc with
    | some y => s.setBytes (x.src + y.ofs + 32) (e.2.take (y.len - 32))
    | none => s) s c.plain

/-- The byte ranges that the staging area must not meet (R77). -/
def State.carveAreas (s t : State) (x : Image) : List (Nat × Nat) :=
  [(s.dirBase, 0x1000000), (t.dirBase, 0x1000000), (s.coreBase, memSize - s.coreBase), (t.coreBase, memSize - t.coreBase)]
    ++ ((s.allRuns x).filter fun e => e.2.inMem).map fun e => (e.2.target, e.2.count)

/-- CARVE (R71, R77, R79, R491). -/
def State.carveBad (s t : State) (l : Load) (x : Image) : Bool :=
  (x.has 0x24 0xFF && (s.carveRec x).isNone) ||
    (t.coreBase != s.coreBase && s.host.coresRun != 0) ||
    (s.carveAreas t x).any fun e => overlaps l.src l.len e.1 e.2

/-- The Benches whose sections the structural checks of a load concern. -/
def Image.benches (x : Image) : List Nat := if x.overlay then x.touched else List.range 8

/-- A full image carries what R70 asks for. -/
def State.missing (t : State) (x : Image) : Bool :=
  !x.overlay && (typesD.any (fun ty => !x.has ty 0xFF) ||
    (List.range 8).any fun b => t.binds b && typesB.any fun ty => !x.has ty b)

/-- The budget record of an image (R84, R491). -/
def State.budgetRec (s : State) (x : Image) : Budget :=
  let a := (((x.find 0x2F 0xFF).bind x.payload).map (·.1)).getD 0
  let item := fun ofs n => (List.range 8).map fun b => s.readLE (a + 16 * b + ofs) n
  { rt := item 0 4, tally := item 4 4, olt := item 8 2, slots := item 10 2
    ports := (List.range 14).map fun p => s.readLE (a + 0x80 + p) 1 }

/-- Reserved bytes of the budget record are set (R491). -/
def State.budgetRsv (s : State) (x : Image) : Bool :=
  match (x.find 0x2F 0xFF).bind x.payload with
  | none => false
  | some (a, _) =>
    ((List.range 8).any fun b => s.readLE (a + 16 * b + 12) 4 != 0) || s.readLE (a + 0x8E) 2 != 0 ||
      s.readLE (a + 0x92) 110 != 0

/-- The first Bench of a list that fails a test, as ERR with the index of its section. -/
def Image.firstBad (x : Image) (bs : List Nat) (ok : Nat → Bool) (err t : Nat) : Option (Nat × Nat) :=
  (bs.find? fun b => !ok b).map fun b => (err, x.secIdx t b)

/-- Step 5: the structural checks; ERR and ERR_SECTION, (0, 0) where they hold. Bias range codes 5 to 7 give SECTION: DESIGN
CHOICE, log entry 21. -/
def State.checkStructure (s t : State) (l : Load) (x : Image) : Nat × Nat :=
  let bs := x.benches
  let top := t.dirBase
  let uni := !x.overlay && t.flag R.DEC_CFG Fd.DEC_CFG_UNIFIED
  match x.badSection with
  | some i => (0xB, i)
  | none => match s.badRuns x uni top with
  | some i => (0xB, i)
  | none =>
    if s.budgetRsv x then (0xB, x.secIdx 0x2F 0xFF)
    else if t.missing x then (0xC, 0)
    else if s.carveBad t l x then (0x10, x.secIdx 0x24 0xFF)
    else
      let binding := x.firstBad bs (fun b =>
        distinct (t.unitsBound b 0) && distinct (t.unitsBound b 1) && distinct (t.unitsBound b 2) && t.chansOk b &&
          t.cacheOk b) 0xD 0x10
      let checks := [
        binding,
        x.firstBad bs (fun b => decide (t.slotsAsked b ≤ 128)) 0xD 0x15,
        x.firstBad bs (fun b => t.xfOk b && t.bandsOk b) 0xD 0x16,
        if t.cellsOk then none else some (0xD, x.secIdx 0x23 0xFF),
        if s.residencyOk t x then none else some (0xD, x.secIdx 0x25 0xFF),
        x.firstBad bs t.programsOk 0xE 0x11,
        x.firstBad bs t.assayOk 0xF 0x13,
        x.firstBad bs t.foremanOk 0xF 0x14,
        if t.slowOk then none else some (0xB, x.secIdx 0x27 0xFF)]
      (checks.findSome? id).getD (0, 0)

/-- A section writes a descriptor or samples of an active segment (R81). -/
def State.hitsActive (s : State) (x : Image) : Option Sec :=
  let act := s.activeSegs
  let ids := s.segsWritten x
  let desc := if ids.any act.contains then x.find 0x25 0xFF else none
  let samples := (s.allRuns x).find? fun e =>
    e.2.inMem && act.any fun id =>
      let ws := s.segWords id
      overlaps e.2.target e.2.count (dAddr ws) (dBytes ws)
  match desc with
  | some y => some y
  | none => samples.map (·.1)

/-- A section that R70 or R81 keeps out of an overlay. -/
def State.outOfScope (s : State) (x : Image) (y : Sec) : Bool :=
  let hold := s.mode == .hold
  [0x21, 0x22, 0x23, 0x24].contains y.typ || (y.typ == 0x20 && hold) ||
    (scopeB y.typ && hold && (s.flag (R.BENCH_CTL y.bench) Fd.BENCH_CTL_EN || !s.benchQuiet y.bench)) ||
    (y.typ == 0x17 && s.flag R.DEC_CFG Fd.DEC_CFG_UNIFIED && ((s.runsOf x y).getD []).any (·.inOlt))

/-- Step 6: the scope rules of an overlay (R80 to R82). Of the WIPED Benches only those that it touches must be carried
whole: DESIGN CHOICE, log entry 17. -/
def State.checkScope (s : State) (x : Image) : Nat × Nat :=
  if !x.overlay then (0, 0)
  else if !s.patterned || x.base != s.reg64 R.TOP_PAT_ID_LO then (0x11, 0)
  else match x.secs.find? (s.outOfScope x) with
  | some y => (0x12, y.idx)
  | none =>
    if !x.has 0x2F 0xFF then (0x12, 0)
    else match s.hitsActive x with
    | some y => (0x13, y.idx)
    | none =>
      if x.touched.any fun b => s.wiped b && typesB.any fun ty => !x.has ty b then (0xC, 0) else (0, 0)

/-- The items that the device counts differ from the record (R84). For an overlay, items of sections it does not carry are
not compared: DESIGN CHOICE, log entry 18. -/
def State.miscounts (t : State) (x : Image) (r : Budget) : Bool :=
  ((List.range 8).any fun b => (!x.overlay || x.has 0x15 b) && itemOf r.slots b != t.slotsAsked b) ||
    (x.has 0x22 0xFF && (List.range 14).any fun p =>
      itemOf r.ports p != ((List.range 7).filter fun k => t.slotMask p k != 0).length)

/-- The Benches that would be enabled after a load (R85): those that bind a lane, or for an overlay those whose EN is 1 and
those it restores. -/
def State.loadMask (s t : State) (x : Image) : Nat :=
  if x.overlay then (x.touched.filter s.wiped).foldl setBit s.benchesAsked
  else (pick 8 t.binds).foldl setBit 0

/-- CHECK_PHASE_DONE (R75): the first step that fails ends the load with its ERR; otherwise the apply phase begins. -/
def checkPhaseDone (c : CheckResult) (s : State) : State :=
  match s.load with
  | none => s
  | some l =>
    if l.phase != .check then s
    else
      let x := s.image l.src l.len
      let wipe := s.secretImage l
      let h := s.checkHead l x
      if h ≠ 0 then s.loadEnd l wipe h 0
      else if (s.checkCrypto x c).1 ≠ 0 then s.loadEnd l wipe (s.checkCrypto x c).1 (s.checkCrypto x c).2
      else
        let s := s.decrypted x c
        let t := s.staged_ x
        let e := s.checkStructure t l x
        if e.1 ≠ 0 then s.loadEnd l wipe e.1 e.2
        else if (s.checkScope x).1 ≠ 0 then s.loadEnd l wipe (s.checkScope x).1 (s.checkScope x).2
        else
          let r := s.budgetRec x
          let sec := x.secIdx 0x2F 0xFF
          if t.miscounts x r then s.loadEnd l wipe 0x15 sec
          else
            let mask := s.loadMask t x
            let out := t.fails r mask
            let s := s.budgetNote r mask 0 out
            if out.isSome then s.loadEnd l wipe 0x14 sec else { s with load := some { l with phase := .apply } }

/-- CHECK_PHASE_DONE (R75). -/
def execCheckPhaseDone (c : CheckResult) (s : State) : Host.Outcome State Fault Refusal := whenPowered s (checkPhaseDone c)

/-! ### The apply phase -/

/-- Tones and frames of a Bench take their initial state (R177, R180); the corrector states are cleared (R190). -/
def State.tonesLoad (s : State) (b : Nat) : State :=
  let s := foldAll (fun s u =>
    let fw := (s.reg (R.OUT_TONE_FW_LO b u)).toNat + s.fld (R.OUT_TONE_FW_HI b u) Fd.OUT_TONE_FW_HI_FW * 2 ^ 32
    let s := s.onTone b u fun _ => { fw := fw }
    foldAll (fun s f => s.frameInit b u f 0) s (List.range 4)) s (List.range 64)
  foldAll (fun s k => s.fluxClear b k) s (List.range 16)

/-- A window size for a voice out of what is left of the windows' region: the power of two asked for from 16 KiB on, or
the largest that fits; 0 where none does. -/
def windowSize (left ask : Nat) : Nat :=
  ((List.range 7).map fun k => 16384 * 2 ^ k).foldl (fun n z => if z ≤ left && z ≤ max 16384 ask then z else n) 0

/-- The streaming windows of a Bench (R123): powers of two from 16 KiB to 1 MiB for its bound voices. The image gives
only their total, so the sizes are free within it; what a first round leaves goes to the voices without one. -/
def State.windowsLoad (s : State) (b : Nat) : State :=
  let s := (s.cachesLost b).onLoom b fun x => { x with windows := [] }
  let total := 4096 * s.fld (R.LOOM_CACHE_MAP b) Fd.LOOM_CACHE_MAP_WIN
  if total = 0 then s
  else
    let bound := (List.range 80).filter fun v =>
      (s.windowVoice b v).any fun e => (s.voiceUnit b e.1 e.2).isSome
    let give := fun (s : State) (v ask : Nat) =>
      let left := total - (s.loom b).windows.foldl (fun n e => n + e.2.size) 0
      if (s.window b v).size != 0 || ask = 0 then s
      else s.onWindow b v fun x => { x with size := windowSize left ask }
    let s := foldAll (fun s v =>
      let (w, s) := s.free
      give s v (if w.toNat % 8 = 0 then 0 else 8192 * 2 ^ (w.toNat % 8))) s bound
    foldAll (fun s v => give s v 1048576) s bound

/-- The slow outputs after a SLOW section (R406); `t` holds the registers it leaves, `s` those before. -/
def State.biasLoadSec (s t : State) (x : Image) (n : Nat) : State :=
  let r := t.fld (R.BIAS_CH_RANGE n) Fd.BIAS_CH_RANGE_REQ
  let c := t.fld (R.BIAS_CH_RANGE n) Fd.BIAS_CH_RANGE_CODE
  let staged := s.wrote x 0x27 (R.BIAS_CH_CODE n) && t.flag (R.BIAS_CH_CFG n) Fd.BIAS_CH_CFG_LGEN
  let t := t.onBias n fun y => { y with staged := y.staged || staged }
  if !s.wrote x 0x27 (R.BIAS_CH_RANGE n) then t
  else if (t.bias n).parked && (t.bias n).step == .none_ then t.onBias n fun y => { y with range := r }
  else if t.safeLow then
    t.onBias n fun y => if r = y.range then y else { y with req := r, reqCode := c, susp := true }
  else t.biasRange n r c

/-- The slow side after a SLOW section (R406, R414, R415, R417): a scan that runs begins anew, a loop the section
configures drives. -/
def State.slowLoad (s t : State) (x : Image) : State :=
  if !x.has 0x27 0xFF then t
  else
    let t := foldAll (fun t n => s.biasLoadSec t x n) t (List.range 64)
    let run := t.scanning
    let t := (t.setFld R.SENSE_CTL Fd.SENSE_CTL_RUN (s.fld R.SENSE_CTL Fd.SENSE_CTL_RUN)).scanHalt
    let t := if run then scanRun t else t
    foldAll (fun t k =>
      if !x.overlay || s.wrote x 0x27 (R.SENSE_LOOP_CFG k) then (t.onLoop k fun y => { y with configured := true }).loopConfig k else t)
      t [0, 1]

/-- The initial values of the mirror (R266). -/
def State.mirrorInit (s : State) : State :=
  let m := foldAll (fun m i =>
    NMap.set (fun _ => false) m i (s.flag (R.DEC_GDSMAP i) Fd.DEC_GDSMAP_INIT)) [] (List.range 4096)
  { s with dec := { s.dec with
    mirror := m, mirrorAt := [], pubs := [], mirrorSet := [], mirrorLoad := s.clk.time } }.criersStop

/-- A stream before anything has happened to it. -/
def stream0 : Stream := {}

/-- A full load empties the ring and sets every SEQ to 0 (R372). A record whose writing had begun goes with the ring. -/
def State.tallyLoad (s : State) : State :=
  let x := s.tally
  let ss : NMap Stream := x.streams.map fun e => (e.1, { e.2 with seq := 0 })
  let st : NMap (List Rec) := x.staging.map fun e => (e.1, e.2.filter fun r => r.left == r.len)
  { s with tally := { x with
    streams := ss.filter fun e => !(e.2 == stream0)
    staging := st.filter fun e => !e.2.isEmpty
    placed := [], head := 0, wp := 0, full := false } }.setReg R.TALLY_RP 0

/-- Streams that an overlay disables end as by a write of EN = 0 (R377). -/
def State.streamsLoad (s t : State) : State :=
  foldAll (fun t st =>
    if s.streamOn st && !t.streamOn st then
      streamDisable st (t.raise (R.TALLY_STREAM_CTL st) Fd.TALLY_STREAM_CTL_EN)
    else t) t (List.range 25)

/-- Lanes that a load binds get EN = 1 (R172). -/
def State.lanesLoad (s : State) (b : Nat) : State :=
  foldAll (fun s l => laneEnable b l s) s (pick 32 (s.laneBound b))

/-- The section writes the program memory of engine `e` of Bench `b`. -/
def State.loadsProgram (s : State) (x : Image) (b e : Nat) : Bool :=
  (s.allRuns x).any fun r =>
    overlaps r.2.target r.2.count (R.ASSAY_PROG b e 0 0) 0x8000

/-- Engines of an enabled Bench whose ASSAY section holds a program get EN = 1 (R243). -/
def State.enginesLoad (s t : State) (x : Image) (b : Nat) : State :=
  if t.flag (R.BENCH_CTL b) Fd.BENCH_CTL_EN then
    foldAll (fun t e =>
      if s.loadsProgram x b e then (t.raise (R.ASSAY_CTL b e) Fd.ASSAY_CTL_EN).engStart b e false else t) t (List.range 4)
  else t

/-- Channel latches of Bench `b` are cleared (R256), and its tags. -/
def State.latchesLoad (s : State) (b : Nat) : State :=
  { s with dec := { s.dec with
    latch := NMap.erase (fun k => k / 32 == b) s.dec.latch, latchAt := NMap.erase (fun k => k / 32 == b) s.dec.latchAt
    tags := NMap.erase (fun k => k / 256 == b) s.dec.tags } }

/-- The Pattern is gone (R65, R78, R83): no structure, no enabled Bench, PATTERNED 0. -/
def State.unpatterned (s : State) : State :=
  let s := foldAll State.benchStop s (List.range 8)
  let s := s.structCleared.allCachesLost
  let s := (s.clear R.TOP_MODE Fd.TOP_MODE_PATTERNED).setReg64 R.TOP_PAT_ID_LO 0
  let s := (s.setReg64 R.TOP_PAT_OVL_ID_LO 0).clear R.TOP_PAT_OVL_COUNT Fd.TOP_PAT_OVL_COUNT_COUNT
  let looms : NMap Loom := s.looms.map fun e => (e.1, { e.2 with windows := [] })
  { s with pat := { isSealed := s.pat.isSealed }, segs := { s.segs with resident := [] }, looms := looms }

/-- What every successful load does after its runs: `s` before, `t` after them. -/
def State.loadEffects (s t : State) (x : Image) : State :=
  let t : State := { t with segs := { t.segs with resident := s.newResident x } }
  let t := foldAll (fun t id => t.dirPurge id) t (s.segsWritten x)
  let t := foldAll (fun t b => if !x.overlay || x.has 0x10 b then t.windowsLoad b else t) t x.benches
  let t := foldAll (fun t b => if !x.overlay || x.has 0x16 b then t.tonesLoad b else t) t x.benches
  let t := foldAll State.latchesLoad t x.benches
  let t := s.slowLoad t x
  foldAll (fun t b => if !x.overlay || x.has 0x10 b then t.lanesLoad b else t) t x.benches

/-- A full load succeeds (R78, R70, R372): the new Pattern replaces the old one. -/
def State.fullDone (s t : State) (x : Image) : State :=
  let t := (s.loadEffects t x).mirrorInit.tallyLoad
  let t := (t.raise R.TOP_MODE Fd.TOP_MODE_PATTERNED).clear R.TOP_MODE Fd.TOP_MODE_WIPED
  let t := (t.setReg64 R.TOP_PAT_ID_LO x.id).setReg64 R.TOP_PAT_OVL_ID_LO 0
  let t := t.clear R.TOP_PAT_OVL_COUNT Fd.TOP_PAT_OVL_COUNT_COUNT
  let t : State := { t with pat := { budget := s.budgetRec x, isSealed := x.isSealed } }
  let t := foldAll (fun t b => if t.binds b then t.benchAsk b else t.benchStop b) t (List.range 8)
  let t := foldAll (fun t b => s.enginesLoad t x b) t (List.range 8)
  foldAll State.residentsMade { t with later := [] } (List.range 8)

/-- An overlay succeeds (R82, R83): a wiped Bench it restores is enabled, at once or at the next entry to ARMED. -/
def State.overlayDone (s t : State) (x : Image) : State :=
  let t := s.streamsLoad (s.loadEffects t x)
  let t := (t.setReg64 R.TOP_PAT_OVL_ID_LO x.id).satAdd R.TOP_PAT_OVL_COUNT Fd.TOP_PAT_OVL_COUNT_COUNT 1
  let t : State := { t with pat := { t.pat with budget := s.budgetRec x } }
  let t := foldAll (fun t b =>
    if s.wiped b then
      (t.setFld R.TOP_MODE Fd.TOP_MODE_WIPED (clrBit (t.fld R.TOP_MODE Fd.TOP_MODE_WIPED) b)).benchAsk b
    else t) t x.touched
  let t := foldAll (fun t b => s.enginesLoad t x b) t x.touched
  foldAll State.residentsMade { t with later := [] } (List.range 8)

/-- The samples that a load has written are wiped (R78). -/
def State.samplesWiped (s t : State) (x : Image) : State :=
  foldAll (fun t e => if e.2.inMem then (t.memZero e.2.target e.2.count).dropCopies e.2.target e.2.count else t) t
    (s.allRuns x)

/-- Read-back failed in section `i` (R78, R83): a full load leaves no Pattern and wipes what it wrote; an overlay wipes the
Benches it touched, or with a device-scoped store leaves no Pattern and, in HOLD, goes to IDLE. CTL.EN of a wiped Bench
clears: DESIGN CHOICE, log entry 22. -/
def State.loadFailed (s t : State) (x : Image) (l : Load) (wipe : Bool) (i : Nat) : State :=
  let device := !(x.secs.any fun y => y.idx == i && scopeB y.typ)
  if !x.overlay then (s.samplesWiped t x).unpatterned.loadEnd l wipe 0x16 i
  else if device then
    let t := t.unpatterned.loadEnd l wipe 0x16 i
    if s.mode == .hold then t.beginIdle else t
  else
    (foldAll (fun t b => ((t.benchStop b).benchWipe b).orFld R.TOP_MODE Fd.TOP_MODE_WIPED (2 ^ b)) t x.touched).loadEnd l
      wipe 0x16 i

/-- APPLY_PHASE_DONE (R78, R82, R83): every run is written and read back; a Bench reset held by an overlay follows (R86). -/
def applyPhaseDone (fails : Option Nat) (s : State) : State :=
  match s.load with
  | none => s
  | some l =>
    if l.phase != .apply then s
    else
      let x := s.image l.src l.len
      let wipe := s.secretImage l
      let t := s.staged_ x
      let e := match fails with
        | some i => s.loadFailed t x l wipe i
        | none => (if x.overlay then s.overlayDone t x else s.fullDone t x).loadEnd l wipe 0 0
      foldAll (fun e b => e.benchResetBegin b) e (bitsSet 8 l.heldReset)

/-- APPLY_PHASE_DONE (R78). -/
def execApplyPhaseDone (readBackFails : Option (Fin 256)) (s : State) : Host.Outcome State Fault Refusal :=
  whenPowered s (applyPhaseDone (readBackFails.map (·.val)))

/-! ### Bench reset (R63, R64, R86) -/

/-- A reset of one Bench meets a load (R86): an overlay that touches it ends in its check phase, and holds the reset in its
apply phase. -/
def State.benchResetOne (s : State) (b : Nat) : State :=
  match s.load with
  | none => s.benchResetBegin b
  | some l =>
    if l.overlay && (s.image l.src l.len).touched.contains b then
      match l.phase with
      | .check => (s.loadEnd l (s.secretImage l) 0x17 0).benchResetBegin b
      | .apply => { s with load := some { l with heldReset := setBit l.heldReset b } }
    else s.benchResetBegin b

/-- The modes that accept a Bench reset (R63). -/
def Mode.benchResets : Mode → Bool
  | .armed | .run | .hold | .service => true
  | _ => false

/-- BENCH_RESET (R63): a TOP.RESET write with a Bench mask. -/
def benchReset (mask : Nat) (s : State) : State :=
  if s.mode.benchResets then
    foldAll State.benchResetOne (s.orFld R.TOP_RESET_CAUSE Fd.TOP_RESET_CAUSE_BENCH mask) (bitsSet 8 mask)
  else s.modeErr 2 s.mode.code

/-- BENCH_RESET (R63). -/
def execBenchReset (who : Who) (mask : BitVec 8) (s : State) : Host.Outcome State Fault Refusal :=
  whenReached who s (benchReset mask.toNat)

end Sys2Proof.Machine
end

