-- ==== Sys2Proof/Machine/RegRead.lean ====
section
/-!
DEFINITION. Register reads (R9, R10, R89): the word that a register shows, with its live fields computed from the state;
the captures of _LO/_HI pairs; and the read of an interrupt code (R296).
-/
namespace Sys2Proof.Machine

/-- Fields and what they show. -/
abbrev Shown := List (Bits × Nat)

/-- The stored word of a register with some fields replaced by what they show live. -/
def State.showing (s : State) (off : Nat) (fs : Shown) : Nat :=
  fs.foldl (fun w f => putBits w f.1.lo f.1.w f.2) (s.reg off).toNat

/-- Bench of an offset in the Bench blocks (R445). -/
def offBench (off : Nat) : Nat := (off - 0x400100000) / 0x100000

/-- Instance of an offset in a family of registers from `base` on at one stride. -/
def offIdx (off base stride : Nat) : Nat := (off - base) / stride

/-- A mask of the members 0 to n − 1 for which `p` holds. -/
def maskOf (n : Nat) (p : Nat → Bool) : Nat := (pick n p).foldl setBit 0

/-! ### TOP and BENCHn -/

/-- The codes of TOP.MODE.MODE and TARGET (R47). -/
def State.modeShown (s : State) : Nat × Nat :=
  match s.transit, s.load with
  | some t, _ => (s.mode.code, t.dst.code)
  | none, some l => if l.overlay then (s.mode.code, s.mode.code) else (Mode.pattern.code, Mode.idle.code)
  | none, none => (s.mode.code, s.mode.code)

/-- Live fields of the TOP block. -/
def State.topShown (s : State) (off : Nat) : Shown :=
  if off = R.TOP_MODE then
    [(Fd.TOP_MODE_MODE, s.modeShown.1), (Fd.TOP_MODE_TARGET, s.modeShown.2),
     (Fd.TOP_MODE_TRANSIT, bit s.inTransit)]
  else if off = R.TOP_PAT_STATUS then
    [(Fd.TOP_PAT_STATUS_PHASE, match s.load with
      | none => 0
      | some l => match l.phase with
        | .check => 1
        | .apply => 2)]
  else if off = R.TOP_BUDGET_STATUS then [(Fd.TOP_BUDGET_STATUS_FITS, bit s.fitsNow)]
  else if off = R.TOP_BUDGET_CAP then
    [(Fd.TOP_BUDGET_CAP_CAP_RT, s.capRt), (Fd.TOP_BUDGET_CAP_RATE, s.memc.rate),
     (Fd.TOP_BUDGET_CAP_ACTIVE, s.activeCh)]
  else if off = R.TOP_CORE_STATUS then
    [(Fd.TOP_CORE_STATUS_RUNNING, s.host.coresRun), (Fd.TOP_CORE_STATUS_MGMT_PORTER, bit s.host.mgmtPorter)]
  else if off = R.TOP_SUPPLY then [(Fd.TOP_SUPPLY_OK, 0x7FF - s.pins.railsOut)]
  else if off = R.TOP_PMB_CFG then [(Fd.TOP_PMB_CFG_BUSY, bit s.writesOffsets)]
  else []

/-- Live fields of BENCHn.STATUS. -/
def State.benchShown (s : State) (off : Nat) : Shown :=
  let b := offBench off
  if off = R.BENCH_STATUS b then
    [(Fd.BENCH_STATUS_ACTIVE, bit (s.benchActive b)), (Fd.BENCH_STATUS_STOPPING, bit (s.benchSt b).stopping),
     (Fd.BENCH_STATUS_QUIET, bit (s.benchQuiet b)), (Fd.BENCH_STATUS_EN_PEND, bit (s.benchSt b).enPend),
     (Fd.BENCH_STATUS_LANES_F, (pick 32 fun l => s.flag (R.LOOM_LANE_BIND b l) Fd.LOOM_LANE_BIND_FEN).length)]
  else []

/-! ### TIME -/

/-- Live fields of the TIME block. -/
def State.timeShown (s : State) (off : Nat) : Shown :=
  if off = R.TIME_NOW_LO then [(Fd.TIME_NOW_LO_NOW, s.clk.time)]
  else if off = R.TIME_NOW_HI then [(Fd.TIME_NOW_HI_NOW, s.clk.time / 2 ^ 32)]
  else if off = R.TIME_ECHO_CTL then [(Fd.TIME_ECHO_CTL_BUSY, bit s.time.echo.isSome)]
  else if off = R.TIME_STATUS then [(Fd.TIME_STATUS_FREE, bit (!s.clk.refclk))]
  else if R.TIME_FDLY 0 ≤ off && decide (off < R.TIME_FDLY 176) then
    let i := offIdx off (R.TIME_FDLY 0) 4
    [(Fd.TIME_FDLY_DLY_CLIP, bit (decide (s.delay i = -8192) || decide (s.delay i = 8191)))]
  else []

/-! ### LOOM -/

/-- FILL of a streaming window in 1/256, rounded down (R135); where nothing is left to divide by, or the quotient does not
fit the field, the manual states no value. -/
def State.fillShown (s : State) (b v : Nat) : Nat :=
  let (f, d) := s.fillOf b v
  if f < d then 256 * f / d else (Config.freeWord s.freeCtr).toNat

/-- SEG_QUERY: the state of the segment whose ID is written there (R114, R128, R131, R132). -/
def State.queryShown (s : State) : Shown :=
  let id := s.fld R.LOOM_SEG_QUERY Fd.LOOM_SEG_QUERY_ID
  let ws := s.segWords id
  [(Fd.LOOM_SEG_QUERY_VALID, bit (dValid ws)), (Fd.LOOM_SEG_QUERY_ACTIVE, bit (s.segActive id)),
   (Fd.LOOM_SEG_QUERY_RETIRING, bit (s.segs.retiring.contains id)), (Fd.LOOM_SEG_QUERY_LOST, bit (dLost ws)),
   (Fd.LOOM_SEG_QUERY_RESIDENT, bit (dResident ws)), (Fd.LOOM_SEG_QUERY_REFS, min 127 (s.segRefs id))]

/-- Live fields of a lane's registers. -/
def State.laneShown (s : State) (off : Nat) : Shown :=
  let b := offBench off
  let l := offIdx off (R.LOOM_LANE_CTL b 0) 128
  let x := s.lane b l
  if off = R.LOOM_LANE_STATUS b l then
    [(Fd.LOOM_LANE_STATUS_STATE, x.st.code), (Fd.LOOM_LANE_STATUS_PEND, x.branches.length),
     (Fd.LOOM_LANE_STATUS_PC, x.pc)]
  else if off = R.LOOM_LANE_CURSOR_LO b l then [(Fd.LOOM_LANE_CURSOR_LO_CURSOR, x.cursor)]
  else if off = R.LOOM_LANE_CURSOR_HI b l then [(Fd.LOOM_LANE_CURSOR_HI_CURSOR, x.cursor / 2 ^ 32)]
  else if off = R.LOOM_LANE_SLOTS b l then
    [(Fd.LOOM_LANE_SLOTS_HELD, (x.slotsHeld (s.clk.time + 1)).1), (Fd.LOOM_LANE_SLOTS_POOL, (x.slotsHeld (s.clk.time + 1)).2)]
  else if off = R.LOOM_LANE_DR b l then [(Fd.LOOM_LANE_DR_DR, x.dr)]
  else []

/-- Live fields of the LOOM block beside the lanes. -/
def State.loomShown (s : State) (off : Nat) : Shown :=
  let b := offBench off
  if off = R.LOOM_PORT_STATUS b then
    let ws := (s.loom b).windows
    [(Fd.LOOM_PORT_STATUS_PANIC, bit (ws.any fun e => e.2.panic)),
     (Fd.LOOM_PORT_STATUS_WINDOWS, (ws.filter fun e => e.2.size != 0).length)]
  else if off = R.LOOM_CACHE_USE b then
    [(Fd.LOOM_CACHE_USE_ACTIVE, unitsHeld ((s.loom b).transients.filter fun t => s.segActive t.seg))]
  else if R.LOOM_VSTREAM b 0 ≤ off && decide (off < R.LOOM_VSTREAM b 80) then
    let v := offIdx off (R.LOOM_VSTREAM b 0) 4
    [(Fd.LOOM_VSTREAM_FILL, s.fillShown b v), (Fd.LOOM_VSTREAM_PANIC, bit (s.window b v).panic),
     (Fd.LOOM_VSTREAM_STREAMING, bit (s.streamsNow b v))]
  else if off = R.LOOM_SLOT_POOL b then [(Fd.LOOM_SLOT_POOL_FREE, s.poolFreeAt b (s.clk.time + 1))]
  else if off = R.LOOM_RETIRE_STATUS then [(Fd.LOOM_RETIRE_STATUS_QUEUED, s.segs.retiring.length)]
  else if off = R.LOOM_SEG_QUERY then s.queryShown
  else []

/-! ### OUT, READ, ASSAY -/

/-- Live fields of the converters and tones of a Bench. -/
def State.outShown (s : State) (off : Nat) : Shown :=
  let b := offBench off
  let c := offIdx off (R.OUT_CONV_CFG b 0) 32
  let u := offIdx off (R.OUT_TONE_FW_LO b 0) 128
  let f := (off - R.OUT_TONE_FW_LO b u - 16) / 16
  if off = R.OUT_STATUS b then [(Fd.OUT_STATUS_SAFE_PARK, bit s.out.parked)]
  else if off < R.OUT_TONE_FW_LO b 0 then
    if off = R.OUT_CONV_FSR b c then [(Fd.OUT_CONV_FSR_RANGE_PEND, bit (s.rangePend b c))] else []
  else if 64 ≤ u then []
  else if off = R.OUT_TONE_CFG b u then [(Fd.OUT_TONE_CFG_BOUND, bit (s.toneVoice b u).isSome)]
  else if off = R.OUT_TONE_FRAME_P b u f then [(Fd.OUT_TONE_FRAME_P_VALUE, (s.frm b u f).p / 256)]
  else if off = R.OUT_TONE_FRAME_F b u f then [(Fd.OUT_TONE_FRAME_F_VALUE, (s.frm b u f).f)]
  else []

/-- Live fields of the flux DACs of a Bench. -/
def State.fluxShown (s : State) (off : Nat) : Shown :=
  let b := offBench off
  let k := offIdx off (R.OUT_FLX_STATUS b 0) 256
  if off = R.OUT_FLX_STATUS b k then
    [(Fd.OUT_FLX_STATUS_TAU_CLIP, bit (s.tauClip b k)), (Fd.OUT_FLX_STATUS_BOUND, bit (s.fluxLane b k).isSome)]
  else []

/-- Live fields of the READ block. -/
def State.readShown (s : State) (off : Nat) : Shown :=
  let b := offBench off
  if off < R.READ_CH_BIND b 0 then
    let a := offIdx off (R.READ_ACQ_CFG b 0) 32
    if off = R.READ_ACQ_CFG b a then [(Fd.READ_ACQ_CFG_ATTN_PEND, bit (s.attnPend b a))] else []
  else
    let c := offIdx off (R.READ_CH_BIND b 0) 64
    if off = R.READ_CH_FLAGS b c then
      [(Fd.READ_CH_FLAGS_OPEN, bit ((s.chan b c).wins.any (·.isOpen s.clk.time)))]
    else []

/-- ASSAYe.STATUS.STATE: STOPPING while a stop is requested (R244). -/
def Engine.shown (x : Engine) : Nat := if x.stopReq && x.runs then 6 else x.st.code

/-- Live fields of an ASSAY block. REGr shows the register only while the engine is stopped (R222). -/
def State.assayShown (s : State) (off : Nat) : Shown :=
  let b := offBench off
  let e := offIdx off (R.ASSAY_CTL b 0) 0x10000
  let x := s.eng b e
  if off = R.ASSAY_STATUS b e then
    [(Fd.ASSAY_STATUS_STATE, x.shown), (Fd.ASSAY_STATUS_FIFO, x.fifo.length),
     (Fd.ASSAY_STATUS_DEPTH, x.stack.length), (Fd.ASSAY_STATUS_FULL, bit (decide (4 ≤ x.stack.length))),
     (Fd.ASSAY_STATUS_PC, x.pc)]
  else if off = R.ASSAY_CHAN b e then
    [(Fd.ASSAY_CHAN_OWED, maskOf 8 fun k => (s.chan b (8 * e + k)).wins.any (·.owed)),
     (Fd.ASSAY_CHAN_LOST, maskOf 8 fun k => x.answers.any fun a => a.lost && a.ch == 8 * e + k)]
  else []

/-! ### FOREMAN -/

/-- Live fields of an effect-log entry (R317). -/
def State.elogShown (s : State) (off : Nat) : Shown :=
  let b := offBench off
  let i := offIdx off (R.FM_ELOG_A b 0) 32
  let e := NMap.get (fun _ => {}) (s.fm b).elog i
  if off = R.FM_ELOG_A b i then
    [(Fd.FM_ELOG_A_ADDR, e.addr), (Fd.FM_ELOG_A_LOP, e.lop), (Fd.FM_ELOG_A_DOP, e.dop),
     (Fd.FM_ELOG_A_DISC, bit e.disc), (Fd.FM_ELOG_A_LATE, bit e.late), (Fd.FM_ELOG_A_TRAP, bit e.trap)]
  else if off = R.FM_ELOG_X b i then [(Fd.FM_ELOG_X_DSEL, e.dsel), (Fd.FM_ELOG_X_EVO, e.evo)]
  else if off = R.FM_ELOG_MASK b i then [(Fd.FM_ELOG_MASK_VALUE, e.mask)]
  else if off = R.FM_ELOG_ISSUE b i then [(Fd.FM_ELOG_ISSUE_VALUE, e.issue)]
  else if off = R.FM_ELOG_SCHED b i then [(Fd.FM_ELOG_SCHED_VALUE, e.sched)]
  else []

/-- Live fields of a FOREMAN block. -/
def State.fmShown (s : State) (off : Nat) : Shown :=
  let b := offBench off
  let f := s.fm b
  if off = R.FM_STATUS b then
    [(Fd.FM_STATUS_STATE, f.st.code), (Fd.FM_STATUS_DEPTH, f.stack.length), (Fd.FM_STATUS_TLEVEL, f.frames.length),
     (Fd.FM_STATUS_TIMED, bit f.region.isSome), (Fd.FM_STATUS_HOLD_PEND, bit s.hold.isSome),
     (Fd.FM_STATUS_QUEUE, f.queue.length), (Fd.FM_STATUS_PC, f.pc),
     (Fd.FM_STATUS_QFULL, bit (decide (16 ≤ f.queue.length)))]
  else if off = R.FM_BASE_LO b then [(Fd.FM_BASE_LO_BASE, f.base)]
  else if off = R.FM_BASE_HI b then [(Fd.FM_BASE_HI_BASE, f.base / 2 ^ 32)]
  else if off = R.FM_TRAP b then [(Fd.FM_TRAP_PEND, f.trapPend)]
  else if off = R.FM_SHOTS_LO b then [(Fd.FM_SHOTS_LO_COUNT, f.shots)]
  else if off = R.FM_SHOTS_HI b then [(Fd.FM_SHOTS_HI_COUNT, f.shots / 2 ^ 32)]
  else if off = R.FM_EVIN b then [(Fd.FM_EVIN_LATCH, f.evLatch)]
  else if off = R.FM_ELOG_HEAD b then [(Fd.FM_ELOG_HEAD_HEAD, f.elogHead)]
  else if R.FM_ELOG_A b 0 ≤ off then s.elogShown off
  else []

/-! ### DEC, EVT -/

/-- Live fields of the DEC block. -/
def State.decShown (s : State) (off : Nat) : Shown :=
  if off = R.DEC_CFG then [(Fd.DEC_CFG_DEVID, s.host.devid)]
  else if R.DEC_MIRROR 0 ≤ off && decide (off < R.DEC_MIRROR 128) then
    let w := offIdx off (R.DEC_MIRROR 0) 4
    [(Fd.DEC_MIRROR_BITS, maskOf 32 fun j => s.gds (32 * w + j))]
  else if R.DEC_CRIER_CFG 0 ≤ off && decide (off < R.DEC_CRIER_CFG 14) then
    let p := offIdx off (R.DEC_CRIER_CFG 0) 64
    if off = R.DEC_CRIER_STATUS p then
      [(Fd.DEC_CRIER_STATUS_UP, bit (s.port p).up), (Fd.DEC_CRIER_STATUS_RX_SRC, (s.port p).rxSrc)]
    else []
  else if R.DEC_TAG_CH 0 0 ≤ off then
    let b := offIdx off (R.DEC_TAG_CH 0 0) 4096
    let t := offIdx off (R.DEC_TAG_CH b 0) 16
    let x := s.tag b t
    if off = R.DEC_TAG_STAT b t then
      [(Fd.DEC_TAG_STAT_ACT, x.act), (Fd.DEC_TAG_STAT_ARMED, bit (x.st == .armed)),
       (Fd.DEC_TAG_STAT_READY, bit (x.st == .ready)), (Fd.DEC_TAG_STAT_DONE, bit (x.st == .done))]
    else if off = R.DEC_TAG_IDX b t then [(Fd.DEC_TAG_IDX_INDEX, x.idx)]
    else []
  else []

/-- Live fields of the EVT block. -/
def State.evtShown (s : State) (off : Nat) : Shown :=
  if R.EVT_LINE 0 ≤ off && decide (off < R.EVT_LINE 16) then
    let w := offIdx off (R.EVT_LINE 0) 4
    [(Fd.EVT_LINE_LEVEL, maskOf 32 fun i => (lineGet s.fabric.lines (32 * w + i)).level)]
  else if R.EVT_CONS_EN 0 ≤ off && decide (off < R.EVT_CONS_EN 256) then
    let c := offIdx off (R.EVT_CONS_EN 0) 16
    if off = R.EVT_CONS_EN c then [(Fd.EVT_CONS_EN_BUSY, bit (s.consBusy c))] else []
  else if R.EVT_CELL_CFG 0 ≤ off then
    let j := offIdx off (R.EVT_CELL_CFG 0) 16
    if off = R.EVT_CELL_CFG j then
      [(Fd.EVT_CELL_CFG_OUT, bit (NMap.get (fun _ => {}) s.fabric.cells j).out)]
    else []
  else []

/-! ### MEM, TALLY -/

/-- MEM.STATUS. -/
def State.memStatus (s : State) : Shown :=
  let dev := fun (p : MemDev → Bool) => (List.range 9).any fun d => p (s.dev d)
  let mig := match s.memc.maint with
    | some (.migrate d _ _) => (true, d)
    | _ => (false, 0)
  let train := match s.memc.maint with
    | some (.retrain _) => true
    | _ => false
  [(Fd.MEM_STATUS_SELFREF, bit s.memc.selfRef), (Fd.MEM_STATUS_TRAINING, bit train),
   (Fd.MEM_STATUS_MIGRATING, bit mig.1), (Fd.MEM_STATUS_RETIRE_DUE, bit (dev fun x => x.retireDue != 0)),
   (Fd.MEM_STATUS_RETRAIN_DUE, bit s.retrainDue), (Fd.MEM_STATUS_HOT, bit s.memc.hot),
   (Fd.MEM_STATUS_GUARD, bit s.memc.guard), (Fd.MEM_STATUS_DEGRADED, bit (s.memDead && !s.memc.cacheOnly)),
   (Fd.MEM_STATUS_CACHE_ONLY, bit s.memc.cacheOnly), (Fd.MEM_STATUS_MIG_DEV, mig.2)]

/-- MEM.MAP: the device that stands in each slot, a DEAD one included. -/
def State.memMap (s : State) : Nat :=
  (List.range 8).foldl (fun n slot =>
    let d := (List.range 9).find? fun d =>
      ((s.dev d).st == .active || (s.dev d).st == .dead) && (s.dev d).slot == slot
    n + (d.getD slot) * 16 ^ slot) 0

/-- Live fields of the MEM block. -/
def State.memShown (s : State) (off : Nat) : Shown :=
  if off = R.MEM_STATUS then s.memStatus
  else if off = R.MEM_MAP then [(Fd.MEM_MAP_SLOTS, s.memMap)]
  else if off = R.MEM_REFDEBT then
    [(Fd.MEM_REFDEBT_DEBT, ((List.range 18).foldl (fun n c => max n (s.mch c).debt) 0 + 15) / 16)]
  else if off = R.MEM_TEMP then
    [(Fd.MEM_TEMP_TEMP, lowBits 9 s.memc.temp), (Fd.MEM_TEMP_DEV, s.memc.tempDev)]
  else if R.MEM_DEV_STATE 0 ≤ off && decide (off < R.MEM_DEV_STATE 9) then
    let d := offIdx off (R.MEM_DEV_STATE 0) 8
    let x := s.dev d
    if off = R.MEM_DEV_STATE d then
      [(Fd.MEM_DEV_STATE_STATE, x.st.code), (Fd.MEM_DEV_STATE_SLOT, x.slot),
       (Fd.MEM_DEV_STATE_DUE, bit (x.retireDue != 0))]
    else
      [(Fd.MEM_DEV_ERR_CE_24H, min 0xFFFFF (hourSum x.ce)), (Fd.MEM_DEV_ERR_UE_24H, min 15 (hourSum x.ue))]
  else []

/-- Live fields of the TALLY block. -/
def State.tallyShown (s : State) (off : Nat) : Shown :=
  if off = R.TALLY_STATUS then
    [(Fd.TALLY_STATUS_RING_FULL, bit s.tally.full),
     (Fd.TALLY_STATUS_STAGE_FULL, bit ((List.range 25).any fun st => decide (stageCap st ≤ s.stageUse st)))]
  else if off = R.TALLY_WP then [(Fd.TALLY_WP_OFS, s.tally.wp)]
  else if off = R.TALLY_DMA_HWP then [(Fd.TALLY_DMA_HWP_OFS, s.tally.hwp)]
  else if R.TALLY_STREAM_CTL 0 ≤ off && decide (off < R.TALLY_STREAM_CTL 25) then
    let st := offIdx off (R.TALLY_STREAM_CTL 0) 16
    if off = R.TALLY_STREAM_CTL st then
      [(Fd.TALLY_STREAM_CTL_GAP_PEND, bit ((s.stream st).drops != 0)),
       (Fd.TALLY_STREAM_CTL_FLUSHED, bit ((s.staged (streamSrc st)).all fun r => r.stream != st))]
    else if off = R.TALLY_STREAM_SEQ st then [(Fd.TALLY_STREAM_SEQ_SEQ, (s.stream st).seq)]
    else []
  else []

/-! ### The slow side -/

/-- Live fields of the BIAS block. -/
def State.biasShown (s : State) (off : Nat) : Shown :=
  let p := s.slow.panel
  if off = R.BIAS_STATUS then [(Fd.BIAS_STATUS_SAFE, bit s.safeLow)]
  else if off = R.BIAS_PANEL then
    [(Fd.BIAS_PANEL_PRESENT, p), (Fd.BIAS_PANEL_SAFE_N, p / 0x10000), (Fd.BIAS_PANEL_LOAD_N, p / 0x20000)]
  else if R.BIAS_CH_CTL 0 ≤ off then
    let n := offIdx off (R.BIAS_CH_CTL 0) 64
    let x := s.bias n
    if off = R.BIAS_CH_CTL n then
      [(Fd.BIAS_CH_CTL_PARKED, bit x.parked), (Fd.BIAS_CH_CTL_GLIDING, bit x.gliding),
       (Fd.BIAS_CH_CTL_RANGE_PEND, bit x.rangePend), (Fd.BIAS_CH_CTL_SIN_RUN, bit x.sin),
       (Fd.BIAS_CH_CTL_RANGE, x.range)]
    else if off = R.BIAS_CH_TARGET n then [(Fd.BIAS_CH_TARGET_CODE, x.target)]
    else []
  else []

/-- Live fields of the SENSE block. -/
def State.senseShown (s : State) (off : Nat) : Shown :=
  if off = R.SENSE_STATUS then
    [(Fd.SENSE_STATUS_ENTRY, s.slow.scan.entry),
     (Fd.SENSE_STATUS_SETTLING, bit (s.scanning && decide (s.clk.now < s.slow.scan.settle)))]
  else if R.SENSE_LOOP_CFG 0 ≤ off && decide (off < R.SENSE_LOOP_CFG 2) then
    let k := offIdx off (R.SENSE_LOOP_CFG 0) 32
    if off = R.SENSE_LOOP_STAT k then
      [(Fd.SENSE_LOOP_STAT_IOUT, (s.loop k).sensed), (Fd.SENSE_LOOP_STAT_AT_FAULT, bit (s.loop k).atFault)]
    else []
  else []

/-- Live fields of the THERM block. -/
def State.thermShown (s : State) (off : Nat) : Shown :=
  if off = R.THERM_STATUS then
    [(Fd.THERM_STATUS_TJ, lowBits 10 s.therm.tj), (Fd.THERM_STATUS_HOT, s.therm.hot),
     (Fd.THERM_STATUS_ACTION, s.therm.action.code), (Fd.THERM_STATUS_REARM_OK, bit s.therm.rearmOk)]
  else if R.THERM_SENSE 0 ≤ off && decide (off < R.THERM_SENSE 32) then
    let x := s.sensor (offIdx off (R.THERM_SENSE 0) 4)
    [(Fd.THERM_SENSE_TEMP, lowBits 10 x.temp), (Fd.THERM_SENSE_BROKEN, bit (x.broken != 0)),
     (Fd.THERM_SENSE_CAUSE, x.broken)]
  else if R.THERM_DIODE 0 ≤ off then
    let k := offIdx off (R.THERM_DIODE 0) 4
    [(Fd.THERM_DIODE_TEMP, lowBits 10 (NMap.get (fun _ => 0) s.therm.diodes k)),
     (Fd.THERM_DIODE_FAULT, bit (bitAt s.therm.diodeFault k))]
  else []

/-- Live fields of the AGE block. -/
def State.ageShown (s : State) (off : Nat) : Shown :=
  let t := s.therm
  if off = R.AGE_STATUS then
    [(Fd.AGE_STATUS_RUNNING, bit t.surveying), (Fd.AGE_STATUS_PLAN_PEND, bit t.pend.isSome),
     (Fd.AGE_STATUS_RATE_UP_PEND, bit t.rateUpPend)]
  else if off = R.AGE_PLAN then [(Fd.AGE_PLAN_SEQ, t.plan.seq)]
  else if off = R.AGE_PLAN_PEND then [(Fd.AGE_PLAN_PEND_SEQ, (t.pend.map (·.seq)).getD 0)]
  else if R.AGE_DOM 0 ≤ off && decide (off < R.AGE_DOM 4) then
    let d := offIdx off (R.AGE_DOM 0) 4
    [(Fd.AGE_DOM_OFS, lowBits 8 (t.plan.offset d)),
     (Fd.AGE_DOM_PEND, lowBits 8 ((t.pend.map (·.offset d)).getD 0))]
  else if off = R.AGE_LIFE then [(Fd.AGE_LIFE_MONTHS, t.plan.life)]
  else if off = R.AGE_LEDGER then [(Fd.AGE_LEDGER_USED, s.host.ledger.length)]
  else if off = R.AGE_LEDGER_SEQ then [(Fd.AGE_LEDGER_SEQ_SEQ, (s.host.ledger.getLast?.map (·.seq)).getD 0)]
  else []

/-- Live fields of the PORTER and LINK blocks. -/
def State.hostShown (s : State) (off : Nat) : Shown :=
  let h := s.host
  if off = R.PORTER_STATUS then [(Fd.PORTER_STATUS_BUSY, bit h.job.isSome)]
  else if off = R.PORTER_LC then
    [(Fd.PORTER_LC_STATE, (lifeCycle h.otp).code), (Fd.PORTER_LC_OWN_CNT, h.otp.ownCnt),
     (Fd.PORTER_LC_PKEY, bit h.patternKey), (Fd.PORTER_LC_FW_VER, h.fwVer)]
  else if off = R.PORTER_SERIAL_LO then [(Fd.PORTER_SERIAL_LO_SERIAL, h.otp.serial)]
  else if off = R.PORTER_SERIAL_HI then [(Fd.PORTER_SERIAL_HI_SERIAL, h.otp.serial / 2 ^ 32)]
  else if R.LINK_CARTER 0 ≤ off && decide (off < R.LINK_CARTER 5) then
    [(Fd.LINK_CARTER_STATE, s.carter (offIdx off (R.LINK_CARTER 0) 4))]
  else if off = R.LINK_REACH_LO then [(Fd.LINK_REACH_LO_DEV, h.reach)]
  else if off = R.LINK_REACH_HI then [(Fd.LINK_REACH_HI_DEV, h.reach / 2 ^ 32)]
  else []

/-! ### The word that a register shows -/

/-- The live fields of the register at an offset, by block (R445). -/
def State.shown (s : State) (off : Nat) : Shown :=
  if off < 0x400010000 then s.topShown off
  else if off < 0x400020000 then s.timeShown off
  else if off < 0x400030000 then s.memShown off
  else if off < 0x400040000 then s.decShown off
  else if off < 0x400050000 then s.evtShown off
  else if off < 0x400060000 then s.tallyShown off
  else if off < 0x400070000 then s.biasShown off
  else if off < 0x400080000 then s.senseShown off
  else if off < 0x400090000 then s.thermShown off
  else if off < 0x4000A0000 then s.ageShown off
  else if off < 0x400100000 then s.hostShown off
  else
    let r := (off - 0x400100000) % 0x100000
    if r < 0x10000 then s.benchShown off
    else if r < 0x11000 then s.loomShown off
    else if r < 0x12000 then s.laneShown off
    else if r < 0x20000 then s.loomShown off
    else if r < 0x24000 then s.outShown off
    else if r < 0x30000 then s.fluxShown off
    else if r < 0x40000 then s.readShown off
    else if r < 0x80000 then s.assayShown off
    else s.fmShown off

/-- The word that a register shows to a read without captures. Write-only and reserved fields read as 0 (R10, R11). -/
def State.regWord (s : State) (off : Nat) : Nat := s.showing off (s.shown off)

/-! ### Captures (R89) -/

/-- The capturing pairs: for an offset of a _LO half, its _HI half and, for a trigger timestamp, the register whose FRAC is
captured with it. -/
def captureOf (off : Nat) : Option (Nat × Option Nat) :=
  if off = R.TIME_NOW_LO then some (R.TIME_NOW_HI, none)
  else if R.TIME_TRIG_CTL 0 ≤ off && decide (off < R.TIME_TRIG_CTL 8) then
    let k := offIdx off (R.TIME_TRIG_CTL 0) 16
    if off = R.TIME_TRIG_TS_LO k then some (R.TIME_TRIG_TS_HI k, some (R.TIME_TRIG_STAT k)) else none
  else if 0x400100000 ≤ off && decide (off < 0x400900000) then
    let b := offBench off
    let l := offIdx off (R.LOOM_LANE_CTL b 0) 128
    if off = R.LOOM_LANE_CURSOR_LO b l && decide (l < 32) then some (R.LOOM_LANE_CURSOR_HI b l, none)
    else if off = R.FM_BASE_LO b then some (R.FM_BASE_HI b, none)
    else if off = R.FM_SHOTS_LO b then some (R.FM_SHOTS_HI b, none)
    else none
  else none

/-- Key of a requester's capture of the register at an offset. -/
def capKey (who : Who) (off : Nat) : Nat := who.code * 2 ^ 36 + off

/-- What the requester has captured for a register, plus 2^32; 0 for nothing. -/
def State.captured (s : State) (who : Who) (off : Nat) : Nat := NMap.get (fun _ => 0) s.captures (capKey who off)

/-- Record a capture. -/
def State.capture (s : State) (who : Who) (off v : Nat) : State :=
  { s with captures := NMap.set (fun _ => 0) s.captures (capKey who off) (v + 2 ^ 32) }

/-- The word that a 32-bit read of a register returns to a requester: a captured half, or a captured FRAC within
TRIGk_STAT, in place of the present one. -/
def State.wordFor (s : State) (who : Who) (off : Nat) : Nat :=
  let w := s.regWord off
  let c := s.captured who off
  if c = 0 then w
  else if R.TIME_TRIG_CTL 0 ≤ off && decide (off < R.TIME_TRIG_CTL 8) &&
      off == R.TIME_TRIG_STAT (offIdx off (R.TIME_TRIG_CTL 0) 16) then
    putBits w Fd.TIME_TRIG_STAT_FRAC.lo Fd.TIME_TRIG_STAT_FRAC.w c
  else c % 2 ^ 32

/-- A 32-bit read of a _LO half captures its _HI half, and FRAC where the pair names it, for the requester (R89). -/
def State.takeCapture (s : State) (who : Who) (off : Nat) : State :=
  match captureOf off with
  | none => s
  | some (hi, frac) =>
    let s1 := s.capture who hi (s.regWord hi)
    match frac with
    | none => s1
    | some st => s1.capture who st (s.fld st Fd.TIME_TRIG_STAT_FRAC)

/-! ### Reads with an effect -/

/-- IRQ_CODE_READ (R296): a read of FOREMAN.TRAP returns IRQ_CODE and clears it. -/
def irqCodeRead (b : Nat) (s : State) : State :=
  ({ s with readData := s.regWord (R.FM_TRAP b) } : State).clear (R.FM_TRAP b) Fd.FM_TRAP_IRQ_CODE

/-- IRQ_CODE_READ (R296). -/
def execIrqCodeRead (who : Who) (b : Fin 8) (s : State) : Host.Outcome State Fault Refusal :=
  whenReached who s (irqCodeRead b)

/-- The registers of the Assay engines that REGr reaches: engine, register and half of an offset. -/
def assayRegOf (off : Nat) : Option (Nat × Nat × Nat × Bool) :=
  if 0x400100000 ≤ off && decide (off < 0x400900000) then
    let b := offBench off
    let e := offIdx off (R.ASSAY_CTL b 0) 0x10000
    let rel := off - R.ASSAY_REG_LO b e 0
    if R.ASSAY_REG_LO b e 0 ≤ off && decide (rel < 376) && decide (e < 4) then some (b, e, rel / 8, rel % 8 == 4)
    else none
  else none

/-- One 32-bit register of a read, with what the read does: the captures of a 32-bit access, the clearing of IRQ_CODE, and
the rule of REGr. The word is in `readData`. -/
def State.readOne (s : State) (who : Who) (view : Nat) (single : Bool) : State :=
  let off := canonOff view
  match assayRegOf off with
  | some (b, e, r, hi) => assayRegAccess who b e r hi none s
  | none =>
    if 0x400180000 ≤ off && off == R.FM_TRAP (offBench off) then irqCodeRead (offBench off) s
    else if single then ({ s with readData := s.wordFor who off } : State).takeCapture who off
    else { s with readData := s.regWord off }

/-- A read of a register at an offset of its view. -/
def State.readReg (s : State) (who : Who) (view size : Nat) : State :=
  if size = 4 then s.readOne who view true
  else
    let s := s.readOne who view false
    let lo := s.readData
    let s := s.readOne who (view + 4) false
    { s with readData := lo + s.readData * 2 ^ 32 }

/-- Every 32-bit word of a read of registers is implemented, and its size and alignment are those of R9. -/
def regAccessOk (off size : Nat) : Bool :=
  (size == 4 || size == 8) && off % size == 0 && (regAt (canonOff off)).isSome &&
    (size == 4 || (regAt (canonOff (off + 4))).isSome)

/-! ### Windows -/

/-- A 32-bit word of a memory window (R119, R261, R446): mask ROM of the Foreman reads as its microwords (R303). -/
def State.winWord (s : State) (off : Nat) : Nat :=
  if 0x430000000 ≤ off && winPart ((off - 0x430000000) % 0x1000000) == some .control then
    let rel := (off - 0x430000000) % 0x1000000 - 0x800000
    let w := rel / 32
    let h := rel % 32 / 4
    if w < 0x4000 then bitsOf (Config.romWord (BitVec.ofNat 14 w)).toNat (32 * h) 32 else (s.reg off).toNat
  else (s.reg off).toNat

/-- The window has content at an offset (R445, R446). -/
def winHas (off : Nat) : Bool :=
  isWindow off && (decide (off < 0x430000000) || (winPart ((off - 0x430000000) % 0x1000000)).isSome)

/-- Sizes and alignments that a window serves: 32, 64 and 128 bits, and the 16-bit entries of the OLT (R119, R224,
R261). -/
def winAccessOk (off size : Nat) : Bool :=
  winHas off && winHas (off + size - 1) && off % size == 0 &&
    (size == 4 || size == 8 || size == 16 || (size == 2 && decide (off < 0x410400000)))

/-- The bytes of a window as a little-endian number. -/
def State.winValue (s : State) (off size : Nat) : Nat :=
  if size = 2 then s.winWord (4 * (off / 4)) / 2 ^ (8 * (off % 4)) % 2 ^ 16
  else (List.range (size / 4)).foldl (fun n i => n + s.winWord (off + 4 * i) * 2 ^ (32 * i)) 0

/-- A read of a window by this requester is refused while the Pattern is sealed (R74). -/
def State.sealedFor (s : State) (who : Who) : Bool := s.pat.isSealed && (who == .host || who == .cores)

/-! ### CAPTURE_READ, DENIED_READ -/

/-- A request for the aperture of a device that is absent or not reachable, at the lead (R440). -/
def State.unreachable (s : State) (dev : Nat) : Bool := s.host.devid == 0 && !bitAt s.host.reach dev

/-- The path of a requester to an offset of this aperture is open: what lies in SRAM or waveform memory is closed to it while
SANITISE_OPEN is 1 (R58). -/
def State.pathOpen (s : State) (who : Who) (off : Nat) : Bool :=
  if off < memSize || isWindow off then s.dataOpen who else s.reaches who

/-- Such a request is counted. -/
def State.unreach (s : State) : State := s.satAdd R.LINK_TREE Fd.LINK_TREE_UNREACH 1

/-- CAPTURE_READ (R89): a 32-bit read of a register; a read of a capturing _LO half captures for the requester. A refused
offset reads 0 (R445). -/
def captureRead (who : Who) (off : Nat) (s : State) : State :=
  if regAccessOk off 4 then s.readReg who off 4 else ({ s with readData := 0 } : State).denied who off false

/-- CAPTURE_READ (R89). -/
def execCaptureRead (who : Who) (off : BitVec 36) (s : State) : Host.Outcome State Fault Refusal :=
  whenReached who s (captureRead who off.toNat)

/-- A read within this device's aperture (R9, R74, R77, R119, R445, R452): refused reads return 0. -/
def apertureRead (who : Who) (off size : Nat) (s : State) : State :=
  let no := ({ s with readData := 0 } : State).denied who off false
  if off < memSize then
    if s.memServes && (s.memRefuses who off size || (s.inStaging off size && (who == .host || who == .cores))) then no
    else waveformRead who off .clean s
  else if isWindow off then
    if !winAccessOk off size || s.sealedFor who then no
    else if 0x420000000 ≤ off && decide (off < 0x430000000) then
      (if s.memServes then { s.memTouch with readData := s.winValue off size }
       else if s.mode == .keep && who == .host then ({ s with readData := 0 } : State).emit (.completion 0)
       else { s with readData := 0 })
    else { s with readData := s.winValue off size }
  else if regAccessOk off size then s.readReg who off size
  else no

/-- DENIED_READ (R9, R440): a read through the aperture of a device. The request reaches this device if it names it; a
request for an absent device counts at the lead and completes with Unsupported Request. -/
def deniedRead (who : Who) (dev off size : Nat) (s : State) : State :=
  if dev = s.host.devid || who != .host then (if s.pathOpen who off then apertureRead who off size s else s)
  else if s.unreachable dev then ({ s with readData := 0 } : State).unreach.emit (.completion 0)
  else s

/-- DENIED_READ (R9). -/
def execDeniedRead (who : Who) (dev : Fin 64) (off : BitVec 36) (size : Nat) (s : State) :
    Host.Outcome State Fault Refusal := whenReached who s (deniedRead who dev off.toNat size)

end Sys2Proof.Machine
end

