-- ==== Sys2Proof/Machine/RegWrite.lean ====
section
/-!
DEFINITION. REGISTER_WRITE (R9 to R13, R440, R445, R484): a write to a register acts field by field under the access
codes; a register whose write is a row of its own acts as that row says; writes to the memory windows follow their
chapters' rules.
-/
namespace Sys2Proof.Machine

/-! ### Field by field (R484) -/

/-- A field of a write that may not be written now: RWP outside a load, RWL while its block is not quiet. -/
def RegField.kept (f : RegField) (quiet : Bool) : Bool :=
  match f.acc with
  | .rwp => true
  | .rwl => !quiet
  | _ => false

/-- The word after a write of `new`: every field under its own code, kept fields unchanged. -/
def RegDesc.writeQuiet (d : RegDesc) (quiet : Bool) (old new : Nat) : Nat :=
  d.fields.foldl (fun w f => if f.kept quiet then w else putBits w f.lo f.w (fieldWrite old new f)) old

/-- The write gives a kept field a value different from the one it holds: a refusal. -/
def RegDesc.refuses (d : RegDesc) (quiet : Bool) (old new : Nat) : Bool :=
  d.fields.any fun f => f.kept quiet && bitsOf old f.lo f.w != bitsOf new f.lo f.w

/-- The block that owns an RWL register is quiet, as its chapter defines: the Foreman (11), the drain (TALLY.CTL.DMA), the
Bench for its Assay engines (R37). -/
def State.quietAt (s : State) (off : Nat) : Bool :=
  if off < 0x400100000 then !s.flag R.TALLY_CTL Fd.TALLY_CTL_DRAIN_EN
  else
    let b := offBench off
    if R.FM_CTL b ≤ off then (s.fm b).st.quiet else s.benchQuiet b

/-- A write of a register field by field, with the refusal of R484. `view` is the offset that the access used (R447). -/
def State.fieldsWrite (s : State) (who : Who) (view : Nat) (d : RegDesc) (v : Nat) : State :=
  let off := canonOff view
  let old := (s.reg off).toNat
  let q := s.quietAt off
  let s1 := s.setReg off (BitVec.ofNat 32 (d.writeQuiet q old v))
  if d.refuses q old v then s1.denied who view true else s1

/-- The same for a register whose writes govern from the next tick; a SETV in the same tick prevails (R148). -/
def State.laterWrite (s : State) (who : Who) (view : Nat) (d : RegDesc) (v : Nat) : State :=
  let was := s.regBefore view
  let s1 := s.fieldsWrite who view d v
  { s1 with recent := NMap.set (fun _ => (0, 0)) s1.recent view (s.clk.now + 1, was.toNat) }

/-- The same for a register whose value governs samples from 8 ticks after the write on (R183, R185, R202): until then the
value in force stays. -/
def State.governWrite (s : State) (who : Who) (view : Nat) (d : RegDesc) (v : Nat) : State :=
  let off := canonOff view
  let waiting := (NMap.get (fun _ => []) s.later off).filter fun e => decide (s.clk.now < e.1)
  let s1 := s.fieldsWrite who view d v
  let values := (0, s.inForce off) :: waiting ++ [(s.clk.now + 8, (s1.reg off).toNat)]
  { s1 with later := NMap.set (fun _ => []) s1.later off values }

/-- The offset is that of a cross-feed coefficient of Bench `b` (R182). -/
def isCoef (b off : Nat) : Bool :=
  (List.range 32).any fun g => (List.range 4).any fun j => off == R.OUT_XF_COEF b g j

/-! ### Registers whose writes are rows of their own, or do more than hold a value -/

/-- TOP.MODE_REQ (02): the request that REQ names; RUN, PATTERN, LATCHED and codes that name no requestable mode are not
reachable by a request (R46). -/
def State.modeReqWrite (s : State) (v : Nat) : State :=
  match bitsOf v 0 4 with
  | 0 => modeReqDormant s
  | 4 => modeReqTrim (bitAt v 5) (bitAt v 6) (bitAt v 7) (bitAt v 8) s
  | 5 => modeReqIdle s
  | 6 => modeReqKeep s
  | 7 => modeReqArmed s
  | 9 => if bitAt v 4 then modeReqHoldForce s else modeReqHold s
  | 10 => modeReqService s
  | c => if s.busy then s.modeErr 1 c else s.modeErr 2 c

/-- TOP.RESET (R56, R63): with a wrong KEY the write is dropped; WARM resets the device, else BENCH names Benches. -/
def State.resetWrite (s : State) (who : Who) (v : Nat) : State :=
  if bitsOf v 16 16 != 0x5A3C then s.denied who R.TOP_RESET true
  else if bitAt v 8 then warmReset false s
  else if bitsOf v 0 8 = 0 then s
  else benchReset (bitsOf v 0 8) s

/-- TOP.PAT_CTL (R75): ABORT acts before START. -/
def State.patCtlWrite (s : State) (v : Nat) : State :=
  let s := if bitAt v 2 then patternAbort s else s
  if !bitAt v 0 then s else if bitAt v 1 then overlayStart s else patternLoadStart s

/-- TOP.CORE_CTL (R450 to R453): HOLD, the release of cores 1 to 7 while core 0 runs, the watchdog. -/
def State.coreCtlWrite (s : State) (d : RegDesc) (who : Who) (v : Nat) : State :=
  let held := s.coresHeld
  let period := s.wdogTicks
  let s := s.fieldsWrite who R.TOP_CORE_CTL d v
  if bitAt v 0 then coreHold s
  else
    let s := if held then coreRelease s else s
    let s :=
      if bitAt s.host.coresRun 0 then
        ({ s with host := { s.host with coresRun := s.host.coresRun ||| 2 * bitsOf v 1 7 } } : State)
      else s
    let s := if bitAt v 8 then watchdogKick s else s
    if s.wdogTicks = period then s else s.wdogArm

/-- Writes of the TOP block beyond holding a value. -/
def State.topWrite (s : State) (who : Who) (d : RegDesc) (off v : Nat) : State :=
  if off = R.TOP_MODE_REQ then s.modeReqWrite v
  else if off = R.TOP_RESET then s.resetWrite who v
  else if off = R.TOP_PAT_CTL then s.patCtlWrite v
  else if off = R.TOP_CORE_CTL then s.coreCtlWrite d who v
  else s.fieldsWrite who off d v

/-- Writes of the TIME block (R90, R91, R98 to R101). -/
def State.timeWrite (s : State) (who : Who) (d : RegDesc) (off v : Nat) : State :=
  if off = R.TIME_EPOCH_CTL then epochArm who (BitVec.ofNat 32 v) s
  else if off = R.TIME_EPOCH_TRIM then epochTrimWrite (BitVec.ofNat 32 v) s
  else if off = R.TIME_ECHO_CTL then echoStart who (BitVec.ofNat 32 v) s
  else if R.TIME_FDLY 0 ≤ off && decide (off < R.TIME_FDLY 176) then
    fdlyWrite (offIdx off (R.TIME_FDLY 0) 4) (BitVec.ofNat 32 v) s
  else s.fieldsWrite who off d v

/-- Writes of a lane's registers: EN (R171, R172) and the V registers (R148). -/
def State.laneWrite (s : State) (who : Who) (d : RegDesc) (off v : Nat) : State :=
  let b := offBench off
  let l := offIdx off (R.LOOM_LANE_CTL b 0) 128
  if off = R.LOOM_LANE_CTL b l then (if bitAt v 0 then laneEnable b l s else laneDisable b l s)
  else if R.LOOM_LANE_V b l 0 ≤ off then
    (if NMap.get (fun _ => 0) s.setvAt off = s.clk.now + 1 then s else s.laterWrite who off d v)
  else s.fieldsWrite who off d v

/-- Writes of the LOOM block beside the lanes: retirement (R131) and aliases (R122). -/
def State.loomWrite (s : State) (who : Who) (d : RegDesc) (view v : Nat) : State :=
  let off := canonOff view
  if off = R.LOOM_RETIRE then retire (BitVec.ofNat 32 v) s
  else if R.LOOM_ALIAS 0 ≤ off && decide (off < R.LOOM_ALIAS 4096) then
    aliasWrite (offIdx off (R.LOOM_ALIAS 0) 4) (BitVec.ofNat 32 v) s
  else s.fieldsWrite who view d v

/-- Writes of the converters, cross-feed and tones (R177, R183, R185, R193). A 32-bit write of TONEu_FW_LO waits for its _HI. -/
def State.outWrite (s : State) (who : Who) (d : RegDesc) (off v : Nat) : State :=
  let b := offBench off
  let c := offIdx off (R.OUT_CONV_CFG b 0) 32
  let u := offIdx off (R.OUT_TONE_FW_LO b 0) 128
  if off = R.OUT_CONV_FSR b c && decide (c < 6) then fsrRequest b c (BitVec.ofNat 32 v) s
  else if (off == R.OUT_CONV_GAIN b c && decide (c < 6)) || isCoef b off then s.governWrite who off d v
  else if off = R.OUT_TONE_FW_HI b u && decide (u < 64) then toneFwCommit b u none (BitVec.ofNat 32 v) s
  else s.fieldsWrite who off d v

/-- Writes of the flux DACs: the corrector registers (R192). -/
def State.fluxWrite (s : State) (who : Who) (d : RegDesc) (off v : Nat) : State :=
  let b := offBench off
  let k := offIdx off (R.OUT_FLX_STATUS b 0) 256
  let w := BitVec.ofNat 32 v
  match (List.range 6).find? fun i => off == R.OUT_FLX_SEC_AMP b k i || off == R.OUT_FLX_SEC_TAU b k i with
  | some i =>
    let i6 : Fin 6 := ⟨i % 6, Nat.mod_lt _ (by decide)⟩
    if off = R.OUT_FLX_SEC_AMP b k i then correctorWrite who b k (.amp i6) w s
    else correctorWrite who b k (.tau i6) w s
  | none =>
    if R.OUT_FLX_FIR b k 0 ≤ off && decide (off < R.OUT_FLX_FIR b k 48) then
      correctorWrite who b k (.fir ⟨offIdx off (R.OUT_FLX_FIR b k 0) 4 % 48, Nat.mod_lt _ (by decide)⟩) w s
    else s.fieldsWrite who off d v

/-- Writes of the READ block: the attenuators (R199), the offset DPH (R202), and the window, kernel and trace settings, which govern plays
issued from the next tick on (R204). -/
def State.readWrite (s : State) (who : Who) (d : RegDesc) (off v : Nat) : State :=
  let b := offBench off
  if off < R.READ_CH_BIND b 0 then
    let a := offIdx off (R.READ_ACQ_CFG b 0) 32
    if off = R.READ_ACQ_CFG b a then attnRequest b a (BitVec.ofNat 32 v) s else s.fieldsWrite who off d v
  else
    let c := offIdx off (R.READ_CH_BIND b 0) 64
    if off = R.READ_CH_WIN b c || off == R.READ_CH_KCFG b c || off == R.READ_CH_TRACE b c then
      s.laterWrite who off d v
    else if off = R.READ_CH_DPH b c then s.governWrite who off d v
    else s.fieldsWrite who off d v

/-- Writes of an ASSAY block: EN and TRAP (R243, R244, R248), and REGr (R222). -/
def State.assayWrite (s : State) (who : Who) (d : RegDesc) (off v : Nat) : State :=
  let b := offBench off
  let e := offIdx off (R.ASSAY_CTL b 0) 0x10000
  match assayRegOf off with
  | some (b, e, r, hi) => assayRegAccess who b e r hi (some (BitVec.ofNat 32 v)) s
  | none =>
    if off = R.ASSAY_CTL b e then
      let s := if bitAt v 0 then engineEnable b e s else engineDisable b e s
      if bitAt v 1 then engineTrapRequest b e s else s
    else s.fieldsWrite who off d v

/-- IRQEN is written: a latch that is set and enabled requests the EVENT trap (R297). -/
def State.evinWrite (s : State) (who : Who) (d : RegDesc) (b v : Nat) : State :=
  let s := s.fieldsWrite who (R.FM_EVIN b) d v
  if (s.fm b).evLatch &&& s.fld (R.FM_EVIN b) Fd.FM_EVIN_IRQEN = 0 then s else s.fmTrap b 8

/-- Writes of a FOREMAN block: doorbells (R310), timeouts, which may not be 0 (R288), and EVIN. -/
def State.fmWrite (s : State) (who : Who) (d : RegDesc) (off v : Nat) : State :=
  let b := offBench off
  if off = R.FM_CTL b then doorbell b (bitsOf v 0 4) s
  else if off = R.FM_EVIN b then s.evinWrite who d b v
  else if R.FM_TO b 0 ≤ off && decide (off < R.FM_TO b 4) && v == 0 then s.denied who off true
  else s.fieldsWrite who off d v

/-- Writes of BENCHn registers (R36, R38). -/
def State.benchWrite (s : State) (who : Who) (d : RegDesc) (off v : Nat) : State :=
  let b := offBench off
  if off = R.BENCH_CTL b then (if bitAt v 0 then benchEnable who b s else benchDisable b s)
  else s.fieldsWrite who off d v

/-- Writes of the TALLY block: RP (R372), the drain (R380), stream enables (R365, R377). -/
def State.tallyWrite (s : State) (who : Who) (d : RegDesc) (off v : Nat) : State :=
  if off = R.TALLY_RP then rpWrite who (BitVec.ofNat 32 v) s
  else if off = R.TALLY_CTL then
    let s := s.fieldsWrite who off d v
    if bitAt v 0 then s else { s with tally := { s.tally with stopped := false } }
  else if R.TALLY_STREAM_CTL 0 ≤ off && decide (off < R.TALLY_STREAM_CTL 25) then
    let st := offIdx off (R.TALLY_STREAM_CTL 0) 16
    if off = R.TALLY_STREAM_CTL st && !bitAt v 0 then streamDisable st s else s.fieldsWrite who off d v
  else s.fieldsWrite who off d v

/-- CHn_CTL (R400, R402): UNPARK, PARK and SIN_EN. -/
def State.biasCtlWrite (s : State) (who : Who) (n v : Nat) : State :=
  let s := if bitAt v 0 then unpark who n s else s
  let s := if bitAt v 1 then park n s else s
  if bitAt v 2 then (if s.flag (R.BIAS_CH_CTL n) Fd.BIAS_CH_CTL_SIN_EN then s else sinStart n s)
  else if s.flag (R.BIAS_CH_CTL n) Fd.BIAS_CH_CTL_SIN_EN then sinStop n s
  else s

/-- Writes of the BIAS block (R398 to R404). -/
def State.biasWrite (s : State) (who : Who) (d : RegDesc) (off v : Nat) : State :=
  let n := offIdx off (R.BIAS_CH_CTL 0) 64
  if off = R.BIAS_LOAD then loadStrobe (bitsOf v 0 8) s
  else if off < R.BIAS_CH_CTL 0 then s.fieldsWrite who off d v
  else if off = R.BIAS_CH_CTL n then s.biasCtlWrite who n v
  else if off = R.BIAS_CH_CODE n then biasCodeWrite n (BitVec.ofNat 32 v) s
  else if off = R.BIAS_CH_RANGE n then biasRangeRequest who n (BitVec.ofNat 32 v) s
  else if off = R.BIAS_CH_SAFE n && s.safeLow then s.denied who off true
  else s.fieldsWrite who off d v

/-- Writes of the SENSE block: RUN (R409, R414), scan entries (R414), loops (R416). -/
def State.senseWrite (s : State) (who : Who) (d : RegDesc) (off v : Nat) : State :=
  if off = R.SENSE_CTL then
    let s := s.setFld R.SENSE_CTL Fd.SENSE_CTL_LAST (bitsOf v 8 5)
    if bitAt v 0 then scanRun s else scanStop s
  else if R.SENSE_SCAN_A 0 ≤ off && decide (off < R.SENSE_SCAN_A 32) then
    let i := offIdx off (R.SENSE_SCAN_A 0) 8
    if off = R.SENSE_SCAN_A i then excitationSwitch i (BitVec.ofNat 32 v) s else s.fieldsWrite who off d v
  else if R.SENSE_LOOP_CFG 0 ≤ off && decide (off < R.SENSE_LOOP_CFG 2) then
    let k := offIdx off (R.SENSE_LOOP_CFG 0) 32
    let s := s.fieldsWrite who off d v
    if off = R.SENSE_LOOP_CFG k then s.loopConfig k else s
  else s.fieldsWrite who off d v

/-- PORTER.CMD (R460): a command starts, or is refused as BUSY. LC_TOKEN and FW_WRITE, whose outcome rests on a signature,
are the commands of those rows. -/
def State.porterCmd (s : State) (v : Nat) : State :=
  match bitsOf v 0 8 with
  | 1 => ident s
  | 3 => ledgerKey s
  | 4 => ledgerRead (s.reg (R.PORTER_MBOX 0)).toNat s
  | 6 => provKey s
  | 2 | 5 => if s.host.job.isSome then s.setFld R.PORTER_STATUS Fd.PORTER_STATUS_RESULT 1 else s
  | _ => s

/-- Writes of the PORTER block: commands, and the mailbox, which is closed while a command runs. -/
def State.porterWrite (s : State) (who : Who) (d : RegDesc) (off v : Nat) : State :=
  if off = R.PORTER_CMD then s.porterCmd v
  else if R.PORTER_MBOX 0 ≤ off && s.host.job.isSome then s.denied who off true
  else s.fieldsWrite who off d v

/-! ### A 32-bit register -/

/-- A write of one 32-bit register at an offset of its view. -/
def State.writeReg (s : State) (who : Who) (view v : Nat) : State :=
  let off := canonOff view
  match regAt off with
  | none => s.denied who view true
  | some d =>
    if off < 0x400010000 then s.topWrite who d off v
    else if off < 0x400020000 then s.timeWrite who d off v
    else if off < 0x400050000 then s.fieldsWrite who off d v
    else if off < 0x400060000 then s.tallyWrite who d off v
    else if off < 0x400070000 then s.biasWrite who d off v
    else if off < 0x400080000 then s.senseWrite who d off v
    else if off < 0x4000A0000 then s.fieldsWrite who off d v
    else if off < 0x4000B0000 then s.porterWrite who d off v
    else if off < 0x400100000 then s.fieldsWrite who off d v
    else
      let r := (off - 0x400100000) % 0x100000
      if r < 0x10000 then s.benchWrite who d off v
      else if r < 0x11000 then s.loomWrite who d view v
      else if r < 0x12000 then s.laneWrite who d off v
      else if r < 0x20000 then s.loomWrite who d view v
      else if r < 0x24000 then s.outWrite who d off v
      else if r < 0x30000 then s.fluxWrite who d off v
      else if r < 0x40000 then s.readWrite who d off v
      else if r < 0x80000 then s.assayWrite who d off v
      else s.fmWrite who d off v

/-- A 64-bit write of TONEu_FW_LO commits both halves (R177). -/
def tonePair (off : Nat) : Option (Nat × Nat) :=
  if 0x400100000 ≤ off && decide (off < 0x400900000) then
    let b := offBench off
    let u := offIdx off (R.OUT_TONE_FW_LO b 0) 128
    if off = R.OUT_TONE_FW_LO b u && decide (u < 64) then some (b, u) else none
  else none

/-- A write of registers in a size and alignment that R9 permits: two registers are written lower offset first. -/
def State.writeRegs (s : State) (who : Who) (view size v : Nat) : State :=
  if size = 4 then s.writeReg who view (v % 2 ^ 32)
  else match tonePair view with
  | some (b, u) => toneFwCommit b u (some (BitVec.ofNat 32 v)) (BitVec.ofNat 32 (v / 2 ^ 32)) s
  | none => (s.writeReg who view (v % 2 ^ 32)).writeReg who (view + 4) (v / 2 ^ 32)

/-! ### Windows -/

/-- A write through the segment directory window (R119, R120). -/
def State.dirWrite (s : State) (who : Who) (off size v : Nat) : State :=
  let rel := off - 0x420000000
  let lo := BitVec.ofNat 32 v
  let ws := if size = 4 then [lo] else [lo, BitVec.ofNat 32 (v / 2 ^ 32)]
  segdirWrite who (rel / 16) (rel % 16 / 4) ws s

/-- A write of an X or Y word (R224): its whole container, or one half of it. -/
def State.xyWrite (s : State) (who : Who) (b rel off size v : Nat) : State :=
  let e := (rel - 0x600000) / 0x20000
  let q := (rel - 0x600000) % 0x20000
  if q < 0x10000 then
    let i := (q - 0x8000) / 8
    if size = 8 then assayXyWrite who b e false i .whole v s
    else assayXyWrite who b e false i (if q % 8 = 0 then .lower else .upper) v s
  else if size = 8 then
    assayXyWrite who b e true ((q - 0x10000) / 16) (if q % 16 = 0 then .lower else .upper) v s
  else s.denied who off true

/-- A write through a Bench memory window (R446): program memories and the control store are read only (R138, R224,
R303). -/
def State.benchWinWrite (s : State) (who : Who) (off size v : Nat) : State :=
  let b := (off - 0x430000000) / 0x1000000
  let rel := (off - 0x430000000) % 0x1000000
  match winPart rel with
  | some .kernel =>
    let i := (rel - 0x400000) / 4
    let s := kernelWrite who b i (BitVec.ofNat 32 v) s
    if size = 8 then kernelWrite who b (i + 1) (BitVec.ofNat 32 (v / 2 ^ 32)) s else s
  | some .assayX | some .assayY => s.xyWrite who b rel off size v
  | _ => s.denied who off true

/-- A write through a window (R119, R261, R446). -/
def State.winWrite (s : State) (who : Who) (off size v : Nat) : State :=
  if off % size != 0 || (size != 4 && size != 8) then s.denied who off true
  else if off < 0x420000000 then s.denied who off true
  else if off < 0x430000000 then s.dirWrite who off size v
  else s.benchWinWrite who off size v

/-! ### REGISTER_WRITE -/

/-- A write within this device's aperture (R445): waveform memory, a window, or registers; any other size, alignment or
offset is dropped and sets ACCESS_DENIED (R9). -/
def apertureWrite (who : Who) (off size v : Nat) (s : State) : State :=
  if off < memSize then waveformWrite who off (bytesLE v (min size 8)) s
  else if isWindow off then s.winWrite who off size v
  else if regAccessOk off size then s.writeRegs who off size v
  else s.denied who off true

/-- REGISTER_WRITE (R484, R440): a write through the aperture of a device. Dropped and counted at the lead where that device
is absent or not reachable. -/
def registerWrite (who : Who) (dev off size v : Nat) (s : State) : State :=
  if dev = s.host.devid || who != .host then (if s.pathOpen who off then apertureWrite who off size v s else s)
  else if s.unreachable dev then s.unreach
  else s

/-- REGISTER_WRITE (R484). -/
def execRegisterWrite (who : Who) (dev : Fin 64) (off : BitVec 36) (size : Nat) (v : BitVec 64) (s : State) :
    Host.Outcome State Fault Refusal := whenReached who s (registerWrite who dev off.toNat size v.toNat)

end Sys2Proof.Machine
end

