-- ==== Sys2Proof/Machine/Dispatch.lean ====
section
/-!
DEFINITION. The dispatch: one arm per command, each one call of its meaning.
-/
namespace Sys2Proof.Machine

/-- The effect of a command on everything but the queue of waiting commands. -/
def exec (i : Instr) (s : State) : Host.Outcome State Fault Refusal :=
  match i with
  | .powerOnReset vddRose straps => Sys2Proof.Machine.execPowerOnReset vddRose straps s
  | .pwrgdLow => Sys2Proof.Machine.execPwrgdLow s
  | .resetN straps => Sys2Proof.Machine.execResetN straps s
  | .warmReset byPorter => Sys2Proof.Machine.execWarmReset byPorter s
  | .benchReset who mask => Sys2Proof.Machine.execBenchReset who mask s
  | .benchWipeDone b => Sys2Proof.Machine.execBenchWipeDone b s
  | .bootRequest => Sys2Proof.Machine.execBootRequest s
  | .wakeTimer => Sys2Proof.Machine.execWakeTimer s
  | .wakeTrig line => Sys2Proof.Machine.execWakeTrig line s
  | .firmwareVerified alternate => Sys2Proof.Machine.execFirmwareVerified alternate s
  | .bootFail => Sys2Proof.Machine.execBootFail s
  | .wipeComplete => Sys2Proof.Machine.execWipeComplete s
  | .modeReqIdle => Sys2Proof.Machine.execModeReqIdle s
  | .modeReqKeep => Sys2Proof.Machine.execModeReqKeep s
  | .modeReqDormant => Sys2Proof.Machine.execModeReqDormant s
  | .modeReqTrim conv skew survey full => Sys2Proof.Machine.execModeReqTrim conv skew survey full s
  | .modeReqArmed => Sys2Proof.Machine.execModeReqArmed s
  | .modeReqHold => Sys2Proof.Machine.execModeReqHold s
  | .modeReqHoldForce => Sys2Proof.Machine.execModeReqHoldForce s
  | .modeReqService => Sys2Proof.Machine.execModeReqService s
  | .armedEntryDone pmbAck => Sys2Proof.Machine.execArmedEntryDone pmbAck s
  | .transitionDone => Sys2Proof.Machine.execTransitionDone s
  | .keepExitDone => Sys2Proof.Machine.execKeepExitDone s
  | .trimDone cal => Sys2Proof.Machine.execTrimDone cal s
  | .startConditionMet => Sys2Proof.Machine.execStartConditionMet s
  | .shotBoundary => Sys2Proof.Machine.execShotBoundary s
  | .benchDisable b => Sys2Proof.Machine.execBenchDisable b s
  | .benchEnable who b => Sys2Proof.Machine.execBenchEnable who b s
  | .benchQuiet b => Sys2Proof.Machine.execBenchQuiet b s
  | .patternLoadStart => Sys2Proof.Machine.execPatternLoadStart s
  | .overlayStart => Sys2Proof.Machine.execOverlayStart s
  | .patternAbort => Sys2Proof.Machine.execPatternAbort s
  | .checkPhaseDone c => Sys2Proof.Machine.execCheckPhaseDone c s
  | .applyPhaseDone readBackFails => Sys2Proof.Machine.execApplyPhaseDone readBackFails s
  | .epochCapture arrival => Sys2Proof.Machine.execEpochCapture arrival s
  | .epochLoad => Sys2Proof.Machine.execEpochLoad s
  | .epochMiss => Sys2Proof.Machine.execEpochMiss s
  | .epochArm who v => Sys2Proof.Machine.execEpochArm who v s
  | .captureRead who off => Sys2Proof.Machine.execCaptureRead who off s
  | .echoStart who v => Sys2Proof.Machine.execEchoStart who v s
  | .echoReq port t2 t3 => Sys2Proof.Machine.execEchoReq port t2 t3 s
  | .echoAns port t1 t2 t3 t4 => Sys2Proof.Machine.execEchoAns port t1 t2 t3 t4 s
  | .echoTimeout => Sys2Proof.Machine.execEchoTimeout s
  | .epochTrimWrite v => Sys2Proof.Machine.execEpochTrimWrite v s
  | .fdlyWrite j v => Sys2Proof.Machine.execFdlyWrite j v s
  | .fdlyApply j => Sys2Proof.Machine.execFdlyApply j s
  | .trigEdge k falling frac => Sys2Proof.Machine.execTrigEdge k falling frac s
  | .trigOutEdge k => Sys2Proof.Machine.execTrigOutEdge k s
  | .refLoss cause => Sys2Proof.Machine.execRefLoss cause s
  | .pllLockLoss core => Sys2Proof.Machine.execPllLockLoss core s
  | .refclkReturn => Sys2Proof.Machine.execRefclkReturn s
  | .dividerAligned => Sys2Proof.Machine.execDividerAligned s
  | .segdirWrite who id first ws => Sys2Proof.Machine.execSegdirWrite who id first ws s
  | .dirMissFill b seg ue => Sys2Proof.Machine.execDirMissFill b seg ue s
  | .aliasWrite a v => Sys2Proof.Machine.execAliasWrite a v s
  | .retire v => Sys2Proof.Machine.execRetire v s
  | .retireComplete => Sys2Proof.Machine.execRetireComplete s
  | .waveformWrite who addr bytes => Sys2Proof.Machine.execWaveformWrite who addr bytes s
  | .granuleRequest b src => Sys2Proof.Machine.execGranuleRequest b src s
  | .granuleArrive b src ue => Sys2Proof.Machine.execGranuleArrive b src ue s
  | .underrun b v => Sys2Proof.Machine.execUnderrun b v s
  | .play b l => Sys2Proof.Machine.execPlay b l s
  | .playx b l => Sys2Proof.Machine.execPlayx b l s
  | .idle b l => Sys2Proof.Machine.execIdle b l s
  | .frame b l => Sys2Proof.Machine.execFrame b l s
  | .waitd b l => Sys2Proof.Machine.execWaitd b l s
  | .br b l => Sys2Proof.Machine.execBr b l s
  | .loop b l => Sys2Proof.Machine.execLoop b l s
  | .endl b l => Sys2Proof.Machine.execEndl b l s
  | .sync b l => Sys2Proof.Machine.execSync b l s
  | .mark b l => Sys2Proof.Machine.execMark b l s
  | .setv b l => Sys2Proof.Machine.execSetv b l s
  | .end_ b l => Sys2Proof.Machine.execEnd b l s
  | .playQueueSpace b l => Sys2Proof.Machine.execPlayQueueSpace b l s
  | .playStartTick b l voice => Sys2Proof.Machine.execPlayStartTick b l voice s
  | .frameEffect b l => Sys2Proof.Machine.execFrameEffect b l s
  | .markEffect b l => Sys2Proof.Machine.execMarkEffect b l s
  | .stageDone b l => Sys2Proof.Machine.execStageDone b l s
  | .branchCommit b l => Sys2Proof.Machine.execBranchCommit b l s
  | .slotRelease b l => Sys2Proof.Machine.execSlotRelease b l s
  | .syncTimeout b l => Sys2Proof.Machine.execSyncTimeout b l s
  | .startStrobe b l => Sys2Proof.Machine.execStartStrobe b l s
  | .syncRelease b l => Sys2Proof.Machine.execSyncRelease b l s
  | .abortStrobe b l => Sys2Proof.Machine.execAbortStrobe b l s
  | .flushStrobe b l => Sys2Proof.Machine.execFlushStrobe b l s
  | .poisonStrobe b l => Sys2Proof.Machine.execPoisonStrobe b l s
  | .stopStrobe b l => Sys2Proof.Machine.execStopStrobe b l s
  | .laneDisable b l => Sys2Proof.Machine.execLaneDisable b l s
  | .laneStopDone b l => Sys2Proof.Machine.execLaneStopDone b l s
  | .laneEnable b l => Sys2Proof.Machine.execLaneEnable b l s
  | .laneDrained b l => Sys2Proof.Machine.execLaneDrained b l s
  | .toneFwCommit b u lo hi => Sys2Proof.Machine.execToneFwCommit b u lo hi s
  | .fsrRequest b c v => Sys2Proof.Machine.execFsrRequest b c v s
  | .rangeChangeStart b c => Sys2Proof.Machine.execRangeChangeStart b c s
  | .rangeChangeDone b c => Sys2Proof.Machine.execRangeChangeDone b c s
  | .correctorWrite who b k r v => Sys2Proof.Machine.execCorrectorWrite who b k r v s
  | .safeNLow => Sys2Proof.Machine.execSafeNLow s
  | .safeNHigh => Sys2Proof.Machine.execSafeNHigh s
  | .attnRequest b a v => Sys2Proof.Machine.execAttnRequest b a v s
  | .attnChangeStart b a => Sys2Proof.Machine.execAttnChangeStart b a s
  | .attnChangeDone b a => Sys2Proof.Machine.execAttnChangeDone b a s
  | .windowOpen b c => Sys2Proof.Machine.execWindowOpen b c s
  | .partialEntry b c xs => Sys2Proof.Machine.execPartialEntry b c xs s
  | .windowFinal b c xs => Sys2Proof.Machine.execWindowFinal b c xs s
  | .kernelWrite who b j v => Sys2Proof.Machine.execKernelWrite who b j v s
  | .assayJmp b e => Sys2Proof.Machine.execAssayJmp b e s
  | .assayCall b e => Sys2Proof.Machine.execAssayCall b e s
  | .assayBr b e => Sys2Proof.Machine.execAssayBr b e s
  | .waitin b e => Sys2Proof.Machine.execWaitin b e s
  | .waitinTimeout b e => Sys2Proof.Machine.execWaitinTimeout b e s
  | .rep b e => Sys2Proof.Machine.execRep b e s
  | .repEnd b e => Sys2Proof.Machine.execRepEnd b e s
  | .decide_ b e => Sys2Proof.Machine.execDecide b e s
  | .emit b e => Sys2Proof.Machine.execEmit b e s
  | .assayRet b e => Sys2Proof.Machine.execAssayRet b e s
  | .halt b e => Sys2Proof.Machine.execHalt b e s
  | .quad b e => Sys2Proof.Machine.execQuad b e s
  | .cpx b e => Sys2Proof.Machine.execCpx b e s
  | .sqacc b e => Sys2Proof.Machine.execSqacc b e s
  | .assayAdd b e => Sys2Proof.Machine.execAssayAdd b e s
  | .assaySub b e => Sys2Proof.Machine.execAssaySub b e s
  | .abs b e => Sys2Proof.Machine.execAbs b e s
  | .assayShl b e => Sys2Proof.Machine.execAssayShl b e s
  | .assayShr b e => Sys2Proof.Machine.execAssayShr b e s
  | .rnd b e => Sys2Proof.Machine.execRnd b e s
  | .mov b e => Sys2Proof.Machine.execMov b e s
  | .clr b e => Sys2Proof.Machine.execClr b e s
  | .minx b e => Sys2Proof.Machine.execMinx b e s
  | .maxx b e => Sys2Proof.Machine.execMaxx b e s
  | .yRead b e => Sys2Proof.Machine.execYRead b e s
  | .xRead b e => Sys2Proof.Machine.execXRead b e s
  | .xWrite b e => Sys2Proof.Machine.execXWrite b e s
  | .ldi b e => Sys2Proof.Machine.execLdi b e s
  | .autoAnswer b e => Sys2Proof.Machine.execAutoAnswer b e s
  | .engineEnable b e => Sys2Proof.Machine.execEngineEnable b e s
  | .engineDisable b e => Sys2Proof.Machine.execEngineDisable b e s
  | .engineStop b e => Sys2Proof.Machine.execEngineStop b e s
  | .engineTrapRequest b e => Sys2Proof.Machine.execEngineTrapRequest b e s
  | .engineTrap b e => Sys2Proof.Machine.execEngineTrap b e s
  | .assayXyWrite who b e y j half v => Sys2Proof.Machine.execAssayXyWrite who b e y j half v s
  | .assayRegAccess who b e r hi wr => Sys2Proof.Machine.execAssayRegAccess who b e r hi wr s
  | .decisionWord b => Sys2Proof.Machine.execDecisionWord b s
  | .oltLookup b => Sys2Proof.Machine.execOltLookup b s
  | .oltAction b => Sys2Proof.Machine.execOltAction b s
  | .crierPairSend => Sys2Proof.Machine.execCrierPairSend s
  | .crierCellReceive p c => Sys2Proof.Machine.execCrierCellReceive p c s
  | .linkUp p => Sys2Proof.Machine.execLinkUp p s
  | .linkDown p => Sys2Proof.Machine.execLinkDown p s
  | .foremanStartCondition b => Sys2Proof.Machine.execForemanStartCondition b s
  | .jump b => Sys2Proof.Machine.execJump b s
  | .mw2 b => Sys2Proof.Machine.execMw2 b s
  | .mw4 b => Sys2Proof.Machine.execMw4 b s
  | .mw8 b => Sys2Proof.Machine.execMw8 b s
  | .mw16 b => Sys2Proof.Machine.execMw16 b s
  | .foremanCall b => Sys2Proof.Machine.execForemanCall b s
  | .foremanRet b => Sys2Proof.Machine.execForemanRet b s
  | .tret b => Sys2Proof.Machine.execTret b s
  | .foremanEnd b => Sys2Proof.Machine.execForemanEnd b s
  | .lopStart b => Sys2Proof.Machine.execLopStart b s
  | .lopSync b => Sys2Proof.Machine.execLopSync b s
  | .lopFlush b => Sys2Proof.Machine.execLopFlush b s
  | .lopAbort b => Sys2Proof.Machine.execLopAbort b s
  | .lopPoison b => Sys2Proof.Machine.execLopPoison b s
  | .lopStop b => Sys2Proof.Machine.execLopStop b s
  | .lopShot b => Sys2Proof.Machine.execLopShot b s
  | .pointStrobeEffect b => Sys2Proof.Machine.execPointStrobeEffect b s
  | .shot b => Sys2Proof.Machine.execShot b s
  | .pub0 b => Sys2Proof.Machine.execPub0 b s
  | .pub1 b => Sys2Proof.Machine.execPub1 b s
  | .pubz b => Sys2Proof.Machine.execPubz b s
  | .dopArm b => Sys2Proof.Machine.execDopArm b s
  | .dopLookup b => Sys2Proof.Machine.execDopLookup b s
  | .clrnew b => Sys2Proof.Machine.execClrnew b s
  | .dopMark b => Sys2Proof.Machine.execDopMark b s
  | .dopIrq b => Sys2Proof.Machine.execDopIrq b s
  | .ldch b => Sys2Proof.Machine.execLdch b s
  | .logrd b => Sys2Proof.Machine.execLogrd b s
  | .foremanAdd b => Sys2Proof.Machine.execForemanAdd b s
  | .addi b => Sys2Proof.Machine.execAddi b s
  | .foremanSub b => Sys2Proof.Machine.execForemanSub b s
  | .and_ b => Sys2Proof.Machine.execAnd b s
  | .or_ b => Sys2Proof.Machine.execOr b s
  | .xor_ b => Sys2Proof.Machine.execXor b s
  | .foremanShl b => Sys2Proof.Machine.execForemanShl b s
  | .foremanShr b => Sys2Proof.Machine.execForemanShr b s
  | .cmp b => Sys2Proof.Machine.execCmp b s
  | .movc b => Sys2Proof.Machine.execMovc b s
  | .mbx b => Sys2Proof.Machine.execMbx b s
  | .badd b => Sys2Proof.Machine.execBadd b s
  | .bev b => Sys2Proof.Machine.execBev b s
  | .bnow b => Sys2Proof.Machine.execBnow b s
  | .cntDecrement b n => Sys2Proof.Machine.execCntDecrement b n s
  | .cntReload b n => Sys2Proof.Machine.execCntReload b n s
  | .cntIncrement b n => Sys2Proof.Machine.execCntIncrement b n s
  | .trgBegin b => Sys2Proof.Machine.execTrgBegin b s
  | .trgEnd b => Sys2Proof.Machine.execTrgEnd b s
  | .waitComplete b => Sys2Proof.Machine.execWaitComplete b s
  | .waitTimeout b => Sys2Proof.Machine.execWaitTimeout b s
  | .holdRelease b => Sys2Proof.Machine.execHoldRelease b s
  | .doorbell b mask => Sys2Proof.Machine.execDoorbell b mask s
  | .foremanTrap b => Sys2Proof.Machine.execForemanTrap b s
  | .syncFault b uecc => Sys2Proof.Machine.execSyncFault b uecc s
  | .timedOverrun b => Sys2Proof.Machine.execTimedOverrun b s
  | .refreshDue ch panicIssues => Sys2Proof.Machine.execRefreshDue ch panicIssues s
  | .memTempSample temps => Sys2Proof.Machine.execMemTempSample temps s
  | .rowThreshold ch bank row q => Sys2Proof.Machine.execRowThreshold ch bank row q s
  | .rhWindow => Sys2Proof.Machine.execRhWindow s
  | .edcError dev write retries unit => Sys2Proof.Machine.execEdcError dev write retries unit s
  | .caParityAlert ch unconfirmed => Sys2Proof.Machine.execCaParityAlert ch unconfirmed s
  | .requestPromotion k waited => Sys2Proof.Machine.execRequestPromotion k waited s
  | .selfRefreshExit => Sys2Proof.Machine.execSelfRefreshExit s
  | .selfRefreshEntry => Sys2Proof.Machine.execSelfRefreshEntry s
  | .retrainStart => Sys2Proof.Machine.execRetrainStart s
  | .retrainDone failing => Sys2Proof.Machine.execRetrainDone failing s
  | .retirementStart => Sys2Proof.Machine.execRetirementStart s
  | .migrationDone => Sys2Proof.Machine.execMigrationDone s
  | .writerSlot => Sys2Proof.Machine.execWriterSlot s
  | .rpWrite who v => Sys2Proof.Machine.execRpWrite who v s
  | .drainCopy => Sys2Proof.Machine.execDrainCopy s
  | .drainIrq => Sys2Proof.Machine.execDrainIrq s
  | .dmaError => Sys2Proof.Machine.execDmaError s
  | .streamDisable st => Sys2Proof.Machine.execStreamDisable st s
  | .fabricCycle => Sys2Proof.Machine.execFabricCycle s
  | .ledTimeout k => Sys2Proof.Machine.execLedTimeout k s
  | .biasCodeWrite n v => Sys2Proof.Machine.execBiasCodeWrite n v s
  | .loadStrobe groups => Sys2Proof.Machine.execLoadStrobe groups s
  | .biasUpdate => Sys2Proof.Machine.execBiasUpdate s
  | .unpark who n => Sys2Proof.Machine.execUnpark who n s
  | .park n => Sys2Proof.Machine.execPark n s
  | .biasRangeRequest who n v => Sys2Proof.Machine.execBiasRangeRequest who n v s
  | .biasRangeSwitchDone n => Sys2Proof.Machine.execBiasRangeSwitchDone n s
  | .sinStart n => Sys2Proof.Machine.execSinStart n s
  | .sinStop n => Sys2Proof.Machine.execSinStop n s
  | .monitorConversion n current value => Sys2Proof.Machine.execMonitorConversion n current value s
  | .panelLevelChange j level => Sys2Proof.Machine.execPanelLevelChange j level s
  | .scanRun => Sys2Proof.Machine.execScanRun s
  | .scanStop => Sys2Proof.Machine.execScanStop s
  | .sensorReading r => Sys2Proof.Machine.execSensorReading r s
  | .scanEntryEnd => Sys2Proof.Machine.execScanEntryEnd s
  | .excitationSwitch j v => Sys2Proof.Machine.execExcitationSwitch j v s
  | .loopReadback k microamps => Sys2Proof.Machine.execLoopReadback k microamps s
  | .thermalSample temps diodes => Sys2Proof.Machine.execThermalSample temps diodes s
  | .shedDeadline => Sys2Proof.Machine.execShedDeadline s
  | .latchedEntry => Sys2Proof.Machine.execLatchedEntry s
  | .surveyComplete r => Sys2Proof.Machine.execSurveyComplete r s
  | .ledgerCompaction => Sys2Proof.Machine.execLedgerCompaction s
  | .ledgerRefresh => Sys2Proof.Machine.execLedgerRefresh s
  | .pcieReset => Sys2Proof.Machine.execPcieReset s
  | .pcieLinkUp => Sys2Proof.Machine.execPcieLinkUp s
  | .carterAnnounce port dev depth => Sys2Proof.Machine.execCarterAnnounce port dev depth s
  | .carterLinkDown port => Sys2Proof.Machine.execCarterLinkDown port s
  | .carterLinkUp port => Sys2Proof.Machine.execCarterLinkUp port s
  | .coreImageLoaded image => Sys2Proof.Machine.execCoreImageLoaded image s
  | .coreHold => Sys2Proof.Machine.execCoreHold s
  | .coreRelease => Sys2Proof.Machine.execCoreRelease s
  | .watchdogKick => Sys2Proof.Machine.execWatchdogKick s
  | .watchdogFired => Sys2Proof.Machine.execWatchdogFired s
  | .mgmtPacket code => Sys2Proof.Machine.execMgmtPacket code s
  | .ident => Sys2Proof.Machine.execIdent s
  | .lcToken t => Sys2Proof.Machine.execLcToken t s
  | .ledgerKey => Sys2Proof.Machine.execLedgerKey s
  | .ledgerRead seq => Sys2Proof.Machine.execLedgerRead seq s
  | .fwWrite p => Sys2Proof.Machine.execFwWrite p s
  | .provKey => Sys2Proof.Machine.execProvKey s
  | .porterCommandDone => Sys2Proof.Machine.execPorterCommandDone s
  | .railTrip n => Sys2Proof.Machine.execRailTrip n s
  | .railRecover straps => Sys2Proof.Machine.execRailRecover straps s
  | .pmbAlert faulty => Sys2Proof.Machine.execPmbAlert faulty s
  | .registerWrite who dev off size v => Sys2Proof.Machine.execRegisterWrite who dev off size v s
  | .vddAonRemoved => Sys2Proof.Machine.execVddAonRemoved s
  | .waveformRead who addr r => Sys2Proof.Machine.execWaveformRead who addr r s
  | .deniedRead who dev off size => Sys2Proof.Machine.execDeniedRead who dev off size s
  | .irqCodeRead who b => Sys2Proof.Machine.execIrqCodeRead who b s
  | .carterFrameError port => Sys2Proof.Machine.execCarterFrameError port s
  | .panicEntry b v => Sys2Proof.Machine.execPanicEntry b v s
  | .errorCountHour => Sys2Proof.Machine.execErrorCountHour s
  | .traceRecord b c xs => Sys2Proof.Machine.execTraceRecord b c xs s
  | .adcClip b a => Sys2Proof.Machine.execAdcClip b a s
  | .trigContend k => Sys2Proof.Machine.execTrigContend k s

end Sys2Proof.Machine
end

