-- ==== Sys2Proof/Machine/Tick.lean ====
section
/-!
DEFINITION. One physical tick without a command: the sample chains (07, 08), what the clocks make of the tick (R22, R88,
R109), and the effects of time that no row of the opcode table names (R90, R134, R135, R195, R196).
-/
namespace Sys2Proof.Machine

/-- The requests that no window of the device may put off any longer go out (R134). -/
def State.fetchTick (s : State) : State :=
  foldAll (fun s b => foldAll (fun s (e : Nat × Window) =>
    if e.2.streams.isEmpty then s else s.requestsDue b e.1 16) s (s.loom b).windows) s (List.range 8)

/-- The first tick of the timeline with the new TIME: the shots that begin (R196), when the core clock counts ticks. -/
def State.shotsTick (s : State) : State :=
  if s.clk.fabricRuns then foldAll State.shotTick s (List.range 8) else s

/-- Converters that have driven code 0 for 64 ticks on their way to being parked lose their output current (R196). -/
def State.convsTick (s : State) : State :=
  if s.out.convs.any fun e => e.2.offAt.any fun t => decide (t ≤ s.clk.time) then
    { s with out := { s.out with convs := s.out.convs.map fun e =>
        (e.1, if e.2.offAt.any fun t => decide (t ≤ s.clk.time) then { e.2 with on := false, offAt := none } else e.2) } }
  else s

/-- Panic ends where a window's fill or its plays have changed with time (R135). -/
def State.panicTick (s : State) : State := foldAll State.panicsOver s (List.range 8)

/-- One physical tick passes. -/
def State.idleTick (s : State) : State :=
  let s := s.chainTick.readTick.fetchTick.panicTick
  let old := s.clk
  let s : State := { s with clk := old.tick }
  let s := s.ballsTick.convsTick
  let s := if s.clk.aligned && !old.aligned then s.fabricStart else s
  s.tdcLatch.shotsTick.nopsTick

end Sys2Proof.Machine
end

