-- ==== Sys2Proof/Safety.lean ====
section
/-!
DEFINITION. The terms in which claims are made: a command completes, the canonical form of waveform memory, the clock
invariant, the readiness of a unit to carry out its next operation, and which commands may change which part of State.
-/
namespace Sys2Proof.Machine

/-- The command answers a next state, of which `P` holds: it neither faults nor is refused. -/
def Completes (c : Instr) (s : State) (P : State → Prop) : Prop := ∃ t, exec c s = .next t ∧ P t

/-- Waveform memory in its canonical form: addresses strictly rising, and no entry equal to what an unlisted byte reads
as. -/
def Memory.wf (m : List Host.Cell) : Bool := NMap.wf memDefault m

/-- The clock invariant (R22): phases in range, and while REFCLK is present TIME mod 30 is the ticks since the last REFCLK
edge where the aligned core clock counts ticks, and 0 where TIME counts REFCLK edges. -/
abbrev Clocks.ok (c : Clocks) : Prop :=
  c.phRef < 30 ∧ c.phAon < 120 ∧ c.time < 2 ^ 64 ∧
    (c.refclk = true → c.time % 30 = if c.core && c.aligned then c.phRef else 0)

/-- Slot `k` is the last of its Assay bundle `w` to be performed, outside a REP and without a HALT, and the address that
follows exists: the engine then goes to it (R226, R227). -/
abbrev State.lastSlot (s : State) (b e k w nxt : Nat) : Prop :=
  setBit (s.eng b e).done k = slotsOf w ∧ (s.eng b e).st ≠ .rep ∧ (s.eng b e).halted = false ∧ ctlOp (ctlOf w) ≠ 5 ∧
    nxt < 4096

/-- The word of Foreman `b` whose field `k` (its bit in `mwNeed`) is due and not yet performed (R279, R280). -/
def State.fmDue (s : State) (b k : Nat) : Option Nat :=
  let s := s.fmNow b
  let f := s.fm b
  if s.fmRuns b && f.st == .run && !(f.fault != 0 && f.done == 0) && bitAt (mwNeed f.word) k && !bitAt f.done k &&
      decide (f.issue ≤ s.clk.time) then some f.word else none

/-- Field `k` is the last of the Foreman's word, at which no fault, halt, stop or shot boundary waits: its next word
follows (R283). -/
abbrev Fm.lastField (f : Fm) (k : Nat) : Prop :=
  setBit f.done k = mwNeed f.word ∧ f.fault = 0 ∧ f.halt = none ∧ f.shotIssued = false ∧ f.stopReq = false

/-- The Foreman's state once field `k` of its word, not the last, is performed and has changed nothing else. -/
def Fm.performed (f : Fm) (k : Nat) : Fm := { f with done := setBit f.done k }

/-! ### Shapes that several statements share -/

/-- What a loss of the core, SRAM and memory domains leaves (R41, R57): no transition, load, HOLD or maintenance in progress,
no Pattern, no stored byte listed, and every Bench, lane, channel, engine and Foreman as at reset. -/
def State.coreGone (t : State) : Prop :=
  t.transit = none ∧ t.load = none ∧ t.hold = none ∧ t.memc.maint = none ∧ t.patterned = false ∧ t.mem = [] ∧
    t.bench = [] ∧ t.lanes = [] ∧ t.chans = [] ∧ t.engines = [] ∧ t.fms = []

/-- The Ledger stays as it was, and OTP too unless a life-cycle transition of Porter was under way (R57, R463). -/
def State.keepsStores (s t : State) : Prop :=
  t.host.ledger = s.host.ledger ∧ (s.host.job = none → t.host.otp = s.host.otp)

/-- Mode, transition, HOLD, clocks, Benches, lanes, engines, Foremen and waveform memory stay as they were. -/
def State.goesOn (s t : State) : Prop :=
  t.mode = s.mode ∧ t.transit = s.transit ∧ t.hold = s.hold ∧ t.clk = s.clk ∧ t.bench = s.bench ∧ t.lanes = s.lanes ∧
    t.engines = s.engines ∧ t.fms = s.fms ∧ t.mem = s.mem

/-- TOP.MODE_ERR records this code for a request of this mode, with NEW set (R47, R49). -/
def State.refusedAs (t : State) (code : Nat) (m : Mode) : Prop :=
  t.fld R.TOP_MODE_ERR Fd.TOP_MODE_ERR_CODE = code ∧ t.fld R.TOP_MODE_ERR Fd.TOP_MODE_ERR_REQ = m.code ∧
    t.flag R.TOP_MODE_ERR Fd.TOP_MODE_ERR_NEW = true

end Sys2Proof.Machine

namespace Sys2Proof

/-! ### What a command may change -/

/-- The commands that may change a byte of waveform memory: writes, the Tally writer, Pattern loads, retirement,
exit from KEEP, and what loses the contents. -/
def Instr.storesMem : Instr → Bool
  | .powerOnReset _ _ | .pwrgdLow | .resetN _ | .warmReset _ | .benchReset _ _ | .bootRequest | .wakeTimer
  | .wakeTrig _ | .wipeComplete | .transitionDone | .keepExitDone | .trimDone _ | .patternAbort
  | .checkPhaseDone _ | .applyPhaseDone _ | .refLoss _ | .pllLockLoss _ | .waveformWrite _ _ _
  | .retrainDone _ | .migrationDone | .writerSlot | .thermalSample _ _ | .porterCommandDone | .railTrip _
  | .railRecover _ | .registerWrite _ _ _ _ _ | .vddAonRemoved | .firmwareVerified _ | .bootFail => true
  | _ => false

/-- The commands that may change the operating mode. -/
def Instr.changesMode : Instr → Bool
  | .powerOnReset _ _ | .pwrgdLow | .resetN _ | .warmReset _ | .benchReset _ _ | .bootRequest | .wakeTimer
  | .wakeTrig _ | .firmwareVerified _ | .modeReqHold | .modeReqHoldForce | .armedEntryDone _ | .transitionDone
  | .keepExitDone | .trimDone _ | .startConditionMet | .shotBoundary | .patternLoadStart | .overlayStart
  | .patternAbort | .checkPhaseDone _ | .applyPhaseDone _ | .refLoss _ | .pllLockLoss _ | .retrainDone _
  | .migrationDone | .thermalSample _ _ | .shedDeadline | .latchedEntry | .porterCommandDone | .railTrip _
  | .railRecover _ | .registerWrite _ _ _ _ _ | .vddAonRemoved => true
  | _ => false

/-- The commands that may change the clocks or TIME. -/
def Instr.changesClocks : Instr → Bool
  | .powerOnReset _ _ | .pwrgdLow | .resetN _ | .warmReset _ | .benchReset _ _ | .bootRequest | .wakeTimer
  | .wakeTrig _ | .firmwareVerified _ | .modeReqTrim _ _ _ _ | .modeReqArmed | .modeReqHold
  | .modeReqHoldForce | .modeReqService | .armedEntryDone _ | .transitionDone | .keepExitDone | .trimDone _
  | .shotBoundary | .patternLoadStart | .overlayStart | .patternAbort | .checkPhaseDone _ | .applyPhaseDone _
  | .epochLoad | .refLoss _ | .pllLockLoss _ | .refclkReturn | .dividerAligned | .retrainDone _
  | .migrationDone | .thermalSample _ _ | .shedDeadline | .porterCommandDone | .railTrip _ | .railRecover _
  | .registerWrite _ _ _ _ _ | .vddAonRemoved | .bootFail => true
  | _ => false

/-- The commands that may begin or end a transition between modes. -/
def Instr.changesTransit : Instr → Bool
  | .powerOnReset _ _ | .pwrgdLow | .resetN _ | .warmReset _ | .bootRequest | .wakeTimer | .wakeTrig _
  | .wipeComplete | .modeReqIdle | .modeReqKeep | .modeReqDormant | .modeReqTrim _ _ _ _ | .modeReqArmed
  | .modeReqHold | .modeReqHoldForce | .modeReqService | .armedEntryDone _ | .transitionDone | .keepExitDone
  | .trimDone _ | .shotBoundary | .applyPhaseDone _ | .refLoss _ | .pllLockLoss _ | .retrainDone _
  | .migrationDone | .thermalSample _ _ | .shedDeadline | .latchedEntry | .porterCommandDone | .railTrip _
  | .railRecover _ | .registerWrite _ _ _ _ _ | .vddAonRemoved | .firmwareVerified _ | .bootFail => true
  | _ => false

/-- The commands that may change identity, firmware, Ledger, links or cores. -/
def Instr.changesHost : Instr → Bool
  | .powerOnReset _ _ | .pwrgdLow | .resetN _ | .warmReset _ | .bootRequest | .wakeTimer | .wakeTrig _
  | .firmwareVerified _ | .bootFail | .transitionDone | .retrainDone _ | .retirementStart | .migrationDone
  | .thermalSample _ _ | .latchedEntry | .surveyComplete _ | .ledgerCompaction | .ledgerRefresh | .pcieLinkUp
  | .carterAnnounce _ _ _ | .carterLinkDown _ | .carterLinkUp _ | .coreImageLoaded _ | .coreHold
  | .watchdogKick | .watchdogFired | .mgmtPacket _ | .ident | .lcToken _ | .ledgerKey | .ledgerRead _
  | .fwWrite _ | .provKey | .porterCommandDone | .railTrip _ | .railRecover _ | .registerWrite _ _ _ _ _
  | .vddAonRemoved => true
  | _ => false

/-- The commands that may change the state of supplies and control pins. -/
def Instr.changesPins : Instr → Bool
  | .powerOnReset _ _ | .pwrgdLow | .resetN _ | .warmReset _ | .bootRequest | .wakeTimer | .wakeTrig _
  | .firmwareVerified _ | .armedEntryDone _ | .transitionDone | .refLoss _ | .pllLockLoss _ | .retrainDone _
  | .migrationDone | .thermalSample _ _ | .porterCommandDone | .railTrip _ | .railRecover _ | .pmbAlert _
  | .registerWrite _ _ _ _ _ | .vddAonRemoved | .bootFail => true
  | _ => false

/-- The commands that may change thermal supervision and the margin plan. -/
def Instr.changesThermal : Instr → Bool
  | .powerOnReset _ _ | .pwrgdLow | .resetN _ | .warmReset _ | .bootRequest | .wakeTimer | .wakeTrig _
  | .firmwareVerified _ | .armedEntryDone _ | .transitionDone | .refLoss _ | .pllLockLoss _ | .retrainDone _
  | .thermalSample _ _ | .latchedEntry | .surveyComplete _ | .porterCommandDone | .railTrip _ | .railRecover _
  | .registerWrite _ _ _ _ _ | .vddAonRemoved | .bootFail => true
  | _ => false

/-- The commands that may change bias outputs, sensors, loops or panel inputs. -/
def Instr.changesSlow : Instr → Bool
  | .powerOnReset _ _ | .pwrgdLow | .resetN _ | .warmReset _ | .bootRequest | .wakeTimer | .wakeTrig _
  | .modeReqDormant | .transitionDone | .applyPhaseDone _ | .safeNLow | .safeNHigh | .fabricCycle
  | .biasCodeWrite _ _ | .loadStrobe _ | .biasUpdate | .unpark _ _ | .park _ | .biasRangeRequest _ _ _
  | .biasRangeSwitchDone _ | .sinStart _ | .sinStop _ | .monitorConversion _ _ _ | .panelLevelChange _ _
  | .scanRun | .scanStop | .sensorReading _ | .scanEntryEnd | .excitationSwitch _ _ | .loopReadback _ _
  | .thermalSample _ _ | .porterCommandDone | .railTrip _ | .railRecover _ | .registerWrite _ _ _ _ _
  | .vddAonRemoved | .firmwareVerified _ | .bootFail => true
  | _ => false

/-- The commands that may change the state of a lane. -/
def Instr.changesLanes : Instr → Bool
  | .powerOnReset _ _ | .pwrgdLow | .resetN _ | .warmReset _ | .benchReset _ _ | .benchWipeDone _
  | .bootRequest | .wakeTimer | .wakeTrig _ | .modeReqHold | .modeReqHoldForce | .armedEntryDone _
  | .transitionDone | .keepExitDone | .trimDone _ | .benchDisable _ | .benchEnable _ _ | .applyPhaseDone _
  | .refLoss _ | .pllLockLoss _ | .dirMissFill _ _ _ | .underrun _ _ | .play _ _ | .playx _ _ | .idle _ _
  | .frame _ _ | .waitd _ _ | .br _ _ | .loop _ _ | .endl _ _ | .sync _ _ | .mark _ _ | .setv _ _ | .end_ _ _
  | .playQueueSpace _ _ | .playStartTick _ _ _ | .frameEffect _ _ | .markEffect _ _ | .stageDone _ _
  | .branchCommit _ _ | .slotRelease _ _ | .syncTimeout _ _ | .startStrobe _ _ | .syncRelease _ _
  | .abortStrobe _ _ | .flushStrobe _ _ | .poisonStrobe _ _ | .stopStrobe _ _ | .laneDisable _ _
  | .laneStopDone _ _ | .laneEnable _ _ | .laneDrained _ _ | .decisionWord _ | .oltAction _
  | .crierCellReceive _ _ | .lopStart _ | .lopSync _ | .lopFlush _ | .pointStrobeEffect _ | .shot _
  | .pub0 _ | .pub1 _ | .pubz _ | .syncFault _ _ | .retrainDone _ | .migrationDone | .fabricCycle
  | .thermalSample _ _ | .shedDeadline | .porterCommandDone | .railTrip _ | .railRecover _
  | .registerWrite _ _ _ _ _ | .vddAonRemoved | .firmwareVerified _ | .bootFail | .safeNLow => true
  | _ => false

/-- The commands that may change the state of an Assay engine. -/
def Instr.changesEngines : Instr → Bool
  | .powerOnReset _ _ | .pwrgdLow | .resetN _ | .warmReset _ | .benchReset _ _ | .bootRequest | .wakeTimer
  | .wakeTrig _ | .modeReqHold | .modeReqHoldForce | .armedEntryDone _ | .transitionDone | .keepExitDone
  | .trimDone _ | .benchDisable _ | .benchEnable _ _ | .applyPhaseDone _ | .captureRead _ _ | .refLoss _
  | .pllLockLoss _ | .windowOpen _ _ | .partialEntry _ _ _ | .windowFinal _ _ _ | .assayJmp _ _
  | .assayCall _ _ | .assayBr _ _ | .waitin _ _ | .waitinTimeout _ _ | .rep _ _ | .repEnd _ _ | .decide_ _ _
  | .emit _ _ | .assayRet _ _ | .halt _ _ | .quad _ _ | .cpx _ _ | .sqacc _ _ | .assayAdd _ _ | .assaySub _ _
  | .abs _ _ | .assayShl _ _ | .assayShr _ _ | .rnd _ _ | .mov _ _ | .clr _ _ | .minx _ _ | .maxx _ _
  | .yRead _ _ | .xRead _ _ | .xWrite _ _ | .ldi _ _ | .autoAnswer _ _ | .engineEnable _ _
  | .engineDisable _ _ | .engineStop _ _ | .engineTrapRequest _ _ | .engineTrap _ _
  | .assayXyWrite _ _ _ _ _ _ _ | .assayRegAccess _ _ _ _ _ _ | .retrainDone _ | .migrationDone
  | .thermalSample _ _ | .shedDeadline | .porterCommandDone | .railTrip _ | .railRecover _
  | .registerWrite _ _ _ _ _ | .vddAonRemoved | .deniedRead _ _ _ _ | .firmwareVerified _ | .bootFail => true
  | _ => false

/-- A BR executed now becomes a pending branch (R145, R146, R158): its source is live, or a pending WAITD governs it, or
its decision has not settled. -/
def Machine.State.brPends (s : Machine.State) (b l w : Nat) : Bool :=
  match Machine.liCond w with
  | 1 | 2 => (s.lane b l).pendingWaitd.isSome
  | 5 => (((s.ownWindow b l).bind fun p => s.winKnown b p.1 p.2).filter fun k => decide (k.1 ≤ s.clk.time)).isNone
  | 6 | 7 => true
  | 8 => ((s.tagKnown b (Machine.liBsel w % 256)).filter fun k => decide (k.1 ≤ s.clk.time)).isNone
  | _ => false

/-- The commands that may change converters, tones or flux outputs. -/
def Instr.changesOutputs : Instr → Bool
  | .powerOnReset _ _ | .pwrgdLow | .resetN _ | .warmReset _ | .bootRequest | .wakeTimer | .wakeTrig _
  | .armedEntryDone _ | .transitionDone | .keepExitDone | .trimDone _ | .applyPhaseDone _ | .fdlyApply _
  | .refLoss _ | .pllLockLoss _ | .playStartTick _ _ _ | .frameEffect _ _ | .startStrobe _ _
  | .toneFwCommit _ _ _ _ | .rangeChangeStart _ _ | .rangeChangeDone _ _ | .correctorWrite _ _ _ _ _
  | .safeNLow | .retrainDone _ | .migrationDone | .panelLevelChange _ _ | .thermalSample _ _
  | .porterCommandDone | .railTrip _ | .railRecover _ | .registerWrite _ _ _ _ _ | .vddAonRemoved
  | .firmwareVerified _ | .bootFail => true
  | _ => false

/-- The commands that change no register and no register window. -/
def Instr.keepsRegisters : Instr → Bool
  | .benchQuiet _ | .echoReq _ _ _ | .trigOutEdge _ | .refclkReturn | .dividerAligned | .granuleRequest _ _
  | .idle _ _ | .frame _ _ | .loop _ _ | .endl _ _ | .sync _ _ | .mark _ _ | .end_ _ _ | .stageDone _ _
  | .slotRelease _ _ | .laneDrained _ _ | .safeNHigh | .engineStop _ _ | .engineTrapRequest _ _
  | .crierPairSend | .linkUp _ | .foremanStartCondition _ | .pointStrobeEffect _ | .doorbell _ _ | .rhWindow
  | .selfRefreshExit | .selfRefreshEntry | .retrainStart | .retirementStart | .writerSlot | .ledTimeout _
  | .park _ | .biasRangeSwitchDone _ | .latchedEntry | .ledgerRefresh | .pcieLinkUp | .watchdogKick
  | .errorCountHour => true
  | _ => false

/-- The commands that change the state of no Foreman. -/
def Instr.keepsForemen : Instr → Bool
  | .benchWipeDone _ | .wipeComplete | .modeReqIdle | .modeReqKeep | .modeReqDormant | .modeReqTrim _ _ _ _
  | .modeReqArmed | .modeReqService | .benchQuiet _ | .epochCapture _ | .epochArm _ _ | .captureRead _ _
  | .echoStart _ _ | .echoReq _ _ _ | .echoAns _ _ _ _ _ | .echoTimeout | .epochTrimWrite _ | .fdlyWrite _ _
  | .fdlyApply _ | .trigOutEdge _ | .refclkReturn | .dividerAligned | .segdirWrite _ _ _ _ | .aliasWrite _ _
  | .retire _ | .retireComplete | .waveformWrite _ _ _ | .granuleRequest _ _ | .play _ _ | .playx _ _
  | .idle _ _ | .frame _ _ | .br _ _ | .loop _ _ | .endl _ _ | .sync _ _ | .mark _ _ | .setv _ _ | .end_ _ _
  | .playQueueSpace _ _ | .frameEffect _ _ | .stageDone _ _ | .slotRelease _ _ | .syncTimeout _ _
  | .startStrobe _ _ | .syncRelease _ _ | .abortStrobe _ _ | .flushStrobe _ _ | .stopStrobe _ _
  | .laneDisable _ _ | .laneEnable _ _ | .laneDrained _ _ | .toneFwCommit _ _ _ _ | .fsrRequest _ _ _
  | .rangeChangeStart _ _ | .rangeChangeDone _ _ | .correctorWrite _ _ _ _ _ | .safeNHigh | .attnRequest _ _ _
  | .attnChangeStart _ _ | .attnChangeDone _ _ | .partialEntry _ _ _ | .kernelWrite _ _ _ _
  | .engineDisable _ _ | .engineStop _ _ | .engineTrapRequest _ _ | .assayXyWrite _ _ _ _ _ _ _
  | .assayRegAccess _ _ _ _ _ _ | .oltLookup _ | .crierPairSend | .linkUp _ | .linkDown _ | .refreshDue _ _
  | .memTempSample _ | .rowThreshold _ _ _ _ | .rhWindow | .edcError _ _ _ _ | .caParityAlert _ _
  | .requestPromotion _ _ | .selfRefreshExit | .selfRefreshEntry | .retrainStart | .retirementStart
  | .writerSlot | .rpWrite _ _ | .drainCopy | .drainIrq | .dmaError | .streamDisable _ | .ledTimeout _
  | .biasCodeWrite _ _ | .loadStrobe _ | .biasUpdate | .unpark _ _ | .park _ | .biasRangeRequest _ _ _
  | .biasRangeSwitchDone _ | .sinStart _ | .sinStop _ | .monitorConversion _ _ _ | .scanRun | .scanStop
  | .sensorReading _ | .scanEntryEnd | .excitationSwitch _ _ | .loopReadback _ _ | .latchedEntry
  | .surveyComplete _ | .ledgerCompaction | .ledgerRefresh | .pcieReset | .pcieLinkUp | .carterAnnounce _ _ _
  | .carterLinkDown _ | .carterLinkUp _ | .coreImageLoaded _ | .coreHold | .coreRelease | .watchdogKick
  | .watchdogFired | .mgmtPacket _ | .ident | .lcToken _ | .ledgerKey | .ledgerRead _ | .fwWrite _ | .provKey
  | .pmbAlert _ | .waveformRead _ _ _ | .deniedRead _ _ _ _ | .irqCodeRead _ _ | .carterFrameError _
  | .panicEntry _ _ | .errorCountHour | .adcClip _ _ | .trigContend _ => true
  | _ => false

end Sys2Proof
end

