-- ==== Sys2Proof/Certificates/Slice0/Obligations.lean ====
section
/-!
DEFINITION. The statements about the model, chapter by chapter. `Completes c s P` says that the command `c` on the state
`s` answers a next state of which `P` holds.
-/
open Sys2Proof Sys2Proof.Machine

/-- The step of the block on a waiting command. -/
def Obligations.StepRunsFront : Prop :=
  ∀ (c : Instr) (rest : List Instr) (s : State),
    step { s with pending := c :: rest } = exec c { s with pending := rest }

/-- R22: TIME in one tick. -/
def Obligations.IdleTick : Prop :=
  (∀ s : State, s.pending = [] → s.powered = false → step s = .next s) ∧
  (∀ s : State, s.pending = [] → s.powered = true → ∃ t, step s = .next t ∧ t.clk = s.clk.tick ∧ t.mode = s.mode ∧
    t.transit = s.transit ∧ t.load = s.load ∧ t.hold = s.hold ∧ t.trim = s.trim ∧ t.mem = s.mem ∧ t.slow = s.slow ∧
    t.therm = s.therm ∧ t.pins = s.pins ∧ t.host = s.host ∧ t.pending = []) ∧
  (∀ c : Clocks, c.tick.now = c.now + 1 ∧ c.tick.phRef = (c.phRef + 1) % 30 ∧ c.tick.phAon = (c.phAon + 1) % 120 ∧
    c.tick.refclk = c.refclk ∧
    (c.snapPend = false → c.core = true → c.aligned = true → c.tick.time = (c.time + 1) % 2 ^ 64) ∧
    (c.snapPend = false → (c.core = false ∨ c.aligned = false) → c.refclk = true →
      c.tick.time = if c.tick.phRef = 0 then (c.time + 30) % 2 ^ 64 else c.time) ∧
    (c.snapPend = false → c.core = true → c.aligned = true → c.stopPend = true → c.refclk = true →
      (c.tick.phRef = 0 → c.tick.core = false ∧ c.tick.conv = false ∧ c.tick.stopPend = false) ∧
      (c.tick.phRef ≠ 0 → c.tick.core = true ∧ c.tick.conv = c.conv ∧ c.tick.stopPend = true)))

/-- R22, R56: the state at reset. -/
def Obligations.ResetState : Prop :=
  State.reset.powered = true ∧ State.reset.mode = .dormant ∧ State.reset.clk.time = 0 ∧ State.reset.clk.core = false ∧
    State.reset.clk.conv = false ∧ State.reset.transit = none ∧ State.reset.load = none ∧ State.reset.hold = none ∧
    State.reset.pending = [] ∧ (∀ o, State.reset.reg o = apReset o) ∧
    (∀ b l, (State.reset.lane b l).st = .off) ∧ (∀ b e, (State.reset.eng b e).st = .off) ∧
    (∀ b, (State.reset.fm b).st = .off) ∧ State.reset.mem = [] ∧ Memory.wf State.reset.mem = true ∧
    State.reset.clk.ok

/-- No stop on a powered device. -/
def Obligations.EveryCommand : Prop :=
  (∀ (c : Instr) (s : State), s.powered = true → ∃ t, exec c s = .next t) ∧
  (∀ (c : Instr) (s : State), s.powered = false → (∀ v x, c ≠ .powerOnReset v x) → exec c s = .fault .unpowered) ∧
  (∀ (c : Instr) (s t : State), exec c s = .next t → t.pending = s.pending)

/-- The canonical form of waveform memory. -/
def Obligations.MemoryFormKept : Prop :=
  ∀ s t : State, Memory.wf s.mem = true → step s = .next t → Memory.wf t.mem = true

/-- R459: OTP bits are only ever burnt. -/
def Obligations.OtpOnlyBurnt : Prop :=
  ∀ (c : Instr) (s t : State), exec c s = .next t →
    t.host.otp.serial = s.host.otp.serial ∧ t.host.otp.vendorSet = s.host.otp.vendorSet ∧
      s.host.otp.ownCnt ≤ t.host.otp.ownCnt ∧ s.host.otp.retCnt ≤ t.host.otp.retCnt ∧
      s.host.otp.fwFloor ≤ t.host.otp.fwFloor ∧ (s.host.otp.scrap = true → t.host.otp.scrap = true) ∧
      s.host.otp.ownerHash <:+ t.host.otp.ownerHash

/-- R56, R427, R470: what ends LATCHED. -/
def Obligations.LatchedStays : Prop :=
  ∀ (c : Instr) (s t : State), s.powered = true → s.mode = .latched → s.therm.thermN = true → s.transit = none →
    s.load = none → s.hold = none → s.memc.maint = none → c ≠ .vddAonRemoved → exec c s = .next t →
    t.powered = true ∧ t.mode = .latched ∧ t.therm.thermN = true ∧ t.transit = none ∧ t.load = none ∧ t.hold = none ∧
      t.memc.maint = none

/-- R36, R37, R38, R63: what the Bench commands do. -/
def Obligations.BenchCommands : Prop :=
  (∀ (b : Fin 8) (s : State), s.powered = true → Completes (.benchDisable b) s fun t =>
    t.benchOn b = false ∧ t.fld (R.BENCH_CTL b) Fd.BENCH_CTL_EN = 0 ∧ (t.benchSt b).enPend = false ∧
      (s.benchOn b = true → (t.benchSt b).stopping = true) ∧ (∀ j, t.gds j = s.gds j) ∧ t.mode = s.mode ∧
      t.mem = s.mem ∧ ∀ k : Fin 8, k ≠ b → t.benchSt k = s.benchSt k) ∧
  (∀ (who : Who) (b : Fin 8) (s : State), s.powered = true → s.reaches who = true → s.wiped b = false →
    (s.benchSt b).resetPend = false → s.mode.timeline = false → s.benchOn b = false →
    Completes (.benchEnable who b) s fun t => t.benchOn b = true ∧ (t.benchSt b).stopping = false) ∧
  (∀ (who : Who) (b : Fin 8) (s : State), s.powered = true → s.reaches who = true → s.wiped b = false →
    (s.benchSt b).resetPend = false → s.mode.timeline = true → s.benchOn b = false →
    Completes (.benchEnable who b) s fun t =>
      t.benchOn b = false ∧ t.fld (R.BENCH_CTL b) Fd.BENCH_CTL_EN = 1 ∧ (t.benchSt b).enPend = true) ∧
  (∀ (who : Who) (b : Fin 8) (s : State), s.powered = true → s.reaches who = true →
    ((s.wiped b = true ∨ (s.benchSt b).resetPend = true) → Completes (.benchEnable who b) s fun t =>
      t.bench = s.bench ∧ t.reg (R.BENCH_CTL b) = s.reg (R.BENCH_CTL b) ∧
        t.flag R.TOP_ACCESS Fd.TOP_ACCESS_ACCESS_DENIED = true) ∧
    (s.wiped b = false → (s.benchSt b).resetPend = false → s.benchOn b = true →
      exec (.benchEnable who b) s = .next s)) ∧
  (∀ (b : Fin 8) (s : State), s.powered = true → s.benchOn b = false → s.benchQuiet b = true →
    (∀ l : Fin 32, (s.lane b l).st ≠ .stopping) → (s.benchSt b).stopping = true → Completes (.benchQuiet b) s fun t =>
      (t.benchSt b).stopping = false ∧ t.ap = s.ap ∧ t.mem = s.mem ∧
        ((s.benchSt b).resetPend = true → (s.benchSt b).wipeDue = 0 → (t.benchSt b).wipeDue = s.clk.now + 18000)) ∧
  (∀ (who : Who) (mask : BitVec 8) (s : State), s.powered = true → s.reaches who = true →
    s.mode.benchResets = true → s.load = none → Completes (.benchReset who mask) s fun t =>
      t.mode = s.mode ∧
        t.fld R.TOP_RESET_CAUSE Fd.TOP_RESET_CAUSE_BENCH =
          s.fld R.TOP_RESET_CAUSE Fd.TOP_RESET_CAUSE_BENCH ||| mask.toNat ∧
        (∀ b : Fin 8, bitAt mask.toNat b = true → (t.benchSt b).resetPend = true ∧
          ((s.benchSt b).resetPend = false → t.benchOn b = false)) ∧
        ∀ b : Fin 8, bitAt mask.toNat b = false → t.benchSt b = s.benchSt b ∧ t.benchOn b = s.benchOn b) ∧
  (∀ (who : Who) (mask : BitVec 8) (s : State), s.powered = true → s.reaches who = true →
    s.mode.benchResets = false → Completes (.benchReset who mask) s fun t =>
      t.fld R.TOP_MODE_ERR Fd.TOP_MODE_ERR_CODE = 2 ∧ t.fld R.TOP_MODE_ERR Fd.TOP_MODE_ERR_REQ = s.mode.code ∧
        t.flag R.TOP_MODE_ERR Fd.TOP_MODE_ERR_NEW = true ∧ t.bench = s.bench) ∧
  (∀ (b : Fin 8) (s : State), s.powered = true → (s.benchSt b).resetPend = true → (s.benchSt b).wipeDue ≠ 0 →
    (s.benchSt b).wipeDue ≤ s.clk.now → Completes (.benchWipeDone b) s fun t =>
      t.wiped b = true ∧ (t.benchSt b).resetPend = false ∧ t.mem = s.mem ∧
        (∀ off, 0x430000000 + 0x1000000 * b.val ≤ off → off < 0x431000000 + 0x1000000 * b.val →
          t.reg off = apReset off) ∧
        ∀ l : Fin 32, (t.lane b l).plays = [] ∧ (t.lane b l).slots = [] ∧ (t.lane b l).branches = [])

/-- R56, R488, R470, R62: power-on resets. -/
def Obligations.PowerOnReset : Prop :=
  (∀ (straps : Fin 64) (s : State), s.powered = false →
    Completes (.powerOnReset true straps) s fun t =>
      t.powered = true ∧ t.mode = .dormant ∧ t.clk.time = 0 ∧ (∀ off, t.reg off = apReset off) ∧
        (∀ a, t.byteAt a = 0) ∧ t.host.straps = straps ∧ t.pending = s.pending ∧ t.host.otp = s.host.otp ∧
        t.host.ledger = s.host.ledger) ∧
  (∀ (straps : Fin 64) (s : State), s.powered = true → s.pins.pwrgd = false → s.isLatched = false →
    s.pins.railsOut % 256 = 0 →
    Completes (.powerOnReset false straps) s fun t =>
      t.powered = true ∧ t.mode = .dormant ∧ t.clk.time = 0 ∧ t.pins.pwrgd = true ∧
        t.fld R.TOP_RESET_CAUSE Fd.TOP_RESET_CAUSE_SUPPLY = 1 ∧
        t.fld R.TOP_RESET_CAUSE Fd.TOP_RESET_CAUSE_POWER_ON = 0 ∧ s.keepsStores t) ∧
  (∀ (straps : Fin 64) (s : State), s.powered = true → s.pins.pwrgd = false →
    (s.isLatched = true ∨ s.pins.railsOut % 256 ≠ 0) →
    Completes (.powerOnReset false straps) s fun t =>
      t.pins.pwrgd = true ∧ t.mode = s.mode ∧ t.clk = s.clk ∧
        (s.isLatched = true → t.fld R.TOP_RESET_CAUSE Fd.TOP_RESET_CAUSE_SUPPLY = 1)) ∧
  (∀ s : State, s.powered = true → Completes .vddAonRemoved s fun t =>
    t.powered = false ∧ t.pending = s.pending ∧ t.host.ledger = s.host.ledger ∧
      (s.host.job = none → t.host.otp = s.host.otp))

/-- R56, R57, R44, R488, R64, R62: the device-level resets but power-on. -/
def Obligations.DeviceResets : Prop :=
  (∀ s : State, s.powered = true → s.pins.pwrgd = true → s.isLatched = false →
    Completes .pwrgdLow s fun t =>
      t.mode = .dormant ∧ t.pins.pwrgd = false ∧ t.pins.bootDue = none ∧ t.coreGone ∧ s.keepsStores t ∧
        t.fld R.TOP_RESET_CAUSE Fd.TOP_RESET_CAUSE_PREV_MODE = s.mode.code ∧
        (s.clk.refclk = true → t.clk.time = s.clk.time) ∧
        (∀ off, 0x400010000 ≤ off → off < 0x400020000 → t.reg off = s.reg off) ∧
        ∀ n : Fin 64, (s.bias n).parked = false → (t.bias n).aim = .parkSafe) ∧
  (∀ s : State, s.powered = true → s.pins.pwrgd = true → s.isLatched = true →
    exec .pwrgdLow s = .next { s with pins := { s.pins with pwrgd := false } }) ∧
  (∀ s : State, s.powered = true → s.pins.pwrgd = false → exec .pwrgdLow s = .next s) ∧
  (∀ (straps : Fin 64) (s : State), s.powered = true → s.resetHeld = false →
    Completes (.resetN straps) s fun t =>
      t.mode = .dormant ∧ t.coreGone ∧ s.keepsStores t ∧ t.host.straps = straps ∧
        t.fld R.TOP_RESET_CAUSE Fd.TOP_RESET_CAUSE_PIN = 1 ∧
        t.fld R.TOP_RESET_CAUSE Fd.TOP_RESET_CAUSE_PREV_MODE = s.mode.code ∧
        (s.clk.refclk = true → t.clk.time = s.clk.time) ∧
        t.reg R.TIME_EPOCH_PERIOD = s.reg R.TIME_EPOCH_PERIOD ∧
        (∀ off, 0x400060000 ≤ off → off < 0x400090000 → t.reg off = apReset off) ∧
        (∀ n : Fin 64, (t.bias n).parked = true ∧ (t.bias n).out = 0) ∧
        t.pins.bootDue = some (max (s.clk.now + 300000) (s.pins.bootDue.getD 0))) ∧
  (∀ (straps : Fin 64) (s : State), s.powered = true → s.resetHeld = true →
    Completes (.resetN straps) s fun t =>
      t.fld R.TOP_RESET_CAUSE Fd.TOP_RESET_CAUSE_PIN = 1 ∧ s.goesOn t) ∧
  (∀ (byPorter : Bool) (s : State), s.powered = true → s.resetHeld = false → s.pins.bootDue = none →
    Completes (.warmReset byPorter) s fun t =>
      t.mode = .boot ∧ t.coreGone ∧ s.keepsStores t ∧
        t.fld R.TOP_RESET_CAUSE (if byPorter then Fd.TOP_RESET_CAUSE_PORTER else Fd.TOP_RESET_CAUSE_WARM) = 1 ∧
        t.fld R.TOP_RESET_CAUSE Fd.TOP_RESET_CAUSE_PREV_MODE = s.mode.code ∧
        t.slow.bias = s.slow.bias ∧ (s.clk.refclk = true → t.clk.time = s.clk.time) ∧
        ∀ off, 0x400010000 ≤ off → off < 0x400020000 → t.reg off = s.reg off) ∧
  (∀ (byPorter : Bool) (s : State), s.powered = true → (s.resetHeld = true ∨ s.pins.bootDue.isSome = true) →
    Completes (.warmReset byPorter) s fun t =>
      t.fld R.TOP_RESET_CAUSE (if byPorter then Fd.TOP_RESET_CAUSE_PORTER else Fd.TOP_RESET_CAUSE_WARM) = 1 ∧
        s.goesOn t)

/-- R53, R54, R55, R58, R423, R463: from DORMANT to the end of SANITISE. -/
def Obligations.BootAndSanitise : Prop :=
  (∀ s : State, s.powered = true → s.mode = .dormant → s.pins.pwrgd = true → s.pins.railsOut % 256 = 0 →
    s.therm.bootBad = false → (∃ d, s.pins.bootDue = some d ∧ d ≤ s.clk.now) →
    s.flag R.TOP_AON_CTL Fd.TOP_AON_CTL_AUTOBOOT = true →
    Completes .bootRequest s fun t => t.mode = .boot ∧ t.pins.bootDue = none ∧ t.clk = s.clk) ∧
  (∀ s : State, s.powered = true → s.mode = .dormant → s.pins.pwrgd = true → s.pins.railsOut % 256 = 0 →
    s.therm.bootBad = false → s.clk.phAon = 0 → s.flag R.TOP_AON_CTL Fd.TOP_AON_CTL_WAKE_TIMER_EN = true →
    s.reg64 R.TOP_WAKE_TIME_LO ≤ s.clk.time →
    Completes .wakeTimer s fun t => t.mode = .boot ∧ t.pins.bootDue = none ∧ t.clk = s.clk) ∧
  (∀ (line : Fin 8) (s : State), s.powered = true → s.mode = .dormant → s.pins.pwrgd = true →
    s.pins.railsOut % 256 = 0 → s.therm.bootBad = false →
    s.flag R.TOP_AON_CTL Fd.TOP_AON_CTL_WAKE_TRIG_EN = true →
    s.fld R.TOP_AON_CTL Fd.TOP_AON_CTL_WAKE_TRIG = line →
    Completes (.wakeTrig line) s fun t => t.mode = .boot ∧ t.pins.bootDue = none ∧ t.clk = s.clk) ∧
  (∀ (line : Fin 8) (s : State), s.powered = true → s.mode = .dormant → s.pins.pwrgd = true →
    s.pins.railsOut % 256 = 0 → s.therm.bootBad = true → (∃ d, s.pins.bootDue = some d ∧ d ≤ s.clk.now) →
    s.flag R.TOP_AON_CTL Fd.TOP_AON_CTL_AUTOBOOT = true → s.clk.phAon = 0 →
    s.flag R.TOP_AON_CTL Fd.TOP_AON_CTL_WAKE_TIMER_EN = true → s.reg64 R.TOP_WAKE_TIME_LO ≤ s.clk.time →
    s.flag R.TOP_AON_CTL Fd.TOP_AON_CTL_WAKE_TRIG_EN = true →
    s.fld R.TOP_AON_CTL Fd.TOP_AON_CTL_WAKE_TRIG = line →
    ∀ c ∈ [Instr.bootRequest, .wakeTimer, .wakeTrig line],
      Completes c s fun t => t.mode = .latched ∧ t.therm.thermN = true) ∧
  (∀ (alternate : Bool) (s : State), s.powered = true → s.mode = .boot → s.intentBurnt = none →
    s.flag R.TOP_MODE Fd.TOP_MODE_BOOT_FAIL = false → s.host.image alternate ≠ 0 →
    s.host.otp.fwFloor ≤ s.host.image alternate →
    Completes (.firmwareVerified alternate) s fun t =>
      t.mode = .sanitise ∧ t.flag R.TOP_MODE Fd.TOP_MODE_SANITISE_OPEN = true ∧ t.clk.core = true ∧
        t.host.fwVer = s.host.image alternate ∧ t.host.otp.fwFloor = s.host.image alternate ∧
        t.memc.wipeDue = some (s.clk.now + 229650000)) ∧
  (∀ s : State, s.powered = true → s.mode = .boot → s.intentBurnt = none → Completes .bootFail s fun t =>
    t.mode = .boot ∧ t.flag R.TOP_MODE Fd.TOP_MODE_BOOT_FAIL = true ∧ t.host.mgmtPorter = true) ∧
  (∀ (alternate : Bool) (x : Nat) (s : State), s.powered = true → s.mode = .boot → s.intentBurnt = some x →
    ∀ c ∈ [Instr.firmwareVerified alternate, .bootFail], Completes c s fun t =>
      t.mode = .boot ∧ t.host.customFlash = false ∧
        (∃ r : LedgerRec, t.host.ledger = s.host.ledger ++ [r] ∧ r.kind = .lifecycle false x) ∧
        t.fld R.TOP_RESET_CAUSE Fd.TOP_RESET_CAUSE_PORTER = 1 ∧
        (s.resetHeld = false → s.pins.bootDue = none → t.coreGone)) ∧
  (∀ s : State, s.powered = true → s.mode = .sanitise → s.clk.aligned = true →
    (∃ d, s.memc.wipeDue = some d ∧ d ≤ s.clk.now) →
    Completes .wipeComplete s fun t =>
      t.flag R.TOP_MODE Fd.TOP_MODE_SANITISE_OPEN = false ∧ (∀ a, t.byteAt a = 0) ∧
        (∀ off, isWindow off = true → t.reg off = apReset off) ∧
        t.transit = some { src := .sanitise, dst := .idle, kind := .timed, due := s.clk.now + 1350000 })

/-- R45 to R47, R49 to R52. -/
def Obligations.ModeRequests : Prop :=
  (∀ s : State, s.powered = true → s.busy = false → (s.mode = .armed ∨ s.mode = .hold ∨ s.mode = .service) →
    Completes .modeReqIdle s fun t =>
      t.mode = s.mode ∧
        t.transit = some { src := s.mode, dst := .idle, kind := .timed, due := s.clk.now + 150000 } ∧ t.ap = s.ap) ∧
  (∀ s : State, s.powered = true → s.busy = false → s.mode = .keep →
    Completes .modeReqIdle s fun t => t.mode = .keep ∧
      t.transit = some { src := .keep, dst := .idle, kind := .keepExit false, due := s.clk.now + 6840000 }) ∧
  (∀ s : State, s.powered = true → s.busy = false → s.mode = .run →
    Completes .modeReqIdle s fun t =>
      t.mode = .run ∧ t.transit = s.transit ∧ ∃ h, t.hold = some h ∧ h.soft = true ∧ h.follow = some .idle) ∧
  (∀ s : State, s.powered = true → s.busy = false → s.mode = .idle → s.patterned = true →
    Completes .modeReqKeep s fun t => t.mode = .idle ∧
      t.transit = some { src := .idle, dst := .keep, kind := .timed, due := s.clk.now + 1500000 }) ∧
  (∀ s : State, s.powered = true → s.busy = false → s.mode = .idle →
    Completes .modeReqDormant s fun t => t.mode = .idle ∧
      (∃ d, t.transit = some { src := .idle, dst := .dormant, kind := .timed, due := d }) ∧
      ∀ n : Fin 64, (s.bias n).parked = false → (t.bias n).aim = .parkSafe) ∧
  (∀ (conv skew survey full : Bool) (s : State), s.powered = true → s.busy = false → s.mode = .idle →
    s.patterned = true → (conv || skew || survey) = true →
    Completes (.modeReqTrim conv skew survey full) s fun t => t.mode = .idle ∧
      (∃ d, t.transit = some { src := .idle, dst := .trim, kind := .timed, due := d }) ∧ t.trim.conv = conv ∧
        t.trim.skew = skew ∧ t.trim.survey = survey ∧ t.trim.full = (full && survey) ∧ t.clk.core = true ∧
        t.clk.conv = true) ∧
  (∀ s : State, s.powered = true → s.busy = false → s.mode = .idle → s.patterned = true → s.coherent = true →
    (s.fails s.pat.budget s.benchesAsked).isNone = true → (s.memDead = false ∨ s.memc.cacheOnly = true) →
    s.therm.rearmOk = true → s.offsetsDue = true →
    Completes .modeReqArmed s fun t => t.mode = .idle ∧
      ∃ d, t.transit = some { src := .idle, dst := .armed, kind := .offsets, due := d }) ∧
  (∀ s : State, s.powered = true → s.busy = false → s.mode = .idle → s.patterned = true → s.coherent = true →
    (s.fails s.pat.budget s.benchesAsked).isNone = true → (s.memDead = false ∨ s.memc.cacheOnly = true) →
    s.therm.rearmOk = true → s.offsetsDue = false →
    Completes .modeReqArmed s fun t => t.mode = .idle ∧
      t.transit = some { src := .idle, dst := .armed, kind := .armedEntry, due := s.clk.now + 660000 } ∧
        t.clk.core = true ∧ t.clk.conv = true) ∧
  (∀ s : State, s.powered = true → s.busy = false → s.mode = .hold → s.patterned = true → s.coherent = true →
    (s.fails s.pat.budget s.benchesAsked).isNone = true → (s.memDead = false ∨ s.memc.cacheOnly = true) →
    s.therm.rearmOk = true →
    Completes .modeReqArmed s fun t => t.mode = .hold ∧
      t.transit = some { src := .hold, dst := .armed, kind := .armedEntry, due := s.clk.now + 3000 }) ∧
  (∀ s : State, s.powered = true → s.busy = false → s.mode = .keep → s.patterned = true → s.coherent = true →
    (s.fails s.pat.budget s.benchesAsked).isNone = true → (s.memDead = false ∨ s.memc.cacheOnly = true) →
    s.therm.rearmOk = true →
    Completes .modeReqArmed s fun t => t.mode = .keep ∧
      t.transit = some { src := .keep, dst := .armed, kind := .keepExit true, due := s.clk.now + 6840000 }) ∧
  (∀ s : State, s.powered = true → s.busy = false → s.mode = .run →
    Completes .modeReqHold s fun t =>
      t.mode = .run ∧ t.transit = s.transit ∧ ∃ h, t.hold = some h ∧ h.soft = true ∧ h.follow = none) ∧
  (∀ s : State, s.powered = true → s.busy = false → s.mode = .armed → s.hold = none →
    ∀ c ∈ [Instr.modeReqHold, .modeReqHoldForce], Completes c s fun t =>
      t.mode = .hold ∧ t.transit = none ∧ t.hold = none) ∧
  (∀ s : State, s.powered = true → s.inTransit = false → s.mode = .run →
    Completes .modeReqHoldForce s fun t => t.mode = .hold ∧ t.hold = none ∧
      ∀ b : Fin 8, s.benchOn b = true → t.flag (R.BENCH_EVENTS b) Fd.BENCH_EVENTS_POISON = true) ∧
  (∀ s : State, s.powered = true → s.busy = false → (s.mode = .idle ∨ s.mode = .hold) →
    Completes .modeReqService s fun t => t.mode = s.mode ∧
      (∃ d, t.transit = some { src := s.mode, dst := .service, kind := .timed, due := d }) ∧ t.clk.core = true ∧
        t.clk.conv = true) ∧
  (∀ s : State, s.powered = true → s.busy = false → s.mode = .run →
    Completes .modeReqService s fun t =>
      t.mode = .run ∧ t.transit = s.transit ∧ ∃ h, t.hold = some h ∧ h.soft = true ∧ h.follow = some .service) ∧
  (∀ (conv skew survey full : Bool) (s : State), s.powered = true → s.inTransit = true →
    ∀ c ∈ [(Instr.modeReqIdle, Mode.idle), (.modeReqKeep, .keep), (.modeReqDormant, .dormant), (.modeReqArmed, .armed),
        (.modeReqHold, .hold), (.modeReqHoldForce, .hold), (.modeReqService, .service),
        (.modeReqTrim conv skew survey full, .trim)],
      Completes c.1 s fun t => t.refusedAs 1 c.2 ∧ s.goesOn t) ∧
  (∀ (conv skew survey full : Bool) (h : HoldReq) (s : State), s.powered = true → s.hold = some h →
    (h.shed = true ∨ h.budget = true) →
    ∀ c ∈ [(Instr.modeReqIdle, Mode.idle), (.modeReqKeep, .keep), (.modeReqDormant, .dormant), (.modeReqArmed, .armed),
        (.modeReqHold, .hold), (.modeReqService, .service), (.modeReqTrim conv skew survey full, .trim)],
      Completes c.1 s fun t => t.refusedAs 1 c.2 ∧ s.goesOn t) ∧
  (∀ (conv skew survey full : Bool) (s : State), s.powered = true → s.busy = false →
    ∀ c ∈ [(Instr.modeReqIdle, Mode.idle, [Mode.run, .armed, .hold, .service, .keep]), (.modeReqKeep, .keep, [.idle]),
        (.modeReqDormant, .dormant, [.idle]), (.modeReqArmed, .armed, [.idle, .keep, .hold]),
        (.modeReqHold, .hold, [.run, .armed]), (.modeReqHoldForce, .hold, [.run, .armed]),
        (.modeReqService, .service, [.run, .idle, .hold]),
        (.modeReqTrim conv skew survey full, .trim, if conv || skew || survey then [.idle] else [])],
      s.mode ∉ c.2.2 → Completes c.1 s fun t => t.refusedAs 2 c.2.1 ∧ s.goesOn t) ∧
  (∀ (conv skew survey full : Bool) (s : State), s.powered = true → s.busy = false → s.patterned = false →
    ∀ c ∈ [(Instr.modeReqKeep, Mode.keep, [Mode.idle]), (.modeReqArmed, .armed, [.idle, .keep, .hold]),
        (.modeReqTrim conv skew survey full, .trim, if conv || skew || survey then [.idle] else [])],
      s.mode ∈ c.2.2 → Completes c.1 s fun t => t.refusedAs 3 c.2.1 ∧ s.goesOn t) ∧
  (∀ s : State, s.powered = true → s.busy = false → (s.mode = .idle ∨ s.mode = .keep ∨ s.mode = .hold) →
    s.patterned = true → s.coherent = false →
    Completes .modeReqArmed s fun t => t.refusedAs 4 .armed ∧ s.goesOn t) ∧
  (∀ s : State, s.powered = true → s.busy = false → (s.mode = .idle ∨ s.mode = .keep ∨ s.mode = .hold) →
    s.patterned = true → s.coherent = true →
    ((s.fails s.pat.budget s.benchesAsked).isSome = true ∨ s.memDead = true ∧ s.memc.cacheOnly = false) →
    Completes .modeReqArmed s fun t => t.refusedAs 5 .armed ∧ s.goesOn t) ∧
  (∀ s : State, s.powered = true → s.busy = false → (s.mode = .idle ∨ s.mode = .keep ∨ s.mode = .hold) →
    s.patterned = true → s.coherent = true → (s.fails s.pat.budget s.benchesAsked).isNone = true →
    (s.memDead = false ∨ s.memc.cacheOnly = true) → s.therm.rearmOk = false →
    Completes .modeReqArmed s fun t => t.refusedAs 6 .armed ∧ s.goesOn t)

/-- R45, R50, R51, R52: mode changes. -/
def Obligations.ModeChanges : Prop :=
  (∀ (s : State) (x : Transit), s.powered = true → s.transit = some x → x.kind = .timed → x.due ≤ s.clk.now →
    x.dst = .idle →
    Completes .transitionDone s fun t => t.mode = .idle ∧ t.transit = none ∧ t.hold = none ∧ t.memc.selfRef = true ∧
      (∀ (b : Fin 8) (e : Fin 4), (t.eng b e).runs = false) ∧ (t.clk.core = false ∨ t.clk.stopPend = true)) ∧
  (∀ (s : State) (x : Transit), s.powered = true → s.transit = some x → x.kind = .timed → x.due ≤ s.clk.now →
    x.dst = .keep →
    Completes .transitionDone s fun t => t.mode = .keep ∧ t.transit = none ∧ t.host.coresRun = 0 ∧ t.mem = s.mem) ∧
  (∀ (s : State) (x : Transit), s.powered = true → s.transit = some x → x.kind = .timed → x.due ≤ s.clk.now →
    x.dst = .trim → s.clk.aligned = true →
    Completes .transitionDone s fun t => t.transit = none ∧
      (s.clk.refclk = true → t.mode = .trim ∧ t.therm.surveying = s.trim.survey) ∧
      (s.clk.refclk = false → t.mode = .idle)) ∧
  (∀ (s : State) (x : Transit), s.powered = true → s.transit = some x → x.kind = .timed → x.due ≤ s.clk.now →
    x.dst = .service → s.clk.aligned = true →
    Completes .transitionDone s fun t => t.mode = .service ∧ t.transit = none ∧ t.mem = s.mem) ∧
  (∀ (s : State) (x : Transit), s.powered = true → s.transit = some x → x.kind = .timed → x.due ≤ s.clk.now →
    x.dst = .dormant → Completes .transitionDone s fun t => t.mode = .dormant ∧ t.coreGone ∧
      ∀ off, 0x400010000 ≤ off → off < 0x400020000 → t.reg off = s.reg off) ∧
  (∀ (ack : BitVec 4) (s : State) (x : Transit), s.powered = true → s.transit = some x → x.kind = .offsets →
    x.due ≤ s.clk.now →
    Completes (.armedEntryDone ack) s fun t => t.mode = s.mode ∧
      t.transit = some { src := s.mode, dst := .armed, kind := .armedEntry, due := s.clk.now + 660000 } ∧
        t.clk.core = true ∧ t.clk.conv = true) ∧
  (∀ (ack : BitVec 4) (s : State) (x : Transit), s.powered = true → s.transit = some x → x.kind = .armedEntry →
    x.due ≤ s.clk.now → (x.src = .hold ∨ s.clk.phRef = 0 ∧ s.clk.refclk = true ∧ s.clk.core = true ∧
      s.clk.snapPend = false) → (s.fails s.pat.budget s.benchesAsked).isNone = true →
    Completes (.armedEntryDone ack) s fun t => t.mode = .armed ∧ t.transit = none ∧ t.clk.time = s.clk.time ∧
      (∀ b : Fin 8, (s.benchSt b).enPend = true → t.benchOn b = true) ∧ (x.src ≠ .hold → t.clk.aligned = true)) ∧
  (∀ (ack : BitVec 4) (s : State) (x : Transit), s.powered = true → s.transit = some x → x.kind = .armedEntry →
    x.due ≤ s.clk.now → (x.src = .hold ∨ x.src = .idle ∧ s.clk.phRef = 0 ∧ s.clk.refclk = true ∧ s.clk.core = true ∧
      s.clk.snapPend = false) → (s.fails s.pat.budget s.benchesAsked).isSome = true →
    Completes (.armedEntryDone ack) s fun t => t.mode = s.mode ∧ t.transit = none ∧ t.refusedAs 5 .armed) ∧
  (∀ (s : State) (x : Transit), s.powered = true → s.transit = some x → x.kind = .keepExit false →
    x.due ≤ s.clk.now → Completes .keepExitDone s fun t => t.mode = .idle ∧ t.transit = none ∧
      t.memc.selfRef = true) ∧
  (∀ (s : State) (x : Transit), s.powered = true → s.transit = some x → x.kind = .keepExit true →
    x.due ≤ s.clk.now → Completes .keepExitDone s fun t => t.mode = s.mode ∧
      (s.offsetsDue = true → ∃ d, t.transit = some { src := s.mode, dst := .armed, kind := .offsets, due := d }) ∧
      (s.offsetsDue = false →
        t.transit = some { src := s.mode, dst := .armed, kind := .armedEntry, due := s.clk.now + 660000 })) ∧
  (∀ (s : State) (x : Transit), s.powered = true → s.transit = some x → x.kind = .keepExit true →
    x.due ≤ s.clk.now → Completes .keepExitDone s fun t =>
      ((∀ c < 18, NMap.get (fun _ => 0xFFFF) s.memc.keep c = 0xFFFF) → t.mem = s.mem) ∧
      ((∃ c < 18, NMap.get (fun _ => 0xFFFF) s.memc.keep c ≠ 0xFFFF) →
        ∀ a, s.retained (a / 64) = false → t.byteAt a = 0)) ∧
  (∀ (cal : List (BitVec 14)) (s : State), s.powered = true → s.trimReady = true →
    Completes (.trimDone cal) s fun t => t.mode = .idle ∧ t.memc.selfRef = true ∧
      (s.trim.skew = true → ∀ i < 176, i < cal.length →
        t.fld (R.TIME_FDLY i) Fd.TIME_FDLY_CAL = (cal.getD i 0).toNat) ∧
      (s.trim.skew = false → ∀ i < 176, t.reg (R.TIME_FDLY i) = s.reg (R.TIME_FDLY i))) ∧
  (∀ s : State, s.powered = true → s.mode = .armed → s.inTransit = false → (∃ b < 8, s.benchOn b = true) →
    (∀ b < 8, s.benchOn b = true → (s.benchSt b).firstStrobe = true) →
    Completes .startConditionMet s fun t => t.mode = .run ∧ t.lanes = s.lanes ∧ t.fms = s.fms) ∧
  (∀ (s : State) (h : HoldReq), s.powered = true → s.mode = .run → s.transit = none → s.hold = some h →
    s.allReached h = true →
    Completes .shotBoundary s fun t => t.mode = .hold ∧ t.hold = none ∧ t.lanes = s.lanes ∧
      (h.follow = none → t.transit = none) ∧
      (h.follow = some .idle →
        t.transit = some { src := .hold, dst := .idle, kind := .timed, due := s.clk.now + 150000 }) ∧
      (h.follow = some .service →
        ∃ d, t.transit = some { src := .hold, dst := .service, kind := .timed, due := d }))

/-- R45: which commands leave RUN, and which enter ARMED. -/
def Obligations.RunLeftOnlyForHold : Prop :=
  ∀ (c : Instr) (s t : State), exec c s = .next t →
    (s.mode = .run → s.transit = none → s.load = none →
      t.mode = .run ∨ t.mode = .hold ∨ t.mode = .latched ∨ t.mode = .dormant ∨ t.mode = .boot) ∧
    (t.mode = .armed → s.mode ≠ .armed → ∃ x, s.transit = some x ∧ x.kind = .armedEntry)

/-- R308: which Foremen count as at their shot boundary. -/
def Obligations.StoppedForemenAtBoundary : Prop :=
  (∀ (s : State) (h : HoldReq), s.powered = true → s.mode = .run → s.hold = some h →
    (∀ b < 8, s.benchOn b = true → bitAt h.reached b = true ∨ (s.fm b).st = .done ∨ (s.fm b).st = .fault) →
    Completes .shotBoundary s fun t => t.mode = .hold) ∧
  (∀ (s : State) (h : HoldReq) (b : Fin 8), s.powered = true → s.mode = .run → s.hold = some h →
    s.benchOn b = true → bitAt h.reached b = false → (s.fm b).st ≠ .done → (s.fm b).st ≠ .fault →
    Completes .shotBoundary s fun t => t = s)

/-- R75, R78, R80, R82, R83, R86, R87: the steps of a load. -/
def Obligations.PatternLoads : Prop :=
  (∀ s : State, s.powered = true → s.inTransit = false → s.mode = .idle →
    Completes .patternLoadStart s fun t => t.mode = .pattern ∧ t.clk.core = true ∧ t.memc.selfRef = false ∧
      t.load = some { overlay := false, phase := .check, src := s.patSrc, len := (s.reg R.TOP_PAT_LEN).toNat }) ∧
  (∀ s : State, s.powered = true → s.inTransit = false → (s.mode = .idle ∨ s.mode = .hold) →
    Completes .overlayStart s fun t => t.mode = s.mode ∧ t.clk = s.clk ∧
      t.load = some { overlay := true, phase := .check, src := s.patSrc, len := (s.reg R.TOP_PAT_LEN).toNat }) ∧
  (∀ s : State, s.powered = true →
    ∀ c ∈ [(Instr.patternLoadStart, [Mode.idle]), (.overlayStart, [.idle, .hold])],
      (s.inTransit = true → Completes c.1 s fun t => s.goesOn t ∧ t.load = s.load ∧
        t.flag R.TOP_PAT_STATUS Fd.TOP_PAT_STATUS_FAIL = true ∧ t.fld R.TOP_PAT_STATUS Fd.TOP_PAT_STATUS_ERR = 1) ∧
      (s.inTransit = false → s.mode ∉ c.2 → Completes c.1 s fun t => s.goesOn t ∧ t.load = s.load ∧
        t.flag R.TOP_PAT_STATUS Fd.TOP_PAT_STATUS_FAIL = true ∧ t.fld R.TOP_PAT_STATUS Fd.TOP_PAT_STATUS_ERR = 2)) ∧
  (∀ (l : Load) (s : State), s.powered = true → s.load = some l → l.phase = .check →
    Completes .patternAbort s fun t => t.load = none ∧
      t.fld R.TOP_PAT_STATUS Fd.TOP_PAT_STATUS_ERR = 0x17 ∧ t.flag R.TOP_PAT_STATUS Fd.TOP_PAT_STATUS_FAIL = true ∧
      (l.overlay = false → t.mode = .idle) ∧ (l.overlay = true → t.mode = s.mode)) ∧
  (∀ s : State, s.powered = true → (∀ l, s.load = some l → l.phase = .apply) → exec .patternAbort s = .next s) ∧
  (∀ (c : CheckResult) (l : Load) (s : State), s.powered = true → s.load = some l → l.phase = .check →
    s.checkHead l (s.image l.src l.len) ≠ 0 → Completes (.checkPhaseDone c) s fun t =>
      t.load = none ∧ t.fld R.TOP_PAT_STATUS Fd.TOP_PAT_STATUS_ERR = s.checkHead l (s.image l.src l.len) ∧
        t.flag R.TOP_PAT_STATUS Fd.TOP_PAT_STATUS_FAIL = true) ∧
  (∀ (c : CheckResult) (l : Load) (s : State), s.powered = true → s.load = some l → l.phase = .check →
    s.checkHead l (s.image l.src l.len) = 0 → (s.checkCrypto (s.image l.src l.len) c).1 ≠ 0 →
    Completes (.checkPhaseDone c) s fun t => t.load = none ∧
      t.fld R.TOP_PAT_STATUS Fd.TOP_PAT_STATUS_ERR = (s.checkCrypto (s.image l.src l.len) c).1 ∧
      t.fld R.TOP_PAT_STATUS Fd.TOP_PAT_STATUS_ERR_SECTION = (s.checkCrypto (s.image l.src l.len) c).2 ∧
      t.flag R.TOP_PAT_STATUS Fd.TOP_PAT_STATUS_FAIL = true) ∧
  (∀ (c : CheckResult) (l : Load) (s d : State) (x : Image), s.powered = true → s.load = some l → l.phase = .check →
    x = s.image l.src l.len → s.checkHead l x = 0 → (s.checkCrypto x c).1 = 0 → d = s.decrypted x c →
    (d.checkStructure (d.staged_ x) l x).1 = 0 → (d.checkScope x).1 = 0 →
    (d.staged_ x).miscounts x (d.budgetRec x) = false →
    ((d.staged_ x).fails (d.budgetRec x) (d.loadMask (d.staged_ x) x)).isNone = true →
    Completes (.checkPhaseDone c) s fun t => t.load = some { l with phase := .apply } ∧ t.mode = s.mode) ∧
  (∀ (c : CheckResult) (l : Load) (s : State), s.powered = true → s.load = some l → l.phase = .check →
    Completes (.checkPhaseDone c) s fun t =>
      (t.load = some { l with phase := .apply } ∧ t.mode = s.mode) ∨
        (t.load = none ∧ t.fld R.TOP_PAT_STATUS Fd.TOP_PAT_STATUS_ERR ≠ 0 ∧
          t.flag R.TOP_PAT_STATUS Fd.TOP_PAT_STATUS_FAIL = true)) ∧
  (∀ (l : Load) (s : State), s.powered = true → s.load = some l → l.phase = .apply →
    (s.image l.src l.len).overlay = false → l.overlay = false → l.heldReset = 0 →
    Completes (.applyPhaseDone none) s fun t => t.load = none ∧ t.mode = .idle ∧
      t.patterned = true ∧ t.fld R.TOP_MODE Fd.TOP_MODE_WIPED = 0 ∧
      t.reg64 R.TOP_PAT_ID_LO = (s.image l.src l.len).id ∧ t.pat.budget = s.budgetRec (s.image l.src l.len) ∧
      t.flag R.TOP_PAT_STATUS Fd.TOP_PAT_STATUS_DONE = true) ∧
  (∀ (j : Fin 256) (l : Load) (s : State), s.powered = true → s.load = some l → l.phase = .apply →
    (s.image l.src l.len).overlay = false → l.overlay = false →
    l.heldReset = 0 → Completes (.applyPhaseDone (some j)) s fun t => t.load = none ∧ t.mode = .idle ∧
      t.patterned = false ∧ t.fld R.TOP_PAT_STATUS Fd.TOP_PAT_STATUS_ERR = 0x16 ∧
      t.fld R.TOP_PAT_STATUS Fd.TOP_PAT_STATUS_ERR_SECTION = j ∧
      t.flag R.TOP_PAT_STATUS Fd.TOP_PAT_STATUS_FAIL = true) ∧
  (∀ (l : Load) (s : State), s.powered = true → s.load = some l → l.phase = .apply →
    (s.image l.src l.len).overlay = true → l.overlay = true →
    l.heldReset = 0 → Completes (.applyPhaseDone none) s fun t => t.load = none ∧ t.mode = s.mode ∧
      t.reg64 R.TOP_PAT_OVL_ID_LO = (s.image l.src l.len).id ∧ t.pat.budget = s.budgetRec (s.image l.src l.len) ∧
      (s.secretImage l = false → t.mem = (s.staged_ (s.image l.src l.len)).mem) ∧
      t.flag R.TOP_PAT_STATUS Fd.TOP_PAT_STATUS_DONE = true) ∧
  (∀ (j : Fin 256) (l : Load) (s : State), s.powered = true → s.load = some l → l.phase = .apply →
    (s.image l.src l.len).overlay = true → l.overlay = true →
    ((s.image l.src l.len).secs.any fun y => y.idx == j.val && scopeB y.typ) = true →
    l.heldReset = 0 → Completes (.applyPhaseDone (some j)) s fun t => t.load = none ∧ t.mode = s.mode ∧
      t.fld R.TOP_PAT_STATUS Fd.TOP_PAT_STATUS_ERR = 0x16 ∧ t.flag R.TOP_PAT_STATUS Fd.TOP_PAT_STATUS_FAIL = true ∧
      ∀ b ∈ (s.image l.src l.len).touched, t.wiped b = true) ∧
  (∀ (who : Who) (b : Fin 8) (l : Load) (s : State), s.powered = true → s.reaches who = true → s.mode = .hold →
    s.load = some l → l.overlay = true → (s.image l.src l.len).touched.contains b.val = true →
    Completes (.benchReset who (BitVec.ofNat 8 (2 ^ b.val))) s fun t => t.mode = .hold ∧
      (l.phase = .check → t.load = none ∧ t.fld R.TOP_PAT_STATUS Fd.TOP_PAT_STATUS_ERR = 0x17 ∧
        t.flag R.TOP_PAT_STATUS Fd.TOP_PAT_STATUS_FAIL = true ∧ (t.benchSt b).resetPend = true) ∧
      (l.phase = .apply → t.load = some { l with heldReset := setBit l.heldReset b } ∧ t.bench = s.bench))

/-- R90 to R93, R98, R99. -/
def Obligations.EpochAndEchoCommands : Prop :=
  (∀ (arrival : Fin 10000) (s : State), s.powered = true →
    (s.clk.refclk = true → s.clk.phRef = 0 → Completes (.epochCapture arrival) s fun t => t.clk = s.clk ∧
      t.time.epoch = s.time.epoch ++
        [{ loadAt := s.clk.now + 60, arrival := arrival, armed := s.mode == .armed }]) ∧
    (s.clk.refclk = false ∨ s.clk.phRef ≠ 0 → exec (.epochCapture arrival) s = .next s)) ∧
  (∀ (s : State) (c : EpochCap) (rest : List EpochCap), s.time.epoch = c :: rest → c.loadAt = s.clk.now + 30 →
    c.arrival < 10000 →
    s.tdcLatch.fld R.TIME_EPOCH_TDC Fd.TIME_EPOCH_TDC_ARRIVAL = c.arrival ∧
      s.tdcLatch.flag R.TIME_STATUS Fd.TIME_STATUS_MARGINAL =
        (decide (c.arrival ≤ 500) || decide (9500 ≤ c.arrival))) ∧
  (∀ (s : State) (c : EpochCap) (rest : List EpochCap), s.powered = true → s.time.epoch = c :: rest →
    c.loadAt ≤ s.clk.now → s.clk.refclk = true → s.clk.phRef = 0 →
    s.flag R.TIME_EPOCH_CTL Fd.TIME_EPOCH_CTL_ARM = true →
    Completes .epochLoad s fun t => t.clk.time = s.reg64 R.TIME_EPOCH_LOAD_LO ∧
      t.reg64 R.TIME_EPOCH_LAST_LO = s.reg64 R.TIME_EPOCH_LOAD_LO ∧ t.coherent = true ∧
      t.flag R.TIME_EPOCH_CTL Fd.TIME_EPOCH_CTL_ARM = false ∧
      t.fld R.TIME_STATUS Fd.TIME_STATUS_MISS_COUNT = 0 ∧
      t.flag R.TIME_STATUS Fd.TIME_STATUS_EPOCH_SEEN = true ∧ t.time.epoch = rest) ∧
  (∀ (s : State) (c : EpochCap) (rest : List EpochCap), s.powered = true → s.time.epoch = c :: rest →
    c.loadAt ≤ s.clk.now → s.clk.refclk = true → s.clk.phRef = 0 →
    s.flag R.TIME_EPOCH_CTL Fd.TIME_EPOCH_CTL_ARM = false →
    Completes .epochLoad s fun t => t.clk = s.clk ∧ t.mode = s.mode ∧ t.coherent = s.coherent ∧
      t.reg64 R.TIME_EPOCH_LAST_LO = s.clk.time % 2 ^ 64 ∧
      t.flag R.TIME_STATUS Fd.TIME_STATUS_EPOCH_SEEN = true ∧ t.time.epoch = rest ∧
      (s.epochChecks = true → s.epochOff s.clk.time ≠ 0 →
        t.flag R.TIME_STATUS Fd.TIME_STATUS_EPOCH_SLIP = true ∧
        (2 * s.epochOff s.clk.time ≠ Int.ofNat s.epochPeriod →
          t.reg R.TIME_EPOCH_SLIP_AMT = BitVec.ofInt 32 (s.epochOff s.clk.time)))) ∧
  (∀ s : State, s.powered = true → s.epochChecks = true → 30 ≤ s.clk.time → s.epochOff (s.clk.time - 30) = 0 →
    (∀ e, s.time.lastEdge = some e → e + 30 < s.clk.time - 30 ∨ s.clk.time < e) →
    s.time.missed ≠ s.clk.time - 30 + 1 →
    Completes .epochMiss s fun t => t.clk = s.clk ∧ t.mode = s.mode ∧ t.coherent = s.coherent ∧
      t.flag R.TIME_STATUS Fd.TIME_STATUS_EPOCH_MISS = true ∧
      t.fld R.TIME_STATUS Fd.TIME_STATUS_MISS_COUNT =
        min (s.fld R.TIME_STATUS Fd.TIME_STATUS_MISS_COUNT + 1) 65535) ∧
  (∀ (who : Who) (v : Word) (s : State), s.powered = true → s.reaches who = true →
    Completes (.epochArm who v) s fun t =>
      t.flag R.TIME_EPOCH_CTL Fd.TIME_EPOCH_CTL_PERIODIC = bitAt v.toNat 1 ∧
      (bitAt v.toNat 0 = false → t.flag R.TIME_EPOCH_CTL Fd.TIME_EPOCH_CTL_ARM = false) ∧
      (bitAt v.toNat 0 = true → s.mode.epochArms = true → s.reg64 R.TIME_EPOCH_LOAD_LO % 30 = 0 →
        t.flag R.TIME_EPOCH_CTL Fd.TIME_EPOCH_CTL_ARM = true) ∧
      (bitAt v.toNat 0 = true → s.mode.epochArms = false →
        t.flag R.TOP_ACCESS Fd.TOP_ACCESS_ACCESS_DENIED = true ∧
        t.flag R.TIME_EPOCH_CTL Fd.TIME_EPOCH_CTL_ARM = s.flag R.TIME_EPOCH_CTL Fd.TIME_EPOCH_CTL_ARM) ∧
      (bitAt v.toNat 0 = true → s.reg64 R.TIME_EPOCH_LOAD_LO % 30 ≠ 0 →
        t.flag R.TIME_STATUS Fd.TIME_STATUS_LOAD_BAD = true ∧
        t.flag R.TIME_EPOCH_CTL Fd.TIME_EPOCH_CTL_ARM = s.flag R.TIME_EPOCH_CTL Fd.TIME_EPOCH_CTL_ARM)) ∧
  (∀ (who : Who) (v : Word) (s : State), s.powered = true → s.reaches who = true →
    (s.mode = .trim ∨ s.mode = .service) → bitAt v.toNat 8 = true → s.time.echo = none →
    bitsOf v.toNat 0 4 < 14 → (s.port (bitsOf v.toNat 0 4)).up = true →
    Completes (.echoStart who v) s fun t => t.outbox = s.outbox ++ [.echo (bitsOf v.toNat 0 4) 0 0 0] ∧
      t.time.echo =
        some { port := bitsOf v.toNat 0 4, count := min 10 (bitsOf v.toNat 4 4), due := s.clk.now + 30000 }) ∧
  (∀ (who : Who) (v : Word) (s : State), s.powered = true → s.reaches who = true →
    (s.mode = .trim ∨ s.mode = .service) → bitAt v.toNat 8 = true → s.time.echo = none →
    (14 ≤ bitsOf v.toNat 0 4 ∨ (s.port (bitsOf v.toNat 0 4)).up = false) →
    Completes (.echoStart who v) s fun t => t.time.echo = none ∧
      t.flag R.TIME_ECHO_CTL Fd.TIME_ECHO_CTL_DONE = true ∧
      t.fld R.TIME_ECHO_CTL Fd.TIME_ECHO_CTL_RESULT = if 14 ≤ bitsOf v.toNat 0 4 then 3 else 2) ∧
  (∀ (who : Who) (v : Word) (s : State), s.powered = true → s.reaches who = true → s.mode ≠ .trim →
    s.mode ≠ .service → bitAt v.toNat 8 = true → Completes (.echoStart who v) s fun t =>
      t.time = s.time ∧ t.flag R.TOP_ACCESS Fd.TOP_ACCESS_ACCESS_DENIED = true) ∧
  (∀ (p : Fin 14) (t2 t3 : Nat) (s : State), s.powered = true → (s.mode = .trim ∨ s.mode = .service) →
    exec (.echoReq p t2 t3) s = .next { s with outbox := s.outbox ++ [.echo p 1 t2 t3] }) ∧
  (∀ (p : Fin 14) (t2 t3 : Nat) (s : State), s.powered = true → s.mode ≠ .trim → s.mode ≠ .service →
    exec (.echoReq p t2 t3) s = .next s) ∧
  (∀ (p : Fin 14) (t1 t2 t3 t4 : Int) (e : Echo) (s : State), s.powered = true → s.time.echo = some e → e.port = p →
    e.got + 1 < 2 ^ e.count → Completes (.echoAns p t1 t2 t3 t4) s fun t =>
      t.outbox = s.outbox ++ [.echo p 0 0 0] ∧ t.time.echo = some { e with
        got := e.got + 1, sumRtt := e.sumRtt + ((t4 - t1) - (t3 - t2)), sumOfs := e.sumOfs + ((t2 - t1) - (t4 - t3)),
        due := s.clk.now + 30000 }) ∧
  (∀ (p : Fin 14) (t1 t2 t3 t4 : Int) (e : Echo) (s : State), s.powered = true → s.time.echo = some e → e.port = p →
    2 ^ e.count ≤ e.got + 1 → s.trim.ports = 0 →
    Completes (.echoAns p t1 t2 t3 t4) s fun t => t.time.echo = none ∧
      (∃ d ∈ [(0 : Int), 1], t.reg (R.TIME_ECHO_RTT p) =
        BitVec.ofInt 32 ((e.sumRtt + ((t4 - t1) - (t3 - t2))) / Int.ofNat (2 ^ e.count) + d) ∧
        ((e.sumRtt + ((t4 - t1) - (t3 - t2))) % Int.ofNat (2 ^ e.count) = 0 → d = 0)) ∧
      (∃ d ∈ [(0 : Int), 1], t.reg (R.TIME_ECHO_OFS p) =
        BitVec.ofInt 32 ((e.sumOfs + ((t2 - t1) - (t4 - t3))) / Int.ofNat (2 * 2 ^ e.count) + d) ∧
        ((e.sumOfs + ((t2 - t1) - (t4 - t3))) % Int.ofNat (2 * 2 ^ e.count) = 0 → d = 0)) ∧
      t.flag R.TIME_ECHO_CTL Fd.TIME_ECHO_CTL_DONE = true ∧ t.fld R.TIME_ECHO_CTL Fd.TIME_ECHO_CTL_RESULT = 0) ∧
  (∀ (e : Echo) (s : State), s.powered = true → s.time.echo = some e → e.due ≤ s.clk.now → s.trim.ports = 0 →
    Completes .echoTimeout s fun t => t.time.echo = none ∧ t.fld R.TIME_ECHO_CTL Fd.TIME_ECHO_CTL_RESULT = 1 ∧
      t.flag R.TIME_ECHO_CTL Fd.TIME_ECHO_CTL_DONE = true) ∧
  (∀ (p : Fin 14) (t1 t2 t3 t4 : Int) (q : Fin 14) (e : Echo) (s : State), s.powered = true →
    s.time.echo = some e → e.port = p → 2 ^ e.count ≤ e.got + 1 → e.due ≤ s.clk.now → s.trim.ports = 2 ^ q.val →
    (s.port q).up = true → ∀ c ∈ [Instr.echoAns p t1 t2 t3 t4, .echoTimeout], Completes c s fun t =>
      t.time.echo = some { port := q, count := 10, due := s.clk.now + 30000 } ∧ t.trim.ports = 0)

/-- R100, R101, R104 to R106: trims and triggers. -/
def Obligations.TrimsAndTriggers : Prop :=
  (∀ (v : Word) (s : State), s.powered = true → Completes (.epochTrimWrite v) s fun t =>
    t.fld R.TIME_EPOCH_TRIM Fd.TIME_EPOCH_TRIM_TRIM = bitsOf v.toNat 0 10 ∧
      t.flag R.TIME_EPOCH_TRIM Fd.TIME_EPOCH_TRIM_TRIM_PEND = true ∧ t.time = s.time) ∧
  (∀ (j : Fin 176) (v : Word) (s : State), s.powered = true → Completes (.fdlyWrite j v) s fun t =>
    t.fld (R.TIME_FDLY j) Fd.TIME_FDLY_DLY = bitsOf v.toNat 0 14 ∧
      t.flag (R.TIME_FDLY j) Fd.TIME_FDLY_DLY_PEND = true ∧ t.time = s.time) ∧
  (∀ (k : Fin 8) (falling : Bool) (frac : Fin 16) (a : Nat) (x : Int) (s : State), s.powered = true →
    s.flag (R.TIME_TRIG_CTL k) Fd.TIME_TRIG_CTL_OUT = false → s.trigSelects k falling = true →
    (NMap.get (fun _ => 0) s.time.trigLast k = 0 ∨
      NMap.get (fun _ => 0) s.time.trigLast k + 64 ≤ 16 * s.clk.now + frac.val + 1) →
    a = (if s.clk.core && s.clk.aligned then 16 * s.clk.time + frac.val
      else 16 * (if s.clk.phRef = 0 && frac.val = 0 then s.clk.time else s.timeNextEdge)) →
    x = Int.ofNat a - s.time.trimNow - Int.ofNat (s.fld (R.TIME_TRIG_CTL k) Fd.TIME_TRIG_CTL_DLY) →
    Completes (.trigEdge k falling frac) s fun t => t.clk = s.clk ∧
      t.reg64 (R.TIME_TRIG_TS_LO k) = lowBits 64 (x / 16) ∧
      t.fld (R.TIME_TRIG_STAT k) Fd.TIME_TRIG_STAT_FRAC = lowBits 4 x ∧
      t.flag (R.TIME_TRIG_STAT k) Fd.TIME_TRIG_STAT_NEW = true ∧
      t.flag (R.TIME_TRIG_STAT k) Fd.TIME_TRIG_STAT_COARSE = !(s.clk.core && s.clk.aligned)) ∧
  (∀ (k : Fin 8) (falling : Bool) (frac : Fin 16) (s : State), s.powered = true →
    s.flag (R.TIME_TRIG_CTL k) Fd.TIME_TRIG_CTL_OUT = false → s.trigSelects k falling = true →
    NMap.get (fun _ => 0) s.time.trigLast k ≠ 0 →
    16 * s.clk.now + frac + 1 < NMap.get (fun _ => 0) s.time.trigLast k + 64 →
    Completes (.trigEdge k falling frac) s fun t => t.time = s.time ∧
      t.flag (R.TIME_TRIG_STAT k) Fd.TIME_TRIG_STAT_OVER = true ∧
      t.reg64 (R.TIME_TRIG_TS_LO k) = s.reg64 (R.TIME_TRIG_TS_LO k)) ∧
  (∀ (k : Fin 8) (falling : Bool) (frac : Fin 16) (s : State), s.powered = true →
    (s.flag (R.TIME_TRIG_CTL k) Fd.TIME_TRIG_CTL_OUT = true ∨ s.trigSelects k falling = false) →
    exec (.trigEdge k falling frac) s = .next s) ∧
  (∀ (k : Fin 8) (e : TrigEdge) (before rest : List TrigEdge) (s : State), s.powered = true →
    s.time.trigQ = before ++ e :: rest → (before.all fun x => x.line != k.val) = true → e.line = k →
    e.at16 < Int.ofNat (16 * (s.clk.time + 1)) →
    Completes (.trigOutEdge k) s fun t => t.time.trigQ = before ++ rest ∧
      (s.flag (R.TIME_TRIG_CTL k) Fd.TIME_TRIG_CTL_OUT = true →
        t.outbox = s.outbox ++ [.trig k e.at16 e.level] ∧ bitAt t.time.trigLevel k = e.level) ∧
      (s.flag (R.TIME_TRIG_CTL k) Fd.TIME_TRIG_CTL_OUT = false →
        t.outbox = s.outbox ∧ t.time.trigLevel = s.time.trigLevel)) ∧
  (∀ (k : Fin 8) (s : State), s.powered = true →
    (s.flag (R.TIME_TRIG_CTL k) Fd.TIME_TRIG_CTL_OUT = true →
      Completes (.trigContend k) s fun t => t.flag (R.TIME_TRIG_STAT k) Fd.TIME_TRIG_STAT_CONTEND = true) ∧
    (s.flag (R.TIME_TRIG_CTL k) Fd.TIME_TRIG_CTL_OUT = false → exec (.trigContend k) s = .next s))

/-- R22, R107, R108, R109, R486: the reference. -/
def Obligations.ReferenceCommands : Prop :=
  (∀ (cause : LossCause) (s : State), s.powered = true → s.lossSeen cause = true → s.clk.time < 2 ^ 64 →
    Completes (.refLoss cause) s fun t => t.coherent = false ∧
      t.fld R.TIME_STATUS Fd.TIME_STATUS_LOSS_CAUSE = lossCode cause ∧
      t.flag R.TIME_STATUS Fd.TIME_STATUS_REF_LOSS = true ∧ (s.clk.refclk = true → t.clk.time = s.clk.time) ∧
      (s.therm.thermN = false → s.transit = none → (s.mode = .run ∨ s.mode = .armed) →
        t.mode = .hold ∧ (s.mode = .run → ∀ b : Fin 8, s.benchOn b = true →
          t.flag (R.BENCH_EVENTS b) Fd.BENCH_EVENTS_POISON = true)) ∧
      (s.therm.thermN = false → s.transit = none → s.mode = .trim → t.mode = .idle) ∧
      (s.therm.thermN = false → (∃ x, s.transit = some x ∧ x.entersArmed = true) → t.refusedAs 7 .armed)) ∧
  (∀ (cause : LossCause) (s : State), s.powered = true → s.lossSeen cause = false →
    exec (.refLoss cause) s = .next s) ∧
  (∀ (core : Bool) (s : State), s.powered = true → (if core then s.clk.core else s.clk.conv) = true →
    s.clk.time < 2 ^ 64 →
    Completes (.pllLockLoss core) s fun t => t.coherent = false ∧
      t.fld R.TIME_STATUS Fd.TIME_STATUS_LOSS_CAUSE = 3 ∧ t.flag R.TIME_STATUS Fd.TIME_STATUS_REF_LOSS = true ∧
      (s.clk.refclk = true → t.clk.time = s.clk.time) ∧
      (s.therm.thermN = false → s.transit = none → (s.mode = .run ∨ s.mode = .armed) →
        t.mode = .hold)) ∧
  (∀ s : State, s.powered = true → s.clk.core = true → s.clk.aligned = true → s.clk.refclk = true →
    Completes (.pllLockLoss true) s fun t => t.clk.snapPend = true ∧ t.clk.core = true ∧ t.clk.refclk = true) ∧
  (∀ (core : Bool) (s : State), s.powered = true → (if core then s.clk.core else s.clk.conv) = false →
    exec (.pllLockLoss core) s = .next s) ∧
  (∀ s : State, s.powered = true → s.clk.refclk = false → s.clk.lostAt + 1024 * 120 ≤ s.clk.now →
    s.clk.time + 30 < 2 ^ 64 → Completes .refclkReturn s fun t => t.clk.refclk = true ∧ t.clk.aligned = false ∧ t.clk.time % 30 = 0 ∧
      s.clk.time < t.clk.time ∧ t.clk.time ≤ s.clk.time + 30 ∧ t.clk.phRef = 0 ∧ t.coherent = s.coherent) ∧
  (∀ s : State, s.powered = true → (s.clk.refclk = true ∨ s.clk.now < s.clk.lostAt + 1024 * 120) →
    exec .refclkReturn s = .next s) ∧
  (∀ s : State, s.powered = true → s.clk.core = true → s.clk.aligned = false → s.clk.refclk = true →
    s.clk.snapPend = false → s.clk.phRef = 0 → (∀ x, s.transit = some x → x.kind ≠ .armedEntry ∨ x.src = .hold) →
    Completes .dividerAligned s fun t => t.clk = { s.clk with aligned := true } ∧ t.ap = s.ap)

/-- R22: TIME at every REFCLK rising edge is a multiple of 30. -/
def Obligations.ClockInvariantKept : Prop :=
  ∀ s t : State, s.clk.ok → s.clk.time + 30 < 2 ^ 64 → s.reg64 R.TIME_EPOCH_LOAD_LO % 30 = 0 →
    step s = .next t → t.clk.ok

/-- R120 to R122, R129, R131. -/
def Obligations.DescriptorWrites : Prop :=
  (∀ (who : Who) (id : BitVec 20) (a b c d : Word) (s : State), s.powered = true → s.dataOpen who = true →
    s.memServes = true → who ≠ .jtag → s.segActive id.toNat = false →
    Completes (.segdirWrite who id 0 [a, b, c, d]) s fun t =>
      t.segWords id.toNat = [a.toNat, b.toNat, c.toNat, putBits (putBits d.toNat 25 1 0) 30 1 0] ∧
        (∀ n : Fin 8, ∀ e ∈ (t.loom n).dir, e.seg ≠ id.toNat) ∧ t.mem = s.mem ∧ t.lanes = s.lanes) ∧
  (∀ (who : Who) (id : BitVec 20) (a b c d : Word) (s : State), s.powered = true → s.dataOpen who = true →
    s.memServes = true → who ≠ .jtag → s.segActive id.toNat = true →
    Completes (.segdirWrite who id 0 [a, b, c, d]) s fun t =>
      (∀ o, o ≠ R.LOOM_SEG_BUSY → o ≠ R.LOOM_SEG_BUSY_LOG_LO → o ≠ R.LOOM_SEG_BUSY_LOG_HI → t.reg o = s.reg o) ∧
        t.fld R.LOOM_SEG_BUSY Fd.LOOM_SEG_BUSY_COUNT =
          min (s.fld R.LOOM_SEG_BUSY Fd.LOOM_SEG_BUSY_COUNT + 1) (2 ^ 32 - 1) ∧ t.mem = s.mem ∧ t.looms = s.looms ∧
        t.lanes = s.lanes) ∧
  (∀ (who : Who) (id : BitVec 20) (k : Fin 4) (v w : Word) (s : State), s.powered = true → s.dataOpen who = true →
    s.memServes = true → who ≠ .jtag →
    (k.val < 3 → Completes (.segdirWrite who id k [v]) s fun t => t.ap = s.ap ∧ t.mem = s.mem ∧ t.looms = s.looms ∧
      t.segs.retiring = s.segs.retiring ∧ NMap.get (fun _ => 0x100000000) (t.descStage who).words k = v.toNat ∧
      id.toNat ∈ (t.descStage who).ids) ∧
    Completes (.segdirWrite who id 0 [v, w]) s fun t => t.ap = s.ap ∧ t.mem = s.mem ∧ t.looms = s.looms ∧
      t.segs.retiring = s.segs.retiring ∧ NMap.get (fun _ => 0x100000000) (t.descStage who).words 0 = v.toNat ∧
      NMap.get (fun _ => 0x100000000) (t.descStage who).words 1 = w.toNat ∧ id.toNat ∈ (t.descStage who).ids) ∧
  (∀ (who : Who) (id : BitVec 20) (v w : Word) (old : List Nat) (s : State), s.powered = true →
    s.dataOpen who = true → s.memServes = true → who ≠ .jtag → s.segActive id.toNat = false →
    ((s.descStage who).ids.all (· == id.toNat)) = true →
    old = ((List.range 3).map fun i => if NMap.get (fun _ => 0x100000000) (s.descStage who).words i = 0x100000000 then
      dWord (s.segWords id.toNat) i else NMap.get (fun _ => 0x100000000) (s.descStage who).words i % 2 ^ 32) →
    (Completes (.segdirWrite who id 3 [w]) s fun t => t.descStage who = {} ∧
      t.segWords id.toNat = old ++ [putBits (putBits w.toNat 25 1 0) 30 1 0]) ∧
    Completes (.segdirWrite who id 2 [v, w]) s fun t => t.descStage who = {} ∧
      t.segWords id.toNat = old.take 2 ++ [v.toNat, putBits (putBits w.toNat 25 1 0) 30 1 0]) ∧
  (∀ (who : Who) (id : BitVec 20) (other : Nat) (v w : Word) (s : State), s.powered = true → s.dataOpen who = true →
    s.memServes = true → who ≠ .jtag → other ∈ (s.descStage who).ids → other ≠ id.toNat →
    ∀ c ∈ [Instr.segdirWrite who id 3 [w], .segdirWrite who id 2 [v, w]], Completes c s fun t =>
      (∀ o, o ≠ R.LOOM_SEG_STATUS → t.reg o = s.reg o) ∧ t.descStage who = {} ∧
        t.flag R.LOOM_SEG_STATUS Fd.LOOM_SEG_STATUS_DESC_TORN = true) ∧
  (∀ (who : Who) (id : BitVec 20) (first : Fin 4) (ws : List Word) (s : State), s.powered = true →
    s.dataOpen who = true → (who = .jtag ∨ ws.length ≠ 1 ∧ (ws.length ≠ 2 ∨ first.val % 2 = 1) ∧
      (ws.length ≠ 4 ∨ first ≠ 0)) →
    Completes (.segdirWrite who id first ws) s fun t => t.flag R.TOP_ACCESS Fd.TOP_ACCESS_ACCESS_DENIED = true ∧
      t.segs = s.segs ∧ t.segWords id.toNat = s.segWords id.toNat) ∧
  (∀ (a : BitVec 12) (v : Word) (s : State), s.powered = true → Completes (.aliasWrite a v) s fun t =>
    t.fld (R.LOOM_ALIAS a.toNat) Fd.LOOM_ALIAS_SEG = bitsOf v.toNat 0 20 ∧
      t.flag (R.LOOM_ALIAS a.toNat) Fd.LOOM_ALIAS_VALID = bitAt v.toNat 31 ∧
      t.regBefore (R.LOOM_ALIAS a.toNat) = s.regBefore (R.LOOM_ALIAS a.toNat) ∧
      (∀ o, o ≠ R.LOOM_ALIAS a.toNat → t.reg o = s.reg o)) ∧
  (∀ (v : Word) (s : State), s.powered = true → s.segs.retiring.contains (bitsOf v.toNat 0 20) = true →
    Completes (.retire v) s fun t => t = s) ∧
  (∀ (v : Word) (s : State), s.powered = true → s.segs.retiring.contains (bitsOf v.toNat 0 20) = false →
    (dResident (s.segWords (bitsOf v.toNat 0 20)) = true ∨ s.aliased (bitsOf v.toNat 0 20) = true) →
    Completes (.retire v) s fun t => t.segs = s.segs ∧
      t.flag R.LOOM_RETIRE_STATUS Fd.LOOM_RETIRE_STATUS_REFUSED = true ∧
      t.fld R.LOOM_RETIRE_STATUS Fd.LOOM_RETIRE_STATUS_CAUSE =
        if dResident (s.segWords (bitsOf v.toNat 0 20)) then 1 else 2) ∧
  (∀ (v : Word) (s : State), s.powered = true → s.segs.retiring.contains (bitsOf v.toNat 0 20) = false →
    dResident (s.segWords (bitsOf v.toNat 0 20)) = false → s.aliased (bitsOf v.toNat 0 20) = false →
    Completes (.retire v) s fun t =>
      (s.segActive (bitsOf v.toNat 0 20) = false → t.segs = s.segs ∧
        dValid (t.segWords (bitsOf v.toNat 0 20)) = false ∧
        t.flag R.LOOM_RETIRE_STATUS Fd.LOOM_RETIRE_STATUS_DONE = true ∧
        t.fld R.LOOM_RETIRE_STATUS Fd.LOOM_RETIRE_STATUS_LAST_ID = bitsOf v.toNat 0 20) ∧
      (s.segActive (bitsOf v.toNat 0 20) = true → s.segs.retiring.length < 16 → t.ap = s.ap ∧
        t.segs.retiring = s.segs.retiring ++ [bitsOf v.toNat 0 20]) ∧
      (s.segActive (bitsOf v.toNat 0 20) = true → 16 ≤ s.segs.retiring.length → t.segs = s.segs ∧
        t.flag R.LOOM_RETIRE_STATUS Fd.LOOM_RETIRE_STATUS_FULL = true)) ∧
  (∀ (id : Nat) (s : State), s.powered = true → (s.segs.retiring.find? fun i => !s.segActive i) = some id →
    id < 2 ^ 20 → Completes .retireComplete s fun t => t.segs.retiring = s.segs.retiring.filter (· != id) ∧
      dValid (t.segWords id) = false ∧ (∀ n : Fin 8, ∀ e ∈ (t.loom n).dir, e.seg ≠ id) ∧
      t.flag R.LOOM_RETIRE_STATUS Fd.LOOM_RETIRE_STATUS_DONE = true ∧
      t.fld R.LOOM_RETIRE_STATUS Fd.LOOM_RETIRE_STATUS_LAST_ID = id)

/-- R115, R121, R127, R129, R133 to R136, R328, R339, R342. -/
def Obligations.SegmentTraffic : Prop :=
  (∀ (who : Who) (a : BitVec 34) (bytes : List Byte) (s : State), s.powered = true → s.dataOpen who = true →
    s.memServes = true → bytes ≠ [] → s.memRefuses who a.toNat bytes.length = false →
    (s.inStaging a.toNat bytes.length = false ∨ who = .porter ∨ who = .jtag) → s.memDead = false →
    s.heldSamples a.toNat bytes.length = false →
    Completes (.waveformWrite who a bytes) s fun t => t.ap = s.ap ∧
      (∀ x, t.byteAt x = if a.toNat ≤ x then bytes.getD (x - a.toNat) (s.byteAt x) else s.byteAt x) ∧
      ∀ n : Fin 8, ∀ u ∈ (t.loom n).transients,
        overlaps a.toNat bytes.length u.fetch.addr (u.fetch.gran * u.fetch.total) = false) ∧
  (∀ (who : Who) (a : BitVec 34) (bytes : List Byte) (s : State), s.powered = true → s.dataOpen who = true →
    s.memServes = true → bytes ≠ [] → s.memRefuses who a.toNat bytes.length = false →
    (s.inStaging a.toNat bytes.length = false ∨ who = .porter ∨ who = .jtag) → s.memDead = false →
    s.heldSamples a.toNat bytes.length = true →
    Completes (.waveformWrite who a bytes) s fun t => t.mem = s.mem ∧ t.looms = s.looms ∧
      t.fld R.LOOM_SEG_BUSY Fd.LOOM_SEG_BUSY_COUNT =
        min (s.fld R.LOOM_SEG_BUSY Fd.LOOM_SEG_BUSY_COUNT + 1) (2 ^ 32 - 1)) ∧
  (∀ (who : Who) (a : BitVec 34) (bytes : List Byte) (s : State), s.powered = true → s.dataOpen who = true →
    s.memServes = true → bytes ≠ [] → s.memRefuses who a.toNat bytes.length = true →
    Completes (.waveformWrite who a bytes) s fun t => t.mem = s.mem ∧
      t.flag R.TOP_ACCESS Fd.TOP_ACCESS_ACCESS_DENIED = true) ∧
  (∀ (who : Who) (a : BitVec 34) (bytes : List Byte) (s : State), s.powered = true →
    (s.memServes = false ∨ s.memDead = true) →
    Completes (.waveformWrite who a bytes) s fun t => t.mem = s.mem) ∧
  (∀ (b : Fin 8) (l : Fin 32) (v : Fin 3) (id : BitVec 20) (m : DirMiss) (p : Play) (s : State), s.powered = true →
    ((s.loom b).misses.find? (·.seg == id.toNat)) = some m → m.at_ ≠ 0 →
    s.served { port := b, unit := s.descUnit id.toNat, at_ := m.at_ - 1, passed := m.passed } = true →
    s.waiting b id.toNat = [(l.val, v.val, p)] →
    (s.residentIn b id.toNat (s.segWords id.toNat) = true ∨ s.streamedIn b id.toNat (s.segWords id.toNat) = true ∨
      s.descOk b v id.toNat (s.segWords id.toNat) p.aliasOk = false) →
    Completes (.dirMissFill b id false) s fun t => t.mem = s.mem ∧
      (∀ x ∈ (t.loom b).misses, x.seg ≠ id.toNat) ∧
      ∃ q ∈ (t.lane b l).queue v, q.ser = p.ser ∧ q.start = p.start ∧ q.len = dPlay (s.segWords id.toNat) ∧
        q.issued = s.clk.time ∧ q.desc = s.descState b v id.toNat (s.segWords id.toNat) p.aliasOk) ∧
  (∀ (b : Fin 8) (l : Fin 32) (v : Fin 3) (id : BitVec 20) (m : DirMiss) (p : Play) (s : State), s.powered = true →
    ((s.loom b).misses.find? (·.seg == id.toNat)) = some m → m.at_ ≠ 0 →
    s.served { port := b, unit := s.descUnit id.toNat, at_ := m.at_ - 1, passed := m.passed } = true →
    s.waiting b id.toNat = [(l.val, v.val, p)] →
    Completes (.dirMissFill b id true) s fun t => (∀ x ∈ (t.loom b).misses, x.seg ≠ id.toNat) ∧
      ∃ q ∈ (t.lane b l).queue v, q.ser = p.ser ∧ q.start = p.start ∧ q.desc = .bad) ∧
  (∀ (b : Fin 8) (id : BitVec 20) (ue : Bool) (s : State), s.powered = true →
    (∀ m, ((s.loom b).misses.find? (·.seg == id.toNat)) = some m → m.at_ = 0 ∨
      s.served { port := b, unit := s.descUnit id.toNat, at_ := m.at_ - 1, passed := m.passed } = false) →
    exec (.dirMissFill b id ue) s = .next s) ∧
  (∀ (b : Fin 8) (v : Fin 80) (before rest : List Fetch) (f : Fetch) (s : State), s.powered = true →
    (s.window b v).streams = before ++ f :: rest → (before.all fun g => !g.wants) = true → f.wants = true →
    s.windowUsed b v + f.gran ≤ (s.window b v).size → (s.loom b).portFull = false →
    Completes (.granuleRequest b (.window v)) s fun t => t.ap = s.ap ∧ t.lanes = s.lanes ∧
      (t.window b v).streams = before ++ { f with
        asked := f.nextAsk + 1
        out := f.out ++ [{ gran := f.nextAsk, at_ := s.clk.now, hint := f.hint f.nextAsk }] } :: rest) ∧
  (∀ (b : Fin 8) (id : BitVec 20) (before rest : List Transient) (u : Transient) (s : State), s.powered = true →
    (s.loom b).transients = before ++ u :: rest → u.seg = id.toNat → (before.all fun x => x.seg != u.seg) = true →
    (rest.all fun x => x.seg != u.seg) = true → u.fetch.wants = true → (s.loom b).portFull = false →
    Completes (.granuleRequest b (.transient id)) s fun t => t.ap = s.ap ∧ t.lanes = s.lanes ∧
      (t.loom b).transients = before ++ { u with fetch := u.fetch.ask s.clk.now } :: rest) ∧
  (∀ (b : Fin 8) (v : Fin 80) (s : State), s.powered = true →
    (s.windowAsk b v = none ∨ (s.loom b).portFull = true) → exec (.granuleRequest b (.window v)) s = .next s) ∧
  (∀ (b : Fin 8) (v : Fin 80) (before rest : List Fetch) (f : Fetch) (u : State) (s : State), s.powered = true →
    (s.window b v).streams = before ++ f :: rest → (before.all fun g => g.out.isEmpty) = true →
    s.serveHead b f = some u →
    (∀ x, s.streamPlay b v f = some x → s.granuleLate b x.1 x.2.1 x.2.2 f.head = false) →
    Completes (.granuleArrive b (.window v) false) s fun t => t.mem = s.mem ∧
      ∃ g ∈ (t.window b v).streams, g.ser = f.ser ∧ g.seg = f.seg ∧ g.out.length + 1 = f.out.length ∧
        g.got = NMap.set (fun _ => 0) f.got f.head (s.arriving f + 1)) ∧
  (∀ (b : Fin 8) (v : Fin 80) (before rest : List Fetch) (f : Fetch) (l : Fin 32) (voice : Fin 3) (p : Play)
      (u : State) (s : State), s.powered = true →
    (s.window b v).streams = before ++ f :: rest → (before.all fun g => g.out.isEmpty) = true →
    s.serveHead b f = some u → s.streamPlay b v f = some (l.val, voice.val, p) →
    s.granuleLate b l voice p f.head = true → p.missed.contains f.head = false →
    Completes (.granuleArrive b (.window v) false) s fun t => t.mem = s.mem ∧
      t.fld (R.LOOM_VSTREAM b v) Fd.LOOM_VSTREAM_UNDERRUN =
        min (s.fld (R.LOOM_VSTREAM b v) Fd.LOOM_VSTREAM_UNDERRUN + 1) 65535 ∧
      t.flag (R.BENCH_EVENTS b) Fd.BENCH_EVENTS_UNDERRUN = true ∧
      ∃ g ∈ (t.window b v).streams, g.ser = f.ser ∧ g.out.length + 1 = f.out.length ∧ g.got = f.got) ∧
  (∀ (b : Fin 8) (v : Fin 80) (before rest : List Fetch) (f : Fetch) (u : State) (s : State), s.powered = true →
    (s.window b v).streams = before ++ f :: rest → (before.all fun g => g.out.isEmpty) = true →
    s.serveHead b f = some u →
    Completes (.granuleArrive b (.window v) true) s fun t =>
      dLost (t.segWords f.seg) = true ∧ t.flag (R.BENCH_EVENTS b) Fd.BENCH_EVENTS_POISON = true ∧
      ∃ g ∈ (t.window b v).streams, g.ser = f.ser ∧ g.out.length + 1 = f.out.length ∧ g.got = f.got) ∧
  (∀ (b : Fin 8) (id : BitVec 20) (x : Transient) (u : State) (s : State), s.powered = true →
    ((s.loom b).transients.find? fun y => y.seg == id.toNat && !y.fetch.out.isEmpty) = some x →
    s.serveHead b x.fetch = some u →
    (s.copyPlays b id.toNat = [] ∨
      ((s.copyPlays b id.toNat).any fun e => !s.granuleLate b e.1 e.2.1 e.2.2 x.fetch.head) = true) →
    Completes (.granuleArrive b (.transient id) false) s fun t => t.mem = s.mem ∧
      ∃ g ∈ (t.loom b).transients, g.seg = x.seg ∧ g.fetch.out.length + 1 = x.fetch.out.length ∧
        g.fetch.got = NMap.set (fun _ => 0) x.fetch.got x.fetch.head (s.arriving x.fetch + 1)) ∧
  (∀ (b : Fin 8) (v : Fin 80) (ue : Bool) (s : State), s.powered = true →
    (∀ f, ((s.window b v).streams.find? fun g => !g.out.isEmpty) = some f → s.serveHead b f = none) →
    exec (.granuleArrive b (.window v) ue) s = .next s) ∧
  (∀ (b : Fin 8) (v : Fin 80) (l : Fin 32) (voice : Fin 3) (p : Play) (f : Fetch) (g : Nat) (copy : Bool) (s : State),
    s.powered = true → s.windowVoice b v = some (l.val, voice.val) →
    s.underrunOf b v l voice = some (p, f, g, copy) →
    Completes (.underrun b v) s fun t =>
      t.fld (R.LOOM_VSTREAM b v) Fd.LOOM_VSTREAM_UNDERRUN =
        min (s.fld (R.LOOM_VSTREAM b v) Fd.LOOM_VSTREAM_UNDERRUN + 1) 65535 ∧
        t.flag (R.BENCH_EVENTS b) Fd.BENCH_EVENTS_UNDERRUN = true ∧
        (bitAt (s.lane b l).underran voice = false → t.flag (R.BENCH_EVENTS b) Fd.BENCH_EVENTS_POISON = true) ∧
        ∃ q ∈ (t.lane b l).queue voice, q.ser = p.ser ∧ q.missed = p.missed ++ [g]) ∧
  (∀ (b : Fin 8) (v : Fin 80) (s : State), s.powered = true →
    (∀ x, s.windowVoice b v = some x → s.underrunOf b v x.1 x.2 = none) → exec (.underrun b v) s = .next s) ∧
  (∀ (b : Fin 8) (v : Fin 80) (s : State), s.powered = true → s.streamsNow b v = true → (s.window b v).panic = false →
    64 * (s.fillOf b v).1 < s.panicLevel b * (s.fillOf b v).2 →
    Completes (.panicEntry b v) s fun t => (t.window b v).panic = true ∧
      t.fld (R.LOOM_PORT_STATUS b) Fd.LOOM_PORT_STATUS_PANIC_COUNT =
        min (s.fld (R.LOOM_PORT_STATUS b) Fd.LOOM_PORT_STATUS_PANIC_COUNT + 1) 65535) ∧
  (∀ (b : Fin 8) (v : Fin 80) (s : State), s.powered = true →
    (s.streamsNow b v = false ∨ (s.window b v).panic = true ∨
      s.panicLevel b * (s.fillOf b v).2 ≤ 64 * (s.fillOf b v).1) → exec (.panicEntry b v) s = .next s)

/-- R139, R140, R142, R147 to R150, R155, R160. -/
def Obligations.LaneArithmetic : Prop :=
  (∀ (b : Fin 8) (l : Fin 32) (w : Nat) (s : State), s.powered = true → s.laneInstr b l 3 = some w →
    Completes (.idle b l) s fun t => t.ap = s.ap ∧ t.mem = s.mem ∧ t.lane b l = { s.lane b l with
      cursor := cursorAdd (s.lane b l).cursor (if liUsev w then s.vreg b l (liVreg w) else liValue w)
      pc := ((s.lane b l).pc + 1) % 32768, next := s.clk.time + 4 }) ∧
  (∀ (b : Fin 8) (l : Fin 32) (w : Nat) (s : State), s.powered = true → s.laneInstr b l 7 = some w →
    (s.lane b l).loops.length < 4 → Completes (.loop b l) s fun t => t.ap = s.ap ∧ t.lane b l = { s.lane b l with
      loops := ((s.lane b l).pc + 1,
        if (if liUsev w then s.vreg b l (liVreg w) % 2 ^ 20 else liCount w) = 0 then 2 ^ 20
        else if liUsev w then s.vreg b l (liVreg w) % 2 ^ 20 else liCount w) :: (s.lane b l).loops
      pc := ((s.lane b l).pc + 1) % 32768, next := s.clk.time + 4 }) ∧
  (∀ (b : Fin 8) (l : Fin 32) (w body n : Nat) (outer : List (Nat × Nat)) (s : State), s.powered = true →
    s.laneInstr b l 8 = some w → (s.lane b l).loops = (body, n) :: outer →
    Completes (.endl b l) s fun t => t.ap = s.ap ∧ (t.lane b l).cursor = (s.lane b l).cursor ∧
      (1 < n → (t.lane b l).pc = body % 32768 ∧ (t.lane b l).loops = (body, n - 1) :: outer) ∧
      (n ≤ 1 → (t.lane b l).pc = ((s.lane b l).pc + 1) % 32768 ∧ (t.lane b l).loops = outer)) ∧
  (∀ (b : Fin 8) (l : Fin 32) (w : Nat) (s : State), s.powered = true → s.laneInstr b l 11 = some w →
    Completes (.setv b l) s fun t =>
      t.reg (R.LOOM_LANE_V b l (liSVreg w)) =
        (if liSAdd w then s.regBefore (R.LOOM_LANE_V b l (liSVreg w)) + BitVec.ofNat 32 (liValue w)
          else BitVec.ofNat 32 (liValue w)) ∧
      t.vreg b l (liSVreg w) = (t.reg (R.LOOM_LANE_V b l (liSVreg w))).toNat ∧
      (∀ o, o ≠ R.LOOM_LANE_V b l (liSVreg w) → t.reg o = s.reg o) ∧
      t.lane b l = { s.lane b l with pc := ((s.lane b l).pc + 1) % 32768, next := s.clk.time + 4 }) ∧
  (∀ (b : Fin 8) (l : Fin 32) (w : Nat) (s : State), s.powered = true → s.laneInstr b l 4 = some w →
    Completes (.frame b l) s fun t => t.ap = s.ap ∧ t.out = s.out ∧
      (t.lane b l).pc = ((s.lane b l).pc + 1) % 32768 ∧ (t.lane b l).frames = (s.lane b l).frames ++
        [{ ser := (s.lane b l).ser, at_ := cursorAdd (s.lane b l).cursor (liOfsF w), voice := liVoice w, frm := liFrm w
           freq := liKind w, add := liFAdd w
           value := if liFUsev w then s.vreg b l (liFVreg w) else liValue w }]) ∧
  (∀ (b : Fin 8) (l : Fin 32) (w : Nat) (s : State), s.powered = true → s.laneInstr b l 10 = some w →
    Completes (.mark b l) s fun t => t.ap = s.ap ∧ t.tally = s.tally ∧
      (t.lane b l).pc = ((s.lane b l).pc + 1) % 32768 ∧ (t.lane b l).marks = (s.lane b l).marks ++
        [{ ser := (s.lane b l).ser, at_ := cursorAdd (s.lane b l).cursor (liOfsF w), tal := liTal w, evt := liEvt w
           code := liCode w, line := liLine w }]) ∧
  (∀ (b : Fin 8) (l : Fin 32) (w : Nat) (s : State), s.powered = true → s.laneInstr b l 9 = some w →
    Completes (.sync b l) s fun t =>
      ((s.lane b l).branches = [] → (t.lane b l).st = .sync ∧ (t.lane b l).cursor = (s.lane b l).cursor ∧
        (t.lane b l).pc = ((s.lane b l).pc + 1) % 32768) ∧ ((s.lane b l).branches ≠ [] → t = s)) ∧
  (∀ (b : Fin 8) (l : Fin 32) (w : Nat) (s : State), s.powered = true → s.laneInstr b l 12 = some w →
    Completes (.end_ b l) s fun t =>
      ((s.lane b l).branches = [] → (t.lane b l).st = .done ∧ (t.lane b l).plays = (s.lane b l).plays) ∧
        ((s.lane b l).branches ≠ [] → t = s)) ∧
  (∀ (b : Fin 8) (l : Fin 32) (s : State), s.powered = true →
    ∀ e ∈ ([(1, .play b l), (2, .playx b l), (3, .idle b l), (4, .frame b l), (5, .waitd b l), (6, .br b l),
      (7, .loop b l), (8, .endl b l), (9, .sync b l), (10, .mark b l), (11, .setv b l),
      (12, .end_ b l)] : List (Nat × Instr)), s.laneInstr b l e.1 = none → exec e.2 s = .next s)

/-- R142, R150 to R153, R157. -/
def Obligations.LanePlays : Prop :=
  (∀ (b : Fin 8) (l : Fin 32) (w : Nat) (s : State), s.powered = true → s.laneInstr b l 1 = some w →
    NMap.wf (fun _ => []) (s.lane b l).plays = true →
    (((s.lane b l).queue (liVoice w)).filter fun p => !p.over s.clk.time).length < 8 →
    Completes (.play b l) s fun t => t.mem = s.mem ∧ (t.lane b l).pc = ((s.lane b l).pc + 1) % 32768 ∧
      ∃ p : Play, (t.lane b l).queue (liVoice w) =
          (((s.lane b l).queue (liVoice w)).filter fun p => !p.over s.clk.time) ++ [p] ∧
        p.start = cursorAdd (s.lane b l).cursor (liOfs w) ∧ p.amp = liAmp w ∧ p.frame = liFrame w ∧ p.phase = 0 ∧
        (liAlias w = false → p.seg = liSeg w) ∧
        (liAlias w = true → p.seg = bitsOf (s.regBefore (R.LOOM_ALIAS (liSeg w))).toNat 0 20)) ∧
  (∀ (b : Fin 8) (l : Fin 32) (w : Nat) (s : State), s.powered = true → s.laneInstr b l 2 = some w →
    NMap.wf (fun _ => []) (s.lane b l).plays = true →
    (((s.lane b l).queue (liVoice w)).filter fun p => !p.over s.clk.time).length < 8 →
    Completes (.playx b l) s fun t => t.mem = s.mem ∧ (t.lane b l).pc = ((s.lane b l).pc + 1) % 32768 ∧
      ∃ p : Play, (t.lane b l).queue (liVoice w) =
          (((s.lane b l).queue (liVoice w)).filter fun p => !p.over s.clk.time) ++ [p] ∧
        p.start = cursorAdd (s.lane b l).cursor (liOfs w) ∧ p.amp = s.vreg b l (liVa w) % 2 ^ 16 ∧
        p.frame = liFrame w ∧ p.phase = s.vreg b l (liVp w) ∧ (liAlias w = false → p.seg = liSeg w) ∧
        (liAlias w = true → p.seg = bitsOf (s.regBefore (R.LOOM_ALIAS (liSeg w))).toNat 0 20)) ∧
  (∀ (b : Fin 8) (l : Fin 32) (w : Nat) (s : State), s.powered = true →
    NMap.wf (fun _ => []) (s.lane b l).plays = true →
    (((s.lane b l).queue (liVoice w)).filter fun p => !p.over s.clk.time).length < 8 →
    ∀ e ∈ ([(1, .play b l), (2, .playx b l)] : List (Nat × Instr)), s.laneInstr b l e.1 = some w →
    Completes e.2 s fun t => (liAdv w = false → (t.lane b l).cursor = (s.lane b l).cursor) ∧
      (liAdv w = true → ((s.loom b).dir.any fun e => e.seg == (s.playArgs b l w).seg) = true →
        (t.lane b l).cursor = cursorAdd (cursorAdd (s.lane b l).cursor (liOfs w))
          (dPlay (s.segWords (s.playArgs b l w).seg))) ∧
      (liAdv w = true → ((s.loom b).dir.any fun e => e.seg == (s.playArgs b l w).seg) = false →
        (t.lane b l).cursor = (s.lane b l).cursor ∧ (t.lane b l).stall = .descriptor (s.playArgs b l w).seg)) ∧
  (∀ (b : Fin 8) (l : Fin 32) (w : Nat) (s : State), s.powered = true →
    NMap.wf (fun _ => []) (s.lane b l).plays = true →
    8 ≤ (((s.lane b l).queue (liVoice w)).filter fun p => !p.over s.clk.time).length →
    ∀ e ∈ ([(1, .play b l), (2, .playx b l)] : List (Nat × Instr)), s.laneInstr b l e.1 = some w →
    Completes e.2 s fun t => (t.lane b l).stall = .queue (liVoice w) ∧
      (t.lane b l).pc = (s.lane b l).pc ∧ (t.lane b l).cursor = (s.lane b l).cursor ∧ t.ap = s.ap) ∧
  (∀ (b : Fin 8) (l : Fin 32) (v : Nat) (s : State), s.powered = true → (s.lane b l).stall = .queue v →
    (s.lane b l).st = .issuing → (s.lane b l).next ≤ s.clk.time → s.executed b < 8 →
    NMap.wf (fun _ => []) (s.lane b l).plays = true →
    (liOp (s.laneWord b l (s.lane b l).pc) = 1 ∨ liOp (s.laneWord b l (s.lane b l).pc) = 2) →
    liVoice (s.laneWord b l (s.lane b l).pc) = v →
    (((s.lane b l).queue v).filter fun p => !p.over s.clk.time).length < 8 →
    Completes (.playQueueSpace b l) s fun t => (t.lane b l).pc = ((s.lane b l).pc + 1) % 32768 ∧
      ∃ p : Play, (t.lane b l).queue v =
          (((s.lane b l).queue v).filter fun p => !p.over s.clk.time) ++ [p] ∧
        p.start = cursorAdd (s.lane b l).cursor (liOfs (s.laneWord b l (s.lane b l).pc))) ∧
  (∀ (b : Fin 8) (l : Fin 32) (v : Fin 3) (p : Play) (s : State), s.powered = true → (s.lane b l).st ≠ .stopping →
    duePlay s.clk.time ((s.lane b l).queue v) = some p → Completes (.playStartTick b l v) s fun t =>
      t.clk = s.clk ∧
      (∀ q ∈ (t.lane b l).queue v, q.ser < p.ser → (q.started = false → q.start < p.start) ∧
        (q.started = true → q.desc ≠ .awaited → q.ends ≤ p.start) ∧
        (q.started = true → q.desc = .awaited → ∃ c, q.cut = some c ∧ c ≤ p.start)) ∧
      (∀ q ∈ (t.lane b l).queue v, q.ser = p.ser → q.started = true) ∧
      ((p.start < p.issued + 126 ∨ p.desc = .awaited) →
        t.flag (R.LOOM_LANE_FLAGS b l) Fd.LOOM_LANE_FLAGS_LATE_PLAY = true ∧
        t.flag (R.LOOM_LANE_FLAGS b l) Fd.LOOM_LANE_FLAGS_POISONED = true) ∧
      ((∃ q ∈ (s.lane b l).queue v, q.ser < p.ser ∧ ((q.started = false ∧ p.start ≤ q.start) ∨
          (q.started = true ∧ q.desc ≠ .awaited ∧ p.start < q.ends))) →
        t.flag (R.LOOM_LANE_FLAGS b l) Fd.LOOM_LANE_FLAGS_OVERLAP = true)) ∧
  (∀ (b : Fin 8) (l : Fin 32) (v : Fin 3) (s : State), s.powered = true →
    ((s.lane b l).st = .stopping ∨ duePlay s.clk.time ((s.lane b l).queue v) = none) →
    exec (.playStartTick b l v) s = .next s)

/-- R144 to R146, R158 to R167. -/
def Obligations.LaneBranches : Prop :=
  (∀ (b : Fin 8) (l : Fin 32) (w k v : Nat) (s : State), s.powered = true → s.laneInstr b l 5 = some w →
    liAsap w = false → s.waitdKnown b l w = some (k, v) → k ≤ s.clk.time → Completes (.waitd b l) s fun t =>
      t.ap = s.ap ∧ (t.lane b l).cursor = cursorAdd (s.lane b l).cursor (liDl w) ∧ (t.lane b l).dr = drOf w v ∧
        (t.lane b l).pc = s.altTarget b l (s.lane b l).pc (v % liAlts w) % 32768 ∧
        (t.lane b l).branches = (s.lane b l).branches) ∧
  (∀ (b : Fin 8) (l : Fin 32) (w : Nat) (s : State), s.powered = true → s.laneInstr b l 5 = some w →
    liAsap w = false → liDef w < liAlts w → s.waitdKnown b l w = none → (s.lane b l).branches.length < 8 →
    cursorAdd (s.lane b l).cursor (liDl w) < s.clk.time + 126 → Completes (.waitd b l) s fun t =>
      (t.lane b l).cursor = cursorAdd (s.lane b l).cursor (liDl w) ∧ (t.lane b l).dr = 0x800 ∧
        (t.lane b l).pc = s.altTarget b l (s.lane b l).pc (liDef w) % 32768 ∧
        t.flag (R.LOOM_LANE_FLAGS b l) Fd.LOOM_LANE_FLAGS_VOID = true ∧
        t.flag (R.LOOM_LANE_FLAGS b l) Fd.LOOM_LANE_FLAGS_LATE_PLAY = true) ∧
  (∀ (b : Fin 8) (l : Fin 32) (w : Nat) (s : State), s.powered = true → s.laneInstr b l 5 = some w →
    liAsap w = false → s.waitdKnown b l w = none → (s.lane b l).branches.length < 8 →
    s.clk.time + 126 ≤ cursorAdd (s.lane b l).cursor (liDl w) → Completes (.waitd b l) s fun t =>
      (t.lane b l).cursor = cursorAdd (s.lane b l).cursor (liDl w) ∧ (t.lane b l).dr = (s.lane b l).dr ∧
        (t.lane b l).pc = s.altTarget b l (s.lane b l).pc (liDef w) % 32768 ∧
        (t.lane b l).branches.map (·.bnd) =
          (s.lane b l).branches.map (·.bnd) ++ [cursorAdd (s.lane b l).cursor (liDl w)]) ∧
  (∀ (b : Fin 8) (l : Fin 32) (w : Nat) (s : State), s.powered = true → s.laneInstr b l 5 = some w →
    liAsap w = false → s.waitdKnown b l w = none → 8 ≤ (s.lane b l).branches.length → Completes (.waitd b l) s fun t =>
      t.lane b l = { s.lane b l with st := .wait, since := s.clk.time }) ∧
  (∀ (b : Fin 8) (l : Fin 32) (w : Nat) (s : State), s.powered = true → s.laneInstr b l 5 = some w →
    liAsap w = true → (s.lane b l).branches = [] → s.waitdKnown b l w = none →
    s.clk.time + 126 ≤ (s.lane b l).cursor → Completes (.waitd b l) s fun t => (t.lane b l).st = .wait ∧
      (t.lane b l).cursor = (s.lane b l).cursor ∧
      (t.lane b l).branches.map (·.bnd) = [cursorAdd (s.lane b l).cursor (liDl w)]) ∧
  (∀ (b : Fin 8) (l : Fin 32) (w : Nat) (s : State), s.powered = true → s.laneInstr b l 5 = some w →
    liAsap w = true → (s.lane b l).branches ≠ [] → Completes (.waitd b l) s fun t =>
      t.lane b l = { s.lane b l with st := .wait, since := s.clk.time }) ∧
  (∀ (b : Fin 8) (l : Fin 32) (w : Nat) (s : State), s.powered = true → s.laneInstr b l 5 = some w →
    liAsap w = true → liDef w < liAlts w → (s.lane b l).branches = [] → (s.lane b l).cursor < s.clk.time + 126 →
    Completes (.waitd b l) s fun t =>
      (t.lane b l).cursor = cursorAdd (s.lane b l).cursor (liDl w) ∧ (t.lane b l).dr = 0x800 ∧
        (t.lane b l).pc = s.altTarget b l (s.lane b l).pc (liDef w) % 32768 ∧
        t.flag (R.LOOM_LANE_FLAGS b l) Fd.LOOM_LANE_FLAGS_VOID = true ∧
        t.flag (R.LOOM_LANE_FLAGS b l) Fd.LOOM_LANE_FLAGS_LATE_PLAY = true) ∧
  (∀ (b : Fin 8) (l : Fin 32) (w k v : Nat) (s : State), s.powered = true → s.laneInstr b l 5 = some w →
    liAsap w = true → (s.lane b l).branches = [] → s.waitdKnown b l w = some (k, v) → k ≤ s.clk.time →
    s.clk.time + 126 ≤ (s.lane b l).cursor → Completes (.waitd b l) s fun t =>
      (t.lane b l).cursor = (s.lane b l).cursor ∧ (t.lane b l).dr = drOf w v ∧
        (t.lane b l).pc = s.altTarget b l (s.lane b l).pc (v % liAlts w) % 32768) ∧
  (∀ (b : Fin 8) (l : Fin 32) (w : Nat) (s : State), s.powered = true → s.laneInstr b l 6 = some w →
    ∀ e ∈ [(0, true), (3, cmpInt (liCmp w) (sext 32 (s.vreg b l (liBsel w % 8))) (sext 20 (liImm w))),
      (4, cmpNat (liCmp w) ((s.lane b l).loops.getD (liBsel w % 4) (0, 0)).2 (liImm w))], liCond w = e.1 →
    Completes (.br b l) s fun t => t.ap = s.ap ∧ t.lane b l = { s.lane b l with
      pc := (if e.2 != liNeg w then liTgt w else (s.lane b l).pc + 1) % 32768, next := s.clk.time + 4 }) ∧
  (∀ (b : Fin 8) (l : Fin 32) (w : Nat) (s : State), s.powered = true → s.laneInstr b l 6 = some w →
    (s.lane b l).pendingWaitd = none → ∀ e ∈ [(1, bitAt (s.lane b l).dr (liBsel w % 16)),
      (2, cmpNat (liCmp w) (dwConf (s.lane b l).dr) (liImm w % 64))], liCond w = e.1 →
    Completes (.br b l) s fun t => t.ap = s.ap ∧ t.lane b l = { s.lane b l with
      pc := (if e.2 != liNeg w then liTgt w else (s.lane b l).pc + 1) % 32768, next := s.clk.time + 4 }) ∧
  (∀ (b : Fin 8) (l : Fin 32) (w k v : Nat) (s : State), s.powered = true → s.laneInstr b l 6 = some w →
    k ≤ s.clk.time → ∀ e ∈ [(5, (s.ownWindow b l).bind fun p => s.winKnown b p.1 p.2, bitAt v (liBsel w % 16)),
      (8, s.tagKnown b (liBsel w % 256), cmpNat (liCmp w) v (liImm w % 16))], liCond w = e.1 → e.2.1 = some (k, v) →
    Completes (.br b l) s fun t => t.ap = s.ap ∧ t.lane b l = { s.lane b l with
      pc := (if e.2.2 != liNeg w then liTgt w else (s.lane b l).pc + 1) % 32768, next := s.clk.time + 4 }) ∧
  (∀ (b : Fin 8) (l : Fin 32) (w : Nat) (s : State), s.powered = true → s.laneInstr b l 6 = some w →
    s.brPends b l w = true → (s.lane b l).branches.length < 8 → s.clk.time + 126 ≤ (s.lane b l).cursor →
    Completes (.br b l) s fun t => (t.lane b l).cursor = (s.lane b l).cursor ∧
      (t.lane b l).pc = (if liDeft w then liTgt w else (s.lane b l).pc + 1) % 32768 ∧
      (t.lane b l).branches.map (·.bnd) = (s.lane b l).branches.map (·.bnd) ++ [(s.lane b l).cursor]) ∧
  (∀ (b : Fin 8) (l : Fin 32) (w : Nat) (s : State), s.powered = true → s.laneInstr b l 6 = some w →
    s.brPends b l w = true → (s.lane b l).branches.length < 8 → (s.lane b l).cursor < s.clk.time + 126 →
    Completes (.br b l) s fun t => (t.lane b l).cursor = (s.lane b l).cursor ∧
      (t.lane b l).pc = (if liDeft w then liTgt w else (s.lane b l).pc + 1) % 32768 ∧
      (t.lane b l).branches = (s.lane b l).branches ∧ (t.lane b l).dr = (s.lane b l).dr ∧
      t.flag (R.LOOM_LANE_FLAGS b l) Fd.LOOM_LANE_FLAGS_VOID = true ∧
      t.flag (R.LOOM_LANE_FLAGS b l) Fd.LOOM_LANE_FLAGS_LATE_PLAY = true) ∧
  (∀ (b : Fin 8) (l : Fin 32) (w : Nat) (s : State), s.powered = true → s.laneInstr b l 6 = some w →
    s.brPends b l w = true → 8 ≤ (s.lane b l).branches.length → Completes (.br b l) s fun t =>
      t.lane b l = { s.lane b l with st := .wait, since := s.clk.time }) ∧
  (∀ (b : Fin 8) (l : Fin 32) (w : Nat) (h : Head) (s : State), s.powered = true → s.laneInstr b l 6 = some w →
    s.brPends b l w = true → (s.lane b l).branches.length < 8 → s.clk.time + 126 ≤ (s.lane b l).cursor →
    h = s.headAt b l (if liDeft w then 0 else 1) (if liDeft w then (s.lane b l).pc + 1 else liTgt w) →
    Completes (.br b l) s fun t => ∃ x : Branch, (t.lane b l).branches = (s.lane b l).branches ++ [x] ∧
      x.heads = [h] ∧
      (h.slots ≤ s.resFree b l + s.poolFree b → (∀ v ∈ [0, 1, 2], (s.lane b l).stagesHeld s.clk.time [h] v ≤ 4) →
        x.hot = true ∧ x.resHeld = min h.slots (s.resFree b l) ∧ x.poolHeld = h.slots - x.resHeld) ∧
      (s.resFree b l + s.poolFree b < h.slots → x.hot = false ∧ x.resHeld = 0 ∧ x.poolHeld = 0 ∧
        t.fld (R.LOOM_SLOT_POOL b) Fd.LOOM_SLOT_POOL_DENIED =
          min (s.fld (R.LOOM_SLOT_POOL b) Fd.LOOM_SLOT_POOL_DENIED + 1) 65535)) ∧
  (∀ (b : Fin 8) (l : Fin 32) (x : Branch) (rest : List Branch) (s : State), s.powered = true →
    (s.lane b l).branches = x :: rest → x.isAsap = false → s.clk.time < x.bnd - x.lead (s.laneLead b l) →
    exec (.branchCommit b l) s = .next s) ∧
  (∀ (b : Fin 8) (l : Fin 32) (x : Branch) (rest : List Branch) (s : State), s.powered = true →
    (s.lane b l).st ≠ .stopping → (s.lane b l).branches = x :: rest → x.isWaitd = true → x.isAsap = false →
    s.branchKnown b l x = none → x.bnd - x.lead (s.laneLead b l) ≤ s.clk.time →
    Completes (.branchCommit b l) s fun t => (t.lane b l).plays = (s.lane b l).plays ∧ (t.lane b l).dr = 0x800 ∧
      (t.lane b l).branches.length = rest.length ∧ (t.lane b l).cursor = (s.lane b l).cursor ∧
      t.flag (R.LOOM_LANE_FLAGS b l) Fd.LOOM_LANE_FLAGS_VOID = true ∧
      (x.isHot = false → t.flag (R.LOOM_LANE_FLAGS b l) Fd.LOOM_LANE_FLAGS_COLD_BRANCH = true)) ∧
  (∀ (b : Fin 8) (l : Fin 32) (x : Branch) (rest : List Branch) (k v : Nat) (s : State), s.powered = true →
    (s.lane b l).st ≠ .stopping → (s.lane b l).branches = x :: rest → x.isWaitd = true → x.isAsap = false →
    s.branchKnown b l x = some (k, v) → k ≤ x.bnd - x.lead (s.laneLead b l) →
    x.bnd - x.lead (s.laneLead b l) ≤ s.clk.time → v % liAlts x.word = liDef x.word →
    Completes (.branchCommit b l) s fun t => (t.lane b l).plays = (s.lane b l).plays ∧
      (t.lane b l).dr = drOf x.word v ∧ (t.lane b l).branches.length = rest.length ∧
      (t.lane b l).cursor = (s.lane b l).cursor ∧
      (t.lane b l).slotsHeld (s.clk.time + 1) =
        ({ s.lane b l with branches := rest } : Lane).slotsHeld (s.clk.time + 1)) ∧
  (∀ (b : Fin 8) (l : Fin 32) (x : Branch) (rest : List Branch) (s : State), s.powered = true →
    (s.lane b l).st ≠ .stopping → (s.lane b l).branches = x :: rest → x.isWaitd = false → liCond x.word ≠ 6 →
    liCond x.word ≠ 7 → s.branchKnown b l x = none → x.bnd - x.lead (s.laneLead b l) ≤ s.clk.time →
    Completes (.branchCommit b l) s fun t => (t.lane b l).plays = (s.lane b l).plays ∧
      (t.lane b l).dr = (s.lane b l).dr ∧ (t.lane b l).branches = rest ∧
      (t.lane b l).cursor = (s.lane b l).cursor ∧
      t.flag (R.LOOM_LANE_FLAGS b l) Fd.LOOM_LANE_FLAGS_VOID = true) ∧
  (∀ (b : Fin 8) (l : Fin 32) (x : Branch) (rest : List Branch) (k v : Nat) (h : Head) (s : State), s.powered = true →
    (s.lane b l).st ≠ .stopping → (s.lane b l).st ≠ .done → (s.lane b l).branches = x :: rest → x.isWaitd = true →
    x.isAsap = false → s.branchKnown b l x = some (k, v) → k ≤ x.bnd - x.lead (s.laneLead b l) →
    x.bnd - x.lead (s.laneLead b l) ≤ s.clk.time → v % liAlts x.word ≠ liDef x.word →
    (x.heads.find? fun h => h.alt == v % liAlts x.word) = some h →
    Completes (.branchCommit b l) s fun t => (t.lane b l).branches = [] ∧ (t.lane b l).dr = drOf x.word v ∧
      (t.lane b l).pc = h.endPc % 32768 ∧ (t.lane b l).cursor = cursorAdd x.bnd h.endCursor ∧
      (t.lane b l).loops = x.chk.loops ∧
      (∀ v, ∀ p ∈ (t.lane b l).queue v, p.ser ≤ x.ser ∨ (s.lane b l).ser ≤ p.ser) ∧
      (∀ f ∈ (t.lane b l).frames, f.ser ≤ x.ser ∨ (s.lane b l).ser ≤ f.ser) ∧
      (∀ m ∈ (t.lane b l).marks, m.ser ≤ x.ser)) ∧
  (∀ (b : Fin 8) (l : Fin 32) (x : Branch) (rest : List Branch) (k v : Nat) (go : Bool) (h : Head) (s : State),
    s.powered = true →
    (s.lane b l).st ≠ .stopping → (s.lane b l).st ≠ .done → (s.lane b l).branches = x :: rest → liOp x.word = 6 →
    x.bnd - x.lead (s.laneLead b l) ≤ s.clk.time →
    ((liCond x.word = 6 ∧ go = (s.gdsSeen (liBsel x.word) != liNeg x.word)) ∨
      (liCond x.word = 7 ∧ go = ((s.lane b l).event != liNeg x.word)) ∨
      (liCond x.word ≠ 6 ∧ liCond x.word ≠ 7 ∧ s.branchKnown b l x = some (k, v) ∧
        k ≤ x.bnd - x.lead (s.laneLead b l) ∧ go = condOn x.word v)) →
    go ≠ liDeft x.word → (x.heads.find? fun h => h.alt == bit go) = some h →
    Completes (.branchCommit b l) s fun t => (t.lane b l).branches = [] ∧ (t.lane b l).pc = h.endPc % 32768 ∧
      (t.lane b l).cursor = cursorAdd x.bnd h.endCursor ∧ (t.lane b l).loops = x.chk.loops ∧
      (liCond x.word = 7 → (t.lane b l).event = if go then false else (s.lane b l).event) ∧
      (∀ v, ∀ p ∈ (t.lane b l).queue v, p.ser ≤ x.ser ∨ (s.lane b l).ser ≤ p.ser) ∧
      (∀ f ∈ (t.lane b l).frames, f.ser ≤ x.ser ∨ (s.lane b l).ser ≤ f.ser) ∧
      (∀ m ∈ (t.lane b l).marks, m.ser ≤ x.ser)) ∧
  (∀ (b : Fin 8) (l : Fin 32) (x : Branch) (rest : List Branch) (k v : Nat) (h : Head) (s : State), s.powered = true →
    (s.lane b l).st = .wait → (s.lane b l).branches = x :: rest → x.isAsap = true →
    s.branchKnown b l x = some (k, v) → k ≤ x.bnd - x.lead (s.laneLead b l) →
    x.chk.cursor - x.lead (s.laneLead b l) ≤ s.clk.time → k ≤ s.clk.time →
    (x.heads.find? fun h => h.alt == v % liAlts x.word) = some h →
    Completes (.branchCommit b l) s fun t => (t.lane b l).st = .issuing ∧ (t.lane b l).branches = [] ∧
      (t.lane b l).dr = drOf x.word v ∧ (t.lane b l).pc = h.endPc % 32768 ∧
      (t.lane b l).cursor = cursorAdd (max x.chk.cursor (k + x.lead (s.laneLead b l))) h.endCursor) ∧
  (∀ (b : Fin 8) (l : Fin 32) (x : Branch) (rest : List Branch) (h : Head) (s : State), s.powered = true →
    (s.lane b l).st = .wait → (s.lane b l).branches = x :: rest → x.isAsap = true → s.branchKnown b l x = none →
    (x.heads.find? fun h => h.alt == liDef x.word) = some h →
    Completes (.branchCommit b l) s fun t =>
      (x.bnd - x.lead (s.laneLead b l) ≤ s.clk.time → (t.lane b l).st = .issuing ∧ (t.lane b l).branches = [] ∧
        (t.lane b l).dr = 0x800 ∧ (t.lane b l).pc = h.endPc % 32768 ∧
        (t.lane b l).cursor = cursorAdd x.bnd h.endCursor ∧
        t.flag (R.LOOM_LANE_FLAGS b l) Fd.LOOM_LANE_FLAGS_VOID = true) ∧
      (s.clk.time < x.bnd - x.lead (s.laneLead b l) → t = s)) ∧
  (∀ (b : Fin 8) (l : Fin 32) (x : Branch) (n : Nat) (s : State), s.powered = true →
    (s.lane b l).branches = [x] → x.stage = .staging n → s.stageable b x = true →
    Completes (.stageDone b l) s fun t => t.ap = s.ap ∧
      (t.lane b l).branches.map (fun y => (y.ser, y.bnd, y.stage, y.hot)) = [(x.ser, x.bnd, .staged, x.hot)]) ∧
  (∀ (b : Fin 8) (l : Fin 32) (s : State), s.powered = true → Completes (.slotRelease b l) s fun t =>
    t.ap = s.ap ∧ (t.lane b l).branches = (s.lane b l).branches ∧
      (∀ e ∈ (t.lane b l).slots, s.clk.time ≤ e.at_ ∧ (e.at_ = s.clk.time → e.segs = [])) ∧
      (t.lane b l).slotsHeld s.clk.time = (s.lane b l).slotsHeld s.clk.time ∧
      (∀ e ∈ (t.lane b l).stages, s.clk.time ≤ e.at_ ∧ (e.at_ = s.clk.time → ∀ c ∈ e.bufs, c.2 = [])))

/-- R139, R155, R156, R172. -/
def Obligations.LaneStrobes : Prop :=
  (∀ (b : Fin 8) (l : Fin 32) (e : Strobe) (s : State), s.powered = true →
    ((s.lane b l).strobes.find? fun x => x.kind == .start && decide (x.arrive ≤ s.clk.time)) = some e →
    (s.lane b l).st = .ready → (s.lane b l).enAt ≠ s.clk.time + 1 → Completes (.startStrobe b l) s fun t =>
      (t.lane b l).st = .issuing ∧ (t.lane b l).pc = 0 ∧ (t.lane b l).cursor = e.s ∧ (t.lane b l).dr = 0 ∧
        (t.lane b l).loops = [] ∧ (t.lane b l).event = false ∧ (t.lane b l).start = e.s ∧
        (t.lane b l).strobes = (s.lane b l).strobes.erase e ∧
        ∀ r : Fin 8, t.reg (R.LOOM_LANE_V b l r) = s.reg (R.LOOM_LANE_V b l r)) ∧
  (∀ (b : Fin 8) (l : Fin 32) (e : Strobe) (s : State), s.powered = true →
    ((s.lane b l).strobes.find? fun x => x.kind == .start && decide (x.arrive ≤ s.clk.time)) = some e →
    ((s.lane b l).st ≠ .ready ∨ (s.lane b l).enAt = s.clk.time + 1) → Completes (.startStrobe b l) s fun t =>
      t.lane b l = { s.lane b l with strobes := (s.lane b l).strobes.erase e } ∧
        t.flag (R.LOOM_LANE_FLAGS b l) Fd.LOOM_LANE_FLAGS_START_LOST = true) ∧
  (∀ (b : Fin 8) (l : Fin 32) (e : Strobe) (s : State), s.powered = true →
    ((s.lane b l).strobes.find? fun x => x.kind == .sync && decide (x.arrive ≤ s.clk.time)) = some e →
    (s.lane b l).st = .sync → Completes (.syncRelease b l) s fun t => (t.lane b l).st = .issuing ∧
      (t.lane b l).cursor = max (s.lane b l).cursor e.s ∧ (t.lane b l).pc = (s.lane b l).pc ∧
      (e.s < (s.lane b l).cursor → t.flag (R.LOOM_LANE_FLAGS b l) Fd.LOOM_LANE_FLAGS_SYNC_BEHIND = true)) ∧
  (∀ (b : Fin 8) (l : Fin 32) (s : State), s.powered = true → (s.lane b l).st = .sync →
    (s.lane b l).cursor + liDl (s.laneWord b l ((s.lane b l).pc + 32767)) ≤ s.clk.time + 126 →
    Completes (.syncTimeout b l) s fun t => (t.lane b l).st = .issuing ∧
      (t.lane b l).cursor = cursorAdd (s.lane b l).cursor (liDl (s.laneWord b l ((s.lane b l).pc + 32767))) ∧
      t.flag (R.LOOM_LANE_FLAGS b l) Fd.LOOM_LANE_FLAGS_VOID = true) ∧
  (∀ (b : Fin 8) (l : Fin 32) (s : State), s.powered = true → ((s.lane b l).st ≠ .sync ∨
    s.clk.time + 126 < (s.lane b l).cursor + liDl (s.laneWord b l ((s.lane b l).pc + 32767))) →
    exec (.syncTimeout b l) s = .next s) ∧
  (∀ (b : Fin 8) (l : Fin 32) (e : Strobe) (s : State), s.powered = true →
    ((s.lane b l).strobes.find? fun x => x.kind == .flush && decide (x.arrive ≤ s.clk.time)) = some e →
    (s.lane b l).running = true → (∀ x ∈ (s.lane b l).branches, x.bnd < e.s) →
    Completes (.flushStrobe b l) s fun t => (t.lane b l).cursor = e.s ∧ (t.lane b l).pc = (s.lane b l).pc ∧
      (t.lane b l).branches = (s.lane b l).branches ∧ (∀ v, ∀ p ∈ (t.lane b l).queue v, p.start < e.s) ∧
      (∀ f, f ∈ (t.lane b l).frames ↔ f ∈ (s.lane b l).frames ∧ f.at_ < e.s) ∧
      (∀ m, m ∈ (t.lane b l).marks ↔ m ∈ (s.lane b l).marks ∧ m.at_ < e.s)) ∧
  (∀ (b : Fin 8) (l : Fin 32) (e : Strobe) (x : Branch) (rest : List Branch) (s : State), s.powered = true →
    ((s.lane b l).strobes.find? fun x => x.kind == .flush && decide (x.arrive ≤ s.clk.time)) = some e →
    (s.lane b l).running = true → (s.lane b l).branches = x :: rest → e.s ≤ x.bnd → (∀ y ∈ rest, e.s ≤ y.bnd) →
    Completes (.flushStrobe b l) s fun t => (t.lane b l).st = .issuing ∧ (t.lane b l).cursor = e.s ∧
      (t.lane b l).pc = x.chk.pc ∧ (t.lane b l).dr = x.chk.dr ∧ (t.lane b l).loops = x.chk.loops ∧
      (t.lane b l).branches = [] ∧ (∀ v, ∀ p ∈ (t.lane b l).queue v, p.start < e.s)) ∧
  (∀ (b : Fin 8) (l : Fin 32) (e : Strobe) (s : State), s.powered = true →
    ((s.lane b l).strobes.find? fun x => x.kind == .abort && decide (x.arrive ≤ s.clk.time)) = some e →
    (s.lane b l).st ≠ .off → (s.lane b l).st ≠ .stopping → Completes (.abortStrobe b l) s fun t =>
      (t.lane b l).st = .stopping ∧ (t.lane b l).stopReady = true ∧ t.ap = s.ap) ∧
  (∀ (b : Fin 8) (l : Fin 32) (e : Strobe) (s : State), s.powered = true →
    ((s.lane b l).strobes.find? fun x => x.kind == .poison && decide (x.arrive ≤ s.clk.time)) = some e →
    (s.lane b l).st ≠ .off → Completes (.poisonStrobe b l) s fun t =>
      t.flag (R.LOOM_LANE_FLAGS b l) Fd.LOOM_LANE_FLAGS_POISONED = true ∧
        t.flag (R.BENCH_EVENTS b) Fd.BENCH_EVENTS_POISON = true ∧
        t.lane b l = { s.lane b l with strobes := (s.lane b l).strobes.erase e }) ∧
  (∀ (b : Fin 8) (l : Fin 32) (e : Strobe) (s : State), s.powered = true →
    ((s.lane b l).strobes.find? fun x => x.kind == .stop && decide (x.arrive ≤ s.clk.time)) = some e →
    (s.lane b l).running = true → Completes (.stopStrobe b l) s fun t => (t.lane b l).st = .done ∧
      (t.lane b l).plays = (s.lane b l).plays ∧ t.ap = s.ap) ∧
  (∀ (b : Fin 8) (l : Fin 32) (e : Strobe) (s : State), s.powered = true →
    ∀ c ∈ ([(.syncRelease b l, .sync, (s.lane b l).st == .sync), (.flushStrobe b l, .flush, (s.lane b l).running),
      (.abortStrobe b l, .abort, (s.lane b l).st != .off), (.poisonStrobe b l, .poison, (s.lane b l).st != .off),
      (.stopStrobe b l, .stop, (s.lane b l).running)] : List (Instr × StrobeKind × Bool)), c.2.2 = false →
    ((s.lane b l).strobes.find? fun x => x.kind == c.2.1 && decide (x.arrive ≤ s.clk.time)) = some e →
    Completes c.1 s fun t => t.lane b l = { s.lane b l with strobes := (s.lane b l).strobes.erase e } ∧
      t.flag (R.LOOM_LANE_FLAGS b l) Fd.LOOM_LANE_FLAGS_START_LOST = true) ∧
  (∀ (b : Fin 8) (l : Fin 32) (s : State), s.powered = true →
    ∀ c ∈ ([(.startStrobe b l, .start), (.syncRelease b l, .sync), (.flushStrobe b l, .flush),
      (.abortStrobe b l, .abort), (.poisonStrobe b l, .poison),
      (.stopStrobe b l, .stop)] : List (Instr × StrobeKind)),
    ((s.lane b l).strobes.find? fun x => x.kind == c.2 && decide (x.arrive ≤ s.clk.time)) = none →
    exec c.1 s = .next s)

/-- R149, R150, R160, R171, R172, R179. -/
def Obligations.LaneEnabling : Prop :=
  (∀ (b : Fin 8) (l : Fin 32) (s : State), s.powered = true → (s.lane b l).st = .off →
    Completes (.laneEnable b l) s fun t => t.flag (R.LOOM_LANE_CTL b l) Fd.LOOM_LANE_CTL_EN = true ∧
      (s.benchOn b = true → (t.lane b l).st = .ready) ∧
      (s.benchOn b = false → (t.lane b l).st = .off ∧ (t.lane b l).enWait = true)) ∧
  (∀ (b : Fin 8) (l : Fin 32) (s : State), s.powered = true → (s.lane b l).st ≠ .off → (s.lane b l).st ≠ .stopping →
    Completes (.laneEnable b l) s fun t => t.flag (R.LOOM_LANE_CTL b l) Fd.LOOM_LANE_CTL_EN = true ∧
      t.lane b l = { s.lane b l with enAt := s.clk.time + 1 }) ∧
  (∀ (b : Fin 8) (l : Fin 32) (s : State), s.powered = true → Completes (.laneDisable b l) s fun t =>
    t.flag (R.LOOM_LANE_CTL b l) Fd.LOOM_LANE_CTL_EN = false ∧
      ((s.lane b l).st = .off → (t.lane b l).st = .off) ∧
      ((s.lane b l).st ≠ .off → (t.lane b l).st = .stopping ∧ (t.lane b l).stopReady = false)) ∧
  (∀ (b : Fin 8) (l : Fin 32) (s : State), s.powered = true → (s.lane b l).st = .stopping →
    (s.lane b l).stopDue ≤ s.clk.time → Completes (.laneStopDone b l) s fun t =>
      (t.lane b l).st = (if (s.lane b l).stopReady || ((s.lane b l).enWait && s.benchOn b) then .ready else .off) ∧
        (t.lane b l).allPlays = [] ∧ (t.lane b l).branches = [] ∧ (t.lane b l).frames = [] ∧
        (t.lane b l).marks = [] ∧ (t.lane b l).slots = [] ∧ (t.lane b l).stages = [] ∧
        t.tally = (s.offer (3 * b) (srcOf b l 0 0) 0x28 1 s.clk.time
          [(0, 8, (s.lane b l).cursor), (8, 4, (s.lane b l).pc)]).tally) ∧
  (∀ (b : Fin 8) (l : Fin 32) (s : State), s.powered = true → ((s.lane b l).st ≠ .stopping ∨
    s.clk.time < (s.lane b l).stopDue) → exec (.laneStopDone b l) s = .next s) ∧
  (∀ (b : Fin 8) (l : Fin 32) (s : State), s.powered = true → (s.lane b l).st = .done →
    (∀ p ∈ (s.lane b l).allPlays, p.over s.clk.time = true) → (s.lane b l).headQ = [] → (s.lane b l).branches = [] →
    Completes (.laneDrained b l) s fun t => (t.lane b l).st = .ready ∧ t.ap = s.ap) ∧
  (∀ (b : Fin 8) (l : Fin 32) (s : State), s.powered = true → (s.lane b l).st = .done →
    ((∃ p ∈ (s.lane b l).allPlays, p.over s.clk.time = false) ∨ (s.lane b l).headQ ≠ [] ∨
      (s.lane b l).branches ≠ []) →
    Completes (.laneDrained b l) s fun t => (t.lane b l).st = .done ∧ t.ap = s.ap) ∧
  (∀ (b : Fin 8) (l : Fin 32) (f : FrameUpd) (u : Nat) (s : State), s.powered = true → (s.lane b l).st ≠ .stopping →
    firstDue s.clk.time (·.at_) (·.ser) (s.lane b l).frames = some f → s.voiceUnit b l f.voice = some u →
    Completes (.frameEffect b l) s fun t => t.lanes = (s.onLane b l fun x =>
        { x with frames := x.frames.erase f }).lanes ∧
      t.frm b u f.frm = (s.frm b u f.frm).update f.freq f.add f.value f.at_) ∧
  (∀ (b : Fin 8) (l : Fin 32) (s : State), s.powered = true → (∀ f ∈ (s.lane b l).frames, s.clk.time < f.at_) →
    exec (.frameEffect b l) s = .next s) ∧
  (∀ (b : Fin 8) (l : Fin 32) (m : MarkUpd) (s : State), s.powered = true → (s.lane b l).st ≠ .stopping →
    (s.lane b l).branches = [] → firstDue s.clk.time (·.at_) (·.ser) (s.lane b l).marks = some m →
    Completes (.markEffect b l) s fun t => (t.lane b l).marks = (s.lane b l).marks.erase m ∧
      (m.evt = true → s.clk.fabricRuns = true →
        (32 * b.val + 2 * (l.val % 16) + m.line, s.clk.time / 8) ∈ t.fabric.demand)) ∧
  (∀ (b : Fin 8) (l : Fin 32) (s : State), s.powered = true →
    (∀ m ∈ (s.lane b l).marks, ∃ x ∈ (s.lane b l).branches, x.ser ≤ m.ser) → exec (.markEffect b l) s = .next s)

/-- R101, R150, R177, R187, R190 to R194, R196. -/
def Obligations.OutputCommands : Prop :=
  (∀ (b : Fin 8) (u : Fin 64) (lo hi : Word) (s : State), s.powered = true →
    Completes (.toneFwCommit b u (some lo) hi) s fun t => t.clk = s.clk ∧
      (t.tone b u).fwAt (s.clk.time + 8) = lo.toNat + hi.toNat % 2 ^ 16 * 2 ^ 32 ∧
      (t.tone b u).fwAt s.clk.time = (s.tone b u).fwAt s.clk.time ∧
      t.reg (R.OUT_TONE_FW_LO b u) = lo ∧ t.reg (R.OUT_TONE_FW_HI b u) = hi &&& 0xFFFF#32) ∧
  (∀ (b : Fin 8) (u : Fin 64) (hi : Word) (s : State), s.powered = true →
    Completes (.toneFwCommit b u none hi) s fun t => (t.tone b u).fwAt (s.clk.time + 8) =
      (s.reg (R.OUT_TONE_FW_LO b u)).toNat + hi.toNat % 2 ^ 16 * 2 ^ 32) ∧
  (∀ (b : Fin 8) (c : Fin 6) (v : Word) (s : State), s.powered = true → Completes (.fsrRequest b c v) s fun t =>
    t.fsrReq b c = v.toNat % 16 ∧ t.fsrCur b c = (if s.out.parked then v.toNat % 16 else s.fsrCur b c) ∧
      t.out = s.out ∧ ∀ o, o ≠ R.OUT_CONV_FSR b c → t.reg o = s.reg o) ∧
  (∀ (b : Fin 8) (c : Fin 6) (s : State), s.powered = true → s.rangeReady b c = true →
    Completes (.rangeChangeStart b c) s fun t => (t.conv b c).changeEnd = some (s.clk.time + 48) ∧
      t.fsrCur b c = s.fsrCur b c ∧ t.lanes = s.lanes ∧
      t.flag (R.TIME_FDLY (convOut b c)) Fd.TIME_FDLY_DLY_PEND = false ∧
      (s.flag (R.TIME_FDLY (convOut b c)) Fd.TIME_FDLY_DLY_PEND = true →
        NMap.get (fun _ => 0) t.time.fdlyNow (convOut b c) = s.sfld (R.TIME_FDLY (convOut b c)) Fd.TIME_FDLY_DLY)) ∧
  (∀ (b : Fin 8) (c : Fin 6) (s : State), s.powered = true → s.rangeReady b c = false →
    exec (.rangeChangeStart b c) s = .next s) ∧
  (∀ (b : Fin 8) (c : Fin 6) (n : Nat) (s : State), s.powered = true → (s.conv b c).changeEnd = some n →
    n ≤ s.clk.time → Completes (.rangeChangeDone b c) s fun t => (t.conv b c).changeEnd = none ∧
      t.fsrCur b c = s.fsrReq b c ∧ t.rangePend b c = false) ∧
  (∀ (b : Fin 8) (c : Fin 6) (s : State), s.powered = true → (∀ n, (s.conv b c).changeEnd = some n → s.clk.time < n) →
    exec (.rangeChangeDone b c) s = .next s) ∧
  (∀ (i : Fin 176) (s : State), s.powered = true → s.mode.timeline = true →
    s.flag (R.TIME_FDLY i) Fd.TIME_FDLY_DLY_PEND = true → s.outIdle i = true → Completes (.fdlyApply i) s fun t =>
      t.flag (R.TIME_FDLY i) Fd.TIME_FDLY_DLY_PEND = false ∧
        NMap.get (fun _ => 0) t.time.fdlyNow i = s.sfld (R.TIME_FDLY i) Fd.TIME_FDLY_DLY ∧ t.lanes = s.lanes) ∧
  (∀ (i : Fin 176) (s : State), s.powered = true → (s.mode.timeline = false ∨
    s.flag (R.TIME_FDLY i) Fd.TIME_FDLY_DLY_PEND = false ∨ s.outIdle i = false) →
    exec (.fdlyApply i) s = .next s) ∧
  (∀ (who : Who) (b : Fin 8) (k : Fin 16) (r : CorrReg) (v : Word) (s : State), s.powered = true →
    s.reaches who = true → Completes (.correctorWrite who b k r v) s fun t =>
      (s.fluxQuiet b k = true → t.fld (corrOff b k r).1 (corrOff b k r).2 =
          bitsOf v.toNat (corrOff b k r).2.lo (corrOff b k r).2.w ∧
        NMap.get (fun _ => {}) t.out.flux (16 * b.val + k.val) = { sec := [], fir := [] }) ∧
      (s.fluxQuiet b k = false → t.out = s.out ∧ t.reg (corrOff b k r).1 = s.reg (corrOff b k r).1 ∧
        (bitsOf v.toNat (corrOff b k r).2.lo (corrOff b k r).2.w ≠ s.fld (corrOff b k r).1 (corrOff b k r).2 →
          t.flag R.TOP_ACCESS Fd.TOP_ACCESS_ACCESS_DENIED = true))) ∧
  (∀ s : State, s.powered = true → s.clk.phAon = 0 → bitAt s.slow.panel 16 = true →
    Completes .safeNLow s fun t => t.out.parked = true ∧ t.mode = s.mode ∧
      (s.out.parked = false → t.out.flux = []) ∧ bitAt t.slow.panel 16 = false) ∧
  (∀ s : State, s.powered = true → s.clk.phAon = 0 → bitAt s.slow.panel 16 = false →
    Completes .safeNHigh s fun t => t.out.parked = s.out.parked ∧ t.mode = s.mode ∧ t.lanes = s.lanes ∧
      bitAt t.slow.panel 16 = true) ∧
  (∀ s : State, s.powered = true → (bitAt s.slow.panel 16 = false → exec .safeNLow s = .next s) ∧
    (bitAt s.slow.panel 16 = true → exec .safeNHigh s = .next s)) ∧
  (∀ (i : Nat) (codes : List Int) (s : State), s.powered = true → s.pending = [] →
    NMap.wf (fun _ => []) s.out.pipe = true → NMap.get (fun _ => []) s.out.pipe i = [(s.clk.now + 1, codes)] →
    ∃ t, step s = .next t ∧ t.clk.now = s.clk.now + 1 ∧ NMap.get (fun _ => []) t.out.balls i = codes) ∧
  (∀ (i : Nat) (codes : List Int) (s : State), (codes.all (· == 0)) = false →
    NMap.get (fun _ => []) (s.pipePut i codes).out.pipe i =
      NMap.get (fun _ => []) s.out.pipe i ++ [(s.clk.now + 96, codes)])

/-- R198 to R200, R204, R206, R209 to R212, R215, R218. -/
def Obligations.ReadoutCommands : Prop :=
  (∀ (b : Fin 8) (a : Fin 2) (s4 : Fin 4) (s : State), s.powered = true → Completes (.adcClip b ⟨a, s4⟩) s fun t =>
    t.flag (R.READ_ACQ_FLAGS b a) Fd.READ_ACQ_FLAGS_CLIP = true ∧
      t.fld (R.READ_ACQ_FLAGS b a) Fd.READ_ACQ_FLAGS_CLIPCNT =
        min (s.fld (R.READ_ACQ_FLAGS b a) Fd.READ_ACQ_FLAGS_CLIPCNT + 1) 65535 ∧
      (∀ e ∈ s.adcOpen b a, e.2.m0 ≤ 4 * Int.ofNat s.clk.time + Int.ofNat s4 →
        4 * Int.ofNat s.clk.time + Int.ofNat s4 ≤ e.2.last →
        ∃ w ∈ (t.chan b e.1).wins, w.ser = e.2.ser ∧ w.clip = true) ∧
      ((∀ e ∈ s.adcOpen b a, 4 * Int.ofNat s.clk.time + Int.ofNat s4 < e.2.m0 ∨
        e.2.last < 4 * Int.ofNat s.clk.time + Int.ofNat s4) → t.chans = s.chans)) ∧
  (∀ (b : Fin 8) (a : Fin 2) (v : Word) (s : State), s.powered = true → Completes (.attnRequest b a v) s fun t =>
    t.fld (R.READ_ACQ_CFG b a) Fd.READ_ACQ_CFG_ATTN_REQ = v.toNat % 4 ∧
      t.fld (R.READ_ACQ_CFG b a) Fd.READ_ACQ_CFG_ATTN_CUR = s.fld (R.READ_ACQ_CFG b a) Fd.READ_ACQ_CFG_ATTN_CUR ∧
      (v.toNat % 4 = s.fld (R.READ_ACQ_CFG b a) Fd.READ_ACQ_CFG_ATTN_CUR → t.attnPend b a = false ∧
        (t.adc b a).changeEnd = (s.adc b a).changeEnd) ∧
      (v.toNat % 4 ≠ s.fld (R.READ_ACQ_CFG b a) Fd.READ_ACQ_CFG_ATTN_CUR → s.adcOpen b a = [] →
        (s.adc b a).changeEnd = none → (t.adc b a).changeEnd = some (s.clk.time + 61)) ∧
      (s.adcOpen b a ≠ [] → (t.adc b a).changeEnd = (s.adc b a).changeEnd)) ∧
  (∀ (b : Fin 8) (a : Fin 2) (s : State), s.powered = true → s.attnPend b a = true → (s.adc b a).changeEnd = none →
    (s.mode ≠ .run ∨ s.loneOpening b a = true) →
    Completes (.attnChangeStart b a) s fun t => (t.adc b a).changeEnd = some (s.clk.time + 60) ∧
      (t.adc b a).badFrom = 4 * Int.ofNat s.clk.time ∧ (t.adc b a).badTo = 4 * Int.ofNat (s.clk.time + 60) - 1 ∧
      ∀ e ∈ s.adcOpen b a, t.flag (R.READ_ACQ_FLAGS b a) Fd.READ_ACQ_FLAGS_ATTN_HIT = true ∧
        ∃ w ∈ (t.chan b e.1).wins, w.ser = e.2.ser ∧ w.inv = true) ∧
  (∀ (b : Fin 8) (a : Fin 2) (s : State), s.powered = true → (s.attnPend b a = false ∨
    (s.adc b a).changeEnd ≠ none ∨ (s.mode = .run ∧ s.loneOpening b a = false)) →
    exec (.attnChangeStart b a) s = .next s) ∧
  (∀ (b : Fin 8) (a : Fin 2) (n : Nat) (s : State), s.powered = true → (s.adc b a).changeEnd = some n →
    n ≤ s.clk.time → Completes (.attnChangeDone b a) s fun t => (t.adc b a).changeEnd = none ∧
      t.attnPend b a = false ∧ t.fld (R.READ_ACQ_CFG b a) Fd.READ_ACQ_CFG_ATTN_CUR =
        s.fld (R.READ_ACQ_CFG b a) Fd.READ_ACQ_CFG_ATTN_REQ) ∧
  (∀ (b : Fin 8) (a : Fin 2) (s : State), s.powered = true → (∀ n, (s.adc b a).changeEnd = some n → s.clk.time < n) →
    exec (.attnChangeDone b a) s = .next s) ∧
  (∀ (b : Fin 8) (c : Fin 32) (w : Win) (s : State), s.powered = true → s.winDue b c = some w →
    Completes (.windowOpen b c) s fun t => (t.chan b c).opens = (s.chan b c).opens + 1 ∧
      ((∀ o ∈ (s.chan b c).wins, o.opened = true → o.void_ = false → o.last < w.m0) →
        ∃ x ∈ (t.chan b c).wins, x.ser = w.ser ∧ x.opened = true ∧ x.owed = true ∧
          x.num = (s.chan b c).opens % 256) ∧
      ((∃ o ∈ (s.chan b c).wins, o.opened = true ∧ o.void_ = false ∧ w.m0 ≤ o.last) →
        t.flag (R.READ_CH_FLAGS b c) Fd.READ_CH_FLAGS_WIN_OVERLAP = true ∧
          ∃ x ∈ (t.chan b c).wins, x.ser = w.ser ∧ x.closed = true ∧ x.void_ = true)) ∧
  (∀ (b : Fin 8) (c : Fin 32) (s : State), s.powered = true → s.winDue b c = none →
    exec (.windowOpen b c) s = .next s) ∧
  (∀ (b : Fin 8) (c : Fin 32) (o w : Win) (xs : List (BitVec 12)) (s : State), s.powered = true →
    s.winRunning b c = some o → w = s.adcTake o xs → w.partials + 1 ≤ w.partialsDue →
    256 * (w.partials + 1) ≤ w.ready → w.entryTick (16 * (w.partials + 1)) ≤ Int.ofNat s.clk.time →
    (s.eng b (c.val / 8)).runs = true → (s.eng b (c.val / 8)).fifo.length < 64 →
    Completes (.partialEntry b c xs) s fun t =>
      (t.eng b (c.val / 8)).fifo = (s.eng b (c.val / 8)).fifo ++ [{
        hdr := entryHdr c 0 (w.partials + 1) w (entrySums w.shift (s.winSums b c w (w.zs w.taken 16))).2
        sums := (entrySums w.shift (s.winSums b c w (w.zs w.taken 16))).1, ch := c, win := w.ser
        at_ := s.clk.time }]) ∧
  (∀ (b : Fin 8) (c : Fin 32) (o w : Win) (xs : List (BitVec 12)) (s : State), s.powered = true →
    s.winRunning b c = some o → w = s.adcTake o xs → w.partials = w.partialsDue → 16 * w.n ≤ w.ready →
    w.entryTick w.n ≤ Int.ofNat s.clk.time → (s.eng b (c.val / 8)).runs = true →
    (s.eng b (c.val / 8)).fifo.length < 64 → Completes (.windowFinal b c xs) s fun t =>
      (t.eng b (c.val / 8)).fifo = (s.eng b (c.val / 8)).fifo ++ [{
        hdr := entryHdr c 1 w.partials w (entrySums w.shift (s.winSums b c w (w.zs w.taken (w.n - w.taken)))).2
        sums := (entrySums w.shift (s.winSums b c w (w.zs w.taken (w.n - w.taken)))).1, ch := c, win := w.ser
        at_ := s.clk.time }] ∧
      t.fld (R.READ_CH_FLAGS b c) Fd.READ_CH_FLAGS_WINCNT =
        (s.fld (R.READ_CH_FLAGS b c) Fd.READ_CH_FLAGS_WINCNT + 1) % 65536 ∧
      ∃ x ∈ (t.chan b c).wins, x.ser = w.ser ∧ x.closed = true) ∧
  (∀ (b : Fin 8) (c : Fin 32) (o : Win) (xs : List (BitVec 12)) (s : State), s.powered = true →
    s.winRunning b c = some o →
    ((s.adcTake o xs).ready < 256 * (o.partials + 1) → Completes (.partialEntry b c xs) s fun t =>
      t.engines = s.engines ∧ t.ap = s.ap) ∧
    ((s.adcTake o xs).ready < 16 * o.n → Completes (.windowFinal b c xs) s fun t =>
      t.engines = s.engines ∧ t.ap = s.ap)) ∧
  (∀ (who : Who) (b : Fin 8) (i : BitVec 19) (v : Word) (s : State), s.powered = true → s.dataOpen who = true →
    Completes (.kernelWrite who b i v) s fun t =>
      ((∀ w ∈ (s.chan b (i.toNat / 16384)).wins, w.isOpen s.clk.time = false) → t.reg (R.KERNEL b i.toNat) = v ∧
        ∀ o, o ≠ R.KERNEL b i.toNat → t.reg o = s.reg o) ∧
      ((∃ w ∈ (s.chan b (i.toNat / 16384)).wins, w.isOpen s.clk.time = true) →
        t.chans = s.chans ∧ t.reg (R.KERNEL b i.toNat) = s.reg (R.KERNEL b i.toNat) ∧
        t.flag (R.READ_CH_FLAGS b (i.toNat / 16384)) Fd.READ_CH_FLAGS_KW_BUSY = true ∧
        t.flag R.TOP_ACCESS Fd.TOP_ACCESS_ACCESS_DENIED = true)) ∧
  (∀ (b : Fin 8) (c : Fin 32) (o w : Win) (xs : List (BitVec 12)) (s : State), s.powered = true →
    ((s.chan b c).wins.find? fun w => w.opened && !w.void_ && w.tmode != 0 &&
      decide (w.traceAt < w.traceItems.2.2)) = some o → w = s.adcTake o xs → w.tmode = 1 →
    16 * (w.traceAt + min 1016 (w.n - w.traceAt)) ≤ w.ready →
    Completes (.traceRecord b c xs) s fun t => t.engines = s.engines ∧
      ∃ x ∈ (t.chan b c).wins, x.ser = w.ser ∧ x.traceAt = w.traceAt + min 1016 (w.n - w.traceAt))

/-- R220, R223, R227, R229 to R232, R245 to R247, R249, R252, R253. -/
def Obligations.AssayControlSlot : Prop :=
  (∀ (b : Fin 8) (e : Fin 4) (w : Nat) (s : State), s.powered = true → s.ctlNow b e 1 = some w →
    Completes (.assayJmp b e) s fun t => (t.eng b e).nxt = bitsOf (ctlOf w) 0 12 ∧
      (s.lastSlot b e 0 w (bitsOf (ctlOf w) 0 12) → (t.eng b e).pc = bitsOf (ctlOf w) 0 12 ∧
        (t.eng b e).cyc = (s.eng b e).cyc + 4)) ∧
  (∀ (b : Fin 8) (e : Fin 4) (w : Nat) (s : State), s.powered = true → s.ctlNow b e 2 = some w →
    Completes (.assayCall b e) s fun t =>
      ((s.eng b e).stack.length < 4 → (t.eng b e).nxt = bitsOf (ctlOf w) 0 12 ∧
        (t.eng b e).stack = ((s.eng b e).pc + 1) :: (s.eng b e).stack) ∧
      (4 ≤ (s.eng b e).stack.length → (t.eng b e).st = .fault ∧ (t.eng b e).fifo = [] ∧
        t.fld (R.ASSAY_FAULT b e) Fd.ASSAY_FAULT_CAUSE = 1 ∧
        t.flag (R.ASSAY_FLAGS b e) Fd.ASSAY_FLAGS_FAULT = true)) ∧
  (∀ (b : Fin 8) (e : Fin 4) (w : Nat) (s : State), s.powered = true → s.ctlNow b e 3 = some w →
    Completes (.assayBr b e) s fun t =>
      (t.eng b e).nxt = (if s.asCond b e (bitsOf (ctlOf w) 8 4) then relTarget (s.eng b e).pc (ctlOf w)
        else (s.eng b e).pc + 1) ∧
      (bitsOf (ctlOf w) 8 4 = 0 → (t.eng b e).nxt = relTarget (s.eng b e).pc (ctlOf w)) ∧
      (bitsOf (ctlOf w) 8 4 = 2 → ((t.eng b e).nxt = relTarget (s.eng b e).pc (ctlOf w) ∨
        bitAt (s.eng b e).regs.flags 0 = true)) ∧
      (bitsOf (ctlOf w) 8 4 = 12 → (t.eng b e).shadow.lc = ((s.eng b e).shadow.lc + 65535) % 65536)) ∧
  (∀ (b : Fin 8) (e : Fin 4) (w : Nat) (h : Entry) (rest : List Entry) (s : State), s.powered = true →
    s.ctlNow b e 4 = some w → (s.eng b e).fifo = h :: rest → cycleFrom (s.eng b e).cyc h.at_ ≤ s.clk.time →
    (∀ n, (s.eng b e).waitFrom = some n → h.at_ < s.waitEnd b e w n) →
    Completes (.waitin b e) s fun t => (t.eng b e).shadow.hdr = h.hdr ∧
      (∀ i : Fin 4, (t.eng b e).shadow.dreg (12 + i) = h.sums.getD i 0 % 2 ^ 36) ∧
      (s.lastSlot b e 0 w ((s.eng b e).pc + 1) → (t.eng b e).fifo = rest ∧ (t.eng b e).pc = (s.eng b e).pc + 1 ∧
        (t.eng b e).regs.hdr = h.hdr)) ∧
  (∀ (b : Fin 8) (e : Fin 4) (w : Nat) (s : State), s.powered = true → s.ctlNow b e 4 = some w →
    (s.eng b e).fifo = [] → (s.eng b e).waitFrom = none → Completes (.waitin b e) s fun t => t.ap = s.ap ∧
      t.eng b e = { s.eng b e with st := .wait, waitFrom := some (s.eng b e).cyc }) ∧
  (∀ (b : Fin 8) (e : Fin 4) (w n : Nat) (s : State), s.powered = true → s.ctlNow b e 4 = some w →
    (s.eng b e).waitFrom = some n →
    n + 2 * s.fld (R.ASSAY_TO b e (bitsOf (ctlOf w) 10 2)) Fd.ASSAY_TO_TO ≤ s.clk.time →
    (∀ h ∈ (s.eng b e).fifo, n + 2 * s.fld (R.ASSAY_TO b e (bitsOf (ctlOf w) 10 2)) Fd.ASSAY_TO_TO ≤ h.at_) →
    Completes (.waitinTimeout b e) s fun t => (t.eng b e).nxt = relTarget (s.eng b e).pc (ctlOf w) ∧
      t.flag (R.ASSAY_FLAGS b e) Fd.ASSAY_FLAGS_VOID = true ∧
      t.fld (R.ASSAY_CNT_TO b e) Fd.ASSAY_CNT_TO_COUNT =
        min (s.fld (R.ASSAY_CNT_TO b e) Fd.ASSAY_CNT_TO_COUNT + 1) (2 ^ 32 - 1) ∧
      t.flag (R.BENCH_EVENTS b) Fd.BENCH_EVENTS_VOID = true ∧ (t.eng b e).shadow.hdr = (s.eng b e).shadow.hdr) ∧
  (∀ (b : Fin 8) (e : Fin 4) (w : Nat) (s : State), s.powered = true → s.ctlNow b e 5 = some w →
    setBit (s.eng b e).done 0 = slotsOf w → (s.eng b e).st ≠ .rep → (s.eng b e).halted = false →
    slotsOf (s.bundle b e ((s.eng b e).pc + 1)) ≠ 0 → Completes (.rep b e) s fun t => (t.eng b e).st = .rep ∧
      (t.eng b e).pc = (s.eng b e).pc + 1 ∧ (t.eng b e).cyc = (s.eng b e).cyc + 2 ∧
      (t.eng b e).rep = (if bitAt (ctlOf w) 11 then
          (if (s.eng b e).regs.lc = 0 then 65536 else (s.eng b e).regs.lc) else bitsOf (ctlOf w) 0 11 + 1)) ∧
  (∀ (b : Fin 8) (e : Fin 4) (s : State), s.powered = true → (s.eng b e).st = .rep → (s.eng b e).rep = 0 →
    (s.eng b e).repDone < 2 ^ 17 → (s.eng b e).pc < 4096 → (s.eng b e).cyc ≤ s.clk.time →
    Completes (.repEnd b e) s fun t => (t.eng b e).st = .run ∧
      t.fld (R.ASSAY_REPMAX b e) Fd.ASSAY_REPMAX_CYCLES =
        max (s.eng b e).repDone (s.fld (R.ASSAY_REPMAX b e) Fd.ASSAY_REPMAX_CYCLES)) ∧
  (∀ (b : Fin 8) (e : Fin 4) (w : Nat) (s : State), s.powered = true → s.ctlNow b e 6 = some w →
    Completes (.decide_ b e) s fun t => (t.eng b e).nxt = (s.eng b e).pc + 1 ∧
      (∀ c n, (s.eng b e).cur = some (c, n) → s.isOwed b c n = true → t.dec.bus = s.dec.bus ++ [{
        bench := b, ch := c, win := n, word := s.decideWord b e (ctlOf w), due := (s.eng b e).cyc + 8 }]) ∧
      ((∀ c n, (s.eng b e).cur = some (c, n) → s.isOwed b c n = false) → t.dec.bus = s.dec.bus ∧
        t.flag (R.ASSAY_FLAGS b e) Fd.ASSAY_FLAGS_DUP_DECIDE = true)) ∧
  (∀ (b : Fin 8) (e : Fin 4) (w : Nat) (s : State), s.powered = true → s.ctlNow b e 7 = some w →
    Completes (.emit b e) s fun t => (t.eng b e).nxt = (s.eng b e).pc + 1 ∧ t.dec.bus = s.dec.bus ∧
      (s.streamOn (3 * b + 1) = true →
        (t.stream (3 * b.val + 1)).seq = ((s.stream (3 * b.val + 1)).seq + 1) % 2 ^ 32)) ∧
  (∀ (b : Fin 8) (e : Fin 4) (w : Nat) (s : State), s.powered = true → s.ctlNow b e 8 = some w →
    bitsOf (ctlOf w) 8 4 = 0 → Completes (.assayRet b e) s fun t =>
      (∀ n rest, (s.eng b e).stack = n :: rest → (t.eng b e).nxt = n ∧ (t.eng b e).stack = rest) ∧
      ((s.eng b e).stack = [] → (t.eng b e).st = .fault ∧
        t.fld (R.ASSAY_FAULT b e) Fd.ASSAY_FAULT_CAUSE = 2)) ∧
  (∀ (b : Fin 8) (e : Fin 4) (w : Nat) (s : State), s.powered = true → s.ctlNow b e 8 = some w →
    bitsOf (ctlOf w) 8 4 = 1 → setBit (s.eng b e).done 0 = slotsOf w → Completes (.halt b e) s fun t =>
      (t.eng b e).st = .halted ∧ (t.eng b e).fifo = []) ∧
  (∀ (b : Fin 8) (e : Fin 4) (s : State), s.powered = true →
    (∀ c ∈ ([(1, .assayJmp b e), (2, .assayCall b e), (3, .assayBr b e), (4, .waitin b e), (4, .waitinTimeout b e),
      (5, .rep b e), (6, .decide_ b e), (7, .emit b e), (8, .assayRet b e), (8, .halt b e)] : List (Nat × Instr)),
      s.ctlNow b e c.1 = none → exec c.2 s = .next s) ∧
    (∀ w, s.ctlNow b e 8 = some w → (bitsOf (ctlOf w) 8 4 ≠ 0 → exec (.assayRet b e) s = .next s) ∧
      (bitsOf (ctlOf w) 8 4 ≠ 1 → exec (.halt b e) s = .next s))) ∧
  (∀ (b : Fin 8) (e : Fin 4) (s : State), s.powered = true → ((s.eng b e).st ≠ .rep ∨ (s.eng b e).rep ≠ 0 ∨
    s.clk.time < (s.eng b e).cyc) → exec (.repEnd b e) s = .next s)

/-- R226, R233 to R238. -/
def Obligations.AssayMacSlot : Prop :=
  (∀ (b : Fin 8) (e : Fin 4) (w : Nat) (s : State), s.powered = true → s.macNow b e 1 = some w →
    Completes (.quad b e) s fun t => t.mem = s.mem ∧ t.lanes = s.lanes ∧
      ∀ i : Fin 4, (t.eng b e).shadow.areg i = (fitReg 48 (bitAt (macOf w) 15)
        ((if bitAt (macOf w) 17 then (s.eng b e).regs.areg i else 0) + (if bitAt (macOf w) 16 then -1 else 1) *
          ((if bitAt (macOf w) 18 then cQ (s.macX b e w) else cI (s.macX b e w)) * coef (s.yOperand b e w) i))).1) ∧
  (∀ (b : Fin 8) (e : Fin 4) (w h k : Nat) (s : State), s.powered = true → s.macNow b e 2 = some w →
    h = (if bitAt (macOf w) 18 then 2 else 0) → k = (if bitAt (macOf w) 14 then 2 else 0) →
    Completes (.cpx b e) s fun t =>
      (t.eng b e).shadow.areg k = (fitReg 48 (bitAt (macOf w) 15)
        ((if bitAt (macOf w) 17 then (s.eng b e).regs.areg k else 0) +
          (if bitAt (macOf w) 16 then cI (s.macX b e w) * coef (s.yOperand b e w) h + cQ (s.macX b e w) * coef
            (s.yOperand b e w) (h + 1)
            else cI (s.macX b e w) * coef (s.yOperand b e w) h - cQ (s.macX b e w) * coef (s.yOperand b e w) (h +
              1)))).1 ∧
      (t.eng b e).shadow.areg (k + 1) = (fitReg 48 (bitAt (macOf w) 15)
        ((if bitAt (macOf w) 17 then (s.eng b e).regs.areg (k + 1) else 0) +
          (if bitAt (macOf w) 16 then cQ (s.macX b e w) * coef (s.yOperand b e w) h - cI (s.macX b e w) * coef
            (s.yOperand b e w) (h + 1)
            else cI (s.macX b e w) * coef (s.yOperand b e w) (h + 1) + cQ (s.macX b e w) * coef (s.yOperand b e w)
              h))).1) ∧
  (∀ (b : Fin 8) (e : Fin 4) (w : Nat) (s : State), s.powered = true → s.macNow b e 3 = some w →
    Completes (.sqacc b e) s fun t => (t.eng b e).shadow.areg (bitsOf (macOf w) 13 2) =
      (fitReg 48 (bitAt (macOf w) 15) ((if bitAt (macOf w) 17 then (s.eng b e).regs.areg (bitsOf (macOf w) 13 2) else
        0) +
        (cI (s.macX b e w) ^ 2 + cQ (s.macX b e w) ^ 2))).1) ∧
  (∀ (b : Fin 8) (e : Fin 4) (w : Nat) (s : State), s.powered = true → s.macNow b e 4 = some w →
    Completes (.assayAdd b e) s fun t =>
      (bitAt (macOf w) 10 = true → (t.eng b e).shadow.areg (bitsOf (macOf w) 20 4 % 4) =
        (fitReg 48 (bitAt (macOf w) 9) ((s.eng b e).regs.areg (bitsOf (macOf w) 16 4 % 4) +
          (s.eng b e).regs.areg (bitsOf (macOf w) 12 4 % 4))).1) ∧
      (bitAt (macOf w) 10 = false → bitAt (macOf w) 11 = false →
        (t.eng b e).shadow.dreg (bitsOf (macOf w) 20 4) =
          mkC (fitReg 18 (bitAt (macOf w) 9) (cI ((s.eng b e).regs.dreg (bitsOf (macOf w) 16 4)) +
              cI ((s.eng b e).regs.dreg (bitsOf (macOf w) 12 4)))).1
            (fitReg 18 (bitAt (macOf w) 9) (cQ ((s.eng b e).regs.dreg (bitsOf (macOf w) 16 4)) +
              cQ ((s.eng b e).regs.dreg (bitsOf (macOf w) 12 4)))).1) ∧
      (bitAt (macOf w) 10 = false → bitAt (macOf w) 11 = true →
        (t.eng b e).shadow.dreg (bitsOf (macOf w) 20 4) =
          mkC (fitReg 18 (bitAt (macOf w) 9) (cI ((s.eng b e).regs.dreg (bitsOf (macOf w) 16 4)) +
              coef (s.yOperand b e w) 0)).1
            (fitReg 18 (bitAt (macOf w) 9) (cQ ((s.eng b e).regs.dreg (bitsOf (macOf w) 16 4)) +
              coef (s.yOperand b e w) 1)).1)) ∧
  (∀ (b : Fin 8) (e : Fin 4) (w : Nat) (s : State), s.powered = true → s.macNow b e 5 = some w →
    Completes (.assaySub b e) s fun t =>
      (bitAt (macOf w) 10 = true → (t.eng b e).shadow.areg (bitsOf (macOf w) 20 4 % 4) =
        (fitReg 48 (bitAt (macOf w) 9) ((s.eng b e).regs.areg (bitsOf (macOf w) 16 4 % 4) -
          (s.eng b e).regs.areg (bitsOf (macOf w) 12 4 % 4))).1) ∧
      (bitAt (macOf w) 10 = false → bitAt (macOf w) 11 = false →
        (t.eng b e).shadow.dreg (bitsOf (macOf w) 20 4) =
          mkC (fitReg 18 (bitAt (macOf w) 9) (cI ((s.eng b e).regs.dreg (bitsOf (macOf w) 16 4)) -
              cI ((s.eng b e).regs.dreg (bitsOf (macOf w) 12 4)))).1
            (fitReg 18 (bitAt (macOf w) 9) (cQ ((s.eng b e).regs.dreg (bitsOf (macOf w) 16 4)) -
              cQ ((s.eng b e).regs.dreg (bitsOf (macOf w) 12 4)))).1) ∧
      (bitAt (macOf w) 10 = false → bitAt (macOf w) 11 = true →
        (t.eng b e).shadow.dreg (bitsOf (macOf w) 20 4) =
          mkC (fitReg 18 (bitAt (macOf w) 9) (cI ((s.eng b e).regs.dreg (bitsOf (macOf w) 16 4)) -
              coef (s.yOperand b e w) 0)).1
            (fitReg 18 (bitAt (macOf w) 9) (cQ ((s.eng b e).regs.dreg (bitsOf (macOf w) 16 4)) -
              coef (s.yOperand b e w) 1)).1)) ∧
  (∀ (b : Fin 8) (e : Fin 4) (w : Nat) (s : State), s.powered = true → s.macNow b e 6 = some w →
    Completes (.abs b e) s fun t =>
      (bitAt (macOf w) 10 = true → (t.eng b e).shadow.areg (bitsOf (macOf w) 20 4 % 4) =
        (fitReg 48 (bitAt (macOf w) 9) (|(s.eng b e).regs.areg (bitsOf (macOf w) 16 4 % 4)|)).1) ∧
      (bitAt (macOf w) 10 = false → (t.eng b e).shadow.dreg (bitsOf (macOf w) 20 4) =
        mkC (fitReg 18 (bitAt (macOf w) 9) (|cI ((s.eng b e).regs.dreg (bitsOf (macOf w) 16 4))|)).1
          (fitReg 18 (bitAt (macOf w) 9) (|cQ ((s.eng b e).regs.dreg (bitsOf (macOf w) 16 4))|)).1)) ∧
  (∀ (b : Fin 8) (e : Fin 4) (w : Nat) (s : State), s.powered = true → s.macNow b e 7 = some w →
    Completes (.assayShl b e) s fun t =>
      (bitAt (macOf w) 10 = true → (t.eng b e).shadow.areg (bitsOf (macOf w) 20 4 % 4) =
        (fitReg 48 (bitAt (macOf w) 9) ((s.eng b e).regs.areg (bitsOf (macOf w) 16 4 % 4) * 2 ^ bitsOf (macOf w) 12
          4)).1) ∧
      (bitAt (macOf w) 10 = false → (t.eng b e).shadow.dreg (bitsOf (macOf w) 20 4) =
        mkC (fitReg 18 (bitAt (macOf w) 9) (cI ((s.eng b e).regs.dreg (bitsOf (macOf w) 16 4)) * 2 ^ bitsOf (macOf w)
          12 4)).1
          (fitReg 18 (bitAt (macOf w) 9) (cQ ((s.eng b e).regs.dreg (bitsOf (macOf w) 16 4)) * 2 ^ bitsOf (macOf w) 12
            4)).1)) ∧
  (∀ (b : Fin 8) (e : Fin 4) (w : Nat) (s : State), s.powered = true → s.macNow b e 8 = some w →
    Completes (.assayShr b e) s fun t =>
      (bitAt (macOf w) 10 = true → (t.eng b e).shadow.areg (bitsOf (macOf w) 20 4 % 4) =
        (fitReg 48 false ((s.eng b e).regs.areg (bitsOf (macOf w) 16 4 % 4) / 2 ^ bitsOf (macOf w) 12 4)).1) ∧
      (bitAt (macOf w) 10 = false → (t.eng b e).shadow.dreg (bitsOf (macOf w) 20 4) =
        mkC (fitReg 18 false (cI ((s.eng b e).regs.dreg (bitsOf (macOf w) 16 4)) / 2 ^ bitsOf (macOf w) 12 4)).1
          (fitReg 18 false (cQ ((s.eng b e).regs.dreg (bitsOf (macOf w) 16 4)) / 2 ^ bitsOf (macOf w) 12 4)).1)) ∧
  (∀ (b : Fin 8) (e : Fin 4) (w : Nat) (s : State), s.powered = true → s.macNow b e 9 = some w →
    Completes (.rnd b e) s fun t => (t.eng b e).shadow.dreg (bitsOf (macOf w) 20 4) =
      mkC (narrow18 (bitAt (macOf w) 9) ((s.eng b e).regs.areg (bitsOf (macOf w) 18 2)) (bitsOf (macOf w) 10 6)).1
        (narrow18 (bitAt (macOf w) 9) ((s.eng b e).regs.areg (bitsOf (macOf w) 16 2)) (bitsOf (macOf w) 10 6)).1) ∧
  (∀ (b : Fin 8) (e : Fin 4) (w d c : Nat) (v : Int) (s : State), s.powered = true → s.macNow b e 10 = some w →
    d = bitsOf (macOf w) 18 6 → c = bitsOf (macOf w) 12 6 →
    v = (if c = 38 then (s.eng b e).regs.best else if c = 39 then (s.eng b e).regs.next else (s.eng b e).regs.areg (c
      - 16)) →
    Completes (.mov b e) s fun t =>
      (d < 16 → c < 16 → (t.eng b e).shadow.dreg d = (s.eng b e).regs.dreg c % 2 ^ 36) ∧
      ((16 ≤ c ∧ c < 20 ∨ c = 38 ∨ c = 39) →
        (d < 16 → (t.eng b e).shadow.dreg d =
          mkC (narrow18 (bitAt (macOf w) 5) v (bitsOf (macOf w) 6 6)).1 0) ∧
        (16 ≤ d → d < 20 → (t.eng b e).shadow.areg (d - 16) = v) ∧
        (d = 38 → (t.eng b e).shadow.best = v) ∧ (d = 39 → (t.eng b e).shadow.next = v) ∧
        (20 ≤ d → d < 28 → (t.eng b e).shadow.preg (d - 20) =
          lowBits 12 (narrow18 (bitAt (macOf w) 5) v (bitsOf (macOf w) 6 6)).1)) ∧
      (20 ≤ c → c < 28 → d < 16 → (t.eng b e).shadow.dreg d =
        mkC (sext 18 ((s.eng b e).regs.preg (c - 20))) 0) ∧
      (c < 16 → 16 ≤ d → d < 20 → (t.eng b e).shadow.areg (d - 16) = cI ((s.eng b e).regs.dreg c))) ∧
  (∀ (b : Fin 8) (e : Fin 4) (w : Nat) (s : State), s.powered = true → s.macNow b e 11 = some w →
    Completes (.clr b e) s fun t =>
      (bitsOf (macOf w) 22 2 = 0 → (t.eng b e).shadow.areg (bitsOf (macOf w) 18 2) = 0) ∧
      (bitsOf (macOf w) 22 2 = 1 → (t.eng b e).shadow.best = -(2 ^ 47) ∧ (t.eng b e).shadow.next = -(2 ^ 47)) ∧
      (bitsOf (macOf w) 22 2 = 2 → (t.eng b e).shadow.best = 2 ^ 47 - 1 ∧ (t.eng b e).shadow.next = 2 ^ 47 - 1) ∧
      (bitsOf (macOf w) 22 2 = 3 → (t.eng b e).shadow.dreg (bitsOf (macOf w) 18 4) = 0)) ∧
  (∀ (b : Fin 8) (e : Fin 4) (w : Nat) (s : State), s.powered = true → s.macNow b e 12 = some w →
    Completes (.minx b e) s fun t =>
      ((s.eng b e).regs.areg (bitsOf (macOf w) 22 2) < (s.eng b e).regs.best →
        (t.eng b e).shadow.best = (s.eng b e).regs.areg (bitsOf (macOf w) 22 2) ∧
        (t.eng b e).shadow.next = (s.eng b e).regs.best ∧ bitAt (t.eng b e).shadow.flags 4 = true) ∧
      ((s.eng b e).regs.best ≤ (s.eng b e).regs.areg (bitsOf (macOf w) 22 2) →
        (t.eng b e).shadow.best = (s.eng b e).shadow.best ∧ bitAt (t.eng b e).shadow.flags 4 = false ∧
        ((s.eng b e).regs.areg (bitsOf (macOf w) 22 2) < (s.eng b e).regs.next →
          (t.eng b e).shadow.next = (s.eng b e).regs.areg (bitsOf (macOf w) 22 2)))) ∧
  (∀ (b : Fin 8) (e : Fin 4) (w : Nat) (s : State), s.powered = true → s.macNow b e 13 = some w →
    Completes (.maxx b e) s fun t =>
      ((s.eng b e).regs.best < (s.eng b e).regs.areg (bitsOf (macOf w) 22 2) →
        (t.eng b e).shadow.best = (s.eng b e).regs.areg (bitsOf (macOf w) 22 2) ∧
        (t.eng b e).shadow.next = (s.eng b e).regs.best ∧ bitAt (t.eng b e).shadow.flags 4 = true) ∧
      ((s.eng b e).regs.areg (bitsOf (macOf w) 22 2) ≤ (s.eng b e).regs.best →
        (t.eng b e).shadow.best = (s.eng b e).shadow.best ∧ bitAt (t.eng b e).shadow.flags 4 = false ∧
        ((s.eng b e).regs.next < (s.eng b e).regs.areg (bitsOf (macOf w) 22 2) →
          (t.eng b e).shadow.next = (s.eng b e).regs.areg (bitsOf (macOf w) 22 2)))) ∧
  (∀ (b : Fin 8) (e : Fin 4) (s : State), s.powered = true →
    ∀ c ∈ ([(1, .quad b e), (2, .cpx b e), (3, .sqacc b e), (4, .assayAdd b e), (5, .assaySub b e), (6, .abs b e),
      (7, .assayShl b e), (8, .assayShr b e), (9, .rnd b e), (10, .mov b e), (11, .clr b e), (12, .minx b e),
      (13, .maxx b e)] : List (Nat × Instr)), s.macNow b e c.1 = none → exec c.2 s = .next s)

/-- R222, R224, R226, R241, R242. -/
def Obligations.AssayAddressSlot : Prop :=
  (∀ (b : Fin 8) (e : Fin 4) (w : Nat) (s : State), s.powered = true → s.adrNow b e 0 = some w →
    Completes (.yRead b e) s fun t => t.mem = s.mem ∧
      (t.eng b e).shadow.preg (bitsOf (adrOf w) 8 3) =
        lowBits 12 (Int.ofNat ((s.eng b e).regs.preg (bitsOf (adrOf w) 8 3)) +
          (s.eng b e).regs.mreg (bitsOf (adrOf w) 5 3))) ∧
  (∀ (b : Fin 8) (e : Fin 4) (w : Nat) (s : State), s.powered = true → s.adrNow b e 1 = some w →
    Completes (.xRead b e) s fun t =>
      ((bitAt (adrOf w) 11 = false ∨ bitsOf (adrOf w) 8 3 ≠ bitsOf (adrOf w) 15 3) →
        (t.eng b e).shadow.preg (bitsOf (adrOf w) 15 3) =
          lowBits 12 (Int.ofNat ((s.eng b e).regs.preg (bitsOf (adrOf w) 15 3)) +
            (s.eng b e).regs.mreg (bitsOf (adrOf w) 12 3))) ∧
      (bitAt (adrOf w) 11 = true → (t.eng b e).shadow.preg (bitsOf (adrOf w) 8 3) =
        lowBits 12 (Int.ofNat ((s.eng b e).regs.preg (bitsOf (adrOf w) 8 3)) +
          (s.eng b e).regs.mreg (bitsOf (adrOf w) 5 3)))) ∧
  (∀ (b : Fin 8) (e : Fin 4) (w : Nat) (s : State), s.powered = true → s.adrNow b e 2 = some w →
    (∀ r ∈ (s.eng b e).xyLate, r.y = true ∨ r.at_ < (s.eng b e).cyc) →
    s.lastSlot b e 2 w ((s.eng b e).pc + 1) → ctlOp (ctlOf w) = 0 →
    (s.eng b e).regs.preg (bitsOf (adrOf w) 15 3) < 4096 → Completes (.xWrite b e) s fun t =>
      t.reg (R.ASSAY_X b e ((s.eng b e).regs.preg (bitsOf (adrOf w) 15 3)) 0) =
          BitVec.ofNat 32 ((s.eng b e).regs.dreg (bitsOf (adrOf w) 1 4)) ∧
        t.reg (R.ASSAY_X b e ((s.eng b e).regs.preg (bitsOf (adrOf w) 15 3)) 1) =
          BitVec.ofNat 32 ((s.eng b e).regs.dreg (bitsOf (adrOf w) 1 4) / 2 ^ 32) ∧
        (t.eng b e).pc = (s.eng b e).pc + 1) ∧
  (∀ (b : Fin 8) (e : Fin 4) (w : Nat) (s : State), s.powered = true → s.adrNow b e 3 = some w →
    Completes (.ldi b e) s fun t =>
      (bitsOf (adrOf w) 13 5 < 8 → (t.eng b e).shadow.preg (bitsOf (adrOf w) 13 5) = bitsOf (adrOf w) 0 12) ∧
      (8 ≤ bitsOf (adrOf w) 13 5 → bitsOf (adrOf w) 13 5 < 16 →
        (t.eng b e).shadow.mreg (bitsOf (adrOf w) 13 5 - 8) = sext 12 (bitsOf (adrOf w) 0 12)) ∧
      (bitsOf (adrOf w) 13 5 = 16 → (t.eng b e).shadow.lc =
        if bitsOf (adrOf w) 0 12 = 0 then 4096 else bitsOf (adrOf w) 0 12)) ∧
  (∀ (b : Fin 8) (e : Fin 4) (s : State), s.powered = true →
    ∀ c ∈ ([(0, .yRead b e), (1, .xRead b e), (2, .xWrite b e), (3, .ldi b e)] : List (Nat × Instr)),
    s.adrNow b e c.1 = none → exec c.2 s = .next s) ∧
  (∀ (who : Who) (b : Fin 8) (e : Fin 4) (i : BitVec 12) (v : BitVec 128) (s : State), s.powered = true →
    s.dataOpen who = true →
    (Completes (.assayXyWrite who b e false i .whole v) s fun t =>
      t.reg (R.ASSAY_X b e i.toNat 0) = BitVec.ofNat 32 v.toNat ∧
        t.reg (R.ASSAY_X b e i.toNat 1) = BitVec.ofNat 32 (v.toNat / 2 ^ 32 % 16) ∧ t.xyStages = s.xyStages) ∧
    (Completes (.assayXyWrite who b e true i .whole v) s fun t =>
      t.reg (R.ASSAY_Y b e i.toNat 0) = BitVec.ofNat 32 v.toNat ∧
        t.reg (R.ASSAY_Y b e i.toNat 1) = BitVec.ofNat 32 (v.toNat / 2 ^ 32) ∧
        t.reg (R.ASSAY_Y b e i.toNat 2) = BitVec.ofNat 32 (v.toNat / 2 ^ 64 % 256) ∧ t.xyStages = s.xyStages)) ∧
  (∀ (who : Who) (b : Fin 8) (e : Fin 4) (i : BitVec 12) (v u : BitVec 128) (s : State), s.powered = true →
    s.dataOpen who = true →
    (Completes (.assayXyWrite who b e true i .lower v) s fun t => t.ap = s.ap ∧
      Completes (.assayXyWrite who b e true i .upper u) t fun t =>
        t.reg (R.ASSAY_Y b e i.toNat 0) = BitVec.ofNat 32 v.toNat ∧
        t.reg (R.ASSAY_Y b e i.toNat 1) = BitVec.ofNat 32 (v.toNat / 2 ^ 32) ∧
        t.reg (R.ASSAY_Y b e i.toNat 2) = BitVec.ofNat 32 (u.toNat % 256)) ∧
    (Completes (.assayXyWrite who b e false i .lower v) s fun t => t.ap = s.ap ∧
      Completes (.assayXyWrite who b e false i .upper u) t fun t =>
        t.reg (R.ASSAY_X b e i.toNat 0) = BitVec.ofNat 32 v.toNat ∧
        t.reg (R.ASSAY_X b e i.toNat 1) = BitVec.ofNat 32 (u.toNat % 16))) ∧
  (∀ (who : Who) (b : Fin 8) (e : Fin 4) (y : Bool) (i : BitVec 12) (v : BitVec 128) (s : State), s.powered = true →
    s.dataOpen who = true →
    (∀ x, NMap.get (fun _ => none) s.xyStages ((4 * b.val + e.val) * 8 + 2 * who.code + bit y) = some x →
      x.word ≠ i.toNat) →
    Completes (.assayXyWrite who b e y i .upper v) s fun t =>
      t.flag R.TOP_ACCESS Fd.TOP_ACCESS_ACCESS_DENIED = true ∧
        (∀ h : Fin 2, t.reg (R.ASSAY_X b e i.toNat h) = s.reg (R.ASSAY_X b e i.toNat h)) ∧
        ∀ h : Fin 3, t.reg (R.ASSAY_Y b e i.toNat h) = s.reg (R.ASSAY_Y b e i.toNat h)) ∧
  (∀ (who : Who) (b : Fin 8) (e : Fin 4) (r : Fin 47) (hi : Bool) (v : Nat) (s : State), s.powered = true →
    s.reaches who = true → (s.eng b e).regs.code r = some v →
    Completes (.assayRegAccess who b e r hi none) s fun t => t.engines = s.engines ∧
      ((s.eng b e).runs = false → t.readData = (if hi then v / 2 ^ 32 else v % 2 ^ 32) ∧ t.ap = s.ap) ∧
      ((s.eng b e).runs = true → t.readData = 0 ∧ t.flag R.TOP_ACCESS Fd.TOP_ACCESS_ACCESS_DENIED = true)) ∧
  (∀ (who : Who) (b : Fin 8) (e : Fin 4) (r : Fin 47) (hi : Bool) (v : Word) (old : Nat) (s : State),
    s.powered = true → s.reaches who = true → r.val < 20 → (s.eng b e).regs.code r = some old →
    Completes (.assayRegAccess who b e r hi (some v)) s fun t =>
      ((s.eng b e).runs = false → t.ap = s.ap ∧
        (r.val < 16 → (t.eng b e).regs.dreg r =
          (if hi then old % 2 ^ 32 + v.toNat * 2 ^ 32 else old / 2 ^ 32 * 2 ^ 32 + v.toNat) % 2 ^ 36) ∧
        (16 ≤ r.val → (t.eng b e).regs.areg (r.val - 16) = sext 48
          (if hi then old % 2 ^ 32 + v.toNat * 2 ^ 32 else old / 2 ^ 32 * 2 ^ 32 + v.toNat))) ∧
      ((s.eng b e).runs = true → t.engines = s.engines ∧
        (v.toNat ≠ (if hi then old / 2 ^ 32 else old % 2 ^ 32) →
          t.flag R.TOP_ACCESS Fd.TOP_ACCESS_ACCESS_DENIED = true)))

/-- R219, R220, R222, R243 to R245, R248. -/
def Obligations.AssayRunning : Prop :=
  (∀ (b : Fin 8) (e : Fin 4) (s : State), s.powered = true → s.benchOn b = true → s.mode.engines = true →
    ((s.eng b e).st = .off ∨ (s.eng b e).runs = false ∧ s.flag (R.ASSAY_CTL b e) Fd.ASSAY_CTL_EN = false) →
    Completes (.engineEnable b e) s fun t =>
      t.flag (R.ASSAY_CTL b e) Fd.ASSAY_CTL_EN = true ∧ (t.eng b e).st = .run ∧ (t.eng b e).pc = 0 ∧
        (t.eng b e).stack = [] ∧ (t.eng b e).regs = {} ∧ s.clk.time ≤ (t.eng b e).cyc ∧
        (t.eng b e).cyc % 2 = 0) ∧
  (∀ (b : Fin 8) (e : Fin 4) (s : State), s.powered = true →
    ((s.eng b e).runs = true ∨ s.mode.engines = false ∨ s.benchOn b = false) →
    Completes (.engineEnable b e) s fun t => t.engines = s.engines ∧
      t.flag (R.ASSAY_CTL b e) Fd.ASSAY_CTL_EN = true) ∧
  (∀ (b : Fin 8) (e : Fin 4) (s : State), s.powered = true → Completes (.engineDisable b e) s fun t =>
    t.flag (R.ASSAY_CTL b e) Fd.ASSAY_CTL_EN = false ∧
      ((s.eng b e).runs = true → t.eng b e = { s.eng b e with stopReq := true }) ∧
      ((s.eng b e).runs = false → t.eng b e = { s.eng b e with st := .off })) ∧
  (∀ (b : Fin 8) (e : Fin 4) (s : State), s.powered = true → (s.eng b e).stopReq = true →
    (s.eng b e).atBoundary = true → Completes (.engineStop b e) s fun t => (t.eng b e).st = .off ∧
      (t.eng b e).fifo = [] ∧ (t.eng b e).stopReq = false ∧ t.ap = s.ap ∧
      ∀ (k : Fin 8), ∀ x ∈ (s.chan b (8 * e + k)).wins, x.owed = true →
        t.isOwed b (8 * e + k) x.ser = false ∨ s.win b (8 * e + k) x.ser ≠ some x) ∧
  (∀ (b : Fin 8) (e : Fin 4) (s : State), s.powered = true →
    ((s.eng b e).stopReq = false ∨ (s.eng b e).atBoundary = false) → exec (.engineStop b e) s = .next s) ∧
  (∀ (b : Fin 8) (e : Fin 4) (s : State), s.powered = true → Completes (.engineTrapRequest b e) s fun t =>
    ((s.eng b e).runs = true → t.eng b e = { s.eng b e with trapReq := true }) ∧
      ((s.eng b e).runs = false → t = s)) ∧
  (∀ (b : Fin 8) (e : Fin 4) (s : State), s.powered = true → (s.eng b e).trapReq = true →
    (s.eng b e).stopReq = false → (s.eng b e).atBoundary = true → Completes (.engineTrap b e) s fun t =>
      ((s.eng b e).stack.length < 4 → (t.eng b e).stack = (s.eng b e).pc :: (s.eng b e).stack ∧
        (t.eng b e).pc = s.fld (R.ASSAY_CFG b e) Fd.ASSAY_CFG_TVEC ∧ (t.eng b e).st = .run ∧
        (t.eng b e).trapReq = false) ∧
      (4 ≤ (s.eng b e).stack.length → (t.eng b e) = { s.eng b e with trapReq := false } ∧
        t.flag (R.ASSAY_FLAGS b e) Fd.ASSAY_FLAGS_TRAP_OVF = true)) ∧
  (∀ (b : Fin 8) (e : Fin 4) (s : State), s.powered = true → ((s.eng b e).trapReq = false ∨
    (s.eng b e).stopReq = true ∨ (s.eng b e).atBoundary = false) → exec (.engineTrap b e) s = .next s) ∧
  (∀ (b : Fin 8) (e : Fin 4) (a : Answer) (s : State), s.powered = true → (s.eng b e).nextAnswer = some a →
    ((s.eng b e).ansCyc ≠ s.clk.time / 2 + 1 ∨ (s.eng b e).ansCount < if (s.eng b e).runs then 1 else 2) →
    Completes (.autoAnswer b e) s fun t =>
      t.dec.bus = s.dec.bus ++ [{
        bench := b, ch := a.ch, win := a.win, word := s.defaultWord b a.ch, due := s.clk.time + 6 }] ∧
      (t.eng b e).answers = (s.eng b e).answers.erase a) ∧
  (∀ (b : Fin 8) (e : Fin 4) (s : State), s.powered = true → ((s.eng b e).nextAnswer = none ∨
    (s.eng b e).ansCyc = s.clk.time / 2 + 1 ∧ (if (s.eng b e).runs then 1 else 2) ≤ (s.eng b e).ansCount) →
    exec (.autoAnswer b e) s = .next s)

/-- R251: the default word of a channel, and that an automatic answer carries nothing else. -/
def Obligations.DefaultWord : Prop :=
  (∀ (b : Fin 8) (c : Fin 32) (s : State),
    dwState (s.defaultWord b c) = bitsOf (s.reg (R.ASSAY_DEFAULT b (c.val / 8))).toNat (3 * (c.val % 8)) 3 ∧
      bitAt (s.defaultWord b c) 11 = true ∧ dwConf (s.defaultWord b c) = 0 ∧ bitAt (s.defaultWord b c) 9 = false ∧
      bitAt (s.defaultWord b c) 10 = false ∧ s.defaultWord b c < 2 ^ 12) ∧
  (∀ (b : Fin 8) (e : Fin 4) (s t : State), exec (.autoAnswer b e) s = .next t →
    t.dec.bus = s.dec.bus ∨ ∃ ch win due, t.dec.bus = s.dec.bus ++
      [{ bench := b, ch := ch, win := win, word := s.defaultWord b ch, due := due }])

/-- R158, R256, R263, R264, R269 to R275, R277. -/
def Obligations.DecisionAndCrierCommands : Prop :=
  (∀ (b : Fin 8) (w : BusWord) (s : State), s.powered = true →
    (s.dec.bus.find? fun w => w.bench == b.val && decide (w.due ≤ s.clk.time)) = some w →
    Completes (.decisionWord b) s fun t => t.dec.bus = s.dec.bus.erase w ∧
      NMap.get (fun _ => 0) t.dec.latch (32 * b.val + w.ch) = w.word % 4096 ∧ bitAt (t.fm b).newBits w.ch = true ∧
      (∀ x ∈ (t.chan b w.ch).wins, x.ser = w.win → x.decided = some (w.due, w.word)) ∧ t.clk = s.clk ∧ t.mem = s.mem) ∧
  (∀ (b : Fin 8) (s : State), s.powered = true →
    (∀ w ∈ s.dec.bus, w.bench = b.val → s.clk.time < w.due) → exec (.decisionWord b) s = .next s) ∧
  (∀ (b : Fin 8) (n : Nat) (s : State), s.powered = true → s.clk.time % 8 = b.val →
    NMap.get (fun _ => 0) s.dec.slotUsed b ≠ s.clk.time + 1 → n < 256 → (s.tag b n).st = .ready →
    (s.tag b n).readyTick < s.clk.time → (∀ m < n, (s.tag b m).st = .ready → s.clk.time ≤ (s.tag b m).readyTick) →
    Completes (.oltLookup b) s fun t => (t.tag b n).st = .done ∧ (t.tag b n).idx = s.oltIndex b ∧
      (t.tag b n).act = s.oltEntry (s.oltIndex b) ∧
      t.dec.acts = s.dec.acts ++ [{
        bench := b, tag := n, idx := s.oltIndex b, act := s.oltEntry (s.oltIndex b), due := s.clk.time + 2 }] ∧
      t.fld (R.DEC_OLT_LOOKUPS b) Fd.DEC_OLT_LOOKUPS_COUNT =
        (s.fld (R.DEC_OLT_LOOKUPS b) Fd.DEC_OLT_LOOKUPS_COUNT + 1) % 2 ^ 32) ∧
  (∀ (b : Fin 8) (s : State), s.powered = true → (s.clk.time % 8 ≠ b ∨
    NMap.get (fun _ => 0) s.dec.slotUsed b = s.clk.time + 1 ∨
    (∀ n < 256, (s.tag b n).st = .ready → s.clk.time ≤ (s.tag b n).readyTick)) → exec (.oltLookup b) s = .next s) ∧
  (∀ (b : Fin 8) (a : OltAct) (s : State), s.powered = true →
    (s.dec.acts.find? fun a => a.bench == b.val && decide (a.due ≤ s.clk.time)) = some a →
    Completes (.oltAction b) s fun t => t.dec.acts = s.dec.acts.erase a ∧
      (∀ l : Fin 32, ∀ x ∈ (t.lane b l).branches, x.onTag a.tag = true → x.settled.isSome = true) ∧
      (∀ l : Fin 32, ∀ x ∈ (s.lane b l).branches, x.onTag a.tag = true → x.settled = none →
        ∃ y ∈ (t.lane b l).branches, y.ser = x.ser ∧ y.settled = some (a.due + 3, a.act % 16)) ∧
      (bitAt a.act 11 = true → t.flag (R.BENCH_EVENTS b) Fd.BENCH_EVENTS_POISON = true)) ∧
  (∀ (b : Fin 8) (s : State), s.powered = true →
    (∀ a ∈ s.dec.acts, a.bench = b.val → s.clk.time < a.due) → exec (.oltAction b) s = .next s) ∧
  (∀ (p : Fin 14) (c : CrierCell) (s : State), s.powered = true → s.clk.time % 24 = 0 → s.mode ≠ .trim →
    s.mode ≠ .service → s.portUsed p = true → (s.port p).running = true → (s.port p).sent ≠ s.clk.time + 1 →
    c = (s.portCell p).2 → Completes .crierPairSend s fun t => t.dec.mirror = s.dec.mirror ∧
      (t.port p).sent = s.clk.time + 1 ∧
      .cell p false { c with seq := s.clk.time / 12 % 32 }.word ∈ t.outbox ∧
      .cell p true { c with seq := s.clk.time / 12 % 32 + 1 }.word ∈ t.outbox ∧
      ((s.port p).up = true → (s.fillSlots p (List.range 7) (s.port p) []).2 ≠ [] → c.control = false ∧
        ∀ u ∈ (s.fillSlots p (List.range 7) (s.port p) []).2, bitAt c.v u.1 = true ∧
          c.slots.getD u.1 (0, false) = u.2)) ∧
  (∀ (p : Fin 14) (c : CrierCell) (s : State), s.powered = true → s.clk.time % 12 = 0 →
    (s.mode = .trim ∨ s.mode = .service) → s.portUsed p = true → (s.port p).running = true →
    (s.port p).sent ≠ s.clk.time + 1 → c = (s.portCell p).2 → Completes .crierPairSend s fun t =>
      (t.port p).sent = s.clk.time + 1 ∧
      .cell p (s.clk.time / 12 % 2 == 1) { c with seq := s.clk.time / 12 % 32 }.word ∈ t.outbox) ∧
  (∀ s : State, s.powered = true →
    s.clk.time % (if s.mode == .trim || s.mode == .service then 12 else 24) ≠ 0 →
    exec .crierPairSend s = .next s) ∧
  (∀ (p : Fin 14) (w : BitVec 128) (c : CrierCell) (i : Nat) (v : Bool) (s : State), s.powered = true →
    s.portUsed p = true → (s.port p).running = true → (s.port p).up = true → s.mode ≠ .trim → s.mode ≠ .service →
    cellGood w.toNat = true → c = cellOf w.toNat → c.control = false → s.cellRight p c = true →
    c.updates = [(i, v)] → Completes (.crierCellReceive p ⟨false, some w⟩) s fun t =>
      (t.port p).even = some true ∧ (t.port p).bad = 0 ∧ (t.port p).good = (s.port p).good + 1 ∧
      (s.accepts p c.src i = true → t.gds i = v ∧ ∀ k, k ≠ i → t.gds k = s.gds k) ∧
      (s.accepts p c.src i = false → t.dec.mirror = s.dec.mirror ∧
        t.flag (R.DEC_CRIER_STATUS p) Fd.DEC_CRIER_STATUS_OWN_ERR = true)) ∧
  (∀ (p : Fin 14) (w : BitVec 128) (c : CrierCell) (i : Nat) (v : Bool) (s : State), s.powered = true →
    s.portUsed p = true → (s.port p).running = true → (s.port p).up = true → s.mode ≠ .trim → s.mode ≠ .service →
    cellGood w.toNat = true → c = cellOf w.toNat → c.control = true → c.kind = 1 → s.cellRight p c = true →
    c.slots = List.replicate 7 (i, v) → s.accepts p c.src i = true →
    Completes (.crierCellReceive p ⟨false, some w⟩) s fun t => t.gds i = v ∧ ∀ k, k ≠ i → t.gds k = s.gds k) ∧
  (∀ (p : Fin 14) (odd : Bool) (w : BitVec 128) (s : State), s.powered = true → s.portUsed p = true →
    (s.port p).running = true → cellGood w.toNat = true → s.cellRight p (cellOf w.toNat) = false →
    Completes (.crierCellReceive p ⟨odd, some w⟩) s fun t => t.dec.mirror = s.dec.mirror ∧
      t.flag (R.DEC_CRIER_STATUS p) Fd.DEC_CRIER_STATUS_CABLE = true) ∧
  (∀ (p : Fin 14) (w : BitVec 128) (c : CrierCell) (i : Nat) (v : Bool) (s : State), s.powered = true →
    s.portUsed p = true → (s.port p).running = true → (s.port p).up = true → s.mode ≠ .trim → s.mode ≠ .service →
    (s.port p).even ≠ some true → cellGood w.toNat = true → c = cellOf w.toNat → c.control = false →
    s.cellRight p c = true → c.updates = [(i, v)] → s.accepts p c.src i = true →
    Completes (.crierCellReceive p ⟨true, some w⟩) s fun t => t.gds i = v ∧
      t.fld (R.DEC_CRIER_CNT_A p) Fd.DEC_CRIER_CNT_A_COPY_USED =
        min (s.fld (R.DEC_CRIER_CNT_A p) Fd.DEC_CRIER_CNT_A_COPY_USED + 1) 65535) ∧
  (∀ (p : Fin 14) (w : Option (BitVec 128)) (s : State), s.powered = true → (s.port p).up = true → s.mode ≠ .trim →
    s.mode ≠ .service → (s.port p).even = some true → Completes (.crierCellReceive p ⟨true, w⟩) s fun t =>
      t.dec.mirror = s.dec.mirror) ∧
  (∀ (p : Fin 14) (odd : Bool) (w : Option (BitVec 128)) (s : State), s.powered = true → s.portUsed p = true →
    (s.port p).running = true → (s.port p).up = true → (∀ x, w = some x → cellGood x.toNat = false) →
    Completes (.crierCellReceive p ⟨odd, w⟩) s fun t =>
      t.dec.mirror = s.dec.mirror ∧ (t.port p).bad = (s.port p).bad + 1 ∧ (t.port p).good = 0 ∧
      t.fld (R.DEC_CRIER_CNT_A p) Fd.DEC_CRIER_CNT_A_CRC_ERR =
        min (s.fld (R.DEC_CRIER_CNT_A p) Fd.DEC_CRIER_CNT_A_CRC_ERR + 1) 65535 ∧
      (odd = true → s.mode ≠ .trim → s.mode ≠ .service → (s.port p).even ≠ some true →
        t.fld (R.DEC_CRIER_CNT_B p) Fd.DEC_CRIER_CNT_B_LOST_PAIR =
          min (s.fld (R.DEC_CRIER_CNT_B p) Fd.DEC_CRIER_CNT_B_LOST_PAIR + 1) 65535)) ∧
  (∀ (p : Fin 14) (odd : Bool) (w : Option (BitVec 128)) (s : State), s.powered = true →
    (s.portUsed p = false ∨ (s.port p).running = false) → exec (.crierCellReceive p ⟨odd, w⟩) s = .next s) ∧
  (∀ (p : Fin 14) (s : State), s.powered = true → s.portUsed p = true → (s.port p).running = true →
    (s.port p).up = false → 32 ≤ (s.port p).good → Completes (.linkUp p) s fun t =>
      t.port p = { s.port p with up := true, even := none } ∧ t.ap = s.ap) ∧
  (∀ (p : Fin 14) (s : State), s.powered = true → (s.port p).up = true → 16 ≤ (s.port p).bad →
    Completes (.linkDown p) s fun t => t.port p = { s.port p with up := false, even := none } ∧
      t.flag (R.DEC_CRIER_STATUS p) Fd.DEC_CRIER_STATUS_LINK_DOWN = true ∧
      t.flag R.DEC_FLAGS Fd.DEC_FLAGS_LINK_DOWN = true) ∧
  (∀ (p : Fin 14) (s : State), s.powered = true →
    (((s.port p).up = true ∨ (s.port p).good < 32) → exec (.linkUp p) s = .next s) ∧
    (((s.port p).up = false ∨ (s.port p).bad < 16) → exec (.linkDown p) s = .next s))

/-- R279, R280, R283, R284, R314. -/
def Obligations.ForemanBranches : Prop :=
  (∀ (b : Fin 8) (w : Nat) (s n : State), s.powered = true → s.fmDue b 0 = some w → s.fmNow b = n → mwBrs w = 1 →
    Completes (.jump b) s fun t => ((n.fm b).lastField 0 → (t.fm b).pc = mwNxt w ∧ (t.fm b).cyc = (n.fm b).cyc + 2 ∧
      (∀ x, t.microword b (mwNxt w) = some x → (t.fm b).word = x ∧ (mwWsel x = 0 → mwQueued x = false →
        (t.fm b).st = .run ∧ (∀ i < 8, (t.fm b).ureg i = t.fmU b i) ∧ (∀ i < 4, (t.fm b).creg i = t.fmC b i) ∧
        (t.fm b).sbase = (t.fm b).base ∧ (t.fm b).cond = t.condGroup b (mwCsel x) ((n.fm b).cyc + 2))) ∧
      (t.microword b (mwNxt w) = none → (t.fm b).fault = 7))) ∧
  (∀ (b : Fin 8) (w : Nat) (s n : State), s.powered = true → s.fmDue b 0 = some w → s.fmNow b = n → mwBrs w = 2 →
    Completes (.mw2 b) s fun t => (n.fm b).lastField 0 → (t.fm b).pc = mwNxt w ||| (n.fm b).cond % 2) ∧
  (∀ (b : Fin 8) (w : Nat) (s n : State), s.powered = true → s.fmDue b 0 = some w → s.fmNow b = n → mwBrs w = 3 →
    Completes (.mw4 b) s fun t => (n.fm b).lastField 0 → (t.fm b).pc = mwNxt w ||| (n.fm b).cond % 4) ∧
  (∀ (b : Fin 8) (w : Nat) (s n : State), s.powered = true → s.fmDue b 0 = some w → s.fmNow b = n → mwBrs w = 4 →
    Completes (.mw8 b) s fun t => (n.fm b).lastField 0 → (t.fm b).pc = mwNxt w ||| (n.fm b).cond % 8) ∧
  (∀ (b : Fin 8) (w : Nat) (s n : State), s.powered = true → s.fmDue b 0 = some w → s.fmNow b = n → mwBrs w = 5 →
    Completes (.mw16 b) s fun t => (n.fm b).lastField 0 → (t.fm b).pc = mwNxt w ||| (n.fm b).cond % 16) ∧
  (∀ (b : Fin 8) (w : Nat) (x : FmFrame) (rest : List FmFrame) (s n : State), s.powered = true →
    s.fmDue b 0 = some w → s.fmNow b = n → mwBrs w = 8 → (n.fm b).frames = x :: rest → Completes (.tret b) s fun t =>
      (n.fm b).lastField 0 → (t.fm b).st = .trap ∧ (t.fm b).frames = rest ∧ (t.fm b).stack = x.stack ∧
        (t.fm b).flags = x.flags ∧ (t.fm b).cyc = (n.fm b).cyc + 6 ∧
        (t.fm b).pc = (if x.sync then mwNxt w else x.pc) ∧
        (∀ i < 8, t.fmU b i = if bitAt (mwDsel w) i then n.fmU b i else x.u.getD i 0 % 2 ^ 32) ∧
        ∀ i < 4, t.fmC b i = if bitAt (mwDsel w) (8 + i) then n.fmC b i else x.c.getD i 0 % 2 ^ 24) ∧
  (∀ (b : Fin 8) (w : Nat) (s n : State), s.powered = true → s.fmDue b 0 = some w → s.fmNow b = n → mwBrs w = 8 →
    (n.fm b).frames = [] → Completes (.tret b) s fun t => (t.fm b).fault = 5 ∧ (t.fm b).stack = (n.fm b).stack) ∧
  (∀ (b : Fin 8) (w : Nat) (s n : State), s.powered = true → s.fmDue b 0 = some w → s.fmNow b = n → mwBrs w = 9 →
    Completes (.foremanEnd b) s fun t => (n.fm b).lastField 0 → (t.fm b).st = .done) ∧
  (∀ (b : Fin 8) (k w : Nat) (c : Instr) (s n : State), s.powered = true → s.fmDue b 0 = some w → s.fmNow b = n →
    mwBrs w = k → (k = 1 ∧ c = .jump b ∨ k = 2 ∧ c = .mw2 b ∨ k = 3 ∧ c = .mw4 b ∨ k = 4 ∧ c = .mw8 b ∨
      k = 5 ∧ c = .mw16 b ∨ k = 8 ∧ c = .tret b ∧ (n.fm b).frames ≠ [] ∨ k = 9 ∧ c = .foremanEnd b) →
    setBit (n.fm b).done 0 ≠ mwNeed w → exec c s = .next (n.onFm b fun f => f.performed 0)) ∧
  (∀ (b : Fin 8) (k w : Nat) (c : Instr) (s n : State), s.powered = true → s.fmDue b 0 = some w → s.fmNow b = n →
    mwBrs w = k → (k, c) ∈ [(1, .jump b), (2, .mw2 b), (3, .mw4 b), (4, .mw8 b), (5, .mw16 b)] →
      setBit (n.fm b).done 0 = mwNeed w → (n.fm b).fault = 0 → (n.fm b).halt = none →
    (n.fm b).shotIssued = false → (n.fm b).stopReq = true → (n.fm b).region = none →
    Completes c s fun t => (t.fm b).st = .off ∧ (t.fm b).pc = (n.fm b).pc ∧ (t.fm b).trapPend = 0) ∧
  (∀ (b : Fin 8) (k : Nat) (c : Instr) (s : State), s.powered = true →
    (k, c) ∈ [(1, .jump b), (2, .mw2 b), (3, .mw4 b), (4, .mw8 b), (5, .mw16 b), (8, .tret b), (9, .foremanEnd b)] →
      (∀ w ∈ s.fmDue b 0, mwBrs w ≠ k) →
    exec c s = .next (s.fmNow b)) ∧
  (∀ (b : Fin 8) (w : Nat) (s : State), s.fmRuns b = true → (s.fm b).st = .run → (s.fm b).fault = 0 →
    (s.fm b).halt = none → (s.fm b).shotIssued = false → (s.fm b).stopReq = false → (s.fm b).word = w →
    mwNeed w = 0 → (s.fm b).cyc + 2 ≤ s.clk.time → s.clk.time < (s.fm b).cyc + 4 →
    ((s.fmNow b).fm b).pc = ((s.fm b).pc + 1) % 32768 ∧ ((s.fmNow b).fm b).cyc = (s.fm b).cyc + 2)

/-- R286. -/
def Obligations.ForemanCallStack : Prop :=
  (∀ (b : Fin 8) (w : Nat) (s n : State), s.powered = true → s.fmDue b 0 = some w → s.fmNow b = n → mwBrs w = 6 →
    (n.fm b).stack.length < 8 → Completes (.foremanCall b) s fun t =>
      (setBit (n.fm b).done 0 ≠ mwNeed w → t = n.onFm b fun f => { f.performed 0 with
        stack := (f.pc + 1) % 32768 :: f.stack }) ∧
      ((n.fm b).lastField 0 → (t.fm b).pc = mwNxt w ∧
        (t.fm b).stack = ((n.fm b).pc + 1) % 32768 :: (n.fm b).stack ∧ (t.fm b).stack.length ≤ 8)) ∧
  (∀ (b : Fin 8) (w : Nat) (s n : State), s.powered = true → s.fmDue b 0 = some w → s.fmNow b = n → mwBrs w = 6 →
    (n.fm b).stack.length = 8 → Completes (.foremanCall b) s fun t => (t.fm b).fault = 3 ∧
      (t.fm b).stack = (n.fm b).stack) ∧
  (∀ (b : Fin 8) (w a : Nat) (rest : List Nat) (s n : State), s.powered = true → s.fmDue b 0 = some w →
    s.fmNow b = n → mwBrs w = 7 → (n.fm b).stack = a :: rest → Completes (.foremanRet b) s fun t =>
      (n.fm b).lastField 0 → (t.fm b).pc = a ∧ (t.fm b).stack = rest) ∧
  (∀ (b : Fin 8) (w : Nat) (s n : State), s.powered = true → s.fmDue b 0 = some w → s.fmNow b = n → mwBrs w = 7 →
    (n.fm b).stack = [] → Completes (.foremanRet b) s fun t => (t.fm b).fault = 4) ∧
  (∀ (b : Fin 8) (s n : State), s.powered = true → s.fmNow b = n → n.fmRuns b = true → (n.fm b).st = .run →
    (n.fm b).done = 0 → ((n.fm b).fault = 3 ∨ (n.fm b).fault = 4) → (n.fm b).cyc ≤ s.clk.time →
    Completes (.syncFault b false) s fun t => t.fld (R.FM_FAULT b) Fd.FM_FAULT_CAUSE = (n.fm b).fault ∧
      t.flag (R.FM_FLAGS b) Fd.FM_FLAGS_ILLEGAL = true) ∧
  (∀ (b : Fin 8) (s : State), s.powered = true →
    ((∀ w ∈ s.fmDue b 0, mwBrs w ≠ 6) → exec (.foremanCall b) s = .next (s.fmNow b)) ∧
    ((∀ w ∈ s.fmDue b 0, mwBrs w ≠ 7) → exec (.foremanRet b) s = .next (s.fmNow b)))

/-- R290 to R295, R297, R306. -/
def Obligations.ForemanStrobes : Prop :=
  (∀ (b : Fin 8) (w : Nat) (s n : State), s.powered = true → s.fmDue b 1 = some w → s.fmNow b = n → mwOp w = 1 →
    Completes (.lopStart b) s fun t =>
      (∀ l : Fin 32, bitAt (n.fm b).mask l = true → t.lane b l = { s.lane b l with
        strobes := (s.lane b l).strobes ++
          [{ kind := .start, arrive := (n.fm b).cyc + 6, s := ((n.fm b).sbase + mwToff w) % 2 ^ 64 }] }) ∧
      (∀ l : Fin 32, bitAt (n.fm b).mask l = false → t.lane b l = s.lane b l) ∧
      (((n.fm b).sbase + mwToff w) % 2 ^ 64 < (n.fm b).cyc + 136 →
        t.flag (R.FM_FLAGS b) Fd.FM_FLAGS_STROBE_LATE = true) ∧
      ((n.fm b).cyc + 136 ≤ ((n.fm b).sbase + mwToff w) % 2 ^ 64 →
        t.flag (R.FM_FLAGS b) Fd.FM_FLAGS_STROBE_LATE = n.flag (R.FM_FLAGS b) Fd.FM_FLAGS_STROBE_LATE)) ∧
  (∀ (b : Fin 8) (w : Nat) (s n : State), s.powered = true → s.fmDue b 1 = some w → s.fmNow b = n → mwOp w = 2 →
    Completes (.lopSync b) s fun t =>
      (∀ l : Fin 32, bitAt (n.fm b).mask l = true → t.lane b l = { s.lane b l with
        strobes := (s.lane b l).strobes ++
          [{ kind := .sync, arrive := (n.fm b).cyc + 6, s := ((n.fm b).sbase + mwToff w) % 2 ^ 64 }] }) ∧
      (∀ l : Fin 32, bitAt (n.fm b).mask l = false → t.lane b l = s.lane b l) ∧
      (((n.fm b).sbase + mwToff w) % 2 ^ 64 < (n.fm b).cyc + 136 →
        t.flag (R.FM_FLAGS b) Fd.FM_FLAGS_STROBE_LATE = true) ∧
      ((n.fm b).cyc + 136 ≤ ((n.fm b).sbase + mwToff w) % 2 ^ 64 →
        t.flag (R.FM_FLAGS b) Fd.FM_FLAGS_STROBE_LATE = n.flag (R.FM_FLAGS b) Fd.FM_FLAGS_STROBE_LATE)) ∧
  (∀ (b : Fin 8) (w : Nat) (s n : State), s.powered = true → s.fmDue b 1 = some w → s.fmNow b = n → mwOp w = 3 →
    Completes (.lopFlush b) s fun t =>
      (∀ l : Fin 32, bitAt (n.fm b).mask l = true → t.lane b l = { s.lane b l with
        strobes := (s.lane b l).strobes ++
          [{ kind := .flush, arrive := (n.fm b).cyc + 6, s := ((n.fm b).sbase + mwToff w) % 2 ^ 64 }] }) ∧
      (∀ l : Fin 32, bitAt (n.fm b).mask l = false → t.lane b l = s.lane b l) ∧
      t.flag (R.FM_FLAGS b) Fd.FM_FLAGS_STROBE_LATE = n.flag (R.FM_FLAGS b) Fd.FM_FLAGS_STROBE_LATE) ∧
  (∀ (b : Fin 8) (k w : Nat) (c : Instr) (s n : State), s.powered = true → s.fmDue b 1 = some w → s.fmNow b = n →
    mwOp w = k → ((k = 4 ∧ c = .lopAbort b) ∨ (k = 5 ∧ c = .lopPoison b) ∨ (k = 6 ∧ c = .lopStop b) ∨
      (k = 7 ∧ c = .lopShot b)) → Completes c s fun t => t.lanes = s.lanes ∧
      (∃ x, (t.fm b).queue = (n.fm b).queue ++ [x] ∧ x.lop = k ∧ x.mask = (n.fm b).mask ∧ x.evo = mwEvo w ∧
        x.base = (n.fm b).sbase ∧ x.at_ = max (((n.fm b).sbase + mwToff w) % 2 ^ 64) ((n.fm b).cyc + 2)) ∧
      (((n.fm b).sbase + mwToff w) % 2 ^ 64 < (n.fm b).cyc + 2 →
        t.flag (R.FM_FLAGS b) Fd.FM_FLAGS_STROBE_LATE = true) ∧
      (k = 7 → s.hold.isSome = true → (t.fm b).shotIssued = true ∧ ((n.fm b).lastField 1 → mwBrs w ≠ 9 →
        (t.fm b).st = .stopping ∧
        t.fld (R.FM_ENTRY b) Fd.FM_ENTRY_RESUME = (n.fm b).nextAddr % 2 ^ 15))) ∧
  (∀ (b : Fin 8) (e : Sched) (s : State), s.powered = true → (s.fm b).dueEntry s.clk.time = some e → 4 ≤ e.lop →
    e.lop ≤ 6 → Completes (.pointStrobeEffect b) s fun t => (t.fm b).queue = (s.fm b).queue.erase e ∧
      (∀ l : Fin 32, bitAt e.mask l = true → t.lane b l = { s.lane b l with
        strobes := (s.lane b l).strobes ++ [{ kind := pointKind e.lop, arrive := s.clk.time, s := e.at_ }] }) ∧
      (∀ l : Fin 32, bitAt e.mask l = false → t.lane b l = s.lane b l)) ∧
  (∀ (b : Fin 8) (e : Sched) (s : State), s.powered = true → (s.fm b).dueEntry s.clk.time = some e → e.lop = 0 →
    Completes (.pointStrobeEffect b) s fun t => (t.fm b).queue = (s.fm b).queue.erase e ∧ t.lanes = s.lanes ∧
      (s.clk.fabricRuns = true → ∀ k < 8, bitAt e.evo k = true →
        (256 + 8 * b.val + k, s.clk.time / 8) ∈ t.fabric.demand)) ∧
  (∀ (b : Fin 8) (e : Sched) (s : State), s.powered = true → (s.fm b).dueEntry s.clk.time = some e → e.lop = 7 →
    Completes (.shot b) s fun t => (t.fm b).shots = min ((s.fm b).shots + 1) (2 ^ 48 - 1) ∧
      (∀ c < 32, NMap.get (fun _ => 0) (s.fm b).newTick c ≠ s.clk.time → bitAt (t.fm b).newBits c = false) ∧
      (∀ k < 16, NMap.get (fun _ => false) t.dec.oltEv (16 * b.val + k) = false) ∧
      (s.streamOpen (3 * b) 0x21 = true → (t.stream (3 * b.val)).seq = ((s.stream (3 * b.val)).seq + 1) % 2 ^ 32) ∧
      (s.clk.fabricRuns = true → (320 + b.val, s.clk.time / 8) ∈ t.fabric.demand) ∧
      (s.hold = none → (t.fm b).queue = (s.fm b).queue.erase e ∧ (t.fm b).st = (s.fm b).st) ∧
      (s.hold.isSome = true → (s.fm b).st.quiet = false → (t.fm b).st = .held ∧
        (∀ x ∈ (t.fm b).queue, x.at_ ≤ s.clk.time) ∧
        (∀ l : Fin 32, (s.lane b l).st ≠ .ready → (s.lane b l).st ≠ .off →
          { kind := .abort, arrive := s.clk.time, s := s.clk.time } ∈ (t.lane b l).strobes) ∧
        t.fld (R.FM_ENTRY b) Fd.FM_ENTRY_RESUME = if (s.fm b).st = .stopping then
          s.fld (R.FM_ENTRY b) Fd.FM_ENTRY_RESUME else e.nxt % 2 ^ 15)) ∧
  (∀ (b : Fin 8) (k : Nat) (c : Instr) (s : State), s.powered = true →
    (k, c) ∈ [(1, .lopStart b), (2, .lopSync b), (3, .lopFlush b), (4, .lopAbort b), (5, .lopPoison b), (6,
      .lopStop b), (7, .lopShot b)] →
    (∀ w ∈ s.fmDue b 1, mwOp w ≠ k) → exec c s = .next (s.fmNow b)) ∧
  (∀ (b : Fin 8) (s : State), s.powered = true →
    ((∀ e ∈ (s.fm b).dueEntry s.clk.time, e.lop = 7) → exec (.pointStrobeEffect b) s = .next s) ∧
    ((∀ e ∈ (s.fm b).dueEntry s.clk.time, e.lop ≠ 7) → exec (.shot b) s = .next s))

/-- R262, R267, R289, R296, R317. -/
def Obligations.ForemanDecisionOps : Prop :=
  (∀ (b : Fin 8) (k w : Nat) (v : Bool) (c : Instr) (s n : State), s.powered = true → s.fmDue b 2 = some w →
    s.fmNow b = n → mwDop w = k → ((k = 1 ∧ c = .pub0 b ∧ v = false) ∨ (k = 2 ∧ c = .pub1 b ∧ v = true) ∨
      (k = 3 ∧ c = .pubz b ∧ v = decide ((n.fm b).z = 1))) → Completes c s fun t =>
      (s.flag (R.DEC_GDSMAP (mwDsel w)) Fd.DEC_GDSMAP_USED = true →
        s.fld (R.DEC_GDSMAP (mwDsel w)) Fd.DEC_GDSMAP_OWNER = s.host.devid →
        s.fld (R.DEC_GDSMAP (mwDsel w)) Fd.DEC_GDSMAP_KIND = 1 →
        s.fld (R.DEC_GDSMAP (mwDsel w)) Fd.DEC_GDSMAP_BENCH = b →
        t.gds (mwDsel w) = v ∧ ∀ i, i ≠ mwDsel w → t.gds i = s.gds i) ∧
      (s.fld (R.DEC_GDSMAP (mwDsel w)) Fd.DEC_GDSMAP_KIND ≠ 1 → t.dec.mirror = s.dec.mirror ∧
        t.flag R.DEC_FLAGS Fd.DEC_FLAGS_OWN_ERR = true) ∧
      ((n.fm b).logged = false → (t.fm b).elogHead = ((n.fm b).elogHead + 1) % 16 ∧
        (NMap.get (fun _ => {}) (t.fm b).elog (t.fm b).elogHead).addr = (n.fm b).pc ∧
        (NMap.get (fun _ => {}) (t.fm b).elog (t.fm b).elogHead).dop = k ∧
        (NMap.get (fun _ => {}) (t.fm b).elog (t.fm b).elogHead).issue = (n.fm b).cyc + 2)) ∧
  (∀ (b : Fin 8) (w : Nat) (s n : State), s.powered = true → s.fmDue b 2 = some w → s.fmNow b = n → mwDop w = 4 →
    Completes (.dopArm b) s fun t => (t.tag b (n.fm b).tagNo).st = .armed) ∧
  (∀ (b : Fin 8) (w : Nat) (s n : State), s.powered = true → s.fmDue b 2 = some w → s.fmNow b = n → mwDop w = 5 →
    Completes (.dopLookup b) s fun t => ((s.tag b (n.fm b).tagNo).st = .armed →
      (t.tag b (n.fm b).tagNo).st = .ready ∧ (t.tag b (n.fm b).tagNo).readyTick = s.clk.time) ∧
      ((s.tag b (n.fm b).tagNo).st ≠ .armed → t.dec = s.dec)) ∧
  (∀ (b : Fin 8) (w : Nat) (s n : State), s.powered = true → s.fmDue b 2 = some w → s.fmNow b = n → mwDop w = 6 →
    Completes (.clrnew b) s fun t =>
      (∀ c < 32, bitAt ((n.fm b).ureg 4) c = true → NMap.get (fun _ => 0) (n.fm b).newTick c < (n.fm b).cyc + 2 →
        bitAt (t.fm b).newBits c = false) ∧
      (mwWsel w ≠ 2 → mwWsel w ≠ 3 → ∀ c < 32, bitAt ((n.fm b).ureg 4) c = false →
        bitAt (t.fm b).newBits c = bitAt (n.fm b).newBits c)) ∧
  (∀ (b : Fin 8) (w : Nat) (s n : State), s.powered = true → s.fmDue b 2 = some w → s.fmNow b = n → mwDop w = 7 →
    Completes (.dopMark b) s fun t => t.dec = s.dec ∧ (s.streamOpen (3 * b) 0x2B = true →
      (t.stream (3 * b.val)).seq = ((s.stream (3 * b.val)).seq + 1) % 2 ^ 32)) ∧
  (∀ (b : Fin 8) (w : Nat) (s n : State), s.powered = true → s.fmDue b 2 = some w → s.fmNow b = n → mwDop w = 8 →
    Completes (.dopIrq b) s fun t => t.fld (R.FM_TRAP b) Fd.FM_TRAP_IRQ_CODE = mwDsel w % 256 ∧
      t.fbit R.TOP_IRQ_PEND Fd.TOP_IRQ_PEND_BITS (10 + b) = true) ∧
  (∀ (b : Fin 8) (w : Nat) (s n : State), s.powered = true → s.fmDue b 2 = some w → s.fmNow b = n → mwDop w = 9 →
    mwBrs w ≠ 8 → Completes (.ldch b) s fun t => t.fmU b 3 = (n.fm b).ld % 2 ^ 32 ∧
      ∀ i < 8, i ≠ 3 → t.fmU b i = n.fmU b i) ∧
  (∀ (b : Fin 8) (w : Nat) (s n : State) (x : ELog), s.powered = true → s.fmDue b 2 = some w → s.fmNow b = n →
    mwDop w = 10 → mwBrs w ≠ 8 → (n.fm b).elogHead < 16 →
    NMap.get (fun _ => {}) (n.fm b).elog
      (((n.fm b).elogHead + 32 - bit (n.fm b).logged - mwDsel w % 16) % 16) = x →
    Completes (.logrd b) s fun t => t.fmU b 2 = x.mask % 2 ^ 32 ∧ t.fmU b 3 = x.sched % 2 ^ 32) ∧
  (∀ (b : Fin 8) (k : Nat) (c : Instr) (s : State), s.powered = true →
    (k, c) ∈ [(1, .pub0 b), (2, .pub1 b), (3, .pubz b), (4, .dopArm b), (5, .dopLookup b), (6, .clrnew b), (7,
      .dopMark b), (8, .dopIrq b), (9, .ldch b), (10, .logrd b)] →
    (∀ w ∈ s.fmDue b 2, mwDop w ≠ k) → exec c s = .next (s.fmNow b))

/-- R299. -/
def Obligations.ForemanAlu : Prop :=
  (∀ (b : Fin 8) (k w x y r : Nat) (c : Instr) (s n : State), s.powered = true → s.fmDue b 3 = some w →
    s.fmNow b = n → mwAlu w = k → mwBrs w ≠ 8 → (n.fm b).ureg (mwA w) = x → x < 2 ^ 32 → y < 2 ^ 32 →
    (k = 2 ∧ c = .addi b ∧ y = mwImm w ∨ (n.fm b).ureg (mwImm w % 8) = y ∧
      (k = 1 ∧ c = .foremanAdd b ∨ k = 3 ∧ c = .foremanSub b ∨ k = 9 ∧ c = .cmp b)) →
    r = (if k ≤ 2 then x + y else x + 2 ^ 32 - y) % 2 ^ 32 → Completes c s fun t =>
      (k ≠ 9 → t.fmU b (mwD w) = r) ∧ (∀ i < 8, (i ≠ mwD w ∨ k = 9) → t.fmU b i = n.fmU b i) ∧
      (bitAt (t.fm b).flags 0 = true ↔ r = 0) ∧ (bitAt (t.fm b).flags 1 = true ↔ 2 ^ 31 ≤ r) ∧
      (bitAt (t.fm b).flags 2 = true ↔ if k ≤ 2 then 2 ^ 32 ≤ x + y else y ≤ x) ∧
      (bitAt (t.fm b).flags 3 = true ↔ (BitVec.ofNat 32 r).toInt ≠ if k ≤ 2 then
        (BitVec.ofNat 32 x).toInt + (BitVec.ofNat 32 y).toInt
        else (BitVec.ofNat 32 x).toInt - (BitVec.ofNat 32 y).toInt)) ∧
  (∀ (b : Fin 8) (k w x y r : Nat) (c : Instr) (s n : State), s.powered = true → s.fmDue b 3 = some w →
    s.fmNow b = n → mwAlu w = k → mwBrs w ≠ 8 → (n.fm b).ureg (mwA w) = x → x < 2 ^ 32 →
    (n.fm b).ureg (mwImm w % 8) = y → (k = 4 ∧ c = .and_ b ∧ r = x &&& y ∨ k = 5 ∧ c = .or_ b ∧ r = x ||| y ∨
      k = 6 ∧ c = .xor_ b ∧ r = x ^^^ y ∨ k = 7 ∧ c = .foremanShl b ∧ r = x <<< mwImm w ∨
      k = 8 ∧ c = .foremanShr b ∧ r = x >>> mwImm w) → Completes c s fun t =>
      t.fmU b (mwD w) = r % 2 ^ 32 ∧ (∀ i < 8, i ≠ mwD w → t.fmU b i = n.fmU b i) ∧
      (bitAt (t.fm b).flags 0 = true ↔ r % 2 ^ 32 = 0) ∧ (bitAt (t.fm b).flags 1 = true ↔ 2 ^ 31 ≤ r % 2 ^ 32)) ∧
  (∀ (b : Fin 8) (k w v : Nat) (c : Instr) (s n : State), s.powered = true → s.fmDue b 3 = some w →
    s.fmNow b = n → mwAlu w = k → mwBrs w ≠ 8 → (k = 10 ∧ c = .movc b ∧ v = (n.fm b).creg (mwImm w % 4) ∨
      k = 11 ∧ c = .mbx b ∧ v = (n.fm b).mbox.getD (mwImm w % 4) 0) → Completes c s fun t =>
      t.fmU b (mwD w) = v % 2 ^ 32 ∧ (∀ i < 8, i ≠ mwD w → t.fmU b i = n.fmU b i) ∧
      (t.fm b).flags = (n.fm b).flags) ∧
  (∀ (b : Fin 8) (k w v : Nat) (c : Instr) (s n : State), s.powered = true → s.fmDue b 3 = some w →
    s.fmNow b = n → mwAlu w = k → mwBrs w ≠ 8 → (k = 12 ∧ c = .badd b ∧ v = (n.fm b).sbase ∨
      k = 13 ∧ c = .bev b ∧ v = (n.fm b).tw ∨ k = 14 ∧ c = .bnow b ∧ v = (n.fm b).cyc + 2) → Completes c s fun t =>
      (t.fm b).base = (v + (n.fm b).ureg (mwA w)) % 2 ^ 64 ∧ (∀ i < 8, t.fmU b i = n.fmU b i) ∧
      (t.fm b).flags = (n.fm b).flags) ∧
  (∀ (b : Fin 8) (k : Nat) (c : Instr) (s : State), s.powered = true →
    (k, c) ∈ [(1, .foremanAdd b), (2, .addi b), (3, .foremanSub b), (4, .and_ b), (5, .or_ b), (6, .xor_ b), (7,
      .foremanShl b), (8, .foremanShr b), (9, .cmp b), (10, .movc b), (11, .mbx b), (12, .badd b), (13, .bev b), (14,
      .bnow b)] →
    (∀ w ∈ s.fmDue b 3, mwAlu w ≠ k) → exec c s = .next (s.fmNow b))

/-- R298, R315. -/
def Obligations.ForemanCountersAndRegions : Prop :=
  (∀ (b : Fin 8) (i : Fin 4) (w : Nat) (s n : State), s.powered = true → s.fmDue b (4 + i) = some w →
    s.fmNow b = n → mwCnt w i = 1 → mwBrs w ≠ 8 → (n.fm b).creg i < 2 ^ 24 → Completes (.cntDecrement b i) s fun t =>
      t.fmC b i = (if (n.fm b).creg i = 0 then 0 else (n.fm b).creg i - 1) ∧
      ∀ j : Fin 4, j ≠ i → t.fmC b j = n.fmC b j) ∧
  (∀ (b : Fin 8) (i : Fin 4) (w : Nat) (s n : State), s.powered = true → s.fmDue b (4 + i) = some w →
    s.fmNow b = n → mwCnt w i = 2 → mwBrs w ≠ 8 → Completes (.cntReload b i) s fun t =>
      t.fmC b i = s.fld (R.FM_CRLD b i) Fd.FM_CRLD_VALUE ∧ ∀ j : Fin 4, j ≠ i → t.fmC b j = n.fmC b j) ∧
  (∀ (b : Fin 8) (i : Fin 4) (w : Nat) (s n : State), s.powered = true → s.fmDue b (4 + i) = some w →
    s.fmNow b = n → mwCnt w i = 3 → mwBrs w ≠ 8 → Completes (.cntIncrement b i) s fun t =>
      t.fmC b i = ((n.fm b).creg i + 1) % 2 ^ 24 ∧ ∀ j : Fin 4, j ≠ i → t.fmC b j = n.fmC b j) ∧
  (∀ (b : Fin 8) (w : Nat) (s n : State), s.powered = true → s.fmDue b 8 = some w → s.fmNow b = n → mwTrg w = 1 →
    Completes (.trgBegin b) s fun t =>
      ((n.fm b).region = none → (t.fm b).region = some ((n.fm b).cyc + mwDsel w + 1)) ∧
      ((n.fm b).region.isSome = true → (t.fm b).fault = 6)) ∧
  (∀ (b : Fin 8) (w : Nat) (s n : State), s.powered = true → s.fmDue b 8 = some w → s.fmNow b = n → mwTrg w = 2 →
    Completes (.trgEnd b) s fun t => (t.fm b).region = none ∧ ((n.fm b).region = none → (t.fm b).fault = 6)) ∧
  (∀ (b : Fin 8) (e : Nat) (s n : State), s.powered = true → s.fmNow b = n → n.fmRuns b = true →
    (n.fm b).fault = 0 → (n.fm b).region = some e → e + e % 2 ≤ s.clk.time → Completes (.timedOverrun b) s fun t =>
      (t.fm b).fault = 2 ∧ t.ap = n.ap ∧ t.lanes = s.lanes) ∧
  (∀ (b : Fin 8) (i : Fin 4) (k : Nat) (c : Instr) (s : State), s.powered = true →
    (((k = 1 ∧ c = .cntDecrement b i ∨ k = 2 ∧ c = .cntReload b i ∨ k = 3 ∧ c = .cntIncrement b i) ∧
      ∀ w ∈ s.fmDue b (4 + i), mwCnt w i ≠ k) ∨
     ((k = 1 ∧ c = .trgBegin b ∨ k = 2 ∧ c = .trgEnd b) ∧ ∀ w ∈ s.fmDue b 8, mwTrg w ≠ k)) →
    exec c s = .next (s.fmNow b)) ∧
  (∀ (b : Fin 8) (s n : State), s.powered = true → s.fmNow b = n →
    ((n.fm b).region = none ∨ (n.fm b).fault ≠ 0 ∨ ∀ e ∈ (n.fm b).region, s.clk.time < e) →
    exec (.timedOverrun b) s = .next n)

/-- R287, R288, R289, R293, R299, R304, R307. -/
def Obligations.ForemanWaiting : Prop :=
  (∀ (b : Fin 8) (e : Nat) (s : State), s.powered = true → s.fmRuns b = true → (s.fm b).st = .start →
    (s.fm b).startE = e + 1 → (e / 2 + 1) * 2 ≤ s.clk.time → Completes (.foremanStartCondition b) s fun t =>
      (t.fm b).cyc = (e / 2 + 1) * 2 ∧ e < (t.fm b).cyc ∧ (t.fm b).cyc ≤ e + 2 ∧ (t.fm b).pc = (s.fm b).pc ∧
      (t.fm b).st ≠ .start ∧ t.ap = s.ap ∧ (t.fm b).base = if (s.fm b).startKind = 0 then (s.fm b).startVal
        else (e + (s.fm b).startVal % 2 ^ 32) % 2 ^ 64) ∧
  (∀ (b : Fin 8) (c x k w : Nat) (f : Fm) (s n : State), s.powered = true → s.fmNow b = n → n.fmWaits b = true →
    n.fmBoundary b = c → c ≤ s.clk.time → n.fm b = f → f.word = w → mwDsel w = k →
    (mwWsel w = 1 ∧ (f.base + mwToff w) % 2 ^ 64 = x ∧ x ≤ c + 2 ∨
     mwWsel w = 2 ∧ bitAt f.newBits (k % 32) = true ∧ NMap.get (fun _ => 0) f.newTick (k % 32) = x ∧ x < c ∨
     mwWsel w = 3 ∧ x < c ∧ (∃ i < 32, bitAt (n.fmU b 4) i = true ∧ NMap.get (fun _ => 0) f.newTick i = x) ∧
      (∀ i < 32, bitAt (n.fmU b 4) i = true → bitAt f.newBits i = true ∧ NMap.get (fun _ => 0) f.newTick i ≤ x) ∨
     mwWsel w = 4 ∧ (n.tag b (if bitAt k 11 then n.fmU b 7 % 256 else k % 256)).st = .done ∧
      (n.tag b (if bitAt k 11 then n.fmU b 7 % 256 else k % 256)).actTick = x ∧ x < c ∨
     mwWsel w = 5 ∧ seenTick c (NMap.get (fun _ => []) n.dec.pubs k) = some x ∧ f.waitFrom ≤ x) →
    Completes (.waitComplete b) s fun t => (t.fm b).tw = x ∧ (t.fm b).cyc = c ∧ (t.fm b).pc = f.pc ∧
      (t.fm b).st = (if (t.fm b).mustHold c then .wait else .run) ∧ t.ap = n.ap) ∧
  (∀ (b : Fin 8) (c x k w m : Nat) (f : Fm) (s n : State), s.powered = true → s.fmNow b = n → n.fmWaits b = true →
    n.fmBoundary b = c → c ≤ s.clk.time → n.fm b = f → f.word = w → mwDsel w = k →
    m = (if bitAt (mwLop w) 3 then n.fmU b 5 else mwLstr w) →
    (mwWsel w = 6 ∧ n.gdsSeen k = true ∧ seenTick c (NMap.get (fun _ => []) n.dec.mirrorSet k) = some x ∨
     mwWsel w = 7 ∧ n.gdsSeen k = false ∧ seenTick c (NMap.get (fun _ => []) n.dec.mirrorSet k) = some x ∨
     mwWsel w = 8 ∧ bitAt f.evLatch (k % 8) = true ∧ NMap.get (fun _ => 0) f.evTick (k % 8) = x ∧ x < c ∨
     (mwWsel w = 9 ∨ mwWsel w = 10) ∧ x < c ∧ (∃ l < 32, bitAt m l = true ∧ (n.lane b l).since = x) ∧
      (∀ l < 32, bitAt m l = true → (n.lane b l).st = (if mwWsel w = 9 then .ready else .sync) ∧
        (n.lane b l).since ≤ x) ∨
     mwWsel w = 11 ∧ bitAt f.trapPend (4 + k % 4) = true ∧ NMap.get (fun _ => 0) f.trapTick (4 + k % 4) = x ∧ x < c) →
    Completes (.waitComplete b) s fun t => (t.fm b).tw = x ∧ (t.fm b).cyc = c ∧ (t.fm b).pc = f.pc ∧
      (t.fm b).st = (if (t.fm b).mustHold c then .wait else .run) ∧ t.ap = n.ap) ∧
  (∀ (b : Fin 8) (w : Nat) (s n : State), s.powered = true → s.fmDue b 0 = some w → s.fmNow b = n → mwBrs w = 1 →
    (n.fm b).lastField 0 → Completes (.jump b) s fun t =>
      (mwWsel w = 2 → NMap.get (fun _ => 0) (n.fm b).newTick (mwDsel w % 32) < (n.fm b).cyc + 2 →
        bitAt (t.fm b).newBits (mwDsel w % 32) = false) ∧
      (mwWsel w = 3 → ∀ c < 32, bitAt ((n.fm b).ureg 4) c = true →
        NMap.get (fun _ => 0) (n.fm b).newTick c < (n.fm b).cyc + 2 → bitAt (t.fm b).newBits c = false) ∧
      (mwWsel w = 8 → bitAt (t.fm b).evLatch (mwDsel w % 8) = false) ∧
      (mwWsel w = 11 → bitAt (t.fm b).trapPend (4 + mwDsel w % 4) = false)) ∧
  (∀ (b : Fin 8) (s n : State), s.powered = true → s.fmNow b = n →
    (n.fmMet b (n.fmBoundary b) = none ∨ n.fmWaits b = false ∨ s.clk.time < n.fmBoundary b) →
    exec (.waitComplete b) s = .next n) ∧
  (∀ (b : Fin 8) (c : Nat) (s n : State), s.powered = true → s.fmNow b = n → n.fmWaits b = true →
    alignUp ((n.fm b).cyc + (s.fld (R.FM_TO b (mwWto (n.fm b).word)) Fd.FM_TO_TICKS - (n.fm b).waited)) 2 = c →
    c ≤ s.clk.time → n.fmMet b c = none → (n.fm b).stopReq = false → Completes (.waitTimeout b) s fun t =>
      (t.fm b).pc = (mwNxt (n.fm b).word + 1) % 32768 ∧ (t.fm b).cyc = c ∧ (t.fm b).queue = (n.fm b).queue ∧
      t.lanes = s.lanes ∧ t.flag (R.FM_FLAGS b) Fd.FM_FLAGS_VOID = true ∧
      t.flag (R.BENCH_EVENTS b) Fd.BENCH_EVENTS_VOID = true) ∧
  (∀ (b : Fin 8) (c : Nat) (s n : State), s.powered = true → s.fmNow b = n → n.fmWaits b = true →
    alignUp ((n.fm b).cyc + (s.fld (R.FM_TO b (mwWto (n.fm b).word)) Fd.FM_TO_TICKS - (n.fm b).waited)) 2 = c →
    c ≤ s.clk.time → n.fmMet b c = none → (n.fm b).stopReq = true → (n.fm b).region = none →
    Completes (.waitTimeout b) s fun t => (t.fm b).st = .off ∧ (t.fm b).queue = (n.fm b).queue ∧
      t.flag (R.FM_FLAGS b) Fd.FM_FLAGS_VOID = true) ∧
  (∀ (b : Fin 8) (c : Nat) (s n : State), s.powered = true → s.fmNow b = n →
    alignUp ((n.fm b).cyc + (s.fld (R.FM_TO b (mwWto (n.fm b).word)) Fd.FM_TO_TICKS - (n.fm b).waited)) 2 = c →
    (n.fmWaits b = false ∨ s.clk.time < c ∨ (n.fmMet b c).isSome = true) → exec (.waitTimeout b) s = .next n) ∧
  (∀ (b : Fin 8) (c : Nat) (s n : State), s.powered = true → s.fmNow b = n → n.fmBoundary b = c → c ≤ s.clk.time →
    n.fmRuns b = true → (n.fm b).st = .wait → (n.fm b).holding = true → (n.fm b).fault = 0 →
    (n.fm b).sbase = (n.fm b).base → romAtU1 (n.fm b).pc = false → (n.fm b).queue.length < 16 →
    (n.fm b).sched ≤ c + 2 + 65536 →
    Completes (.holdRelease b) s fun t => (t.fm b).st = .run ∧ (t.fm b).holding = false ∧ (t.fm b).cyc = c ∧
      (t.fm b).pc = (n.fm b).pc ∧ t.ap = n.ap) ∧
  (∀ (b : Fin 8) (s n : State), s.powered = true → s.fmNow b = n →
    ((n.fm b).holding = false ∨ (n.fm b).mustHold (n.fmBoundary b) = true ∨ s.clk.time < n.fmBoundary b) →
    exec (.holdRelease b) s = .next n)

/-- R282, R297, R310 to R313, R316. -/
def Obligations.ForemanTraps : Prop :=
  (∀ (b : Fin 8) (m : BitVec 4) (s : State), s.powered = true → Completes (.doorbell b m) s fun t => t.ap = s.ap ∧
    (∀ k < 4, bitAt (t.fm b).trapPend (4 + k) = (bitAt m.toNat k || bitAt (s.fm b).trapPend (4 + k))) ∧
    ∀ c : Fin 8, c ≠ b → t.fm c = s.fm c) ∧
  (∀ (b : Fin 8) (v : Nat) (s n : State), s.powered = true → s.fmNow b = n → n.fmRuns b = true → (n.fm b).st = .run →
    (n.fm b).done = 0 → (n.fm b).fault = 0 → (n.fm b).region = none → (n.fm b).frames = [] →
    (n.fm b).cyc ≤ s.clk.time → v < 16 → bitAt (n.fm b).trapPend v = true → n.vecOn b v = true →
    NMap.get (fun _ => 0) (n.fm b).trapTick v + 4 ≤ (n.fm b).cyc → (∀ u < v, bitAt (n.fm b).trapPend u = true →
      n.vecOn b u = true → (n.fm b).cyc < NMap.get (fun _ => 0) (n.fm b).trapTick u + 4) →
    Completes (.foremanTrap b) s fun t => (t.fm b).st = .trap ∧ (t.fm b).cyc = (n.fm b).cyc + 4 ∧
      (t.fm b).pc = s.fld (R.FM_TVEC b v) Fd.FM_TVEC_ADDR ∧ (t.fm b).stack = [] ∧
      bitAt (t.fm b).trapPend v = false ∧ (∀ u < 16, u ≠ v → bitAt (t.fm b).trapPend u = bitAt (n.fm b).trapPend u) ∧
      (v = 8 → ∀ k < 8, s.fbit (R.FM_EVIN b) Fd.FM_EVIN_IRQEN k = true → bitAt (t.fm b).evLatch k = false) ∧
      (t.fm b).frames = [{ pc := (n.fm b).pc, stack := (n.fm b).stack, sync := false, u := (List.range 8).map (n.fmU b)
                           c := (List.range 4).map (n.fmC b), flags := (n.fm b).flags, wait := none }] ∧
      t.ap = n.ap ∧ t.lanes = s.lanes) ∧
  (∀ (b : Fin 8) (v c : Nat) (s n : State), s.powered = true → s.fmNow b = n → n.fmRuns b = true → (n.fm b).st = .wait →
    (n.fm b).fault = 0 → (n.fm b).region = none → (n.fm b).frames = [] → n.fmBoundary b = c → c ≤ s.clk.time →
    v < 16 → bitAt (n.fm b).trapPend v = true → n.vecOn b v = true →
    NMap.get (fun _ => 0) (n.fm b).trapTick v + 4 ≤ c → (∀ u < v, bitAt (n.fm b).trapPend u = true →
      n.vecOn b u = true → c < NMap.get (fun _ => 0) (n.fm b).trapTick u + 4) →
    Completes (.foremanTrap b) s fun t => (t.fm b).st = .trap ∧ (t.fm b).cyc = c + 4 ∧
      (t.fm b).pc = s.fld (R.FM_TVEC b v) Fd.FM_TVEC_ADDR ∧ (t.fm b).stack = [] ∧
      bitAt (t.fm b).trapPend v = false ∧
      (t.fm b).frames = [{ pc := (n.fm b).pc, stack := (n.fm b).stack, sync := false, u := (List.range 8).map (n.fmU b)
                           c := (List.range 4).map (n.fmC b), flags := (n.fm b).flags
                           wait := some ((n.fm b).waitFrom, (n.fm b).waited + (c - (n.fm b).cyc)) }] ∧
      t.ap = n.ap ∧ t.lanes = s.lanes) ∧
  (∀ (b : Fin 8) (s n : State), s.powered = true → s.fmNow b = n → ((n.fm b).region.isSome = true ∨
    (n.fm b).frames ≠ [] ∨ (n.fm b).fault ≠ 0 ∨ (∀ v < 16, bitAt (n.fm b).trapPend v = true → n.vecOn b v = true →
      max (n.fmBoundary b) (n.fm b).cyc < NMap.get (fun _ => 0) (n.fm b).trapTick v + 4)) →
    exec (.foremanTrap b) s = .next n) ∧
  (∀ (b : Fin 8) (u : Bool) (k v : Nat) (s n : State), s.powered = true → s.fmNow b = n → n.fmRuns b = true →
    (n.fm b).st = .run → v = faultVec k →
    ((n.fm b).fault = k ∧ 3 ≤ k ∧ k ≤ 6 ∧ (n.fm b).done = 0 ∧ (n.fm b).cyc ≤ s.clk.time ∨
      (n.fm b).fault = k ∧ k = 7 ∧ (n.fm b).cyc + 2 ≤ s.clk.time ∨
      (n.fm b).fault = k ∧ k = 2 ∧ n.fmBoundary b ≤ s.clk.time ∨
      (n.fm b).fault = 0 ∧ (n.fm b).done = 0 ∧ u = true ∧ k = 1 ∧ (n.fm b).cyc + 2 ≤ s.clk.time) →
    Completes (.syncFault b u) s fun t => (t.fm b).region = none ∧
      (∀ l : Fin 32, ∃ x, (t.lane b l).strobes = (s.lane b l).strobes ++ [x] ∧ x.kind = .abort) ∧
      t.fld (R.FM_FAULT b) Fd.FM_FAULT_CAUSE = k ∧ t.fld (R.FM_FAULT b) Fd.FM_FAULT_PC = (n.fm b).pc % 2 ^ 15 ∧
      t.flag (R.BENCH_EVENTS b) Fd.BENCH_EVENTS_POISON = true ∧
      (s.streamOpen (3 * b) 0x22 = true → (t.stream (3 * b.val)).seq = ((s.stream (3 * b.val)).seq + 1) % 2 ^ 32) ∧
      (k = 1 → t.flag (R.FM_FLAGS b) Fd.FM_FLAGS_UECC = true) ∧
      (k = 2 → t.flag (R.FM_FLAGS b) Fd.FM_FLAGS_TIMED_OVERRUN = true ∧
        t.flag (R.BENCH_EVENTS b) Fd.BENCH_EVENTS_TIMED_OVERRUN = true) ∧
      (3 ≤ k → t.flag (R.FM_FLAGS b) Fd.FM_FLAGS_ILLEGAL = true) ∧
      (n.vecOn b v = true → (n.fm b).frames.length ≤ 1 → (∀ x ∈ (n.fm b).frames, x.sync = false) →
        (t.fm b).st = .trap ∧ (t.fm b).stack = [] ∧ (t.fm b).pc = s.fld (R.FM_TVEC b v) Fd.FM_TVEC_ADDR ∧
        (∃ x, (t.fm b).frames = x :: (n.fm b).frames ∧ x.pc = (n.fm b).pc ∧ x.sync = true) ∧
        t.fld (R.FM_FAULT b) Fd.FM_FAULT_FATAL = 0) ∧
      ((n.vecOn b v = false ∨ 2 ≤ (n.fm b).frames.length ∨
        (1 ≤ (n.fm b).frames.length ∧ ∀ x ∈ (n.fm b).frames, x.sync = true)) →
        (t.fm b).st = .fault ∧ t.fld (R.FM_FAULT b) Fd.FM_FAULT_FATAL = 1)) ∧
  (∀ (b : Fin 8) (u : Bool) (s n : State), s.powered = true → s.fmNow b = n →
    ((n.fm b).fault = 0 ∧ u = false ∨ s.clk.time < (n.fm b).cyc ∧ (n.fm b).fault ≠ 2 ∨ n.fmRuns b = false) →
    exec (.syncFault b u) s = .next n)

/-- R338, R345 to R353. -/
def Obligations.RefreshAndTemperature : Prop :=
  (∀ (c : Fin 18) (p : Bool) (limit u : Nat) (s : State), s.powered = true → s.refreshes = true →
    u = (if bitAt s.memc.refCfg 12 then 1 else 16) →
    limit = (if (s.mch c).catchUp then 0 else if s.memc.guard then 4 else 8) → Completes (.refreshDue c p) s fun t =>
      (limit * 16 < (s.mch c).debt + u → t.fld R.MEM_REFDEBT Fd.MEM_REFDEBT_FORCED =
          min (s.fld R.MEM_REFDEBT Fd.MEM_REFDEBT_FORCED + 1) 65535 ∧
        (t.mch c).debt = if p then (s.mch c).debt else (s.mch c).debt - u) ∧
      ((s.mch c).debt + u ≤ limit * 16 → t.fld R.MEM_REFDEBT Fd.MEM_REFDEBT_FORCED =
          s.fld R.MEM_REFDEBT Fd.MEM_REFDEBT_FORCED ∧ (t.mch c).debt ≤ limit * 16 ∧
        (t.mch c).debt = if p then (s.mch c).debt + u else (s.mch c).debt - u) ∧
      (u = 16 → ∀ k < 16, NMap.get (fun _ => {}) t.memc.rows (16 * c.val + k) = ({} : OpenRow)) ∧
      ∀ j, j ≠ c.val → t.mch j = s.mch j) ∧
  (∀ (c : Fin 18) (p : Bool) (s : State), s.powered = true → s.refreshes = false →
    exec (.refreshDue c p) s = .next s) ∧
  (∀ (v th : Int) (d : Nat) (s : State), s.powered = true → s.memc.powered = true → d < 9 → (s.dev d).st = .active →
    -256 ≤ v → v ≤ 255 → s.memThresh = th → Completes (.memTempSample (List.replicate 9 (some v))) s fun t =>
      t.memc.temp = v ∧ (t.memc.hot = true ↔ th ≤ v ∨ (s.memc.hot = true ∧ th - 4 ≤ v)) ∧
      (t.memc.guard = true ↔ th - 8 ≤ v ∨ (s.memc.guard = true ∧ th - 12 ≤ v)) ∧
      (s.memc.hot = false → th ≤ v → ∀ c : Fin 18, (t.mch c).debt = min (2 * (s.mch c).debt) 128 ∧
        (t.mch c).catchUp = decide ((s.mch c).debt ≠ 0)) ∧
      (s.memc.hot = false → (∀ c : Fin 18, (s.mch c).debt ≤ 64) → t.fld R.MEM_REFDEBT Fd.MEM_REFDEBT_FORCED =
        s.fld R.MEM_REFDEBT Fd.MEM_REFDEBT_FORCED) ∧
      (s.memc.hot = false → s.memc.guard = false → v < th → th - 8 ≤ v → ∀ c : Fin 18,
        (t.mch c).debt = min (s.mch c).debt 64) ∧
      (s.memc.hot = true → v < th - 4 → s.refreshUnit = 1 → v < th - 8 → ∀ c : Fin 18,
        (t.mch c).debt = ((s.mch c).debt + 1) / 2)) ∧
  (∀ (d : Nat) (s : State), s.powered = true → s.memc.powered = true → d < 9 → (s.dev d).st = .active →
    Completes (.memTempSample (List.replicate 9 none)) s fun t => t.memc.hot = true ∧ t.memc.guard = true ∧
      t.flag R.MEM_FLAGS Fd.MEM_FLAGS_TEMP_BAD = true) ∧
  (∀ s : State, s.powered = true → Completes .rhWindow s fun t => t.memc.limited = [] ∧
    ∀ c : Fin 18, t.mch c = { s.mch c with trr := 0 }) ∧
  (∀ (ts : List (Option Int)) (s : State), s.powered = true → s.memc.powered = false →
    exec (.memTempSample ts) s = .next s)

/-- R58, R119, R329, R331, R341 to R346, R357, R361, R452. -/
def Obligations.MemoryErrors : Prop :=
  (∀ (c : Fin 18) (k : Fin 16) (r : BitVec 15) (q : Fin 11) (m : Nat) (s : State), s.powered = true →
    s.refreshes = true → s.fld R.MEM_RH_CFG Fd.MEM_RH_CFG_TRR_MAX = m → Completes (.rowThreshold c k r q) s fun t =>
      t.fld (R.MEM_THROTTLE q) Fd.MEM_THROTTLE_ROW = r.toNat ∧ t.fld (R.MEM_THROTTLE q) Fd.MEM_THROTTLE_COUNT =
        min (s.fld (R.MEM_THROTTLE q) Fd.MEM_THROTTLE_COUNT + 1) 65535 ∧
      t.flag R.MEM_FLAGS Fd.MEM_FLAGS_THROTTLE = true ∧ (t.mch c).trr = (s.mch c).trr + neighbours r.toNat ∧
      (8 ≤ q.val → NMap.get (fun _ => false) t.memc.limited (16 * c.val + q) = true) ∧
      (q.val < 8 → m ≤ (t.mch c).trr → NMap.get (fun _ => false) t.memc.limited (16 * c.val + q) = true ∧
        t.flag R.MEM_FLAGS Fd.MEM_FLAGS_RT_THROTTLE = true) ∧
      (q.val < 8 → (t.mch c).trr < m → t.memc.limited = s.memc.limited ∧
        t.flag R.MEM_FLAGS Fd.MEM_FLAGS_RT_THROTTLE = s.flag R.MEM_FLAGS Fd.MEM_FLAGS_RT_THROTTLE)) ∧
  (∀ (d : Fin 9) (wr : Bool) (n : Fin 4) (u : BitVec 28) (s : State), s.powered = true → s.refreshes = true →
    (s.dev d).st = .active → Completes (.edcError d wr n u) s fun t =>
      t.fld (R.MEM_DEV_STATE d) Fd.MEM_DEV_STATE_EDC_RETRY =
        min (s.fld (R.MEM_DEV_STATE d) Fd.MEM_DEV_STATE_EDC_RETRY + min 3 (n.val + 1)) 65535 ∧
      (n.val < 3 → t.memc = s.memc) ∧ (n.val = 3 → (t.dev d).retrainDue = true) ∧
      (n.val = 3 → wr = true → t.unitBad u.toNat = true ∧ hourSum (t.dev d).ue = hourSum (s.dev d).ue + 1)) ∧
  (∀ (c : Fin 18) (us : List (BitVec 28)) (s : State), s.powered = true → s.refreshes = true → us ≠ [] →
    Completes (.caParityAlert c us) s fun t => (∀ u ∈ us, t.unitBad u.toNat = true) ∧
      (t.dev (c / 2)).retrainDue = true ∧ t.flag R.MEM_FLAGS Fd.MEM_FLAGS_CA_LOST = true) ∧
  (∀ (c : Fin 18) (k : Fin 16) (r : BitVec 15) (q : Fin 11) (d : Fin 9) (wr : Bool) (n : Fin 4) (u : BitVec 28)
    (us : List (BitVec 28)) (s : State), s.powered = true → exec (.caParityAlert c []) s = .next s ∧
      ((s.dev d).st ≠ .active → exec (.edcError d wr n u) s = .next s) ∧
      (s.refreshes = false → exec (.caParityAlert c us) s = .next s ∧ exec (.edcError d wr n u) s = .next s ∧
        exec (.rowThreshold c k r q) s = .next s)) ∧
  (∀ (k : Fin 4) (w x : Nat) (s : State), s.powered = true → x = (if k = 0 then s.waited3 else w) →
    Completes (.requestPromotion k w) s fun t =>
    (x < 48000 → t = s) ∧ (48000 ≤ x → t.fld (R.MEM_CLASS_AGE k) Fd.MEM_CLASS_AGE_PROMO =
      min (s.fld (R.MEM_CLASS_AGE k) Fd.MEM_CLASS_AGE_PROMO + 1) 65535 ∧
      t.fld (R.MEM_CLASS_AGE k) Fd.MEM_CLASS_AGE_MAXWAIT =
        max (s.fld (R.MEM_CLASS_AGE k) Fd.MEM_CLASS_AGE_MAXWAIT) (min 65535 (x / 750))) ∧
    (60000 < x → 2 ≤ k.val → t.flag R.TOP_BREACH Fd.TOP_BREACH_TIER7 = true)) ∧
  (∀ s : State, s.powered = true → Completes .errorCountHour s fun t => ∀ d : Fin 9,
    hourSum (t.dev d).ce = hourSum ((s.dev d).ce.take 23) ∧ hourSum (t.dev d).ue = hourSum ((s.dev d).ue.take 23)) ∧
  (∀ (who : Who) (a : BitVec 34) (s : State), s.powered = true → s.dataOpen who = true → s.memServes = true →
    s.memDead = false → s.memRefuses who (a.toNat / 4 * 4) 4 = false →
    (s.inStaging (a.toNat / 4 * 4) 4 = false ∨ who = .porter ∨ who = .jtag) → s.unitBad (a.toNat / 64) = false →
    Completes (.waveformRead who a .clean) s fun t => t.mem = s.mem ∧ t.ap = s.ap ∧
      t.readData = (s.byteAt (a.toNat / 4 * 4)).toNat + 256 * (s.byteAt (a.toNat / 4 * 4 + 1)).toNat +
        65536 * (s.byteAt (a.toNat / 4 * 4 + 2)).toNat + 16777216 * (s.byteAt (a.toNat / 4 * 4 + 3)).toNat) ∧
  (∀ (who : Who) (a : BitVec 34) (d : Nat) (s : State), s.powered = true → s.dataOpen who = true →
    s.memServes = true → s.memDead = false → s.memRefuses who (a.toNat / 4 * 4) 4 = false →
    (s.inStaging (a.toNat / 4 * 4) 4 = false ∨ who = .porter ∨ who = .jtag) → s.unitBad (a.toNat / 64) = false →
    s.unitDev (a.toNat / 64) = some d → Completes (.waveformRead who a .corrected) s fun t => t.mem = s.mem ∧
      hourSum (t.dev d).ce = hourSum (s.dev d).ce + 1 ∧
      t.readData = (s.byteAt (a.toNat / 4 * 4)).toNat + 256 * (s.byteAt (a.toNat / 4 * 4 + 1)).toNat +
        65536 * (s.byteAt (a.toNat / 4 * 4 + 2)).toNat + 16777216 * (s.byteAt (a.toNat / 4 * 4 + 3)).toNat) ∧
  (∀ (who : Who) (a : BitVec 34) (r : ReadCheck) (s : State), s.powered = true → s.dataOpen who = true →
    s.memServes = true → s.memRefuses who (a.toNat / 4 * 4) 4 = false →
    (s.inStaging (a.toNat / 4 * 4) 4 = false ∨ who = .porter ∨ who = .jtag) →
    (r = .uncorrectable ∨ s.unitBad (a.toNat / 64) = true ∨ s.memDead = true) →
    Completes (.waveformRead who a r) s fun t => t.readData = 0 ∧ t.mem = s.mem ∧
      t.flag R.MEM_FLAGS Fd.MEM_FLAGS_UE = true ∧ Out.completion (if who = .cores then 2 else 1) ∈ t.outbox ∧
      (s.memDead = false → t.unitBad (a.toNat / 64) = true) ∧
      (s.memDead = true → t.unitBad (a.toNat / 64) = s.unitBad (a.toNat / 64))) ∧
  (∀ (who : Who) (a : BitVec 34) (r : ReadCheck) (s : State), s.powered = true → s.dataOpen who = true →
    s.memServes = true → (s.memRefuses who (a.toNat / 4 * 4) 4 = true ∨
      s.inStaging (a.toNat / 4 * 4) 4 = true ∧ (who = .host ∨ who = .cores)) →
    Completes (.waveformRead who a r) s fun t => t.readData = 0 ∧ t.mem = s.mem ∧
      t.flag R.TOP_ACCESS Fd.TOP_ACCESS_ACCESS_DENIED = true) ∧
  (∀ (who : Who) (a : BitVec 34) (r : ReadCheck) (s : State), s.powered = true → s.dataOpen who = true →
    s.memServes = false → Completes (.waveformRead who a r) s fun t => t.readData = 0 ∧ t.mem = s.mem ∧ t.ap = s.ap ∧
      t.outbox = if s.mode = .keep ∧ who = .host then s.outbox ++ [.completion 0] else s.outbox) ∧
  (∀ (who : Who) (a : BitVec 34) (r : ReadCheck) (s : State), s.powered = true → s.dataOpen who = false →
    exec (.waveformRead who a r) s = .next s)

/-- R42, R350, R354 to R358, R360, R361. -/
def Obligations.MemoryMaintenance : Prop :=
  (∀ s : State, s.powered = true → Completes .selfRefreshExit s fun t =>
    (s.mode = .idle → s.memc.selfRef = true → t.memc.selfRef = false ∧ (∀ c, (t.mch c).debt = 0) ∧ t.ap = s.ap) ∧
    (s.mode ≠ .idle ∨ s.memc.selfRef = false → t = s)) ∧
  (∀ s : State, s.powered = true → Completes .selfRefreshEntry s fun t =>
    (s.mode = .idle → s.memc.selfRef = false → s.inTransit = false → s.memc.lastReq + 3000000 ≤ s.clk.now →
      t.memc.selfRef = true ∧ ∀ c, (t.mch c).debt = 0) ∧
    (s.mode ≠ .idle ∨ s.inTransit = true ∨ s.clk.now < s.memc.lastReq + 3000000 → t = s)) ∧
  (∀ s : State, s.powered = true → s.maintOk = true → s.retrainDue = true → s.memDead = false →
    Completes .retrainStart s fun t => t.memc.maint = some (.retrain (s.clk.now + 12000000)) ∧ t.inTransit = true ∧
      t.mode = s.mode) ∧
  (∀ (d sp : Nat) (s : State), s.powered = true → s.firstDue = some d → s.spare = some sp → s.maintOk = true →
    s.memDead = false → Completes .retirementStart s fun t => t.mode = s.mode ∧ t.inTransit = true ∧
      t.memc.maint = some (.migrate d sp (s.clk.now + 1800000 + 73209670 * 22 / s.memc.rate))) ∧
  (∀ s : State, s.powered = true →
    (s.mode ≠ .hold → s.mode ≠ .idle → exec .retrainStart s = .next s ∧ exec .retirementStart s = .next s) ∧
    (s.inTransit = true → exec .retrainStart s = .next s ∧ exec .retirementStart s = .next s) ∧
    (s.retrainDue = false → exec .retrainStart s = .next s) ∧
    (s.firstDue = none ∨ s.spare = none → exec .retirementStart s = .next s)) ∧
  (∀ (due : Nat) (s : State), s.powered = true → s.memc.maint = some (.retrain due) → due ≤ s.clk.now →
    Completes (.retrainDone none) s fun t => t.memc.maint = none ∧ (∀ d : Fin 9, (t.dev d).retrainDue = false) ∧
      t.memc.trainTemp = s.memc.temp ∧ t.mode = s.mode) ∧
  (∀ (due : Nat) (d : Fin 9) (s : State), s.powered = true → s.memc.maint = some (.retrain due) → due ≤ s.clk.now →
    (s.mode = .hold ∨ s.mode = .idle) → s.transit = none → (s.dev d).st = .active →
    Completes (.retrainDone (some d)) s fun t =>
      t.flag R.MEM_FLAGS Fd.MEM_FLAGS_TRAIN_FAIL = true ∧ t.mode = s.mode ∧
      ((s.dev d).tries < 3 → (t.dev d).tries = (s.dev d).tries + 1 ∧ t.memc.rate = s.memc.rate ∧
        t.memc.maint = some (.retrain (s.clk.now + 12000000))) ∧
      (∀ sp, 3 ≤ (s.dev d).tries → s.spare = some sp → (t.dev d).st = .retired ∧ (t.dev sp).st = .active ∧
        (t.dev sp).slot = (s.dev d).slot ∧ t.memc.rate = s.memc.rate ∧
        ∀ o, o / 64 % 8 = (s.dev d).slot → t.byteAt o = 0) ∧
      (3 ≤ (s.dev d).tries → s.spare = none → 14 < s.memc.rate → t.memc.rate = s.memc.rate - 2 ∧
        t.flag R.MEM_FLAGS Fd.MEM_FLAGS_RATE_STEP = true ∧
        t.memc.maint = some (.retrain (s.clk.now + 12000000))) ∧
      (3 ≤ (s.dev d).tries → s.spare = none → s.memc.rate ≤ 14 → (t.dev d).st = .dead ∧ t.capRt = 0 ∧
        t.flag R.MEM_FLAGS Fd.MEM_FLAGS_DEAD = true ∧ t.memc.maint = none)) ∧
  (∀ (d : Fin 9) (s : State), s.powered = true → s.memc.maint = none → s.mode = .sanitise → s.transit = none →
    (s.dev d).st = .active → Completes (.retrainDone (some d)) s fun t =>
      t.flag R.MEM_FLAGS Fd.MEM_FLAGS_TRAIN_FAIL = true ∧ t.mode = .sanitise ∧ t.memc.maint = none ∧
      ((s.dev d).tries < 3 → (t.dev d).tries = (s.dev d).tries + 1 ∧ t.memc.rate = s.memc.rate) ∧
      (∀ sp, 3 ≤ (s.dev d).tries → s.spare = some sp → (t.dev d).st = .retired ∧ (t.dev sp).st = .active ∧
        (t.dev sp).slot = (s.dev d).slot ∧ t.memc.rate = s.memc.rate) ∧
      (3 ≤ (s.dev d).tries → s.spare = none → 14 < s.memc.rate → t.memc.rate = s.memc.rate - 2 ∧
        t.flag R.MEM_FLAGS Fd.MEM_FLAGS_RATE_STEP = true) ∧
      (3 ≤ (s.dev d).tries → s.spare = none → s.memc.rate ≤ 14 → (t.dev d).st = .dead ∧
        t.flag R.MEM_FLAGS Fd.MEM_FLAGS_DEAD = true)) ∧
  (∀ (d sp due : Nat) (s : State), s.powered = true → s.memc.maint = some (.migrate d sp due) → due ≤ s.clk.now →
    d ≠ sp → (s.mode = .hold ∨ s.mode = .idle) → s.transit = none → Completes .migrationDone s fun t =>
      t.memc.maint = none ∧ (t.dev d).st = .retired ∧ (t.dev sp).st = .active ∧ (t.dev sp).slot = (s.dev d).slot ∧
      t.mem = s.mem) ∧
  (∀ (f : Option (Fin 9)) (d sp due : Nat) (s : State), s.powered = true →
    (s.memc.maint = none → exec .migrationDone s = .next s ∧ exec (.retrainDone none) s = .next s) ∧
    (s.memc.maint = none → s.mode ≠ .sanitise → exec (.retrainDone f) s = .next s) ∧
    (s.memc.maint = some (.retrain due) → exec .migrationDone s = .next s ∧
      (s.clk.now < due → exec (.retrainDone f) s = .next s)) ∧
    (s.memc.maint = some (.migrate d sp due) → exec (.retrainDone f) s = .next s ∧
      (s.clk.now < due → exec .migrationDone s = .next s)))

/-- R34, R342, R361, R366, R367, R372, R373, R375 to R377, R379, R380. -/
def Obligations.TallyCommands : Prop :=
  ((∀ (q n : Nat) (r : Rec) (s : State), s.powered = true → s.writerRuns = true → s.tally.slotDue ≤ s.clk.now →
    q ≤ 8 → s.staged q = [r] → (∀ p ≤ 8, p ≠ q → s.staged p = []) → r.len = n → r.left = n → 1 ≤ n → n ≤ 2 →
    s.tally.devRecent = [] → s.tally.placed = [] → s.tally.wp = s.tally.head →
    s.tally.head + 32 * n ≤ s.ringSize → 32 * n ≤ ringFree s.ringSize s.tally.head s.rp →
    Completes .writerSlot s fun t =>
      (∀ i < 32 * n, t.byteAt (s.ringBase + s.tally.head + i) = r.byteAt i) ∧
      (∀ o, o < s.ringBase + s.tally.head ∨ s.ringBase + s.tally.head + 32 * n ≤ o → t.byteAt o = s.byteAt o) ∧
      t.tally.wp = (s.tally.head + 32 * n) % s.ringSize ∧ t.tally.slotDue = s.clk.now + 6 ∧ t.ap = s.ap) ∧
  (∀ (q : Nat) (r : Rec) (s : State), s.powered = true → s.writerRuns = true → s.tally.slotDue ≤ s.clk.now →
    q ≤ 8 → s.staged q = [r] → (∀ p ≤ 8, p ≠ q → s.staged p = []) → r.len = 2 → r.left = 2 →
    s.tally.devRecent = [] → s.tally.placed = [] → s.tally.wp = s.tally.head →
    s.tally.head + 32 = s.ringSize → 96 ≤ ringFree s.ringSize s.tally.head s.rp → 0 < s.tally.head →
    Completes .writerSlot s fun t =>
      (∀ i < 32, t.byteAt (s.ringBase + s.tally.head + i) = (padOf r 1 s.clk.time).byteAt i) ∧
      (∀ i < 32, t.byteAt (s.ringBase + i) = r.byteAt i) ∧ t.tally.wp = 0 ∧ t.tally.head = 64) ∧
  (∀ (q : Nat) (r : Rec) (s : State), s.powered = true → s.writerRuns = true → s.tally.slotDue ≤ s.clk.now →
    q ≤ 8 → s.staged q = [r] → (∀ p ≤ 8, p ≠ q → s.staged p = []) → r.left = r.len → 1 ≤ r.len →
    s.tally.devRecent = [] → ringFree s.ringSize s.tally.head s.rp < 32 * r.len →
    Completes .writerSlot s fun t => t.mem = s.mem ∧ t.tally.wp = s.tally.wp ∧ t.tally.full = true) ∧
  (∀ s : State, s.powered = true → (s.clk.core = false ∨ s.memDead = true ∨ s.clk.now < s.tally.slotDue) →
    exec .writerSlot s = .next s) ∧
  (∀ s : State, s.powered = true → (∀ q ≤ 8, s.staged q = []) → Completes .writerSlot s fun t => t.mem = s.mem ∧
    t.tally.wp = s.tally.wp) ∧
  (∀ (who : Who) (v : Word) (s : State), s.powered = true → s.reaches who = true → s.rp < s.ringSize →
    s.tally.wp < s.ringSize → s.flag R.TALLY_CTL Fd.TALLY_CTL_DMA = false → v.toNat % 32 = 0 → v.toNat < s.ringSize →
    (if s.rp ≤ s.tally.wp then s.rp ≤ v.toNat ∧ v.toNat ≤ s.tally.wp
      else s.rp ≤ v.toNat ∨ v.toNat ≤ s.tally.wp) → Completes (.rpWrite who v) s fun t => t.reg R.TALLY_RP = v ∧
      (∀ o, o ≠ R.TALLY_RP → t.reg o = s.reg o) ∧ t.mem = s.mem) ∧
  (∀ (who : Who) (v : Word) (s : State), s.powered = true → s.reaches who = true → s.rp < s.ringSize →
    s.tally.wp < s.ringSize →
    (s.flag R.TALLY_CTL Fd.TALLY_CTL_DMA = true ∨ v.toNat % 32 ≠ 0 ∨ s.ringSize ≤ v.toNat ∨
      (if s.rp ≤ s.tally.wp then v.toNat < s.rp ∨ s.tally.wp < v.toNat
        else v.toNat < s.rp ∧ s.tally.wp < v.toNat)) → Completes (.rpWrite who v) s fun t =>
      t.reg R.TALLY_RP = s.reg R.TALLY_RP ∧ t.flag R.TOP_ACCESS Fd.TOP_ACCESS_ACCESS_DENIED = true) ∧
  (∀ (who : Who) (v : Word) (s : State), s.powered = true → s.reaches who = false →
    exec (.rpWrite who v) s = .next s)) ∧
  ((∀ (a len : Nat) (s : State), s.powered = true → s.drains = true → s.rp ≠ s.tally.wp → s.memDead = false →
    s.ringBase + s.rp = a → 32 * (s.byteAt (a + 1)).toNat = len →
    s.badUnits a (if s.byteAt a = 0 then 32 else len) = [] → s.ringSize ≤ 2 ^ 32 →
    Completes .drainCopy s fun t => t.mem = s.mem ∧
      (len ≤ ringFree s.hostSize s.tally.hwp (s.fld R.TALLY_DMA_HRP Fd.TALLY_DMA_HRP_OFS) → 0 < s.ringSize →
        t.rp = (s.rp + len) % s.ringSize ∧ t.tally.hwp = (s.tally.hwp + len) % s.hostSize ∧
        t.tally.unreported = s.tally.unreported + len ∧
        t.outbox = s.outbox ++ [.drain s.tally.hwp ((List.range len).map fun i => s.byteAt (a + i))]) ∧
      (ringFree s.hostSize s.tally.hwp (s.fld R.TALLY_DMA_HRP Fd.TALLY_DMA_HRP_OFS) < len → t = s)) ∧
  (∀ (a st : Nat) (s : State), s.powered = true → s.drains = true → s.rp ≠ s.tally.wp → s.ringBase + s.rp = a →
    srcStream (s.readLE (a + 2) 2) = st → st < 25 → (s.memDead = true ∨
      s.badUnits a (if s.byteAt a = 0 then 32 else 32 * (s.byteAt (a + 1)).toNat) ≠ []) →
    Completes .drainCopy s fun t => t.tally.hwp = s.tally.hwp ∧ t.mem = s.mem ∧
      t.flag R.MEM_FLAGS Fd.MEM_FLAGS_UE = true ∧ (t.stream st).drops = (s.stream st).drops + 1 ∧
      t.fld (R.TALLY_STREAM_DROP st) Fd.TALLY_STREAM_DROP_COUNT =
        min (s.fld (R.TALLY_STREAM_DROP st) Fd.TALLY_STREAM_DROP_COUNT + 1) (2 ^ 32 - 1)) ∧
  (∀ s : State, s.powered = true → (s.drains = false ∨ s.rp = s.tally.wp) → exec .drainCopy s = .next s) ∧
  (∀ (kb us : Nat) (s : State), s.powered = true → kb = s.fld R.TALLY_DMA_IRQ Fd.TALLY_DMA_IRQ_IRQ_KB →
    us = s.fld R.TALLY_DMA_IRQ Fd.TALLY_DMA_IRQ_IRQ_US → Completes .drainIrq s fun t =>
    (max 1 kb * 1024 ≤ s.tally.unreported → t.tally.unreported = 0 ∧ t.tally.firstCopy = 0 ∧
      t.fbit R.TOP_IRQ_PEND Fd.TOP_IRQ_PEND_BITS 4 = true) ∧
    (us ≠ 0 → s.tally.firstCopy ≠ 0 → s.tally.firstCopy + 3000 * us ≤ s.clk.now + 1 → t.tally.unreported = 0 ∧
      t.tally.firstCopy = 0 ∧ t.fbit R.TOP_IRQ_PEND Fd.TOP_IRQ_PEND_BITS 4 = true) ∧
    (s.tally.unreported < max 1 kb * 1024 → us = 0 ∨ s.tally.firstCopy = 0 ∨
      s.clk.now + 1 < s.tally.firstCopy + 3000 * us → t = s)) ∧
  (∀ s : State, s.powered = true → Completes .dmaError s fun t => (s.drains = true → t.tally.stopped = true ∧
    t.drains = false ∧ t.flag R.TALLY_STATUS Fd.TALLY_STATUS_DMA_ERR = true) ∧ (s.drains = false → t = s)) ∧
  (∀ (k : Fin 25) (s : State), s.powered = true → s.streamOn k = true →
    (∀ r ∈ s.staged (streamSrc k), r.acc ≠ s.clk.now + 1) → Completes (.streamDisable k) s fun t =>
    t.streamOn k = false ∧ (t.stream k).seq = (s.stream k).seq ∧ t.tally.wp = s.tally.wp ∧
    ((s.stream k).drops ≠ 0 → (s.stream k).gapHeld = false → (t.stream k).drops = 0 ∧
      t.staged (streamSrc k) = s.staged (streamSrc k) ++ [gapRec k (s.stream k) s.clk.time]) ∧
    ((s.stream k).gapHeld = true → t.staged (streamSrc k) = s.staged (streamSrc k) ∧
      (t.stream k).finalGap = true)) ∧
  (∀ (k : Fin 25) (r : Rec) (s : State), s.powered = true → s.streamOn k = true →
    s.staged (streamSrc k) = [r] → r.stream = k → r.own = false → r.left = r.len → r.acc = s.clk.now + 1 →
    s.stream k = { seq := (r.seq + 1) % 2 ^ 32 } → Completes (.streamDisable k) s fun t => t.streamOn k = false ∧
      t.fld (R.TALLY_STREAM_DROP k) Fd.TALLY_STREAM_DROP_COUNT =
        min (s.fld (R.TALLY_STREAM_DROP k) Fd.TALLY_STREAM_DROP_COUNT + 1) (2 ^ 32 - 1) ∧
      t.staged (streamSrc k) = [gapRec k { drops := 1, firstDrop := r.seq } s.clk.time]) ∧
  (∀ (k : Fin 25) (s : State), s.powered = true → s.streamOn k = false → exec (.streamDisable k) s = .next s)) ∧
  ((∀ (k : Fin 25) (src typ len time : Nat) (pay : List (Nat × Nat × Nat)) (s : State),
    s.streamOpen k typ = false → (s.stream k).offAt ≠ s.clk.now + 1 → s.offer k src typ len time pay = s) ∧
  (∀ (k : Fin 25) (src typ len time : Nat) (pay : List (Nat × Nat × Nat)) (x : Stream) (r : Rec) (s : State),
    s.streamOpen k typ = true → s.stream k = x → x.seq < 2 ^ 32 - 1 → x.wrapDue = false →
    (x.drops = 0 ∨ x.gapHeld = false) → s.stageUse k + 32 * len ≤ stageCap k → s.memDead = false →
    (∀ y ∈ s.staged (streamSrc k), y.acc ≠ s.clk.now + 1) →
    r = { typ := typ, len := len, stream := k, src := src, seq := x.seq, time := time, pay := pay, left := len
          acc := s.clk.now + 1 } →
    ((s.offer k src typ len time pay).stream k).seq = x.seq + 1 ∧
    ((s.offer k src typ len time pay).stream k).drops = 0 ∧
    (s.offer k src typ len time pay).staged (streamSrc k) = s.staged (streamSrc k) ++
      (if x.drops = 0 then [] else [gapRec k x s.clk.time]) ++ [r]) ∧
  (∀ (k : Fin 25) (src typ len time : Nat) (pay : List (Nat × Nat × Nat)) (s : State), s.streamOpen k typ = true →
    (stageCap k < s.stageUse k + 32 * len ∨ s.memDead = true) →
    ((s.offer k src typ len time pay).stream k).seq = ((s.stream k).seq + 1) % 2 ^ 32 ∧
    ((s.offer k src typ len time pay).stream k).drops = (s.stream k).drops + 1 ∧
    (s.offer k src typ len time pay).staged (streamSrc k) = s.staged (streamSrc k) ∧
    (s.offer k src typ len time pay).fld (R.TALLY_STREAM_DROP k) Fd.TALLY_STREAM_DROP_COUNT =
      min (s.fld (R.TALLY_STREAM_DROP k) Fd.TALLY_STREAM_DROP_COUNT + 1) (2 ^ 32 - 1) ∧
    (s.offer k src typ len time pay).flag R.TALLY_STATUS Fd.TALLY_STATUS_DROP = true ∧
    (s.offer k src typ len time pay).flag R.TOP_BREACH Fd.TOP_BREACH_TIER6 = true ∧
    (k.val < 24 → bitAt ((s.offer k src typ len time pay).fm (k.val / 3)).trapPend 10 = true)))

/-- R106, R297, R381, R382, R384, R386 to R389, R391, R394, R398, R404. -/
def Obligations.FabricCycles : Prop :=
  (∀ s : State, s.powered = true →
    (s.clk.fabricRuns = false ∨ s.clk.time % 8 ≠ 0 ∨ s.fabric.last = s.clk.now + 1) →
    exec .fabricCycle s = .next s) ∧
  (∀ (x : State × List Nat) (s : State), s.powered = true → s.clk.fabricRuns = true → s.clk.time % 8 = 0 →
    s.fabric.last ≠ s.clk.now + 1 → s.fabricEval = x → Completes .fabricCycle s fun t =>
      t.fabric.last = s.clk.now + 1 ∧ t.fabric.lines = x.1.fabric.lines ∧
      (s.fabric.started = false → x.2 = []) ∧
      (∀ l d, s.fabric.started = true → l < 336 → s.lineOff l = false → (l, d) ∈ s.fabric.demand →
        d ≤ s.clk.time / 8 - 1 → (lineGet s.fabric.lines l).held = 0 → (7 ≤ (lineGet s.fabric.lines l).since →
          l ∈ x.2 ∧ (lineGet t.fabric.lines l).level = true ∧ (lineGet t.fabric.lines l).since = 0) ∧
        ((lineGet s.fabric.lines l).since < 7 → (lineGet t.fabric.lines l).level = false ∧
          (lineGet t.fabric.lines l).held = 1)) ∧
      (∀ k < 16, s.fabric.started = true → (lineGet s.fabric.lines (352 + k)).held = 0 →
        (bitAt s.fabric.aonSeen k = false → (lineGet t.fabric.lines (352 + k)).level = false) ∧
        (bitAt s.fabric.aonSeen k = true → 7 ≤ (lineGet s.fabric.lines (352 + k)).since →
          (lineGet t.fabric.lines (352 + k)).level = true ∧
          ((lineGet s.fabric.lines (352 + k)).level = false → 352 + k ∈ x.2)) ∧
        (bitAt s.fabric.aonSeen k = true → (lineGet s.fabric.lines (352 + k)).level = false →
          (lineGet s.fabric.lines (352 + k)).since < 7 → (lineGet t.fabric.lines (352 + k)).level = false ∧
          (lineGet t.fabric.lines (352 + k)).held = 2)) ∧
      (∀ l ∈ x.2, (lineGet x.1.fabric.lines l).train = 128 → t.flag R.EVT_FLAGS Fd.EVT_FLAGS_LOOP_SUSPECT = true)) ∧
  (∀ s : State, s.powered = true → s.clk.fabricRuns = true → s.clk.time % 8 = 0 → s.fabric.last ≠ s.clk.now + 1 →
    Completes .fabricCycle s fun t =>
      (∀ j < 16, s.fabric.started = true → s.fld (R.EVT_CELL_CFG j) Fd.EVT_CELL_CFG_MODE = 0 →
        s.fld (R.EVT_CELL_IN j) Fd.EVT_CELL_IN_A < 16 → s.fld (R.EVT_CELL_IN j) Fd.EVT_CELL_IN_B < 16 →
        s.fld (R.EVT_CELL_IN j) Fd.EVT_CELL_IN_C < 16 → s.fld (R.EVT_CELL_IN j) Fd.EVT_CELL_IN_D < 16 →
        (lineGet s.fabric.lines (448 + j)).held = 0 → 7 ≤ (lineGet s.fabric.lines (448 + j)).since →
        (lineGet t.fabric.lines (448 + j)).level = s.cellResult j t.fabric.lines) ∧
      (∀ j < 64, s.fld (R.EVT_CELL_CFG j) Fd.EVT_CELL_CFG_MODE = 1 →
        (NMap.get (fun _ => ({} : Cell)) t.fabric.cells j).out = s.cellResult j t.fabric.lines) ∧
      (∀ j < 64, s.fld (R.EVT_CELL_CFG j) Fd.EVT_CELL_CFG_MODE = 2 →
        s.flag (R.EVT_CELL_CFG j) Fd.EVT_CELL_CFG_FKIND = false → s.flag (R.EVT_CELL_CFG j) Fd.EVT_CELL_CFG_FDOM = false →
        NMap.get (fun _ => ({} : Cell)) t.fabric.cells j =
          if s.cellResult j t.fabric.lines = (NMap.get (fun _ => ({} : Cell)) s.fabric.cells j).out then
            { out := s.cellResult j t.fabric.lines, count := 0 }
          else if max 1 (s.fld (R.EVT_CELL_FILT j) Fd.EVT_CELL_FILT_N) ≤
              (NMap.get (fun _ => ({} : Cell)) s.fabric.cells j).count + 1 then
            { out := s.cellResult j t.fabric.lines, count := 0 }
          else { out := (NMap.get (fun _ => ({} : Cell)) s.fabric.cells j).out
                 count := (NMap.get (fun _ => ({} : Cell)) s.fabric.cells j).count + 1 })) ∧
  (∀ (x : State × List Nat) (s : State), s.powered = true → s.clk.fabricRuns = true → s.clk.time % 8 = 0 →
    s.fabric.last ≠ s.clk.now + 1 → s.fabricEval = x → Completes .fabricCycle s fun t =>
      (∀ k < 4, s.hits (244 + k) x.2 ≠ 0 → t.fbit R.EVT_IRQ Fd.EVT_IRQ_PEND k = true ∧
        (s.fbit R.EVT_IRQ Fd.EVT_IRQ_PEND k = false → t.fbit R.TOP_IRQ_PEND Fd.TOP_IRQ_PEND_BITS (26 + k) = true)) ∧
      (∀ c < 64, s.hits c x.2 ≠ 0 → bitAt (t.fm (c / 8)).evLatch (c % 8) = true) ∧
      (∀ c < 128, s.hits (64 + c) x.2 ≠ 0 → NMap.get (fun _ => false) t.dec.oltEv c = true)) ∧
  (∀ (x : State × List Nat) (b i m : Nat) (s : State), s.powered = true → s.clk.fabricRuns = true →
    s.clk.time % 8 = 0 → s.fabric.last ≠ s.clk.now + 1 → s.fabricEval = x → b < 8 → i < 4 → m < 32 →
    Completes .fabricCycle s fun t =>
      (s.hits (192 + 4 * b + i) x.2 ≠ 0 →
        bitsOf (s.reg (if m < 16 then R.EVT_LSEL_LO b else R.EVT_LSEL_HI b)).toNat (2 * (m % 16)) 2 = i →
        (t.lane b m).event = true) ∧
      (∀ k < 4, s.hits (240 + k) x.2 ≠ 0 → NMap.get (fun _ => 0) t.fabric.ledUntil k = s.clk.now + 300000000)) ∧
  (∀ (x : State × List Nat) (k : Fin 8) (s : State), s.powered = true → s.clk.fabricRuns = true →
    s.clk.time % 8 = 0 → s.fabric.last ≠ s.clk.now + 1 → s.fabricEval = x → s.hits (224 + k) x.2 ≠ 0 →
    NMap.get (fun _ => 0) x.1.fabric.trigBusy k = 0 → Completes .fabricCycle s fun t =>
      NMap.get (fun _ => 0) t.fabric.trigBusy k = 8 ∧
      (s.flag (R.TIME_TRIG_CTL k) Fd.TIME_TRIG_CTL_OUT = true → s.flag (R.TIME_TRIG_CTL k) Fd.TIME_TRIG_CTL_SRC = true →
        { line := k.val, at16 := s.trigAt k s.clk.time, level := true } ∈ t.time.trigQ ∧
        { line := k.val, at16 := s.trigAt k s.clk.time + 512, level := false } ∈ t.time.trigQ)) ∧
  (∀ (x : State × List Nat) (g : Fin 8) (s : State), s.powered = true → s.clk.fabricRuns = true →
    s.clk.time % 8 = 0 → s.fabric.last ≠ s.clk.now + 1 → s.fabricEval = x → s.hits (232 + g) x.2 ≠ 0 →
    s.consBusy (232 + g) = false → Completes .fabricCycle s fun t =>
      (s.safeLow = false → { group := g.val, after := s.clk.now + 240, fabric := true } ∈ t.slow.loads) ∧
      (s.safeLow = true → t.slow.loads = s.slow.loads ∧
        t.flag R.BIAS_STATUS Fd.BIAS_STATUS_LOAD_BLOCK = true)) ∧
  (∀ (x : State × List Nat) (s : State), s.powered = true → s.clk.fabricRuns = true → s.clk.time % 8 = 0 →
    s.fabric.last ≠ s.clk.now + 1 → s.fabricEval = x → Completes .fabricCycle s fun t =>
      (∀ c < 248, s.hits c x.2 ≠ 0 → x.1.consBusy c = true →
        t.flag (R.EVT_CONS_EN c) Fd.EVT_CONS_EN_OVERRUN = true ∧ t.flag R.EVT_FLAGS Fd.EVT_FLAGS_OVERRUN = true) ∧
      (∀ c < 248, 2 ≤ s.hits c x.2 → x.1.consBusy c = false →
        t.flag (R.EVT_CONS_EN c) Fd.EVT_CONS_EN_COINCIDE = true ∧ t.flag R.EVT_FLAGS Fd.EVT_FLAGS_COINCIDE = true) ∧
      (∀ k < 8, t.fld (R.EVT_CNT k) Fd.EVT_CNT_COUNT =
        (s.fld (R.EVT_CNT k) Fd.EVT_CNT_COUNT + min 3 (s.hits (248 + k) x.2)) % 2 ^ 32 ∧
        (4 ≤ s.hits (248 + k) x.2 → t.flag (R.EVT_CONS_EN (248 + k)) Fd.EVT_CONS_EN_COINCIDE = true))) ∧
  (∀ (k : Fin 4) (s : State), s.powered = true → Completes (.ledTimeout k) s fun t =>
    (NMap.get (fun _ => 0) s.fabric.ledUntil k ≠ 0 → NMap.get (fun _ => 0) s.fabric.ledUntil k ≤ s.clk.now →
      NMap.get (fun _ => 0) t.fabric.ledUntil k = 0) ∧
    (s.clk.now < NMap.get (fun _ => 0) s.fabric.ledUntil k ∨ NMap.get (fun _ => 0) s.fabric.ledUntil k = 0 → t = s))

/-- R396 to R402, R404, R405, R407. Voltages are whole numbers of 2^-20 µV. Log entry 46 names the choices of clauses 19
and 20. -/
def Obligations.BiasCommands : Prop :=
  ((∀ (n : Fin 64) (v : Word) (s : State), s.powered = true → Completes (.biasCodeWrite n v) s fun t =>
    t.fld (R.BIAS_CH_CODE n) Fd.BIAS_CH_CODE_CODE = v.toNat % 2 ^ 20 ∧
    t.bias n = { s.bias n with staged := true } ∧ ∀ k, k ≠ n.val → t.bias k = s.bias k) ∧
  (∀ (g : BitVec 8) (s : State), s.powered = true → Completes (.loadStrobe g) s fun t => t.slow.bias = s.slow.bias ∧
    (s.safeLow = false → (∀ r ∈ s.slow.loads, r ∈ t.slow.loads) ∧ ∀ k < 8, bitAt g.toNat k = true →
      { group := k, after := s.clk.now + 240, fabric := false } ∈ t.slow.loads) ∧
    (s.safeLow = true → t.slow = s.slow ∧ (g ≠ 0 →
      t.flag R.BIAS_STATUS Fd.BIAS_STATUS_LOAD_BLOCK = true))) ∧
  (∀ s : State, s.powered = true → s.clk.now < s.slow.boundary → exec .biasUpdate s = .next s) ∧
  (∀ (n : Fin 64) (code : Nat) (goal d : Int) (s : State), s.powered = true → s.slow.boundary ≤ s.clk.now →
    s.safeLow = false → (s.bias n).parked = false → (s.bias n).step = .none_ → (s.bias n).susp = false →
    (s.bias n).aim = .target →
    ((s.flag (R.BIAS_CH_CFG n) Fd.BIAS_CH_CFG_LGEN = false ∧ (s.bias n).staged = true ∨
      s.flag (R.BIAS_CH_CFG n) Fd.BIAS_CH_CFG_LGEN = true ∧ ∃ r ∈ s.slow.loads, r.after ≤ s.slow.boundary ∧
        r.group = s.fld (R.BIAS_CH_CFG n) Fd.BIAS_CH_CFG_LGRP) ∧
      code = s.fld (R.BIAS_CH_CODE n) Fd.BIAS_CH_CODE_CODE ∨
     (s.flag (R.BIAS_CH_CFG n) Fd.BIAS_CH_CFG_LGEN = false ∧ (s.bias n).staged = false ∨
      s.flag (R.BIAS_CH_CFG n) Fd.BIAS_CH_CFG_LGEN = true ∧ ∀ r ∈ s.slow.loads, r.after ≤ s.slow.boundary →
        r.group ≠ s.fld (R.BIAS_CH_CFG n) Fd.BIAS_CH_CFG_LGRP) ∧ code = (s.bias n).target) →
    goal = codeVolt (s.bias n).range code →
    d = 1048576 * (max 1 (s.fld (R.BIAS_CH_CFG n) Fd.BIAS_CH_CFG_RATE) : Nat) → Completes .biasUpdate s fun t =>
      t.slow.boundary = s.slow.boundary + 3000 ∧ (t.bias n).target = code ∧ (t.bias n).parked = false ∧
      (s.flag (R.BIAS_CH_CFG n) Fd.BIAS_CH_CFG_JUMP = true → (t.bias n).out = goal) ∧
      (s.flag (R.BIAS_CH_CFG n) Fd.BIAS_CH_CFG_JUMP = false →
        (goal - (s.bias n).out ≤ d → (s.bias n).out - goal ≤ d → (t.bias n).out = goal) ∧
        (d < goal - (s.bias n).out → (t.bias n).out = (s.bias n).out + d) ∧
        (d < (s.bias n).out - goal → (t.bias n).out = (s.bias n).out - d))) ∧
  (∀ (n : Fin 64) (goal d : Int) (s : State), s.powered = true → s.slow.boundary ≤ s.clk.now → s.safeLow = true →
    (s.bias n).parked = false → (s.bias n).step = .none_ → (s.bias n).aim = .safe →
    goal = codeVolt (s.bias n).range (s.bias n).target →
    d = 10485760 * (max 1 (s.fld (R.BIAS_CH_SAFE n) Fd.BIAS_CH_SAFE_SAFE_RATE) : Nat) →
    Completes .biasUpdate s fun t => (t.bias n).target = (s.bias n).target ∧ (t.bias n).aim = .safe ∧
      (t.bias n).staged = (s.bias n).staged ∧
      (s.flag (R.BIAS_CH_SAFE n) Fd.BIAS_CH_SAFE_SAFE_JUMP = true → (t.bias n).out = goal) ∧
      (s.flag (R.BIAS_CH_SAFE n) Fd.BIAS_CH_SAFE_SAFE_JUMP = false →
        (goal - (s.bias n).out ≤ d → (s.bias n).out - goal ≤ d → (t.bias n).out = goal) ∧
        (d < goal - (s.bias n).out → (t.bias n).out = (s.bias n).out + d) ∧
        (d < (s.bias n).out - goal → (t.bias n).out = (s.bias n).out - d))) ∧
  (∀ (n : Fin 64) (d : Int) (s : State), s.powered = true → s.slow.boundary ≤ s.clk.now →
    (s.bias n).parked = false → (s.bias n).aim = .parking →
    d = 1048576 * (max 1 (s.fld (R.BIAS_CH_CFG n) Fd.BIAS_CH_CFG_RATE) : Nat) → Completes .biasUpdate s fun t =>
      ((s.flag (R.BIAS_CH_CFG n) Fd.BIAS_CH_CFG_JUMP = true ∨ (s.bias n).out ≤ d ∧ -d ≤ (s.bias n).out) →
        (t.bias n).parked = true ∧ (t.bias n).sin = false ∧ (t.bias n).driven = 0) ∧
      (s.flag (R.BIAS_CH_CFG n) Fd.BIAS_CH_CFG_JUMP = false →
        (d < (s.bias n).out → (t.bias n).parked = false ∧ (t.bias n).out = (s.bias n).out - d) ∧
        ((s.bias n).out < -d → (t.bias n).parked = false ∧ (t.bias n).out = (s.bias n).out + d))) ∧
  (∀ (n : Fin 64) (s : State), s.powered = true → s.slow.boundary ≤ s.clk.now → (s.bias n).parked = true →
    Completes .biasUpdate s fun t => (t.bias n).parked = true ∧
      ((s.bias n).step = .none_ → (t.bias n).driven = 0 ∧ (t.bias n).range = (s.bias n).range ∧
        (t.bias n).step = .none_) ∧
      ((s.bias n).step = .waitGlide → (s.bias n).susp = false → (t.bias n).range = (s.bias n).req ∧
        ((s.bias n).later = none → (t.bias n).rangePend = false) ∧
        (t.bias n).target =
          if s.biasLoads n ((s.slow.loads.filter fun r => decide (r.after ≤ s.slow.boundary)).map (·.group)) = true
          then s.fld (R.BIAS_CH_CODE n) Fd.BIAS_CH_CODE_CODE else (s.bias n).reqCode)) ∧
  (∀ (n : Fin 64) (lo hi : Int) (s : State), s.powered = true → s.slow.boundary ≤ s.clk.now →
    (s.bias n).parked = false → (lo, hi) = rangeLimits (s.bias n).range → Completes .biasUpdate s fun t =>
      (t.bias n).parked = false → (t.bias n).driven = max lo (min hi ((t.bias n).out +
        (if (t.bias n).sin = true then
          sineAt (s.fld (R.BIAS_CH_SIN_AMP n) Fd.BIAS_CH_SIN_AMP_VALUE) (t.bias n).phase else 0))) ∧
      ((t.bias n).driven ≠ (t.bias n).out + (if (t.bias n).sin = true then
          sineAt (s.fld (R.BIAS_CH_SIN_AMP n) Fd.BIAS_CH_SIN_AMP_VALUE) (t.bias n).phase else 0) →
        t.flag (R.BIAS_CH_FLAGS n) Fd.BIAS_CH_FLAGS_CLIPPED = true))) ∧
  ((∀ (n : Fin 64) (f : Nat) (s : State), s.powered = true → s.slow.boundary ≤ s.clk.now →
    (s.bias n).parked = false → (s.bias n).step = .none_ → (s.bias n).susp = false → (s.bias n).aim = .target →
    f = max 1 (min 429496730 (s.reg (R.BIAS_CH_SIN_FTW n)).toNat) → Completes .biasUpdate s fun t =>
      ((s.bias n).sin = false → (s.bias n).sinWait = true → (s.bias n).unpark = false →
        (t.bias n).sin = true ∧ (t.bias n).phase = 0 ∧ (t.bias n).sinWait = false) ∧
      ((s.bias n).sin = false → ((s.bias n).sinWait = false ∨ (s.bias n).unpark = true) → (t.bias n).sin = false) ∧
      ((s.bias n).sin = true → ((s.bias n).phase + f < 2 ^ 32 ∨ (s.bias n).sinStop = false) →
        (t.bias n).sin = true ∧ (t.bias n).phase = ((s.bias n).phase + f) % 2 ^ 32) ∧
      ((s.bias n).sin = true → 2 ^ 32 ≤ (s.bias n).phase + f → (s.bias n).sinStop = true →
        (t.bias n).sin = false ∧ (t.bias n).phase = 0)) ∧
  (∀ (n : Fin 64) (g d : Int) (s : State), s.powered = true → s.slow.boundary ≤ s.clk.now →
    s.safeLow = false → (s.bias n).parked = false → (s.bias n).susp = false → (s.bias n).aim = .target →
    s.flag (R.BIAS_CH_CFG n) Fd.BIAS_CH_CFG_JUMP = false →
    g = codeVolt (s.bias n).range (s.bias n).target →
    d = 1048576 * (max 1 (s.fld (R.BIAS_CH_CFG n) Fd.BIAS_CH_CFG_RATE) : Nat) → Completes .biasUpdate s fun t =>
      ((s.bias n).step = .waitGlide → (d < g - (s.bias n).out ∨ d < (s.bias n).out - g) →
        (t.bias n).step = .waitGlide ∧ (t.bias n).range = (s.bias n).range ∧ (t.bias n).parked = false) ∧
      ((s.bias n).step = .waitGlide → g ≠ 0 → (s.bias n).out = g → (t.bias n).out = g ∧
        (t.bias n).step = if (s.bias n).sin = true then .waitWrap else .toZero) ∧
      ((s.bias n).step = .waitWrap → g ≠ 0 → (s.bias n).out = g → (s.bias n).sin = true →
        (t.bias n).step = if (s.bias n).phase + s.sinFtw n < 2 ^ 32 then .waitWrap else .toZero) ∧
      ((s.bias n).step = .toZero → (s.bias n).out ≤ d → -d ≤ (s.bias n).out → (t.bias n).parked = true ∧
        (t.bias n).step = .switching (s.clk.now + 120000)) ∧
      ((s.bias n).step = .toZero → d < (s.bias n).out → (t.bias n).step = .toZero ∧
        (t.bias n).out = (s.bias n).out - d) ∧
      ((s.bias n).step = .toZero → (s.bias n).out < -d → (t.bias n).step = .toZero ∧
        (t.bias n).out = (s.bias n).out + d)) ∧
  (∀ (i : Fin 18) (v : Bool) (s : State), s.powered = true → (s.clk.phAon ≠ 0 ∨ bitAt s.slow.panel i = v) →
    exec (.panelLevelChange i v) s = .next s) ∧
  (∀ (i : Fin 18) (v : Bool) (s : State), s.powered = true → s.clk.phAon = 0 →
    Completes (.panelLevelChange i v) s fun t => bitAt t.slow.panel i = v ∧
      (∀ k, k ≠ i.val → bitAt t.slow.panel k = bitAt s.slow.panel k) ∧
      (i.val < 16 → t.slow.bias = s.slow.bias ∧ t.slow.loads = s.slow.loads)) ∧
  (∀ (g : Nat) (s : State), s.powered = true → s.clk.phAon = 0 → bitAt s.slow.panel 17 = true →
    g < 8 → s.fbit R.BIAS_GRP_CFG Fd.BIAS_GRP_CFG_PIN g = true → Completes (.panelLevelChange 17 false) s fun t =>
      (s.safeLow = false → { group := g, after := s.clk.now + 240, fabric := false } ∈ t.slow.loads) ∧
      (s.safeLow = true → t.slow.loads = s.slow.loads ∧
        t.flag R.BIAS_STATUS Fd.BIAS_STATUS_LOAD_BLOCK = true))) ∧
  ((∀ (who : Who) (n : Fin 64) (v : Word) (s : State), s.powered = true → s.reaches who = false →
    exec (.unpark who n) s = .next s ∧ exec (.biasRangeRequest who n v) s = .next s) ∧
  (∀ (who : Who) (n : Fin 64) (s : State), s.powered = true → s.reaches who = true →
    Completes (.unpark who n) s fun t =>
    (s.safeLow = true → t.slow = s.slow ∧ t.flag R.TOP_ACCESS Fd.TOP_ACCESS_ACCESS_DENIED = true) ∧
    (s.safeLow = false → (s.bias n).parked = true → (s.bias n).step ∈ [.none_, .waitGlide, .waitWrap, .toZero] →
      (t.bias n).parked = false ∧ (t.bias n).out = 0 ∧ (t.bias n).aim = .target ∧
      (t.bias n).target = (s.bias n).target ∧ t.ap = s.ap) ∧
    (s.safeLow = false → ((s.bias n).parked = false ∨
      (s.bias n).step ∉ [RangeStep.none_, .waitGlide, .waitWrap, .toZero]) → t = s)) ∧
  (∀ (n : Fin 64) (s : State), s.powered = true → Completes (.park n) s fun t => t.ap = s.ap ∧
    (∀ k, k ≠ n.val → t.bias k = s.bias k) ∧
    (((s.bias n).parked = false ∨ (s.bias n).step ∉ [RangeStep.none_, .waitGlide, .waitWrap, .toZero]) →
      t.bias n = { s.bias n with aim := .parking } ∧ (t.bias n).goal = 0) ∧
    ((s.bias n).parked = true → (s.bias n).step ∈ [.none_, .waitGlide, .waitWrap, .toZero] → t = s)) ∧
  (∀ (who : Who) (n : Fin 64) (v : Word) (r c : Nat) (s : State), s.powered = true → s.reaches who = true →
    r = v.toNat / 2 ^ 20 % 8 → c = v.toNat % 2 ^ 20 →
    Completes (.biasRangeRequest who n v) s fun t => ((s.safeLow = true ∨ 5 ≤ r) → t.slow = s.slow ∧
      t.flag R.TOP_ACCESS Fd.TOP_ACCESS_ACCESS_DENIED = true) ∧
    (s.safeLow = false → r < 5 → t.fld (R.BIAS_CH_RANGE n) Fd.BIAS_CH_RANGE_CODE = c ∧
      t.fld (R.BIAS_CH_RANGE n) Fd.BIAS_CH_RANGE_REQ = r ∧ (t.bias n).range = (s.bias n).range ∧
      ((s.bias n).step ∈ [.none_, .waitGlide, .waitWrap] → ((t.bias n).rangePend = true ↔ r ≠ (s.bias n).range) ∧
        (r ≠ (s.bias n).range → (t.bias n).req = r ∧ (t.bias n).reqCode = c)) ∧
      ((s.bias n).step ∉ [RangeStep.none_, .waitGlide, .waitWrap] →
        t.bias n = { s.bias n with later := some (r, c) }))) ∧
  (∀ (n : Fin 64) (due : Nat) (s : State), s.powered = true →
    ((s.bias n).step ∈ [RangeStep.none_, .waitGlide, .waitWrap, .toZero] → exec (.biasRangeSwitchDone n) s = .next s) ∧
    ((s.bias n).step = .switching due → s.clk.now < due → exec (.biasRangeSwitchDone n) s = .next s) ∧
    ((s.bias n).step = .switching due → due ≤ s.clk.now → s.safeLow = false → (s.bias n).aim ∈ [.target, .safe] →
      (s.bias n).later = none → Completes (.biasRangeSwitchDone n) s fun t =>
        (t.bias n).range = (s.bias n).req ∧ (t.bias n).target = (s.bias n).reqCode ∧
        (t.bias n).parked = false ∧ (t.bias n).out = 0 ∧ (t.bias n).step = .none_ ∧
        (t.bias n).sinWait = s.flag (R.BIAS_CH_CTL n) Fd.BIAS_CH_CTL_SIN_EN)) ∧
  (∀ (n : Fin 64) (due : Nat) (s : State), s.powered = true → (s.bias n).step = .switching due → due ≤ s.clk.now →
    s.safeLow = true → (s.bias n).aim ∈ [.target, .safe] → (s.bias n).later = none →
    Completes (.biasRangeSwitchDone n) s fun t => (t.bias n).range = (s.bias n).req ∧
      (t.bias n).target = s.fld (R.BIAS_CH_SAFE n) Fd.BIAS_CH_SAFE_CODE ∧ (t.bias n).aim = .safe ∧
      (t.bias n).parked = false ∧ t.flag (R.BIAS_CH_CTL n) Fd.BIAS_CH_CTL_SIN_EN = false ∧
      (t.bias n).sinWait = false) ∧
  (∀ (n : Fin 64) (due : Nat) (s : State), s.powered = true → (s.bias n).step = .switching due → due ≤ s.clk.now →
    (s.bias n).aim ∈ [.parking, .parkSafe] → (s.bias n).later = none →
    Completes (.biasRangeSwitchDone n) s fun t => (t.bias n).range = (s.bias n).req ∧ (t.bias n).parked = true ∧
      (t.bias n).aim = .target ∧ (t.bias n).step = .none_)) ∧
  ((∀ (n : Fin 64) (s : State), s.powered = true → Completes (.sinStart n) s fun t =>
    ((s.safeLow = false ∨ (s.bias n).parked = true) →
      t.flag (R.BIAS_CH_CTL n) Fd.BIAS_CH_CTL_SIN_EN = true ∧
      ((s.bias n).sin = false → t.bias n = { s.bias n with sinWait := true }) ∧
      ((s.bias n).sin = true → t.bias n = { s.bias n with sinStop := false })) ∧
    (s.safeLow = true → (s.bias n).parked = false → t = s)) ∧
  (∀ (n : Fin 64) (s : State), s.powered = true → Completes (.sinStop n) s fun t =>
    t.flag (R.BIAS_CH_CTL n) Fd.BIAS_CH_CTL_SIN_EN = false ∧
    ((s.bias n).sin = true → t.bias n = { s.bias n with sinStop := true }) ∧
    ((s.bias n).sin = false → t.bias n = { s.bias n with sinWait := false })) ∧
  (∀ (n : Fin 64) (v win : Int) (s : State), s.powered = true → (s.bias n).parked = false → (s.bias n).sin = false →
    win = (s.fld (R.BIAS_CH_SUP n) Fd.BIAS_CH_SUP_WIN : Nat) →
    Completes (.monitorConversion n false v) s fun t => t.reg (R.BIAS_CH_MONV n) = BitVec.ofInt 32 v ∧
      (win ≠ 0 → win * 100 * 1048576 < mag (v * 1048576 - (s.bias n).driven) →
        (t.bias n).misses = (s.bias n).misses + 1 ∧
        ((s.bias n).misses ≠ 0 → t.flag (R.BIAS_CH_FLAGS n) Fd.BIAS_CH_FLAGS_MISMATCH = true ∧
          (s.flag (R.BIAS_CH_FLAGS n) Fd.BIAS_CH_FLAGS_MISMATCH = false →
            t.flag R.TOP_IRQ_PEND ⟨6, 1⟩ = true) ∧
          (s.flag (R.BIAS_CH_CFG n) Fd.BIAS_CH_CFG_MM_SAFE = true → (t.bias n).aim = .safe ∧
            (t.bias n).target = s.fld (R.BIAS_CH_SAFE n) Fd.BIAS_CH_SAFE_CODE) ∧
          (s.flag (R.BIAS_CH_CFG n) Fd.BIAS_CH_CFG_MM_SAFE = false → (t.bias n).target = (s.bias n).target ∧
            (t.bias n).aim = (s.bias n).aim)) ∧
        ((s.bias n).misses = 0 → t.flag (R.BIAS_CH_FLAGS n) Fd.BIAS_CH_FLAGS_MISMATCH =
          s.flag (R.BIAS_CH_FLAGS n) Fd.BIAS_CH_FLAGS_MISMATCH ∧ (t.bias n).target = (s.bias n).target)) ∧
      ((win = 0 ∨ mag (v * 1048576 - (s.bias n).driven) ≤ win * 100 * 1048576) → (t.bias n).misses = 0 ∧
        (t.bias n).target = (s.bias n).target ∧ (t.bias n).aim = (s.bias n).aim ∧
        t.flag (R.BIAS_CH_FLAGS n) Fd.BIAS_CH_FLAGS_MISMATCH =
          s.flag (R.BIAS_CH_FLAGS n) Fd.BIAS_CH_FLAGS_MISMATCH)) ∧
  (∀ (n : Fin 64) (i load : Int) (s : State), s.powered = true → (s.bias n).parked = false →
    (s.bias n).sin = false → load = (s.fld (R.BIAS_CH_SUP n) Fd.BIAS_CH_SUP_LOAD : Nat) →
    Completes (.monitorConversion n true i) s fun t => t.reg (R.BIAS_CH_MONI n) = BitVec.ofInt 32 i ∧
      t.reg (R.BIAS_CH_MONV n) = s.reg (R.BIAS_CH_MONV n) ∧ (t.bias n).target = (s.bias n).target ∧
      (t.bias n).out = (s.bias n).out ∧
      (100000 * 1048576 ≤ mag (s.bias n).driven → load ≠ 0 →
        mag i * 40 * load * 1048576 < mag (s.bias n).driven * 1000 → (t.bias n).opens = (s.bias n).opens + 1 ∧
        ((s.bias n).opens ≠ 0 → t.flag (R.BIAS_CH_FLAGS n) Fd.BIAS_CH_FLAGS_OPEN_LOAD = true) ∧
        ((s.bias n).opens = 0 → t.flag (R.BIAS_CH_FLAGS n) Fd.BIAS_CH_FLAGS_OPEN_LOAD =
          s.flag (R.BIAS_CH_FLAGS n) Fd.BIAS_CH_FLAGS_OPEN_LOAD)) ∧
      ((mag (s.bias n).driven < 100000 * 1048576 ∨ load = 0 ∨
          mag (s.bias n).driven * 1000 ≤ mag i * 40 * load * 1048576) → (t.bias n).opens = 0 ∧
        t.flag (R.BIAS_CH_FLAGS n) Fd.BIAS_CH_FLAGS_OPEN_LOAD =
          s.flag (R.BIAS_CH_FLAGS n) Fd.BIAS_CH_FLAGS_OPEN_LOAD)) ∧
  (∀ (n : Fin 64) (i : Bool) (v : Int) (s : State), s.powered = true →
    ((s.bias n).parked = true ∨ (s.bias n).sin = true) → Completes (.monitorConversion n i v) s fun t =>
      t.reg (if i = true then R.BIAS_CH_MONI n else R.BIAS_CH_MONV n) = BitVec.ofInt 32 v ∧
      t.reg (R.BIAS_CH_FLAGS n) = s.reg (R.BIAS_CH_FLAGS n) ∧
      t.bias n = { s.bias n with misses := 0, opens := 0 }))

/-- R409 to R414, R416, R417. -/
def Obligations.SensorScan : Prop :=
  (∀ s : State, s.powered = true → Completes .scanRun s fun t => (s.scanning = true → t = s) ∧
    (s.scanning = false → t.scanning = true ∧ t.slow.scan.entry = 0 ∧ t.slow.scan.excited = true ∧
      t.slow.scan.readings = [] ∧ t.slow.scan.settle = s.clk.now +
        300000 * max 1 (s.fld (R.SENSE_SCAN_B 0) Fd.SENSE_SCAN_B_SETTLE) +
        scanFill (s.reg (R.SENSE_SCAN_A 0)).toNat (s.reg (R.SENSE_SCAN_B 0)).toNat)) ∧
  (∀ s : State, s.powered = true → Completes .scanStop s fun t => (s.scanning = false → t = s) ∧
    (s.scanning = true → t.scanning = false ∧ t.slow.scan.excited = false ∧ t.slow.scan.readings = [] ∧
      t.flag (R.SENSE_CH_FLAGS s.scanCh) Fd.SENSE_CH_FLAGS_STALE = true)) ∧
  (∀ (r : Reading) (s : State), s.powered = true → s.readingDue = false → exec (.sensorReading r) s = .next s) ∧
  (∀ (r : Reading) (s : State), s.powered = true → s.readingDue = true → Completes (.sensorReading r) s fun t =>
    t.reg (R.SENSE_CH_RES s.scanCh) = s.reg (R.SENSE_CH_RES s.scanCh) ∧
    (2 * sext 16 (s.fld (R.SENSE_CH_CM s.scanCh) Fd.SENSE_CH_CM_CM_HI) < r.vp + r.vn →
      t.flag (R.SENSE_CH_FLAGS s.scanCh) Fd.SENSE_CH_FLAGS_OPEN = true ∧ t.slow.scan.failed = true) ∧
    (r.vp + r.vn ≤ 2 * sext 16 (s.fld (R.SENSE_CH_CM s.scanCh) Fd.SENSE_CH_CM_CM_HI) →
      r.vp + r.vn < 2 * sext 16 (s.fld (R.SENSE_CH_CM s.scanCh) Fd.SENSE_CH_CM_CM_LO) →
      t.flag (R.SENSE_CH_FLAGS s.scanCh) Fd.SENSE_CH_FLAGS_SHORT = true ∧ t.slow.scan.failed = true) ∧
    (r.fullScale = true → t.flag (R.SENSE_CH_FLAGS s.scanCh) Fd.SENSE_CH_FLAGS_OVERRANGE = true ∧
      t.slow.scan.failed = true) ∧
    (∀ k < 2, t.slow.scan.failed = true → s.loopFollows k s.scanCh = true →
      s.flag (R.SENSE_LOOP_CFG k) Fd.SENSE_LOOP_CFG_FAULT_EN = true → (t.loop k).atFault = true ∧
      (t.loop k).cmd = if s.flag (R.SENSE_LOOP_CFG k) Fd.SENSE_LOOP_CFG_FAULT_HI = true then 21000 else 3600) ∧
    (s.commonMode s.scanCh r = none → r.fullScale = false → t.ap = s.ap ∧ t.slow.scan.failed = false ∧
      t.slow.scan.readings = s.slow.scan.readings ++
        [((sensedOhms r (scanThree s.scanA)).1.toNat, (sensedOhms r (scanThree s.scanA)).2.toNat)])) ∧
  (∀ (e : Nat) (s : State), s.powered = true →
    ((s.scanning = false ∨ s.slow.scan.failed = false ∧ s.slow.scan.readings.length < scanAvg s.slow.scan.cfg) →
      exec .scanEntryEnd s = .next s) ∧
    (s.scanning = true → e = (if s.fld R.SENSE_CTL Fd.SENSE_CTL_LAST ≤ s.slow.scan.entry then 0
        else s.slow.scan.entry + 1) →
      (s.slow.scan.failed = true ∨ scanAvg s.slow.scan.cfg ≤ s.slow.scan.readings.length) →
      Completes .scanEntryEnd s fun t => t.slow.scan.entry = e ∧ t.slow.scan.readings = [] ∧
        t.slow.scan.failed = false ∧
        (s.slow.scan.failed = true → t.flag (R.SENSE_CH_FLAGS s.scanCh) Fd.SENSE_CH_FLAGS_STALE = true ∧
          t.reg (R.SENSE_CH_RES s.scanCh) = s.reg (R.SENSE_CH_RES s.scanCh) ∧
          t.reg (R.SENSE_CH_TEMP s.scanCh) = s.reg (R.SENSE_CH_TEMP s.scanCh) ∧
          t.reg (R.SENSE_CH_LEAD s.scanCh) = s.reg (R.SENSE_CH_LEAD s.scanCh)) ∧
        (s.slow.scan.failed = false → t.flag (R.SENSE_CH_FLAGS s.scanCh) Fd.SENSE_CH_FLAGS_NEW = true ∧
          t.flag (R.SENSE_CH_FLAGS s.scanCh) Fd.SENSE_CH_FLAGS_STALE = false ∧
          t.fld (R.SENSE_CH_FLAGS s.scanCh) Fd.SENSE_CH_FLAGS_RESTARTS = 0 ∧
          t.reg (R.SENSE_CH_RES s.scanCh) =
            (meanOf (s.slow.scan.readings.map fun r => BitVec.ofNat 32 r.1)).word ∧
          (t.reg (R.SENSE_CH_TEMP s.scanCh) = s.reg (R.SENSE_CH_TEMP s.scanCh) ∧
            t.flag (R.SENSE_CH_FLAGS s.scanCh) Fd.SENSE_CH_FLAGS_LIN_ERR = true ∨
           t.reg (R.SENSE_CH_TEMP s.scanCh) = (s.linearise (bitsOf s.scanA 19 3) (bitAt s.scanA 22)
            (meanOf (s.slow.scan.readings.map fun r => BitVec.ofNat 32 r.1))).word)))) ∧
  (∀ (i : Fin 32) (v : Word) (s : State), s.powered = true → s.scanning = true → s.slow.scan.entry = i →
    s.slow.scan.failed = false → (s.reg (R.SENSE_SCAN_A i)).toNat % 2 ^ 19 ≠ v.toNat % 2 ^ 19 →
    Completes (.excitationSwitch i v) s fun t => t.slow.scan.readings = [] ∧
      t.flag (R.SENSE_CH_FLAGS s.scanCh) Fd.SENSE_CH_FLAGS_STALE = true ∧
      t.flag (R.SENSE_CH_FLAGS (v.toNat % 16)) Fd.SENSE_CH_FLAGS_STALE = true ∧
      (s.fld (R.SENSE_CH_FLAGS (v.toNat % 16)) Fd.SENSE_CH_FLAGS_RESTARTS < 15 → t.slow.scan.entry = i ∧
        t.slow.scan.settle = s.clk.now + scanSettle s.slow.scan.cfg +
          scanFill (v.toNat % 2 ^ 23) s.slow.scan.cfg ∧
        t.fld (R.SENSE_CH_FLAGS (v.toNat % 16)) Fd.SENSE_CH_FLAGS_RESTARTS =
          s.fld (R.SENSE_CH_FLAGS (v.toNat % 16)) Fd.SENSE_CH_FLAGS_RESTARTS + 1) ∧
      (15 ≤ s.fld (R.SENSE_CH_FLAGS (v.toNat % 16)) Fd.SENSE_CH_FLAGS_RESTARTS →
        t.flag (R.SENSE_CH_FLAGS (v.toNat % 16)) Fd.SENSE_CH_FLAGS_SETTLE_FAULT = true ∧
        t.slow.scan.entry = if s.fld R.SENSE_CTL Fd.SENSE_CTL_LAST ≤ i.val then 0 else i.val + 1)) ∧
  (∀ (i : Fin 32) (v : Word) (s : State), s.powered = true →
    (s.scanning = false ∨ s.slow.scan.entry ≠ i ∨ s.slow.scan.failed = true ∨
      (s.reg (R.SENSE_SCAN_A i)).toNat % 2 ^ 19 = v.toNat % 2 ^ 19) →
    Completes (.excitationSwitch i v) s fun t => t.slow = s.slow ∧
      (t.reg (R.SENSE_SCAN_A i)).toNat = v.toNat % 2 ^ 23 ∧ ∀ o, o ≠ R.SENSE_SCAN_A i → t.reg o = s.reg o) ∧
  (∀ (k : Fin 2) (v : BitVec 16) (s : State), s.powered = true → Completes (.loopReadback k v) s fun t =>
    t.fld (R.SENSE_LOOP_STAT k) Fd.SENSE_LOOP_STAT_IOUT = v.toNat ∧ (t.loop k).cmd = (s.loop k).cmd ∧
    (2 ≤ (s.loop k).bad → ((s.loop k).cmd + 200 < v.toNat ∨ v.toNat + 200 < (s.loop k).cmd) →
      t.flag (R.SENSE_LOOP_STAT k) Fd.SENSE_LOOP_STAT_LOOP_FAULT = true) ∧
    ((s.loop k).bad < 2 → ((s.loop k).cmd + 200 < v.toNat ∨ v.toNat + 200 < (s.loop k).cmd) →
      (t.loop k).bad = (s.loop k).bad + 1 ∧ t.flag (R.SENSE_LOOP_STAT k) Fd.SENSE_LOOP_STAT_LOOP_FAULT =
        s.flag (R.SENSE_LOOP_STAT k) Fd.SENSE_LOOP_STAT_LOOP_FAULT) ∧
    (v.toNat ≤ (s.loop k).cmd + 200 → (s.loop k).cmd ≤ v.toNat + 200 → (t.loop k).bad = 0 ∧
      t.flag (R.SENSE_LOOP_STAT k) Fd.SENSE_LOOP_STAT_LOOP_FAULT =
        s.flag (R.SENSE_LOOP_STAT k) Fd.SENSE_LOOP_STAT_LOOP_FAULT))

/-- R419, R420, R422 to R428. -/
def Obligations.ThermalSamples : Prop :=
  (∀ (ts : List Int) (ds : List (Option Int)) (s : State), s.powered = true → s.clk.now < s.therm.due →
    exec (.thermalSample ts ds) s = .next s) ∧
  (∀ (ts rs : List Int) (ds : List (Option Int)) (m : Int) (s : State), s.powered = true → s.therm.due ≤ s.clk.now →
    s.isLatched = false → s.hold = none → s.transit = none → rs = ((List.range 32).map fun i => reading (ts.getD i 0)) →
    (∀ i < 32, s.brokenCause rs i = 0) → (∀ i < 32, s.riseOf rs i ≤ s.shedRise ∧ s.riseOf rs i ≤ s.latchRise) →
    (∀ k < 2, s.diodeHi ds k = false) → m ∈ rs → (∀ r ∈ rs, r ≤ m) → Completes (.thermalSample ts ds) s fun t =>
      t.therm.tj = m ∧ t.therm.due = s.therm.due + 300000 ∧
      (s.therm.action = .none_ → m < s.shedT → m < s.convT → m < s.latchT → t.mode = s.mode ∧ t.hold = none ∧
        t.therm.action = .none_ ∧ (t.therm.rearmOk = true ↔ m ≤ s.rearmT)) ∧
      (s.therm.action = .none_ → s.shedT ≤ m → m < s.convT → m < s.latchT → t.therm.action = .shed ∧
        t.therm.rearmOk = false ∧ t.flag R.THERM_FLAGS Fd.THERM_FLAGS_SHED = true ∧
        (s.mode = .run → t.mode = .run ∧ (∀ b < 8, bitAt (t.fm b).trapPend 9 = true) ∧ ∃ h, t.hold = some h ∧
          h.shed = true ∧
          h.shedDue = s.clk.now + 3000 * max 1 (s.fld R.THERM_RISE Fd.THERM_RISE_SHED_DEADLINE)) ∧
        (s.mode = .armed → t.mode = .hold) ∧ (s.mode = .trim ∨ s.mode = .service → t.mode = .idle)) ∧
      (s.therm.action ≠ .convOff → s.convT ≤ m → m < s.latchT → t.therm.action = .convOff ∧ t.out.convs = [] ∧
        t.flag R.THERM_FLAGS Fd.THERM_FLAGS_CONV_OFF = true ∧ (s.mode = .run ∨ s.mode = .armed → t.mode = .hold) ∧
        (s.mode = .run → t.flag R.TOP_BREACH Fd.TOP_BREACH_TIER3 = true)) ∧
      (s.latchT ≤ m → t.therm.thermN = true ∧ t.therm.action = .latch ∧
        t.therm.latchDue = some (s.clk.now + 150000000) ∧ (t.clk.core = false ∨ t.clk.stopPend = true)) ∧
      (s.therm.action ≠ .none_ → m < s.rearmT → m < s.shedT → m < s.convT → m < s.latchT →
        t.therm.action = .none_ ∧ t.therm.rearmOk = true ∧ t.mode = s.mode)) ∧
  (∀ (ts rs : List Int) (ds : List (Option Int)) (i : Nat) (s : State), s.powered = true → s.therm.due ≤ s.clk.now →
    s.isLatched = false → rs = ((List.range 32).map fun i => reading (ts.getD i 0)) →
    (∀ j < 32, s.brokenCause rs j = 0) → (∀ j < 32, s.riseOf rs j ≤ s.latchRise) →
    (∀ r ∈ rs, r < s.convT ∧ r < s.latchT) → i < 32 → s.shedRise < s.riseOf rs i → s.therm.action = .none_ →
    Completes (.thermalSample ts ds) s fun t => t.therm.action = .shed ∧ t.therm.rearmOk = false ∧
      t.flag R.THERM_FLAGS Fd.THERM_FLAGS_RISE = true ∧ t.flag R.THERM_FLAGS Fd.THERM_FLAGS_SHED = true) ∧
  (∀ (ts rs : List Int) (ds : List (Option Int)) (i : Nat) (s : State), s.powered = true → s.therm.due ≤ s.clk.now →
    s.isLatched = false → rs = ((List.range 32).map fun i => reading (ts.getD i 0)) → i < 32 →
    s.latchRise < s.riseOf rs i → Completes (.thermalSample ts ds) s fun t => t.therm.thermN = true ∧
      t.therm.action = .latch ∧ t.therm.latchDue = some (s.clk.now + 150000000) ∧
      (s.shedRise < s.riseOf rs i → t.flag R.THERM_FLAGS Fd.THERM_FLAGS_RISE = true)) ∧
  (∀ (ts rs : List Int) (ds : List (Option Int)) (k : Nat) (s : State), s.powered = true → s.therm.due ≤ s.clk.now →
    s.isLatched = false → rs = ((List.range 32).map fun i => reading (ts.getD i 0)) →
    (∀ j < 32, s.brokenCause rs j = 0) → (∀ j < 32, s.riseOf rs j ≤ s.latchRise) →
    (∀ r ∈ rs, r < s.convT ∧ r < s.latchT) → k < 2 → s.therm.action = .none_ →
    Completes (.thermalSample ts ds) s fun t =>
      (s.diodeHi ds k = true → t.flag R.THERM_FLAGS Fd.THERM_FLAGS_REMOTE_HI = true ∧
        (s.flag (R.THERM_DIODE k) Fd.THERM_DIODE_HI_SHED = true → t.therm.action = .shed)) ∧
      ((ds.getD k none).isNone = true → t.flag R.THERM_FLAGS Fd.THERM_FLAGS_DIODE_FAULT = true ∧
        NMap.get (fun _ => 0) t.therm.diodes k = 0 ∧ bitAt t.therm.diodeFault k = true)) ∧
  (∀ (ts rs : List Int) (ds : List (Option Int)) (i : Nat) (s : State), s.powered = true → s.therm.due ≤ s.clk.now →
    s.isLatched = false → 16 ≤ s.therm.samples → rs = ((List.range 32).map fun i => reading (ts.getD i 0)) → i < 32 →
    s.brokenCause rs i ≠ 0 → Completes (.thermalSample ts ds) s fun t => t.therm.thermN = true ∧
      t.therm.action = .latch ∧ t.flag R.THERM_FLAGS Fd.THERM_FLAGS_BROKEN = true) ∧
  (∀ (ts rs : List Int) (ds : List (Option Int)) (i : Nat) (s : State), s.powered = true → s.therm.due ≤ s.clk.now →
    s.isLatched = false → s.therm.samples < 16 → rs = ((List.range 32).map fun i => reading (ts.getD i 0)) → i < 32 →
    s.brokenCause rs i ≠ 0 → Completes (.thermalSample ts ds) s fun t => t.therm.bootBad = true ∧
      t.flag R.THERM_FLAGS Fd.THERM_FLAGS_BROKEN = true ∧ t.therm.samples = s.therm.samples + 1) ∧
  (∀ (ts rs : List Int) (ds : List (Option Int)) (s : State), s.powered = true → s.therm.due ≤ s.clk.now →
    s.isLatched = true → rs = ((List.range 32).map fun i => reading (ts.getD i 0)) →
    Completes (.thermalSample ts ds) s fun t => t.mode = s.mode ∧ t.ap = s.ap ∧ t.host = s.host ∧
      t.transit = s.transit ∧ t.therm.action = s.therm.action ∧ t.therm.due = s.therm.due + 300000 ∧
      ∀ i < 32, (t.sensor i).temp = rs.getD i 0) ∧
  (∀ (h : HoldReq) (s : State), s.powered = true →
    ((s.hold = none ∨ s.mode ≠ .run) → exec .shedDeadline s = .next s) ∧
    (s.hold = some h → (h.shed = false ∨ s.clk.now < h.shedDue) → exec .shedDeadline s = .next s) ∧
    (s.hold = some h → s.mode = .run → h.shed = true → h.shedDue ≤ s.clk.now → h.follow = none →
      Completes .shedDeadline s fun t => t.mode = .hold ∧ t.hold = none ∧
        t.flag R.TOP_BREACH Fd.TOP_BREACH_TIER3 = true)) ∧
  (∀ s : State, s.powered = true → (s.therm.latchDue = none → exec .latchedEntry s = .next s) ∧
    (s.therm.latchDue.isSome = true → Completes .latchedEntry s fun t => t.mode = .latched ∧
      t.therm.latchDue = none ∧ t.transit = none ∧
      ∃ r, t.host.ledger = s.host.ledger ++ [r] ∧ r.kind = .latch ∧ r.seq = s.host.nextSeq))

/-- R430, R431, R433 to R436. -/
def Obligations.SurveysAndLedger : Prop :=
  (∀ (r : SurveyResult) (s : State), s.powered = true → s.mode = .trim → s.therm.surveying = true →
    Completes (.surveyComplete r) s fun t => t.therm.surveying = false ∧ t.therm.plan = s.therm.plan ∧
      (r.committed = true → ∃ p, t.therm.pend = some p ∧ p.seq = s.host.nextSeq ∧
        t.host.nextSeq = s.host.nextSeq + 1 ∧
        (∃ x, t.host.ledger = s.host.ledger ++ [x] ∧ x.kind = .survey ∧ x.seq = s.host.nextSeq ∧
          x.powerOn = s.host.powerOns ∧ x.made = s.clk.now) ∧
        (∀ d < 4, p.offset d = planOffset (s.therm.plan.offset d) (s.fld R.AGE_CFG Fd.AGE_CFG_TARGET : Int)
          (r.margins.getD d 0) (s.fld R.AGE_CFG Fd.AGE_CFG_STEP_MAX)) ∧
        p.trims = (if s.trim.full = true then r.trims else s.therm.plan.trims) ∧ p.life = min 65535 r.months ∧
        (p.rateUp = true ↔ s.trim.full = true ∧ s.fld R.AGE_CFG Fd.AGE_CFG_RATE_UP ≤ r.eye ∧
          s.therm.eyeGood = true ∧ s.memc.rate < 22) ∧
        (t.therm.eyeGood = true ↔ if s.trim.full = true then s.fld R.AGE_CFG Fd.AGE_CFG_RATE_UP ≤ r.eye
          else s.therm.eyeGood = true)) ∧
      (r.committed = false → t.therm.pend = s.therm.pend ∧ t.host.ledger = s.host.ledger ∧
        t.flag R.AGE_STATUS Fd.AGE_STATUS_LEDGER_FAIL = true ∧
        t.flag R.AGE_STATUS Fd.AGE_STATUS_SURVEY_INCOMPLETE = true)) ∧
  (∀ (old target margin : Int) (n : Nat), -12 ≤ old → old ≤ 24 → -12 ≤ planOffset old target margin n ∧
    planOffset old target margin n ≤ 24 ∧ planOffset old target margin n - old ≤ max 1 n ∧
    old - planOffset old target margin n ≤ max 1 n ∧
    (10 * target - margin ≤ 25 * max 1 n → margin - 10 * target ≤ 25 * max 1 n →
      (10 * target - margin ≤ 25 * (planOffset old target margin n - old) ∨ planOffset old target margin n = 24) ∧
      (25 * (planOffset old target margin n - old) < 10 * target - margin + 25 ∨
        planOffset old target margin n = -12))) ∧
  (∀ (r : SurveyResult) (s : State), s.powered = true → (s.mode ≠ .trim ∨ s.therm.surveying = false) →
    exec (.surveyComplete r) s = .next s) ∧
  (∀ s : State, s.powered = true →
    ((s.mode ≠ .idle ∨ 10 * s.host.ledger.length < 147456) → exec .ledgerCompaction s = .next s) ∧
    (s.mode = .idle → 147456 ≤ 10 * s.host.ledger.length → (s.host.ledger.map (·.seq)).Nodup →
      Completes .ledgerCompaction s fun t => (∀ r ∈ s.host.ledger, r.kind ≠ .survey → r ∈ t.host.ledger) ∧
      (∀ r ∈ (s.host.ledger.filter (·.kind == .survey)).drop
        ((s.host.ledger.filter (·.kind == .survey)).length - 1024), r ∈ t.host.ledger) ∧
      (∀ r ∈ s.host.ledger, r ∉ t.host.ledger →
        ∃ x ∈ t.host.ledger, x.kind = .annual ∧ x.data = [r.year]) ∧
      t.fld R.AGE_LEDGER Fd.AGE_LEDGER_COMPACTIONS =
        min (s.fld R.AGE_LEDGER Fd.AGE_LEDGER_COMPACTIONS + 1) 65535)) ∧
  (∀ s : State, s.powered = true → (s.mode ≠ .idle → s.mode ≠ .boot → exec .ledgerRefresh s = .next s) ∧
    ((s.mode = .idle ∨ s.mode = .boot) → Completes .ledgerRefresh s fun t => t.mem = s.mem ∧ t.ap = s.ap ∧
      t.host.ledger.map (·.seq) = s.host.ledger.map (·.seq) ∧ t.host.ledger.map (·.data) = s.host.ledger.map (·.data) ∧
      t.host.ledger.map (·.kind) = s.host.ledger.map (·.kind) ∧
      t.host.ledger.map (·.made) = s.host.ledger.map (·.made) ∧
      ∀ r ∈ t.host.ledger, s.clk.now < r.written + 43800 * 10800000000000 ∨ s.clk.now ≤ r.written))

/-- R437 to R439, R441 to R444, R448. -/
def Obligations.HostLinks : Prop :=
  (∀ s : State, s.powered = true → Completes .pcieReset s fun t =>
    t.flag R.TALLY_CTL Fd.TALLY_CTL_DRAIN_EN = false ∧ (∀ o, o ≠ R.TALLY_CTL → t.reg o = s.reg o) ∧
    t.fld R.TALLY_CTL Fd.TALLY_CTL_DMA = s.fld R.TALLY_CTL Fd.TALLY_CTL_DMA ∧ t.mode = s.mode ∧ t.mem = s.mem ∧
    t.lanes = s.lanes ∧ t.out = s.out ∧ t.slow = s.slow ∧ t.host = s.host) ∧
  (∀ s : State, s.powered = true →
    (s.mode.linked = true → s.host.devid = 0 → Completes .pcieLinkUp s fun t => t.ap = s.ap ∧ t.host.pcieUp = true) ∧
    ((s.mode.linked = false ∨ s.host.devid ≠ 0) → exec .pcieLinkUp s = .next s)) ∧
  (∀ (port : Fin 5) (dev : Fin 64) (depth : Fin 5) (s : State), s.powered = true →
    (port.val = 0 ∨ s.carter port ≠ 2 ∨ depth.val ≤ s.fld R.LINK_TREE Fd.LINK_TREE_DEPTH) →
    exec (.carterAnnounce port dev depth) s = .next s) ∧
  (∀ (port : Fin 5) (dev : Fin 64) (depth : Fin 5) (s : State), s.powered = true → port.val ≠ 0 → s.carter port = 2 →
    s.fld R.LINK_TREE Fd.LINK_TREE_DEPTH < depth.val → Completes (.carterAnnounce port dev depth) s fun t =>
      (depth.val < 4 → (s.host.devid ≠ 0 ∨ (dev.val ≠ 0 ∧ bitAt s.host.reach dev = false)) →
        bitAt t.host.reach dev = true ∧ (∀ d, d ≠ dev.val → bitAt t.host.reach d = bitAt s.host.reach d) ∧
        t.ap = s.ap ∧ t.host.carter = s.host.carter) ∧
      (depth.val < 4 → s.host.devid = 0 → (dev.val = 0 ∨ bitAt s.host.reach dev = true) →
        t.host.reach = s.host.reach ∧ t.flag R.LINK_TREE Fd.LINK_TREE_DUP_DEVID = true ∧
        t.fld R.LINK_TREE Fd.LINK_TREE_BAD_DEVID = dev ∧
        (depth.val = s.fld R.LINK_TREE Fd.LINK_TREE_DEPTH + 1 → t.carter port = 3)) ∧
      (depth.val = 4 → t.host.reach = s.host.reach ∧ t.fld R.LINK_TREE Fd.LINK_TREE_BAD_DEVID = dev ∧
        (s.fld R.LINK_TREE Fd.LINK_TREE_DEPTH = 3 → t.flag R.LINK_TREE Fd.LINK_TREE_DEPTH_ERR = true ∧
          t.carter port = 3))) ∧
  (∀ (port : Fin 5) (s : State), s.powered = true → (s.mode.linked = false ∨ s.carter port < 2) →
    exec (.carterLinkDown port) s = .next s) ∧
  (∀ (port : Fin 5) (s : State), s.powered = true → s.mode.linked = true → 2 ≤ s.carter port →
    Completes (.carterLinkDown port) s fun t => t.carter port = 1 ∧
      t.flag (R.LINK_CARTER port) Fd.LINK_CARTER_WENT_DOWN = true ∧
      (port.val = 0 → t.tally.paused = true ∧ t.host.reach = s.host.reach) ∧
      (port.val ≠ 0 → t.tally = s.tally ∧
        (∀ d k, (d, (port.val, k)) ∈ s.host.below → bitAt t.host.reach d = false) ∧
        (∀ d, (∀ k, (d, (port.val, k)) ∉ s.host.below) → bitAt t.host.reach d = bitAt s.host.reach d))) ∧
  (∀ (port : Fin 5) (s : State), s.powered = true →
    (s.mode.linked = false ∨ 2 ≤ s.carter port ∨ port.val = 0 ∧ s.host.devid = 0) →
    exec (.carterLinkUp port) s = .next s) ∧
  (∀ (port : Fin 5) (s : State), s.powered = true → s.mode.linked = true → s.carter port < 2 →
    (port.val ≠ 0 ∨ s.host.devid ≠ 0) → Completes (.carterLinkUp port) s fun t => t.carter port = 2 ∧
      (port.val ≠ 0 → t.tally = s.tally) ∧
      (port.val = 0 → t.tally.paused = false ∧ 1 ≤ t.fld R.LINK_TREE Fd.LINK_TREE_DEPTH ∧
        ∀ k < 32, s.fbit R.TOP_IRQ_PEND Fd.TOP_IRQ_PEND_BITS k = true →
          s.fbit R.TOP_IRQ_ROUTE_HOST Fd.TOP_IRQ_ROUTE_HOST_BITS k = true →
          .msix (32 * s.host.devid + k) ∈ t.outbox)) ∧
  (∀ (port : Fin 5) (s : State), s.powered = true →
    (s.carter port = 2 → Completes (.carterFrameError port) s fun t => t.fld (R.LINK_CARTER port) Fd.LINK_CARTER_RETRY =
      min (s.fld (R.LINK_CARTER port) Fd.LINK_CARTER_RETRY + 1) 65535 ∧ t.host = s.host ∧
      (∀ o, o ≠ R.LINK_CARTER port → t.reg o = s.reg o)) ∧
    (s.carter port ≠ 2 → exec (.carterFrameError port) s = .next s))

/-- R72, R450, R451, R453, R454, R457, R464. -/
def Obligations.CoreCommands : Prop :=
  (∀ (a b k : Signer) (s : State), s.powered = true → s.mode.hasCores = true → s.coresHeld = false →
    s.host.coresRun = 0 → s.host.customFlash = true →
    (lifeCycle s.host.otp, k) ∈ [(.owned, .owner), (.vendor, .henileo), (.returned, .henileo)] → (a = k ∨ b = k) →
    Completes (.coreImageLoaded ⟨a, b⟩) s fun t => t.host.coresRun = 1 ∧ t.host.coreImage = true ∧
      t.host.mgmtPorter = false ∧ t.flag R.TOP_CORE_STATUS Fd.TOP_CORE_STATUS_NO_IMAGE = false ∧
      (t.flag R.TOP_CORE_STATUS Fd.TOP_CORE_STATUS_IMAGE_B = true ↔ a ≠ k) ∧ t.mode = s.mode ∧
      (s.fld R.TOP_CORE_CTL Fd.TOP_CORE_CTL_WDOG ≠ 0 →
        t.host.wdogDue = s.clk.now + 30000000 * s.fld R.TOP_CORE_CTL Fd.TOP_CORE_CTL_WDOG) ∧
      (s.fld R.TOP_CORE_CTL Fd.TOP_CORE_CTL_WDOG = 0 → t.host.wdogDue = 0)) ∧
  (∀ (a b : Signer) (s : State), s.powered = true → s.mode.hasCores = true → s.coresHeld = false →
    s.host.coresRun = 0 → (s.host.customFlash = false ∨ lifeCycle s.host.otp ∈ [.blank, .scrapped] ∨
      lifeCycle s.host.otp = .owned ∧ a ≠ .owner ∧ b ≠ .owner ∨
      lifeCycle s.host.otp ∈ [.vendor, .returned] ∧ a ≠ .henileo ∧ b ≠ .henileo) →
    Completes (.coreImageLoaded ⟨a, b⟩) s fun t => t.host.coresRun = 0 ∧ t.host.mgmtPorter = true ∧
      t.flag R.TOP_CORE_STATUS Fd.TOP_CORE_STATUS_NO_IMAGE = true ∧ t.mode = s.mode) ∧
  (∀ (a b : Signer) (s : State), s.powered = true →
    (s.mode.hasCores = false ∨ s.coresHeld = true ∨ s.host.coresRun ≠ 0) →
    exec (.coreImageLoaded ⟨a, b⟩) s = .next s) ∧
  (∀ s : State, s.powered = true → Completes .coreHold s fun t => t.coresHeld = true ∧ t.host.coresRun = 0 ∧
    t.host.wdogDue = 0 ∧ t.mode = s.mode ∧ (∀ o, o ≠ R.TOP_CORE_CTL → t.reg o = s.reg o)) ∧
  (∀ s : State, s.powered = true → Completes .coreRelease s fun t => t.coresHeld = false ∧ t.host = s.host ∧
    (∀ o, o ≠ R.TOP_CORE_CTL → t.reg o = s.reg o)) ∧
  (∀ s : State, s.powered = true → Completes .watchdogKick s fun t => t.ap = s.ap ∧
    t.host.coresRun = s.host.coresRun ∧
    (bitAt s.host.coresRun 0 = true → s.fld R.TOP_CORE_CTL Fd.TOP_CORE_CTL_WDOG ≠ 0 →
      t.host.wdogDue = s.clk.now + 30000000 * s.fld R.TOP_CORE_CTL Fd.TOP_CORE_CTL_WDOG) ∧
    ((bitAt s.host.coresRun 0 = false ∨ s.fld R.TOP_CORE_CTL Fd.TOP_CORE_CTL_WDOG = 0) → t.host.wdogDue = 0)) ∧
  (∀ s : State, s.powered = true → s.host.wdogDue ≠ 0 → s.host.wdogDue ≤ s.clk.now → Completes .watchdogFired s fun t =>
    t.coresHeld = true ∧ t.host.coresRun = 0 ∧ t.host.wdogDue = 0 ∧ t.host.mgmtPorter = true ∧
      t.flag R.TOP_CORE_STATUS Fd.TOP_CORE_STATUS_WDOG_FIRED = true ∧
      t.fbit R.TOP_IRQ_PEND Fd.TOP_IRQ_PEND_BITS 8 = true ∧ t.mode = s.mode) ∧
  (∀ s : State, s.powered = true → (s.host.wdogDue = 0 ∨ s.clk.now < s.host.wdogDue) →
    exec .watchdogFired s = .next s) ∧
  (∀ (code : BitVec 8) (s : State), s.powered = true → (s.host.mgmtPorter = false ∨ code = 0 ∨ 6 < code.toNat) →
    exec (.mgmtPacket code) s = .next s) ∧
  (∀ (code : BitVec 8) (j : PorterJob) (s : State), s.powered = true → s.host.mgmtPorter = true → code ≠ 0 →
    code.toNat ≤ 6 →
    Completes (.mgmtPacket code) s fun t => t.outbox = s.outbox ++ [.mgmt code.toNat] ∧ t.mode = s.mode ∧
      ((code.toNat, j) ∈ [(1, .ident), (3, .ledgerKey), (6, .provKey)] →
        (s.host.job = none → t.host.job = some j) ∧ (s.host.job.isSome = true → t.host.job = s.host.job ∧
          t.fld R.PORTER_STATUS Fd.PORTER_STATUS_RESULT = 1)) ∧
      (code.toNat ∈ [2, 4, 5] → t.host = s.host ∧ t.ap = s.ap))

/-- R55, R460 to R463. A wrong MAGIC counts among the refusals of R461 (log entry 47). -/
def Obligations.PorterStarts : Prop :=
  (∀ (q : Word) (p : FwPart) (s : State), s.powered = true → s.porterUp = true → s.host.job = none →
    (Completes .ident s fun t => t.host.job = some .ident ∧ t.ap = s.ap) ∧
    (Completes .ledgerKey s fun t => t.host.job = some .ledgerKey ∧ t.ap = s.ap) ∧
    (Completes .provKey s fun t => t.host.job = some .provKey ∧ t.ap = s.ap) ∧
    (Completes (.ledgerRead q) s fun t => t.host.job = some (.ledgerRead q.toNat) ∧ t.ap = s.ap) ∧
    (Completes (.fwWrite p) s fun t =>
      t.host.job = some (.fwWrite p.bytes p.last p.verifies p.version) ∧ t.host.fwA = s.host.fwA ∧
      t.host.fwB = s.host.fwB)) ∧
  (∀ (c : Instr) (q : Word) (p : FwPart) (k : Token) (s : State), s.powered = true → s.porterUp = true →
    s.host.job.isSome = true → c ∈ [.ident, .ledgerKey, .provKey, .ledgerRead q, .fwWrite p, .lcToken k] →
    Completes c s fun t => t.host = s.host ∧ t.fld R.PORTER_STATUS Fd.PORTER_STATUS_RESULT = 1 ∧
      (∀ o, o ≠ R.PORTER_STATUS → t.reg o = s.reg o)) ∧
  (∀ (c : Instr) (q : Word) (p : FwPart) (k : Token) (s : State), s.powered = true → s.porterUp = false →
    c ∈ [.ident, .ledgerKey, .provKey, .ledgerRead q, .fwWrite p, .lcToken k] → exec c s = .next s) ∧
  (∀ (k : Token) (s : State), s.powered = true → s.porterUp = true → s.host.job = none →
    Completes (.lcToken k) s fun t => t.host.otp = s.host.otp ∧ t.mode = s.mode ∧
      ((k.magicOk = false ∨ k.serial.toNat ≠ s.host.otp.serial ∨ k.ownCnt.val ≠ s.host.otp.ownCnt ∨
          lifeAllowed (lifeCycle s.host.otp) (lifeOf k.target) k.signer = false) →
        t.host.ledger = s.host.ledger ∧ t.host.job = some (.lcToken 2 (lifeOf k.target) 0 false)) ∧
      (k.magicOk = true → k.serial.toNat = s.host.otp.serial → k.ownCnt.val = s.host.otp.ownCnt →
        lifeAllowed (lifeCycle s.host.otp) (lifeOf k.target) k.signer = true →
        (k.target.val = 2 → s.host.otp.ownCnt = 15 → t.host.ledger = s.host.ledger ∧
          t.host.job = some (.lcToken 3 (lifeOf k.target) 0 false)) ∧
        (¬(k.target.val = 2 ∧ s.host.otp.ownCnt = 15) →
          t.host.job = some (.lcToken 0 (lifeOf k.target) k.ownerHash.toNat k.patternKey) ∧
          ∃ r, t.host.ledger = s.host.ledger ++ [r] ∧ r.kind = .lifecycle true k.target ∧
            r.seq = s.host.nextSeq))) ∧
  (∀ (k : Signer) (a : LifeCycle), lifeAllowed .vendor .owned k = (k == .henileo) ∧ lifeAllowed .returned .owned k = (k == .henileo) ∧
    lifeAllowed .owned .returned k = (k == .owner || k == .henileo) ∧ lifeAllowed .owned .scrapped k = (k == .owner) ∧
    lifeAllowed .vendor .scrapped k = (k == .henileo) ∧ lifeAllowed .returned .scrapped k = (k == .henileo) ∧
    lifeAllowed .vendor .returned k = false ∧ lifeAllowed .returned .returned k = false ∧
    lifeAllowed .owned .owned k = false ∧
    lifeAllowed .scrapped a k = false ∧ lifeAllowed .blank a k = false ∧ lifeAllowed a .vendor k = false ∧
      lifeAllowed a .blank k = false)

/-- R433, R456, R458, R460, R462 to R464. -/
def Obligations.PorterCompletions : Prop :=
  (∀ s : State, s.powered = true → s.host.job = none → exec .porterCommandDone s = .next s) ∧
  (∀ (j : PorterJob) (s : State), s.powered = true → s.host.job = some j → j ∈ [.ident, .ledgerKey, .provKey] →
    Completes .porterCommandDone s fun t => t.host.job = none ∧ t.mode = s.mode ∧ t.host.otp = s.host.otp ∧
      t.flag R.PORTER_STATUS Fd.PORTER_STATUS_DONE = true ∧ t.fld R.PORTER_STATUS Fd.PORTER_STATUS_RESULT = 0 ∧
      t.fld R.PORTER_STATUS Fd.PORTER_STATUS_OLEN ≤ 1024 ∧
      (j ≠ .ident → t.fld R.PORTER_STATUS Fd.PORTER_STATUS_OLEN = 97)) ∧
  (∀ (r : LedgerRec) (s : State), s.powered = true → s.host.job = some (.ledgerRead r.seq) → r ∈ s.host.ledger →
    (∀ x ∈ s.host.ledger, x.seq = r.seq → x = r) →
    Completes .porterCommandDone s fun t => t.host.job = none ∧ t.host.ledger = s.host.ledger ∧
      t.flag R.PORTER_STATUS Fd.PORTER_STATUS_DONE = true ∧ t.fld R.PORTER_STATUS Fd.PORTER_STATUS_RESULT = 0 ∧
      t.fld R.PORTER_STATUS Fd.PORTER_STATUS_OLEN = 256 ∧ t.reg (R.PORTER_MBOX 0) = BitVec.ofNat 32 r.seq ∧
      t.reg (R.PORTER_MBOX 1) = BitVec.ofNat 32 (r.kind.code + 256) ∧
      t.reg (R.PORTER_MBOX 2) = BitVec.ofNat 32 r.powerOn ∧
      t.reg (R.PORTER_MBOX 3) = BitVec.ofNat 32 (r.made / 10800000000000)) ∧
  (∀ (q : Nat) (s : State), s.powered = true → s.host.job = some (.ledgerRead q) → (∀ x ∈ s.host.ledger, x.seq ≠ q) →
    Completes .porterCommandDone s fun t => t.host.job = none ∧ t.host.ledger = s.host.ledger ∧
      t.flag R.PORTER_STATUS Fd.PORTER_STATUS_DONE = true ∧ t.fld R.PORTER_STATUS Fd.PORTER_STATUS_OLEN = 0) ∧
  (∀ (n v : Nat) (ok : Bool) (s : State), s.powered = true → s.host.job = some (.fwWrite n false ok v) →
    Completes .porterCommandDone s fun t => t.host.fwBytes = s.host.fwBytes + n ∧ t.host.fwA = s.host.fwA ∧
      t.host.fwB = s.host.fwB ∧ t.host.fwPrimaryB = s.host.fwPrimaryB ∧ t.host.job = none ∧
      t.flag R.PORTER_STATUS Fd.PORTER_STATUS_DONE = true ∧ t.fld R.PORTER_STATUS Fd.PORTER_STATUS_RESULT = 0) ∧
  (∀ (n v : Nat) (ok : Bool) (s : State), s.powered = true → s.host.job = some (.fwWrite n true ok v) →
    Completes .porterCommandDone s fun t => t.host.job = none ∧ t.host.fwVer = s.host.fwVer ∧
      (s.host.fwBootedB = false → t.host.fwA = s.host.fwA) ∧ (s.host.fwBootedB = true → t.host.fwB = s.host.fwB) ∧
      t.flag R.PORTER_STATUS Fd.PORTER_STATUS_DONE = true ∧
      (ok = true → v ≠ 0 → s.host.otp.fwFloor ≤ v → s.host.fwBytes + n ≤ 1835008 →
        t.host.fwPrimaryB = !s.host.fwBootedB ∧ (s.host.fwBootedB = false → t.host.fwB = v) ∧
        (s.host.fwBootedB = true → t.host.fwA = v) ∧ t.fld R.PORTER_STATUS Fd.PORTER_STATUS_RESULT = 0) ∧
      ((ok = false ∨ v = 0 ∨ v < s.host.otp.fwFloor ∨ 1835008 < s.host.fwBytes + n) →
        t.host.fwPrimaryB = s.host.fwPrimaryB ∧ t.fld R.PORTER_STATUS Fd.PORTER_STATUS_RESULT = 5)) ∧
  (∀ (target : LifeCycle) (h : Nat) (key : Bool) (s : State), s.powered = true →
    s.host.job = some (.lcToken 0 target h key) → Completes .porterCommandDone s fun t =>
      t.flag R.TOP_RESET_CAUSE Fd.TOP_RESET_CAUSE_PORTER = true ∧ t.host.job = none ∧
      (s.resetHeld = false → s.pins.bootDue = none → t.mode = .boot) ∧
      t.host.customFlash = false ∧ t.host.patternKey = (target == .owned && key) ∧
      (∃ r, t.host.ledger = s.host.ledger ++ [r] ∧ r.kind = .lifecycle false target.code) ∧
      (target = .owned → t.host.otp.ownCnt = s.host.otp.ownCnt + 1 ∧ t.host.otp.retCnt = s.host.otp.retCnt ∧
        t.host.otp.ownerHash = h :: s.host.otp.ownerHash) ∧
      (target = .returned → t.host.otp.retCnt = s.host.otp.retCnt + 1 ∧ t.host.otp.ownCnt = s.host.otp.ownCnt) ∧
      (target = .scrapped → t.host.otp.scrap = true) ∧
      t.host.otp.serial = s.host.otp.serial ∧ t.host.otp.vendorSet = s.host.otp.vendorSet ∧
      (s.host.otp.vendorSet = true → (target = .scrapped ∨
        (target = .owned ∧ s.host.otp.ownCnt = s.host.otp.retCnt ∧ s.host.otp.scrap = false) ∨
        (target = .returned ∧ s.host.otp.ownCnt = s.host.otp.retCnt + 1 ∧ s.host.otp.scrap = false)) →
        lifeCycle t.host.otp = target)) ∧
  (∀ (r : Nat) (target : LifeCycle) (h : Nat) (key : Bool) (s : State), s.powered = true → r ≠ 0 → r < 16 →
    s.host.job = some (.lcToken r target h key) → Completes .porterCommandDone s fun t => t.host.otp = s.host.otp ∧
      t.mode = s.mode ∧ t.host.job = none ∧ t.fld R.PORTER_STATUS Fd.PORTER_STATUS_RESULT = r ∧
      t.flag R.PORTER_STATUS Fd.PORTER_STATUS_DONE = true)

/-- R9, R10, R12, R58, R74, R89, R138, R224, R296, R303, R440, R445, R447, R484. -/
def Obligations.RegisterAccess : Prop :=
  (∀ (w : Who) (dev : Fin 64) (off : BitVec 36) (size : Nat) (v : BitVec 64) (s : State), s.powered = true →
    s.reaches w = true →
    dev.val = s.host.devid → memSize ≤ off.toNat → isWindow off.toNat = false → regAccessOk off.toNat size = false →
    (Completes (.registerWrite w dev off size v) s fun t =>
      t.flag R.TOP_ACCESS Fd.TOP_ACCESS_ACCESS_DENIED = true ∧ t.mem = s.mem ∧ t.mode = s.mode ∧
      (∀ o, o ≠ R.TOP_ACCESS → o ≠ R.TOP_ACCESS_LOG_LO → o ≠ R.TOP_ACCESS_LOG_HI → t.reg o = s.reg o) ∧
      (s.flag R.TOP_ACCESS Fd.TOP_ACCESS_ACCESS_DENIED = true → t.ap = s.ap) ∧
      (s.flag R.TOP_ACCESS Fd.TOP_ACCESS_ACCESS_DENIED = false →
        (t.reg R.TOP_ACCESS_LOG_LO).toNat = off.toNat % 2 ^ 32 ∧
        (t.reg R.TOP_ACCESS_LOG_HI).toNat = off.toNat / 2 ^ 32 + 16 * w.code + 128)) ∧
    (Completes (.deniedRead w dev off size) s fun t => t.readData = 0 ∧
      t.flag R.TOP_ACCESS Fd.TOP_ACCESS_ACCESS_DENIED = true ∧ t.mem = s.mem ∧ t.mode = s.mode ∧
      (∀ o, o ≠ R.TOP_ACCESS → o ≠ R.TOP_ACCESS_LOG_LO → o ≠ R.TOP_ACCESS_LOG_HI → t.reg o = s.reg o) ∧
      (s.flag R.TOP_ACCESS Fd.TOP_ACCESS_ACCESS_DENIED = false →
        (t.reg R.TOP_ACCESS_LOG_LO).toNat = off.toNat % 2 ^ 32 ∧
        (t.reg R.TOP_ACCESS_LOG_HI).toNat = off.toNat / 2 ^ 32 + 16 * w.code))) ∧
  (∀ (w : Who) (dev : Fin 64) (off : BitVec 36) (v : BitVec 64) (d : RegDesc) (s : State), s.powered = true →
    s.reaches w = true → dev.val = s.host.devid → 0x400020000 ≤ off.toNat → off.toNat < 0x400050000 →
    off.toNat % 4 = 0 → regAt off.toNat = some d → Completes (.registerWrite w dev off 4 v) s fun t =>
      t.mem = s.mem ∧ t.mode = s.mode ∧
      (∀ o, o ≠ off.toNat → o ≠ R.TOP_ACCESS → o ≠ R.TOP_ACCESS_LOG_LO → o ≠ R.TOP_ACCESS_LOG_HI →
        t.reg o = s.reg o) ∧
      (∀ f ∈ d.fields, (f.acc = .rw → bitsOf (t.reg off.toNat).toNat f.lo f.w = bitsOf v.toNat f.lo f.w) ∧
        (f.acc = .ro ∨ f.acc = .wo ∨ f.acc = .rwp →
          bitsOf (t.reg off.toNat).toNat f.lo f.w = bitsOf (s.reg off.toNat).toNat f.lo f.w) ∧
        (f.acc = .w1c → ∀ i < f.w, bitAt (bitsOf (t.reg off.toNat).toNat f.lo f.w) i =
          (bitAt (bitsOf (s.reg off.toNat).toNat f.lo f.w) i && !bitAt (bitsOf v.toNat f.lo f.w) i)) ∧
        (f.acc = .rwp → bitsOf v.toNat f.lo f.w ≠ bitsOf (s.reg off.toNat).toNat f.lo f.w →
          t.flag R.TOP_ACCESS Fd.TOP_ACCESS_ACCESS_DENIED = true))) ∧
  (∀ (dev : Fin 64) (off : BitVec 36) (size : Nat) (v : BitVec 64) (s : State), s.powered = true →
    s.reaches .host = true → s.host.devid = 0 → dev.val ≠ 0 → bitAt s.host.reach dev = false →
    (Completes (.registerWrite .host dev off size v) s fun t => t.outbox = s.outbox ∧ t.mem = s.mem ∧
      (∀ o, o ≠ R.LINK_TREE → t.reg o = s.reg o) ∧ t.fld R.LINK_TREE Fd.LINK_TREE_UNREACH =
        min (s.fld R.LINK_TREE Fd.LINK_TREE_UNREACH + 1) 65535) ∧
    (Completes (.deniedRead .host dev off size) s fun t => t.outbox = s.outbox ++ [.completion 0] ∧ t.mem = s.mem ∧
      (∀ o, o ≠ R.LINK_TREE → t.reg o = s.reg o) ∧ t.fld R.LINK_TREE Fd.LINK_TREE_UNREACH =
        min (s.fld R.LINK_TREE Fd.LINK_TREE_UNREACH + 1) 65535)) ∧
  (∀ (w : Who) (off : BitVec 36) (s : State), s.powered = true → s.reaches w = true → off.toNat = R.TIME_NOW_LO →
    Completes (.captureRead w off) s fun t => t.readData = s.clk.time % 2 ^ 32 ∧ t.ap = s.ap ∧
      t.captured w R.TIME_NOW_HI = s.clk.time / 2 ^ 32 % 2 ^ 32 + 2 ^ 32 ∧
      ∀ x, x ≠ w → t.captured x R.TIME_NOW_HI = s.captured x R.TIME_NOW_HI) ∧
  (∀ (w : Who) (off : BitVec 36) (s : State), s.powered = true → s.reaches w = true → off.toNat = R.TIME_NOW_HI →
    Completes (.captureRead w off) s fun t => t.captures = s.captures ∧ t.ap = s.ap ∧
      (s.captured w R.TIME_NOW_HI = 0 → t.readData = s.clk.time / 2 ^ 32 % 2 ^ 32) ∧
      (s.captured w R.TIME_NOW_HI ≠ 0 → t.readData = s.captured w R.TIME_NOW_HI % 2 ^ 32)) ∧
  (∀ (w : Who) (b : Fin 8) (s : State), s.powered = true → s.reaches w = true →
    Completes (.irqCodeRead w b) s fun t =>
    bitsOf t.readData Fd.FM_TRAP_IRQ_CODE.lo Fd.FM_TRAP_IRQ_CODE.w = s.fld (R.FM_TRAP b) Fd.FM_TRAP_IRQ_CODE ∧
    t.fld (R.FM_TRAP b) Fd.FM_TRAP_IRQ_CODE = 0 ∧ t.mode = s.mode ∧ ∀ o, o ≠ R.FM_TRAP b → t.reg o = s.reg o) ∧
  (∀ (w : Who) (dev : Fin 64) (off : BitVec 36) (size : Nat) (v : BitVec 64) (s : State), s.powered = true →
    s.dataOpen w = true → dev.val = s.host.devid →
    (0x430000000 ≤ off.toNat → off.toNat < 0x438000000 →
      winPart ((off.toNat - 0x430000000) % 0x1000000) ∈ [none, some .laneProg, some .assayProg, some .control] →
      Completes (.registerWrite w dev off size v) s fun t =>
        t.flag R.TOP_ACCESS Fd.TOP_ACCESS_ACCESS_DENIED = true ∧ t.mem = s.mem ∧
        ∀ o, o ≠ R.TOP_ACCESS → o ≠ R.TOP_ACCESS_LOG_LO → o ≠ R.TOP_ACCESS_LOG_HI → t.reg o = s.reg o) ∧
    (isWindow off.toNat = true → s.pat.isSealed = true → (w = .host ∨ w = .cores) →
      Completes (.deniedRead w dev off size) s fun t => t.readData = 0 ∧
        t.flag R.TOP_ACCESS Fd.TOP_ACCESS_ACCESS_DENIED = true ∧ t.mem = s.mem)) ∧
  (∀ (w : Who) (dev : Fin 64) (off : BitVec 36) (size : Nat) (v : BitVec 64) (s : State), s.powered = true →
    (s.reaches w = false ∨ dev.val = s.host.devid ∧ isWindow off.toNat = true ∧ s.dataOpen w = false) →
    exec (.registerWrite w dev off size v) s = .next s ∧ exec (.deniedRead w dev off size) s = .next s)

/-- R56, R441, R448, R470, R471. -/
def Obligations.SupplyEvents : Prop :=
  (∀ (n : Fin 11) (s : State), s.powered = true → bitAt s.pins.railsOut n = true →
    exec (.railTrip n) s = .next s) ∧
  (∀ (n : Fin 11) (s : State), s.powered = true → bitAt s.pins.railsOut n = false →
    Completes (.railTrip n) s fun t => bitAt t.pins.railsOut n = true ∧
      t.fbit R.TOP_SUPPLY Fd.TOP_SUPPLY_TRIP n = true ∧
      (∀ i, i ≠ n.val → bitAt t.pins.railsOut i = bitAt s.pins.railsOut i) ∧
      (n.val < 8 → s.isLatched = false → s.pins.pwrgd = true → t.mode = .dormant ∧ t.pat = {} ∧ t.load = none ∧
        t.transit = none ∧ t.hold = none) ∧
      (n.val < 8 → s.isLatched = true → t.mode = s.mode ∧ t.therm = s.therm ∧ t.slow = s.slow) ∧
      (8 ≤ n.val → t.mode = s.mode ∧ t.fbit R.TOP_IRQ_PEND Fd.TOP_IRQ_PEND_BITS 6 = true) ∧
      (n.val = 8 ∨ n.val = 9 → ∀ k < 64, (t.bias k).parked = true ∧ (t.bias k).driven = 0) ∧
      (n.val = 10 → t.scanning = false ∧ (t.loop 0).undriven = true ∧ (t.loop 1).undriven = true ∧
        ∀ k < 64, t.bias k = s.bias k)) ∧
  (∀ (x : Fin 64) (s : State), s.powered = true → Completes (.railRecover x) s fun t => t.pins.railsOut = 0 ∧
    (s.pins.railsOut % 256 ≠ 0 → s.pins.pwrgd = true → s.isLatched = false → t.mode = .dormant ∧
      t.flag R.TOP_RESET_CAUSE Fd.TOP_RESET_CAUSE_SUPPLY = true ∧
      t.flag R.TOP_RESET_CAUSE Fd.TOP_RESET_CAUSE_POWER_ON = false ∧ t.host.devid = x ∧ t.clk.time = 0) ∧
    ((s.pins.railsOut % 256 = 0 ∨ s.pins.pwrgd = false ∨ s.isLatched = true) → t.mode = s.mode ∧ t.ap = s.ap ∧
      t.therm = s.therm ∧ t.host = s.host ∧ t.slow = s.slow)) ∧
  (∀ (f : Bool) (s : State), s.powered = true → Completes (.pmbAlert f) s fun t => t.mode = s.mode ∧
    (s.writesOffsets = true → t.ap = s.ap ∧ t.pins.alertHeld.isSome = true ∧
      (f = true → t.pins.alertHeld = some true)) ∧
    (s.writesOffsets = false → (f = true → t.flag R.TOP_SUPPLY Fd.TOP_SUPPLY_PMB_ALERT = true) ∧
      (f = false → t.ap = s.ap) ∧ ∀ a ∈ s.pmbAddrs, .pmbus a 0x79 0 ∈ t.outbox))

/-- The frame of memory, registers, mode and clocks. -/
def Obligations.MemoryAndModeFrame : Prop :=
  ((∀ (c : Instr) (s t : State), c.storesMem = false → exec c s = .next t → ∀ a, t.byteAt a = s.byteAt a) ∧
  (∀ (c : Instr) (s t : State), c.keepsRegisters = true → exec c s = .next t → ∀ o, t.reg o = s.reg o)) ∧
  (
  ∀ (c : Instr) (s t : State), exec c s = .next t →
    (c.changesMode = false → t.mode = s.mode) ∧ (c.changesTransit = false → t.transit = s.transit) ∧
      (c.changesClocks = false → t.clk = s.clk))

/-- The frame of the other parts of State. -/
def Obligations.PartsFrame : Prop :=
  (
  ∀ (c : Instr) (s t : State), exec c s = .next t →
    (c.changesSlow = false → t.slow = s.slow) ∧ (c.changesThermal = false → t.therm = s.therm) ∧
      (c.changesHost = false → t.host = s.host) ∧ (c.changesPins = false → t.pins = s.pins)) ∧
  (
  ∀ (c : Instr) (s t : State), exec c s = .next t →
    (c.changesLanes = false → t.lanes = s.lanes) ∧ (c.changesEngines = false → t.engines = s.engines) ∧
      (c.changesOutputs = false → t.out = s.out) ∧ (c.keepsForemen = true → t.fms = s.fms))
end

