-- ==== Sys2Proof/Laws/Maps.lean ====
section
/-!
SUPPORT. Laws of sparse maps: what a get sees after each operation, and that every operation keeps the canonical form.
-/
namespace Sys2Proof.Machine.NMap

variable {α : Type}

@[simp] theorem get_nil (d : Nat → α) (k : Nat) : get d [] k = d k := rfl

theorem get_cons (d : Nat → α) (a : Nat) (v : α) (m : NMap α) (k : Nat) :
    get d ((a, v) :: m) k = if k = a then v else get d m k := rfl

theorem get_ins_self (d : Nat → α) (m : NMap α) (k : Nat) (v : α) (h : ∀ e ∈ m, e.1 ≠ k) :
    get d (ins k v m) k = v := by
  induction m with
  | nil => simp [ins, get]
  | cons e m ih =>
    obtain ⟨a, w⟩ := e
    have ha : k ≠ a := fun hk => h (a, w) (by simp) hk.symm
    simp only [ins]
    split
    · simp [get]
    · simp [get, ha, ih fun e he => h e (by simp [he])]

theorem get_ins_ne (d : Nat → α) (m : NMap α) (k j : Nat) (v : α) (h : j ≠ k) :
    get d (ins k v m) j = get d m j := by
  induction m with
  | nil => simp [ins, get, h]
  | cons e m ih =>
    obtain ⟨a, w⟩ := e
    simp only [ins]
    split
    · simp [get, h]
    · simp [get, ih]

theorem get_del_ne (d : Nat → α) (m : NMap α) (k j : Nat) (h : j ≠ k) : get d (del k m) j = get d m j := by
  induction m with
  | nil => rfl
  | cons e m ih =>
    obtain ⟨a, w⟩ := e
    simp only [del]
    split
    · subst_vars; simp [get, h, ih]
    · simp [get, ih]

theorem mem_del_ne (m : NMap α) (k : Nat) : ∀ e ∈ del k m, e.1 ≠ k := by
  induction m with
  | nil => simp [del]
  | cons e m ih =>
    obtain ⟨a, w⟩ := e
    simp only [del]
    split
    · exact ih
    · rename_i h
      intro e he
      rcases List.mem_cons.1 he with rfl | he
      · exact h
      · exact ih e he

theorem get_of_not_mem (d : Nat → α) (m : NMap α) (k : Nat) (h : ∀ e ∈ m, e.1 ≠ k) : get d m k = d k := by
  induction m with
  | nil => rfl
  | cons e m ih =>
    obtain ⟨a, w⟩ := e
    have ha : k ≠ a := fun hk => h (a, w) (by simp) hk.symm
    simp [get, ha, ih fun e he => h e (by simp [he])]

variable [DecidableEq α]

/-- A get after a set: the value set at its key, as before elsewhere. -/
theorem get_set (d : Nat → α) (m : NMap α) (k j : Nat) (v : α) :
    get d (set d m k v) j = if j = k then v else get d m j := by
  by_cases h : j = k
  · subst h
    simp only [set, ↓reduceIte]
    split
    · rename_i hv; rw [get_of_not_mem d _ _ (mem_del_ne m j), hv]
    · exact get_ins_self d _ _ _ (mem_del_ne m j)
  · simp only [set, h, ↓reduceIte]
    split
    · exact get_del_ne d m k j h
    · rw [get_ins_ne d _ _ _ _ h, get_del_ne d m k j h]

@[simp] theorem get_set_self (d : Nat → α) (m : NMap α) (k : Nat) (v : α) : get d (set d m k v) k = v := by
  simp [get_set]

@[simp] theorem get_set_ne (d : Nat → α) (m : NMap α) (k j : Nat) (v : α) (h : j ≠ k) :
    get d (set d m k v) j = get d m j := by
  simp [get_set, h]

/-- A get after an update in place. -/
theorem get_upd (d : Nat → α) (m : NMap α) (k j : Nat) (f : α → α) :
    get d (upd d m k f) j = if j = k then f (get d m k) else get d m j := get_set d m k j _

@[simp] theorem get_upd_self (d : Nat → α) (m : NMap α) (k : Nat) (f : α → α) :
    get d (upd d m k f) k = f (get d m k) := by simp [get_upd]

@[simp] theorem get_upd_ne (d : Nat → α) (m : NMap α) (k j : Nat) (f : α → α) (h : j ≠ k) :
    get d (upd d m k f) j = get d m j := by simp [get_upd, h]

omit [DecidableEq α] in
/-- A get after an erase: the default at an erased key, as before elsewhere. -/
theorem get_erase (d : Nat → α) (p : Nat → Bool) (m : NMap α) (k : Nat) :
    get d (erase p m) k = if p k then d k else get d m k := by
  induction m with
  | nil => simp [erase]
  | cons e m ih =>
    obtain ⟨a, v⟩ := e
    by_cases hp : p a
    · have : erase p ((a, v) :: m) = erase p m := by simp [erase, hp]
      rw [this, ih]
      by_cases hk : k = a
      · subst hk; simp [hp]
      · simp [get, hk]
    · have : erase p ((a, v) :: m) = (a, v) :: erase p m := by simp [erase, hp]
      rw [this]
      by_cases hk : k = a
      · subst hk; simp [get, hp]
      · simp [get, hk, ih]

/-! ### The canonical form -/

@[simp] theorem wf_nil (d : Nat → α) : wf d [] = true := rfl

omit [DecidableEq α] in
theorem above_iff (k : Nat) (m : NMap α) : above k m = true ↔ ∀ e ∈ m, k < e.1 := by
  simp [above]

theorem wf_cons (d : Nat → α) (a : Nat) (v : α) (m : NMap α) :
    wf d ((a, v) :: m) = true ↔ v ≠ d a ∧ (∀ e ∈ m, a < e.1) ∧ wf d m = true := by
  simp [wf, above_iff, and_assoc]

omit [DecidableEq α] in
theorem mem_del (m : NMap α) (k : Nat) (e : Nat × α) (h : e ∈ del k m) : e ∈ m := by
  induction m with
  | nil => simp [del] at h
  | cons x m ih =>
    obtain ⟨a, w⟩ := x
    simp only [del] at h
    split at h
    · exact List.mem_cons_of_mem _ (ih h)
    · rcases List.mem_cons.1 h with rfl | h
      · simp
      · exact List.mem_cons_of_mem _ (ih h)

omit [DecidableEq α] in
theorem mem_ins (m : NMap α) (k : Nat) (v : α) (e : Nat × α) (h : e ∈ ins k v m) : e = (k, v) ∨ e ∈ m := by
  induction m with
  | nil => simpa [ins] using h
  | cons x m ih =>
    obtain ⟨a, w⟩ := x
    simp only [ins] at h
    split at h
    · simpa using h
    · rcases List.mem_cons.1 h with rfl | h
      · simp
      · rcases ih h with h | h
        · exact .inl h
        · exact .inr (List.mem_cons_of_mem _ h)

theorem wf_del (d : Nat → α) (m : NMap α) (k : Nat) (h : wf d m = true) : wf d (del k m) = true := by
  induction m with
  | nil => simp [del]
  | cons x m ih =>
    obtain ⟨a, w⟩ := x
    obtain ⟨h1, h2, h3⟩ := (wf_cons d a w m).1 h
    simp only [del]
    split
    · exact ih h3
    · exact (wf_cons d a w _).2 ⟨h1, fun e he => h2 e (mem_del m k e he), ih h3⟩

theorem wf_ins (d : Nat → α) (m : NMap α) (k : Nat) (v : α) (hv : v ≠ d k) (hk : ∀ e ∈ m, e.1 ≠ k)
    (h : wf d m = true) : wf d (ins k v m) = true := by
  induction m with
  | nil => simp [ins, wf, hv, above]
  | cons x m ih =>
    obtain ⟨a, w⟩ := x
    obtain ⟨h1, h2, h3⟩ := (wf_cons d a w m).1 h
    simp only [ins]
    split
    · rename_i hlt
      refine (wf_cons d k v _).2 ⟨hv, fun e he => ?_, h⟩
      rcases List.mem_cons.1 he with rfl | he
      · exact hlt
      · exact lt_trans hlt (h2 e he)
    · rename_i hlt
      have hne : a ≠ k := hk (a, w) (by simp)
      refine (wf_cons d a w _).2 ⟨h1, fun e he => ?_, ih (fun e he => hk e (by simp [he])) h3⟩
      rcases mem_ins m k v e he with rfl | he
      · show a < k
        omega
      · exact h2 e he

/-- A set keeps the canonical form. -/
theorem wf_set (d : Nat → α) (m : NMap α) (k : Nat) (v : α) (h : wf d m = true) : wf d (set d m k v) = true := by
  simp only [set]
  split
  · exact wf_del d m k h
  · rename_i hv
    exact wf_ins d _ k v hv (mem_del_ne m k) (wf_del d m k h)

/-- An update in place keeps the canonical form. -/
theorem wf_upd (d : Nat → α) (m : NMap α) (k : Nat) (f : α → α) (h : wf d m = true) : wf d (upd d m k f) = true :=
  wf_set d m k _ h

/-- An erase keeps the canonical form. -/
theorem wf_erase (d : Nat → α) (p : Nat → Bool) (m : NMap α) (h : wf d m = true) : wf d (erase p m) = true := by
  induction m with
  | nil => simp [erase]
  | cons x m ih =>
    obtain ⟨a, w⟩ := x
    obtain ⟨h1, h2, h3⟩ := (wf_cons d a w m).1 h
    by_cases hp : p a
    · have : erase p ((a, w) :: m) = erase p m := by simp [erase, hp]
      rw [this]; exact ih h3
    · have : erase p ((a, w) :: m) = (a, w) :: erase p m := by simp [erase, hp]
      rw [this]
      refine (wf_cons d a w _).2 ⟨h1, fun e he => h2 e ?_, ih h3⟩
      exact List.mem_of_mem_filter he

end Sys2Proof.Machine.NMap
end

