-- ==== Sys2Proof/Laws/State.lean ====
section
/-!
SUPPORT. The small laws of State: what each primitive update leaves of each field (all by rfl), and what a read of a
register, a byte or an instance sees after it.
-/
namespace Sys2Proof.Machine

@[simp] theorem State.setReg_pending (s : State) (off : Nat) (v : Word) : (s.setReg off v).pending = s.pending := (rfl)
@[simp] theorem State.setReg_powered (s : State) (off : Nat) (v : Word) : (s.setReg off v).powered = s.powered := (rfl)
@[simp] theorem State.setReg_clk (s : State) (off : Nat) (v : Word) : (s.setReg off v).clk = s.clk := (rfl)
@[simp] theorem State.setReg_mode (s : State) (off : Nat) (v : Word) : (s.setReg off v).mode = s.mode := (rfl)
@[simp] theorem State.setReg_transit (s : State) (off : Nat) (v : Word) : (s.setReg off v).transit = s.transit := (rfl)
@[simp] theorem State.setReg_hold (s : State) (off : Nat) (v : Word) : (s.setReg off v).hold = s.hold := (rfl)
@[simp] theorem State.setReg_trim (s : State) (off : Nat) (v : Word) : (s.setReg off v).trim = s.trim := (rfl)
@[simp] theorem State.setReg_load (s : State) (off : Nat) (v : Word) : (s.setReg off v).load = s.load := (rfl)
@[simp] theorem State.setReg_pat (s : State) (off : Nat) (v : Word) : (s.setReg off v).pat = s.pat := (rfl)
@[simp] theorem State.setReg_mem (s : State) (off : Nat) (v : Word) : (s.setReg off v).mem = s.mem := (rfl)
@[simp] theorem State.setReg_bench (s : State) (off : Nat) (v : Word) : (s.setReg off v).bench = s.bench := (rfl)
@[simp] theorem State.setReg_time (s : State) (off : Nat) (v : Word) : (s.setReg off v).time = s.time := (rfl)
@[simp] theorem State.setReg_segs (s : State) (off : Nat) (v : Word) : (s.setReg off v).segs = s.segs := (rfl)
@[simp] theorem State.setReg_looms (s : State) (off : Nat) (v : Word) : (s.setReg off v).looms = s.looms := (rfl)
@[simp] theorem State.setReg_lanes (s : State) (off : Nat) (v : Word) : (s.setReg off v).lanes = s.lanes := (rfl)
@[simp] theorem State.setReg_out (s : State) (off : Nat) (v : Word) : (s.setReg off v).out = s.out := (rfl)
@[simp] theorem State.setReg_chans (s : State) (off : Nat) (v : Word) : (s.setReg off v).chans = s.chans := (rfl)
@[simp] theorem State.setReg_adcs (s : State) (off : Nat) (v : Word) : (s.setReg off v).adcs = s.adcs := (rfl)
@[simp] theorem State.setReg_engines (s : State) (off : Nat) (v : Word) : (s.setReg off v).engines = s.engines := (rfl)
@[simp] theorem State.setReg_xyStages (s : State) (off : Nat) (v : Word) : (s.setReg off v).xyStages = s.xyStages := (rfl)
@[simp] theorem State.setReg_dec (s : State) (off : Nat) (v : Word) : (s.setReg off v).dec = s.dec := (rfl)
@[simp] theorem State.setReg_fms (s : State) (off : Nat) (v : Word) : (s.setReg off v).fms = s.fms := (rfl)
@[simp] theorem State.setReg_memc (s : State) (off : Nat) (v : Word) : (s.setReg off v).memc = s.memc := (rfl)
@[simp] theorem State.setReg_tally (s : State) (off : Nat) (v : Word) : (s.setReg off v).tally = s.tally := (rfl)
@[simp] theorem State.setReg_fabric (s : State) (off : Nat) (v : Word) : (s.setReg off v).fabric = s.fabric := (rfl)
@[simp] theorem State.setReg_slow (s : State) (off : Nat) (v : Word) : (s.setReg off v).slow = s.slow := (rfl)
@[simp] theorem State.setReg_therm (s : State) (off : Nat) (v : Word) : (s.setReg off v).therm = s.therm := (rfl)
@[simp] theorem State.setReg_host (s : State) (off : Nat) (v : Word) : (s.setReg off v).host = s.host := (rfl)
@[simp] theorem State.setReg_pins (s : State) (off : Nat) (v : Word) : (s.setReg off v).pins = s.pins := (rfl)
@[simp] theorem State.setReg_captures (s : State) (off : Nat) (v : Word) : (s.setReg off v).captures = s.captures := (rfl)
@[simp] theorem State.setReg_recent (s : State) (off : Nat) (v : Word) : (s.setReg off v).recent = s.recent := (rfl)
@[simp] theorem State.setReg_setvAt (s : State) (off : Nat) (v : Word) : (s.setReg off v).setvAt = s.setvAt := (rfl)
@[simp] theorem State.setReg_later (s : State) (off : Nat) (v : Word) : (s.setReg off v).later = s.later := (rfl)
@[simp] theorem State.setReg_readData (s : State) (off : Nat) (v : Word) : (s.setReg off v).readData = s.readData := (rfl)
@[simp] theorem State.setReg_outbox (s : State) (off : Nat) (v : Word) : (s.setReg off v).outbox = s.outbox := (rfl)
@[simp] theorem State.setReg_freeCtr (s : State) (off : Nat) (v : Word) : (s.setReg off v).freeCtr = s.freeCtr := (rfl)

@[simp] theorem State.setFld_pending (s : State) (off : Nat) (f : Bits) (v : Nat) : (s.setFld off f v).pending = s.pending := (rfl)
@[simp] theorem State.setFld_powered (s : State) (off : Nat) (f : Bits) (v : Nat) : (s.setFld off f v).powered = s.powered := (rfl)
@[simp] theorem State.setFld_clk (s : State) (off : Nat) (f : Bits) (v : Nat) : (s.setFld off f v).clk = s.clk := (rfl)
@[simp] theorem State.setFld_mode (s : State) (off : Nat) (f : Bits) (v : Nat) : (s.setFld off f v).mode = s.mode := (rfl)
@[simp] theorem State.setFld_transit (s : State) (off : Nat) (f : Bits) (v : Nat) : (s.setFld off f v).transit = s.transit := (rfl)
@[simp] theorem State.setFld_hold (s : State) (off : Nat) (f : Bits) (v : Nat) : (s.setFld off f v).hold = s.hold := (rfl)
@[simp] theorem State.setFld_trim (s : State) (off : Nat) (f : Bits) (v : Nat) : (s.setFld off f v).trim = s.trim := (rfl)
@[simp] theorem State.setFld_load (s : State) (off : Nat) (f : Bits) (v : Nat) : (s.setFld off f v).load = s.load := (rfl)
@[simp] theorem State.setFld_pat (s : State) (off : Nat) (f : Bits) (v : Nat) : (s.setFld off f v).pat = s.pat := (rfl)
@[simp] theorem State.setFld_mem (s : State) (off : Nat) (f : Bits) (v : Nat) : (s.setFld off f v).mem = s.mem := (rfl)
@[simp] theorem State.setFld_bench (s : State) (off : Nat) (f : Bits) (v : Nat) : (s.setFld off f v).bench = s.bench := (rfl)
@[simp] theorem State.setFld_time (s : State) (off : Nat) (f : Bits) (v : Nat) : (s.setFld off f v).time = s.time := (rfl)
@[simp] theorem State.setFld_segs (s : State) (off : Nat) (f : Bits) (v : Nat) : (s.setFld off f v).segs = s.segs := (rfl)
@[simp] theorem State.setFld_looms (s : State) (off : Nat) (f : Bits) (v : Nat) : (s.setFld off f v).looms = s.looms := (rfl)
@[simp] theorem State.setFld_lanes (s : State) (off : Nat) (f : Bits) (v : Nat) : (s.setFld off f v).lanes = s.lanes := (rfl)
@[simp] theorem State.setFld_out (s : State) (off : Nat) (f : Bits) (v : Nat) : (s.setFld off f v).out = s.out := (rfl)
@[simp] theorem State.setFld_chans (s : State) (off : Nat) (f : Bits) (v : Nat) : (s.setFld off f v).chans = s.chans := (rfl)
@[simp] theorem State.setFld_adcs (s : State) (off : Nat) (f : Bits) (v : Nat) : (s.setFld off f v).adcs = s.adcs := (rfl)
@[simp] theorem State.setFld_engines (s : State) (off : Nat) (f : Bits) (v : Nat) : (s.setFld off f v).engines = s.engines := (rfl)
@[simp] theorem State.setFld_xyStages (s : State) (off : Nat) (f : Bits) (v : Nat) : (s.setFld off f v).xyStages = s.xyStages := (rfl)
@[simp] theorem State.setFld_dec (s : State) (off : Nat) (f : Bits) (v : Nat) : (s.setFld off f v).dec = s.dec := (rfl)
@[simp] theorem State.setFld_fms (s : State) (off : Nat) (f : Bits) (v : Nat) : (s.setFld off f v).fms = s.fms := (rfl)
@[simp] theorem State.setFld_memc (s : State) (off : Nat) (f : Bits) (v : Nat) : (s.setFld off f v).memc = s.memc := (rfl)
@[simp] theorem State.setFld_tally (s : State) (off : Nat) (f : Bits) (v : Nat) : (s.setFld off f v).tally = s.tally := (rfl)
@[simp] theorem State.setFld_fabric (s : State) (off : Nat) (f : Bits) (v : Nat) : (s.setFld off f v).fabric = s.fabric := (rfl)
@[simp] theorem State.setFld_slow (s : State) (off : Nat) (f : Bits) (v : Nat) : (s.setFld off f v).slow = s.slow := (rfl)
@[simp] theorem State.setFld_therm (s : State) (off : Nat) (f : Bits) (v : Nat) : (s.setFld off f v).therm = s.therm := (rfl)
@[simp] theorem State.setFld_host (s : State) (off : Nat) (f : Bits) (v : Nat) : (s.setFld off f v).host = s.host := (rfl)
@[simp] theorem State.setFld_pins (s : State) (off : Nat) (f : Bits) (v : Nat) : (s.setFld off f v).pins = s.pins := (rfl)
@[simp] theorem State.setFld_captures (s : State) (off : Nat) (f : Bits) (v : Nat) : (s.setFld off f v).captures = s.captures := (rfl)
@[simp] theorem State.setFld_recent (s : State) (off : Nat) (f : Bits) (v : Nat) : (s.setFld off f v).recent = s.recent := (rfl)
@[simp] theorem State.setFld_setvAt (s : State) (off : Nat) (f : Bits) (v : Nat) : (s.setFld off f v).setvAt = s.setvAt := (rfl)
@[simp] theorem State.setFld_later (s : State) (off : Nat) (f : Bits) (v : Nat) : (s.setFld off f v).later = s.later := (rfl)
@[simp] theorem State.setFld_readData (s : State) (off : Nat) (f : Bits) (v : Nat) : (s.setFld off f v).readData = s.readData := (rfl)
@[simp] theorem State.setFld_outbox (s : State) (off : Nat) (f : Bits) (v : Nat) : (s.setFld off f v).outbox = s.outbox := (rfl)
@[simp] theorem State.setFld_freeCtr (s : State) (off : Nat) (f : Bits) (v : Nat) : (s.setFld off f v).freeCtr = s.freeCtr := (rfl)

@[simp] theorem State.raise_pending (s : State) (off : Nat) (f : Bits) : (s.raise off f).pending = s.pending := (rfl)
@[simp] theorem State.raise_powered (s : State) (off : Nat) (f : Bits) : (s.raise off f).powered = s.powered := (rfl)
@[simp] theorem State.raise_clk (s : State) (off : Nat) (f : Bits) : (s.raise off f).clk = s.clk := (rfl)
@[simp] theorem State.raise_mode (s : State) (off : Nat) (f : Bits) : (s.raise off f).mode = s.mode := (rfl)
@[simp] theorem State.raise_transit (s : State) (off : Nat) (f : Bits) : (s.raise off f).transit = s.transit := (rfl)
@[simp] theorem State.raise_hold (s : State) (off : Nat) (f : Bits) : (s.raise off f).hold = s.hold := (rfl)
@[simp] theorem State.raise_trim (s : State) (off : Nat) (f : Bits) : (s.raise off f).trim = s.trim := (rfl)
@[simp] theorem State.raise_load (s : State) (off : Nat) (f : Bits) : (s.raise off f).load = s.load := (rfl)
@[simp] theorem State.raise_pat (s : State) (off : Nat) (f : Bits) : (s.raise off f).pat = s.pat := (rfl)
@[simp] theorem State.raise_mem (s : State) (off : Nat) (f : Bits) : (s.raise off f).mem = s.mem := (rfl)
@[simp] theorem State.raise_bench (s : State) (off : Nat) (f : Bits) : (s.raise off f).bench = s.bench := (rfl)
@[simp] theorem State.raise_time (s : State) (off : Nat) (f : Bits) : (s.raise off f).time = s.time := (rfl)
@[simp] theorem State.raise_segs (s : State) (off : Nat) (f : Bits) : (s.raise off f).segs = s.segs := (rfl)
@[simp] theorem State.raise_looms (s : State) (off : Nat) (f : Bits) : (s.raise off f).looms = s.looms := (rfl)
@[simp] theorem State.raise_lanes (s : State) (off : Nat) (f : Bits) : (s.raise off f).lanes = s.lanes := (rfl)
@[simp] theorem State.raise_out (s : State) (off : Nat) (f : Bits) : (s.raise off f).out = s.out := (rfl)
@[simp] theorem State.raise_chans (s : State) (off : Nat) (f : Bits) : (s.raise off f).chans = s.chans := (rfl)
@[simp] theorem State.raise_adcs (s : State) (off : Nat) (f : Bits) : (s.raise off f).adcs = s.adcs := (rfl)
@[simp] theorem State.raise_engines (s : State) (off : Nat) (f : Bits) : (s.raise off f).engines = s.engines := (rfl)
@[simp] theorem State.raise_xyStages (s : State) (off : Nat) (f : Bits) : (s.raise off f).xyStages = s.xyStages := (rfl)
@[simp] theorem State.raise_dec (s : State) (off : Nat) (f : Bits) : (s.raise off f).dec = s.dec := (rfl)
@[simp] theorem State.raise_fms (s : State) (off : Nat) (f : Bits) : (s.raise off f).fms = s.fms := (rfl)
@[simp] theorem State.raise_memc (s : State) (off : Nat) (f : Bits) : (s.raise off f).memc = s.memc := (rfl)
@[simp] theorem State.raise_tally (s : State) (off : Nat) (f : Bits) : (s.raise off f).tally = s.tally := (rfl)
@[simp] theorem State.raise_fabric (s : State) (off : Nat) (f : Bits) : (s.raise off f).fabric = s.fabric := (rfl)
@[simp] theorem State.raise_slow (s : State) (off : Nat) (f : Bits) : (s.raise off f).slow = s.slow := (rfl)
@[simp] theorem State.raise_therm (s : State) (off : Nat) (f : Bits) : (s.raise off f).therm = s.therm := (rfl)
@[simp] theorem State.raise_host (s : State) (off : Nat) (f : Bits) : (s.raise off f).host = s.host := (rfl)
@[simp] theorem State.raise_pins (s : State) (off : Nat) (f : Bits) : (s.raise off f).pins = s.pins := (rfl)
@[simp] theorem State.raise_captures (s : State) (off : Nat) (f : Bits) : (s.raise off f).captures = s.captures := (rfl)
@[simp] theorem State.raise_recent (s : State) (off : Nat) (f : Bits) : (s.raise off f).recent = s.recent := (rfl)
@[simp] theorem State.raise_setvAt (s : State) (off : Nat) (f : Bits) : (s.raise off f).setvAt = s.setvAt := (rfl)
@[simp] theorem State.raise_later (s : State) (off : Nat) (f : Bits) : (s.raise off f).later = s.later := (rfl)
@[simp] theorem State.raise_readData (s : State) (off : Nat) (f : Bits) : (s.raise off f).readData = s.readData := (rfl)
@[simp] theorem State.raise_outbox (s : State) (off : Nat) (f : Bits) : (s.raise off f).outbox = s.outbox := (rfl)
@[simp] theorem State.raise_freeCtr (s : State) (off : Nat) (f : Bits) : (s.raise off f).freeCtr = s.freeCtr := (rfl)

@[simp] theorem State.clear_pending (s : State) (off : Nat) (f : Bits) : (s.clear off f).pending = s.pending := (rfl)
@[simp] theorem State.clear_powered (s : State) (off : Nat) (f : Bits) : (s.clear off f).powered = s.powered := (rfl)
@[simp] theorem State.clear_clk (s : State) (off : Nat) (f : Bits) : (s.clear off f).clk = s.clk := (rfl)
@[simp] theorem State.clear_mode (s : State) (off : Nat) (f : Bits) : (s.clear off f).mode = s.mode := (rfl)
@[simp] theorem State.clear_transit (s : State) (off : Nat) (f : Bits) : (s.clear off f).transit = s.transit := (rfl)
@[simp] theorem State.clear_hold (s : State) (off : Nat) (f : Bits) : (s.clear off f).hold = s.hold := (rfl)
@[simp] theorem State.clear_trim (s : State) (off : Nat) (f : Bits) : (s.clear off f).trim = s.trim := (rfl)
@[simp] theorem State.clear_load (s : State) (off : Nat) (f : Bits) : (s.clear off f).load = s.load := (rfl)
@[simp] theorem State.clear_pat (s : State) (off : Nat) (f : Bits) : (s.clear off f).pat = s.pat := (rfl)
@[simp] theorem State.clear_mem (s : State) (off : Nat) (f : Bits) : (s.clear off f).mem = s.mem := (rfl)
@[simp] theorem State.clear_bench (s : State) (off : Nat) (f : Bits) : (s.clear off f).bench = s.bench := (rfl)
@[simp] theorem State.clear_time (s : State) (off : Nat) (f : Bits) : (s.clear off f).time = s.time := (rfl)
@[simp] theorem State.clear_segs (s : State) (off : Nat) (f : Bits) : (s.clear off f).segs = s.segs := (rfl)
@[simp] theorem State.clear_looms (s : State) (off : Nat) (f : Bits) : (s.clear off f).looms = s.looms := (rfl)
@[simp] theorem State.clear_lanes (s : State) (off : Nat) (f : Bits) : (s.clear off f).lanes = s.lanes := (rfl)
@[simp] theorem State.clear_out (s : State) (off : Nat) (f : Bits) : (s.clear off f).out = s.out := (rfl)
@[simp] theorem State.clear_chans (s : State) (off : Nat) (f : Bits) : (s.clear off f).chans = s.chans := (rfl)
@[simp] theorem State.clear_adcs (s : State) (off : Nat) (f : Bits) : (s.clear off f).adcs = s.adcs := (rfl)
@[simp] theorem State.clear_engines (s : State) (off : Nat) (f : Bits) : (s.clear off f).engines = s.engines := (rfl)
@[simp] theorem State.clear_xyStages (s : State) (off : Nat) (f : Bits) : (s.clear off f).xyStages = s.xyStages := (rfl)
@[simp] theorem State.clear_dec (s : State) (off : Nat) (f : Bits) : (s.clear off f).dec = s.dec := (rfl)
@[simp] theorem State.clear_fms (s : State) (off : Nat) (f : Bits) : (s.clear off f).fms = s.fms := (rfl)
@[simp] theorem State.clear_memc (s : State) (off : Nat) (f : Bits) : (s.clear off f).memc = s.memc := (rfl)
@[simp] theorem State.clear_tally (s : State) (off : Nat) (f : Bits) : (s.clear off f).tally = s.tally := (rfl)
@[simp] theorem State.clear_fabric (s : State) (off : Nat) (f : Bits) : (s.clear off f).fabric = s.fabric := (rfl)
@[simp] theorem State.clear_slow (s : State) (off : Nat) (f : Bits) : (s.clear off f).slow = s.slow := (rfl)
@[simp] theorem State.clear_therm (s : State) (off : Nat) (f : Bits) : (s.clear off f).therm = s.therm := (rfl)
@[simp] theorem State.clear_host (s : State) (off : Nat) (f : Bits) : (s.clear off f).host = s.host := (rfl)
@[simp] theorem State.clear_pins (s : State) (off : Nat) (f : Bits) : (s.clear off f).pins = s.pins := (rfl)
@[simp] theorem State.clear_captures (s : State) (off : Nat) (f : Bits) : (s.clear off f).captures = s.captures := (rfl)
@[simp] theorem State.clear_recent (s : State) (off : Nat) (f : Bits) : (s.clear off f).recent = s.recent := (rfl)
@[simp] theorem State.clear_setvAt (s : State) (off : Nat) (f : Bits) : (s.clear off f).setvAt = s.setvAt := (rfl)
@[simp] theorem State.clear_later (s : State) (off : Nat) (f : Bits) : (s.clear off f).later = s.later := (rfl)
@[simp] theorem State.clear_readData (s : State) (off : Nat) (f : Bits) : (s.clear off f).readData = s.readData := (rfl)
@[simp] theorem State.clear_outbox (s : State) (off : Nat) (f : Bits) : (s.clear off f).outbox = s.outbox := (rfl)
@[simp] theorem State.clear_freeCtr (s : State) (off : Nat) (f : Bits) : (s.clear off f).freeCtr = s.freeCtr := (rfl)

@[simp] theorem State.orFld_pending (s : State) (off : Nat) (f : Bits) (m : Nat) : (s.orFld off f m).pending = s.pending := (rfl)
@[simp] theorem State.orFld_powered (s : State) (off : Nat) (f : Bits) (m : Nat) : (s.orFld off f m).powered = s.powered := (rfl)
@[simp] theorem State.orFld_clk (s : State) (off : Nat) (f : Bits) (m : Nat) : (s.orFld off f m).clk = s.clk := (rfl)
@[simp] theorem State.orFld_mode (s : State) (off : Nat) (f : Bits) (m : Nat) : (s.orFld off f m).mode = s.mode := (rfl)
@[simp] theorem State.orFld_transit (s : State) (off : Nat) (f : Bits) (m : Nat) : (s.orFld off f m).transit = s.transit := (rfl)
@[simp] theorem State.orFld_hold (s : State) (off : Nat) (f : Bits) (m : Nat) : (s.orFld off f m).hold = s.hold := (rfl)
@[simp] theorem State.orFld_trim (s : State) (off : Nat) (f : Bits) (m : Nat) : (s.orFld off f m).trim = s.trim := (rfl)
@[simp] theorem State.orFld_load (s : State) (off : Nat) (f : Bits) (m : Nat) : (s.orFld off f m).load = s.load := (rfl)
@[simp] theorem State.orFld_pat (s : State) (off : Nat) (f : Bits) (m : Nat) : (s.orFld off f m).pat = s.pat := (rfl)
@[simp] theorem State.orFld_mem (s : State) (off : Nat) (f : Bits) (m : Nat) : (s.orFld off f m).mem = s.mem := (rfl)
@[simp] theorem State.orFld_bench (s : State) (off : Nat) (f : Bits) (m : Nat) : (s.orFld off f m).bench = s.bench := (rfl)
@[simp] theorem State.orFld_time (s : State) (off : Nat) (f : Bits) (m : Nat) : (s.orFld off f m).time = s.time := (rfl)
@[simp] theorem State.orFld_segs (s : State) (off : Nat) (f : Bits) (m : Nat) : (s.orFld off f m).segs = s.segs := (rfl)
@[simp] theorem State.orFld_looms (s : State) (off : Nat) (f : Bits) (m : Nat) : (s.orFld off f m).looms = s.looms := (rfl)
@[simp] theorem State.orFld_lanes (s : State) (off : Nat) (f : Bits) (m : Nat) : (s.orFld off f m).lanes = s.lanes := (rfl)
@[simp] theorem State.orFld_out (s : State) (off : Nat) (f : Bits) (m : Nat) : (s.orFld off f m).out = s.out := (rfl)
@[simp] theorem State.orFld_chans (s : State) (off : Nat) (f : Bits) (m : Nat) : (s.orFld off f m).chans = s.chans := (rfl)
@[simp] theorem State.orFld_adcs (s : State) (off : Nat) (f : Bits) (m : Nat) : (s.orFld off f m).adcs = s.adcs := (rfl)
@[simp] theorem State.orFld_engines (s : State) (off : Nat) (f : Bits) (m : Nat) : (s.orFld off f m).engines = s.engines := (rfl)
@[simp] theorem State.orFld_xyStages (s : State) (off : Nat) (f : Bits) (m : Nat) : (s.orFld off f m).xyStages = s.xyStages := (rfl)
@[simp] theorem State.orFld_dec (s : State) (off : Nat) (f : Bits) (m : Nat) : (s.orFld off f m).dec = s.dec := (rfl)
@[simp] theorem State.orFld_fms (s : State) (off : Nat) (f : Bits) (m : Nat) : (s.orFld off f m).fms = s.fms := (rfl)
@[simp] theorem State.orFld_memc (s : State) (off : Nat) (f : Bits) (m : Nat) : (s.orFld off f m).memc = s.memc := (rfl)
@[simp] theorem State.orFld_tally (s : State) (off : Nat) (f : Bits) (m : Nat) : (s.orFld off f m).tally = s.tally := (rfl)
@[simp] theorem State.orFld_fabric (s : State) (off : Nat) (f : Bits) (m : Nat) : (s.orFld off f m).fabric = s.fabric := (rfl)
@[simp] theorem State.orFld_slow (s : State) (off : Nat) (f : Bits) (m : Nat) : (s.orFld off f m).slow = s.slow := (rfl)
@[simp] theorem State.orFld_therm (s : State) (off : Nat) (f : Bits) (m : Nat) : (s.orFld off f m).therm = s.therm := (rfl)
@[simp] theorem State.orFld_host (s : State) (off : Nat) (f : Bits) (m : Nat) : (s.orFld off f m).host = s.host := (rfl)
@[simp] theorem State.orFld_pins (s : State) (off : Nat) (f : Bits) (m : Nat) : (s.orFld off f m).pins = s.pins := (rfl)
@[simp] theorem State.orFld_captures (s : State) (off : Nat) (f : Bits) (m : Nat) : (s.orFld off f m).captures = s.captures := (rfl)
@[simp] theorem State.orFld_recent (s : State) (off : Nat) (f : Bits) (m : Nat) : (s.orFld off f m).recent = s.recent := (rfl)
@[simp] theorem State.orFld_setvAt (s : State) (off : Nat) (f : Bits) (m : Nat) : (s.orFld off f m).setvAt = s.setvAt := (rfl)
@[simp] theorem State.orFld_later (s : State) (off : Nat) (f : Bits) (m : Nat) : (s.orFld off f m).later = s.later := (rfl)
@[simp] theorem State.orFld_readData (s : State) (off : Nat) (f : Bits) (m : Nat) : (s.orFld off f m).readData = s.readData := (rfl)
@[simp] theorem State.orFld_outbox (s : State) (off : Nat) (f : Bits) (m : Nat) : (s.orFld off f m).outbox = s.outbox := (rfl)
@[simp] theorem State.orFld_freeCtr (s : State) (off : Nat) (f : Bits) (m : Nat) : (s.orFld off f m).freeCtr = s.freeCtr := (rfl)

@[simp] theorem State.satAdd_pending (s : State) (off : Nat) (f : Bits) (n : Nat) : (s.satAdd off f n).pending = s.pending := (rfl)
@[simp] theorem State.satAdd_powered (s : State) (off : Nat) (f : Bits) (n : Nat) : (s.satAdd off f n).powered = s.powered := (rfl)
@[simp] theorem State.satAdd_clk (s : State) (off : Nat) (f : Bits) (n : Nat) : (s.satAdd off f n).clk = s.clk := (rfl)
@[simp] theorem State.satAdd_mode (s : State) (off : Nat) (f : Bits) (n : Nat) : (s.satAdd off f n).mode = s.mode := (rfl)
@[simp] theorem State.satAdd_transit (s : State) (off : Nat) (f : Bits) (n : Nat) : (s.satAdd off f n).transit = s.transit := (rfl)
@[simp] theorem State.satAdd_hold (s : State) (off : Nat) (f : Bits) (n : Nat) : (s.satAdd off f n).hold = s.hold := (rfl)
@[simp] theorem State.satAdd_trim (s : State) (off : Nat) (f : Bits) (n : Nat) : (s.satAdd off f n).trim = s.trim := (rfl)
@[simp] theorem State.satAdd_load (s : State) (off : Nat) (f : Bits) (n : Nat) : (s.satAdd off f n).load = s.load := (rfl)
@[simp] theorem State.satAdd_pat (s : State) (off : Nat) (f : Bits) (n : Nat) : (s.satAdd off f n).pat = s.pat := (rfl)
@[simp] theorem State.satAdd_mem (s : State) (off : Nat) (f : Bits) (n : Nat) : (s.satAdd off f n).mem = s.mem := (rfl)
@[simp] theorem State.satAdd_bench (s : State) (off : Nat) (f : Bits) (n : Nat) : (s.satAdd off f n).bench = s.bench := (rfl)
@[simp] theorem State.satAdd_time (s : State) (off : Nat) (f : Bits) (n : Nat) : (s.satAdd off f n).time = s.time := (rfl)
@[simp] theorem State.satAdd_segs (s : State) (off : Nat) (f : Bits) (n : Nat) : (s.satAdd off f n).segs = s.segs := (rfl)
@[simp] theorem State.satAdd_looms (s : State) (off : Nat) (f : Bits) (n : Nat) : (s.satAdd off f n).looms = s.looms := (rfl)
@[simp] theorem State.satAdd_lanes (s : State) (off : Nat) (f : Bits) (n : Nat) : (s.satAdd off f n).lanes = s.lanes := (rfl)
@[simp] theorem State.satAdd_out (s : State) (off : Nat) (f : Bits) (n : Nat) : (s.satAdd off f n).out = s.out := (rfl)
@[simp] theorem State.satAdd_chans (s : State) (off : Nat) (f : Bits) (n : Nat) : (s.satAdd off f n).chans = s.chans := (rfl)
@[simp] theorem State.satAdd_adcs (s : State) (off : Nat) (f : Bits) (n : Nat) : (s.satAdd off f n).adcs = s.adcs := (rfl)
@[simp] theorem State.satAdd_engines (s : State) (off : Nat) (f : Bits) (n : Nat) : (s.satAdd off f n).engines = s.engines := (rfl)
@[simp] theorem State.satAdd_xyStages (s : State) (off : Nat) (f : Bits) (n : Nat) : (s.satAdd off f n).xyStages = s.xyStages := (rfl)
@[simp] theorem State.satAdd_dec (s : State) (off : Nat) (f : Bits) (n : Nat) : (s.satAdd off f n).dec = s.dec := (rfl)
@[simp] theorem State.satAdd_fms (s : State) (off : Nat) (f : Bits) (n : Nat) : (s.satAdd off f n).fms = s.fms := (rfl)
@[simp] theorem State.satAdd_memc (s : State) (off : Nat) (f : Bits) (n : Nat) : (s.satAdd off f n).memc = s.memc := (rfl)
@[simp] theorem State.satAdd_tally (s : State) (off : Nat) (f : Bits) (n : Nat) : (s.satAdd off f n).tally = s.tally := (rfl)
@[simp] theorem State.satAdd_fabric (s : State) (off : Nat) (f : Bits) (n : Nat) : (s.satAdd off f n).fabric = s.fabric := (rfl)
@[simp] theorem State.satAdd_slow (s : State) (off : Nat) (f : Bits) (n : Nat) : (s.satAdd off f n).slow = s.slow := (rfl)
@[simp] theorem State.satAdd_therm (s : State) (off : Nat) (f : Bits) (n : Nat) : (s.satAdd off f n).therm = s.therm := (rfl)
@[simp] theorem State.satAdd_host (s : State) (off : Nat) (f : Bits) (n : Nat) : (s.satAdd off f n).host = s.host := (rfl)
@[simp] theorem State.satAdd_pins (s : State) (off : Nat) (f : Bits) (n : Nat) : (s.satAdd off f n).pins = s.pins := (rfl)
@[simp] theorem State.satAdd_captures (s : State) (off : Nat) (f : Bits) (n : Nat) : (s.satAdd off f n).captures = s.captures := (rfl)
@[simp] theorem State.satAdd_recent (s : State) (off : Nat) (f : Bits) (n : Nat) : (s.satAdd off f n).recent = s.recent := (rfl)
@[simp] theorem State.satAdd_setvAt (s : State) (off : Nat) (f : Bits) (n : Nat) : (s.satAdd off f n).setvAt = s.setvAt := (rfl)
@[simp] theorem State.satAdd_later (s : State) (off : Nat) (f : Bits) (n : Nat) : (s.satAdd off f n).later = s.later := (rfl)
@[simp] theorem State.satAdd_readData (s : State) (off : Nat) (f : Bits) (n : Nat) : (s.satAdd off f n).readData = s.readData := (rfl)
@[simp] theorem State.satAdd_outbox (s : State) (off : Nat) (f : Bits) (n : Nat) : (s.satAdd off f n).outbox = s.outbox := (rfl)
@[simp] theorem State.satAdd_freeCtr (s : State) (off : Nat) (f : Bits) (n : Nat) : (s.satAdd off f n).freeCtr = s.freeCtr := (rfl)

@[simp] theorem State.wrapAdd_pending (s : State) (off : Nat) (f : Bits) (n : Nat) : (s.wrapAdd off f n).pending = s.pending := (rfl)
@[simp] theorem State.wrapAdd_powered (s : State) (off : Nat) (f : Bits) (n : Nat) : (s.wrapAdd off f n).powered = s.powered := (rfl)
@[simp] theorem State.wrapAdd_clk (s : State) (off : Nat) (f : Bits) (n : Nat) : (s.wrapAdd off f n).clk = s.clk := (rfl)
@[simp] theorem State.wrapAdd_mode (s : State) (off : Nat) (f : Bits) (n : Nat) : (s.wrapAdd off f n).mode = s.mode := (rfl)
@[simp] theorem State.wrapAdd_transit (s : State) (off : Nat) (f : Bits) (n : Nat) : (s.wrapAdd off f n).transit = s.transit := (rfl)
@[simp] theorem State.wrapAdd_hold (s : State) (off : Nat) (f : Bits) (n : Nat) : (s.wrapAdd off f n).hold = s.hold := (rfl)
@[simp] theorem State.wrapAdd_trim (s : State) (off : Nat) (f : Bits) (n : Nat) : (s.wrapAdd off f n).trim = s.trim := (rfl)
@[simp] theorem State.wrapAdd_load (s : State) (off : Nat) (f : Bits) (n : Nat) : (s.wrapAdd off f n).load = s.load := (rfl)
@[simp] theorem State.wrapAdd_pat (s : State) (off : Nat) (f : Bits) (n : Nat) : (s.wrapAdd off f n).pat = s.pat := (rfl)
@[simp] theorem State.wrapAdd_mem (s : State) (off : Nat) (f : Bits) (n : Nat) : (s.wrapAdd off f n).mem = s.mem := (rfl)
@[simp] theorem State.wrapAdd_bench (s : State) (off : Nat) (f : Bits) (n : Nat) : (s.wrapAdd off f n).bench = s.bench := (rfl)
@[simp] theorem State.wrapAdd_time (s : State) (off : Nat) (f : Bits) (n : Nat) : (s.wrapAdd off f n).time = s.time := (rfl)
@[simp] theorem State.wrapAdd_segs (s : State) (off : Nat) (f : Bits) (n : Nat) : (s.wrapAdd off f n).segs = s.segs := (rfl)
@[simp] theorem State.wrapAdd_looms (s : State) (off : Nat) (f : Bits) (n : Nat) : (s.wrapAdd off f n).looms = s.looms := (rfl)
@[simp] theorem State.wrapAdd_lanes (s : State) (off : Nat) (f : Bits) (n : Nat) : (s.wrapAdd off f n).lanes = s.lanes := (rfl)
@[simp] theorem State.wrapAdd_out (s : State) (off : Nat) (f : Bits) (n : Nat) : (s.wrapAdd off f n).out = s.out := (rfl)
@[simp] theorem State.wrapAdd_chans (s : State) (off : Nat) (f : Bits) (n : Nat) : (s.wrapAdd off f n).chans = s.chans := (rfl)
@[simp] theorem State.wrapAdd_adcs (s : State) (off : Nat) (f : Bits) (n : Nat) : (s.wrapAdd off f n).adcs = s.adcs := (rfl)
@[simp] theorem State.wrapAdd_engines (s : State) (off : Nat) (f : Bits) (n : Nat) : (s.wrapAdd off f n).engines = s.engines := (rfl)
@[simp] theorem State.wrapAdd_xyStages (s : State) (off : Nat) (f : Bits) (n : Nat) : (s.wrapAdd off f n).xyStages = s.xyStages := (rfl)
@[simp] theorem State.wrapAdd_dec (s : State) (off : Nat) (f : Bits) (n : Nat) : (s.wrapAdd off f n).dec = s.dec := (rfl)
@[simp] theorem State.wrapAdd_fms (s : State) (off : Nat) (f : Bits) (n : Nat) : (s.wrapAdd off f n).fms = s.fms := (rfl)
@[simp] theorem State.wrapAdd_memc (s : State) (off : Nat) (f : Bits) (n : Nat) : (s.wrapAdd off f n).memc = s.memc := (rfl)
@[simp] theorem State.wrapAdd_tally (s : State) (off : Nat) (f : Bits) (n : Nat) : (s.wrapAdd off f n).tally = s.tally := (rfl)
@[simp] theorem State.wrapAdd_fabric (s : State) (off : Nat) (f : Bits) (n : Nat) : (s.wrapAdd off f n).fabric = s.fabric := (rfl)
@[simp] theorem State.wrapAdd_slow (s : State) (off : Nat) (f : Bits) (n : Nat) : (s.wrapAdd off f n).slow = s.slow := (rfl)
@[simp] theorem State.wrapAdd_therm (s : State) (off : Nat) (f : Bits) (n : Nat) : (s.wrapAdd off f n).therm = s.therm := (rfl)
@[simp] theorem State.wrapAdd_host (s : State) (off : Nat) (f : Bits) (n : Nat) : (s.wrapAdd off f n).host = s.host := (rfl)
@[simp] theorem State.wrapAdd_pins (s : State) (off : Nat) (f : Bits) (n : Nat) : (s.wrapAdd off f n).pins = s.pins := (rfl)
@[simp] theorem State.wrapAdd_captures (s : State) (off : Nat) (f : Bits) (n : Nat) : (s.wrapAdd off f n).captures = s.captures := (rfl)
@[simp] theorem State.wrapAdd_recent (s : State) (off : Nat) (f : Bits) (n : Nat) : (s.wrapAdd off f n).recent = s.recent := (rfl)
@[simp] theorem State.wrapAdd_setvAt (s : State) (off : Nat) (f : Bits) (n : Nat) : (s.wrapAdd off f n).setvAt = s.setvAt := (rfl)
@[simp] theorem State.wrapAdd_later (s : State) (off : Nat) (f : Bits) (n : Nat) : (s.wrapAdd off f n).later = s.later := (rfl)
@[simp] theorem State.wrapAdd_readData (s : State) (off : Nat) (f : Bits) (n : Nat) : (s.wrapAdd off f n).readData = s.readData := (rfl)
@[simp] theorem State.wrapAdd_outbox (s : State) (off : Nat) (f : Bits) (n : Nat) : (s.wrapAdd off f n).outbox = s.outbox := (rfl)
@[simp] theorem State.wrapAdd_freeCtr (s : State) (off : Nat) (f : Bits) (n : Nat) : (s.wrapAdd off f n).freeCtr = s.freeCtr := (rfl)

@[simp] theorem State.setReg64_pending (s : State) (off v : Nat) : (s.setReg64 off v).pending = s.pending := (rfl)
@[simp] theorem State.setReg64_powered (s : State) (off v : Nat) : (s.setReg64 off v).powered = s.powered := (rfl)
@[simp] theorem State.setReg64_clk (s : State) (off v : Nat) : (s.setReg64 off v).clk = s.clk := (rfl)
@[simp] theorem State.setReg64_mode (s : State) (off v : Nat) : (s.setReg64 off v).mode = s.mode := (rfl)
@[simp] theorem State.setReg64_transit (s : State) (off v : Nat) : (s.setReg64 off v).transit = s.transit := (rfl)
@[simp] theorem State.setReg64_hold (s : State) (off v : Nat) : (s.setReg64 off v).hold = s.hold := (rfl)
@[simp] theorem State.setReg64_trim (s : State) (off v : Nat) : (s.setReg64 off v).trim = s.trim := (rfl)
@[simp] theorem State.setReg64_load (s : State) (off v : Nat) : (s.setReg64 off v).load = s.load := (rfl)
@[simp] theorem State.setReg64_pat (s : State) (off v : Nat) : (s.setReg64 off v).pat = s.pat := (rfl)
@[simp] theorem State.setReg64_mem (s : State) (off v : Nat) : (s.setReg64 off v).mem = s.mem := (rfl)
@[simp] theorem State.setReg64_bench (s : State) (off v : Nat) : (s.setReg64 off v).bench = s.bench := (rfl)
@[simp] theorem State.setReg64_time (s : State) (off v : Nat) : (s.setReg64 off v).time = s.time := (rfl)
@[simp] theorem State.setReg64_segs (s : State) (off v : Nat) : (s.setReg64 off v).segs = s.segs := (rfl)
@[simp] theorem State.setReg64_looms (s : State) (off v : Nat) : (s.setReg64 off v).looms = s.looms := (rfl)
@[simp] theorem State.setReg64_lanes (s : State) (off v : Nat) : (s.setReg64 off v).lanes = s.lanes := (rfl)
@[simp] theorem State.setReg64_out (s : State) (off v : Nat) : (s.setReg64 off v).out = s.out := (rfl)
@[simp] theorem State.setReg64_chans (s : State) (off v : Nat) : (s.setReg64 off v).chans = s.chans := (rfl)
@[simp] theorem State.setReg64_adcs (s : State) (off v : Nat) : (s.setReg64 off v).adcs = s.adcs := (rfl)
@[simp] theorem State.setReg64_engines (s : State) (off v : Nat) : (s.setReg64 off v).engines = s.engines := (rfl)
@[simp] theorem State.setReg64_xyStages (s : State) (off v : Nat) : (s.setReg64 off v).xyStages = s.xyStages := (rfl)
@[simp] theorem State.setReg64_dec (s : State) (off v : Nat) : (s.setReg64 off v).dec = s.dec := (rfl)
@[simp] theorem State.setReg64_fms (s : State) (off v : Nat) : (s.setReg64 off v).fms = s.fms := (rfl)
@[simp] theorem State.setReg64_memc (s : State) (off v : Nat) : (s.setReg64 off v).memc = s.memc := (rfl)
@[simp] theorem State.setReg64_tally (s : State) (off v : Nat) : (s.setReg64 off v).tally = s.tally := (rfl)
@[simp] theorem State.setReg64_fabric (s : State) (off v : Nat) : (s.setReg64 off v).fabric = s.fabric := (rfl)
@[simp] theorem State.setReg64_slow (s : State) (off v : Nat) : (s.setReg64 off v).slow = s.slow := (rfl)
@[simp] theorem State.setReg64_therm (s : State) (off v : Nat) : (s.setReg64 off v).therm = s.therm := (rfl)
@[simp] theorem State.setReg64_host (s : State) (off v : Nat) : (s.setReg64 off v).host = s.host := (rfl)
@[simp] theorem State.setReg64_pins (s : State) (off v : Nat) : (s.setReg64 off v).pins = s.pins := (rfl)
@[simp] theorem State.setReg64_captures (s : State) (off v : Nat) : (s.setReg64 off v).captures = s.captures := (rfl)
@[simp] theorem State.setReg64_recent (s : State) (off v : Nat) : (s.setReg64 off v).recent = s.recent := (rfl)
@[simp] theorem State.setReg64_setvAt (s : State) (off v : Nat) : (s.setReg64 off v).setvAt = s.setvAt := (rfl)
@[simp] theorem State.setReg64_later (s : State) (off v : Nat) : (s.setReg64 off v).later = s.later := (rfl)
@[simp] theorem State.setReg64_readData (s : State) (off v : Nat) : (s.setReg64 off v).readData = s.readData := (rfl)
@[simp] theorem State.setReg64_outbox (s : State) (off v : Nat) : (s.setReg64 off v).outbox = s.outbox := (rfl)
@[simp] theorem State.setReg64_freeCtr (s : State) (off v : Nat) : (s.setReg64 off v).freeCtr = s.freeCtr := (rfl)

@[simp] theorem State.softReg_pending (s : State) (off : Nat) (v : Word) : (s.softReg off v).pending = s.pending := (rfl)
@[simp] theorem State.softReg_powered (s : State) (off : Nat) (v : Word) : (s.softReg off v).powered = s.powered := (rfl)
@[simp] theorem State.softReg_clk (s : State) (off : Nat) (v : Word) : (s.softReg off v).clk = s.clk := (rfl)
@[simp] theorem State.softReg_mode (s : State) (off : Nat) (v : Word) : (s.softReg off v).mode = s.mode := (rfl)
@[simp] theorem State.softReg_transit (s : State) (off : Nat) (v : Word) : (s.softReg off v).transit = s.transit := (rfl)
@[simp] theorem State.softReg_hold (s : State) (off : Nat) (v : Word) : (s.softReg off v).hold = s.hold := (rfl)
@[simp] theorem State.softReg_trim (s : State) (off : Nat) (v : Word) : (s.softReg off v).trim = s.trim := (rfl)
@[simp] theorem State.softReg_load (s : State) (off : Nat) (v : Word) : (s.softReg off v).load = s.load := (rfl)
@[simp] theorem State.softReg_pat (s : State) (off : Nat) (v : Word) : (s.softReg off v).pat = s.pat := (rfl)
@[simp] theorem State.softReg_mem (s : State) (off : Nat) (v : Word) : (s.softReg off v).mem = s.mem := (rfl)
@[simp] theorem State.softReg_bench (s : State) (off : Nat) (v : Word) : (s.softReg off v).bench = s.bench := (rfl)
@[simp] theorem State.softReg_time (s : State) (off : Nat) (v : Word) : (s.softReg off v).time = s.time := (rfl)
@[simp] theorem State.softReg_segs (s : State) (off : Nat) (v : Word) : (s.softReg off v).segs = s.segs := (rfl)
@[simp] theorem State.softReg_looms (s : State) (off : Nat) (v : Word) : (s.softReg off v).looms = s.looms := (rfl)
@[simp] theorem State.softReg_lanes (s : State) (off : Nat) (v : Word) : (s.softReg off v).lanes = s.lanes := (rfl)
@[simp] theorem State.softReg_out (s : State) (off : Nat) (v : Word) : (s.softReg off v).out = s.out := (rfl)
@[simp] theorem State.softReg_chans (s : State) (off : Nat) (v : Word) : (s.softReg off v).chans = s.chans := (rfl)
@[simp] theorem State.softReg_adcs (s : State) (off : Nat) (v : Word) : (s.softReg off v).adcs = s.adcs := (rfl)
@[simp] theorem State.softReg_engines (s : State) (off : Nat) (v : Word) : (s.softReg off v).engines = s.engines := (rfl)
@[simp] theorem State.softReg_xyStages (s : State) (off : Nat) (v : Word) : (s.softReg off v).xyStages = s.xyStages := (rfl)
@[simp] theorem State.softReg_dec (s : State) (off : Nat) (v : Word) : (s.softReg off v).dec = s.dec := (rfl)
@[simp] theorem State.softReg_fms (s : State) (off : Nat) (v : Word) : (s.softReg off v).fms = s.fms := (rfl)
@[simp] theorem State.softReg_memc (s : State) (off : Nat) (v : Word) : (s.softReg off v).memc = s.memc := (rfl)
@[simp] theorem State.softReg_tally (s : State) (off : Nat) (v : Word) : (s.softReg off v).tally = s.tally := (rfl)
@[simp] theorem State.softReg_fabric (s : State) (off : Nat) (v : Word) : (s.softReg off v).fabric = s.fabric := (rfl)
@[simp] theorem State.softReg_slow (s : State) (off : Nat) (v : Word) : (s.softReg off v).slow = s.slow := (rfl)
@[simp] theorem State.softReg_therm (s : State) (off : Nat) (v : Word) : (s.softReg off v).therm = s.therm := (rfl)
@[simp] theorem State.softReg_host (s : State) (off : Nat) (v : Word) : (s.softReg off v).host = s.host := (rfl)
@[simp] theorem State.softReg_pins (s : State) (off : Nat) (v : Word) : (s.softReg off v).pins = s.pins := (rfl)
@[simp] theorem State.softReg_captures (s : State) (off : Nat) (v : Word) : (s.softReg off v).captures = s.captures := (rfl)
@[simp] theorem State.softReg_setvAt (s : State) (off : Nat) (v : Word) : (s.softReg off v).setvAt = s.setvAt := (rfl)
@[simp] theorem State.softReg_later (s : State) (off : Nat) (v : Word) : (s.softReg off v).later = s.later := (rfl)
@[simp] theorem State.softReg_readData (s : State) (off : Nat) (v : Word) : (s.softReg off v).readData = s.readData := (rfl)
@[simp] theorem State.softReg_outbox (s : State) (off : Nat) (v : Word) : (s.softReg off v).outbox = s.outbox := (rfl)
@[simp] theorem State.softReg_freeCtr (s : State) (off : Nat) (v : Word) : (s.softReg off v).freeCtr = s.freeCtr := (rfl)

@[simp] theorem State.breach_pending (s : State) (f : Bits) : (s.breach f).pending = s.pending := (rfl)
@[simp] theorem State.breach_powered (s : State) (f : Bits) : (s.breach f).powered = s.powered := (rfl)
@[simp] theorem State.breach_clk (s : State) (f : Bits) : (s.breach f).clk = s.clk := (rfl)
@[simp] theorem State.breach_mode (s : State) (f : Bits) : (s.breach f).mode = s.mode := (rfl)
@[simp] theorem State.breach_transit (s : State) (f : Bits) : (s.breach f).transit = s.transit := (rfl)
@[simp] theorem State.breach_hold (s : State) (f : Bits) : (s.breach f).hold = s.hold := (rfl)
@[simp] theorem State.breach_trim (s : State) (f : Bits) : (s.breach f).trim = s.trim := (rfl)
@[simp] theorem State.breach_load (s : State) (f : Bits) : (s.breach f).load = s.load := (rfl)
@[simp] theorem State.breach_pat (s : State) (f : Bits) : (s.breach f).pat = s.pat := (rfl)
@[simp] theorem State.breach_mem (s : State) (f : Bits) : (s.breach f).mem = s.mem := (rfl)
@[simp] theorem State.breach_bench (s : State) (f : Bits) : (s.breach f).bench = s.bench := (rfl)
@[simp] theorem State.breach_time (s : State) (f : Bits) : (s.breach f).time = s.time := (rfl)
@[simp] theorem State.breach_segs (s : State) (f : Bits) : (s.breach f).segs = s.segs := (rfl)
@[simp] theorem State.breach_looms (s : State) (f : Bits) : (s.breach f).looms = s.looms := (rfl)
@[simp] theorem State.breach_lanes (s : State) (f : Bits) : (s.breach f).lanes = s.lanes := (rfl)
@[simp] theorem State.breach_out (s : State) (f : Bits) : (s.breach f).out = s.out := (rfl)
@[simp] theorem State.breach_chans (s : State) (f : Bits) : (s.breach f).chans = s.chans := (rfl)
@[simp] theorem State.breach_adcs (s : State) (f : Bits) : (s.breach f).adcs = s.adcs := (rfl)
@[simp] theorem State.breach_engines (s : State) (f : Bits) : (s.breach f).engines = s.engines := (rfl)
@[simp] theorem State.breach_xyStages (s : State) (f : Bits) : (s.breach f).xyStages = s.xyStages := (rfl)
@[simp] theorem State.breach_dec (s : State) (f : Bits) : (s.breach f).dec = s.dec := (rfl)
@[simp] theorem State.breach_fms (s : State) (f : Bits) : (s.breach f).fms = s.fms := (rfl)
@[simp] theorem State.breach_memc (s : State) (f : Bits) : (s.breach f).memc = s.memc := (rfl)
@[simp] theorem State.breach_tally (s : State) (f : Bits) : (s.breach f).tally = s.tally := (rfl)
@[simp] theorem State.breach_fabric (s : State) (f : Bits) : (s.breach f).fabric = s.fabric := (rfl)
@[simp] theorem State.breach_slow (s : State) (f : Bits) : (s.breach f).slow = s.slow := (rfl)
@[simp] theorem State.breach_therm (s : State) (f : Bits) : (s.breach f).therm = s.therm := (rfl)
@[simp] theorem State.breach_host (s : State) (f : Bits) : (s.breach f).host = s.host := (rfl)
@[simp] theorem State.breach_pins (s : State) (f : Bits) : (s.breach f).pins = s.pins := (rfl)
@[simp] theorem State.breach_captures (s : State) (f : Bits) : (s.breach f).captures = s.captures := (rfl)
@[simp] theorem State.breach_recent (s : State) (f : Bits) : (s.breach f).recent = s.recent := (rfl)
@[simp] theorem State.breach_setvAt (s : State) (f : Bits) : (s.breach f).setvAt = s.setvAt := (rfl)
@[simp] theorem State.breach_later (s : State) (f : Bits) : (s.breach f).later = s.later := (rfl)
@[simp] theorem State.breach_readData (s : State) (f : Bits) : (s.breach f).readData = s.readData := (rfl)
@[simp] theorem State.breach_outbox (s : State) (f : Bits) : (s.breach f).outbox = s.outbox := (rfl)
@[simp] theorem State.breach_freeCtr (s : State) (f : Bits) : (s.breach f).freeCtr = s.freeCtr := (rfl)

@[simp] theorem State.setByte_pending (s : State) (a : Nat) (v : Byte) : (s.setByte a v).pending = s.pending := (rfl)
@[simp] theorem State.setByte_powered (s : State) (a : Nat) (v : Byte) : (s.setByte a v).powered = s.powered := (rfl)
@[simp] theorem State.setByte_clk (s : State) (a : Nat) (v : Byte) : (s.setByte a v).clk = s.clk := (rfl)
@[simp] theorem State.setByte_mode (s : State) (a : Nat) (v : Byte) : (s.setByte a v).mode = s.mode := (rfl)
@[simp] theorem State.setByte_transit (s : State) (a : Nat) (v : Byte) : (s.setByte a v).transit = s.transit := (rfl)
@[simp] theorem State.setByte_hold (s : State) (a : Nat) (v : Byte) : (s.setByte a v).hold = s.hold := (rfl)
@[simp] theorem State.setByte_trim (s : State) (a : Nat) (v : Byte) : (s.setByte a v).trim = s.trim := (rfl)
@[simp] theorem State.setByte_load (s : State) (a : Nat) (v : Byte) : (s.setByte a v).load = s.load := (rfl)
@[simp] theorem State.setByte_pat (s : State) (a : Nat) (v : Byte) : (s.setByte a v).pat = s.pat := (rfl)
@[simp] theorem State.setByte_ap (s : State) (a : Nat) (v : Byte) : (s.setByte a v).ap = s.ap := (rfl)
@[simp] theorem State.setByte_bench (s : State) (a : Nat) (v : Byte) : (s.setByte a v).bench = s.bench := (rfl)
@[simp] theorem State.setByte_time (s : State) (a : Nat) (v : Byte) : (s.setByte a v).time = s.time := (rfl)
@[simp] theorem State.setByte_segs (s : State) (a : Nat) (v : Byte) : (s.setByte a v).segs = s.segs := (rfl)
@[simp] theorem State.setByte_looms (s : State) (a : Nat) (v : Byte) : (s.setByte a v).looms = s.looms := (rfl)
@[simp] theorem State.setByte_lanes (s : State) (a : Nat) (v : Byte) : (s.setByte a v).lanes = s.lanes := (rfl)
@[simp] theorem State.setByte_out (s : State) (a : Nat) (v : Byte) : (s.setByte a v).out = s.out := (rfl)
@[simp] theorem State.setByte_chans (s : State) (a : Nat) (v : Byte) : (s.setByte a v).chans = s.chans := (rfl)
@[simp] theorem State.setByte_adcs (s : State) (a : Nat) (v : Byte) : (s.setByte a v).adcs = s.adcs := (rfl)
@[simp] theorem State.setByte_engines (s : State) (a : Nat) (v : Byte) : (s.setByte a v).engines = s.engines := (rfl)
@[simp] theorem State.setByte_xyStages (s : State) (a : Nat) (v : Byte) : (s.setByte a v).xyStages = s.xyStages := (rfl)
@[simp] theorem State.setByte_dec (s : State) (a : Nat) (v : Byte) : (s.setByte a v).dec = s.dec := (rfl)
@[simp] theorem State.setByte_fms (s : State) (a : Nat) (v : Byte) : (s.setByte a v).fms = s.fms := (rfl)
@[simp] theorem State.setByte_memc (s : State) (a : Nat) (v : Byte) : (s.setByte a v).memc = s.memc := (rfl)
@[simp] theorem State.setByte_tally (s : State) (a : Nat) (v : Byte) : (s.setByte a v).tally = s.tally := (rfl)
@[simp] theorem State.setByte_fabric (s : State) (a : Nat) (v : Byte) : (s.setByte a v).fabric = s.fabric := (rfl)
@[simp] theorem State.setByte_slow (s : State) (a : Nat) (v : Byte) : (s.setByte a v).slow = s.slow := (rfl)
@[simp] theorem State.setByte_therm (s : State) (a : Nat) (v : Byte) : (s.setByte a v).therm = s.therm := (rfl)
@[simp] theorem State.setByte_host (s : State) (a : Nat) (v : Byte) : (s.setByte a v).host = s.host := (rfl)
@[simp] theorem State.setByte_pins (s : State) (a : Nat) (v : Byte) : (s.setByte a v).pins = s.pins := (rfl)
@[simp] theorem State.setByte_captures (s : State) (a : Nat) (v : Byte) : (s.setByte a v).captures = s.captures := (rfl)
@[simp] theorem State.setByte_recent (s : State) (a : Nat) (v : Byte) : (s.setByte a v).recent = s.recent := (rfl)
@[simp] theorem State.setByte_setvAt (s : State) (a : Nat) (v : Byte) : (s.setByte a v).setvAt = s.setvAt := (rfl)
@[simp] theorem State.setByte_later (s : State) (a : Nat) (v : Byte) : (s.setByte a v).later = s.later := (rfl)
@[simp] theorem State.setByte_readData (s : State) (a : Nat) (v : Byte) : (s.setByte a v).readData = s.readData := (rfl)
@[simp] theorem State.setByte_outbox (s : State) (a : Nat) (v : Byte) : (s.setByte a v).outbox = s.outbox := (rfl)
@[simp] theorem State.setByte_freeCtr (s : State) (a : Nat) (v : Byte) : (s.setByte a v).freeCtr = s.freeCtr := (rfl)

@[simp] theorem State.onBench_pending (s : State) (b : Nat) (f : BenchSt → BenchSt) : (s.onBench b f).pending = s.pending := (rfl)
@[simp] theorem State.onBench_powered (s : State) (b : Nat) (f : BenchSt → BenchSt) : (s.onBench b f).powered = s.powered := (rfl)
@[simp] theorem State.onBench_clk (s : State) (b : Nat) (f : BenchSt → BenchSt) : (s.onBench b f).clk = s.clk := (rfl)
@[simp] theorem State.onBench_mode (s : State) (b : Nat) (f : BenchSt → BenchSt) : (s.onBench b f).mode = s.mode := (rfl)
@[simp] theorem State.onBench_transit (s : State) (b : Nat) (f : BenchSt → BenchSt) : (s.onBench b f).transit = s.transit := (rfl)
@[simp] theorem State.onBench_hold (s : State) (b : Nat) (f : BenchSt → BenchSt) : (s.onBench b f).hold = s.hold := (rfl)
@[simp] theorem State.onBench_trim (s : State) (b : Nat) (f : BenchSt → BenchSt) : (s.onBench b f).trim = s.trim := (rfl)
@[simp] theorem State.onBench_load (s : State) (b : Nat) (f : BenchSt → BenchSt) : (s.onBench b f).load = s.load := (rfl)
@[simp] theorem State.onBench_pat (s : State) (b : Nat) (f : BenchSt → BenchSt) : (s.onBench b f).pat = s.pat := (rfl)
@[simp] theorem State.onBench_ap (s : State) (b : Nat) (f : BenchSt → BenchSt) : (s.onBench b f).ap = s.ap := (rfl)
@[simp] theorem State.onBench_mem (s : State) (b : Nat) (f : BenchSt → BenchSt) : (s.onBench b f).mem = s.mem := (rfl)
@[simp] theorem State.onBench_time (s : State) (b : Nat) (f : BenchSt → BenchSt) : (s.onBench b f).time = s.time := (rfl)
@[simp] theorem State.onBench_segs (s : State) (b : Nat) (f : BenchSt → BenchSt) : (s.onBench b f).segs = s.segs := (rfl)
@[simp] theorem State.onBench_looms (s : State) (b : Nat) (f : BenchSt → BenchSt) : (s.onBench b f).looms = s.looms := (rfl)
@[simp] theorem State.onBench_lanes (s : State) (b : Nat) (f : BenchSt → BenchSt) : (s.onBench b f).lanes = s.lanes := (rfl)
@[simp] theorem State.onBench_out (s : State) (b : Nat) (f : BenchSt → BenchSt) : (s.onBench b f).out = s.out := (rfl)
@[simp] theorem State.onBench_chans (s : State) (b : Nat) (f : BenchSt → BenchSt) : (s.onBench b f).chans = s.chans := (rfl)
@[simp] theorem State.onBench_adcs (s : State) (b : Nat) (f : BenchSt → BenchSt) : (s.onBench b f).adcs = s.adcs := (rfl)
@[simp] theorem State.onBench_engines (s : State) (b : Nat) (f : BenchSt → BenchSt) : (s.onBench b f).engines = s.engines := (rfl)
@[simp] theorem State.onBench_xyStages (s : State) (b : Nat) (f : BenchSt → BenchSt) : (s.onBench b f).xyStages = s.xyStages := (rfl)
@[simp] theorem State.onBench_dec (s : State) (b : Nat) (f : BenchSt → BenchSt) : (s.onBench b f).dec = s.dec := (rfl)
@[simp] theorem State.onBench_fms (s : State) (b : Nat) (f : BenchSt → BenchSt) : (s.onBench b f).fms = s.fms := (rfl)
@[simp] theorem State.onBench_memc (s : State) (b : Nat) (f : BenchSt → BenchSt) : (s.onBench b f).memc = s.memc := (rfl)
@[simp] theorem State.onBench_tally (s : State) (b : Nat) (f : BenchSt → BenchSt) : (s.onBench b f).tally = s.tally := (rfl)
@[simp] theorem State.onBench_fabric (s : State) (b : Nat) (f : BenchSt → BenchSt) : (s.onBench b f).fabric = s.fabric := (rfl)
@[simp] theorem State.onBench_slow (s : State) (b : Nat) (f : BenchSt → BenchSt) : (s.onBench b f).slow = s.slow := (rfl)
@[simp] theorem State.onBench_therm (s : State) (b : Nat) (f : BenchSt → BenchSt) : (s.onBench b f).therm = s.therm := (rfl)
@[simp] theorem State.onBench_host (s : State) (b : Nat) (f : BenchSt → BenchSt) : (s.onBench b f).host = s.host := (rfl)
@[simp] theorem State.onBench_pins (s : State) (b : Nat) (f : BenchSt → BenchSt) : (s.onBench b f).pins = s.pins := (rfl)
@[simp] theorem State.onBench_captures (s : State) (b : Nat) (f : BenchSt → BenchSt) : (s.onBench b f).captures = s.captures := (rfl)
@[simp] theorem State.onBench_recent (s : State) (b : Nat) (f : BenchSt → BenchSt) : (s.onBench b f).recent = s.recent := (rfl)
@[simp] theorem State.onBench_setvAt (s : State) (b : Nat) (f : BenchSt → BenchSt) : (s.onBench b f).setvAt = s.setvAt := (rfl)
@[simp] theorem State.onBench_later (s : State) (b : Nat) (f : BenchSt → BenchSt) : (s.onBench b f).later = s.later := (rfl)
@[simp] theorem State.onBench_readData (s : State) (b : Nat) (f : BenchSt → BenchSt) : (s.onBench b f).readData = s.readData := (rfl)
@[simp] theorem State.onBench_outbox (s : State) (b : Nat) (f : BenchSt → BenchSt) : (s.onBench b f).outbox = s.outbox := (rfl)
@[simp] theorem State.onBench_freeCtr (s : State) (b : Nat) (f : BenchSt → BenchSt) : (s.onBench b f).freeCtr = s.freeCtr := (rfl)

@[simp] theorem State.onLane_pending (s : State) (b l : Nat) (f : Lane → Lane) : (s.onLane b l f).pending = s.pending := (rfl)
@[simp] theorem State.onLane_powered (s : State) (b l : Nat) (f : Lane → Lane) : (s.onLane b l f).powered = s.powered := (rfl)
@[simp] theorem State.onLane_clk (s : State) (b l : Nat) (f : Lane → Lane) : (s.onLane b l f).clk = s.clk := (rfl)
@[simp] theorem State.onLane_mode (s : State) (b l : Nat) (f : Lane → Lane) : (s.onLane b l f).mode = s.mode := (rfl)
@[simp] theorem State.onLane_transit (s : State) (b l : Nat) (f : Lane → Lane) : (s.onLane b l f).transit = s.transit := (rfl)
@[simp] theorem State.onLane_hold (s : State) (b l : Nat) (f : Lane → Lane) : (s.onLane b l f).hold = s.hold := (rfl)
@[simp] theorem State.onLane_trim (s : State) (b l : Nat) (f : Lane → Lane) : (s.onLane b l f).trim = s.trim := (rfl)
@[simp] theorem State.onLane_load (s : State) (b l : Nat) (f : Lane → Lane) : (s.onLane b l f).load = s.load := (rfl)
@[simp] theorem State.onLane_pat (s : State) (b l : Nat) (f : Lane → Lane) : (s.onLane b l f).pat = s.pat := (rfl)
@[simp] theorem State.onLane_ap (s : State) (b l : Nat) (f : Lane → Lane) : (s.onLane b l f).ap = s.ap := (rfl)
@[simp] theorem State.onLane_mem (s : State) (b l : Nat) (f : Lane → Lane) : (s.onLane b l f).mem = s.mem := (rfl)
@[simp] theorem State.onLane_bench (s : State) (b l : Nat) (f : Lane → Lane) : (s.onLane b l f).bench = s.bench := (rfl)
@[simp] theorem State.onLane_time (s : State) (b l : Nat) (f : Lane → Lane) : (s.onLane b l f).time = s.time := (rfl)
@[simp] theorem State.onLane_segs (s : State) (b l : Nat) (f : Lane → Lane) : (s.onLane b l f).segs = s.segs := (rfl)
@[simp] theorem State.onLane_looms (s : State) (b l : Nat) (f : Lane → Lane) : (s.onLane b l f).looms = s.looms := (rfl)
@[simp] theorem State.onLane_out (s : State) (b l : Nat) (f : Lane → Lane) : (s.onLane b l f).out = s.out := (rfl)
@[simp] theorem State.onLane_chans (s : State) (b l : Nat) (f : Lane → Lane) : (s.onLane b l f).chans = s.chans := (rfl)
@[simp] theorem State.onLane_adcs (s : State) (b l : Nat) (f : Lane → Lane) : (s.onLane b l f).adcs = s.adcs := (rfl)
@[simp] theorem State.onLane_engines (s : State) (b l : Nat) (f : Lane → Lane) : (s.onLane b l f).engines = s.engines := (rfl)
@[simp] theorem State.onLane_xyStages (s : State) (b l : Nat) (f : Lane → Lane) : (s.onLane b l f).xyStages = s.xyStages := (rfl)
@[simp] theorem State.onLane_dec (s : State) (b l : Nat) (f : Lane → Lane) : (s.onLane b l f).dec = s.dec := (rfl)
@[simp] theorem State.onLane_fms (s : State) (b l : Nat) (f : Lane → Lane) : (s.onLane b l f).fms = s.fms := (rfl)
@[simp] theorem State.onLane_memc (s : State) (b l : Nat) (f : Lane → Lane) : (s.onLane b l f).memc = s.memc := (rfl)
@[simp] theorem State.onLane_tally (s : State) (b l : Nat) (f : Lane → Lane) : (s.onLane b l f).tally = s.tally := (rfl)
@[simp] theorem State.onLane_fabric (s : State) (b l : Nat) (f : Lane → Lane) : (s.onLane b l f).fabric = s.fabric := (rfl)
@[simp] theorem State.onLane_slow (s : State) (b l : Nat) (f : Lane → Lane) : (s.onLane b l f).slow = s.slow := (rfl)
@[simp] theorem State.onLane_therm (s : State) (b l : Nat) (f : Lane → Lane) : (s.onLane b l f).therm = s.therm := (rfl)
@[simp] theorem State.onLane_host (s : State) (b l : Nat) (f : Lane → Lane) : (s.onLane b l f).host = s.host := (rfl)
@[simp] theorem State.onLane_pins (s : State) (b l : Nat) (f : Lane → Lane) : (s.onLane b l f).pins = s.pins := (rfl)
@[simp] theorem State.onLane_captures (s : State) (b l : Nat) (f : Lane → Lane) : (s.onLane b l f).captures = s.captures := (rfl)
@[simp] theorem State.onLane_recent (s : State) (b l : Nat) (f : Lane → Lane) : (s.onLane b l f).recent = s.recent := (rfl)
@[simp] theorem State.onLane_setvAt (s : State) (b l : Nat) (f : Lane → Lane) : (s.onLane b l f).setvAt = s.setvAt := (rfl)
@[simp] theorem State.onLane_later (s : State) (b l : Nat) (f : Lane → Lane) : (s.onLane b l f).later = s.later := (rfl)
@[simp] theorem State.onLane_readData (s : State) (b l : Nat) (f : Lane → Lane) : (s.onLane b l f).readData = s.readData := (rfl)
@[simp] theorem State.onLane_outbox (s : State) (b l : Nat) (f : Lane → Lane) : (s.onLane b l f).outbox = s.outbox := (rfl)
@[simp] theorem State.onLane_freeCtr (s : State) (b l : Nat) (f : Lane → Lane) : (s.onLane b l f).freeCtr = s.freeCtr := (rfl)

@[simp] theorem State.onLoom_pending (s : State) (b : Nat) (f : Loom → Loom) : (s.onLoom b f).pending = s.pending := (rfl)
@[simp] theorem State.onLoom_powered (s : State) (b : Nat) (f : Loom → Loom) : (s.onLoom b f).powered = s.powered := (rfl)
@[simp] theorem State.onLoom_clk (s : State) (b : Nat) (f : Loom → Loom) : (s.onLoom b f).clk = s.clk := (rfl)
@[simp] theorem State.onLoom_mode (s : State) (b : Nat) (f : Loom → Loom) : (s.onLoom b f).mode = s.mode := (rfl)
@[simp] theorem State.onLoom_transit (s : State) (b : Nat) (f : Loom → Loom) : (s.onLoom b f).transit = s.transit := (rfl)
@[simp] theorem State.onLoom_hold (s : State) (b : Nat) (f : Loom → Loom) : (s.onLoom b f).hold = s.hold := (rfl)
@[simp] theorem State.onLoom_trim (s : State) (b : Nat) (f : Loom → Loom) : (s.onLoom b f).trim = s.trim := (rfl)
@[simp] theorem State.onLoom_load (s : State) (b : Nat) (f : Loom → Loom) : (s.onLoom b f).load = s.load := (rfl)
@[simp] theorem State.onLoom_pat (s : State) (b : Nat) (f : Loom → Loom) : (s.onLoom b f).pat = s.pat := (rfl)
@[simp] theorem State.onLoom_ap (s : State) (b : Nat) (f : Loom → Loom) : (s.onLoom b f).ap = s.ap := (rfl)
@[simp] theorem State.onLoom_mem (s : State) (b : Nat) (f : Loom → Loom) : (s.onLoom b f).mem = s.mem := (rfl)
@[simp] theorem State.onLoom_bench (s : State) (b : Nat) (f : Loom → Loom) : (s.onLoom b f).bench = s.bench := (rfl)
@[simp] theorem State.onLoom_time (s : State) (b : Nat) (f : Loom → Loom) : (s.onLoom b f).time = s.time := (rfl)
@[simp] theorem State.onLoom_segs (s : State) (b : Nat) (f : Loom → Loom) : (s.onLoom b f).segs = s.segs := (rfl)
@[simp] theorem State.onLoom_lanes (s : State) (b : Nat) (f : Loom → Loom) : (s.onLoom b f).lanes = s.lanes := (rfl)
@[simp] theorem State.onLoom_out (s : State) (b : Nat) (f : Loom → Loom) : (s.onLoom b f).out = s.out := (rfl)
@[simp] theorem State.onLoom_chans (s : State) (b : Nat) (f : Loom → Loom) : (s.onLoom b f).chans = s.chans := (rfl)
@[simp] theorem State.onLoom_adcs (s : State) (b : Nat) (f : Loom → Loom) : (s.onLoom b f).adcs = s.adcs := (rfl)
@[simp] theorem State.onLoom_engines (s : State) (b : Nat) (f : Loom → Loom) : (s.onLoom b f).engines = s.engines := (rfl)
@[simp] theorem State.onLoom_xyStages (s : State) (b : Nat) (f : Loom → Loom) : (s.onLoom b f).xyStages = s.xyStages := (rfl)
@[simp] theorem State.onLoom_dec (s : State) (b : Nat) (f : Loom → Loom) : (s.onLoom b f).dec = s.dec := (rfl)
@[simp] theorem State.onLoom_fms (s : State) (b : Nat) (f : Loom → Loom) : (s.onLoom b f).fms = s.fms := (rfl)
@[simp] theorem State.onLoom_memc (s : State) (b : Nat) (f : Loom → Loom) : (s.onLoom b f).memc = s.memc := (rfl)
@[simp] theorem State.onLoom_tally (s : State) (b : Nat) (f : Loom → Loom) : (s.onLoom b f).tally = s.tally := (rfl)
@[simp] theorem State.onLoom_fabric (s : State) (b : Nat) (f : Loom → Loom) : (s.onLoom b f).fabric = s.fabric := (rfl)
@[simp] theorem State.onLoom_slow (s : State) (b : Nat) (f : Loom → Loom) : (s.onLoom b f).slow = s.slow := (rfl)
@[simp] theorem State.onLoom_therm (s : State) (b : Nat) (f : Loom → Loom) : (s.onLoom b f).therm = s.therm := (rfl)
@[simp] theorem State.onLoom_host (s : State) (b : Nat) (f : Loom → Loom) : (s.onLoom b f).host = s.host := (rfl)
@[simp] theorem State.onLoom_pins (s : State) (b : Nat) (f : Loom → Loom) : (s.onLoom b f).pins = s.pins := (rfl)
@[simp] theorem State.onLoom_captures (s : State) (b : Nat) (f : Loom → Loom) : (s.onLoom b f).captures = s.captures := (rfl)
@[simp] theorem State.onLoom_recent (s : State) (b : Nat) (f : Loom → Loom) : (s.onLoom b f).recent = s.recent := (rfl)
@[simp] theorem State.onLoom_setvAt (s : State) (b : Nat) (f : Loom → Loom) : (s.onLoom b f).setvAt = s.setvAt := (rfl)
@[simp] theorem State.onLoom_later (s : State) (b : Nat) (f : Loom → Loom) : (s.onLoom b f).later = s.later := (rfl)
@[simp] theorem State.onLoom_readData (s : State) (b : Nat) (f : Loom → Loom) : (s.onLoom b f).readData = s.readData := (rfl)
@[simp] theorem State.onLoom_outbox (s : State) (b : Nat) (f : Loom → Loom) : (s.onLoom b f).outbox = s.outbox := (rfl)
@[simp] theorem State.onLoom_freeCtr (s : State) (b : Nat) (f : Loom → Loom) : (s.onLoom b f).freeCtr = s.freeCtr := (rfl)

@[simp] theorem State.onChan_pending (s : State) (b c : Nat) (f : Chan → Chan) : (s.onChan b c f).pending = s.pending := (rfl)
@[simp] theorem State.onChan_powered (s : State) (b c : Nat) (f : Chan → Chan) : (s.onChan b c f).powered = s.powered := (rfl)
@[simp] theorem State.onChan_clk (s : State) (b c : Nat) (f : Chan → Chan) : (s.onChan b c f).clk = s.clk := (rfl)
@[simp] theorem State.onChan_mode (s : State) (b c : Nat) (f : Chan → Chan) : (s.onChan b c f).mode = s.mode := (rfl)
@[simp] theorem State.onChan_transit (s : State) (b c : Nat) (f : Chan → Chan) : (s.onChan b c f).transit = s.transit := (rfl)
@[simp] theorem State.onChan_hold (s : State) (b c : Nat) (f : Chan → Chan) : (s.onChan b c f).hold = s.hold := (rfl)
@[simp] theorem State.onChan_trim (s : State) (b c : Nat) (f : Chan → Chan) : (s.onChan b c f).trim = s.trim := (rfl)
@[simp] theorem State.onChan_load (s : State) (b c : Nat) (f : Chan → Chan) : (s.onChan b c f).load = s.load := (rfl)
@[simp] theorem State.onChan_pat (s : State) (b c : Nat) (f : Chan → Chan) : (s.onChan b c f).pat = s.pat := (rfl)
@[simp] theorem State.onChan_ap (s : State) (b c : Nat) (f : Chan → Chan) : (s.onChan b c f).ap = s.ap := (rfl)
@[simp] theorem State.onChan_mem (s : State) (b c : Nat) (f : Chan → Chan) : (s.onChan b c f).mem = s.mem := (rfl)
@[simp] theorem State.onChan_bench (s : State) (b c : Nat) (f : Chan → Chan) : (s.onChan b c f).bench = s.bench := (rfl)
@[simp] theorem State.onChan_time (s : State) (b c : Nat) (f : Chan → Chan) : (s.onChan b c f).time = s.time := (rfl)
@[simp] theorem State.onChan_segs (s : State) (b c : Nat) (f : Chan → Chan) : (s.onChan b c f).segs = s.segs := (rfl)
@[simp] theorem State.onChan_looms (s : State) (b c : Nat) (f : Chan → Chan) : (s.onChan b c f).looms = s.looms := (rfl)
@[simp] theorem State.onChan_lanes (s : State) (b c : Nat) (f : Chan → Chan) : (s.onChan b c f).lanes = s.lanes := (rfl)
@[simp] theorem State.onChan_out (s : State) (b c : Nat) (f : Chan → Chan) : (s.onChan b c f).out = s.out := (rfl)
@[simp] theorem State.onChan_adcs (s : State) (b c : Nat) (f : Chan → Chan) : (s.onChan b c f).adcs = s.adcs := (rfl)
@[simp] theorem State.onChan_engines (s : State) (b c : Nat) (f : Chan → Chan) : (s.onChan b c f).engines = s.engines := (rfl)
@[simp] theorem State.onChan_xyStages (s : State) (b c : Nat) (f : Chan → Chan) : (s.onChan b c f).xyStages = s.xyStages := (rfl)
@[simp] theorem State.onChan_dec (s : State) (b c : Nat) (f : Chan → Chan) : (s.onChan b c f).dec = s.dec := (rfl)
@[simp] theorem State.onChan_fms (s : State) (b c : Nat) (f : Chan → Chan) : (s.onChan b c f).fms = s.fms := (rfl)
@[simp] theorem State.onChan_memc (s : State) (b c : Nat) (f : Chan → Chan) : (s.onChan b c f).memc = s.memc := (rfl)
@[simp] theorem State.onChan_tally (s : State) (b c : Nat) (f : Chan → Chan) : (s.onChan b c f).tally = s.tally := (rfl)
@[simp] theorem State.onChan_fabric (s : State) (b c : Nat) (f : Chan → Chan) : (s.onChan b c f).fabric = s.fabric := (rfl)
@[simp] theorem State.onChan_slow (s : State) (b c : Nat) (f : Chan → Chan) : (s.onChan b c f).slow = s.slow := (rfl)
@[simp] theorem State.onChan_therm (s : State) (b c : Nat) (f : Chan → Chan) : (s.onChan b c f).therm = s.therm := (rfl)
@[simp] theorem State.onChan_host (s : State) (b c : Nat) (f : Chan → Chan) : (s.onChan b c f).host = s.host := (rfl)
@[simp] theorem State.onChan_pins (s : State) (b c : Nat) (f : Chan → Chan) : (s.onChan b c f).pins = s.pins := (rfl)
@[simp] theorem State.onChan_captures (s : State) (b c : Nat) (f : Chan → Chan) : (s.onChan b c f).captures = s.captures := (rfl)
@[simp] theorem State.onChan_recent (s : State) (b c : Nat) (f : Chan → Chan) : (s.onChan b c f).recent = s.recent := (rfl)
@[simp] theorem State.onChan_setvAt (s : State) (b c : Nat) (f : Chan → Chan) : (s.onChan b c f).setvAt = s.setvAt := (rfl)
@[simp] theorem State.onChan_later (s : State) (b c : Nat) (f : Chan → Chan) : (s.onChan b c f).later = s.later := (rfl)
@[simp] theorem State.onChan_readData (s : State) (b c : Nat) (f : Chan → Chan) : (s.onChan b c f).readData = s.readData := (rfl)
@[simp] theorem State.onChan_outbox (s : State) (b c : Nat) (f : Chan → Chan) : (s.onChan b c f).outbox = s.outbox := (rfl)
@[simp] theorem State.onChan_freeCtr (s : State) (b c : Nat) (f : Chan → Chan) : (s.onChan b c f).freeCtr = s.freeCtr := (rfl)

@[simp] theorem State.onAdc_pending (s : State) (b a : Nat) (f : Adc → Adc) : (s.onAdc b a f).pending = s.pending := (rfl)
@[simp] theorem State.onAdc_powered (s : State) (b a : Nat) (f : Adc → Adc) : (s.onAdc b a f).powered = s.powered := (rfl)
@[simp] theorem State.onAdc_clk (s : State) (b a : Nat) (f : Adc → Adc) : (s.onAdc b a f).clk = s.clk := (rfl)
@[simp] theorem State.onAdc_mode (s : State) (b a : Nat) (f : Adc → Adc) : (s.onAdc b a f).mode = s.mode := (rfl)
@[simp] theorem State.onAdc_transit (s : State) (b a : Nat) (f : Adc → Adc) : (s.onAdc b a f).transit = s.transit := (rfl)
@[simp] theorem State.onAdc_hold (s : State) (b a : Nat) (f : Adc → Adc) : (s.onAdc b a f).hold = s.hold := (rfl)
@[simp] theorem State.onAdc_trim (s : State) (b a : Nat) (f : Adc → Adc) : (s.onAdc b a f).trim = s.trim := (rfl)
@[simp] theorem State.onAdc_load (s : State) (b a : Nat) (f : Adc → Adc) : (s.onAdc b a f).load = s.load := (rfl)
@[simp] theorem State.onAdc_pat (s : State) (b a : Nat) (f : Adc → Adc) : (s.onAdc b a f).pat = s.pat := (rfl)
@[simp] theorem State.onAdc_ap (s : State) (b a : Nat) (f : Adc → Adc) : (s.onAdc b a f).ap = s.ap := (rfl)
@[simp] theorem State.onAdc_mem (s : State) (b a : Nat) (f : Adc → Adc) : (s.onAdc b a f).mem = s.mem := (rfl)
@[simp] theorem State.onAdc_bench (s : State) (b a : Nat) (f : Adc → Adc) : (s.onAdc b a f).bench = s.bench := (rfl)
@[simp] theorem State.onAdc_time (s : State) (b a : Nat) (f : Adc → Adc) : (s.onAdc b a f).time = s.time := (rfl)
@[simp] theorem State.onAdc_segs (s : State) (b a : Nat) (f : Adc → Adc) : (s.onAdc b a f).segs = s.segs := (rfl)
@[simp] theorem State.onAdc_looms (s : State) (b a : Nat) (f : Adc → Adc) : (s.onAdc b a f).looms = s.looms := (rfl)
@[simp] theorem State.onAdc_lanes (s : State) (b a : Nat) (f : Adc → Adc) : (s.onAdc b a f).lanes = s.lanes := (rfl)
@[simp] theorem State.onAdc_out (s : State) (b a : Nat) (f : Adc → Adc) : (s.onAdc b a f).out = s.out := (rfl)
@[simp] theorem State.onAdc_chans (s : State) (b a : Nat) (f : Adc → Adc) : (s.onAdc b a f).chans = s.chans := (rfl)
@[simp] theorem State.onAdc_engines (s : State) (b a : Nat) (f : Adc → Adc) : (s.onAdc b a f).engines = s.engines := (rfl)
@[simp] theorem State.onAdc_xyStages (s : State) (b a : Nat) (f : Adc → Adc) : (s.onAdc b a f).xyStages = s.xyStages := (rfl)
@[simp] theorem State.onAdc_dec (s : State) (b a : Nat) (f : Adc → Adc) : (s.onAdc b a f).dec = s.dec := (rfl)
@[simp] theorem State.onAdc_fms (s : State) (b a : Nat) (f : Adc → Adc) : (s.onAdc b a f).fms = s.fms := (rfl)
@[simp] theorem State.onAdc_memc (s : State) (b a : Nat) (f : Adc → Adc) : (s.onAdc b a f).memc = s.memc := (rfl)
@[simp] theorem State.onAdc_tally (s : State) (b a : Nat) (f : Adc → Adc) : (s.onAdc b a f).tally = s.tally := (rfl)
@[simp] theorem State.onAdc_fabric (s : State) (b a : Nat) (f : Adc → Adc) : (s.onAdc b a f).fabric = s.fabric := (rfl)
@[simp] theorem State.onAdc_slow (s : State) (b a : Nat) (f : Adc → Adc) : (s.onAdc b a f).slow = s.slow := (rfl)
@[simp] theorem State.onAdc_therm (s : State) (b a : Nat) (f : Adc → Adc) : (s.onAdc b a f).therm = s.therm := (rfl)
@[simp] theorem State.onAdc_host (s : State) (b a : Nat) (f : Adc → Adc) : (s.onAdc b a f).host = s.host := (rfl)
@[simp] theorem State.onAdc_pins (s : State) (b a : Nat) (f : Adc → Adc) : (s.onAdc b a f).pins = s.pins := (rfl)
@[simp] theorem State.onAdc_captures (s : State) (b a : Nat) (f : Adc → Adc) : (s.onAdc b a f).captures = s.captures := (rfl)
@[simp] theorem State.onAdc_recent (s : State) (b a : Nat) (f : Adc → Adc) : (s.onAdc b a f).recent = s.recent := (rfl)
@[simp] theorem State.onAdc_setvAt (s : State) (b a : Nat) (f : Adc → Adc) : (s.onAdc b a f).setvAt = s.setvAt := (rfl)
@[simp] theorem State.onAdc_later (s : State) (b a : Nat) (f : Adc → Adc) : (s.onAdc b a f).later = s.later := (rfl)
@[simp] theorem State.onAdc_readData (s : State) (b a : Nat) (f : Adc → Adc) : (s.onAdc b a f).readData = s.readData := (rfl)
@[simp] theorem State.onAdc_outbox (s : State) (b a : Nat) (f : Adc → Adc) : (s.onAdc b a f).outbox = s.outbox := (rfl)
@[simp] theorem State.onAdc_freeCtr (s : State) (b a : Nat) (f : Adc → Adc) : (s.onAdc b a f).freeCtr = s.freeCtr := (rfl)

@[simp] theorem State.onEng_pending (s : State) (b e : Nat) (f : Engine → Engine) : (s.onEng b e f).pending = s.pending := (rfl)
@[simp] theorem State.onEng_powered (s : State) (b e : Nat) (f : Engine → Engine) : (s.onEng b e f).powered = s.powered := (rfl)
@[simp] theorem State.onEng_clk (s : State) (b e : Nat) (f : Engine → Engine) : (s.onEng b e f).clk = s.clk := (rfl)
@[simp] theorem State.onEng_mode (s : State) (b e : Nat) (f : Engine → Engine) : (s.onEng b e f).mode = s.mode := (rfl)
@[simp] theorem State.onEng_transit (s : State) (b e : Nat) (f : Engine → Engine) : (s.onEng b e f).transit = s.transit := (rfl)
@[simp] theorem State.onEng_hold (s : State) (b e : Nat) (f : Engine → Engine) : (s.onEng b e f).hold = s.hold := (rfl)
@[simp] theorem State.onEng_trim (s : State) (b e : Nat) (f : Engine → Engine) : (s.onEng b e f).trim = s.trim := (rfl)
@[simp] theorem State.onEng_load (s : State) (b e : Nat) (f : Engine → Engine) : (s.onEng b e f).load = s.load := (rfl)
@[simp] theorem State.onEng_pat (s : State) (b e : Nat) (f : Engine → Engine) : (s.onEng b e f).pat = s.pat := (rfl)
@[simp] theorem State.onEng_ap (s : State) (b e : Nat) (f : Engine → Engine) : (s.onEng b e f).ap = s.ap := (rfl)
@[simp] theorem State.onEng_mem (s : State) (b e : Nat) (f : Engine → Engine) : (s.onEng b e f).mem = s.mem := (rfl)
@[simp] theorem State.onEng_bench (s : State) (b e : Nat) (f : Engine → Engine) : (s.onEng b e f).bench = s.bench := (rfl)
@[simp] theorem State.onEng_time (s : State) (b e : Nat) (f : Engine → Engine) : (s.onEng b e f).time = s.time := (rfl)
@[simp] theorem State.onEng_segs (s : State) (b e : Nat) (f : Engine → Engine) : (s.onEng b e f).segs = s.segs := (rfl)
@[simp] theorem State.onEng_looms (s : State) (b e : Nat) (f : Engine → Engine) : (s.onEng b e f).looms = s.looms := (rfl)
@[simp] theorem State.onEng_lanes (s : State) (b e : Nat) (f : Engine → Engine) : (s.onEng b e f).lanes = s.lanes := (rfl)
@[simp] theorem State.onEng_out (s : State) (b e : Nat) (f : Engine → Engine) : (s.onEng b e f).out = s.out := (rfl)
@[simp] theorem State.onEng_chans (s : State) (b e : Nat) (f : Engine → Engine) : (s.onEng b e f).chans = s.chans := (rfl)
@[simp] theorem State.onEng_adcs (s : State) (b e : Nat) (f : Engine → Engine) : (s.onEng b e f).adcs = s.adcs := (rfl)
@[simp] theorem State.onEng_xyStages (s : State) (b e : Nat) (f : Engine → Engine) : (s.onEng b e f).xyStages = s.xyStages := (rfl)
@[simp] theorem State.onEng_dec (s : State) (b e : Nat) (f : Engine → Engine) : (s.onEng b e f).dec = s.dec := (rfl)
@[simp] theorem State.onEng_fms (s : State) (b e : Nat) (f : Engine → Engine) : (s.onEng b e f).fms = s.fms := (rfl)
@[simp] theorem State.onEng_memc (s : State) (b e : Nat) (f : Engine → Engine) : (s.onEng b e f).memc = s.memc := (rfl)
@[simp] theorem State.onEng_tally (s : State) (b e : Nat) (f : Engine → Engine) : (s.onEng b e f).tally = s.tally := (rfl)
@[simp] theorem State.onEng_fabric (s : State) (b e : Nat) (f : Engine → Engine) : (s.onEng b e f).fabric = s.fabric := (rfl)
@[simp] theorem State.onEng_slow (s : State) (b e : Nat) (f : Engine → Engine) : (s.onEng b e f).slow = s.slow := (rfl)
@[simp] theorem State.onEng_therm (s : State) (b e : Nat) (f : Engine → Engine) : (s.onEng b e f).therm = s.therm := (rfl)
@[simp] theorem State.onEng_host (s : State) (b e : Nat) (f : Engine → Engine) : (s.onEng b e f).host = s.host := (rfl)
@[simp] theorem State.onEng_pins (s : State) (b e : Nat) (f : Engine → Engine) : (s.onEng b e f).pins = s.pins := (rfl)
@[simp] theorem State.onEng_captures (s : State) (b e : Nat) (f : Engine → Engine) : (s.onEng b e f).captures = s.captures := (rfl)
@[simp] theorem State.onEng_recent (s : State) (b e : Nat) (f : Engine → Engine) : (s.onEng b e f).recent = s.recent := (rfl)
@[simp] theorem State.onEng_setvAt (s : State) (b e : Nat) (f : Engine → Engine) : (s.onEng b e f).setvAt = s.setvAt := (rfl)
@[simp] theorem State.onEng_later (s : State) (b e : Nat) (f : Engine → Engine) : (s.onEng b e f).later = s.later := (rfl)
@[simp] theorem State.onEng_readData (s : State) (b e : Nat) (f : Engine → Engine) : (s.onEng b e f).readData = s.readData := (rfl)
@[simp] theorem State.onEng_outbox (s : State) (b e : Nat) (f : Engine → Engine) : (s.onEng b e f).outbox = s.outbox := (rfl)
@[simp] theorem State.onEng_freeCtr (s : State) (b e : Nat) (f : Engine → Engine) : (s.onEng b e f).freeCtr = s.freeCtr := (rfl)

@[simp] theorem State.onFm_pending (s : State) (b : Nat) (f : Fm → Fm) : (s.onFm b f).pending = s.pending := (rfl)
@[simp] theorem State.onFm_powered (s : State) (b : Nat) (f : Fm → Fm) : (s.onFm b f).powered = s.powered := (rfl)
@[simp] theorem State.onFm_clk (s : State) (b : Nat) (f : Fm → Fm) : (s.onFm b f).clk = s.clk := (rfl)
@[simp] theorem State.onFm_mode (s : State) (b : Nat) (f : Fm → Fm) : (s.onFm b f).mode = s.mode := (rfl)
@[simp] theorem State.onFm_transit (s : State) (b : Nat) (f : Fm → Fm) : (s.onFm b f).transit = s.transit := (rfl)
@[simp] theorem State.onFm_hold (s : State) (b : Nat) (f : Fm → Fm) : (s.onFm b f).hold = s.hold := (rfl)
@[simp] theorem State.onFm_trim (s : State) (b : Nat) (f : Fm → Fm) : (s.onFm b f).trim = s.trim := (rfl)
@[simp] theorem State.onFm_load (s : State) (b : Nat) (f : Fm → Fm) : (s.onFm b f).load = s.load := (rfl)
@[simp] theorem State.onFm_pat (s : State) (b : Nat) (f : Fm → Fm) : (s.onFm b f).pat = s.pat := (rfl)
@[simp] theorem State.onFm_ap (s : State) (b : Nat) (f : Fm → Fm) : (s.onFm b f).ap = s.ap := (rfl)
@[simp] theorem State.onFm_mem (s : State) (b : Nat) (f : Fm → Fm) : (s.onFm b f).mem = s.mem := (rfl)
@[simp] theorem State.onFm_bench (s : State) (b : Nat) (f : Fm → Fm) : (s.onFm b f).bench = s.bench := (rfl)
@[simp] theorem State.onFm_time (s : State) (b : Nat) (f : Fm → Fm) : (s.onFm b f).time = s.time := (rfl)
@[simp] theorem State.onFm_segs (s : State) (b : Nat) (f : Fm → Fm) : (s.onFm b f).segs = s.segs := (rfl)
@[simp] theorem State.onFm_looms (s : State) (b : Nat) (f : Fm → Fm) : (s.onFm b f).looms = s.looms := (rfl)
@[simp] theorem State.onFm_lanes (s : State) (b : Nat) (f : Fm → Fm) : (s.onFm b f).lanes = s.lanes := (rfl)
@[simp] theorem State.onFm_out (s : State) (b : Nat) (f : Fm → Fm) : (s.onFm b f).out = s.out := (rfl)
@[simp] theorem State.onFm_chans (s : State) (b : Nat) (f : Fm → Fm) : (s.onFm b f).chans = s.chans := (rfl)
@[simp] theorem State.onFm_adcs (s : State) (b : Nat) (f : Fm → Fm) : (s.onFm b f).adcs = s.adcs := (rfl)
@[simp] theorem State.onFm_engines (s : State) (b : Nat) (f : Fm → Fm) : (s.onFm b f).engines = s.engines := (rfl)
@[simp] theorem State.onFm_xyStages (s : State) (b : Nat) (f : Fm → Fm) : (s.onFm b f).xyStages = s.xyStages := (rfl)
@[simp] theorem State.onFm_dec (s : State) (b : Nat) (f : Fm → Fm) : (s.onFm b f).dec = s.dec := (rfl)
@[simp] theorem State.onFm_memc (s : State) (b : Nat) (f : Fm → Fm) : (s.onFm b f).memc = s.memc := (rfl)
@[simp] theorem State.onFm_tally (s : State) (b : Nat) (f : Fm → Fm) : (s.onFm b f).tally = s.tally := (rfl)
@[simp] theorem State.onFm_fabric (s : State) (b : Nat) (f : Fm → Fm) : (s.onFm b f).fabric = s.fabric := (rfl)
@[simp] theorem State.onFm_slow (s : State) (b : Nat) (f : Fm → Fm) : (s.onFm b f).slow = s.slow := (rfl)
@[simp] theorem State.onFm_therm (s : State) (b : Nat) (f : Fm → Fm) : (s.onFm b f).therm = s.therm := (rfl)
@[simp] theorem State.onFm_host (s : State) (b : Nat) (f : Fm → Fm) : (s.onFm b f).host = s.host := (rfl)
@[simp] theorem State.onFm_pins (s : State) (b : Nat) (f : Fm → Fm) : (s.onFm b f).pins = s.pins := (rfl)
@[simp] theorem State.onFm_captures (s : State) (b : Nat) (f : Fm → Fm) : (s.onFm b f).captures = s.captures := (rfl)
@[simp] theorem State.onFm_recent (s : State) (b : Nat) (f : Fm → Fm) : (s.onFm b f).recent = s.recent := (rfl)
@[simp] theorem State.onFm_setvAt (s : State) (b : Nat) (f : Fm → Fm) : (s.onFm b f).setvAt = s.setvAt := (rfl)
@[simp] theorem State.onFm_later (s : State) (b : Nat) (f : Fm → Fm) : (s.onFm b f).later = s.later := (rfl)
@[simp] theorem State.onFm_readData (s : State) (b : Nat) (f : Fm → Fm) : (s.onFm b f).readData = s.readData := (rfl)
@[simp] theorem State.onFm_outbox (s : State) (b : Nat) (f : Fm → Fm) : (s.onFm b f).outbox = s.outbox := (rfl)
@[simp] theorem State.onFm_freeCtr (s : State) (b : Nat) (f : Fm → Fm) : (s.onFm b f).freeCtr = s.freeCtr := (rfl)

@[simp] theorem State.onDev_pending (s : State) (d : Nat) (f : MemDev → MemDev) : (s.onDev d f).pending = s.pending := (rfl)
@[simp] theorem State.onDev_powered (s : State) (d : Nat) (f : MemDev → MemDev) : (s.onDev d f).powered = s.powered := (rfl)
@[simp] theorem State.onDev_clk (s : State) (d : Nat) (f : MemDev → MemDev) : (s.onDev d f).clk = s.clk := (rfl)
@[simp] theorem State.onDev_mode (s : State) (d : Nat) (f : MemDev → MemDev) : (s.onDev d f).mode = s.mode := (rfl)
@[simp] theorem State.onDev_transit (s : State) (d : Nat) (f : MemDev → MemDev) : (s.onDev d f).transit = s.transit := (rfl)
@[simp] theorem State.onDev_hold (s : State) (d : Nat) (f : MemDev → MemDev) : (s.onDev d f).hold = s.hold := (rfl)
@[simp] theorem State.onDev_trim (s : State) (d : Nat) (f : MemDev → MemDev) : (s.onDev d f).trim = s.trim := (rfl)
@[simp] theorem State.onDev_load (s : State) (d : Nat) (f : MemDev → MemDev) : (s.onDev d f).load = s.load := (rfl)
@[simp] theorem State.onDev_pat (s : State) (d : Nat) (f : MemDev → MemDev) : (s.onDev d f).pat = s.pat := (rfl)
@[simp] theorem State.onDev_ap (s : State) (d : Nat) (f : MemDev → MemDev) : (s.onDev d f).ap = s.ap := (rfl)
@[simp] theorem State.onDev_mem (s : State) (d : Nat) (f : MemDev → MemDev) : (s.onDev d f).mem = s.mem := (rfl)
@[simp] theorem State.onDev_bench (s : State) (d : Nat) (f : MemDev → MemDev) : (s.onDev d f).bench = s.bench := (rfl)
@[simp] theorem State.onDev_time (s : State) (d : Nat) (f : MemDev → MemDev) : (s.onDev d f).time = s.time := (rfl)
@[simp] theorem State.onDev_segs (s : State) (d : Nat) (f : MemDev → MemDev) : (s.onDev d f).segs = s.segs := (rfl)
@[simp] theorem State.onDev_looms (s : State) (d : Nat) (f : MemDev → MemDev) : (s.onDev d f).looms = s.looms := (rfl)
@[simp] theorem State.onDev_lanes (s : State) (d : Nat) (f : MemDev → MemDev) : (s.onDev d f).lanes = s.lanes := (rfl)
@[simp] theorem State.onDev_out (s : State) (d : Nat) (f : MemDev → MemDev) : (s.onDev d f).out = s.out := (rfl)
@[simp] theorem State.onDev_chans (s : State) (d : Nat) (f : MemDev → MemDev) : (s.onDev d f).chans = s.chans := (rfl)
@[simp] theorem State.onDev_adcs (s : State) (d : Nat) (f : MemDev → MemDev) : (s.onDev d f).adcs = s.adcs := (rfl)
@[simp] theorem State.onDev_engines (s : State) (d : Nat) (f : MemDev → MemDev) : (s.onDev d f).engines = s.engines := (rfl)
@[simp] theorem State.onDev_xyStages (s : State) (d : Nat) (f : MemDev → MemDev) : (s.onDev d f).xyStages = s.xyStages := (rfl)
@[simp] theorem State.onDev_dec (s : State) (d : Nat) (f : MemDev → MemDev) : (s.onDev d f).dec = s.dec := (rfl)
@[simp] theorem State.onDev_fms (s : State) (d : Nat) (f : MemDev → MemDev) : (s.onDev d f).fms = s.fms := (rfl)
@[simp] theorem State.onDev_tally (s : State) (d : Nat) (f : MemDev → MemDev) : (s.onDev d f).tally = s.tally := (rfl)
@[simp] theorem State.onDev_fabric (s : State) (d : Nat) (f : MemDev → MemDev) : (s.onDev d f).fabric = s.fabric := (rfl)
@[simp] theorem State.onDev_slow (s : State) (d : Nat) (f : MemDev → MemDev) : (s.onDev d f).slow = s.slow := (rfl)
@[simp] theorem State.onDev_therm (s : State) (d : Nat) (f : MemDev → MemDev) : (s.onDev d f).therm = s.therm := (rfl)
@[simp] theorem State.onDev_host (s : State) (d : Nat) (f : MemDev → MemDev) : (s.onDev d f).host = s.host := (rfl)
@[simp] theorem State.onDev_pins (s : State) (d : Nat) (f : MemDev → MemDev) : (s.onDev d f).pins = s.pins := (rfl)
@[simp] theorem State.onDev_captures (s : State) (d : Nat) (f : MemDev → MemDev) : (s.onDev d f).captures = s.captures := (rfl)
@[simp] theorem State.onDev_recent (s : State) (d : Nat) (f : MemDev → MemDev) : (s.onDev d f).recent = s.recent := (rfl)
@[simp] theorem State.onDev_setvAt (s : State) (d : Nat) (f : MemDev → MemDev) : (s.onDev d f).setvAt = s.setvAt := (rfl)
@[simp] theorem State.onDev_later (s : State) (d : Nat) (f : MemDev → MemDev) : (s.onDev d f).later = s.later := (rfl)
@[simp] theorem State.onDev_readData (s : State) (d : Nat) (f : MemDev → MemDev) : (s.onDev d f).readData = s.readData := (rfl)
@[simp] theorem State.onDev_outbox (s : State) (d : Nat) (f : MemDev → MemDev) : (s.onDev d f).outbox = s.outbox := (rfl)
@[simp] theorem State.onDev_freeCtr (s : State) (d : Nat) (f : MemDev → MemDev) : (s.onDev d f).freeCtr = s.freeCtr := (rfl)

@[simp] theorem State.onMch_pending (s : State) (c : Nat) (f : MemChan → MemChan) : (s.onMch c f).pending = s.pending := (rfl)
@[simp] theorem State.onMch_powered (s : State) (c : Nat) (f : MemChan → MemChan) : (s.onMch c f).powered = s.powered := (rfl)
@[simp] theorem State.onMch_clk (s : State) (c : Nat) (f : MemChan → MemChan) : (s.onMch c f).clk = s.clk := (rfl)
@[simp] theorem State.onMch_mode (s : State) (c : Nat) (f : MemChan → MemChan) : (s.onMch c f).mode = s.mode := (rfl)
@[simp] theorem State.onMch_transit (s : State) (c : Nat) (f : MemChan → MemChan) : (s.onMch c f).transit = s.transit := (rfl)
@[simp] theorem State.onMch_hold (s : State) (c : Nat) (f : MemChan → MemChan) : (s.onMch c f).hold = s.hold := (rfl)
@[simp] theorem State.onMch_trim (s : State) (c : Nat) (f : MemChan → MemChan) : (s.onMch c f).trim = s.trim := (rfl)
@[simp] theorem State.onMch_load (s : State) (c : Nat) (f : MemChan → MemChan) : (s.onMch c f).load = s.load := (rfl)
@[simp] theorem State.onMch_pat (s : State) (c : Nat) (f : MemChan → MemChan) : (s.onMch c f).pat = s.pat := (rfl)
@[simp] theorem State.onMch_ap (s : State) (c : Nat) (f : MemChan → MemChan) : (s.onMch c f).ap = s.ap := (rfl)
@[simp] theorem State.onMch_mem (s : State) (c : Nat) (f : MemChan → MemChan) : (s.onMch c f).mem = s.mem := (rfl)
@[simp] theorem State.onMch_bench (s : State) (c : Nat) (f : MemChan → MemChan) : (s.onMch c f).bench = s.bench := (rfl)
@[simp] theorem State.onMch_time (s : State) (c : Nat) (f : MemChan → MemChan) : (s.onMch c f).time = s.time := (rfl)
@[simp] theorem State.onMch_segs (s : State) (c : Nat) (f : MemChan → MemChan) : (s.onMch c f).segs = s.segs := (rfl)
@[simp] theorem State.onMch_looms (s : State) (c : Nat) (f : MemChan → MemChan) : (s.onMch c f).looms = s.looms := (rfl)
@[simp] theorem State.onMch_lanes (s : State) (c : Nat) (f : MemChan → MemChan) : (s.onMch c f).lanes = s.lanes := (rfl)
@[simp] theorem State.onMch_out (s : State) (c : Nat) (f : MemChan → MemChan) : (s.onMch c f).out = s.out := (rfl)
@[simp] theorem State.onMch_chans (s : State) (c : Nat) (f : MemChan → MemChan) : (s.onMch c f).chans = s.chans := (rfl)
@[simp] theorem State.onMch_adcs (s : State) (c : Nat) (f : MemChan → MemChan) : (s.onMch c f).adcs = s.adcs := (rfl)
@[simp] theorem State.onMch_engines (s : State) (c : Nat) (f : MemChan → MemChan) : (s.onMch c f).engines = s.engines := (rfl)
@[simp] theorem State.onMch_xyStages (s : State) (c : Nat) (f : MemChan → MemChan) : (s.onMch c f).xyStages = s.xyStages := (rfl)
@[simp] theorem State.onMch_dec (s : State) (c : Nat) (f : MemChan → MemChan) : (s.onMch c f).dec = s.dec := (rfl)
@[simp] theorem State.onMch_fms (s : State) (c : Nat) (f : MemChan → MemChan) : (s.onMch c f).fms = s.fms := (rfl)
@[simp] theorem State.onMch_tally (s : State) (c : Nat) (f : MemChan → MemChan) : (s.onMch c f).tally = s.tally := (rfl)
@[simp] theorem State.onMch_fabric (s : State) (c : Nat) (f : MemChan → MemChan) : (s.onMch c f).fabric = s.fabric := (rfl)
@[simp] theorem State.onMch_slow (s : State) (c : Nat) (f : MemChan → MemChan) : (s.onMch c f).slow = s.slow := (rfl)
@[simp] theorem State.onMch_therm (s : State) (c : Nat) (f : MemChan → MemChan) : (s.onMch c f).therm = s.therm := (rfl)
@[simp] theorem State.onMch_host (s : State) (c : Nat) (f : MemChan → MemChan) : (s.onMch c f).host = s.host := (rfl)
@[simp] theorem State.onMch_pins (s : State) (c : Nat) (f : MemChan → MemChan) : (s.onMch c f).pins = s.pins := (rfl)
@[simp] theorem State.onMch_captures (s : State) (c : Nat) (f : MemChan → MemChan) : (s.onMch c f).captures = s.captures := (rfl)
@[simp] theorem State.onMch_recent (s : State) (c : Nat) (f : MemChan → MemChan) : (s.onMch c f).recent = s.recent := (rfl)
@[simp] theorem State.onMch_setvAt (s : State) (c : Nat) (f : MemChan → MemChan) : (s.onMch c f).setvAt = s.setvAt := (rfl)
@[simp] theorem State.onMch_later (s : State) (c : Nat) (f : MemChan → MemChan) : (s.onMch c f).later = s.later := (rfl)
@[simp] theorem State.onMch_readData (s : State) (c : Nat) (f : MemChan → MemChan) : (s.onMch c f).readData = s.readData := (rfl)
@[simp] theorem State.onMch_outbox (s : State) (c : Nat) (f : MemChan → MemChan) : (s.onMch c f).outbox = s.outbox := (rfl)
@[simp] theorem State.onMch_freeCtr (s : State) (c : Nat) (f : MemChan → MemChan) : (s.onMch c f).freeCtr = s.freeCtr := (rfl)

@[simp] theorem State.onBias_pending (s : State) (n : Nat) (f : Bias → Bias) : (s.onBias n f).pending = s.pending := (rfl)
@[simp] theorem State.onBias_powered (s : State) (n : Nat) (f : Bias → Bias) : (s.onBias n f).powered = s.powered := (rfl)
@[simp] theorem State.onBias_clk (s : State) (n : Nat) (f : Bias → Bias) : (s.onBias n f).clk = s.clk := (rfl)
@[simp] theorem State.onBias_mode (s : State) (n : Nat) (f : Bias → Bias) : (s.onBias n f).mode = s.mode := (rfl)
@[simp] theorem State.onBias_transit (s : State) (n : Nat) (f : Bias → Bias) : (s.onBias n f).transit = s.transit := (rfl)
@[simp] theorem State.onBias_hold (s : State) (n : Nat) (f : Bias → Bias) : (s.onBias n f).hold = s.hold := (rfl)
@[simp] theorem State.onBias_trim (s : State) (n : Nat) (f : Bias → Bias) : (s.onBias n f).trim = s.trim := (rfl)
@[simp] theorem State.onBias_load (s : State) (n : Nat) (f : Bias → Bias) : (s.onBias n f).load = s.load := (rfl)
@[simp] theorem State.onBias_pat (s : State) (n : Nat) (f : Bias → Bias) : (s.onBias n f).pat = s.pat := (rfl)
@[simp] theorem State.onBias_ap (s : State) (n : Nat) (f : Bias → Bias) : (s.onBias n f).ap = s.ap := (rfl)
@[simp] theorem State.onBias_mem (s : State) (n : Nat) (f : Bias → Bias) : (s.onBias n f).mem = s.mem := (rfl)
@[simp] theorem State.onBias_bench (s : State) (n : Nat) (f : Bias → Bias) : (s.onBias n f).bench = s.bench := (rfl)
@[simp] theorem State.onBias_time (s : State) (n : Nat) (f : Bias → Bias) : (s.onBias n f).time = s.time := (rfl)
@[simp] theorem State.onBias_segs (s : State) (n : Nat) (f : Bias → Bias) : (s.onBias n f).segs = s.segs := (rfl)
@[simp] theorem State.onBias_looms (s : State) (n : Nat) (f : Bias → Bias) : (s.onBias n f).looms = s.looms := (rfl)
@[simp] theorem State.onBias_lanes (s : State) (n : Nat) (f : Bias → Bias) : (s.onBias n f).lanes = s.lanes := (rfl)
@[simp] theorem State.onBias_out (s : State) (n : Nat) (f : Bias → Bias) : (s.onBias n f).out = s.out := (rfl)
@[simp] theorem State.onBias_chans (s : State) (n : Nat) (f : Bias → Bias) : (s.onBias n f).chans = s.chans := (rfl)
@[simp] theorem State.onBias_adcs (s : State) (n : Nat) (f : Bias → Bias) : (s.onBias n f).adcs = s.adcs := (rfl)
@[simp] theorem State.onBias_engines (s : State) (n : Nat) (f : Bias → Bias) : (s.onBias n f).engines = s.engines := (rfl)
@[simp] theorem State.onBias_xyStages (s : State) (n : Nat) (f : Bias → Bias) : (s.onBias n f).xyStages = s.xyStages := (rfl)
@[simp] theorem State.onBias_dec (s : State) (n : Nat) (f : Bias → Bias) : (s.onBias n f).dec = s.dec := (rfl)
@[simp] theorem State.onBias_fms (s : State) (n : Nat) (f : Bias → Bias) : (s.onBias n f).fms = s.fms := (rfl)
@[simp] theorem State.onBias_memc (s : State) (n : Nat) (f : Bias → Bias) : (s.onBias n f).memc = s.memc := (rfl)
@[simp] theorem State.onBias_tally (s : State) (n : Nat) (f : Bias → Bias) : (s.onBias n f).tally = s.tally := (rfl)
@[simp] theorem State.onBias_fabric (s : State) (n : Nat) (f : Bias → Bias) : (s.onBias n f).fabric = s.fabric := (rfl)
@[simp] theorem State.onBias_therm (s : State) (n : Nat) (f : Bias → Bias) : (s.onBias n f).therm = s.therm := (rfl)
@[simp] theorem State.onBias_host (s : State) (n : Nat) (f : Bias → Bias) : (s.onBias n f).host = s.host := (rfl)
@[simp] theorem State.onBias_pins (s : State) (n : Nat) (f : Bias → Bias) : (s.onBias n f).pins = s.pins := (rfl)
@[simp] theorem State.onBias_captures (s : State) (n : Nat) (f : Bias → Bias) : (s.onBias n f).captures = s.captures := (rfl)
@[simp] theorem State.onBias_recent (s : State) (n : Nat) (f : Bias → Bias) : (s.onBias n f).recent = s.recent := (rfl)
@[simp] theorem State.onBias_setvAt (s : State) (n : Nat) (f : Bias → Bias) : (s.onBias n f).setvAt = s.setvAt := (rfl)
@[simp] theorem State.onBias_later (s : State) (n : Nat) (f : Bias → Bias) : (s.onBias n f).later = s.later := (rfl)
@[simp] theorem State.onBias_readData (s : State) (n : Nat) (f : Bias → Bias) : (s.onBias n f).readData = s.readData := (rfl)
@[simp] theorem State.onBias_outbox (s : State) (n : Nat) (f : Bias → Bias) : (s.onBias n f).outbox = s.outbox := (rfl)
@[simp] theorem State.onBias_freeCtr (s : State) (n : Nat) (f : Bias → Bias) : (s.onBias n f).freeCtr = s.freeCtr := (rfl)

@[simp] theorem State.onLoop_pending (s : State) (k : Nat) (f : Loop → Loop) : (s.onLoop k f).pending = s.pending := (rfl)
@[simp] theorem State.onLoop_powered (s : State) (k : Nat) (f : Loop → Loop) : (s.onLoop k f).powered = s.powered := (rfl)
@[simp] theorem State.onLoop_clk (s : State) (k : Nat) (f : Loop → Loop) : (s.onLoop k f).clk = s.clk := (rfl)
@[simp] theorem State.onLoop_mode (s : State) (k : Nat) (f : Loop → Loop) : (s.onLoop k f).mode = s.mode := (rfl)
@[simp] theorem State.onLoop_transit (s : State) (k : Nat) (f : Loop → Loop) : (s.onLoop k f).transit = s.transit := (rfl)
@[simp] theorem State.onLoop_hold (s : State) (k : Nat) (f : Loop → Loop) : (s.onLoop k f).hold = s.hold := (rfl)
@[simp] theorem State.onLoop_trim (s : State) (k : Nat) (f : Loop → Loop) : (s.onLoop k f).trim = s.trim := (rfl)
@[simp] theorem State.onLoop_load (s : State) (k : Nat) (f : Loop → Loop) : (s.onLoop k f).load = s.load := (rfl)
@[simp] theorem State.onLoop_pat (s : State) (k : Nat) (f : Loop → Loop) : (s.onLoop k f).pat = s.pat := (rfl)
@[simp] theorem State.onLoop_ap (s : State) (k : Nat) (f : Loop → Loop) : (s.onLoop k f).ap = s.ap := (rfl)
@[simp] theorem State.onLoop_mem (s : State) (k : Nat) (f : Loop → Loop) : (s.onLoop k f).mem = s.mem := (rfl)
@[simp] theorem State.onLoop_bench (s : State) (k : Nat) (f : Loop → Loop) : (s.onLoop k f).bench = s.bench := (rfl)
@[simp] theorem State.onLoop_time (s : State) (k : Nat) (f : Loop → Loop) : (s.onLoop k f).time = s.time := (rfl)
@[simp] theorem State.onLoop_segs (s : State) (k : Nat) (f : Loop → Loop) : (s.onLoop k f).segs = s.segs := (rfl)
@[simp] theorem State.onLoop_looms (s : State) (k : Nat) (f : Loop → Loop) : (s.onLoop k f).looms = s.looms := (rfl)
@[simp] theorem State.onLoop_lanes (s : State) (k : Nat) (f : Loop → Loop) : (s.onLoop k f).lanes = s.lanes := (rfl)
@[simp] theorem State.onLoop_out (s : State) (k : Nat) (f : Loop → Loop) : (s.onLoop k f).out = s.out := (rfl)
@[simp] theorem State.onLoop_chans (s : State) (k : Nat) (f : Loop → Loop) : (s.onLoop k f).chans = s.chans := (rfl)
@[simp] theorem State.onLoop_adcs (s : State) (k : Nat) (f : Loop → Loop) : (s.onLoop k f).adcs = s.adcs := (rfl)
@[simp] theorem State.onLoop_engines (s : State) (k : Nat) (f : Loop → Loop) : (s.onLoop k f).engines = s.engines := (rfl)
@[simp] theorem State.onLoop_xyStages (s : State) (k : Nat) (f : Loop → Loop) : (s.onLoop k f).xyStages = s.xyStages := (rfl)
@[simp] theorem State.onLoop_dec (s : State) (k : Nat) (f : Loop → Loop) : (s.onLoop k f).dec = s.dec := (rfl)
@[simp] theorem State.onLoop_fms (s : State) (k : Nat) (f : Loop → Loop) : (s.onLoop k f).fms = s.fms := (rfl)
@[simp] theorem State.onLoop_memc (s : State) (k : Nat) (f : Loop → Loop) : (s.onLoop k f).memc = s.memc := (rfl)
@[simp] theorem State.onLoop_tally (s : State) (k : Nat) (f : Loop → Loop) : (s.onLoop k f).tally = s.tally := (rfl)
@[simp] theorem State.onLoop_fabric (s : State) (k : Nat) (f : Loop → Loop) : (s.onLoop k f).fabric = s.fabric := (rfl)
@[simp] theorem State.onLoop_therm (s : State) (k : Nat) (f : Loop → Loop) : (s.onLoop k f).therm = s.therm := (rfl)
@[simp] theorem State.onLoop_host (s : State) (k : Nat) (f : Loop → Loop) : (s.onLoop k f).host = s.host := (rfl)
@[simp] theorem State.onLoop_pins (s : State) (k : Nat) (f : Loop → Loop) : (s.onLoop k f).pins = s.pins := (rfl)
@[simp] theorem State.onLoop_captures (s : State) (k : Nat) (f : Loop → Loop) : (s.onLoop k f).captures = s.captures := (rfl)
@[simp] theorem State.onLoop_recent (s : State) (k : Nat) (f : Loop → Loop) : (s.onLoop k f).recent = s.recent := (rfl)
@[simp] theorem State.onLoop_setvAt (s : State) (k : Nat) (f : Loop → Loop) : (s.onLoop k f).setvAt = s.setvAt := (rfl)
@[simp] theorem State.onLoop_later (s : State) (k : Nat) (f : Loop → Loop) : (s.onLoop k f).later = s.later := (rfl)
@[simp] theorem State.onLoop_readData (s : State) (k : Nat) (f : Loop → Loop) : (s.onLoop k f).readData = s.readData := (rfl)
@[simp] theorem State.onLoop_outbox (s : State) (k : Nat) (f : Loop → Loop) : (s.onLoop k f).outbox = s.outbox := (rfl)
@[simp] theorem State.onLoop_freeCtr (s : State) (k : Nat) (f : Loop → Loop) : (s.onLoop k f).freeCtr = s.freeCtr := (rfl)

@[simp] theorem State.onPort_pending (s : State) (p : Nat) (f : Crier → Crier) : (s.onPort p f).pending = s.pending := (rfl)
@[simp] theorem State.onPort_powered (s : State) (p : Nat) (f : Crier → Crier) : (s.onPort p f).powered = s.powered := (rfl)
@[simp] theorem State.onPort_clk (s : State) (p : Nat) (f : Crier → Crier) : (s.onPort p f).clk = s.clk := (rfl)
@[simp] theorem State.onPort_mode (s : State) (p : Nat) (f : Crier → Crier) : (s.onPort p f).mode = s.mode := (rfl)
@[simp] theorem State.onPort_transit (s : State) (p : Nat) (f : Crier → Crier) : (s.onPort p f).transit = s.transit := (rfl)
@[simp] theorem State.onPort_hold (s : State) (p : Nat) (f : Crier → Crier) : (s.onPort p f).hold = s.hold := (rfl)
@[simp] theorem State.onPort_trim (s : State) (p : Nat) (f : Crier → Crier) : (s.onPort p f).trim = s.trim := (rfl)
@[simp] theorem State.onPort_load (s : State) (p : Nat) (f : Crier → Crier) : (s.onPort p f).load = s.load := (rfl)
@[simp] theorem State.onPort_pat (s : State) (p : Nat) (f : Crier → Crier) : (s.onPort p f).pat = s.pat := (rfl)
@[simp] theorem State.onPort_ap (s : State) (p : Nat) (f : Crier → Crier) : (s.onPort p f).ap = s.ap := (rfl)
@[simp] theorem State.onPort_mem (s : State) (p : Nat) (f : Crier → Crier) : (s.onPort p f).mem = s.mem := (rfl)
@[simp] theorem State.onPort_bench (s : State) (p : Nat) (f : Crier → Crier) : (s.onPort p f).bench = s.bench := (rfl)
@[simp] theorem State.onPort_time (s : State) (p : Nat) (f : Crier → Crier) : (s.onPort p f).time = s.time := (rfl)
@[simp] theorem State.onPort_segs (s : State) (p : Nat) (f : Crier → Crier) : (s.onPort p f).segs = s.segs := (rfl)
@[simp] theorem State.onPort_looms (s : State) (p : Nat) (f : Crier → Crier) : (s.onPort p f).looms = s.looms := (rfl)
@[simp] theorem State.onPort_lanes (s : State) (p : Nat) (f : Crier → Crier) : (s.onPort p f).lanes = s.lanes := (rfl)
@[simp] theorem State.onPort_out (s : State) (p : Nat) (f : Crier → Crier) : (s.onPort p f).out = s.out := (rfl)
@[simp] theorem State.onPort_chans (s : State) (p : Nat) (f : Crier → Crier) : (s.onPort p f).chans = s.chans := (rfl)
@[simp] theorem State.onPort_adcs (s : State) (p : Nat) (f : Crier → Crier) : (s.onPort p f).adcs = s.adcs := (rfl)
@[simp] theorem State.onPort_engines (s : State) (p : Nat) (f : Crier → Crier) : (s.onPort p f).engines = s.engines := (rfl)
@[simp] theorem State.onPort_xyStages (s : State) (p : Nat) (f : Crier → Crier) : (s.onPort p f).xyStages = s.xyStages := (rfl)
@[simp] theorem State.onPort_fms (s : State) (p : Nat) (f : Crier → Crier) : (s.onPort p f).fms = s.fms := (rfl)
@[simp] theorem State.onPort_memc (s : State) (p : Nat) (f : Crier → Crier) : (s.onPort p f).memc = s.memc := (rfl)
@[simp] theorem State.onPort_tally (s : State) (p : Nat) (f : Crier → Crier) : (s.onPort p f).tally = s.tally := (rfl)
@[simp] theorem State.onPort_fabric (s : State) (p : Nat) (f : Crier → Crier) : (s.onPort p f).fabric = s.fabric := (rfl)
@[simp] theorem State.onPort_slow (s : State) (p : Nat) (f : Crier → Crier) : (s.onPort p f).slow = s.slow := (rfl)
@[simp] theorem State.onPort_therm (s : State) (p : Nat) (f : Crier → Crier) : (s.onPort p f).therm = s.therm := (rfl)
@[simp] theorem State.onPort_host (s : State) (p : Nat) (f : Crier → Crier) : (s.onPort p f).host = s.host := (rfl)
@[simp] theorem State.onPort_pins (s : State) (p : Nat) (f : Crier → Crier) : (s.onPort p f).pins = s.pins := (rfl)
@[simp] theorem State.onPort_captures (s : State) (p : Nat) (f : Crier → Crier) : (s.onPort p f).captures = s.captures := (rfl)
@[simp] theorem State.onPort_recent (s : State) (p : Nat) (f : Crier → Crier) : (s.onPort p f).recent = s.recent := (rfl)
@[simp] theorem State.onPort_setvAt (s : State) (p : Nat) (f : Crier → Crier) : (s.onPort p f).setvAt = s.setvAt := (rfl)
@[simp] theorem State.onPort_later (s : State) (p : Nat) (f : Crier → Crier) : (s.onPort p f).later = s.later := (rfl)
@[simp] theorem State.onPort_readData (s : State) (p : Nat) (f : Crier → Crier) : (s.onPort p f).readData = s.readData := (rfl)
@[simp] theorem State.onPort_outbox (s : State) (p : Nat) (f : Crier → Crier) : (s.onPort p f).outbox = s.outbox := (rfl)
@[simp] theorem State.onPort_freeCtr (s : State) (p : Nat) (f : Crier → Crier) : (s.onPort p f).freeCtr = s.freeCtr := (rfl)

@[simp] theorem State.onTag_pending (s : State) (b t : Nat) (f : Tag → Tag) : (s.onTag b t f).pending = s.pending := (rfl)
@[simp] theorem State.onTag_powered (s : State) (b t : Nat) (f : Tag → Tag) : (s.onTag b t f).powered = s.powered := (rfl)
@[simp] theorem State.onTag_clk (s : State) (b t : Nat) (f : Tag → Tag) : (s.onTag b t f).clk = s.clk := (rfl)
@[simp] theorem State.onTag_mode (s : State) (b t : Nat) (f : Tag → Tag) : (s.onTag b t f).mode = s.mode := (rfl)
@[simp] theorem State.onTag_transit (s : State) (b t : Nat) (f : Tag → Tag) : (s.onTag b t f).transit = s.transit := (rfl)
@[simp] theorem State.onTag_hold (s : State) (b t : Nat) (f : Tag → Tag) : (s.onTag b t f).hold = s.hold := (rfl)
@[simp] theorem State.onTag_trim (s : State) (b t : Nat) (f : Tag → Tag) : (s.onTag b t f).trim = s.trim := (rfl)
@[simp] theorem State.onTag_load (s : State) (b t : Nat) (f : Tag → Tag) : (s.onTag b t f).load = s.load := (rfl)
@[simp] theorem State.onTag_pat (s : State) (b t : Nat) (f : Tag → Tag) : (s.onTag b t f).pat = s.pat := (rfl)
@[simp] theorem State.onTag_ap (s : State) (b t : Nat) (f : Tag → Tag) : (s.onTag b t f).ap = s.ap := (rfl)
@[simp] theorem State.onTag_mem (s : State) (b t : Nat) (f : Tag → Tag) : (s.onTag b t f).mem = s.mem := (rfl)
@[simp] theorem State.onTag_bench (s : State) (b t : Nat) (f : Tag → Tag) : (s.onTag b t f).bench = s.bench := (rfl)
@[simp] theorem State.onTag_time (s : State) (b t : Nat) (f : Tag → Tag) : (s.onTag b t f).time = s.time := (rfl)
@[simp] theorem State.onTag_segs (s : State) (b t : Nat) (f : Tag → Tag) : (s.onTag b t f).segs = s.segs := (rfl)
@[simp] theorem State.onTag_looms (s : State) (b t : Nat) (f : Tag → Tag) : (s.onTag b t f).looms = s.looms := (rfl)
@[simp] theorem State.onTag_lanes (s : State) (b t : Nat) (f : Tag → Tag) : (s.onTag b t f).lanes = s.lanes := (rfl)
@[simp] theorem State.onTag_out (s : State) (b t : Nat) (f : Tag → Tag) : (s.onTag b t f).out = s.out := (rfl)
@[simp] theorem State.onTag_chans (s : State) (b t : Nat) (f : Tag → Tag) : (s.onTag b t f).chans = s.chans := (rfl)
@[simp] theorem State.onTag_adcs (s : State) (b t : Nat) (f : Tag → Tag) : (s.onTag b t f).adcs = s.adcs := (rfl)
@[simp] theorem State.onTag_engines (s : State) (b t : Nat) (f : Tag → Tag) : (s.onTag b t f).engines = s.engines := (rfl)
@[simp] theorem State.onTag_xyStages (s : State) (b t : Nat) (f : Tag → Tag) : (s.onTag b t f).xyStages = s.xyStages := (rfl)
@[simp] theorem State.onTag_fms (s : State) (b t : Nat) (f : Tag → Tag) : (s.onTag b t f).fms = s.fms := (rfl)
@[simp] theorem State.onTag_memc (s : State) (b t : Nat) (f : Tag → Tag) : (s.onTag b t f).memc = s.memc := (rfl)
@[simp] theorem State.onTag_tally (s : State) (b t : Nat) (f : Tag → Tag) : (s.onTag b t f).tally = s.tally := (rfl)
@[simp] theorem State.onTag_fabric (s : State) (b t : Nat) (f : Tag → Tag) : (s.onTag b t f).fabric = s.fabric := (rfl)
@[simp] theorem State.onTag_slow (s : State) (b t : Nat) (f : Tag → Tag) : (s.onTag b t f).slow = s.slow := (rfl)
@[simp] theorem State.onTag_therm (s : State) (b t : Nat) (f : Tag → Tag) : (s.onTag b t f).therm = s.therm := (rfl)
@[simp] theorem State.onTag_host (s : State) (b t : Nat) (f : Tag → Tag) : (s.onTag b t f).host = s.host := (rfl)
@[simp] theorem State.onTag_pins (s : State) (b t : Nat) (f : Tag → Tag) : (s.onTag b t f).pins = s.pins := (rfl)
@[simp] theorem State.onTag_captures (s : State) (b t : Nat) (f : Tag → Tag) : (s.onTag b t f).captures = s.captures := (rfl)
@[simp] theorem State.onTag_recent (s : State) (b t : Nat) (f : Tag → Tag) : (s.onTag b t f).recent = s.recent := (rfl)
@[simp] theorem State.onTag_setvAt (s : State) (b t : Nat) (f : Tag → Tag) : (s.onTag b t f).setvAt = s.setvAt := (rfl)
@[simp] theorem State.onTag_later (s : State) (b t : Nat) (f : Tag → Tag) : (s.onTag b t f).later = s.later := (rfl)
@[simp] theorem State.onTag_readData (s : State) (b t : Nat) (f : Tag → Tag) : (s.onTag b t f).readData = s.readData := (rfl)
@[simp] theorem State.onTag_outbox (s : State) (b t : Nat) (f : Tag → Tag) : (s.onTag b t f).outbox = s.outbox := (rfl)
@[simp] theorem State.onTag_freeCtr (s : State) (b t : Nat) (f : Tag → Tag) : (s.onTag b t f).freeCtr = s.freeCtr := (rfl)

@[simp] theorem State.onStream_pending (s : State) (i : Nat) (f : Stream → Stream) : (s.onStream i f).pending = s.pending := (rfl)
@[simp] theorem State.onStream_powered (s : State) (i : Nat) (f : Stream → Stream) : (s.onStream i f).powered = s.powered := (rfl)
@[simp] theorem State.onStream_clk (s : State) (i : Nat) (f : Stream → Stream) : (s.onStream i f).clk = s.clk := (rfl)
@[simp] theorem State.onStream_mode (s : State) (i : Nat) (f : Stream → Stream) : (s.onStream i f).mode = s.mode := (rfl)
@[simp] theorem State.onStream_transit (s : State) (i : Nat) (f : Stream → Stream) : (s.onStream i f).transit = s.transit := (rfl)
@[simp] theorem State.onStream_hold (s : State) (i : Nat) (f : Stream → Stream) : (s.onStream i f).hold = s.hold := (rfl)
@[simp] theorem State.onStream_trim (s : State) (i : Nat) (f : Stream → Stream) : (s.onStream i f).trim = s.trim := (rfl)
@[simp] theorem State.onStream_load (s : State) (i : Nat) (f : Stream → Stream) : (s.onStream i f).load = s.load := (rfl)
@[simp] theorem State.onStream_pat (s : State) (i : Nat) (f : Stream → Stream) : (s.onStream i f).pat = s.pat := (rfl)
@[simp] theorem State.onStream_ap (s : State) (i : Nat) (f : Stream → Stream) : (s.onStream i f).ap = s.ap := (rfl)
@[simp] theorem State.onStream_mem (s : State) (i : Nat) (f : Stream → Stream) : (s.onStream i f).mem = s.mem := (rfl)
@[simp] theorem State.onStream_bench (s : State) (i : Nat) (f : Stream → Stream) : (s.onStream i f).bench = s.bench := (rfl)
@[simp] theorem State.onStream_time (s : State) (i : Nat) (f : Stream → Stream) : (s.onStream i f).time = s.time := (rfl)
@[simp] theorem State.onStream_segs (s : State) (i : Nat) (f : Stream → Stream) : (s.onStream i f).segs = s.segs := (rfl)
@[simp] theorem State.onStream_looms (s : State) (i : Nat) (f : Stream → Stream) : (s.onStream i f).looms = s.looms := (rfl)
@[simp] theorem State.onStream_lanes (s : State) (i : Nat) (f : Stream → Stream) : (s.onStream i f).lanes = s.lanes := (rfl)
@[simp] theorem State.onStream_out (s : State) (i : Nat) (f : Stream → Stream) : (s.onStream i f).out = s.out := (rfl)
@[simp] theorem State.onStream_chans (s : State) (i : Nat) (f : Stream → Stream) : (s.onStream i f).chans = s.chans := (rfl)
@[simp] theorem State.onStream_adcs (s : State) (i : Nat) (f : Stream → Stream) : (s.onStream i f).adcs = s.adcs := (rfl)
@[simp] theorem State.onStream_engines (s : State) (i : Nat) (f : Stream → Stream) : (s.onStream i f).engines = s.engines := (rfl)
@[simp] theorem State.onStream_xyStages (s : State) (i : Nat) (f : Stream → Stream) : (s.onStream i f).xyStages = s.xyStages := (rfl)
@[simp] theorem State.onStream_dec (s : State) (i : Nat) (f : Stream → Stream) : (s.onStream i f).dec = s.dec := (rfl)
@[simp] theorem State.onStream_fms (s : State) (i : Nat) (f : Stream → Stream) : (s.onStream i f).fms = s.fms := (rfl)
@[simp] theorem State.onStream_memc (s : State) (i : Nat) (f : Stream → Stream) : (s.onStream i f).memc = s.memc := (rfl)
@[simp] theorem State.onStream_fabric (s : State) (i : Nat) (f : Stream → Stream) : (s.onStream i f).fabric = s.fabric := (rfl)
@[simp] theorem State.onStream_slow (s : State) (i : Nat) (f : Stream → Stream) : (s.onStream i f).slow = s.slow := (rfl)
@[simp] theorem State.onStream_therm (s : State) (i : Nat) (f : Stream → Stream) : (s.onStream i f).therm = s.therm := (rfl)
@[simp] theorem State.onStream_host (s : State) (i : Nat) (f : Stream → Stream) : (s.onStream i f).host = s.host := (rfl)
@[simp] theorem State.onStream_pins (s : State) (i : Nat) (f : Stream → Stream) : (s.onStream i f).pins = s.pins := (rfl)
@[simp] theorem State.onStream_captures (s : State) (i : Nat) (f : Stream → Stream) : (s.onStream i f).captures = s.captures := (rfl)
@[simp] theorem State.onStream_recent (s : State) (i : Nat) (f : Stream → Stream) : (s.onStream i f).recent = s.recent := (rfl)
@[simp] theorem State.onStream_setvAt (s : State) (i : Nat) (f : Stream → Stream) : (s.onStream i f).setvAt = s.setvAt := (rfl)
@[simp] theorem State.onStream_later (s : State) (i : Nat) (f : Stream → Stream) : (s.onStream i f).later = s.later := (rfl)
@[simp] theorem State.onStream_readData (s : State) (i : Nat) (f : Stream → Stream) : (s.onStream i f).readData = s.readData := (rfl)
@[simp] theorem State.onStream_outbox (s : State) (i : Nat) (f : Stream → Stream) : (s.onStream i f).outbox = s.outbox := (rfl)
@[simp] theorem State.onStream_freeCtr (s : State) (i : Nat) (f : Stream → Stream) : (s.onStream i f).freeCtr = s.freeCtr := (rfl)

@[simp] theorem State.setStaged_pending (s : State) (q : Nat) (rs : List Rec) : (s.setStaged q rs).pending = s.pending := (rfl)
@[simp] theorem State.setStaged_powered (s : State) (q : Nat) (rs : List Rec) : (s.setStaged q rs).powered = s.powered := (rfl)
@[simp] theorem State.setStaged_clk (s : State) (q : Nat) (rs : List Rec) : (s.setStaged q rs).clk = s.clk := (rfl)
@[simp] theorem State.setStaged_mode (s : State) (q : Nat) (rs : List Rec) : (s.setStaged q rs).mode = s.mode := (rfl)
@[simp] theorem State.setStaged_transit (s : State) (q : Nat) (rs : List Rec) : (s.setStaged q rs).transit = s.transit := (rfl)
@[simp] theorem State.setStaged_hold (s : State) (q : Nat) (rs : List Rec) : (s.setStaged q rs).hold = s.hold := (rfl)
@[simp] theorem State.setStaged_trim (s : State) (q : Nat) (rs : List Rec) : (s.setStaged q rs).trim = s.trim := (rfl)
@[simp] theorem State.setStaged_load (s : State) (q : Nat) (rs : List Rec) : (s.setStaged q rs).load = s.load := (rfl)
@[simp] theorem State.setStaged_pat (s : State) (q : Nat) (rs : List Rec) : (s.setStaged q rs).pat = s.pat := (rfl)
@[simp] theorem State.setStaged_ap (s : State) (q : Nat) (rs : List Rec) : (s.setStaged q rs).ap = s.ap := (rfl)
@[simp] theorem State.setStaged_mem (s : State) (q : Nat) (rs : List Rec) : (s.setStaged q rs).mem = s.mem := (rfl)
@[simp] theorem State.setStaged_bench (s : State) (q : Nat) (rs : List Rec) : (s.setStaged q rs).bench = s.bench := (rfl)
@[simp] theorem State.setStaged_time (s : State) (q : Nat) (rs : List Rec) : (s.setStaged q rs).time = s.time := (rfl)
@[simp] theorem State.setStaged_segs (s : State) (q : Nat) (rs : List Rec) : (s.setStaged q rs).segs = s.segs := (rfl)
@[simp] theorem State.setStaged_looms (s : State) (q : Nat) (rs : List Rec) : (s.setStaged q rs).looms = s.looms := (rfl)
@[simp] theorem State.setStaged_lanes (s : State) (q : Nat) (rs : List Rec) : (s.setStaged q rs).lanes = s.lanes := (rfl)
@[simp] theorem State.setStaged_out (s : State) (q : Nat) (rs : List Rec) : (s.setStaged q rs).out = s.out := (rfl)
@[simp] theorem State.setStaged_chans (s : State) (q : Nat) (rs : List Rec) : (s.setStaged q rs).chans = s.chans := (rfl)
@[simp] theorem State.setStaged_adcs (s : State) (q : Nat) (rs : List Rec) : (s.setStaged q rs).adcs = s.adcs := (rfl)
@[simp] theorem State.setStaged_engines (s : State) (q : Nat) (rs : List Rec) : (s.setStaged q rs).engines = s.engines := (rfl)
@[simp] theorem State.setStaged_xyStages (s : State) (q : Nat) (rs : List Rec) : (s.setStaged q rs).xyStages = s.xyStages := (rfl)
@[simp] theorem State.setStaged_dec (s : State) (q : Nat) (rs : List Rec) : (s.setStaged q rs).dec = s.dec := (rfl)
@[simp] theorem State.setStaged_fms (s : State) (q : Nat) (rs : List Rec) : (s.setStaged q rs).fms = s.fms := (rfl)
@[simp] theorem State.setStaged_memc (s : State) (q : Nat) (rs : List Rec) : (s.setStaged q rs).memc = s.memc := (rfl)
@[simp] theorem State.setStaged_fabric (s : State) (q : Nat) (rs : List Rec) : (s.setStaged q rs).fabric = s.fabric := (rfl)
@[simp] theorem State.setStaged_slow (s : State) (q : Nat) (rs : List Rec) : (s.setStaged q rs).slow = s.slow := (rfl)
@[simp] theorem State.setStaged_therm (s : State) (q : Nat) (rs : List Rec) : (s.setStaged q rs).therm = s.therm := (rfl)
@[simp] theorem State.setStaged_host (s : State) (q : Nat) (rs : List Rec) : (s.setStaged q rs).host = s.host := (rfl)
@[simp] theorem State.setStaged_pins (s : State) (q : Nat) (rs : List Rec) : (s.setStaged q rs).pins = s.pins := (rfl)
@[simp] theorem State.setStaged_captures (s : State) (q : Nat) (rs : List Rec) : (s.setStaged q rs).captures = s.captures := (rfl)
@[simp] theorem State.setStaged_recent (s : State) (q : Nat) (rs : List Rec) : (s.setStaged q rs).recent = s.recent := (rfl)
@[simp] theorem State.setStaged_setvAt (s : State) (q : Nat) (rs : List Rec) : (s.setStaged q rs).setvAt = s.setvAt := (rfl)
@[simp] theorem State.setStaged_later (s : State) (q : Nat) (rs : List Rec) : (s.setStaged q rs).later = s.later := (rfl)
@[simp] theorem State.setStaged_readData (s : State) (q : Nat) (rs : List Rec) : (s.setStaged q rs).readData = s.readData := (rfl)
@[simp] theorem State.setStaged_outbox (s : State) (q : Nat) (rs : List Rec) : (s.setStaged q rs).outbox = s.outbox := (rfl)
@[simp] theorem State.setStaged_freeCtr (s : State) (q : Nat) (rs : List Rec) : (s.setStaged q rs).freeCtr = s.freeCtr := (rfl)

@[simp] theorem State.onConv_pending (s : State) (b c : Nat) (f : Conv → Conv) : (s.onConv b c f).pending = s.pending := (rfl)
@[simp] theorem State.onConv_powered (s : State) (b c : Nat) (f : Conv → Conv) : (s.onConv b c f).powered = s.powered := (rfl)
@[simp] theorem State.onConv_clk (s : State) (b c : Nat) (f : Conv → Conv) : (s.onConv b c f).clk = s.clk := (rfl)
@[simp] theorem State.onConv_mode (s : State) (b c : Nat) (f : Conv → Conv) : (s.onConv b c f).mode = s.mode := (rfl)
@[simp] theorem State.onConv_transit (s : State) (b c : Nat) (f : Conv → Conv) : (s.onConv b c f).transit = s.transit := (rfl)
@[simp] theorem State.onConv_hold (s : State) (b c : Nat) (f : Conv → Conv) : (s.onConv b c f).hold = s.hold := (rfl)
@[simp] theorem State.onConv_trim (s : State) (b c : Nat) (f : Conv → Conv) : (s.onConv b c f).trim = s.trim := (rfl)
@[simp] theorem State.onConv_load (s : State) (b c : Nat) (f : Conv → Conv) : (s.onConv b c f).load = s.load := (rfl)
@[simp] theorem State.onConv_pat (s : State) (b c : Nat) (f : Conv → Conv) : (s.onConv b c f).pat = s.pat := (rfl)
@[simp] theorem State.onConv_ap (s : State) (b c : Nat) (f : Conv → Conv) : (s.onConv b c f).ap = s.ap := (rfl)
@[simp] theorem State.onConv_mem (s : State) (b c : Nat) (f : Conv → Conv) : (s.onConv b c f).mem = s.mem := (rfl)
@[simp] theorem State.onConv_bench (s : State) (b c : Nat) (f : Conv → Conv) : (s.onConv b c f).bench = s.bench := (rfl)
@[simp] theorem State.onConv_time (s : State) (b c : Nat) (f : Conv → Conv) : (s.onConv b c f).time = s.time := (rfl)
@[simp] theorem State.onConv_segs (s : State) (b c : Nat) (f : Conv → Conv) : (s.onConv b c f).segs = s.segs := (rfl)
@[simp] theorem State.onConv_looms (s : State) (b c : Nat) (f : Conv → Conv) : (s.onConv b c f).looms = s.looms := (rfl)
@[simp] theorem State.onConv_lanes (s : State) (b c : Nat) (f : Conv → Conv) : (s.onConv b c f).lanes = s.lanes := (rfl)
@[simp] theorem State.onConv_chans (s : State) (b c : Nat) (f : Conv → Conv) : (s.onConv b c f).chans = s.chans := (rfl)
@[simp] theorem State.onConv_adcs (s : State) (b c : Nat) (f : Conv → Conv) : (s.onConv b c f).adcs = s.adcs := (rfl)
@[simp] theorem State.onConv_engines (s : State) (b c : Nat) (f : Conv → Conv) : (s.onConv b c f).engines = s.engines := (rfl)
@[simp] theorem State.onConv_xyStages (s : State) (b c : Nat) (f : Conv → Conv) : (s.onConv b c f).xyStages = s.xyStages := (rfl)
@[simp] theorem State.onConv_dec (s : State) (b c : Nat) (f : Conv → Conv) : (s.onConv b c f).dec = s.dec := (rfl)
@[simp] theorem State.onConv_fms (s : State) (b c : Nat) (f : Conv → Conv) : (s.onConv b c f).fms = s.fms := (rfl)
@[simp] theorem State.onConv_memc (s : State) (b c : Nat) (f : Conv → Conv) : (s.onConv b c f).memc = s.memc := (rfl)
@[simp] theorem State.onConv_tally (s : State) (b c : Nat) (f : Conv → Conv) : (s.onConv b c f).tally = s.tally := (rfl)
@[simp] theorem State.onConv_fabric (s : State) (b c : Nat) (f : Conv → Conv) : (s.onConv b c f).fabric = s.fabric := (rfl)
@[simp] theorem State.onConv_slow (s : State) (b c : Nat) (f : Conv → Conv) : (s.onConv b c f).slow = s.slow := (rfl)
@[simp] theorem State.onConv_therm (s : State) (b c : Nat) (f : Conv → Conv) : (s.onConv b c f).therm = s.therm := (rfl)
@[simp] theorem State.onConv_host (s : State) (b c : Nat) (f : Conv → Conv) : (s.onConv b c f).host = s.host := (rfl)
@[simp] theorem State.onConv_pins (s : State) (b c : Nat) (f : Conv → Conv) : (s.onConv b c f).pins = s.pins := (rfl)
@[simp] theorem State.onConv_captures (s : State) (b c : Nat) (f : Conv → Conv) : (s.onConv b c f).captures = s.captures := (rfl)
@[simp] theorem State.onConv_recent (s : State) (b c : Nat) (f : Conv → Conv) : (s.onConv b c f).recent = s.recent := (rfl)
@[simp] theorem State.onConv_setvAt (s : State) (b c : Nat) (f : Conv → Conv) : (s.onConv b c f).setvAt = s.setvAt := (rfl)
@[simp] theorem State.onConv_later (s : State) (b c : Nat) (f : Conv → Conv) : (s.onConv b c f).later = s.later := (rfl)
@[simp] theorem State.onConv_readData (s : State) (b c : Nat) (f : Conv → Conv) : (s.onConv b c f).readData = s.readData := (rfl)
@[simp] theorem State.onConv_outbox (s : State) (b c : Nat) (f : Conv → Conv) : (s.onConv b c f).outbox = s.outbox := (rfl)
@[simp] theorem State.onConv_freeCtr (s : State) (b c : Nat) (f : Conv → Conv) : (s.onConv b c f).freeCtr = s.freeCtr := (rfl)

@[simp] theorem State.onTone_pending (s : State) (b u : Nat) (f : Tone → Tone) : (s.onTone b u f).pending = s.pending := (rfl)
@[simp] theorem State.onTone_powered (s : State) (b u : Nat) (f : Tone → Tone) : (s.onTone b u f).powered = s.powered := (rfl)
@[simp] theorem State.onTone_clk (s : State) (b u : Nat) (f : Tone → Tone) : (s.onTone b u f).clk = s.clk := (rfl)
@[simp] theorem State.onTone_mode (s : State) (b u : Nat) (f : Tone → Tone) : (s.onTone b u f).mode = s.mode := (rfl)
@[simp] theorem State.onTone_transit (s : State) (b u : Nat) (f : Tone → Tone) : (s.onTone b u f).transit = s.transit := (rfl)
@[simp] theorem State.onTone_hold (s : State) (b u : Nat) (f : Tone → Tone) : (s.onTone b u f).hold = s.hold := (rfl)
@[simp] theorem State.onTone_trim (s : State) (b u : Nat) (f : Tone → Tone) : (s.onTone b u f).trim = s.trim := (rfl)
@[simp] theorem State.onTone_load (s : State) (b u : Nat) (f : Tone → Tone) : (s.onTone b u f).load = s.load := (rfl)
@[simp] theorem State.onTone_pat (s : State) (b u : Nat) (f : Tone → Tone) : (s.onTone b u f).pat = s.pat := (rfl)
@[simp] theorem State.onTone_ap (s : State) (b u : Nat) (f : Tone → Tone) : (s.onTone b u f).ap = s.ap := (rfl)
@[simp] theorem State.onTone_mem (s : State) (b u : Nat) (f : Tone → Tone) : (s.onTone b u f).mem = s.mem := (rfl)
@[simp] theorem State.onTone_bench (s : State) (b u : Nat) (f : Tone → Tone) : (s.onTone b u f).bench = s.bench := (rfl)
@[simp] theorem State.onTone_time (s : State) (b u : Nat) (f : Tone → Tone) : (s.onTone b u f).time = s.time := (rfl)
@[simp] theorem State.onTone_segs (s : State) (b u : Nat) (f : Tone → Tone) : (s.onTone b u f).segs = s.segs := (rfl)
@[simp] theorem State.onTone_looms (s : State) (b u : Nat) (f : Tone → Tone) : (s.onTone b u f).looms = s.looms := (rfl)
@[simp] theorem State.onTone_lanes (s : State) (b u : Nat) (f : Tone → Tone) : (s.onTone b u f).lanes = s.lanes := (rfl)
@[simp] theorem State.onTone_chans (s : State) (b u : Nat) (f : Tone → Tone) : (s.onTone b u f).chans = s.chans := (rfl)
@[simp] theorem State.onTone_adcs (s : State) (b u : Nat) (f : Tone → Tone) : (s.onTone b u f).adcs = s.adcs := (rfl)
@[simp] theorem State.onTone_engines (s : State) (b u : Nat) (f : Tone → Tone) : (s.onTone b u f).engines = s.engines := (rfl)
@[simp] theorem State.onTone_xyStages (s : State) (b u : Nat) (f : Tone → Tone) : (s.onTone b u f).xyStages = s.xyStages := (rfl)
@[simp] theorem State.onTone_dec (s : State) (b u : Nat) (f : Tone → Tone) : (s.onTone b u f).dec = s.dec := (rfl)
@[simp] theorem State.onTone_fms (s : State) (b u : Nat) (f : Tone → Tone) : (s.onTone b u f).fms = s.fms := (rfl)
@[simp] theorem State.onTone_memc (s : State) (b u : Nat) (f : Tone → Tone) : (s.onTone b u f).memc = s.memc := (rfl)
@[simp] theorem State.onTone_tally (s : State) (b u : Nat) (f : Tone → Tone) : (s.onTone b u f).tally = s.tally := (rfl)
@[simp] theorem State.onTone_fabric (s : State) (b u : Nat) (f : Tone → Tone) : (s.onTone b u f).fabric = s.fabric := (rfl)
@[simp] theorem State.onTone_slow (s : State) (b u : Nat) (f : Tone → Tone) : (s.onTone b u f).slow = s.slow := (rfl)
@[simp] theorem State.onTone_therm (s : State) (b u : Nat) (f : Tone → Tone) : (s.onTone b u f).therm = s.therm := (rfl)
@[simp] theorem State.onTone_host (s : State) (b u : Nat) (f : Tone → Tone) : (s.onTone b u f).host = s.host := (rfl)
@[simp] theorem State.onTone_pins (s : State) (b u : Nat) (f : Tone → Tone) : (s.onTone b u f).pins = s.pins := (rfl)
@[simp] theorem State.onTone_captures (s : State) (b u : Nat) (f : Tone → Tone) : (s.onTone b u f).captures = s.captures := (rfl)
@[simp] theorem State.onTone_recent (s : State) (b u : Nat) (f : Tone → Tone) : (s.onTone b u f).recent = s.recent := (rfl)
@[simp] theorem State.onTone_setvAt (s : State) (b u : Nat) (f : Tone → Tone) : (s.onTone b u f).setvAt = s.setvAt := (rfl)
@[simp] theorem State.onTone_later (s : State) (b u : Nat) (f : Tone → Tone) : (s.onTone b u f).later = s.later := (rfl)
@[simp] theorem State.onTone_readData (s : State) (b u : Nat) (f : Tone → Tone) : (s.onTone b u f).readData = s.readData := (rfl)
@[simp] theorem State.onTone_outbox (s : State) (b u : Nat) (f : Tone → Tone) : (s.onTone b u f).outbox = s.outbox := (rfl)
@[simp] theorem State.onTone_freeCtr (s : State) (b u : Nat) (f : Tone → Tone) : (s.onTone b u f).freeCtr = s.freeCtr := (rfl)

@[simp] theorem State.emit_pending (s : State) (o : Out) : (s.emit o).pending = s.pending := (rfl)
@[simp] theorem State.emit_powered (s : State) (o : Out) : (s.emit o).powered = s.powered := (rfl)
@[simp] theorem State.emit_clk (s : State) (o : Out) : (s.emit o).clk = s.clk := (rfl)
@[simp] theorem State.emit_mode (s : State) (o : Out) : (s.emit o).mode = s.mode := (rfl)
@[simp] theorem State.emit_transit (s : State) (o : Out) : (s.emit o).transit = s.transit := (rfl)
@[simp] theorem State.emit_hold (s : State) (o : Out) : (s.emit o).hold = s.hold := (rfl)
@[simp] theorem State.emit_trim (s : State) (o : Out) : (s.emit o).trim = s.trim := (rfl)
@[simp] theorem State.emit_load (s : State) (o : Out) : (s.emit o).load = s.load := (rfl)
@[simp] theorem State.emit_pat (s : State) (o : Out) : (s.emit o).pat = s.pat := (rfl)
@[simp] theorem State.emit_ap (s : State) (o : Out) : (s.emit o).ap = s.ap := (rfl)
@[simp] theorem State.emit_mem (s : State) (o : Out) : (s.emit o).mem = s.mem := (rfl)
@[simp] theorem State.emit_bench (s : State) (o : Out) : (s.emit o).bench = s.bench := (rfl)
@[simp] theorem State.emit_time (s : State) (o : Out) : (s.emit o).time = s.time := (rfl)
@[simp] theorem State.emit_segs (s : State) (o : Out) : (s.emit o).segs = s.segs := (rfl)
@[simp] theorem State.emit_looms (s : State) (o : Out) : (s.emit o).looms = s.looms := (rfl)
@[simp] theorem State.emit_lanes (s : State) (o : Out) : (s.emit o).lanes = s.lanes := (rfl)
@[simp] theorem State.emit_out (s : State) (o : Out) : (s.emit o).out = s.out := (rfl)
@[simp] theorem State.emit_chans (s : State) (o : Out) : (s.emit o).chans = s.chans := (rfl)
@[simp] theorem State.emit_adcs (s : State) (o : Out) : (s.emit o).adcs = s.adcs := (rfl)
@[simp] theorem State.emit_engines (s : State) (o : Out) : (s.emit o).engines = s.engines := (rfl)
@[simp] theorem State.emit_xyStages (s : State) (o : Out) : (s.emit o).xyStages = s.xyStages := (rfl)
@[simp] theorem State.emit_dec (s : State) (o : Out) : (s.emit o).dec = s.dec := (rfl)
@[simp] theorem State.emit_fms (s : State) (o : Out) : (s.emit o).fms = s.fms := (rfl)
@[simp] theorem State.emit_memc (s : State) (o : Out) : (s.emit o).memc = s.memc := (rfl)
@[simp] theorem State.emit_tally (s : State) (o : Out) : (s.emit o).tally = s.tally := (rfl)
@[simp] theorem State.emit_fabric (s : State) (o : Out) : (s.emit o).fabric = s.fabric := (rfl)
@[simp] theorem State.emit_slow (s : State) (o : Out) : (s.emit o).slow = s.slow := (rfl)
@[simp] theorem State.emit_therm (s : State) (o : Out) : (s.emit o).therm = s.therm := (rfl)
@[simp] theorem State.emit_host (s : State) (o : Out) : (s.emit o).host = s.host := (rfl)
@[simp] theorem State.emit_pins (s : State) (o : Out) : (s.emit o).pins = s.pins := (rfl)
@[simp] theorem State.emit_captures (s : State) (o : Out) : (s.emit o).captures = s.captures := (rfl)
@[simp] theorem State.emit_recent (s : State) (o : Out) : (s.emit o).recent = s.recent := (rfl)
@[simp] theorem State.emit_setvAt (s : State) (o : Out) : (s.emit o).setvAt = s.setvAt := (rfl)
@[simp] theorem State.emit_later (s : State) (o : Out) : (s.emit o).later = s.later := (rfl)
@[simp] theorem State.emit_readData (s : State) (o : Out) : (s.emit o).readData = s.readData := (rfl)
@[simp] theorem State.emit_freeCtr (s : State) (o : Out) : (s.emit o).freeCtr = s.freeCtr := (rfl)

/-! ### Free values -/

@[simp] theorem State.free_fst (s : State) : s.free.1 = Config.freeWord s.freeCtr := (rfl)

@[simp] theorem State.free_snd (s : State) : s.free.2 = { s with freeCtr := s.freeCtr + 1 } := (rfl)

/-! ### Registers -/

theorem State.reg_setReg (s : State) (off p : Nat) (v : Word) :
    (s.setReg off v).reg p = if p = off then v else s.reg p := NMap.get_set _ _ _ _ _

@[simp] theorem State.reg_setReg_self (s : State) (off : Nat) (v : Word) : (s.setReg off v).reg off = v := by
  simp [State.reg_setReg]

@[simp] theorem State.reg_setReg_ne (s : State) (off p : Nat) (v : Word) (h : p ≠ off) :
    (s.setReg off v).reg p = s.reg p := by simp [State.reg_setReg, h]

/-- Reads of registers depend on the aperture store alone. -/
theorem State.reg_congr {s t : State} (h : t.ap = s.ap) (p : Nat) : t.reg p = s.reg p := by
  simp [State.reg, h]

/-- A register after a field is replaced: itself at its own offset with the field's bits, others as before. -/
theorem State.reg_setFld (s : State) (off p v : Nat) (f : Bits) :
    (s.setFld off f v).reg p = if p = off then BitVec.ofNat 32 (putBits (s.reg off).toNat f.lo f.w v) else s.reg p :=
  State.reg_setReg _ _ _ _

@[simp] theorem State.reg_setFld_ne (s : State) (off p v : Nat) (f : Bits) (h : p ≠ off) :
    (s.setFld off f v).reg p = s.reg p := by simp [State.reg_setFld, h]

@[simp] theorem State.fld_setReg_ne (s : State) (off p : Nat) (v : Word) (g : Bits) (h : p ≠ off) :
    (s.setReg off v).fld p g = s.fld p g := by simp [State.fld, h]

@[simp] theorem State.fld_setFld_ne (s : State) (off p v : Nat) (f g : Bits) (h : p ≠ off) :
    (s.setFld off f v).fld p g = s.fld p g := by simp [State.fld, h]

/-! ### Fields -/

/-- A number with replaced bits, as its three parts. -/
theorem putBits_split (v lo w x : Nat) :
    putBits v lo w x = 2 ^ (lo + w) * (v / 2 ^ (lo + w)) + (2 ^ lo * (x % 2 ^ w) + v % 2 ^ lo) := by
  unfold putBits bitsOf
  have h1 : v = 2 ^ lo * (v / 2 ^ lo) + v % 2 ^ lo := (Nat.div_add_mod _ _).symm
  have h2 : v / 2 ^ lo = 2 ^ w * (v / 2 ^ lo / 2 ^ w) + v / 2 ^ lo % 2 ^ w := (Nat.div_add_mod _ _).symm
  have h3 : v / 2 ^ lo / 2 ^ w = v / 2 ^ (lo + w) := by rw [Nat.div_div_eq_div_mul, pow_add]
  rw [h3] at h2
  have h4 : 2 ^ lo * (v / 2 ^ lo) = 2 ^ (lo + w) * (v / 2 ^ (lo + w)) + 2 ^ lo * (v / 2 ^ lo % 2 ^ w) := by
    conv_lhs => rw [h2]
    rw [pow_add]; ring
  have h5 : v = 2 ^ (lo + w) * (v / 2 ^ (lo + w)) + 2 ^ lo * (v / 2 ^ lo % 2 ^ w) + v % 2 ^ lo := by
    rw [← h4]; exact h1
  rw [Nat.mul_comm (v / 2 ^ lo % 2 ^ w), Nat.mul_comm (x % 2 ^ w)]
  omega

/-- Bit by bit, a replacement of bits. -/
theorem testBit_putBits (v lo w x i : Nat) :
    (putBits v lo w x).testBit i = if lo ≤ i ∧ i < lo + w then x.testBit (i - lo) else v.testBit i := by
  rw [putBits_split]
  have hx : x % 2 ^ w < 2 ^ w := Nat.mod_lt _ (Nat.two_pow_pos w)
  have hv : v % 2 ^ lo < 2 ^ lo := Nat.mod_lt _ (Nat.two_pow_pos lo)
  have hlt : 2 ^ lo * (x % 2 ^ w) + v % 2 ^ lo < 2 ^ (lo + w) := by
    rw [pow_add]
    calc 2 ^ lo * (x % 2 ^ w) + v % 2 ^ lo < 2 ^ lo * (x % 2 ^ w) + 2 ^ lo := by omega
      _ = 2 ^ lo * (x % 2 ^ w + 1) := by ring
      _ ≤ 2 ^ lo * 2 ^ w := Nat.mul_le_mul_left _ hx
  rw [Nat.testBit_two_pow_mul_add _ hlt]
  by_cases h1 : i < lo + w
  · simp only [h1, ↓reduceIte, and_true]
    rw [Nat.testBit_two_pow_mul_add _ hv]
    by_cases h2 : i < lo
    · have : ¬ lo ≤ i := by omega
      simp [h2, this, Nat.testBit_mod_two_pow]
    · have h3 : lo ≤ i := by omega
      have h4 : i - lo < w := by omega
      simp [h2, h3, h4, Nat.testBit_mod_two_pow]
  · simp only [h1, ↓reduceIte, and_false]
    rw [Nat.testBit_div_two_pow]
    congr 1; omega

/-- Bit by bit, a range of bits. -/
theorem testBit_bitsOf (v lo w i : Nat) : (bitsOf v lo w).testBit i = (decide (i < w) && v.testBit (lo + i)) := by
  unfold bitsOf
  rw [Nat.testBit_mod_two_pow, Nat.testBit_div_two_pow, Nat.add_comm]


theorem bitsOf_lt (v lo w : Nat) : bitsOf v lo w < 2 ^ w := Nat.mod_lt _ (Nat.two_pow_pos w)

/-- A field after it is replaced: the value's low bits. -/
theorem State.fld_setFld (s : State) (off v : Nat) (f : Bits) (h : f.lo + f.w ≤ 32) :
    (s.setFld off f v).fld off f = v % 2 ^ f.w := by
  apply Nat.eq_of_testBit_eq
  intro i
  simp only [State.fld, State.reg_setFld, ↓reduceIte, BitVec.toNat_ofNat, testBit_bitsOf, Nat.testBit_mod_two_pow,
    testBit_putBits]
  by_cases hi : i < f.w
  · have h1 : f.lo + i < 32 := by omega
    simp [hi, h1]
  · simp [hi]

/-- Another field of the same register is as before. -/
theorem State.fld_setFld_disj (s : State) (off v : Nat) (f g : Bits) (hg : g.lo + g.w ≤ 32)
    (h : f.lo + f.w ≤ g.lo ∨ g.lo + g.w ≤ f.lo) : (s.setFld off f v).fld off g = s.fld off g := by
  apply Nat.eq_of_testBit_eq
  intro i
  simp only [State.fld, State.reg_setFld, ↓reduceIte, BitVec.toNat_ofNat, testBit_bitsOf, Nat.testBit_mod_two_pow,
    testBit_putBits]
  by_cases hi : i < g.w
  · have h1 : g.lo + i < 32 := by omega
    have h2 : ¬ (f.lo ≤ g.lo + i ∧ g.lo + i < f.lo + f.w) := by omega
    simp [hi, h1, h2]
  · simp [hi]

/-- A raised field holds all ones. -/
theorem State.fld_raise (s : State) (off : Nat) (f : Bits) (h : f.lo + f.w ≤ 32) :
    (s.raise off f).fld off f = 2 ^ f.w - 1 := by
  rw [State.raise, State.fld_setFld _ _ _ _ h]
  exact Nat.mod_eq_of_lt (by have := Nat.two_pow_pos f.w; omega)

/-- A cleared field holds 0. -/
theorem State.fld_clear (s : State) (off : Nat) (f : Bits) (h : f.lo + f.w ≤ 32) :
    (s.clear off f).fld off f = 0 := by
  rw [State.clear, State.fld_setFld _ _ _ _ h]; simp

/-! ### Bytes of waveform memory -/

theorem State.byteAt_setByte (s : State) (a p : Nat) (v : Byte) :
    (s.setByte a v).byteAt p = if p = a then v else s.byteAt p := NMap.get_set _ _ _ _ _

theorem State.byteAt_congr {s t : State} (h : t.mem = s.mem) (p : Nat) : t.byteAt p = s.byteAt p := by
  simp [State.byteAt, h]

/-- A byte after consecutive bytes are written: the byte written there, or as before. -/
theorem State.byteAt_setBytes (s : State) (a p : Nat) (vs : List Byte) :
    (s.setBytes a vs).byteAt p = if a ≤ p ∧ p < a + vs.length then vs.getD (p - a) 0 else s.byteAt p := by
  induction vs generalizing s a with
  | nil =>
    have : ¬ (a ≤ p ∧ p < a + ([] : List Byte).length) := by simp
    rw [if_neg this]; rfl
  | cons v vs ih =>
    simp only [State.setBytes, ih, State.byteAt_setByte, List.length_cons]
    by_cases h1 : p = a
    · subst h1
      have h2 : ¬ (p + 1 ≤ p ∧ p < p + 1 + vs.length) := by omega
      have h3 : p ≤ p ∧ p < p + (vs.length + 1) := by omega
      rw [if_neg h2, if_pos rfl, if_pos h3]; simp
    · by_cases h2 : a + 1 ≤ p ∧ p < a + 1 + vs.length
      · have h3 : a ≤ p ∧ p < a + (vs.length + 1) := by omega
        rw [if_pos h2, if_pos h3]
        obtain ⟨k, hk⟩ : ∃ k, p - a = k + 1 := ⟨p - a - 1, by omega⟩
        have : p - (a + 1) = k := by omega
        rw [hk, this]; simp
      · have h3 : ¬ (a ≤ p ∧ p < a + (vs.length + 1)) := by omega
        rw [if_neg h2, if_neg h3, if_neg h1]

/-! ### Instances -/

theorem State.lane_onLane (s : State) (b l b' l' : Nat) (f : Lane → Lane) :
    (s.onLane b l f).lane b' l' = if 32 * b' + l' = 32 * b + l then f (s.lane b l) else s.lane b' l' := NMap.get_upd _ _ _ _ _

@[simp] theorem State.lane_onLane_self (s : State) (b l : Nat) (f : Lane → Lane) :
    (s.onLane b l f).lane b l = f (s.lane b l) := by simp [State.lane_onLane]

theorem State.eng_onEng (s : State) (b e b' e' : Nat) (f : Engine → Engine) :
    (s.onEng b e f).eng b' e' = if 4 * b' + e' = 4 * b + e then f (s.eng b e) else s.eng b' e' := NMap.get_upd _ _ _ _ _

@[simp] theorem State.eng_onEng_self (s : State) (b e : Nat) (f : Engine → Engine) :
    (s.onEng b e f).eng b e = f (s.eng b e) := by simp [State.eng_onEng]

theorem State.chan_onChan (s : State) (b c b' c' : Nat) (f : Chan → Chan) :
    (s.onChan b c f).chan b' c' = if 32 * b' + c' = 32 * b + c then f (s.chan b c) else s.chan b' c' := NMap.get_upd _ _ _ _ _

@[simp] theorem State.chan_onChan_self (s : State) (b c : Nat) (f : Chan → Chan) :
    (s.onChan b c f).chan b c = f (s.chan b c) := by simp [State.chan_onChan]

theorem State.adc_onAdc (s : State) (b a b' a' : Nat) (f : Adc → Adc) :
    (s.onAdc b a f).adc b' a' = if 2 * b' + a' = 2 * b + a then f (s.adc b a) else s.adc b' a' := NMap.get_upd _ _ _ _ _

@[simp] theorem State.adc_onAdc_self (s : State) (b a : Nat) (f : Adc → Adc) :
    (s.onAdc b a f).adc b a = f (s.adc b a) := by simp [State.adc_onAdc]

theorem State.conv_onConv (s : State) (b c b' c' : Nat) (f : Conv → Conv) :
    (s.onConv b c f).conv b' c' = if 6 * b' + c' = 6 * b + c then f (s.conv b c) else s.conv b' c' := NMap.get_upd _ _ _ _ _

@[simp] theorem State.conv_onConv_self (s : State) (b c : Nat) (f : Conv → Conv) :
    (s.onConv b c f).conv b c = f (s.conv b c) := by simp [State.conv_onConv]

theorem State.tone_onTone (s : State) (b u b' u' : Nat) (f : Tone → Tone) :
    (s.onTone b u f).tone b' u' = if 64 * b' + u' = 64 * b + u then f (s.tone b u) else s.tone b' u' := NMap.get_upd _ _ _ _ _

@[simp] theorem State.tone_onTone_self (s : State) (b u : Nat) (f : Tone → Tone) :
    (s.onTone b u f).tone b u = f (s.tone b u) := by simp [State.tone_onTone]

theorem State.tag_onTag (s : State) (b t b' t' : Nat) (f : Tag → Tag) :
    (s.onTag b t f).tag b' t' = if 256 * b' + t' = 256 * b + t then f (s.tag b t) else s.tag b' t' := NMap.get_upd _ _ _ _ _

@[simp] theorem State.tag_onTag_self (s : State) (b t : Nat) (f : Tag → Tag) :
    (s.onTag b t f).tag b t = f (s.tag b t) := by simp [State.tag_onTag]

theorem State.benchSt_onBench (s : State) (b b' : Nat) (f : BenchSt → BenchSt) :
    (s.onBench b f).benchSt b' = if b' = b then f (s.benchSt b) else s.benchSt b' := NMap.get_upd _ _ _ _ _

@[simp] theorem State.benchSt_onBench_self (s : State) (b : Nat) (f : BenchSt → BenchSt) :
    (s.onBench b f).benchSt b = f (s.benchSt b) := by simp [State.benchSt_onBench]

theorem State.loom_onLoom (s : State) (b b' : Nat) (f : Loom → Loom) :
    (s.onLoom b f).loom b' = if b' = b then f (s.loom b) else s.loom b' := NMap.get_upd _ _ _ _ _

@[simp] theorem State.loom_onLoom_self (s : State) (b : Nat) (f : Loom → Loom) :
    (s.onLoom b f).loom b = f (s.loom b) := by simp [State.loom_onLoom]

theorem State.fm_onFm (s : State) (b b' : Nat) (f : Fm → Fm) :
    (s.onFm b f).fm b' = if b' = b then f (s.fm b) else s.fm b' := NMap.get_upd _ _ _ _ _

@[simp] theorem State.fm_onFm_self (s : State) (b : Nat) (f : Fm → Fm) :
    (s.onFm b f).fm b = f (s.fm b) := by simp [State.fm_onFm]

theorem State.dev_onDev (s : State) (d d' : Nat) (f : MemDev → MemDev) :
    (s.onDev d f).dev d' = if d' = d then f (s.dev d) else s.dev d' := NMap.get_upd _ _ _ _ _

@[simp] theorem State.dev_onDev_self (s : State) (d : Nat) (f : MemDev → MemDev) :
    (s.onDev d f).dev d = f (s.dev d) := by simp [State.dev_onDev]

theorem State.mch_onMch (s : State) (c c' : Nat) (f : MemChan → MemChan) :
    (s.onMch c f).mch c' = if c' = c then f (s.mch c) else s.mch c' := NMap.get_upd _ _ _ _ _

@[simp] theorem State.mch_onMch_self (s : State) (c : Nat) (f : MemChan → MemChan) :
    (s.onMch c f).mch c = f (s.mch c) := by simp [State.mch_onMch]

theorem State.bias_onBias (s : State) (n n' : Nat) (f : Bias → Bias) :
    (s.onBias n f).bias n' = if n' = n then f (s.bias n) else s.bias n' := NMap.get_upd _ _ _ _ _

@[simp] theorem State.bias_onBias_self (s : State) (n : Nat) (f : Bias → Bias) :
    (s.onBias n f).bias n = f (s.bias n) := by simp [State.bias_onBias]

theorem State.loop_onLoop (s : State) (k k' : Nat) (f : Loop → Loop) :
    (s.onLoop k f).loop k' = if k' = k then f (s.loop k) else s.loop k' := NMap.get_upd _ _ _ _ _

@[simp] theorem State.loop_onLoop_self (s : State) (k : Nat) (f : Loop → Loop) :
    (s.onLoop k f).loop k = f (s.loop k) := by simp [State.loop_onLoop]

theorem State.port_onPort (s : State) (p p' : Nat) (f : Crier → Crier) :
    (s.onPort p f).port p' = if p' = p then f (s.port p) else s.port p' := NMap.get_upd _ _ _ _ _

@[simp] theorem State.port_onPort_self (s : State) (p : Nat) (f : Crier → Crier) :
    (s.onPort p f).port p = f (s.port p) := by simp [State.port_onPort]

theorem State.stream_onStream (s : State) (i i' : Nat) (f : Stream → Stream) :
    (s.onStream i f).stream i' = if i' = i then f (s.stream i) else s.stream i' := NMap.get_upd _ _ _ _ _

@[simp] theorem State.stream_onStream_self (s : State) (i : Nat) (f : Stream → Stream) :
    (s.onStream i f).stream i = f (s.stream i) := by simp [State.stream_onStream]

theorem State.staged_setStaged (s : State) (q q' : Nat) (rs : List Rec) :
    (s.setStaged q rs).staged q' = if q' = q then rs else s.staged q' := NMap.get_set _ _ _ _ _

end Sys2Proof.Machine
end

