-- ==== Sys2Proof/Laws/Memory.lean ====
section
/-!
SUPPORT. Laws of waveform memory: every operation upon its bytes keeps the canonical form, and what a read of a byte sees
after it.
-/
namespace Sys2Proof.Machine

theorem State.setByte_wf (s : State) (a : Nat) (v : Byte) (h : Memory.wf s.mem = true) :
    Memory.wf (s.setByte a v).mem = true := NMap.wf_set memDefault _ _ _ h

theorem State.setBytes_wf (vs : List Byte) (s : State) (a : Nat) (h : Memory.wf s.mem = true) :
    Memory.wf (s.setBytes a vs).mem = true := by
  induction vs generalizing s a with
  | nil => exact h
  | cons v vs ih => exact ih _ _ (s.setByte_wf a v h)

theorem State.memStore_wf (s : State) (a : Nat) (vs : List Byte) (h : Memory.wf s.mem = true) :
    Memory.wf (s.memStore a vs).mem = true := s.setBytes_wf vs a h

theorem State.memZero_wf (s : State) (a n : Nat) (h : Memory.wf s.mem = true) :
    Memory.wf (s.memZero a n).mem = true :=
  NMap.wf_erase memDefault (fun k => decide (a ≤ k) && decide (k < a + n)) s.mem h

theorem State.bytesLost_wf (s : State) (lost : Nat → Bool) (h : Memory.wf s.mem = true) :
    Memory.wf (s.bytesLost lost).mem = true :=
  NMap.wf_erase memDefault (fun a => lost (a / 64)) s.mem h

/-- A store writes its bytes and no other. -/
theorem State.byteAt_memStore (s : State) (a p : Nat) (vs : List Byte) :
    (s.memStore a vs).byteAt p = if a ≤ p ∧ p < a + vs.length then vs.getD (p - a) 0 else s.byteAt p :=
  s.byteAt_setBytes a p vs

/-- Zeroed bytes read as 0, and no other byte changes. -/
theorem State.byteAt_memZero (s : State) (a n p : Nat) :
    (s.memZero a n).byteAt p = if a ≤ p ∧ p < a + n then 0 else s.byteAt p := by
  simp only [State.byteAt, State.memZero, NMap.get_erase, Bool.and_eq_true, decide_eq_true_eq, memDefault]

/-- The bytes of lost units read as 0, and no other byte changes. -/
theorem State.byteAt_bytesLost (s : State) (lost : Nat → Bool) (p : Nat) :
    (s.bytesLost lost).byteAt p = if lost (p / 64) = true then 0 else s.byteAt p := by
  simp only [State.byteAt, State.bytesLost, NMap.get_erase, memDefault]

/-- Numbers read from waveform memory depend on its bytes alone. -/
theorem State.readLE_congr {s t : State} (h : t.mem = s.mem) (n a : Nat) : t.readLE a n = s.readLE a n := by
  induction n generalizing a with
  | zero => rfl
  | succ n ih => simp [State.readLE, ih, State.byteAt_congr h]

end Sys2Proof.Machine
end

