-- ==== Sys2Proof/Laws/Outcome.lean ====
section
/-!
SUPPORT. What a command answers: each of the shared frames of the meanings says once when it answers a next state.
-/
namespace Sys2Proof.Machine

@[simp] theorem whenPowered_on {s : State} (h : s.powered = true) (f : State → State) :
    whenPowered s f = .next (f s) := by simp [whenPowered, h]

@[simp] theorem whenPowered_off {s : State} (h : s.powered = false) (f : State → State) :
    whenPowered s f = .fault .unpowered := by simp [whenPowered, h]

/-- A meaning answers exactly its effect, and only on a powered device. -/
theorem whenPowered_next {s t : State} {f : State → State} :
    whenPowered s f = .next t ↔ s.powered = true ∧ f s = t := by
  by_cases h : s.powered = true
  · simp [whenPowered, h]
  · simp [whenPowered, h]

/-- A command of a requester has its effect where the requester reaches the device, and changes nothing elsewhere. -/
theorem whenReached_next {who : Who} {s t : State} {f : State → State} :
    whenReached who s f = .next t ↔ s.powered = true ∧ (if s.reaches who then f s else s) = t := whenPowered_next

theorem whenReached_shut {who : Who} {s : State} (f : State → State) (h : s.powered = true)
    (k : s.reaches who = false) : whenReached who s f = .next s := by simp [whenReached, h, k]

/-- A command of a requester upon SRAM or waveform memory has its effect where that path is open. -/
theorem whenOpen_next {who : Who} {s t : State} {f : State → State} :
    whenOpen who s f = .next t ↔ s.powered = true ∧ (if s.dataOpen who then f s else s) = t := whenPowered_next

theorem whenOpen_shut {who : Who} {s : State} (f : State → State) (h : s.powered = true)
    (k : s.dataOpen who = false) : whenOpen who s f = .next s := by simp [whenOpen, h, k]

/-- A path to the memories is open only where the registers are reached. -/
theorem State.reaches_of_dataOpen {s : State} {who : Who} (h : s.dataOpen who = true) : s.reaches who = true := by
  simp only [State.dataOpen, Bool.and_eq_true] at h
  exact h.1

/-- A command completes with the property that its next state has. -/
theorem completes_of_next {c : Instr} {s t : State} {P : State → Prop} (h : exec c s = .next t) (k : P t) :
    Completes c s P := ⟨t, h, k⟩

/-- A step runs the command at the front of the queue. -/
theorem step_cons (s : State) (c : Instr) (rest : List Instr) (h : s.pending = c :: rest) :
    step s = exec c { s with pending := rest } := by simp [step, h]

theorem step_nil (s : State) (h : s.pending = []) : step s = .next (if s.powered then s.idleTick else s) := by
  simp [step, h]

end Sys2Proof.Machine
end

