-- ==== Sys2Proof/Laws/Reports.lean ====
section
/-!
SUPPORT. What reporting can change. Flags, interrupts, Tally records, event pulses and trap requests touch registers,
Tally, the fabric's demands, Foremen, Benches' run state and the outbox, and nothing else: one lemma per shared operation
says so, and `Reports` composes.
-/
namespace Sys2Proof.Machine

/-- `t` is `s` but for registers, Tally, fabric, Foremen, Benches' run state and the outbox. -/
def State.Reports (s t : State) : Prop :=
  ∃ ap tally fabric fms bench outbox,
    t = { s with ap := ap, tally := tally, fabric := fabric, fms := fms, bench := bench, outbox := outbox }

theorem State.Reports.refl (s : State) : s.Reports s := ⟨_, _, _, _, _, _, rfl⟩

theorem State.Reports.trans {s t u : State} (h : s.Reports t) (k : t.Reports u) : s.Reports u := by
  obtain ⟨_, _, _, _, _, _, rfl⟩ := h
  obtain ⟨_, _, _, _, _, _, rfl⟩ := k
  exact ⟨_, _, _, _, _, _, rfl⟩

/-- What a report leaves: clocks, mode, transitions, waveform memory, lanes, engines and every other part. -/
theorem State.Reports.keeps {s t : State} (h : s.Reports t) :
    t.pending = s.pending ∧ t.powered = s.powered ∧ t.clk = s.clk ∧ t.mode = s.mode ∧ t.transit = s.transit ∧
      t.hold = s.hold ∧ t.trim = s.trim ∧ t.load = s.load ∧ t.pat = s.pat ∧ t.mem = s.mem ∧ t.time = s.time ∧
      t.segs = s.segs ∧ t.looms = s.looms ∧ t.lanes = s.lanes ∧ t.out = s.out ∧ t.chans = s.chans ∧ t.adcs = s.adcs ∧
      t.engines = s.engines ∧ t.dec = s.dec ∧ t.memc = s.memc ∧ t.slow = s.slow ∧ t.therm = s.therm ∧
      t.host = s.host ∧ t.pins = s.pins := by
  obtain ⟨_, _, _, _, _, _, rfl⟩ := h
  simp

/-- Whatever each member of a list reports, the whole list reports. -/
theorem State.Reports.foldAll {α : Type} (f : State → α → State) (h : ∀ (s : State) (x : α), s.Reports (f s x)) (xs : List α) :
    ∀ s : State, s.Reports (Machine.foldAll f s xs) := by
  induction xs with
  | nil => exact fun s => .refl s
  | cons x xs ih => exact fun s => (h s x).trans (ih _)

theorem State.Reports.ite {c : Prop} [Decidable c] {s t u : State} (h : s.Reports t) (k : s.Reports u) :
    s.Reports (if c then t else u) := by
  split
  · exact h
  · exact k

/-! ### The primitive updates -/

theorem State.setReg_reports (s : State) (off : Nat) (v : Word) : s.Reports (s.setReg off v) := ⟨_, _, _, _, _, _, rfl⟩

theorem State.setFld_reports (s : State) (off : Nat) (f : Bits) (v : Nat) : s.Reports (s.setFld off f v) :=
  ⟨_, _, _, _, _, _, rfl⟩

theorem State.raise_reports (s : State) (off : Nat) (f : Bits) : s.Reports (s.raise off f) := ⟨_, _, _, _, _, _, rfl⟩

theorem State.clear_reports (s : State) (off : Nat) (f : Bits) : s.Reports (s.clear off f) := ⟨_, _, _, _, _, _, rfl⟩

theorem State.satAdd_reports (s : State) (off : Nat) (f : Bits) (n : Nat) : s.Reports (s.satAdd off f n) :=
  ⟨_, _, _, _, _, _, rfl⟩

theorem State.onStream_reports (s : State) (i : Nat) (f : Stream → Stream) : s.Reports (s.onStream i f) :=
  ⟨_, _, _, _, _, _, rfl⟩

theorem State.setStaged_reports (s : State) (q : Nat) (rs : List Rec) : s.Reports (s.setStaged q rs) :=
  ⟨_, _, _, _, _, _, rfl⟩

theorem State.onFm_reports (s : State) (b : Nat) (f : Fm → Fm) : s.Reports (s.onFm b f) := ⟨_, _, _, _, _, _, rfl⟩

theorem State.onBench_reports (s : State) (b : Nat) (f : BenchSt → BenchSt) : s.Reports (s.onBench b f) :=
  ⟨_, _, _, _, _, _, rfl⟩

theorem State.emit_reports (s : State) (o : Out) : s.Reports (s.emit o) := ⟨_, _, _, _, _, _, rfl⟩

/-! ### The shared operations -/

theorem State.orFld_reports (s : State) (off : Nat) (f : Bits) (m : Nat) : s.Reports (s.orFld off f m) :=
  ⟨_, _, _, _, _, _, rfl⟩

theorem State.irq_reports (s : State) (k : Nat) : s.Reports (s.irq k) :=
  .ite (.refl s) ((State.orFld_reports _ _ _ _).trans
    ((State.Reports.ite (State.emit_reports _ _) (.refl _)).trans (.ite (State.emit_reports _ _) (.refl _))))

theorem State.flagIrq_reports (s : State) (off : Nat) (f : Bits) (k : Nat) : s.Reports (s.flagIrq off f k) :=
  .ite (.refl s) ((State.raise_reports _ _ _).trans (State.irq_reports _ _))

theorem State.benchEvent_reports (s : State) (b : Nat) (f : Bits) : s.Reports (s.benchEvent b f) :=
  State.flagIrq_reports _ _ _ _

theorem State.memFlag_reports (s : State) (f : Bits) : s.Reports (s.memFlag f) := State.flagIrq_reports _ _ _ _

theorem State.decFlag_reports (s : State) (f : Bits) : s.Reports (s.decFlag f) := State.flagIrq_reports _ _ _ _

theorem State.thermFlag_reports (s : State) (f : Bits) : s.Reports (s.thermFlag f) := State.flagIrq_reports _ _ _ _

theorem State.breach_reports (s : State) (f : Bits) : s.Reports (s.breach f) := State.raise_reports _ _ _

theorem State.denied_reports (s : State) (who : Who) (off : Nat) (wr : Bool) : s.Reports (s.denied who off wr) :=
  .ite (.refl s) ((State.raise_reports _ _ _).trans ((State.setReg_reports _ _ _).trans (State.setReg_reports _ _ _)))

theorem State.modeErr_reports (s : State) (code req : Nat) : s.Reports (s.modeErr code req) :=
  (State.setFld_reports _ _ _ _).trans ((State.setFld_reports _ _ _ _).trans (State.flagIrq_reports _ _ _ _))

theorem State.pulse_reports (s : State) (line : Nat) : s.Reports (s.pulse line) :=
  .ite ⟨_, _, _, _, _, _, rfl⟩ (.refl s)

theorem State.fmTrap_reports (s : State) (b v : Nat) : s.Reports (s.fmTrap b v) :=
  .ite (.refl s) (State.onFm_reports _ _ _)

theorem State.dropRec_reports (s : State) (st seq : Nat) : s.Reports (s.dropRec st seq) :=
  ((State.satAdd_reports _ _ _ _).trans ((State.onStream_reports _ _ _).trans
    ((State.flagIrq_reports _ _ _ _).trans (State.breach_reports _ _)))).trans
      (.ite (State.fmTrap_reports _ _ _) (.refl _))

/-- An offer to Tally reports, whether it is accepted, dropped or discarded. -/
theorem State.offer_reports (s : State) (st src typ len time : Nat) (pay : List (Nat × Nat × Nat)) :
    s.Reports (s.offer st src typ len time pay) :=
  .ite (.ite ((State.onStream_reports _ _ _).trans (State.dropRec_reports _ _ _)) (.refl s))
    ((State.onStream_reports _ _ _).trans ((State.Reports.ite (State.satAdd_reports _ _ _ _) (.refl _)).trans
      (.ite ((State.setStaged_reports _ _ _).trans (State.onStream_reports _ _ _)) (State.dropRec_reports _ _ _))))

theorem State.shotPoisoned_reports (s : State) (b : Nat) : s.Reports (s.shotPoisoned b) :=
  State.setStaged_reports _ _ _

/-- A POISON mark reports. -/
theorem State.poison_reports (s : State) (b cause detail : Nat) : s.Reports (s.poison b cause detail) :=
  (State.offer_reports _ _ _ _ _ _ _).trans
    ((State.Reports.ite (.ite (State.shotPoisoned_reports _ _) (State.onBench_reports _ _ _)) (.refl _)).trans
      ((State.benchEvent_reports _ _ _).trans (State.pulse_reports _ _)))

theorem State.poisonAll_reports (s : State) (cause detail : Nat) : s.Reports (s.poisonAll cause detail) :=
  State.Reports.foldAll _ (fun s b => .ite (State.poison_reports s b cause detail) (.refl s)) _ s

/-- A mode change reports and sets the mode. -/
theorem State.enter_reports (s : State) (m : Mode) (cause : Nat) :
    ∃ t, s.Reports t ∧ ({ t with mode := m } : State).Reports (s.enter m cause) :=
  ⟨_, State.offer_reports _ _ _ _ _ _ _, (State.pulse_reports _ _).trans (State.irq_reports _ _)⟩

theorem State.enter_mode (s : State) (m : Mode) (cause : Nat) : (s.enter m cause).mode = m := by
  obtain ⟨t, -, k⟩ := s.enter_reports m cause
  exact k.keeps.2.2.2.1

end Sys2Proof.Machine
end

