-- ==== Sys2Proof/WellFormed.lean ====
section
/-!
DEFINITION. Well-formed commands: operands that their types admit and that no agent outside the device can send. The
machine's meaning is total on them all; claims that need well-formed operands say so.
-/
namespace Sys2Proof

/-- No value stands twice in the list. -/
def distinct : List Nat → Bool
  | [] => true
  | x :: xs => !xs.contains x && distinct xs

/-- The command is well formed: a descriptor write has 1, 2 or 4 aligned words (R120); a write to waveform memory has
bytes, all below 2^34 (R71); samples bring one reading of each of the nine memory
devices (R351), of the 32 sensors and of the two diodes (R419); a survey has the margins of four domains (R429);
TRIM gives at most 176 calibrations (R99); a register access has a size and lies in the aperture (R9, R445); an echo
request leaves after it has arrived (R98); the sections an image's check decrypts are distinct, and a tag is checked only
after the signature (R75); the writes a parity alert names are distinct (R344). -/
def Instr.wellFormed : Instr → Bool
  | .trimDone cal => decide (cal.length ≤ 176)
  | .checkPhaseDone c => distinct (c.plain.map (·.1.val)) && (c.badTag.isNone || c.signer != .none_)
  | .echoReq _ t2 t3 => decide (t2 ≤ t3)
  | .segdirWrite _ _ first ws => (ws.length == 1 || ws.length == 2 || ws.length == 4) && first.val % ws.length == 0
  | .waveformWrite _ addr bytes => !bytes.isEmpty && decide (addr.toNat + bytes.length ≤ 2 ^ 34)
  | .memTempSample temps => temps.length == 9
  | .caParityAlert _ us => distinct (us.map (·.toNat))
  | .thermalSample temps diodes => temps.length == 32 && diodes.length == 2
  | .surveyComplete r => r.margins.length == 4
  | .registerWrite _ _ off size _ => decide (1 ≤ size) && decide (off.toNat + size ≤ 2 ^ 36)
  | .deniedRead _ _ off size => decide (1 ≤ size) && decide (off.toNat + size ≤ 2 ^ 36)
  | .powerOnReset _ _ | .pwrgdLow | .resetN _ | .warmReset _ | .benchReset _ _ | .benchWipeDone _ | .bootRequest
  | .wakeTimer | .wakeTrig _ | .firmwareVerified _ | .bootFail | .wipeComplete | .modeReqIdle | .modeReqKeep
  | .modeReqDormant | .modeReqTrim _ _ _ _ | .modeReqArmed | .modeReqHold | .modeReqHoldForce | .modeReqService
  | .armedEntryDone _ | .transitionDone | .keepExitDone | .startConditionMet | .shotBoundary | .benchDisable _
  | .benchEnable _ _ | .benchQuiet _ | .patternLoadStart | .overlayStart | .patternAbort | .applyPhaseDone _
  | .epochCapture _ | .epochLoad | .epochMiss | .epochArm _ _ | .captureRead _ _ | .echoStart _ _
  | .echoAns _ _ _ _ _ | .echoTimeout | .epochTrimWrite _ | .fdlyWrite _ _ | .fdlyApply _ | .trigEdge _ _ _
  | .trigOutEdge _ | .crierCellReceive _ _ | .refLoss _ | .pllLockLoss _ | .refclkReturn | .dividerAligned
  | .dirMissFill _ _ _ | .aliasWrite _ _ | .retire _ | .retireComplete | .granuleRequest _ _ | .granuleArrive _ _ _ | .underrun _ _
  | .play _ _ | .playx _ _ | .idle _ _ | .frame _ _ | .waitd _ _ | .br _ _ | .loop _ _ | .endl _ _ | .sync _ _
  | .mark _ _ | .setv _ _ | .end_ _ _ | .playQueueSpace _ _ | .playStartTick _ _ _ | .frameEffect _ _
  | .markEffect _ _ | .stageDone _ _ | .branchCommit _ _ | .slotRelease _ _ | .syncTimeout _ _ | .startStrobe _ _
  | .syncRelease _ _ | .abortStrobe _ _ | .flushStrobe _ _ | .poisonStrobe _ _ | .stopStrobe _ _ | .laneDisable _ _
  | .laneStopDone _ _ | .laneEnable _ _ | .laneDrained _ _ | .toneFwCommit _ _ _ _ | .fsrRequest _ _ _
  | .rangeChangeStart _ _ | .rangeChangeDone _ _ | .correctorWrite _ _ _ _ _ | .safeNLow | .safeNHigh
  | .attnRequest _ _ _ | .attnChangeStart _ _ | .attnChangeDone _ _ | .windowOpen _ _ | .partialEntry _ _ _
  | .windowFinal _ _ _ | .kernelWrite _ _ _ _ | .assayJmp _ _ | .assayCall _ _ | .assayBr _ _ | .waitin _ _
  | .waitinTimeout _ _ | .rep _ _ | .repEnd _ _ | .decide_ _ _ | .emit _ _ | .assayRet _ _ | .halt _ _ | .quad _ _
  | .cpx _ _ | .sqacc _ _ | .assayAdd _ _ | .assaySub _ _ | .abs _ _ | .assayShl _ _ | .assayShr _ _ | .rnd _ _
  | .mov _ _ | .clr _ _ | .minx _ _ | .maxx _ _ | .yRead _ _ | .xRead _ _ | .xWrite _ _ | .ldi _ _
  | .autoAnswer _ _ | .engineEnable _ _ | .engineDisable _ _ | .engineStop _ _ | .engineTrapRequest _ _
  | .engineTrap _ _ | .assayXyWrite _ _ _ _ _ _ _ | .assayRegAccess _ _ _ _ _ _ | .decisionWord _ | .oltLookup _
  | .oltAction _ | .crierPairSend | .linkUp _ | .linkDown _ | .foremanStartCondition _ | .jump _ | .mw2 _ | .mw4 _
  | .mw8 _ | .mw16 _ | .foremanCall _ | .foremanRet _ | .tret _ | .foremanEnd _ | .lopStart _ | .lopSync _
  | .lopFlush _ | .lopAbort _ | .lopPoison _ | .lopStop _ | .lopShot _ | .pointStrobeEffect _ | .shot _ | .pub0 _
  | .pub1 _ | .pubz _ | .dopArm _ | .dopLookup _ | .clrnew _ | .dopMark _ | .dopIrq _ | .ldch _ | .logrd _
  | .foremanAdd _ | .addi _ | .foremanSub _ | .and_ _ | .or_ _ | .xor_ _ | .foremanShl _ | .foremanShr _ | .cmp _
  | .movc _ | .mbx _ | .badd _ | .bev _ | .bnow _ | .cntDecrement _ _ | .cntReload _ _ | .cntIncrement _ _
  | .trgBegin _ | .trgEnd _ | .waitComplete _ | .waitTimeout _ | .holdRelease _ | .doorbell _ _ | .foremanTrap _
  | .syncFault _ _ | .timedOverrun _ | .refreshDue _ _ | .rowThreshold _ _ _ _ | .rhWindow | .edcError _ _ _ _
  | .requestPromotion _ _ | .selfRefreshExit | .selfRefreshEntry | .retrainStart | .retrainDone _
  | .retirementStart | .migrationDone | .writerSlot | .rpWrite _ _ | .drainCopy | .drainIrq | .dmaError
  | .streamDisable _ | .fabricCycle | .ledTimeout _ | .biasCodeWrite _ _ | .loadStrobe _ | .biasUpdate
  | .unpark _ _ | .park _ | .biasRangeRequest _ _ _ | .biasRangeSwitchDone _ | .sinStart _ | .sinStop _
  | .monitorConversion _ _ _ | .panelLevelChange _ _ | .scanRun | .scanStop | .sensorReading _ | .scanEntryEnd
  | .excitationSwitch _ _ | .loopReadback _ _ | .shedDeadline | .latchedEntry | .ledgerCompaction | .ledgerRefresh
  | .pcieReset | .pcieLinkUp | .carterAnnounce _ _ _ | .carterLinkDown _ | .carterLinkUp _ | .coreImageLoaded _
  | .coreHold | .coreRelease | .watchdogKick | .watchdogFired | .mgmtPacket _ | .ident | .lcToken _ | .ledgerKey
  | .ledgerRead _ | .fwWrite _ | .provKey | .porterCommandDone | .railTrip _ | .railRecover _ | .pmbAlert _
  | .vddAonRemoved | .waveformRead _ _ _ | .irqCodeRead _ _ | .carterFrameError _ | .panicEntry _ _
  | .errorCountHour | .traceRecord _ _ _ | .adcClip _ _ | .trigContend _ => true

end Sys2Proof
end

