-- ==== Sys2Proof/Tests/Slice0.lean ====
section
/-!
SUPPORT. Tests: a state and operands that meet the hypotheses of every clause of every statement, an ill-formed command
for every check of WellFormed, and words and figures of the spec's worked examples.
-/
namespace Sys2Proof.Machine

set_option Elab.async false

/-! ### Small states -/

/-- A powered device in a mode. -/
def wIn (m : Mode) : State := { State.reset with mode := m }

/-- A device in a mode with its fast clocks running, at TIME 3,000. -/
def wOn (m : Mode) : State :=
  { State.reset with mode := m, clk := { time := 3000, now := 6000, core := true, aligned := true, conv := true } }

/-- Bench `b` enabled. -/
def State.wBench (s : State) (b : Nat) : State := s.raise (R.BENCH_CTL b) Fd.BENCH_CTL_EN

/-- A Pattern is loaded. -/
def State.wPat (s : State) : State := s.raise R.TOP_MODE Fd.TOP_MODE_PATTERNED

/-- The Epoch is loaded. -/
def State.wCoh (s : State) : State := s.raise R.TOP_MODE Fd.TOP_MODE_COHERENT

/-- Crier port `p` is UP. -/
def State.wPort (s : State) (p : Nat) : State := s.onPort p fun x => { x with up := true }

/-- Epochs are checked with period `n`, and TIME is 30 ticks past an expected edge. -/
def State.wChecks (s : State) (n : Nat) : State :=
  let s : State :=
      (s.setReg R.TIME_EPOCH_PERIOD (BitVec.ofNat 32 n)).wCoh.raise R.TIME_EPOCH_CTL Fd.TIME_EPOCH_CTL_PERIODIC
  { s with clk := { s.clk with time := 3000 * n + 30 } }

/-- REFCLK is present or absent. -/
def State.wRefclk (s : State) (b : Bool) : State := { s with clk := { s.clk with refclk := b } }

/-- The core PLL runs, the dividers not aligned. -/
def State.wAlign (s : State) : State := { s with clk := { s.clk with aligned := false } }

/-- The state one step on. -/
def nextOf (s : State) : State :=
  match step s with
  | .next t => t
  | _ => s

/-- A descriptor for drive outputs: 10 granules at 0x10000, 40 ticks, VALID. -/
def segA : List Nat := [0x400, 10, 0, 0x80000028]

/-- A play of segment 5 at TIME 3,000, 20 ticks in. -/
def playA : Play :=
  { ser := 4, start := 2980, len := 40, seg := 5, amp := 0x8000, frame := 0, issued := 2900, desc := .good segA,
    started := true, ends := 3020 }

/-- A play of segment 5, its descriptor awaited, due at TIME 4,000. -/
def playW : Play :=
  { ser := 4, start := 4000, len := 0, seg := 5, amp := 0x8000, frame := 0, issued := 2900, desc := .awaited, ends := 4000 }

/-- A stream of segment 5 behind the play of serial 4. -/
def fetchA : Fetch :=
    { seg := 5, ser := 4, addr := 0x10000, gran := 64, total := 10, asked := 4, out := [{ gran := 2, at_ := 2900 }, { gran := 3, at_ := 2910 }], got := [(0, 1), (1, 8)] }

/-- The queue of voice `v` of a lane. -/
def State.wQueue (s : State) (b l v : Nat) (q : List Play) : State := s.onLane b l fun x => x.setQueue v q

/-- One stream in window `v`. -/
def State.wStream (s : State) (b v : Nat) (f : Fetch) : State :=
    s.onWindow b v fun w => { w with size := 4096, streams := [f] }

/-- Segment `id` is being retired. -/
def State.wRetiring (s : State) (id : Nat) : State := { s with segs := { s.segs with retiring := [id] } }

/-- Word `w` at offset `off` of a lane's program. -/
def State.wWord (s : State) (b l off w : Nat) : State :=
  (s.setReg (R.LANE_PROG b off 0) (BitVec.ofNat 32 w)).setReg (R.LANE_PROG b off 1) (BitVec.ofNat 32 (w / 2 ^ 32))

/-- Lane 2 of Bench 1 in RUN is about to execute `w` at offset 5, its cursor at 4,000. -/
def wLane (w : Nat) : State :=
  ((wOn .run).wWord 1 2 5 w).onLane 1 2
      fun x => { x with st := .issuing, pc := 5, cursor := 4000, next := 2996, ser := 7 }

/-- A checkpoint at offset 5. -/
def chkA : Checkpoint :=
    { pc := 5, cursor := 4000, v := [0, 0, 0, 0, 0, 0, 0, 0], dr := 3, loops := [(2, 7)], lastWin := none }

/-- A pending branch of instruction word `w` at boundary `bnd`. -/
def brA (w bnd : Nat) : Branch :=
    { ser := 5, word := w, pc := 5, bnd := bnd, chk := chkA, heads := [], stage := .none_ }

/-- The pending branches of lane 2 of Bench 1. -/
def State.wBranches (s : State) (bs : List Branch) : State := s.onLane 1 2 fun x => { x with branches := bs }

/-- The strobes on their way to lane 2 of Bench 1, in state `st`. -/
def State.wStrobe (s : State) (st : LaneSt) (e : Strobe) : State := s.onLane 1 2
    fun x => { x with st := st, strobes := [e] }

/-- A window of channel 9 with `n` decimated samples from ADC sample `m0`, opened. -/
def winA (n : Nat) (m0 : Int) : Win :=
  { ser := 3, lane := 2, play := 4, start := 2850, wcfg := n * 2 ^ 16, kcfg := 0x0D, tcfg := 1, m0 := m0, opened := true,
    num := 3, owed := true }

/-- A window not yet opened. -/
def winB (m0 : Int) : Win := { winA 16 m0 with ser := 4, opened := false, owed := false }

/-- The windows of channel 9 of Bench 1. -/
def State.wWins (s : State) (ws : List Win) : State := s.onChan 1 9
    fun x => { x with wins := ws, nextSer := 5, opens := 4 }

/-- Engine 1 of Bench 1 runs. -/
def State.wEng (s : State) : State := s.onEng 1 1 fun x => { x with st := .run, cyc := 3000 }

/-- Word `w` at address `pc` of engine 1 of Bench 1. -/
def State.wBundle (s : State) (pc w : Nat) : State :=
  (s.setReg (R.ASSAY_PROG 1 1 pc 0) (BitVec.ofNat 32 w)).setReg (R.ASSAY_PROG 1 1 pc 1) (BitVec.ofNat 32 (w / 2 ^ 32))

/-- A bundle with the given control, MAC and address slots. -/
def bundleA (c m a : Nat) : Nat := c * 2 ^ 48 + m * 2 ^ 20 + a

/-- Engine 1 of Bench 1 in RUN is at the bundle `w` of address 5; a CLR follows. -/
def wAssay (w : Nat) : State := (((wOn .run).wEng.wBundle 5 w).wBundle 6 (bundleA 0 (11 * 2 ^ 24) 0)).onEng 1 1
    fun x => { x with pc := 5 }

/-- D registers 1 and 2, accumulators 0 to 3 and the pointers of engine 1 of Bench 1. -/
def State.wRegs (s : State) : State :=
  let r : AsRegs :=
      { d := [(1, 0x0FFFF * 2 ^ 18 + 0x3FFF0), (2, 5 * 2 ^ 18 + 7)], a := [(0, 100), (1, -3), (2, 2 ^ 47 - 1), (3, -(2 ^ 47))], p := [(1, 4095)], m := [(2, 3)], best := 99, next := -5, lc := 2 }
  s.onEng 1 1 fun x => { x with regs := r, shadow := r }

/-- The state after an automatic answer of engine 1 of Bench 1. -/
def answered (s : State) : State :=
  match execAutoAnswer 1 1 s with
  | .next t => t
  | _ => s

/-- Crier port `p` is in use, running and UP, its neighbour device 1; GDS bit 5 belongs to device 1. -/
def State.wCrier (s : State) (p : Nat) : State :=
  (((s.raise (R.DEC_CRIER_CFG p) Fd.DEC_CRIER_CFG_USED).setFld (R.DEC_CRIER_CFG p) Fd.DEC_CRIER_CFG_PEER 1).setReg
    (R.DEC_GDSMAP 5) (BitVec.ofNat 32 (2 ^ Fd.DEC_GDSMAP_USED.lo + 2 ^ Fd.DEC_GDSMAP_OWNER.lo))).onPort p fun x =>
      { x with running := true, up := true, own := [{ idx := 5, val := true, at_ := 2900 }] }

/-- The word of a decision on its way to the lanes of Bench 1. -/
def wordA : BusWord := { bench := 1, ch := 9, win := 3, word := 0x005, due := 3000 }

/-- An update cell for bit 5 of source `src`. -/
def cellA (src : Nat) : CrierCell :=
  { control := false, v := 1, src := src, hop := 0, seq := 9, slots := [(5, true)] }

/-- The same cell with GDS bit 6, which the map does not give to device 1. -/
def cellB (src : Nat) : CrierCell := { cellA src with slots := [(6, true)] }

/-- A REFRESH of GDS bit 5. -/
def cellR (src : Nat) : CrierCell := { cellA src with control := true, v := 16, slots := List.replicate 7 (5, true) }

/-- TIME at another tick. -/
def State.wTime (s : State) (t : Nat) : State := { s with clk := { s.clk with time := t } }

/-- The Foreman of Bench 1 in RUN executes `w` at 0x4005, issuing at TIME 3,000. -/
def wFm (w : Nat) : State :=
  ((wOn .run).setReg (R.FM_U 1 1) 100).onFm 1 fun f =>
    { f with st := .run, pc := 0x4005, cyc := 2998, word := w, u := [7, 100, 3, 0x80000000, 5, 6, 7, 8], c := [1, 0, 3, 4]
             mbox := [1, 2, 3, 4], ld := 5, cond := 9 }

/-- A saved frame. -/
def frameA (sync : Bool) : FmFrame :=
    { pc := 0x4009, stack := [3], u := [1, 2, 3, 4, 5, 6, 7, 8], c := [1, 2, 3, 4], flags := 5, wait := none, sync := sync }

/-- Another state of the Foreman of Bench 1. -/
def State.wFmSt (s : State) (st : FmSt) : State := s.onFm 1 fun f => { f with st := st }

/-- GDS bit 5 belongs to source `kind` of Bench 1 of this device. -/
def State.wGds (s : State) (kind : Nat) : State :=
  s.setReg (R.DEC_GDSMAP 5) (BitVec.ofNat 32 (2 ^ Fd.DEC_GDSMAP_USED.lo + kind * 2 ^ Fd.DEC_GDSMAP_KIND.lo + 2 ^ Fd.DEC_GDSMAP_BENCH.lo))

/-- A device in mode `m` with its waveform memory powered and trained, its fast clocks running. -/
def wMem (m : Mode) : State := { wOn m with memc := { powered := true, temp := 100, trainTemp := 100 } }

/-- The memory out of its present maintenance, or in it. -/
def State.wMaint (s : State) (m : Maint) : State := { s with memc := { s.memc with maint := some m } }

/-- A staged record of one part. -/
def recA : Rec :=
    { typ := 5, len := 1, stream := 24, src := 4, seq := 7, time := 3000, pay := [(0, 4, 0x11223344)], left := 1 }

/-- The record staged for the device. -/
def wTally : State := let s : State := wMem .run;
    { s with tally := { s.tally with staging := [(8, [recA])], devRecent := [] } }

/-- The drain is enabled and the upstream link up; the ring holds one record of 64 bytes. -/
def wDrain : State :=
  let s : State := ((wMem .run).raise R.TALLY_CTL Fd.TALLY_CTL_DMA).raise R.TALLY_CTL Fd.TALLY_CTL_DRAIN_EN
  let s : State := { s with host := { s.host with pcieUp := true }, tally := { s.tally with wp := 64, head := 64 } }
  (s.setByte s.ringBase 5).setByte (s.ringBase + 1) 2

/-- Another bias output. -/
def State.wBias (s : State) (n : Nat) (x : Bias) : State := s.onBias n fun _ => x

/-- The levels of the panel, as counted. -/
def State.wPanel (s : State) (p : Nat) : State := { s with slow := { s.slow with panel := p } }

/-- A scan of entry 0 runs, with `n` readings of 100 ohm and 0 V of lead drop. -/
def State.wScan (s : State) (n : Nat) (failed : Bool) : State :=
  let s : State := s.raise R.SENSE_CTL Fd.SENSE_CTL_RUN
  { s with slow := { s.slow with scan := { cfg := 0, readings := List.replicate n (0x42C80000, 0), settle := 0, failed := failed, excited := true } } }

/-- The physical clock at another tick. -/
def State.wNow (s : State) (n : Nat) : State := { s with clk := { s.clk with now := n } }

/-- The reading of a sensor at 0 mV. -/
def readA : Reading := { vp := 0, vn := 0, fullScale := false, volts := 0x3F800000, lead := 0, amps := 0x3A83126F }

/-- A completed survey. -/
def surveyA : SurveyResult :=
    { margins := [50, 60, 70, 80], eye := 30, trims := [1, 2], months := 100, committed := true }

/-- Porter is up, with this command. -/
def State.wJob (s : State) (j : Option PorterJob) : State := { s with host := { s.host with fwVer := 3, job := j } }

/-- A token. -/
def tokenA : Token :=
  { magicOk := true, target := 2, serial := 0, ownCnt := 0, ownerHash := 9, patternKey := false, signer := .henileo }

/-- A SHED request for HOLD in RUN. -/
def holdA : HoldReq := { shed := true, shedDue := 6000 }

/-- A device in BOOT that finds a life-cycle transition to OWNED whose bits are burnt and that has no DONE. -/
def wBurnt : State :=
  let s : State := { wIn .boot with pins := { bootDue := none } }
  { s with host := { s.host with
      otp := { s.host.otp with vendorSet := true, ownCnt := 1 }, customFlash := true
      ledger := [{ seq := 1, kind := .lifecycle true 2, data := [], written := 0 }] } }

/-- The regulator of the core domain does not hold the offset of the plan. -/
def State.wOffsets (s : State) : State :=
    { s with therm := { s.therm with held := [some 5, some 0, some 0, some 0] } }

/-- Bench 2 asks to be enabled, and its record asks for more than its share of the decision stores. -/
def State.wShort (s : State) : State :=
  ({ s with pat := { s.pat with budget := { olt := [0, 0, 400] } } } : State).wBench 2

/-- The host reaches the device: its PCIe link is up and application core 0 runs. -/
def State.wUp (s : State) : State := { s with host := { s.host with pcieUp := true, coresRun := 1 } }

/-- A number of `n` bytes at an address of waveform memory. -/
def State.wPut (s : State) (a v n : Nat) : State := s.setBytes a (bytesLE v n)

/-- An overlay image staged at 0x1000: a budget record of zeros, and one run of 64 bytes at 0x100000. -/
def State.wImage (s : State) : State :=
  let s := (((s.wPut 0x1000 0x54505849 4).wPut 0x1004 1 2).wPut 0x1006 1 2).wPut 0x1008 0x280 4
  let s := ((s.wPut 0x100C 2 2).wPut 0x1010 77 8).wPut 0x1018 5 8
  let s := (((s.wPut 0x1040 0x2F 1).wPut 0x1041 0xFF 1).wPut 0x1044 0x80 4).wPut 0x1048 0x100 4
  let s := (((s.wPut 0x1050 0x26 1).wPut 0x1051 0xFF 1).wPut 0x1054 0x180 4).wPut 0x1058 0x50 4
  ((s.wPut 0x1180 0x100000 8).wPut 0x1188 64 4).wPut 0x1190 0xABCD 2

/-- The same image as one of Bench 3: a SLOTS section without runs stands in place of the samples. -/
def State.wBenchImage (s : State) : State := ((s.wImage.wPut 0x1050 0x15 1).wPut 0x1051 3 1).wPut 0x1058 0 4

/-- A load of the image at 0x1000 in a phase. -/
def loadA (overlay : Bool) (p : LoadPhase) : Load := { overlay := overlay, phase := p, src := 0x1000, len := 0x280 }

/-- A device in IDLE with a Pattern of ID 5 that loads this overlay. -/
def wLoad (p : LoadPhase) : State :=
  { ((wIn .idle).wPat.setReg R.TOP_PAT_ID_LO 5).wImage with load := some (loadA true p) }

/-- A play of segment 5 that has just started: 2 ticks in. -/
def playS : Play := { playA with start := 2998, ends := 3038 }

/-- A transient copy of segment 5, its first granule asked for. -/
def copyA : Transient :=
    { seg := 5, units := 1, used := 2900, fetch := { fetchA with ser := 0, asked := 3, out := [{ gran := 2, at_ := 2900 }] } }

/-- A miss of the descriptor of segment 5 is in service. -/
def missA : DirMiss := { seg := 5, at_ := 2901 }

/-- The head of alternative `k` at offset 40: one play of segment 5 and 48 ticks of IDLE. -/
def headA (k : Nat) : Head :=
    { alt := k, target := 40, plays := [(0, { playW with start := 0 })], endPc := 42, endCursor := 88 }

/-- The same state at TIME `t`. -/
def State.tickTo (s : State) (t : Nat) : State := { s with clk := { s.clk with time := t } }

/-- A BR on a GDS bit to offset 9, where a play of segment 5 stands. -/
def wPlay9 : State :=
  ((wLane (6 * 2 ^ 58 + 6 * 2 ^ 54 + 9 * 2 ^ 35)).wWord 1 2 9 (1 * 2 ^ 58 + 5 * 2 ^ 35)).setSeg 5 segA

/-- Samples and phases of the first `n` ADC samples of a window. -/
def Win.wFull (w : Win) (n : Nat) : Win := { w with adc := List.replicate n 100, theta := List.replicate n 77 }

/-- The spare is used up. -/
def State.wRet8 (s : State) : State := s.onDev 8 fun x => { x with st := .retired }

/-- A staged record of two parts. -/
def recB : Rec :=
    { typ := 5, len := 2, stream := 24, src := 4, seq := 7, time := 3000, pay := [(0, 4, 0x11223344), (40, 4, 99)], left := 2 }

/-- That record staged at source `q`, the ring empty at offset `h`. -/
def wTallyB (q h : Nat) : State :=
  let s : State := (wMem .run).setFld R.TALLY_RP Fd.TALLY_RP_OFS h
  { s with tally := { s.tally with staging := [(q, [recB])], devRecent := [], head := h, wp := h } }

/-- Three Joiner cells: COMB, FF and FILTER on panel lines. -/
def State.wCells (s : State) : State :=
  let s : State := (s.setReg (R.EVT_CELL_CFG 0) 0x7FFF).setReg (R.EVT_CELL_IN 0) 0x03020100
  let s : State := (s.setReg (R.EVT_CELL_CFG 1) 0x1FFFE).setReg (R.EVT_CELL_IN 1) 0x03020100
  ((s.setReg (R.EVT_CELL_CFG 2) 0x2FFFE).setReg (R.EVT_CELL_FILT 2) 1).setReg (R.EVT_CELL_IN 2) 0x03020100

/-- Trigger line 0, a SHOT of Bench 0 and an event of Foreman 0 are demanded, and every input enables all its candidates. -/
def State.wEvents (s : State) : State :=
  let s : State :=
      { s with fabric := { s.fabric with started := true, demand := [(336, 374), (320, 374), (328, 374), (321, 374), (322, 374), (323, 374), (0, 374), (256, 374)] } }
  foldAll (fun s c => s.setReg (R.EVT_CONS_EN c) 0xFFFF) (s.raise (R.BENCH_CTL 1) Fd.BENCH_CTL_EN) (List.range 256)

/-- A state of which a decidable property holds. -/
theorem holdsAt {p : State → Prop} [DecidablePred p] (s : State) (h : decide (p s) = true) : ∃ s, p s :=
  ⟨s, of_decide_eq_true h⟩

/-! ### Well-formedness: each check refuses an ill-formed command -/

theorem test_wf_trimDone : (Instr.trimDone (List.replicate 177 0)).wellFormed = false := by decide +kernel
theorem test_wf_checkPhase_twice :
    (Instr.checkPhaseDone { signer := .owner, badTag := none, plain := [(3, []), (3, [])] }).wellFormed = false := by
  decide
theorem test_wf_checkPhase_unsigned :
    (Instr.checkPhaseDone { signer := .none_, badTag := some 3, plain := [] }).wellFormed = false := by decide
theorem test_wf_echoReq : (Instr.echoReq 3 100 99).wellFormed = false := by decide
theorem test_wf_segdir_count : (Instr.segdirWrite .host 5 0 [1, 2, 3]).wellFormed = false := by decide
theorem test_wf_segdir_aligned : (Instr.segdirWrite .host 5 1 [1, 2]).wellFormed = false := by decide
theorem test_wf_waveform_empty : (Instr.waveformWrite .host 0 []).wellFormed = false := by decide
theorem test_wf_waveform_end : (Instr.waveformWrite .host 0x3FFFFFFFF [1, 2]).wellFormed = false := by decide
theorem test_wf_memTemp : (Instr.memTempSample [some 40]).wellFormed = false := by decide
theorem test_wf_parity : (Instr.caParityAlert 3 [7, 7]).wellFormed = false := by decide
theorem test_wf_thermal_temps : (Instr.thermalSample [40] [some 40, some 40]).wellFormed = false := by decide
theorem test_wf_thermal_diodes : (Instr.thermalSample (List.replicate 32 40) [none]).wellFormed = false := by decide
theorem test_wf_survey :
    (Instr.surveyComplete { margins := [1], eye := 0, trims := [], months := 0, committed := true }).wellFormed =
      false := by decide
theorem test_wf_write_size : (Instr.registerWrite .host 0 0x400000000 0 1).wellFormed = false := by decide
theorem test_wf_write_end : (Instr.registerWrite .host 0 0xFFFFFFFFF 4 1).wellFormed = false := by decide
theorem test_wf_read_size : (Instr.deniedRead .host 0 0x400000000 0).wellFormed = false := by decide
theorem test_wf_read_end : (Instr.deniedRead .host 0 0xFFFFFFFFF 4).wellFormed = false := by decide
theorem test_wf_accepts : (Instr.registerWrite .host 0 0x400000004 4 1).wellFormed = true := by decide

/-! ### Words and figures that the worked examples of the spec give -/

/-- 06: `waitd fixed, src own, ksel 0, def 0, dl 120`. -/
theorem test_waitd_word : liOp 0x1400000780000000 = 5 ∧ liAsap 0x1400000780000000 = false ∧
    liSrc 0x1400000780000000 = 0 ∧ liAlts 0x1400000780000000 = 2 ∧ liDef 0x1400000780000000 = 0 ∧
    liDl 0x1400000780000000 = 120 := by decide

/-- 06: `play d, alias 7, ofs 0, amp 0x7fff, adv 1`. -/
theorem test_play_word : liOp 0x04800038000FFFE4 = 1 ∧ liVoice 0x04800038000FFFE4 = 0 ∧
    liAlias 0x04800038000FFFE4 = true ∧ liSeg 0x04800038000FFFE4 = 7 ∧ liOfs 0x04800038000FFFE4 = 0 ∧
    liAmp 0x04800038000FFFE4 = 0x7FFF ∧ liAdv 0x04800038000FFFE4 = true ∧ liWin 0x04800038000FFFE4 = false := by
  decide

/-- 09: BR on COND 9 with REL 15; QUAD with XS = 1 and Dn = 12; a Y read with P0 and M0. -/
theorem test_assay_bundle : ctlOf 0x390F1E0000000800 = 0x390F ∧ macOf 0x390F1E0000000800 = 0x1E00000 ∧
    adrOf 0x390F1E0000000800 = 0x800 ∧ ctlOp 0x390F = 3 ∧ macOp 0x1E00000 = 1 := by decide

/-- 09: the DECIDE of the classifier with SH = 22 is the only slot of its bundle. -/
theorem test_assay_decide : ctlOf 0x60B0000000000000 = 0x60B0 ∧ ctlOp 0x60B0 = 6 ∧ macOf 0x60B0000000000000 = 0 ∧
    adrOf 0x60B0000000000000 = 0 := by decide

/-- 11: the microword B: WAIT TIME with timeout 0, TOFF 29,000, SHOT, C0 decremented, JUMP 0x6002. -/
theorem test_microword : mwNxt 0x4000000E290E000000000200E002 = 0x6002 ∧
    mwBrs 0x4000000E290E000000000200E002 = 1 ∧ mwWsel 0x4000000E290E000000000200E002 = 1 ∧
    mwWto 0x4000000E290E000000000200E002 = 0 ∧ mwLop 0x4000000E290E000000000200E002 = 7 ∧
    mwToff 0x4000000E290E000000000200E002 = 29000 ∧ mwCnt 0x4000000E290E000000000200E002 0 = 1 ∧
    mwLstr 0x4000000E290E000000000200E002 = 0 ∧ mwDop 0x4000000E290E000000000200E002 = 0 := by decide

/-- 07: the detuned train folds 2,576,980,368 units into FRAMEf_P, and a virtual-Z of a quarter turn adds to it. -/
theorem test_frame_fold :
    let x := Frame.update { p := 0, f := 137438953, t := 100 } true false 0 1300
    x.p / 256 = 2576980368 ∧ x.f = 0 ∧ (x.update false true 0x40000000 1300).p / 256 = 0xD9999990 := by decide

/-- 17: 8.8 mV short of a target of 40 mV takes the offset from +12.5 mV to +22.5 mV. -/
theorem test_plan_offset : planOffset 5 40 312 4 = 9 := by decide

/-! ### One step -/

/-- A step carries out the command at the front of the queue. -/
theorem test_step_front :
    step { State.reset with pending := [.watchdogKick, .safeNLow] } =
      exec .watchdogKick { State.reset with pending := [.safeNLow] } := rfl

/-- With no command waiting one tick of the physical clock passes. -/
theorem test_step_idle : (nextOf State.reset).clk.now = State.reset.clk.now + 1 := by decide +kernel

/-- Without VDD_AON no command runs. -/
theorem test_unpowered : exec .safeNLow { State.reset with powered := false } = .fault .unpowered := rfl

/-! ### The hypotheses of the statements can be met -/

/-- What a command leads to. -/
def after (c : Instr) (s : State) : State :=
  match exec c s with
  | .next t => t
  | _ => s

/-- The hypotheses of IdleTick can be met. -/
theorem witness_IdleTick :
    (∃ s : State, s.pending = [] ∧ s.powered = false) ∧ (∃ s : State, s.pending = [] ∧ s.powered = true) :=
  ⟨⟨{ State.reset with powered := false }, rfl, rfl⟩, ⟨State.reset, rfl, rfl⟩⟩

/-- The hypotheses of EveryCommand can be met. -/
theorem witness_EveryCommand :
    (∃ s : State, s.powered = true) ∧
    (∃ (c : Instr) (s : State), s.powered = false ∧ (∀ v x, c ≠ .powerOnReset v x)) ∧
    (∃ (c : Instr) (s t : State), exec c s = .next t) :=
  ⟨⟨State.reset, rfl⟩, ⟨.armedEntryDone 15, { State.reset with powered := false }, rfl, fun _ _ h => nomatch h⟩,
    ⟨.safeNLow, State.reset, after .safeNLow State.reset, rfl⟩⟩

/-- The hypotheses of MemoryFormKept can be met: a state with listed bytes. -/
theorem witness_MemoryFormKept :
    ∃ s t : State, Memory.wf s.mem = true ∧ s.mem ≠ [] ∧ step s = .next t :=
  let s := (wMem .run).wPut 0x1000 7 2
  ⟨s, nextOf s, by decide +kernel, by decide +kernel, rfl⟩

/-- The hypotheses of OtpOnlyBurnt can be met. -/
theorem witness_OtpOnlyBurnt : ∃ (c : Instr) (s t : State), exec c s = .next t :=
  ⟨.safeNLow, State.reset, after .safeNLow State.reset, rfl⟩

/-- The hypotheses of LatchedStays can be met. -/
theorem witness_LatchedStays :
    ∃ (c : Instr) (s t : State), s.powered = true ∧ s.mode = .latched ∧ s.therm.thermN = true ∧ s.transit = none ∧
      s.load = none ∧ s.hold = none ∧ s.memc.maint = none ∧ c ≠ .vddAonRemoved ∧ exec c s = .next t :=
  let s : State := let s := wIn .latched; { s with therm := { s.therm with thermN := true } }
  ⟨.warmReset true, s, after (.warmReset true) s, rfl, rfl, rfl, rfl, rfl, rfl, rfl, (fun h => nomatch h), rfl⟩

/-- The hypotheses of RunLeftOnlyForHold can be met: a command in RUN, and the end of the entry to ARMED. -/
theorem witness_RunLeftOnlyForHold :
    (∃ (c : Instr) (s t : State), exec c s = .next t ∧ s.mode = .run ∧ s.transit = none ∧ s.load = none) ∧
    (∃ (c : Instr) (s t : State), exec c s = .next t ∧ t.mode = .armed ∧ s.mode ≠ .armed) :=
  let s : State :=
      { wOn .hold with transit := some { src := .hold, dst := .armed, kind := .armedEntry, due := 3000 } }
  ⟨⟨.safeNLow, wOn .run, after .safeNLow (wOn .run), rfl, rfl, rfl, rfl⟩,
    ⟨.armedEntryDone 15, s, after (.armedEntryDone 15) s, rfl, by decide +kernel, by decide +kernel⟩⟩

/-- The hypotheses of MemoryAndModeFrame can be met: a command that no list names. -/
theorem witness_MemoryAndModeFrame :
    (∃ (c : Instr) (s t : State), c.storesMem = false ∧ exec c s = .next t) ∧
    (∃ (c : Instr) (s t : State), c.keepsRegisters = true ∧ exec c s = .next t) ∧
    (∃ (c : Instr) (s t : State), exec c s = .next t ∧ c.changesMode = false ∧ c.changesTransit = false ∧
      c.changesClocks = false) :=
  let s : State := (wOn .run).wPort 3
  ⟨⟨.watchdogKick, s, after .watchdogKick s, rfl, rfl⟩, ⟨.watchdogKick, s, after .watchdogKick s, rfl, rfl⟩,
    ⟨.watchdogKick, s, after .watchdogKick s, rfl, rfl, rfl, rfl⟩⟩

/-- The hypotheses of PartsFrame can be met: a command that no list names. -/
theorem witness_PartsFrame :
    ∃ (c : Instr) (s t : State), exec c s = .next t ∧ c.changesSlow = false ∧ c.changesThermal = false ∧
      c.changesHost = false ∧ c.changesPins = false ∧ c.changesLanes = false ∧ c.changesEngines = false ∧
      c.changesOutputs = false ∧ c.keepsForemen = true :=
  let s : State := (wOn .run).wPort 3
  ⟨.pcieReset, s, after .pcieReset s, rfl, rfl, rfl, rfl, rfl, rfl, rfl, rfl, rfl⟩

/-- A device in IDLE whose Ledger holds `n` records. -/
def wLedger (n : Nat) : State :=
  let l : List LedgerRec := (List.range n).map fun k => { seq := k, kind := .mem, written := 0 }
  { wOn .idle with host := { (wOn .idle).host with ledger := l } }

theorem wLedger_seq (n : Nat) : (wLedger n).host.ledger.map (·.seq) = List.range n := by
  simp [wLedger, Function.comp_def]

/-- A Ledger that fills 90% of its space meets the hypotheses of the compaction of SurveysAndLedger. -/
theorem wLedger_full (n : Nat) (h : 147456 ≤ 10 * n) : ∃ s : State, s.powered = true ∧ s.mode = .idle ∧
    147456 ≤ 10 * s.host.ledger.length ∧ (s.host.ledger.map (·.seq)).Nodup :=
  ⟨wLedger n, rfl, rfl, by simpa [wLedger] using h, wLedger_seq n ▸ List.nodup_range⟩

theorem witness_SurveysAndLedger_full : ∃ s : State, s.powered = true ∧ s.mode = .idle ∧
    147456 ≤ 10 * s.host.ledger.length ∧ (s.host.ledger.map (·.seq)).Nodup :=
  wLedger_full 14746 (by decide)

/-- The hypotheses of BenchCommands can be met, clause by clause. -/
theorem witness_BenchCommands :
    (∃ (s : State), s.powered = true) ∧
    (∃ (who : Who) (b : Fin 8) (s : State), s.powered = true ∧ s.reaches who = true ∧ s.wiped b = false ∧
      (s.benchSt b).resetPend = false ∧ s.mode.timeline = false ∧ s.benchOn b = false) ∧
    (∃ (who : Who) (b : Fin 8) (s : State), s.powered = true ∧ s.reaches who = true ∧ s.wiped b = false ∧
      (s.benchSt b).resetPend = false ∧ s.mode.timeline = true ∧ s.benchOn b = false) ∧
    (∃ (who : Who) (b : Fin 8) (s : State), s.powered = true ∧ s.reaches who = true ∧ s.wiped b = true) ∧
    (∃ (b : Fin 8) (s : State), s.powered = true ∧ s.benchOn b = false ∧ s.benchQuiet b = true ∧ (∀ l : Fin 32,
      (s.lane b l).st ≠ .stopping) ∧ (s.benchSt b).stopping = true) ∧
    (∃ (who : Who) (s : State), s.powered = true ∧ s.reaches who = true ∧ s.mode.benchResets = true ∧ s.load = none) ∧
    (∃ (who : Who) (s : State), s.powered = true ∧ s.reaches who = true ∧ s.mode.benchResets = false) ∧
    (∃ (b : Fin 8) (s : State), s.powered = true ∧ (s.benchSt b).resetPend = true ∧ (s.benchSt b).wipeDue ≠ 0 ∧
      (s.benchSt b).wipeDue ≤ s.clk.now) := by
  refine ⟨?_, ?_, ?_, ?_, ?_, ?_, ?_, ?_⟩
  · exact holdsAt ((wOn .run).wBench 3) (by decide +kernel)
  · exact ⟨.host, 3, holdsAt ((wIn .idle).wUp) (by decide +kernel)⟩
  · exact ⟨.host, 3, holdsAt ((wOn .run).wUp) (by decide +kernel)⟩
  · exact ⟨.host, 3, holdsAt (((wIn .idle).wUp).orFld R.TOP_MODE Fd.TOP_MODE_WIPED 8) (by decide +kernel)⟩
  · exact ⟨3, holdsAt ((wOn .run).onBench 3 fun x => { x with stopping := true, resetPend := true })
      (by decide +kernel)⟩
  · exact ⟨.host, holdsAt ((wOn .run).wUp.wBench 2) (by decide +kernel)⟩
  · exact ⟨.host, holdsAt ((wIn .idle).wUp) (by decide +kernel)⟩
  · exact ⟨3, holdsAt ((wOn .run).onBench 3 fun x => { x with resetPend := true, wipeDue := 5000 })
      (by decide +kernel)⟩

/-- The hypotheses of PowerOnReset can be met, clause by clause. -/
theorem witness_PowerOnReset :
    (∃ (s : State), s.powered = false) ∧
    (∃ (s : State), s.powered = true ∧ s.pins.pwrgd = false ∧ s.isLatched = false ∧ s.pins.railsOut % 256 = 0) ∧
    (∃ (s : State), s.powered = true ∧ s.pins.pwrgd = false ∧ (s.isLatched = true ∨ s.pins.railsOut % 256 ≠ 0)) ∧
    (∃ (s : State), s.powered = true) := by
  refine ⟨?_, ?_, ?_, ?_⟩
  · exact holdsAt ({ wIn .run with powered := false }) (by decide +kernel)
  · exact holdsAt ({ wIn .dormant with pins := { pwrgd := false } }) (by decide +kernel)
  · exact holdsAt ({ wIn .dormant with pins := { pwrgd := false, railsOut := 4 } }) (by decide +kernel)
  · exact holdsAt (wIn .idle) (by decide +kernel)

/-- The hypotheses of DeviceResets can be met, clause by clause. -/
theorem witness_DeviceResets :
    (∃ (s : State), s.powered = true ∧ s.pins.pwrgd = true ∧ s.isLatched = false) ∧
    (∃ (s : State), s.powered = true ∧ s.pins.pwrgd = true ∧ s.isLatched = true) ∧
    (∃ (s : State), s.powered = true ∧ s.pins.pwrgd = false) ∧
    (∃ (s : State), s.powered = true ∧ s.resetHeld = false) ∧
    (∃ (s : State), s.powered = true ∧ s.resetHeld = true) ∧
    (∃ (s : State), s.powered = true ∧ s.resetHeld = false ∧ s.pins.bootDue = none) ∧
    (∃ (s : State), s.powered = true ∧ (s.resetHeld = true ∨ s.pins.bootDue.isSome = true)) := by
  refine ⟨?_, ?_, ?_, ?_, ?_, ?_, ?_⟩
  · exact holdsAt (wOn .run) (by decide +kernel)
  · exact holdsAt (wIn .latched) (by decide +kernel)
  · exact holdsAt ({ wIn .dormant with pins := { pwrgd := false } }) (by decide +kernel)
  · exact holdsAt (wOn .run) (by decide +kernel)
  · exact holdsAt ({ wIn .dormant with pins := { pwrgd := false } }) (by decide +kernel)
  · exact holdsAt ({ wOn .run with pins := { bootDue := none } }) (by decide +kernel)
  · exact holdsAt (wIn .dormant) (by decide +kernel)

/-- The hypotheses of BootAndSanitise can be met, clause by clause. -/
theorem witness_BootAndSanitise :
    (∃ (s : State), s.powered = true ∧ s.mode = .dormant ∧ s.pins.pwrgd = true ∧ s.pins.railsOut % 256 = 0 ∧
      s.therm.bootBad = false ∧ (∃ d, s.pins.bootDue = some d ∧ d ≤ s.clk.now) ∧
      s.flag R.TOP_AON_CTL Fd.TOP_AON_CTL_AUTOBOOT = true) ∧
    (∃ (s : State), s.powered = true ∧ s.mode = .dormant ∧ s.pins.pwrgd = true ∧ s.pins.railsOut % 256 = 0 ∧
      s.therm.bootBad = false ∧ s.clk.phAon = 0 ∧ s.flag R.TOP_AON_CTL Fd.TOP_AON_CTL_WAKE_TIMER_EN = true ∧
      s.reg64 R.TOP_WAKE_TIME_LO ≤ s.clk.time) ∧
    (∃ (line : Fin 8) (s : State), s.powered = true ∧ s.mode = .dormant ∧ s.pins.pwrgd = true ∧
      s.pins.railsOut % 256 = 0 ∧ s.therm.bootBad = false ∧ s.flag R.TOP_AON_CTL Fd.TOP_AON_CTL_WAKE_TRIG_EN = true ∧
      s.fld R.TOP_AON_CTL Fd.TOP_AON_CTL_WAKE_TRIG = line) ∧
    (∃ (line : Fin 8) (s : State), s.powered = true ∧ s.mode = .dormant ∧ s.pins.pwrgd = true ∧
      s.pins.railsOut % 256 = 0 ∧ s.therm.bootBad = true ∧ (∃ d, s.pins.bootDue = some d ∧ d ≤ s.clk.now) ∧
      s.flag R.TOP_AON_CTL Fd.TOP_AON_CTL_AUTOBOOT = true ∧ s.clk.phAon = 0 ∧
      s.flag R.TOP_AON_CTL Fd.TOP_AON_CTL_WAKE_TIMER_EN = true ∧ s.reg64 R.TOP_WAKE_TIME_LO ≤ s.clk.time ∧
      s.flag R.TOP_AON_CTL Fd.TOP_AON_CTL_WAKE_TRIG_EN = true ∧ s.fld R.TOP_AON_CTL Fd.TOP_AON_CTL_WAKE_TRIG = line) ∧
    (∃ (alternate : Bool) (s : State), s.powered = true ∧ s.mode = .boot ∧ s.intentBurnt = none ∧
      s.flag R.TOP_MODE Fd.TOP_MODE_BOOT_FAIL = false ∧ s.host.image alternate ≠ 0 ∧
      s.host.otp.fwFloor ≤ s.host.image alternate) ∧
    (∃ (s : State), s.powered = true ∧ s.mode = .boot ∧ s.intentBurnt = none) ∧
    (∃ (x : Nat) (s : State), s.powered = true ∧ s.mode = .boot ∧ s.intentBurnt = some x) ∧
    (∃ (s : State), s.powered = true ∧ s.mode = .sanitise ∧ s.clk.aligned = true ∧ (∃ d, s.memc.wipeDue = some d ∧
      d ≤ s.clk.now)) := by
  refine ⟨?_, ?_, ?_, ?_, ?_, ?_, ?_, ?_⟩
  · exact holdsAt ({ wIn .dormant with clk := { now := 9000000 } }) (by decide +kernel)
  · exact holdsAt ((wIn .dormant).raise R.TOP_AON_CTL Fd.TOP_AON_CTL_WAKE_TIMER_EN) (by decide +kernel)
  · exact ⟨3,
     holdsAt (((wIn .dormant).raise R.TOP_AON_CTL Fd.TOP_AON_CTL_WAKE_TRIG_EN).setFld R.TOP_AON_CTL Fd.TOP_AON_CTL_WAKE_TRIG 3) (by decide +kernel)⟩
  · exact ⟨3,
     holdsAt (((({ wIn .dormant with therm := { bootBad := true }, pins := { bootDue := some 0 } }).raise R.TOP_AON_CTL Fd.TOP_AON_CTL_WAKE_TRIG_EN).raise R.TOP_AON_CTL Fd.TOP_AON_CTL_WAKE_TIMER_EN).setFld R.TOP_AON_CTL Fd.TOP_AON_CTL_WAKE_TRIG 3) (by decide +kernel)⟩
  · exact ⟨false, holdsAt (wIn .boot) (by decide +kernel)⟩
  · exact holdsAt (wIn .boot) (by decide +kernel)
  · exact ⟨2, holdsAt (wBurnt) (by decide +kernel)⟩
  · exact holdsAt ({ wOn .sanitise with memc := { wipeDue := some 0 } }) (by decide +kernel)

/-- The hypotheses of ModeRequests can be met, clause by clause. -/
theorem witness_ModeRequests :
    (∃ (s : State), s.powered = true ∧ s.busy = false ∧ (s.mode = .armed ∨ s.mode = .hold ∨ s.mode = .service)) ∧
    (∃ (s : State), s.powered = true ∧ s.busy = false ∧ s.mode = .keep) ∧
    (∃ (s : State), s.powered = true ∧ s.busy = false ∧ s.mode = .run) ∧
    (∃ (s : State), s.powered = true ∧ s.busy = false ∧ s.mode = .idle ∧ s.patterned = true) ∧
    (∃ (s : State), s.powered = true ∧ s.busy = false ∧ s.mode = .idle) ∧
    (∃ (conv : Bool) (skew : Bool) (survey : Bool) (s : State), s.powered = true ∧ s.busy = false ∧ s.mode = .idle ∧
      s.patterned = true ∧ (conv || skew || survey) = true) ∧
    (∃ (s : State), s.powered = true ∧ s.busy = false ∧ s.mode = .idle ∧ s.patterned = true ∧ s.coherent = true ∧
      (s.fails s.pat.budget s.benchesAsked).isNone = true ∧ (s.memDead = false ∨ s.memc.cacheOnly = true) ∧
      s.therm.rearmOk = true ∧ s.offsetsDue = true) ∧
    (∃ (s : State), s.powered = true ∧ s.busy = false ∧ s.mode = .idle ∧ s.patterned = true ∧ s.coherent = true ∧
      (s.fails s.pat.budget s.benchesAsked).isNone = true ∧ (s.memDead = false ∨ s.memc.cacheOnly = true) ∧
      s.therm.rearmOk = true ∧ s.offsetsDue = false) ∧
    (∃ (s : State), s.powered = true ∧ s.busy = false ∧ s.mode = .hold ∧ s.patterned = true ∧ s.coherent = true ∧
      (s.fails s.pat.budget s.benchesAsked).isNone = true ∧ (s.memDead = false ∨ s.memc.cacheOnly = true) ∧
      s.therm.rearmOk = true) ∧
    (∃ (s : State), s.powered = true ∧ s.busy = false ∧ s.mode = .keep ∧ s.patterned = true ∧ s.coherent = true ∧
      (s.fails s.pat.budget s.benchesAsked).isNone = true ∧ (s.memDead = false ∨ s.memc.cacheOnly = true) ∧
      s.therm.rearmOk = true) ∧
    (∃ (s : State), s.powered = true ∧ s.busy = false ∧ s.mode = .run) ∧
    (∃ (s : State), s.powered = true ∧ s.busy = false ∧ s.mode = .armed ∧ s.hold = none) ∧
    (∃ (s : State), s.powered = true ∧ s.inTransit = false ∧ s.mode = .run) ∧
    (∃ (s : State), s.powered = true ∧ s.busy = false ∧ (s.mode = .idle ∨ s.mode = .hold)) ∧
    (∃ (s : State), s.powered = true ∧ s.busy = false ∧ s.mode = .run) ∧
    (∃ (s : State), s.powered = true ∧ s.inTransit = true) ∧
    (∃ (h : HoldReq) (s : State), s.powered = true ∧ s.hold = some h ∧ (h.shed = true ∨ h.budget = true)) ∧
    (∃ (s : State), s.powered = true ∧ s.busy = false) ∧
    (∃ (s : State), s.powered = true ∧ s.busy = false ∧ s.patterned = false) ∧
    (∃ (s : State), s.powered = true ∧ s.busy = false ∧ (s.mode = .idle ∨ s.mode = .keep ∨ s.mode = .hold) ∧
      s.patterned = true ∧ s.coherent = false) ∧
    (∃ (s : State), s.powered = true ∧ s.busy = false ∧ (s.mode = .idle ∨ s.mode = .keep ∨ s.mode = .hold) ∧
      s.patterned = true ∧ s.coherent = true ∧ ((s.fails s.pat.budget s.benchesAsked).isSome = true ∨
      s.memDead = true ∧ s.memc.cacheOnly = false)) ∧
    (∃ (s : State), s.powered = true ∧ s.busy = false ∧ (s.mode = .idle ∨ s.mode = .keep ∨ s.mode = .hold) ∧
      s.patterned = true ∧ s.coherent = true ∧ (s.fails s.pat.budget s.benchesAsked).isNone = true ∧
      (s.memDead = false ∨ s.memc.cacheOnly = true) ∧ s.therm.rearmOk = false) := by
  refine ⟨?_, ?_, ?_, ?_, ?_, ?_, ?_, ?_, ?_, ?_, ?_, ?_, ?_, ?_, ?_, ?_, ?_, ?_, ?_, ?_, ?_, ?_⟩
  · exact holdsAt (wIn .armed) (by decide +kernel)
  · exact holdsAt (wIn .keep) (by decide +kernel)
  · exact holdsAt (wOn .run) (by decide +kernel)
  · exact holdsAt ((wIn .idle).wPat) (by decide +kernel)
  · exact holdsAt (wIn .idle) (by decide +kernel)
  · exact ⟨true, false, true, holdsAt ((wIn .idle).wPat) (by decide +kernel)⟩
  · exact holdsAt ((wIn .idle).wOffsets.wPat.wCoh) (by decide +kernel)
  · exact holdsAt ((wIn .idle).wPat.wCoh) (by decide +kernel)
  · exact holdsAt ((wOn .hold).wPat.wCoh) (by decide +kernel)
  · exact holdsAt ((wIn .keep).wPat.wCoh) (by decide +kernel)
  · exact holdsAt (wOn .run) (by decide +kernel)
  · exact holdsAt (wOn .armed) (by decide +kernel)
  · exact holdsAt ((wOn .run).wBench 2) (by decide +kernel)
  · exact holdsAt (wIn .idle) (by decide +kernel)
  · exact holdsAt (wOn .run) (by decide +kernel)
  · exact holdsAt ({ wIn .idle with transit := some { src := .idle, dst := .keep, kind := .timed, due := 3000 } })
      (by decide +kernel)
  · exact ⟨{ shed := true }, holdsAt ({ wOn .run with hold := some { shed := true } }) (by decide +kernel)⟩
  · exact holdsAt (wIn .idle) (by decide +kernel)
  · exact holdsAt (wIn .idle) (by decide +kernel)
  · exact holdsAt ((wIn .idle).wPat) (by decide +kernel)
  · exact holdsAt ((wIn .idle).wShort.wPat.wCoh) (by decide +kernel)
  · exact holdsAt (({ wIn .idle with therm := { rearmOk := false } }).wPat.wCoh) (by decide +kernel)

/-- The hypotheses of ModeChanges can be met, clause by clause. -/
theorem witness_ModeChanges :
    (∃ (s : State) (x : Transit), s.powered = true ∧ s.transit = some x ∧ x.kind = .timed ∧ x.due ≤ s.clk.now ∧
      x.dst = .idle) ∧
    (∃ (s : State) (x : Transit), s.powered = true ∧ s.transit = some x ∧ x.kind = .timed ∧ x.due ≤ s.clk.now ∧
      x.dst = .keep) ∧
    (∃ (s : State) (x : Transit), s.powered = true ∧ s.transit = some x ∧ x.kind = .timed ∧ x.due ≤ s.clk.now ∧
      x.dst = .trim ∧ s.clk.aligned = true) ∧
    (∃ (s : State) (x : Transit), s.powered = true ∧ s.transit = some x ∧ x.kind = .timed ∧ x.due ≤ s.clk.now ∧
      x.dst = .service ∧ s.clk.aligned = true) ∧
    (∃ (s : State) (x : Transit), s.powered = true ∧ s.transit = some x ∧ x.kind = .timed ∧ x.due ≤ s.clk.now ∧
      x.dst = .dormant) ∧
    (∃ (s : State) (x : Transit), s.powered = true ∧ s.transit = some x ∧ x.kind = .offsets ∧ x.due ≤ s.clk.now) ∧
    (∃ (s : State) (x : Transit), s.powered = true ∧ s.transit = some x ∧ x.kind = .armedEntry ∧ x.due ≤ s.clk.now ∧
      (x.src = .hold ∨ s.clk.phRef = 0 ∧ s.clk.refclk = true ∧ s.clk.core = true ∧ s.clk.snapPend = false) ∧
      (s.fails s.pat.budget s.benchesAsked).isNone = true) ∧
    (∃ (s : State) (x : Transit), s.powered = true ∧ s.transit = some x ∧ x.kind = .armedEntry ∧ x.due ≤ s.clk.now ∧
      (x.src = .hold ∨ x.src = .idle ∧ s.clk.phRef = 0 ∧ s.clk.refclk = true ∧ s.clk.core = true ∧
      s.clk.snapPend = false) ∧ (s.fails s.pat.budget s.benchesAsked).isSome = true) ∧
    (∃ (s : State) (x : Transit), s.powered = true ∧ s.transit = some x ∧ x.kind = .keepExit false ∧
      x.due ≤ s.clk.now) ∧
    (∃ (s : State) (x : Transit), s.powered = true ∧ s.transit = some x ∧ x.kind = .keepExit true ∧ x.due ≤ s.clk.now) ∧
    (∃ (s : State) (x : Transit), s.powered = true ∧ s.transit = some x ∧ x.kind = .keepExit true ∧ x.due ≤ s.clk.now) ∧
    (∃ (s : State), s.powered = true ∧ s.trimReady = true) ∧
    (∃ (s : State), s.powered = true ∧ s.mode = .armed ∧ s.inTransit = false ∧ (∃ b < 8, s.benchOn b = true) ∧
      (∀ b < 8, s.benchOn b = true → (s.benchSt b).firstStrobe = true)) ∧
    (∃ (s : State) (h : HoldReq), s.powered = true ∧ s.mode = .run ∧ s.transit = none ∧ s.hold = some h ∧
      s.allReached h = true) := by
  refine ⟨?_, ?_, ?_, ?_, ?_, ?_, ?_, ?_, ?_, ?_, ?_, ?_, ?_, ?_⟩
  · exact ⟨{ wOn .hold with transit := some { src := .run, dst := .idle, kind := .timed, due := 3000 } },
     { src := .run, dst := .idle, kind := .timed, due := 3000 }, by decide +kernel⟩
  · exact ⟨{ wOn .idle with transit := some { src := .idle, dst := .keep, kind := .timed, due := 3000 } },
     { src := .idle, dst := .keep, kind := .timed, due := 3000 }, by decide +kernel⟩
  · exact ⟨{ wOn .idle with transit := some { src := .idle, dst := .trim, kind := .timed, due := 3000 } },
     { src := .idle, dst := .trim, kind := .timed, due := 3000 }, by decide +kernel⟩
  · exact ⟨{ wOn .idle with transit := some { src := .idle, dst := .service, kind := .timed, due := 3000 } },
     { src := .idle, dst := .service, kind := .timed, due := 3000 }, by decide +kernel⟩
  · exact ⟨{ wOn .idle with transit := some { src := .idle, dst := .dormant, kind := .timed, due := 3000 } },
     { src := .idle, dst := .dormant, kind := .timed, due := 3000 }, by decide +kernel⟩
  · exact ⟨{ wOn .idle with transit := some { src := .idle, dst := .armed, kind := .offsets, due := 3000 } },
     { src := .idle, dst := .armed, kind := .offsets, due := 3000 }, by decide +kernel⟩
  · exact ⟨{ wOn .hold with transit := some { src := .hold, dst := .armed, kind := .armedEntry, due := 3000 } },
     { src := .hold, dst := .armed, kind := .armedEntry, due := 3000 }, by decide +kernel⟩
  · exact ⟨({ wOn .hold with transit := some { src := .hold, dst := .armed, kind := .armedEntry, due := 3000 } }).wShort,
     { src := .hold, dst := .armed, kind := .armedEntry, due := 3000 }, by decide +kernel⟩
  · exact ⟨{ wOn .keep with transit := some { src := .keep, dst := .idle, kind := .keepExit false, due := 3000 } },
     { src := .keep, dst := .idle, kind := .keepExit false, due := 3000 }, by decide +kernel⟩
  · exact ⟨{ wOn .keep with transit := some { src := .keep, dst := .armed, kind := .keepExit true, due := 3000 } },
     { src := .keep, dst := .armed, kind := .keepExit true, due := 3000 }, by decide +kernel⟩
  · exact ⟨{ wOn .keep with transit := some { src := .keep, dst := .armed, kind := .keepExit true, due := 3000 } },
     { src := .keep, dst := .armed, kind := .keepExit true, due := 3000 }, by decide +kernel⟩
  · exact holdsAt ({ wOn .trim with trim := { conv := true } }) (by decide +kernel)
  · exact holdsAt (((wOn .armed).wBench 2).onBench 2 fun x => { x with firstStrobe := true }) (by decide +kernel)
  · exact ⟨{ (wOn .run).wBench 2 with hold := some { reached := 4 } }, { reached := 4 }, by decide +kernel⟩

/-- The hypotheses of StoppedForemenAtBoundary can be met, clause by clause. -/
theorem witness_StoppedForemenAtBoundary :
    (∃ (s : State) (h : HoldReq), s.powered = true ∧ s.mode = .run ∧ s.hold = some h ∧ (∀ b < 8, s.benchOn b = true →
      bitAt h.reached b = true ∨ (s.fm b).st = .done ∨ (s.fm b).st = .fault)) ∧
    (∃ (s : State) (h : HoldReq) (b : Fin 8), s.powered = true ∧ s.mode = .run ∧ s.hold = some h ∧
      s.benchOn b = true ∧ bitAt h.reached b = false ∧ (s.fm b).st ≠ .done ∧ (s.fm b).st ≠ .fault) := by
  refine ⟨?_, ?_⟩
  · exact ⟨{ (wOn .run).wBench 2 with hold := some { reached := 4 } }, { reached := 4 }, by decide +kernel⟩
  · exact ⟨{ (wOn .run).wBench 2 with hold := some { reached := 2 } }, { reached := 2 }, 2, by decide +kernel⟩

/-- The hypotheses of PatternLoads can be met, clause by clause. -/
theorem witness_PatternLoads :
    (∃ (s : State), s.powered = true ∧ s.inTransit = false ∧ s.mode = .idle) ∧
    (∃ (s : State), s.powered = true ∧ s.inTransit = false ∧ (s.mode = .idle ∨ s.mode = .hold)) ∧
    (∃ (s : State), s.powered = true ∧ s.inTransit = false ∧ s.mode ≠ .idle ∧ s.mode ≠ .hold) ∧
    (∃ (l : Load) (s : State), s.powered = true ∧ s.load = some l ∧ l.phase = .check) ∧
    (∃ (s : State), s.powered = true ∧ (∀ l, s.load = some l → l.phase = .apply)) ∧
    (∃ (l : Load) (s : State), s.powered = true ∧ s.load = some l ∧ l.phase = .check ∧
      s.checkHead l (s.image l.src l.len) ≠ 0) ∧
    (∃ (c : CheckResult) (l : Load) (s : State), s.powered = true ∧ s.load = some l ∧ l.phase = .check ∧
      s.checkHead l (s.image l.src l.len) = 0 ∧ (s.checkCrypto (s.image l.src l.len) c).1 ≠ 0) ∧
    (∃ (c : CheckResult) (l : Load) (s : State) (d : State) (x : Image), s.powered = true ∧ s.load = some l ∧
      l.phase = .check ∧ x = s.image l.src l.len ∧ s.checkHead l x = 0 ∧ (s.checkCrypto x c).1 = 0 ∧
      d = s.decrypted x c ∧ (d.checkStructure (d.staged_ x) l x).1 = 0 ∧ (d.checkScope x).1 = 0 ∧
      (d.staged_ x).miscounts x (d.budgetRec x) = false ∧
      ((d.staged_ x).fails (d.budgetRec x) (d.loadMask (d.staged_ x) x)).isNone = true) ∧
    (∃ (l : Load) (s : State), s.powered = true ∧ s.load = some l ∧ l.phase = .check) ∧
    (∃ (l : Load) (s : State), s.powered = true ∧ s.load = some l ∧ l.phase = .apply ∧
      (s.image l.src l.len).overlay = false ∧ l.overlay = false ∧ l.heldReset = 0) ∧
    (∃ (l : Load) (s : State), s.powered = true ∧ s.load = some l ∧ l.phase = .apply ∧
      (s.image l.src l.len).overlay = false ∧ l.overlay = false ∧ l.heldReset = 0) ∧
    (∃ (l : Load) (s : State), s.powered = true ∧ s.load = some l ∧ l.phase = .apply ∧
      (s.image l.src l.len).overlay = true ∧ l.overlay = true ∧ l.heldReset = 0) ∧
    (∃ (j : Fin 256) (l : Load) (s : State), s.powered = true ∧ s.load = some l ∧ l.phase = .apply ∧
      (s.image l.src l.len).overlay = true ∧ l.overlay = true ∧
      ((s.image l.src l.len).secs.any fun y => y.idx == j.val && scopeB y.typ) = true ∧ l.heldReset = 0) ∧
    (∃ (who : Who) (b : Fin 8) (l : Load) (s : State), s.powered = true ∧ s.reaches who = true ∧ s.mode = .hold ∧
      s.load = some l ∧ l.overlay = true ∧ (s.image l.src l.len).touched.contains b.val = true) := by
  refine ⟨?_, ?_, ?_, ?_, ?_, ?_, ?_, ?_, ?_, ?_, ?_, ?_, ?_, ?_⟩
  · exact holdsAt (wIn .idle) (by decide +kernel)
  · exact holdsAt (wIn .idle) (by decide +kernel)
  · exact holdsAt (wIn .run) (by decide +kernel)
  · exact ⟨loadA true .check, holdsAt (wLoad .check) (by decide +kernel)⟩
  · exact holdsAt (wLoad .apply) (by decide +kernel)
  · exact ⟨loadA false .check, holdsAt ({ wIn .pattern with load := some (loadA false .check) }) (by decide +kernel)⟩
  · exact ⟨{ signer := .none_, badTag := none, plain := [] }, loadA true .check,
     holdsAt (wLoad .check) (by decide +kernel)⟩
  · exact ⟨{ signer := .henileo, badTag := none, plain := [] }, loadA true .check, wLoad .check,
     (wLoad .check).decrypted ((wLoad .check).image 0x1000 0x280) { signer := .henileo, badTag := none, plain := [] },
     (wLoad .check).image 0x1000 0x280, by decide +kernel⟩
  · exact ⟨loadA true .check, holdsAt (wLoad .check) (by decide +kernel)⟩
  · exact ⟨{overlay:=false, phase:=.apply, src:=0x10000, len:=4096},
     holdsAt ({ wIn .pattern with load := some {overlay:=false, phase:=.apply, src:=0x10000, len:=4096} })
         (by decide +kernel)⟩
  · exact ⟨{overlay:=false, phase:=.apply, src:=4096, len:=4096},
     holdsAt ({ wIn .pattern with load := some {overlay:=false, phase:=.apply, src:=4096, len:=4096} })
         (by decide +kernel)⟩
  · exact ⟨loadA true .apply, holdsAt (wLoad .apply) (by decide +kernel)⟩
  · exact ⟨1, loadA true .apply, holdsAt ((wLoad .apply).wBenchImage) (by decide +kernel)⟩
  · exact ⟨.porter, 3, loadA true .check, holdsAt ({ (wLoad .check).wBenchImage with mode := .hold })
      (by decide +kernel)⟩

/-- The hypotheses of EpochAndEchoCommands can be met, clause by clause. -/
theorem witness_EpochAndEchoCommands :
    (∃ (s : State), s.powered = true ∧ s.clk.refclk = true ∧ s.clk.phRef = 0) ∧
    (∃ (s : State) (c : EpochCap) (rest : List EpochCap), s.time.epoch = c :: rest ∧ c.loadAt = s.clk.now + 30 ∧
      c.arrival < 10000) ∧
    (∃ (s : State) (c : EpochCap) (rest : List EpochCap), s.powered = true ∧ s.time.epoch = c :: rest ∧
      c.loadAt ≤ s.clk.now ∧ s.clk.refclk = true ∧ s.clk.phRef = 0 ∧
      s.flag R.TIME_EPOCH_CTL Fd.TIME_EPOCH_CTL_ARM = true) ∧
    (∃ (s : State) (c : EpochCap) (rest : List EpochCap), s.powered = true ∧ s.time.epoch = c :: rest ∧
      c.loadAt ≤ s.clk.now ∧ s.clk.refclk = true ∧ s.clk.phRef = 0 ∧
      s.flag R.TIME_EPOCH_CTL Fd.TIME_EPOCH_CTL_ARM = false) ∧
    (∃ (s : State), s.powered = true ∧ s.epochChecks = true ∧ 30 ≤ s.clk.time ∧ s.epochOff (s.clk.time - 30) = 0 ∧
      (∀ e, s.time.lastEdge = some e → e + 30 < s.clk.time - 30 ∨ s.clk.time < e) ∧
      s.time.missed ≠ s.clk.time - 30 + 1) ∧
    (∃ (who : Who) (s : State), s.powered = true ∧ s.reaches who = true) ∧
    (∃ (who : Who) (v : Word) (s : State), s.powered = true ∧ s.reaches who = true ∧ (s.mode = .trim ∨
      s.mode = .service) ∧ bitAt v.toNat 8 = true ∧ s.time.echo = none ∧ bitsOf v.toNat 0 4 < 14 ∧
      (s.port (bitsOf v.toNat 0 4)).up = true) ∧
    (∃ (who : Who) (v : Word) (s : State), s.powered = true ∧ s.reaches who = true ∧ (s.mode = .trim ∨
      s.mode = .service) ∧ bitAt v.toNat 8 = true ∧ s.time.echo = none ∧ (14 ≤ bitsOf v.toNat 0 4 ∨
      (s.port (bitsOf v.toNat 0 4)).up = false)) ∧
    (∃ (who : Who) (v : Word) (s : State), s.powered = true ∧ s.reaches who = true ∧ s.mode ≠ .trim ∧
      s.mode ≠ .service ∧ bitAt v.toNat 8 = true) ∧
    (∃ (s : State), s.powered = true ∧ (s.mode = .trim ∨ s.mode = .service)) ∧
    (∃ (s : State), s.powered = true ∧ s.mode ≠ .trim ∧ s.mode ≠ .service) ∧
    (∃ (p : Fin 14) (e : Echo) (s : State), s.powered = true ∧ s.time.echo = some e ∧ e.port = p ∧
      e.got + 1 < 2 ^ e.count) ∧
    (∃ (p : Fin 14) (e : Echo) (s : State), s.powered = true ∧ s.time.echo = some e ∧ e.port = p ∧
      2 ^ e.count ≤ e.got + 1 ∧ s.trim.ports = 0) ∧
    (∃ (e : Echo) (s : State), s.powered = true ∧ s.time.echo = some e ∧ e.due ≤ s.clk.now ∧ s.trim.ports = 0) ∧
    (∃ (p : Fin 14) (q : Fin 14) (e : Echo) (s : State), s.powered = true ∧ s.time.echo = some e ∧ e.port = p ∧
      2 ^ e.count ≤ e.got + 1 ∧ e.due ≤ s.clk.now ∧ s.trim.ports = 2 ^ q.val ∧ (s.port q).up = true) := by
  refine ⟨?_, ?_, ?_, ?_, ?_, ?_, ?_, ?_, ?_, ?_, ?_, ?_, ?_, ?_, ?_⟩
  · exact holdsAt (wIn .armed) (by decide +kernel)
  · exact ⟨({ wOn .armed with time := { State.reset.time with epoch := [{loadAt:=6030, arrival := 9999, armed:=true}] } }),
     {loadAt:=6030, arrival := 9999, armed:=true}, [], by decide +kernel⟩
  · exact ⟨({ wOn .armed with time := { State.reset.time with epoch := [{loadAt:=6000, arrival := 9, armed:=true}] } }).raise R.TIME_EPOCH_CTL Fd.TIME_EPOCH_CTL_ARM,
     {loadAt:=6000, arrival := 9, armed:=true}, [], by decide +kernel⟩
  · exact ⟨({ wOn .run with time := { State.reset.time with epoch := [{loadAt:=6000, arrival := 9, armed:=true}] } }),
     {loadAt:=6000, arrival := 9, armed:=true}, [], by decide +kernel⟩
  · exact holdsAt ((wOn .run).wChecks 1) (by decide +kernel)
  · exact ⟨.porter, holdsAt (wOn .idle) (by decide +kernel)⟩
  · exact ⟨.porter, 0x101, holdsAt ((wOn .trim).wPort 1) (by decide +kernel)⟩
  · exact ⟨.porter, 0x101, holdsAt (wOn .trim) (by decide +kernel)⟩
  · exact ⟨.porter, 0x100, holdsAt (wOn .run) (by decide +kernel)⟩
  · exact holdsAt (wOn .trim) (by decide +kernel)
  · exact holdsAt (wOn .run) (by decide +kernel)
  · exact ⟨3, {port:=3, count:=3, got:=2, due:=9000},
     holdsAt ({ wOn .trim with time := { State.reset.time with echo := some {port:=3, count:=3, got:=2, due:=9000} } }) (by decide +kernel)⟩
  · exact ⟨3, {port:=3, count:=0, got:=0, due:=9000},
     holdsAt ({ wOn .trim with time := { State.reset.time with echo := some {port:=3, count:=0, got:=0, due:=9000} } }) (by decide +kernel)⟩
  · exact ⟨{port:=3, count:=0, got:=0, due:=6000},
     holdsAt ({ wOn .trim with time := { State.reset.time with echo := some {port:=3, count:=0, got:=0, due:=6000} } }) (by decide +kernel)⟩
  · exact ⟨3, 5, {port:=3, count:=0, got:=0, due:=6000},
     holdsAt (({ wOn .trim with time := { State.reset.time with echo := some {port:=3, count:=0, got:=0, due:=6000} }, trim := { ports := 32 } } : State).wPort 5) (by decide +kernel)⟩

/-- The hypotheses of TrimsAndTriggers can be met, clause by clause. -/
theorem witness_TrimsAndTriggers :
    (∃ (s : State), s.powered = true) ∧
    (∃ (s : State), s.powered = true) ∧
    (∃ (k : Fin 8) (falling : Bool) (frac : Fin 16) (a : Nat) (x : Int) (s : State), s.powered = true ∧
      s.flag (R.TIME_TRIG_CTL k) Fd.TIME_TRIG_CTL_OUT = false ∧ s.trigSelects k falling = true ∧
      (NMap.get (fun _ => 0) s.time.trigLast k = 0 ∨
      NMap.get (fun _ => 0) s.time.trigLast k + 64 ≤ 16 * s.clk.now + frac.val + 1) ∧
      a = (if s.clk.core && s.clk.aligned then 16 * s.clk.time + frac.val else 16 * (if s.clk.phRef = 0 && frac.val =
      0 then s.clk.time else s.timeNextEdge)) ∧
      x = Int.ofNat a - s.time.trimNow - Int.ofNat (s.fld (R.TIME_TRIG_CTL k) Fd.TIME_TRIG_CTL_DLY)) ∧
    (∃ (k : Fin 8) (falling : Bool) (frac : Fin 16) (s : State), s.powered = true ∧
      s.flag (R.TIME_TRIG_CTL k) Fd.TIME_TRIG_CTL_OUT = false ∧ s.trigSelects k falling = true ∧
      NMap.get (fun _ => 0) s.time.trigLast k ≠ 0 ∧
      16 * s.clk.now + frac + 1 < NMap.get (fun _ => 0) s.time.trigLast k + 64) ∧
    (∃ (k : Fin 8) (falling : Bool) (s : State), s.powered = true ∧
      (s.flag (R.TIME_TRIG_CTL k) Fd.TIME_TRIG_CTL_OUT = true ∨ s.trigSelects k falling = false)) ∧
    (∃ (k : Fin 8) (e : TrigEdge) (before : List TrigEdge) (rest : List TrigEdge) (s : State), s.powered = true ∧
      s.time.trigQ = before ++ e :: rest ∧ (before.all fun x => x.line != k.val) = true ∧ e.line = k ∧
      e.at16 < Int.ofNat (16 * (s.clk.time + 1))) ∧
    (∃ (k : Fin 8) (s : State), s.powered = true ∧ s.flag (R.TIME_TRIG_CTL k) Fd.TIME_TRIG_CTL_OUT = true) := by
  refine ⟨?_, ?_, ?_, ?_, ?_, ?_, ?_⟩
  · exact holdsAt (wOn .trim) (by decide +kernel)
  · exact holdsAt (wOn .trim) (by decide +kernel)
  · exact ⟨7, false, 15,
     (if ((((wOn .run).setFld (R.TIME_TRIG_CTL 7) Fd.TIME_TRIG_CTL_EDGE 0))).clk.core && ((((wOn .run).setFld (R.TIME_TRIG_CTL 7) Fd.TIME_TRIG_CTL_EDGE 0))).clk.aligned then 16 * ((((wOn .run).setFld (R.TIME_TRIG_CTL 7) Fd.TIME_TRIG_CTL_EDGE 0))).clk.time + 15 else 16 * (if ((((wOn .run).setFld (R.TIME_TRIG_CTL 7) Fd.TIME_TRIG_CTL_EDGE 0))).clk.phRef = 0 && 15 = 0 then ((((wOn .run).setFld (R.TIME_TRIG_CTL 7) Fd.TIME_TRIG_CTL_EDGE 0))).clk.time else ((((wOn .run).setFld (R.TIME_TRIG_CTL 7) Fd.TIME_TRIG_CTL_EDGE 0))).timeNextEdge)),
     Int.ofNat ((if ((((wOn .run).setFld (R.TIME_TRIG_CTL 7) Fd.TIME_TRIG_CTL_EDGE 0))).clk.core && ((((wOn .run).setFld (R.TIME_TRIG_CTL 7) Fd.TIME_TRIG_CTL_EDGE 0))).clk.aligned then 16 * ((((wOn .run).setFld (R.TIME_TRIG_CTL 7) Fd.TIME_TRIG_CTL_EDGE 0))).clk.time + 15 else 16 * (if ((((wOn .run).setFld (R.TIME_TRIG_CTL 7) Fd.TIME_TRIG_CTL_EDGE 0))).clk.phRef = 0 && 15 = 0 then ((((wOn .run).setFld (R.TIME_TRIG_CTL 7) Fd.TIME_TRIG_CTL_EDGE 0))).clk.time else ((((wOn .run).setFld (R.TIME_TRIG_CTL 7) Fd.TIME_TRIG_CTL_EDGE 0))).timeNextEdge))) - (((wOn .run).setFld (R.TIME_TRIG_CTL 7) Fd.TIME_TRIG_CTL_EDGE 0)).time.trimNow - Int.ofNat ((((wOn .run).setFld (R.TIME_TRIG_CTL 7) Fd.TIME_TRIG_CTL_EDGE 0)).fld (R.TIME_TRIG_CTL 7) Fd.TIME_TRIG_CTL_DLY),
     holdsAt (((wOn .run).setFld (R.TIME_TRIG_CTL 7) Fd.TIME_TRIG_CTL_EDGE 0)) (by decide +kernel)⟩
  · exact ⟨7, false, 15,
     holdsAt ({ wOn .run with time := { State.reset.time with trigLast := NMap.set (fun _ => 0) [] 7 96000 } })
         (by decide +kernel)⟩
  · exact ⟨7, true, holdsAt ((wOn .run).setFld (R.TIME_TRIG_CTL 7) Fd.TIME_TRIG_CTL_EDGE 0) (by decide +kernel)⟩
  · exact ⟨2, {line:=2, at16:=48000, level:=true}, [{line:=3, at16:=58000, level:=true}], [],
     holdsAt ({ wOn .run with time := { State.reset.time with trigQ := [{line:=3, at16:=58000, level:=true}, {line:=2, at16:=48000, level:=true}] } }.raise (R.TIME_TRIG_CTL 2) Fd.TIME_TRIG_CTL_OUT) (by decide +kernel)⟩
  · exact ⟨7, holdsAt ((wOn .run).raise (R.TIME_TRIG_CTL 7) Fd.TIME_TRIG_CTL_OUT) (by decide +kernel)⟩

/-- The hypotheses of ReferenceCommands can be met, clause by clause. -/
theorem witness_ReferenceCommands :
    (∃ (cause : LossCause) (s : State), s.powered = true ∧ s.lossSeen cause = true ∧ s.clk.time < 2 ^ 64) ∧
    (∃ (cause : LossCause) (s : State), s.powered = true ∧ s.lossSeen cause = false) ∧
    (∃ (core : Bool) (s : State), s.powered = true ∧ (if core then s.clk.core else s.clk.conv) = true ∧
      s.clk.time < 2 ^ 64) ∧
    (∃ (s : State), s.powered = true ∧ s.clk.core = true ∧ s.clk.aligned = true ∧ s.clk.refclk = true) ∧
    (∃ (core : Bool) (s : State), s.powered = true ∧ (if core then s.clk.core else s.clk.conv) = false) ∧
    (∃ (s : State), s.powered = true ∧ s.clk.refclk = false ∧ s.clk.lostAt + 1024 * 120 ≤ s.clk.now ∧
      s.clk.time + 30 < 2 ^ 64) ∧
    (∃ (s : State), s.powered = true ∧ (s.clk.refclk = true ∨ s.clk.now < s.clk.lostAt + 1024 * 120)) ∧
    (∃ (s : State), s.powered = true ∧ s.clk.core = true ∧ s.clk.aligned = false ∧ s.clk.refclk = true ∧
      s.clk.snapPend = false ∧ s.clk.phRef = 0 ∧ (∀ x, s.transit = some x → x.kind ≠ .armedEntry ∨ x.src = .hold)) := by
  refine ⟨?_, ?_, ?_, ?_, ?_, ?_, ?_, ?_⟩
  · exact ⟨.noEdge 5, holdsAt (((wOn .run).wCoh).wBench 2) (by decide +kernel)⟩
  · exact ⟨.noEdge 4, holdsAt (wOn .run) (by decide +kernel)⟩
  · exact ⟨true, holdsAt (wOn .run) (by decide +kernel)⟩
  · exact holdsAt (wOn .run) (by decide +kernel)
  · exact ⟨true, holdsAt (wIn .idle) (by decide +kernel)⟩
  · exact holdsAt ({ (wOn .hold).wRefclk false with clk := { ((wOn .hold).wRefclk false).clk with now := 122880, lostAt := 0 } }) (by decide +kernel)
  · exact holdsAt ((wOn .hold).wRefclk false) (by decide +kernel)
  · exact holdsAt ((wOn .idle).wAlign) (by decide +kernel)

/-- The hypotheses of ClockInvariantKept can be met, clause by clause. -/
theorem witness_ClockInvariantKept :
    (∃ (s : State) (t : State), s.clk.ok ∧ s.clk.time + 30 < 2 ^ 64 ∧ s.reg64 R.TIME_EPOCH_LOAD_LO % 30 = 0 ∧
      step s = .next t) :=
  ⟨wOn .run, nextOf (wOn .run), by decide +kernel, by decide +kernel, by decide +kernel, rfl⟩

/-- The hypotheses of DescriptorWrites can be met, clause by clause. -/
theorem witness_DescriptorWrites :
    (∃ (who : Who) (id : BitVec 20) (s : State), s.powered = true ∧ s.dataOpen who = true ∧ s.memServes = true ∧
      who ≠ .jtag ∧ s.segActive id.toNat = false) ∧
    (∃ (who : Who) (id : BitVec 20) (s : State), s.powered = true ∧ s.dataOpen who = true ∧ s.memServes = true ∧
      who ≠ .jtag ∧ s.segActive id.toNat = true) ∧
    (∃ (who : Who) (k : Fin 4) (s : State), s.powered = true ∧ s.dataOpen who = true ∧ s.memServes = true ∧
      who ≠ .jtag ∧ k.val < 3) ∧
    (∃ (who : Who) (id : BitVec 20) (old : List Nat) (s : State), s.powered = true ∧ s.dataOpen who = true ∧
      s.memServes = true ∧ who ≠ .jtag ∧ s.segActive id.toNat = false ∧
      ((s.descStage who).ids.all (· == id.toNat)) = true ∧
      old = ((List.range 3).map fun i => if NMap.get (fun _ => 0x100000000) (s.descStage who).words i = 0x100000000
      then dWord (s.segWords id.toNat) i else NMap.get (fun _ => 0x100000000) (s.descStage who).words i % 2 ^ 32)) ∧
    (∃ (who : Who) (id : BitVec 20) (other : Nat) (s : State), s.powered = true ∧ s.dataOpen who = true ∧
      s.memServes = true ∧ who ≠ .jtag ∧ other ∈ (s.descStage who).ids ∧ other ≠ id.toNat) ∧
    (∃ (who : Who) (first : Fin 4) (ws : List Word) (s : State), s.powered = true ∧ s.dataOpen who = true ∧
      (who = .jtag ∨ ws.length ≠ 1 ∧ (ws.length ≠ 2 ∨ first.val % 2 = 1) ∧ (ws.length ≠ 4 ∨ first ≠ 0))) ∧
    (∃ (s : State), s.powered = true) ∧
    (∃ (v : Word) (s : State), s.powered = true ∧ s.segs.retiring.contains (bitsOf v.toNat 0 20) = true) ∧
    (∃ (v : Word) (s : State), s.powered = true ∧ s.segs.retiring.contains (bitsOf v.toNat 0 20) = false ∧
      (dResident (s.segWords (bitsOf v.toNat 0 20)) = true ∨ s.aliased (bitsOf v.toNat 0 20) = true)) ∧
    (∃ (v : Word) (s : State), s.powered = true ∧ s.segs.retiring.contains (bitsOf v.toNat 0 20) = false ∧
      dResident (s.segWords (bitsOf v.toNat 0 20)) = false ∧ s.aliased (bitsOf v.toNat 0 20) = false) ∧
    (∃ (id : Nat) (s : State), s.powered = true ∧ (s.segs.retiring.find? fun i => !s.segActive i) = some id ∧
      id < 2 ^ 20) := by
  refine ⟨?_, ?_, ?_, ?_, ?_, ?_, ?_, ?_, ?_, ?_, ?_⟩
  · exact ⟨.cores, 5, holdsAt ((wOn .idle).wUp) (by decide +kernel)⟩
  · exact ⟨.host, 5, holdsAt ((((wOn .run).wUp).setSeg 5 segA).wQueue 1 2 0 [playA]) (by decide +kernel)⟩
  · exact ⟨.cores, 2, holdsAt ((wOn .idle).wUp) (by decide +kernel)⟩
  · exact ⟨.host, 5,
     (List.range 3).map fun i => if NMap.get (fun _ => 0x100000000) (((((wOn .idle).wUp).setSeg 5 segA).setDescStage .host { ids := [5], words := [(0, 77), (1, 12)] }).descStage .host).words i = 0x100000000 then dWord (((((wOn .idle).wUp).setSeg 5 segA).setDescStage .host { ids := [5], words := [(0, 77), (1, 12)] }).segWords 5) i else NMap.get (fun _ => 0x100000000) (((((wOn .idle).wUp).setSeg 5 segA).setDescStage .host { ids := [5], words := [(0, 77), (1, 12)] }).descStage .host).words i % 2 ^ 32,
     holdsAt ((((wOn .idle).wUp).setSeg 5 segA).setDescStage .host { ids := [5], words := [(0, 77), (1, 12)] })
         (by decide +kernel)⟩
  · exact ⟨.host, 5, 6, holdsAt (((wOn .idle).wUp).setDescStage .host { ids := [6] }) (by decide +kernel)⟩
  · exact ⟨.jtag, 0, [1, 2, 3, 4], holdsAt (wOn .idle) (by decide +kernel)⟩
  · exact holdsAt (wOn .run) (by decide +kernel)
  · exact ⟨5, holdsAt ((wOn .run).wRetiring 5) (by decide +kernel)⟩
  · exact ⟨5, holdsAt ((wOn .idle).setSeg 5 [0x400, 10, 0, 0x82000028]) (by decide +kernel)⟩
  · exact ⟨5, holdsAt ((wOn .idle).setSeg 5 segA) (by decide +kernel)⟩
  · exact ⟨5, holdsAt ((wOn .run).wRetiring 5) (by decide +kernel)⟩

/-- The hypotheses of SegmentTraffic can be met, clause by clause. -/
theorem witness_SegmentTraffic :
    (∃ (who : Who) (a : BitVec 34) (bytes : List Byte) (s : State), s.powered = true ∧ s.dataOpen who = true ∧
      s.memServes = true ∧ bytes ≠ [] ∧ s.memRefuses who a.toNat bytes.length = false ∧
      (s.inStaging a.toNat bytes.length = false ∨ who = .porter ∨ who = .jtag) ∧ s.memDead = false ∧
      s.heldSamples a.toNat bytes.length = false) ∧
    (∃ (who : Who) (a : BitVec 34) (bytes : List Byte) (s : State), s.powered = true ∧ s.dataOpen who = true ∧
      s.memServes = true ∧ bytes ≠ [] ∧ s.memRefuses who a.toNat bytes.length = false ∧
      (s.inStaging a.toNat bytes.length = false ∨ who = .porter ∨ who = .jtag) ∧ s.memDead = false ∧
      s.heldSamples a.toNat bytes.length = true) ∧
    (∃ (who : Who) (a : BitVec 34) (bytes : List Byte) (s : State), s.powered = true ∧ s.dataOpen who = true ∧
      s.memServes = true ∧ bytes ≠ [] ∧ s.memRefuses who a.toNat bytes.length = true) ∧
    (∃ (s : State), s.powered = true ∧ (s.memServes = false ∨ s.memDead = true)) ∧
    (∃ (b : Fin 8) (l : Fin 32) (v : Fin 3) (id : BitVec 20) (m : DirMiss) (p : Play) (s : State), s.powered = true ∧
      ((s.loom b).misses.find? (·.seg == id.toNat)) = some m ∧ m.at_ ≠ 0 ∧
      s.served { port := b, unit := s.descUnit id.toNat, at_ := m.at_ - 1, passed := m.passed } = true ∧
      s.waiting b id.toNat = [(l.val, v.val, p)] ∧ (s.residentIn b id.toNat (s.segWords id.toNat) = true ∨
      s.streamedIn b id.toNat (s.segWords id.toNat) = true ∨
      s.descOk b v id.toNat (s.segWords id.toNat) p.aliasOk = false)) ∧
    (∃ (b : Fin 8) (l : Fin 32) (v : Fin 3) (id : BitVec 20) (m : DirMiss) (p : Play) (s : State), s.powered = true ∧
      ((s.loom b).misses.find? (·.seg == id.toNat)) = some m ∧ m.at_ ≠ 0 ∧
      s.served { port := b, unit := s.descUnit id.toNat, at_ := m.at_ - 1, passed := m.passed } = true ∧
      s.waiting b id.toNat = [(l.val, v.val, p)]) ∧
    (∃ (b : Fin 8) (id : BitVec 20) (s : State), s.powered = true ∧ (∀ m,
      ((s.loom b).misses.find? (·.seg == id.toNat)) = some m → m.at_ = 0 ∨
      s.served { port := b, unit := s.descUnit id.toNat, at_ := m.at_ - 1, passed := m.passed } = false)) ∧
    (∃ (b : Fin 8) (v : Fin 80) (before : List Fetch) (rest : List Fetch) (f : Fetch) (s : State), s.powered = true ∧
      (s.window b v).streams = before ++ f :: rest ∧ (before.all fun g => !g.wants) = true ∧ f.wants = true ∧
      s.windowUsed b v + f.gran ≤ (s.window b v).size ∧ (s.loom b).portFull = false) ∧
    (∃ (b : Fin 8) (id : BitVec 20) (before : List Transient) (rest : List Transient) (u : Transient) (s : State),
      s.powered = true ∧ (s.loom b).transients = before ++ u :: rest ∧ u.seg = id.toNat ∧
      (before.all fun x => x.seg != u.seg) = true ∧ (rest.all fun x => x.seg != u.seg) = true ∧
      u.fetch.wants = true ∧ (s.loom b).portFull = false) ∧
    (∃ (b : Fin 8) (v : Fin 80) (s : State), s.powered = true ∧ (s.windowAsk b v = none ∨ (s.loom b).portFull = true)) ∧
    (∃ (b : Fin 8) (v : Fin 80) (before : List Fetch) (rest : List Fetch) (f : Fetch) (u : State) (s : State),
      s.powered = true ∧ (s.window b v).streams = before ++ f :: rest ∧ (before.all fun g => g.out.isEmpty) = true ∧
      s.serveHead b f = some u ∧ (∀ x, s.streamPlay b v f = some x → s.granuleLate b x.1 x.2.1 x.2.2 f.head = false)) ∧
    (∃ (b : Fin 8) (v : Fin 80) (before : List Fetch) (rest : List Fetch) (f : Fetch) (l : Fin 32) (voice : Fin 3) (p
      : Play) (u : State) (s : State), s.powered = true ∧ (s.window b v).streams = before ++ f :: rest ∧
      (before.all fun g => g.out.isEmpty) = true ∧ s.serveHead b f = some u ∧ s.streamPlay b v f = some (l.val,
      voice.val, p) ∧ s.granuleLate b l voice p f.head = true ∧ p.missed.contains f.head = false) ∧
    (∃ (b : Fin 8) (v : Fin 80) (before : List Fetch) (rest : List Fetch) (f : Fetch) (u : State) (s : State),
      s.powered = true ∧ (s.window b v).streams = before ++ f :: rest ∧ (before.all fun g => g.out.isEmpty) = true ∧
      s.serveHead b f = some u) ∧
    (∃ (b : Fin 8) (id : BitVec 20) (x : Transient) (u : State) (s : State), s.powered = true ∧
      ((s.loom b).transients.find? fun y => y.seg == id.toNat && !y.fetch.out.isEmpty) = some x ∧
      s.serveHead b x.fetch = some u ∧ (s.copyPlays b id.toNat = [] ∨
      ((s.copyPlays b id.toNat).any fun e => !s.granuleLate b e.1 e.2.1 e.2.2 x.fetch.head) = true)) ∧
    (∃ (b : Fin 8) (v : Fin 80) (s : State), s.powered = true ∧ (∀ f,
      ((s.window b v).streams.find? fun g => !g.out.isEmpty) = some f → s.serveHead b f = none)) ∧
    (∃ (b : Fin 8) (v : Fin 80) (l : Fin 32) (voice : Fin 3) (p : Play) (f : Fetch) (g : Nat) (copy : Bool) (s :
      State), s.powered = true ∧ s.windowVoice b v = some (l.val, voice.val) ∧ s.underrunOf b v l voice = some (p, f,
      g, copy)) ∧
    (∃ (b : Fin 8) (v : Fin 80) (s : State), s.powered = true ∧ (∀ x, s.windowVoice b v = some x →
      s.underrunOf b v x.1 x.2 = none)) ∧
    (∃ (b : Fin 8) (v : Fin 80) (s : State), s.powered = true ∧ s.streamsNow b v = true ∧
      (s.window b v).panic = false ∧ 64 * (s.fillOf b v).1 < s.panicLevel b * (s.fillOf b v).2) ∧
    (∃ (b : Fin 8) (v : Fin 80) (s : State), s.powered = true ∧ (s.streamsNow b v = false ∨
      (s.window b v).panic = true ∨ s.panicLevel b * (s.fillOf b v).2 ≤ 64 * (s.fillOf b v).1)) := by
  refine ⟨?_, ?_, ?_, ?_, ?_, ?_, ?_, ?_, ?_, ?_, ?_, ?_, ?_, ?_, ?_, ?_, ?_, ?_, ?_⟩
  · exact ⟨.host, 0x100, [1, 0, 3],
     holdsAt (((wOn .idle).wUp).onLoom 1 fun x => { x with transients := [copyA] }) (by decide +kernel)⟩
  · exact ⟨.cores, 0xFFFF, [1, 0, 3], holdsAt ((((wOn .run).wUp).setSeg 5 segA).wQueue 1 2 0 [playA])
      (by decide +kernel)⟩
  · exact ⟨.host, 0x3FFFFFFFE, [1, 0, 3], holdsAt ((wOn .idle).wUp) (by decide +kernel)⟩
  · exact holdsAt (wOn .keep) (by decide +kernel)
  · exact ⟨1, 2, 1, 5, missA, playW,
     holdsAt ((((wOn .run).setSeg 5 [0x400, 10, 0, 0x00000028]).wQueue 1 2 1 [playW]).onLoom 1
         fun x => { x with misses := [missA] }) (by decide +kernel)⟩
  · exact ⟨1, 2, 1, 5, missA, playW,
     holdsAt ((((wOn .run).setSeg 5 [0x400, 10, 0, 0x80000028]).wQueue 1 2 1 [playW]).onLoom 1
         fun x => { x with misses := [missA] }) (by decide +kernel)⟩
  · exact ⟨1, 5,
     holdsAt ((((wOn .run).setSeg 5 [0x400, 10, 0, 0x00000028]).wQueue 1 2 1 [playW]).onLoom 1
         fun x => { x with misses := [{ missA with at_ := 0 }] }) (by decide +kernel)⟩
  · exact ⟨1, 2, [], [], fetchA,
     holdsAt ((((wOn .run).setSeg 5 segA).wQueue 1 2 0 [playS]).wStream 1 2 fetchA) (by decide +kernel)⟩
  · exact ⟨1, 5, [{ copyA with seg := 6 }], [], copyA,
     holdsAt ((wOn .run).onLoom 1 fun x => { x with transients := [{ copyA with seg := 6 }, copyA] })
         (by decide +kernel)⟩
  · exact ⟨1, 2, holdsAt (wOn .run) (by decide +kernel)⟩
  · exact ⟨1, 2, [], [], fetchA,
     (((((wOn .run).setSeg 5 segA).wQueue 1 2 0 [playS]).wStream 1 2 fetchA).serveHead 1 fetchA).getD ((((wOn .run).setSeg 5 segA).wQueue 1 2 0 [playS]).wStream 1 2 fetchA),
     holdsAt ((((wOn .run).setSeg 5 segA).wQueue 1 2 0 [playS]).wStream 1 2 fetchA) (by decide +kernel)⟩
  · exact ⟨1, 2, [], [], fetchA, 2, 0, playA,
     (((((wOn .run).setSeg 5 segA).wQueue 1 2 0 [playA]).wStream 1 2 fetchA).serveHead 1 fetchA).getD ((((wOn .run).setSeg 5 segA).wQueue 1 2 0 [playA]).wStream 1 2 fetchA),
     holdsAt ((((wOn .run).setSeg 5 segA).wQueue 1 2 0 [playA]).wStream 1 2 fetchA) (by decide +kernel)⟩
  · exact ⟨1, 2, [], [], fetchA,
     (((((wOn .run).setSeg 5 segA).wQueue 1 2 0 [playS]).wStream 1 2 fetchA).serveHead 1 fetchA).getD ((((wOn .run).setSeg 5 segA).wQueue 1 2 0 [playS]).wStream 1 2 fetchA),
     holdsAt ((((wOn .run).setSeg 5 segA).wQueue 1 2 0 [playS]).wStream 1 2 fetchA) (by decide +kernel)⟩
  · exact ⟨1, 5, copyA,
     (((((wOn .run).setSeg 5 segA).wQueue 1 2 0 [playS]).onLoom 1
         fun x => { x with transients := [copyA] }).serveHead 1 copyA.fetch).getD ((((wOn .run).setSeg 5 segA).wQueue 1 2 0 [playS]).onLoom 1 fun x => { x with transients := [copyA] }),
     holdsAt ((((wOn .run).setSeg 5 segA).wQueue 1 2 0 [playS]).onLoom 1 fun x => { x with transients := [copyA] })
         (by decide +kernel)⟩
  · exact ⟨1, 2, holdsAt (wOn .run) (by decide +kernel)⟩
  · exact ⟨1, 2, 2, 0, playA, fetchA, 4, false,
     holdsAt ((((wOn .run).setSeg 5 segA).wQueue 1 2 0 [playA]).wStream 1 2 fetchA) (by decide +kernel)⟩
  · exact ⟨1, 2, holdsAt (wOn .run) (by decide +kernel)⟩
  · exact ⟨1, 2, holdsAt ((((wOn .run).setSeg 5 segA).wQueue 1 2 0 [playS]).wStream 1 2 fetchA) (by decide +kernel)⟩
  · exact ⟨1, 2, holdsAt (wOn .run) (by decide +kernel)⟩

/-- The hypotheses of LaneArithmetic can be met, clause by clause. -/
theorem witness_LaneArithmetic :
    (∃ (b : Fin 8) (l : Fin 32) (w : Nat) (s : State), s.powered = true ∧ s.laneInstr b l 3 = some w) ∧
    (∃ (b : Fin 8) (l : Fin 32) (w : Nat) (s : State), s.powered = true ∧ s.laneInstr b l 7 = some w ∧
      (s.lane b l).loops.length < 4) ∧
    (∃ (b : Fin 8) (l : Fin 32) (w : Nat) (body : Nat) (n : Nat) (outer : List (Nat × Nat)) (s : State),
      s.powered = true ∧ s.laneInstr b l 8 = some w ∧ (s.lane b l).loops = (body, n) :: outer) ∧
    (∃ (b : Fin 8) (l : Fin 32) (w : Nat) (s : State), s.powered = true ∧ s.laneInstr b l 11 = some w) ∧
    (∃ (b : Fin 8) (l : Fin 32) (w : Nat) (s : State), s.powered = true ∧ s.laneInstr b l 4 = some w) ∧
    (∃ (b : Fin 8) (l : Fin 32) (w : Nat) (s : State), s.powered = true ∧ s.laneInstr b l 10 = some w) ∧
    (∃ (b : Fin 8) (l : Fin 32) (w : Nat) (s : State), s.powered = true ∧ s.laneInstr b l 9 = some w) ∧
    (∃ (b : Fin 8) (l : Fin 32) (w : Nat) (s : State), s.powered = true ∧ s.laneInstr b l 12 = some w) ∧
    (∃ (s : State), s.powered = true) := by
  refine ⟨?_, ?_, ?_, ?_, ?_, ?_, ?_, ?_, ?_⟩
  · exact ⟨1, 2, 3 * 2 ^ 58 + 100, holdsAt (wLane (3 * 2 ^ 58 + 100)) (by decide +kernel)⟩
  · exact ⟨1, 2, 7 * 2 ^ 58, holdsAt (wLane (7 * 2 ^ 58)) (by decide +kernel)⟩
  · exact ⟨1, 2, 8 * 2 ^ 58, 3, 2, [(1, 9)],
     holdsAt ((wLane (8 * 2 ^ 58)).onLane 1 2 fun x => { x with loops := [(3, 2), (1, 9)] }) (by decide +kernel)⟩
  · exact ⟨1, 2, 11 * 2 ^ 58 + 7 * 2 ^ 55 + 2 ^ 54 + 0xFFFFFFFF,
     holdsAt (wLane (11 * 2 ^ 58 + 7 * 2 ^ 55 + 2 ^ 54 + 0xFFFFFFFF)) (by decide +kernel)⟩
  · exact ⟨1, 2, 4 * 2 ^ 58 + 2 ^ 53 + 5 * 2 ^ 34 + 77,
     holdsAt (wLane (4 * 2 ^ 58 + 2 ^ 53 + 5 * 2 ^ 34 + 77)) (by decide +kernel)⟩
  · exact ⟨1, 2, 10 * 2 ^ 58 + 3 * 2 ^ 56 + 9 * 2 ^ 48 + 5 * 2 ^ 34 + 2 ^ 33,
     holdsAt (wLane (10 * 2 ^ 58 + 3 * 2 ^ 56 + 9 * 2 ^ 48 + 5 * 2 ^ 34 + 2 ^ 33)) (by decide +kernel)⟩
  · exact ⟨1, 2, 9 * 2 ^ 58 + 5 * 2 ^ 28, holdsAt (wLane (9 * 2 ^ 58 + 5 * 2 ^ 28)) (by decide +kernel)⟩
  · exact ⟨1, 2, 12 * 2 ^ 58, holdsAt (wLane (12 * 2 ^ 58)) (by decide +kernel)⟩
  · exact holdsAt (wLane 0) (by decide +kernel)

/-- The hypotheses of LanePlays can be met, clause by clause. -/
theorem witness_LanePlays :
    (∃ (b : Fin 8) (l : Fin 32) (w : Nat) (s : State), s.powered = true ∧ s.laneInstr b l 1 = some w ∧
      NMap.wf (fun _ => []) (s.lane b l).plays = true ∧
      (((s.lane b l).queue (liVoice w)).filter fun p => !p.over s.clk.time).length < 8) ∧
    (∃ (b : Fin 8) (l : Fin 32) (w : Nat) (s : State), s.powered = true ∧ s.laneInstr b l 2 = some w ∧
      NMap.wf (fun _ => []) (s.lane b l).plays = true ∧
      (((s.lane b l).queue (liVoice w)).filter fun p => !p.over s.clk.time).length < 8) ∧
    (∃ (b : Fin 8) (l : Fin 32) (w : Nat) (s : State), s.powered = true ∧
      NMap.wf (fun _ => []) (s.lane b l).plays = true ∧
      (((s.lane b l).queue (liVoice w)).filter fun p => !p.over s.clk.time).length < 8) ∧
    (∃ (b : Fin 8) (l : Fin 32) (w : Nat) (s : State), s.powered = true ∧
      NMap.wf (fun _ => []) (s.lane b l).plays = true ∧
      8 ≤ (((s.lane b l).queue (liVoice w)).filter fun p => !p.over s.clk.time).length) ∧
    (∃ (b : Fin 8) (l : Fin 32) (v : Nat) (s : State), s.powered = true ∧ (s.lane b l).stall = .queue v ∧
      (s.lane b l).st = .issuing ∧ (s.lane b l).next ≤ s.clk.time ∧ s.executed b < 8 ∧
      NMap.wf (fun _ => []) (s.lane b l).plays = true ∧ (liOp (s.laneWord b l (s.lane b l).pc) = 1 ∨
      liOp (s.laneWord b l (s.lane b l).pc) = 2) ∧ liVoice (s.laneWord b l (s.lane b l).pc) = v ∧
      (((s.lane b l).queue v).filter fun p => !p.over s.clk.time).length < 8) ∧
    (∃ (b : Fin 8) (l : Fin 32) (v : Fin 3) (p : Play) (s : State), s.powered = true ∧ (s.lane b l).st ≠ .stopping ∧
      duePlay s.clk.time ((s.lane b l).queue v) = some p) ∧
    (∃ (b : Fin 8) (l : Fin 32) (v : Fin 3) (s : State), s.powered = true ∧ ((s.lane b l).st = .stopping ∨
      duePlay s.clk.time ((s.lane b l).queue v) = none)) := by
  refine ⟨?_, ?_, ?_, ?_, ?_, ?_, ?_⟩
  · exact ⟨1, 2, 1 * 2 ^ 58 + 5 * 2 ^ 35 + 3 * 2 ^ 21 + 9 * 2 ^ 5 + 4,
     holdsAt ((wLane (1 * 2 ^ 58 + 5 * 2 ^ 35 + 3 * 2 ^ 21 + 9 * 2 ^ 5 + 4)).setSeg 5 segA) (by decide +kernel)⟩
  · exact ⟨1, 2, 2 * 2 ^ 58 + 5 * 2 ^ 35 + 3 * 2 ^ 21 + 5 * 2 ^ 18 + 6 * 2 ^ 15,
     holdsAt ((wLane (2 * 2 ^ 58 + 5 * 2 ^ 35 + 3 * 2 ^ 21 + 5 * 2 ^ 18 + 6 * 2 ^ 15)).setSeg 5 segA)
         (by decide +kernel)⟩
  · exact ⟨1, 2, 1 * 2 ^ 58 + 5 * 2 ^ 35 + 3 * 2 ^ 21 + 9 * 2 ^ 5 + 4,
     holdsAt ((wLane (1 * 2 ^ 58 + 5 * 2 ^ 35 + 3 * 2 ^ 21 + 9 * 2 ^ 5 + 4)).setSeg 5 segA) (by decide +kernel)⟩
  · exact ⟨1, 2, 1 * 2 ^ 58 + 5 * 2 ^ 35,
     holdsAt ((wLane (1 * 2 ^ 58 + 5 * 2 ^ 35)).wQueue 1 2 0 (List.replicate 8 playW)) (by decide +kernel)⟩
  · exact ⟨1, 2, 0,
     holdsAt (((wLane (1 * 2 ^ 58 + 5 * 2 ^ 35)).wQueue 1 2 0 (List.replicate 7 playW)).onLane 1 2
         fun x => { x with stall := .queue 0 }) (by decide +kernel)⟩
  · exact ⟨1, 2, 0, { playW with start := 3000, ser := 6 },
     holdsAt ((wOn .run).wQueue 1 2 0 [playA, { playW with start := 3000, ser := 6 }]) (by decide +kernel)⟩
  · exact ⟨1, 2, 0, holdsAt ((wOn .run).wQueue 1 2 0 [playW]) (by decide +kernel)⟩

/-- The hypotheses of LaneBranches can be met, clause by clause. -/
theorem witness_LaneBranches :
    (∃ (b : Fin 8) (l : Fin 32) (w : Nat) (k : Nat) (v : Nat) (s : State), s.powered = true ∧
      s.laneInstr b l 5 = some w ∧ liAsap w = false ∧ s.waitdKnown b l w = some (k, v) ∧ k ≤ s.clk.time) ∧
    (∃ (b : Fin 8) (l : Fin 32) (w : Nat) (s : State), s.powered = true ∧ s.laneInstr b l 5 = some w ∧
      liAsap w = false ∧ liDef w < liAlts w ∧ s.waitdKnown b l w = none ∧ (s.lane b l).branches.length < 8 ∧
      cursorAdd (s.lane b l).cursor (liDl w) < s.clk.time + 126) ∧
    (∃ (b : Fin 8) (l : Fin 32) (w : Nat) (s : State), s.powered = true ∧ s.laneInstr b l 5 = some w ∧
      liAsap w = false ∧ s.waitdKnown b l w = none ∧ (s.lane b l).branches.length < 8 ∧
      s.clk.time + 126 ≤ cursorAdd (s.lane b l).cursor (liDl w)) ∧
    (∃ (b : Fin 8) (l : Fin 32) (w : Nat) (s : State), s.powered = true ∧ s.laneInstr b l 5 = some w ∧
      liAsap w = false ∧ s.waitdKnown b l w = none ∧ 8 ≤ (s.lane b l).branches.length) ∧
    (∃ (b : Fin 8) (l : Fin 32) (w : Nat) (s : State), s.powered = true ∧ s.laneInstr b l 5 = some w ∧
      liAsap w = true ∧ (s.lane b l).branches = [] ∧ s.waitdKnown b l w = none ∧
      s.clk.time + 126 ≤ (s.lane b l).cursor) ∧
    (∃ (b : Fin 8) (l : Fin 32) (w : Nat) (s : State), s.powered = true ∧ s.laneInstr b l 5 = some w ∧
      liAsap w = true ∧ (s.lane b l).branches ≠ []) ∧
    (∃ (b : Fin 8) (l : Fin 32) (w : Nat) (s : State), s.powered = true ∧ s.laneInstr b l 5 = some w ∧
      liAsap w = true ∧ liDef w < liAlts w ∧ (s.lane b l).branches = [] ∧ (s.lane b l).cursor < s.clk.time + 126) ∧
    (∃ (b : Fin 8) (l : Fin 32) (w : Nat) (k : Nat) (v : Nat) (s : State), s.powered = true ∧
      s.laneInstr b l 5 = some w ∧ liAsap w = true ∧ (s.lane b l).branches = [] ∧ s.waitdKnown b l w = some (k, v) ∧
      k ≤ s.clk.time ∧ s.clk.time + 126 ≤ (s.lane b l).cursor) ∧
    (∃ (b : Fin 8) (l : Fin 32) (w : Nat) (s : State), s.powered = true ∧ s.laneInstr b l 6 = some w) ∧
    (∃ (b : Fin 8) (l : Fin 32) (w : Nat) (s : State), s.powered = true ∧ s.laneInstr b l 6 = some w ∧
      (s.lane b l).pendingWaitd = none) ∧
    (∃ (b : Fin 8) (l : Fin 32) (w : Nat) (k : Nat) (s : State), s.powered = true ∧ s.laneInstr b l 6 = some w ∧
      k ≤ s.clk.time) ∧
    (∃ (b : Fin 8) (l : Fin 32) (w : Nat) (s : State), s.powered = true ∧ s.laneInstr b l 6 = some w ∧
      s.brPends b l w = true ∧ (s.lane b l).branches.length < 8 ∧ s.clk.time + 126 ≤ (s.lane b l).cursor) ∧
    (∃ (b : Fin 8) (l : Fin 32) (w : Nat) (s : State), s.powered = true ∧ s.laneInstr b l 6 = some w ∧
      s.brPends b l w = true ∧ (s.lane b l).branches.length < 8 ∧ (s.lane b l).cursor < s.clk.time + 126) ∧
    (∃ (b : Fin 8) (l : Fin 32) (w : Nat) (s : State), s.powered = true ∧ s.laneInstr b l 6 = some w ∧
      s.brPends b l w = true ∧ 8 ≤ (s.lane b l).branches.length) ∧
    (∃ (b : Fin 8) (l : Fin 32) (w : Nat) (h : Head) (s : State), s.powered = true ∧ s.laneInstr b l 6 = some w ∧
      s.brPends b l w = true ∧ (s.lane b l).branches.length < 8 ∧ s.clk.time + 126 ≤ (s.lane b l).cursor ∧
      h = s.headAt b l (if liDeft w then 0 else 1) (if liDeft w then (s.lane b l).pc + 1 else liTgt w)) ∧
    (∃ (b : Fin 8) (l : Fin 32) (x : Branch) (rest : List Branch) (s : State), s.powered = true ∧
      (s.lane b l).branches = x :: rest ∧ x.isAsap = false ∧ s.clk.time < x.bnd - x.lead (s.laneLead b l)) ∧
    (∃ (b : Fin 8) (l : Fin 32) (x : Branch) (rest : List Branch) (s : State), s.powered = true ∧
      (s.lane b l).st ≠ .stopping ∧ (s.lane b l).branches = x :: rest ∧ x.isWaitd = true ∧ x.isAsap = false ∧
      s.branchKnown b l x = none ∧ x.bnd - x.lead (s.laneLead b l) ≤ s.clk.time) ∧
    (∃ (b : Fin 8) (l : Fin 32) (x : Branch) (rest : List Branch) (k : Nat) (v : Nat) (s : State), s.powered = true ∧
      (s.lane b l).st ≠ .stopping ∧ (s.lane b l).branches = x :: rest ∧ x.isWaitd = true ∧ x.isAsap = false ∧
      s.branchKnown b l x = some (k, v) ∧ k ≤ x.bnd - x.lead (s.laneLead b l) ∧
      x.bnd - x.lead (s.laneLead b l) ≤ s.clk.time ∧ v % liAlts x.word = liDef x.word) ∧
    (∃ (b : Fin 8) (l : Fin 32) (x : Branch) (rest : List Branch) (s : State), s.powered = true ∧
      (s.lane b l).st ≠ .stopping ∧ (s.lane b l).branches = x :: rest ∧ x.isWaitd = false ∧ liCond x.word ≠ 6 ∧
      liCond x.word ≠ 7 ∧ s.branchKnown b l x = none ∧ x.bnd - x.lead (s.laneLead b l) ≤ s.clk.time) ∧
    (∃ (b : Fin 8) (l : Fin 32) (x : Branch) (rest : List Branch) (k : Nat) (v : Nat) (h : Head) (s : State),
      s.powered = true ∧ (s.lane b l).st ≠ .stopping ∧ (s.lane b l).st ≠ .done ∧ (s.lane b l).branches = x :: rest ∧
      x.isWaitd = true ∧ x.isAsap = false ∧ s.branchKnown b l x = some (k, v) ∧ k ≤ x.bnd - x.lead (s.laneLead b l) ∧
      x.bnd - x.lead (s.laneLead b l) ≤ s.clk.time ∧ v % liAlts x.word ≠ liDef x.word ∧
      (x.heads.find? fun h => h.alt == v % liAlts x.word) = some h) ∧
    (∃ (b : Fin 8) (l : Fin 32) (x : Branch) (rest : List Branch) (k : Nat) (v : Nat) (go : Bool) (h : Head) (s :
      State), s.powered = true ∧ (s.lane b l).st ≠ .stopping ∧ (s.lane b l).st ≠ .done ∧
      (s.lane b l).branches = x :: rest ∧ liOp x.word = 6 ∧ x.bnd - x.lead (s.laneLead b l) ≤ s.clk.time ∧
      ((liCond x.word = 6 ∧ go = (s.gdsSeen (liBsel x.word) != liNeg x.word)) ∨ (liCond x.word = 7 ∧
      go = ((s.lane b l).event != liNeg x.word)) ∨ (liCond x.word ≠ 6 ∧ liCond x.word ≠ 7 ∧
      s.branchKnown b l x = some (k, v) ∧ k ≤ x.bnd - x.lead (s.laneLead b l) ∧ go = condOn x.word v)) ∧
      go ≠ liDeft x.word ∧ (x.heads.find? fun h => h.alt == bit go) = some h) ∧
    (∃ (b : Fin 8) (l : Fin 32) (x : Branch) (rest : List Branch) (k : Nat) (v : Nat) (h : Head) (s : State),
      s.powered = true ∧ (s.lane b l).st = .wait ∧ (s.lane b l).branches = x :: rest ∧ x.isAsap = true ∧
      s.branchKnown b l x = some (k, v) ∧ k ≤ x.bnd - x.lead (s.laneLead b l) ∧
      x.chk.cursor - x.lead (s.laneLead b l) ≤ s.clk.time ∧ k ≤ s.clk.time ∧
      (x.heads.find? fun h => h.alt == v % liAlts x.word) = some h) ∧
    (∃ (b : Fin 8) (l : Fin 32) (x : Branch) (rest : List Branch) (h : Head) (s : State), s.powered = true ∧
      (s.lane b l).st = .wait ∧ (s.lane b l).branches = x :: rest ∧ x.isAsap = true ∧ s.branchKnown b l x = none ∧
      (x.heads.find? fun h => h.alt == liDef x.word) = some h) ∧
    (∃ (b : Fin 8) (l : Fin 32) (x : Branch) (n : Nat) (s : State), s.powered = true ∧ (s.lane b l).branches = [x] ∧
      x.stage = .staging n ∧ s.stageable b x = true) ∧
    (∃ (s : State), s.powered = true) := by
  refine ⟨?_, ?_, ?_, ?_, ?_, ?_, ?_, ?_, ?_, ?_, ?_, ?_, ?_, ?_, ?_, ?_, ?_, ?_, ?_, ?_, ?_, ?_, ?_, ?_, ?_⟩
  · exact ⟨1, 2, 5 * 2 ^ 58 + 2 * 2 ^ 54 + 100 * 2 ^ 28, 2905, 1,
     holdsAt ((wLane (5 * 2 ^ 58 + 2 * 2 ^ 54 + 100 * 2 ^ 28)).onLane 1 2
         fun x => { x with gds := [(0, some (2900, 1))] }) (by decide +kernel)⟩
  · exact ⟨1, 2, 5 * 2 ^ 58 + 2 * 2 ^ 54 + 100 * 2 ^ 28,
     holdsAt ((wLane (5 * 2 ^ 58 + 2 * 2 ^ 54 + 100 * 2 ^ 28)).onLane 1 2 fun x => { x with cursor := 3025 })
         (by decide +kernel)⟩
  · exact ⟨1, 2, 5 * 2 ^ 58 + 2 * 2 ^ 54 + 100 * 2 ^ 28,
     holdsAt ((wLane (5 * 2 ^ 58 + 2 * 2 ^ 54 + 100 * 2 ^ 28)).onLane 1 2 fun x => { x with cursor := 3026 })
         (by decide +kernel)⟩
  · exact ⟨1, 2, 5 * 2 ^ 58 + 2 * 2 ^ 54 + 100 * 2 ^ 28,
     holdsAt ((wLane (5 * 2 ^ 58 + 2 * 2 ^ 54 + 100 * 2 ^ 28)).wBranches (List.replicate 8 (brA 0 5000)))
         (by decide +kernel)⟩
  · exact ⟨1, 2, 5 * 2 ^ 58 + 2 ^ 57 + 2 * 2 ^ 54 + 100 * 2 ^ 28,
     holdsAt ((wLane (5 * 2 ^ 58 + 2 ^ 57 + 2 * 2 ^ 54 + 100 * 2 ^ 28)).onLane 1 2 fun x => { x with cursor := 3126 })
         (by decide +kernel)⟩
  · exact ⟨1, 2, 5 * 2 ^ 58 + 2 ^ 57 + 2 * 2 ^ 54 + 100 * 2 ^ 28,
     holdsAt (((wLane (5 * 2 ^ 58 + 2 ^ 57 + 2 * 2 ^ 54 + 100 * 2 ^ 28)).onLane 1 2
         fun x => { x with cursor := 3126 }).wBranches [brA 0 5000]) (by decide +kernel)⟩
  · exact ⟨1, 2, 5 * 2 ^ 58 + 2 ^ 57 + 2 * 2 ^ 54 + 100 * 2 ^ 28,
     holdsAt ((wLane (5 * 2 ^ 58 + 2 ^ 57 + 2 * 2 ^ 54 + 100 * 2 ^ 28)).onLane 1 2 fun x => { x with cursor := 3125 })
         (by decide +kernel)⟩
  · exact ⟨1, 2, 5 * 2 ^ 58 + 2 ^ 57 + 2 * 2 ^ 54 + 100 * 2 ^ 28, 2905, 1,
     holdsAt ((wLane (5 * 2 ^ 58 + 2 ^ 57 + 2 * 2 ^ 54 + 100 * 2 ^ 28)).onLane 1 2
         fun x => { x with cursor := 3126, gds := [(0, some (2900, 1))] }) (by decide +kernel)⟩
  · exact ⟨1, 2, 6 * 2 ^ 58 + 9 * 2 ^ 35, holdsAt (wLane (6 * 2 ^ 58 + 9 * 2 ^ 35)) (by decide +kernel)⟩
  · exact ⟨1, 2, 6 * 2 ^ 58 + 1 * 2 ^ 54 + 9 * 2 ^ 35,
     holdsAt ((wLane (6 * 2 ^ 58 + 1 * 2 ^ 54 + 9 * 2 ^ 35)).onLane 1 2 fun x => { x with dr := 1 })
         (by decide +kernel)⟩
  · exact ⟨1, 2, 6 * 2 ^ 58 + 8 * 2 ^ 54 + 9 * 2 ^ 35 + 7 * 2 ^ 23, 2993,
     holdsAt ((wLane (6 * 2 ^ 58 + 8 * 2 ^ 54 + 9 * 2 ^ 35 + 7 * 2 ^ 23)).onTag 1 7
         fun x => { x with st := .done, actTick := 2990, act := 5 }) (by decide +kernel)⟩
  · exact ⟨1, 2, 6 * 2 ^ 58 + 6 * 2 ^ 54 + 9 * 2 ^ 35,
     holdsAt (wLane (6 * 2 ^ 58 + 6 * 2 ^ 54 + 9 * 2 ^ 35)) (by decide +kernel)⟩
  · exact ⟨1, 2, 6 * 2 ^ 58 + 6 * 2 ^ 54 + 9 * 2 ^ 35,
     holdsAt ((wLane (6 * 2 ^ 58 + 6 * 2 ^ 54 + 9 * 2 ^ 35)).onLane 1 2 fun x => { x with cursor := 3125 })
         (by decide +kernel)⟩
  · exact ⟨1, 2, 6 * 2 ^ 58 + 6 * 2 ^ 54 + 9 * 2 ^ 35,
     holdsAt ((wLane (6 * 2 ^ 58 + 6 * 2 ^ 54 + 9 * 2 ^ 35)).wBranches (List.replicate 8 (brA 0 5000)))
         (by decide +kernel)⟩
  · exact ⟨1, 2, 6 * 2 ^ 58 + 6 * 2 ^ 54 + 9 * 2 ^ 35, (wPlay9).headAt 1 2 1 9, holdsAt (wPlay9) (by decide +kernel)⟩
  · exact ⟨1, 2, brA (5 * 2 ^ 58) 3127, [], holdsAt ((wLane 0).wBranches [brA (5 * 2 ^ 58) 3127]) (by decide +kernel)⟩
  · exact ⟨1, 2, brA (5 * 2 ^ 58) 3010, [], holdsAt ((wLane 0).wBranches [brA (5 * 2 ^ 58) 3010]) (by decide +kernel)⟩
  · exact ⟨1, 2,
     { brA (5 * 2 ^ 58 + 2 * 2 ^ 54) 3010 with hot := true, stage := .staged, resHeld := 1, heads := [headA 1] },
     [brA (5 * 2 ^ 58) 9000], 2905, 0,
     holdsAt ((((wLane 0).wBranches [{ brA (5 * 2 ^ 58 + 2 * 2 ^ 54) 3006 with hot := true, stage := .staged, resHeld := 1, heads := [headA 1], bnd := 3010 }, brA (5 * 2 ^ 58) 9000]).onLane 1 2 fun x => { x with gds := [(0, some (2900, 0))] }).tickTo 3004) (by decide +kernel)⟩
  · exact ⟨1, 2, brA (6 * 2 ^ 58 + 5 * 2 ^ 54) 3010, [brA (5 * 2 ^ 58) 9000],
     holdsAt ((wLane 0).wBranches [brA (6 * 2 ^ 58 + 5 * 2 ^ 54) 3010, brA (5 * 2 ^ 58) 9000]) (by decide +kernel)⟩
  · exact ⟨1, 2, { brA (5 * 2 ^ 58 + 2 * 2 ^ 54) 3126 with heads := [headA 1] }, [], 2905, 1, headA 1,
     holdsAt ((((wLane 0).wBranches [{ brA (5 * 2 ^ 58 + 2 * 2 ^ 54) 3126 with heads := [headA 1] }]).wQueue 1 2 0 [playA, { playW with ser := 6 }]).onLane 1 2 fun x => { x with gds := [(0, some (2900, 1))] }) (by decide +kernel)⟩
  · exact ⟨1, 2, { brA (6 * 2 ^ 58 + 7 * 2 ^ 54 + 9 * 2 ^ 35) 3010 with heads := [headA 1] }, [brA (5 * 2 ^ 58) 9000], 0,
     0, true, headA 1,
     holdsAt ((((wLane 0).wQueue 1 2 0 [playA]).wBranches [{ brA (6 * 2 ^ 58 + 7 * 2 ^ 54 + 9 * 2 ^ 35) 3010 with heads := [headA 1] }, brA (5 * 2 ^ 58) 9000]).onLane 1 2 fun x => { x with event := true }) (by decide +kernel)⟩
  · exact ⟨1, 2, { brA (5 * 2 ^ 58 + 2 ^ 57 + 2 * 2 ^ 54 + 100 * 2 ^ 28) 9000 with heads := [headA 0, headA 1] }, [], 2905,
     1, headA 1,
     holdsAt ((((wLane 0).wBranches [{ brA (5 * 2 ^ 58 + 2 ^ 57 + 2 * 2 ^ 54 + 100 * 2 ^ 28) 9000 with heads := [headA 0, headA 1] }]).onLane 1 2 fun x => { x with st := .wait, gds := [(0, some (2900, 1))] }).tickTo 4000) (by decide +kernel)⟩
  · exact ⟨1, 2, { brA (5 * 2 ^ 58 + 2 ^ 57 + 2 * 2 ^ 54 + 100 * 2 ^ 28) 3126 with heads := [headA 0, headA 1] }, [],
     headA 0,
     holdsAt (((wLane 0).wBranches [{ brA (5 * 2 ^ 58 + 2 ^ 57 + 2 * 2 ^ 54 + 100 * 2 ^ 28) 3126 with heads := [headA 0, headA 1] }]).onLane 1 2 fun x => { x with st := .wait }) (by decide +kernel)⟩
  · exact ⟨1, 2, { brA (5 * 2 ^ 58) 4010 with stage := .staging 3000 }, 3000,
     holdsAt ((wLane 0).wBranches [{ brA (5 * 2 ^ 58) 4010 with stage := .staging 3000 }]) (by decide +kernel)⟩
  · exact holdsAt ((wLane 0).onLane 1 2
      fun x => { x with slots := [⟨2999, 1, 0, [4]⟩, ⟨3000, 1, 0, [4]⟩, ⟨3001, 0, 1, [5]⟩], stages := [⟨3000, [(0, [5])]⟩] }) (by decide +kernel)

/-- The hypotheses of LaneStrobes can be met, clause by clause. -/
theorem witness_LaneStrobes :
    (∃ (b : Fin 8) (l : Fin 32) (e : Strobe) (s : State), s.powered = true ∧
      ((s.lane b l).strobes.find? fun x => x.kind == .start && decide (x.arrive ≤ s.clk.time)) = some e ∧
      (s.lane b l).st = .ready ∧ (s.lane b l).enAt ≠ s.clk.time + 1) ∧
    (∃ (b : Fin 8) (l : Fin 32) (e : Strobe) (s : State), s.powered = true ∧
      ((s.lane b l).strobes.find? fun x => x.kind == .start && decide (x.arrive ≤ s.clk.time)) = some e ∧
      ((s.lane b l).st ≠ .ready ∨ (s.lane b l).enAt = s.clk.time + 1)) ∧
    (∃ (b : Fin 8) (l : Fin 32) (e : Strobe) (s : State), s.powered = true ∧
      ((s.lane b l).strobes.find? fun x => x.kind == .sync && decide (x.arrive ≤ s.clk.time)) = some e ∧
      (s.lane b l).st = .sync) ∧
    (∃ (b : Fin 8) (l : Fin 32) (s : State), s.powered = true ∧ (s.lane b l).st = .sync ∧
      (s.lane b l).cursor + liDl (s.laneWord b l ((s.lane b l).pc + 32767)) ≤ s.clk.time + 126) ∧
    (∃ (b : Fin 8) (l : Fin 32) (s : State), s.powered = true ∧ ((s.lane b l).st ≠ .sync ∨
      s.clk.time + 126 < (s.lane b l).cursor + liDl (s.laneWord b l ((s.lane b l).pc + 32767)))) ∧
    (∃ (b : Fin 8) (l : Fin 32) (e : Strobe) (s : State), s.powered = true ∧
      ((s.lane b l).strobes.find? fun x => x.kind == .flush && decide (x.arrive ≤ s.clk.time)) = some e ∧
      (s.lane b l).running = true ∧ (∀ x ∈ (s.lane b l).branches, x.bnd < e.s)) ∧
    (∃ (b : Fin 8) (l : Fin 32) (e : Strobe) (x : Branch) (rest : List Branch) (s : State), s.powered = true ∧
      ((s.lane b l).strobes.find? fun x => x.kind == .flush && decide (x.arrive ≤ s.clk.time)) = some e ∧
      (s.lane b l).running = true ∧ (s.lane b l).branches = x :: rest ∧ e.s ≤ x.bnd ∧ (∀ y ∈ rest, e.s ≤ y.bnd)) ∧
    (∃ (b : Fin 8) (l : Fin 32) (e : Strobe) (s : State), s.powered = true ∧
      ((s.lane b l).strobes.find? fun x => x.kind == .abort && decide (x.arrive ≤ s.clk.time)) = some e ∧
      (s.lane b l).st ≠ .off ∧ (s.lane b l).st ≠ .stopping) ∧
    (∃ (b : Fin 8) (l : Fin 32) (e : Strobe) (s : State), s.powered = true ∧
      ((s.lane b l).strobes.find? fun x => x.kind == .poison && decide (x.arrive ≤ s.clk.time)) = some e ∧
      (s.lane b l).st ≠ .off) ∧
    (∃ (b : Fin 8) (l : Fin 32) (e : Strobe) (s : State), s.powered = true ∧
      ((s.lane b l).strobes.find? fun x => x.kind == .stop && decide (x.arrive ≤ s.clk.time)) = some e ∧
      (s.lane b l).running = true) ∧
    (∃ (s : State), s.powered = true) ∧
    (∃ (s : State), s.powered = true) := by
  refine ⟨?_, ?_, ?_, ?_, ?_, ?_, ?_, ?_, ?_, ?_, ?_, ?_⟩
  · exact ⟨1, 2, ⟨.start, 3000, 3100⟩, holdsAt ((wLane 0).wStrobe .ready ⟨.start, 3000, 3100⟩) (by decide +kernel)⟩
  · exact ⟨1, 2, ⟨.start, 3000, 3100⟩, holdsAt ((wLane 0).wStrobe .issuing ⟨.start, 3000, 3100⟩) (by decide +kernel)⟩
  · exact ⟨1, 2, ⟨.sync, 3000, 3999⟩, holdsAt ((wLane 0).wStrobe .sync ⟨.sync, 3000, 3999⟩) (by decide +kernel)⟩
  · exact ⟨1, 2,
     holdsAt (((wLane 0).wStrobe .sync ⟨.sync, 4000, 4100⟩).onLane 1 2 fun x => { x with cursor := 3126 })
         (by decide +kernel)⟩
  · exact ⟨1, 2,
     holdsAt (((wLane 0).wStrobe .sync ⟨.sync, 4000, 4100⟩).onLane 1 2 fun x => { x with cursor := 3127 })
         (by decide +kernel)⟩
  · exact ⟨1, 2, ⟨.flush, 3000, 3999⟩,
     holdsAt ((((wLane 0).wStrobe .issuing ⟨.flush, 3000, 3999⟩).wQueue 1 2 0 [playA, playW]).wBranches [brA (5 * 2 ^ 58) 3998]) (by decide +kernel)⟩
  · exact ⟨1, 2, ⟨.flush, 3000, 3999⟩, brA (5 * 2 ^ 58) 3999, [brA (5 * 2 ^ 58) 9000],
     holdsAt ((((wLane 0).wStrobe .wait ⟨.flush, 3000, 3999⟩).wQueue 1 2 0 [playA, playW]).wBranches [brA (5 * 2 ^ 58) 3999, brA (5 * 2 ^ 58) 9000]) (by decide +kernel)⟩
  · exact ⟨1, 2, ⟨.abort, 3000, 3000⟩,
     holdsAt (((wLane 0).wStrobe .ready ⟨.abort, 3000, 3000⟩).wQueue 1 2 0 [playA]) (by decide +kernel)⟩
  · exact ⟨1, 2, ⟨.poison, 3000, 3000⟩, holdsAt ((wLane 0).wStrobe .done ⟨.poison, 3000, 3000⟩) (by decide +kernel)⟩
  · exact ⟨1, 2, ⟨.stop, 3000, 3000⟩,
     holdsAt (((wLane 0).wStrobe .sync ⟨.stop, 3000, 3000⟩).wQueue 1 2 0 [playA]) (by decide +kernel)⟩
  · exact holdsAt ((wLane 0).wStrobe .done ⟨.stop, 3000, 3000⟩) (by decide +kernel)
  · exact holdsAt ((wLane 0).wStrobe .done ⟨.stop, 3001, 3100⟩) (by decide +kernel)

/-- The hypotheses of LaneEnabling can be met, clause by clause. -/
theorem witness_LaneEnabling :
    (∃ (b : Fin 8) (l : Fin 32) (s : State), s.powered = true ∧ (s.lane b l).st = .off) ∧
    (∃ (b : Fin 8) (l : Fin 32) (s : State), s.powered = true ∧ (s.lane b l).st ≠ .off ∧ (s.lane b l).st ≠ .stopping) ∧
    (∃ (s : State), s.powered = true) ∧
    (∃ (b : Fin 8) (l : Fin 32) (s : State), s.powered = true ∧ (s.lane b l).st = .stopping ∧
      (s.lane b l).stopDue ≤ s.clk.time) ∧
    (∃ (b : Fin 8) (l : Fin 32) (s : State), s.powered = true ∧ ((s.lane b l).st ≠ .stopping ∨
      s.clk.time < (s.lane b l).stopDue)) ∧
    (∃ (b : Fin 8) (l : Fin 32) (s : State), s.powered = true ∧ (s.lane b l).st = .done ∧
      (∀ p ∈ (s.lane b l).allPlays, p.over s.clk.time = true) ∧ (s.lane b l).headQ = [] ∧ (s.lane b l).branches = []) ∧
    (∃ (b : Fin 8) (l : Fin 32) (s : State), s.powered = true ∧ (s.lane b l).st = .done ∧
      ((∃ p ∈ (s.lane b l).allPlays, p.over s.clk.time = false) ∨ (s.lane b l).headQ ≠ [] ∨
      (s.lane b l).branches ≠ [])) ∧
    (∃ (b : Fin 8) (l : Fin 32) (f : FrameUpd) (u : Nat) (s : State), s.powered = true ∧
      (s.lane b l).st ≠ .stopping ∧ firstDue s.clk.time (·.at_) (·.ser) (s.lane b l).frames = some f ∧
      s.voiceUnit b l f.voice = some u) ∧
    (∃ (b : Fin 8) (l : Fin 32) (s : State), s.powered = true ∧ (∀ f ∈ (s.lane b l).frames, s.clk.time < f.at_)) ∧
    (∃ (b : Fin 8) (l : Fin 32) (m : MarkUpd) (s : State), s.powered = true ∧ (s.lane b l).st ≠ .stopping ∧
      (s.lane b l).branches = [] ∧ firstDue s.clk.time (·.at_) (·.ser) (s.lane b l).marks = some m) ∧
    (∃ (b : Fin 8) (l : Fin 32) (s : State), s.powered = true ∧ (∀ m ∈ (s.lane b l).marks,
      ∃ x ∈ (s.lane b l).branches, x.ser ≤ m.ser)) := by
  refine ⟨?_, ?_, ?_, ?_, ?_, ?_, ?_, ?_, ?_, ?_, ?_⟩
  · exact ⟨1, 31, holdsAt ((wOn .run).wBench 1) (by decide +kernel)⟩
  · exact ⟨1, 2, holdsAt (wLane 0) (by decide +kernel)⟩
  · exact holdsAt ((wLane 0).wQueue 1 2 0 [playA]) (by decide +kernel)
  · exact ⟨1, 2,
     holdsAt ((((wLane 0).wQueue 1 2 0 [playA]).wBranches [brA (5 * 2 ^ 58) 9000]).onLane 1 2
         fun x => { x with st := .stopping, stopDue := 3000, stopReady := true }) (by decide +kernel)⟩
  · exact ⟨1, 2, holdsAt ((wLane 0).onLane 1 2 fun x => { x with st := .stopping, stopDue := 3001 })
      (by decide +kernel)⟩
  · exact ⟨1, 2,
     holdsAt (((wLane 0).wQueue 1 2 0 [{ playA with ends := 3000 }]).onLane 1 2 fun x => { x with st := .done })
         (by decide +kernel)⟩
  · exact ⟨1, 2,
     holdsAt (((wLane 0).wQueue 1 2 0 [{ playA with ends := 3001 }]).onLane 1 2 fun x => { x with st := .done })
         (by decide +kernel)⟩
  · exact ⟨1, 2, ⟨3, 2999, 0, 3, false, true, 77⟩, 31,
     holdsAt (((wLane 0).onLane 1 2
         fun x => { x with frames := [⟨3, 2999, 0, 3, false, true, 77⟩] }).setFld (R.LOOM_LANE_BIND 1 2) Fd.LOOM_LANE_BIND_DTONE 31 |>.raise (R.LOOM_LANE_BIND 1 2) Fd.LOOM_LANE_BIND_DEN) (by decide +kernel)⟩
  · exact ⟨1, 2,
     holdsAt ((wLane 0).onLane 1 2 fun x => { x with frames := [⟨3, 3001, 0, 3, false, true, 77⟩] })
         (by decide +kernel)⟩
  · exact ⟨1, 2, ⟨3, 2999, true, true, 7, 1⟩,
     holdsAt ((wLane 0).onLane 1 2 fun x => { x with marks := [⟨3, 2999, true, true, 7, 1⟩] }) (by decide +kernel)⟩
  · exact ⟨1, 2,
     holdsAt (((wLane 0).wBranches [brA 0 5000]).onLane 1 2
         fun x => { x with marks := [⟨5, 2999, true, true, 7, 1⟩] }) (by decide +kernel)⟩

/-- The hypotheses of OutputCommands can be met, clause by clause. -/
theorem witness_OutputCommands :
    (∃ (s : State), s.powered = true) ∧
    (∃ (s : State), s.powered = true) ∧
    (∃ (s : State), s.powered = true) ∧
    (∃ (b : Fin 8) (c : Fin 6) (s : State), s.powered = true ∧ s.rangeReady b c = true) ∧
    (∃ (b : Fin 8) (c : Fin 6) (s : State), s.powered = true ∧ s.rangeReady b c = false) ∧
    (∃ (b : Fin 8) (c : Fin 6) (n : Nat) (s : State), s.powered = true ∧ (s.conv b c).changeEnd = some n ∧
      n ≤ s.clk.time) ∧
    (∃ (b : Fin 8) (c : Fin 6) (s : State), s.powered = true ∧ (∀ n, (s.conv b c).changeEnd = some n →
      s.clk.time < n)) ∧
    (∃ (i : Fin 176) (s : State), s.powered = true ∧ s.mode.timeline = true ∧
      s.flag (R.TIME_FDLY i) Fd.TIME_FDLY_DLY_PEND = true ∧ s.outIdle i = true) ∧
    (∃ (i : Fin 176) (s : State), s.powered = true ∧ (s.mode.timeline = false ∨
      s.flag (R.TIME_FDLY i) Fd.TIME_FDLY_DLY_PEND = false ∨ s.outIdle i = false)) ∧
    (∃ (who : Who) (s : State), s.powered = true ∧ s.reaches who = true) ∧
    (∃ (s : State), s.powered = true ∧ s.clk.phAon = 0 ∧ bitAt s.slow.panel 16 = true) ∧
    (∃ (s : State), s.powered = true ∧ s.clk.phAon = 0 ∧ bitAt s.slow.panel 16 = false) ∧
    (∃ (s : State), s.powered = true) ∧
    (∃ (i : Nat) (codes : List Int) (s : State), s.powered = true ∧ s.pending = [] ∧
      NMap.wf (fun _ => []) s.out.pipe = true ∧ NMap.get (fun _ => []) s.out.pipe i = [(s.clk.now + 1, codes)]) ∧
    (∃ (codes : List Int) (s : State), (codes.all (· == 0)) = false) := by
  refine ⟨?_, ?_, ?_, ?_, ?_, ?_, ?_, ?_, ?_, ?_, ?_, ?_, ?_, ?_, ?_⟩
  · exact holdsAt (wOn .run) (by decide +kernel)
  · exact holdsAt (wOn .run) (by decide +kernel)
  · exact holdsAt (wOn .run) (by decide +kernel)
  · exact ⟨1, 5, holdsAt ((wOn .armed).setFld (R.OUT_CONV_FSR 1 5) Fd.OUT_CONV_FSR_REQ 7) (by decide +kernel)⟩
  · exact ⟨1, 5,
     holdsAt ((wOn .run).setFld (R.OUT_CONV_FSR 1 5) Fd.OUT_CONV_FSR_REQ 7 |>.onConv 1 5
         fun x => { x with changeEnd := some 3001 }) (by decide +kernel)⟩
  · exact ⟨1, 5, 3000,
     holdsAt (((wOn .armed).setFld (R.OUT_CONV_FSR 1 5) Fd.OUT_CONV_FSR_REQ 7).onConv 1 5
         fun x => { x with changeEnd := some 3000 }) (by decide +kernel)⟩
  · exact ⟨1, 5, holdsAt ((wOn .run).onConv 1 5 fun x => { x with changeEnd := some 3001 }) (by decide +kernel)⟩
  · exact ⟨175, holdsAt ((wOn .hold).setReg (R.TIME_FDLY 175) (2 ^ Fd.TIME_FDLY_DLY_PEND.lo + 0x1FF))
      (by decide +kernel)⟩
  · exact ⟨175, holdsAt ((wOn .idle).setReg (R.TIME_FDLY 175) (2 ^ Fd.TIME_FDLY_DLY_PEND.lo + 0x1FF))
      (by decide +kernel)⟩
  · exact ⟨.porter, holdsAt (wOn .run) (by decide +kernel)⟩
  · exact holdsAt ({ wOn .run with slow := { panel := 0x30000 } }) (by decide +kernel)
  · exact holdsAt ({ wOn .run with slow := { panel := 0x20000 }, out := { parked := true } }) (by decide +kernel)
  · exact holdsAt ({ wOn .run with slow := { panel := 0x20000 } }) (by decide +kernel)
  · exact ⟨7, [1, -2, 3, 4],
     holdsAt ({ wIn .idle with out := { pipe := [(7, [((wIn .idle).clk.now + 1, [1, -2, 3, 4])])] } })
         (by decide +kernel)⟩
  · exact ⟨[1, -2, 3, 4], holdsAt (wOn .run) (by decide +kernel)⟩

/-- The hypotheses of ReadoutCommands can be met, clause by clause. -/
theorem witness_ReadoutCommands :
    (∃ (s : State), s.powered = true) ∧
    (∃ (s : State), s.powered = true) ∧
    (∃ (b : Fin 8) (a : Fin 2) (s : State), s.powered = true ∧ s.attnPend b a = true ∧ (s.adc b a).changeEnd = none ∧
      (s.mode ≠ .run ∨ s.loneOpening b a = true)) ∧
    (∃ (b : Fin 8) (a : Fin 2) (s : State), s.powered = true ∧ (s.attnPend b a = false ∨
      (s.adc b a).changeEnd ≠ none ∨ (s.mode = .run ∧ s.loneOpening b a = false))) ∧
    (∃ (b : Fin 8) (a : Fin 2) (n : Nat) (s : State), s.powered = true ∧ (s.adc b a).changeEnd = some n ∧
      n ≤ s.clk.time) ∧
    (∃ (b : Fin 8) (a : Fin 2) (s : State), s.powered = true ∧ (∀ n, (s.adc b a).changeEnd = some n → s.clk.time < n)) ∧
    (∃ (b : Fin 8) (c : Fin 32) (w : Win) (s : State), s.powered = true ∧ s.winDue b c = some w) ∧
    (∃ (b : Fin 8) (c : Fin 32) (s : State), s.powered = true ∧ s.winDue b c = none) ∧
    (∃ (b : Fin 8) (c : Fin 32) (o : Win) (w : Win) (xs : List (BitVec 12)) (s : State), s.powered = true ∧
      s.winRunning b c = some o ∧ w = s.adcTake o xs ∧ w.partials + 1 ≤ w.partialsDue ∧
      256 * (w.partials + 1) ≤ w.ready ∧ w.entryTick (16 * (w.partials + 1)) ≤ Int.ofNat s.clk.time ∧
      (s.eng b (c.val / 8)).runs = true ∧ (s.eng b (c.val / 8)).fifo.length < 64) ∧
    (∃ (b : Fin 8) (c : Fin 32) (o : Win) (w : Win) (xs : List (BitVec 12)) (s : State), s.powered = true ∧
      s.winRunning b c = some o ∧ w = s.adcTake o xs ∧ w.partials = w.partialsDue ∧ 16 * w.n ≤ w.ready ∧
      w.entryTick w.n ≤ Int.ofNat s.clk.time ∧ (s.eng b (c.val / 8)).runs = true ∧
      (s.eng b (c.val / 8)).fifo.length < 64) ∧
    (∃ (b : Fin 8) (c : Fin 32) (o : Win) (xs : List (BitVec 12)) (s : State), s.powered = true ∧
      s.winRunning b c = some o ∧ (s.adcTake o xs).ready < 256 * (o.partials + 1) ∧ (s.adcTake o xs).ready < 16 * o.n) ∧
    (∃ (who : Who) (s : State), s.powered = true ∧ s.dataOpen who = true) ∧
    (∃ (b : Fin 8) (c : Fin 32) (o : Win) (w : Win) (xs : List (BitVec 12)) (s : State), s.powered = true ∧
      ((s.chan b c).wins.find? fun w => w.opened && !w.void_ && w.tmode != 0 && decide (w.traceAt <
      w.traceItems.2.2)) = some o ∧ w = s.adcTake o xs ∧ w.tmode = 1 ∧
      16 * (w.traceAt + min 1016 (w.n - w.traceAt)) ≤ w.ready) := by
  refine ⟨?_, ?_, ?_, ?_, ?_, ?_, ?_, ?_, ?_, ?_, ?_, ?_, ?_⟩
  · exact holdsAt ((wOn .run).wWins [winA 16 12003]) (by decide +kernel)
  · exact holdsAt ((wOn .run).wWins [winA 16 11900]) (by decide +kernel)
  · exact ⟨1, 0,
     holdsAt (((wOn .hold).wWins [winA 16 11900]).setFld (R.READ_ACQ_CFG 1 0) Fd.READ_ACQ_CFG_ATTN_REQ 2)
         (by decide +kernel)⟩
  · exact ⟨1, 0,
     holdsAt (((wOn .run).wWins [winA 16 11900]).setFld (R.READ_ACQ_CFG 1 0) Fd.READ_ACQ_CFG_ATTN_REQ 2)
         (by decide +kernel)⟩
  · exact ⟨1, 0, 3000,
     holdsAt (((wOn .run).setFld (R.READ_ACQ_CFG 1 0) Fd.READ_ACQ_CFG_ATTN_REQ 2).onAdc 1 0
         fun x => { x with changeEnd := some 3000 }) (by decide +kernel)⟩
  · exact ⟨1, 0,
     holdsAt (((wOn .run).setFld (R.READ_ACQ_CFG 1 0) Fd.READ_ACQ_CFG_ATTN_REQ 2).onAdc 1 0
         fun x => { x with changeEnd := some 3001 }) (by decide +kernel)⟩
  · exact ⟨1, 9, winB 12003, holdsAt ((wOn .run).wWins [winA 16 11747, winB 12003]) (by decide +kernel)⟩
  · exact ⟨1, 9, holdsAt ((wOn .run).wWins [winA 16 11747, winB 12004]) (by decide +kernel)⟩
  · exact ⟨1, 9, (((((wOn .run).wWins [(winA 64 11400).wFull 256]).wEng).winRunning 1 9).getD (winA 16 0)),
     (((wOn .run).wWins [(winA 64 11400).wFull 256]).wEng).adcTake (((((wOn .run).wWins [(winA 64 11400).wFull 256]).wEng).winRunning 1 9).getD (winA 16 0)) [],
     [], holdsAt (((wOn .run).wWins [(winA 64 11400).wFull 256]).wEng) (by decide +kernel)⟩
  · exact ⟨1, 9, (((((wOn .run).wWins [(winA 16 11400).wFull 256]).wEng).winRunning 1 9).getD (winA 16 0)),
     (((wOn .run).wWins [(winA 16 11400).wFull 256]).wEng).adcTake (((((wOn .run).wWins [(winA 16 11400).wFull 256]).wEng).winRunning 1 9).getD (winA 16 0)) [],
     [], holdsAt (((wOn .run).wWins [(winA 16 11400).wFull 256]).wEng) (by decide +kernel)⟩
  · exact ⟨1, 9, (((((wOn .run).wWins [(winA 16 11400).wFull 200]).wEng).winRunning 1 9).getD (winA 16 0)), [],
     holdsAt (((wOn .run).wWins [(winA 16 11400).wFull 200]).wEng) (by decide +kernel)⟩
  · exact ⟨.porter, holdsAt ((wOn .run).wWins [winA 16 11744]) (by decide +kernel)⟩
  · exact ⟨1, 9,
     (((((wOn .run).wWins [(winA 16 11400).wFull 256]).chan 1 9).wins.find? fun z => z.opened && !z.void_ && z.tmode != 0 && decide (z.traceAt < z.traceItems.2.2)).getD (winA 16 0)),
     ((wOn .run).wWins [(winA 16 11400).wFull 256]).adcTake (((((wOn .run).wWins [(winA 16 11400).wFull 256]).chan 1 9).wins.find? fun z => z.opened && !z.void_ && z.tmode != 0 && decide (z.traceAt < z.traceItems.2.2)).getD (winA 16 0)) [],
     [], holdsAt ((wOn .run).wWins [(winA 16 11400).wFull 256]) (by decide +kernel)⟩

/-- The hypotheses of AssayControlSlot can be met, clause by clause. -/
theorem witness_AssayControlSlot :
    (∃ (b : Fin 8) (e : Fin 4) (w : Nat) (s : State), s.powered = true ∧ s.ctlNow b e 1 = some w) ∧
    (∃ (b : Fin 8) (e : Fin 4) (w : Nat) (s : State), s.powered = true ∧ s.ctlNow b e 2 = some w) ∧
    (∃ (b : Fin 8) (e : Fin 4) (w : Nat) (s : State), s.powered = true ∧ s.ctlNow b e 3 = some w) ∧
    (∃ (b : Fin 8) (e : Fin 4) (w : Nat) (h : Entry) (rest : List Entry) (s : State), s.powered = true ∧
      s.ctlNow b e 4 = some w ∧ (s.eng b e).fifo = h :: rest ∧ cycleFrom (s.eng b e).cyc h.at_ ≤ s.clk.time ∧ (∀ n,
      (s.eng b e).waitFrom = some n → h.at_ < s.waitEnd b e w n)) ∧
    (∃ (b : Fin 8) (e : Fin 4) (w : Nat) (s : State), s.powered = true ∧ s.ctlNow b e 4 = some w ∧
      (s.eng b e).fifo = [] ∧ (s.eng b e).waitFrom = none) ∧
    (∃ (b : Fin 8) (e : Fin 4) (w : Nat) (n : Nat) (s : State), s.powered = true ∧ s.ctlNow b e 4 = some w ∧
      (s.eng b e).waitFrom = some n ∧
      n + 2 * s.fld (R.ASSAY_TO b e (bitsOf (ctlOf w) 10 2)) Fd.ASSAY_TO_TO ≤ s.clk.time ∧ (∀ h ∈ (s.eng b e).fifo,
      n + 2 * s.fld (R.ASSAY_TO b e (bitsOf (ctlOf w) 10 2)) Fd.ASSAY_TO_TO ≤ h.at_)) ∧
    (∃ (b : Fin 8) (e : Fin 4) (w : Nat) (s : State), s.powered = true ∧ s.ctlNow b e 5 = some w ∧
      setBit (s.eng b e).done 0 = slotsOf w ∧ (s.eng b e).st ≠ .rep ∧ (s.eng b e).halted = false ∧
      slotsOf (s.bundle b e ((s.eng b e).pc + 1)) ≠ 0) ∧
    (∃ (b : Fin 8) (e : Fin 4) (s : State), s.powered = true ∧ (s.eng b e).st = .rep ∧ (s.eng b e).rep = 0 ∧
      (s.eng b e).repDone < 2 ^ 17 ∧ (s.eng b e).pc < 4096 ∧ (s.eng b e).cyc ≤ s.clk.time) ∧
    (∃ (b : Fin 8) (e : Fin 4) (w : Nat) (s : State), s.powered = true ∧ s.ctlNow b e 6 = some w) ∧
    (∃ (b : Fin 8) (e : Fin 4) (w : Nat) (s : State), s.powered = true ∧ s.ctlNow b e 7 = some w) ∧
    (∃ (b : Fin 8) (e : Fin 4) (w : Nat) (s : State), s.powered = true ∧ s.ctlNow b e 8 = some w ∧
      bitsOf (ctlOf w) 8 4 = 0) ∧
    (∃ (b : Fin 8) (e : Fin 4) (w : Nat) (s : State), s.powered = true ∧ s.ctlNow b e 8 = some w ∧
      bitsOf (ctlOf w) 8 4 = 1 ∧ setBit (s.eng b e).done 0 = slotsOf w) ∧
    (∃ (s : State), s.powered = true) ∧
    (∃ (b : Fin 8) (e : Fin 4) (s : State), s.powered = true ∧ ((s.eng b e).st ≠ .rep ∨ (s.eng b e).rep ≠ 0 ∨
      s.clk.time < (s.eng b e).cyc)) := by
  refine ⟨?_, ?_, ?_, ?_, ?_, ?_, ?_, ?_, ?_, ?_, ?_, ?_, ?_, ?_⟩
  · exact ⟨1, 1, bundleA 0x1006 0 0, holdsAt (wAssay (bundleA 0x1006 0 0)) (by decide +kernel)⟩
  · exact ⟨1, 1, bundleA 0x2006 0 0, holdsAt (wAssay (bundleA 0x2006 0 0)) (by decide +kernel)⟩
  · exact ⟨1, 1, bundleA 0x3001 0 0, holdsAt (wAssay (bundleA 0x3001 0 0)) (by decide +kernel)⟩
  · exact ⟨1, 1, bundleA 0x4001 0 0, ⟨0x10309, [1, 2, 3, 4], 9, 3, 2990⟩, [⟨0x10409, [1, 2, 3, 4], 9, 4, 2991⟩],
     holdsAt ((wAssay (bundleA 0x4001 0 0)).onEng 1 1
         fun x => { x with fifo := [⟨0x10309, [1, 2, 3, 4], 9, 3, 2990⟩, ⟨0x10409, [1, 2, 3, 4], 9, 4, 2991⟩] })
         (by decide +kernel)⟩
  · exact ⟨1, 1, bundleA 0x4001 0 0, holdsAt (wAssay (bundleA 0x4001 0 0)) (by decide +kernel)⟩
  · exact ⟨1, 1, bundleA 0x4001 0 0, 3000,
     holdsAt ((wAssay (bundleA 0x4001 0 0)).onEng 1 1 fun x => { x with st := .wait, waitFrom := some 3000 })
         (by decide +kernel)⟩
  · exact ⟨1, 1, bundleA 0x5003 0 0, holdsAt (wAssay (bundleA 0x5003 0 0)) (by decide +kernel)⟩
  · exact ⟨1, 1,
     holdsAt ((wAssay (bundleA 0x1006 0 0)).onEng 1 1 fun x => { x with st := .rep, repDone := 4 })
         (by decide +kernel)⟩
  · exact ⟨1, 1, bundleA 0x6000 0 0, holdsAt (wAssay (bundleA 0x6000 0 0)) (by decide +kernel)⟩
  · exact ⟨1, 1, bundleA 0x7000 0 0, holdsAt (wAssay (bundleA 0x7000 0 0)) (by decide +kernel)⟩
  · exact ⟨1, 1, bundleA 0x8000 0 0,
     holdsAt ((wAssay (bundleA 0x8000 0 0)).onEng 1 1 fun x => { x with stack := [1, 2] }) (by decide +kernel)⟩
  · exact ⟨1, 1, bundleA 0x8100 0 0, holdsAt (wAssay (bundleA 0x8100 0 0)) (by decide +kernel)⟩
  · exact holdsAt (wAssay (bundleA 0x8300 0 0)) (by decide +kernel)
  · exact ⟨1, 1, holdsAt (wAssay (bundleA 0x8300 0 0)) (by decide +kernel)⟩

/-- The hypotheses of AssayMacSlot can be met, clause by clause. -/
theorem witness_AssayMacSlot :
    (∃ (b : Fin 8) (e : Fin 4) (w : Nat) (s : State), s.powered = true ∧ s.macNow b e 1 = some w) ∧
    (∃ (b : Fin 8) (e : Fin 4) (w : Nat) (h : Nat) (k : Nat) (s : State), s.powered = true ∧
      s.macNow b e 2 = some w ∧ h = (if bitAt (macOf w) 18 then 2 else 0) ∧ k = (if bitAt (macOf w) 14 then 2 else 0)) ∧
    (∃ (b : Fin 8) (e : Fin 4) (w : Nat) (s : State), s.powered = true ∧ s.macNow b e 3 = some w) ∧
    (∃ (b : Fin 8) (e : Fin 4) (w : Nat) (s : State), s.powered = true ∧ s.macNow b e 4 = some w) ∧
    (∃ (b : Fin 8) (e : Fin 4) (w : Nat) (s : State), s.powered = true ∧ s.macNow b e 5 = some w) ∧
    (∃ (b : Fin 8) (e : Fin 4) (w : Nat) (s : State), s.powered = true ∧ s.macNow b e 6 = some w) ∧
    (∃ (b : Fin 8) (e : Fin 4) (w : Nat) (s : State), s.powered = true ∧ s.macNow b e 7 = some w) ∧
    (∃ (b : Fin 8) (e : Fin 4) (w : Nat) (s : State), s.powered = true ∧ s.macNow b e 8 = some w) ∧
    (∃ (b : Fin 8) (e : Fin 4) (w : Nat) (s : State), s.powered = true ∧ s.macNow b e 9 = some w) ∧
    (∃ (b : Fin 8) (e : Fin 4) (w : Nat) (d : Nat) (c : Nat) (v : Int) (s : State), s.powered = true ∧
      s.macNow b e 10 = some w ∧ d = bitsOf (macOf w) 18 6 ∧ c = bitsOf (macOf w) 12 6 ∧
      v = (if c = 38 then (s.eng b e).regs.best else if c = 39 then (s.eng b e).regs.next else (s.eng b e).regs.areg
      (c - 16))) ∧
    (∃ (b : Fin 8) (e : Fin 4) (w : Nat) (s : State), s.powered = true ∧ s.macNow b e 11 = some w) ∧
    (∃ (b : Fin 8) (e : Fin 4) (w : Nat) (s : State), s.powered = true ∧ s.macNow b e 12 = some w) ∧
    (∃ (b : Fin 8) (e : Fin 4) (w : Nat) (s : State), s.powered = true ∧ s.macNow b e 13 = some w) ∧
    (∃ (s : State), s.powered = true) := by
  refine ⟨?_, ?_, ?_, ?_, ?_, ?_, ?_, ?_, ?_, ?_, ?_, ?_, ?_, ?_⟩
  · exact ⟨1, 1, bundleA 0 (1 * 2 ^ 24 + 7 * 2 ^ 15 + 1 * 2 ^ 19) 0,
     holdsAt ((wAssay (bundleA 0 (1 * 2 ^ 24 + 7 * 2 ^ 15 + 1 * 2 ^ 19) 0)).wRegs) (by decide +kernel)⟩
  · exact ⟨1, 1, bundleA 0 (2 * 2 ^ 24 + 1 * 2 ^ 20) 0, 0, 0,
     holdsAt ((wAssay (bundleA 0 (2 * 2 ^ 24 + 1 * 2 ^ 20) 0)).wRegs) (by decide +kernel)⟩
  · exact ⟨1, 1, bundleA 0 (3 * 2 ^ 24 + 1 * 2 ^ 20 + 3 * 2 ^ 13) 0,
     holdsAt ((wAssay (bundleA 0 (3 * 2 ^ 24 + 1 * 2 ^ 20 + 3 * 2 ^ 13) 0)).wRegs) (by decide +kernel)⟩
  · exact ⟨1, 1, bundleA 0 (4 * 2 ^ 24 + 3 * 2 ^ 20 + 1 * 2 ^ 16 + 2 * 2 ^ 12 + 2 ^ 9) 0,
     holdsAt ((wAssay (bundleA 0 (4 * 2 ^ 24 + 3 * 2 ^ 20 + 1 * 2 ^ 16 + 2 * 2 ^ 12 + 2 ^ 9) 0)).wRegs)
         (by decide +kernel)⟩
  · exact ⟨1, 1, bundleA 0 (5 * 2 ^ 24 + 0 * 2 ^ 20 + 2 * 2 ^ 16 + 3 * 2 ^ 12 + 3 * 2 ^ 9) 0,
     holdsAt ((wAssay (bundleA 0 (5 * 2 ^ 24 + 0 * 2 ^ 20 + 2 * 2 ^ 16 + 3 * 2 ^ 12 + 3 * 2 ^ 9) 0)).wRegs)
         (by decide +kernel)⟩
  · exact ⟨1, 1, bundleA 0 (6 * 2 ^ 24 + 0 * 2 ^ 20 + 3 * 2 ^ 16 + 3 * 2 ^ 9) 0,
     holdsAt ((wAssay (bundleA 0 (6 * 2 ^ 24 + 0 * 2 ^ 20 + 3 * 2 ^ 16 + 3 * 2 ^ 9) 0)).wRegs) (by decide +kernel)⟩
  · exact ⟨1, 1, bundleA 0 (7 * 2 ^ 24 + 0 * 2 ^ 20 + 2 * 2 ^ 16 + 15 * 2 ^ 12 + 3 * 2 ^ 9) 0,
     holdsAt ((wAssay (bundleA 0 (7 * 2 ^ 24 + 0 * 2 ^ 20 + 2 * 2 ^ 16 + 15 * 2 ^ 12 + 3 * 2 ^ 9) 0)).wRegs)
         (by decide +kernel)⟩
  · exact ⟨1, 1, bundleA 0 (8 * 2 ^ 24 + 0 * 2 ^ 20 + 3 * 2 ^ 16 + 15 * 2 ^ 12 + 3 * 2 ^ 9) 0,
     holdsAt ((wAssay (bundleA 0 (8 * 2 ^ 24 + 0 * 2 ^ 20 + 3 * 2 ^ 16 + 15 * 2 ^ 12 + 3 * 2 ^ 9) 0)).wRegs)
         (by decide +kernel)⟩
  · exact ⟨1, 1, bundleA 0 (9 * 2 ^ 24 + 4 * 2 ^ 20 + 2 * 2 ^ 18 + 3 * 2 ^ 16 + 20 * 2 ^ 10) 0,
     holdsAt ((wAssay (bundleA 0 (9 * 2 ^ 24 + 4 * 2 ^ 20 + 2 * 2 ^ 18 + 3 * 2 ^ 16 + 20 * 2 ^ 10) 0)).wRegs)
         (by decide +kernel)⟩
  · exact ⟨1, 1, bundleA 0 (10 * 2 ^ 24 + 15 * 2 ^ 18 + 1 * 2 ^ 12) 0, 15, 1, 100,
     holdsAt ((wAssay (bundleA 0 (10 * 2 ^ 24 + 15 * 2 ^ 18 + 1 * 2 ^ 12) 0)).wRegs) (by decide +kernel)⟩
  · exact ⟨1, 1, bundleA 0 (11 * 2 ^ 24 + 3 * 2 ^ 18) 0,
     holdsAt ((wAssay (bundleA 0 (11 * 2 ^ 24 + 3 * 2 ^ 18) 0)).wRegs) (by decide +kernel)⟩
  · exact ⟨1, 1, bundleA 0 (12 * 2 ^ 24 + 1 * 2 ^ 22) 0,
     holdsAt ((wAssay (bundleA 0 (12 * 2 ^ 24 + 1 * 2 ^ 22) 0)).wRegs) (by decide +kernel)⟩
  · exact ⟨1, 1, bundleA 0 (13 * 2 ^ 24 + 0 * 2 ^ 22) 0,
     holdsAt ((wAssay (bundleA 0 (13 * 2 ^ 24 + 0 * 2 ^ 22) 0)).wRegs) (by decide +kernel)⟩
  · exact holdsAt (wAssay (bundleA 0x8300 0 0)) (by decide +kernel)

/-- The hypotheses of AssayAddressSlot can be met, clause by clause. -/
theorem witness_AssayAddressSlot :
    (∃ (b : Fin 8) (e : Fin 4) (w : Nat) (s : State), s.powered = true ∧ s.adrNow b e 0 = some w) ∧
    (∃ (b : Fin 8) (e : Fin 4) (w : Nat) (s : State), s.powered = true ∧ s.adrNow b e 1 = some w) ∧
    (∃ (b : Fin 8) (e : Fin 4) (w : Nat) (s : State), s.powered = true ∧ s.adrNow b e 2 = some w ∧
      (∀ r ∈ (s.eng b e).xyLate, r.y = true ∨ r.at_ < (s.eng b e).cyc) ∧ s.lastSlot b e 2 w ((s.eng b e).pc + 1) ∧
      ctlOp (ctlOf w) = 0 ∧ (s.eng b e).regs.preg (bitsOf (adrOf w) 15 3) < 4096) ∧
    (∃ (b : Fin 8) (e : Fin 4) (w : Nat) (s : State), s.powered = true ∧ s.adrNow b e 3 = some w) ∧
    (∃ (s : State), s.powered = true) ∧
    (∃ (who : Who) (s : State), s.powered = true ∧ s.dataOpen who = true) ∧
    (∃ (who : Who) (s : State), s.powered = true ∧ s.dataOpen who = true) ∧
    (∃ (who : Who) (b : Fin 8) (e : Fin 4) (y : Bool) (i : BitVec 12) (s : State), s.powered = true ∧
      s.dataOpen who = true ∧ (∀ x,
      NMap.get (fun _ => none) s.xyStages ((4 * b.val + e.val) * 8 + 2 * who.code + bit y) = some x →
      x.word ≠ i.toNat)) ∧
    (∃ (who : Who) (b : Fin 8) (e : Fin 4) (r : Fin 47) (v : Nat) (s : State), s.powered = true ∧
      s.reaches who = true ∧ (s.eng b e).regs.code r = some v) ∧
    (∃ (who : Who) (b : Fin 8) (e : Fin 4) (r : Fin 47) (old : Nat) (s : State), s.powered = true ∧
      s.reaches who = true ∧ r.val < 20 ∧ (s.eng b e).regs.code r = some old) := by
  refine ⟨?_, ?_, ?_, ?_, ?_, ?_, ?_, ?_, ?_, ?_⟩
  · exact ⟨1, 1, bundleA 0 0 (2 ^ 11 + 1 * 2 ^ 8 + 2 * 2 ^ 5),
     holdsAt ((wAssay (bundleA 0 0 (2 ^ 11 + 1 * 2 ^ 8 + 2 * 2 ^ 5))).wRegs) (by decide +kernel)⟩
  · exact ⟨1, 1, bundleA 0 0 (1 * 2 ^ 18 + 1 * 2 ^ 15 + 2 * 2 ^ 12),
     holdsAt ((wAssay (bundleA 0 0 (1 * 2 ^ 18 + 1 * 2 ^ 15 + 2 * 2 ^ 12))).wRegs) (by decide +kernel)⟩
  · exact ⟨1, 1, bundleA 0 0 (2 * 2 ^ 18 + 1 * 2 ^ 15 + 2 * 2 ^ 12 + 1 * 2 ^ 1),
     holdsAt ((wAssay (bundleA 0 0 (2 * 2 ^ 18 + 1 * 2 ^ 15 + 2 * 2 ^ 12 + 1 * 2 ^ 1))).wRegs) (by decide +kernel)⟩
  · exact ⟨1, 1, bundleA 0 0 (3 * 2 ^ 18 + 16 * 2 ^ 13),
     holdsAt (wAssay (bundleA 0 0 (3 * 2 ^ 18 + 16 * 2 ^ 13))) (by decide +kernel)⟩
  · exact holdsAt (wAssay (bundleA 0x8300 0 0)) (by decide +kernel)
  · exact ⟨.porter, holdsAt (wOn .idle) (by decide +kernel)⟩
  · exact ⟨.porter, holdsAt (wOn .idle) (by decide +kernel)⟩
  · exact ⟨.porter, 7, 3, true, 0xFFF, holdsAt (wOn .idle) (by decide +kernel)⟩
  · exact ⟨.porter, 1, 1, 15, 0, holdsAt (wOn .idle) (by decide +kernel)⟩
  · exact ⟨.porter, 1, 1, 15, 0, holdsAt (wOn .idle) (by decide +kernel)⟩

/-- The hypotheses of AssayRunning can be met, clause by clause. -/
theorem witness_AssayRunning :
    (∃ (b : Fin 8) (e : Fin 4) (s : State), s.powered = true ∧ s.benchOn b = true ∧ s.mode.engines = true ∧
      ((s.eng b e).st = .off ∨ (s.eng b e).runs = false ∧ s.flag (R.ASSAY_CTL b e) Fd.ASSAY_CTL_EN = false)) ∧
    (∃ (b : Fin 8) (e : Fin 4) (s : State), s.powered = true ∧ ((s.eng b e).runs = true ∨ s.mode.engines = false ∨
      s.benchOn b = false)) ∧
    (∃ (s : State), s.powered = true) ∧
    (∃ (b : Fin 8) (e : Fin 4) (s : State), s.powered = true ∧ (s.eng b e).stopReq = true ∧
      (s.eng b e).atBoundary = true) ∧
    (∃ (b : Fin 8) (e : Fin 4) (s : State), s.powered = true ∧ ((s.eng b e).stopReq = false ∨
      (s.eng b e).atBoundary = false)) ∧
    (∃ (s : State), s.powered = true) ∧
    (∃ (b : Fin 8) (e : Fin 4) (s : State), s.powered = true ∧ (s.eng b e).trapReq = true ∧
      (s.eng b e).stopReq = false ∧ (s.eng b e).atBoundary = true) ∧
    (∃ (b : Fin 8) (e : Fin 4) (s : State), s.powered = true ∧ ((s.eng b e).trapReq = false ∨
      (s.eng b e).stopReq = true ∨ (s.eng b e).atBoundary = false)) ∧
    (∃ (b : Fin 8) (e : Fin 4) (a : Answer) (s : State), s.powered = true ∧ (s.eng b e).nextAnswer = some a ∧
      ((s.eng b e).ansCyc ≠ s.clk.time / 2 + 1 ∨ (s.eng b e).ansCount < if (s.eng b e).runs then 1 else 2)) ∧
    (∃ (b : Fin 8) (e : Fin 4) (s : State), s.powered = true ∧ ((s.eng b e).nextAnswer = none ∨
      (s.eng b e).ansCyc = s.clk.time / 2 + 1 ∧ (if (s.eng b e).runs then 1 else 2) ≤ (s.eng b e).ansCount)) := by
  refine ⟨?_, ?_, ?_, ?_, ?_, ?_, ?_, ?_, ?_, ?_⟩
  · exact ⟨1, 1, holdsAt (((wOn .run).wBench 1).wBundle 0 (bundleA 0x1006 0 0)) (by decide +kernel)⟩
  · exact ⟨1, 1, holdsAt ((wOn .run).wEng) (by decide +kernel)⟩
  · exact holdsAt ((wOn .run).wEng) (by decide +kernel)
  · exact ⟨1, 1,
     holdsAt (((wAssay (bundleA 0x1006 0 0)).wWins [winA 16 11400]).onEng 1 1 fun x => { x with stopReq := true })
         (by decide +kernel)⟩
  · exact ⟨1, 1, holdsAt ((wOn .run).wEng) (by decide +kernel)⟩
  · exact holdsAt ((wOn .run).wEng) (by decide +kernel)
  · exact ⟨1, 1,
     holdsAt (((wAssay (bundleA 0x1006 0 0)).wBundle 0 (bundleA 0x1006 0 0)).onEng 1 1
         fun x => { x with trapReq := true }) (by decide +kernel)⟩
  · exact ⟨1, 1, holdsAt ((wOn .run).wEng) (by decide +kernel)⟩
  · exact ⟨1, 1, ⟨9, 3, false⟩,
     holdsAt (((wOn .run).wEng.wWins [winA 16 11400]).onEng 1 1 fun x => { x with answers := [⟨9, 3, false⟩] })
         (by decide +kernel)⟩
  · exact ⟨1, 1, holdsAt ((wOn .run).wEng) (by decide +kernel)⟩

/-- The hypotheses of DefaultWord can be met, clause by clause. -/
theorem witness_DefaultWord :
    (∃ (b : Fin 8) (e : Fin 4) (s : State) (t : State), exec (.autoAnswer b e) s = .next t) :=
  ⟨1, 1, ((wOn .run).wEng.wWins [winA 16 11400]).onEng 1 1 fun x => { x with answers := [⟨9, 3, false⟩] },
   answered (((wOn .run).wEng.wWins [winA 16 11400]).onEng 1 1 fun x => { x with answers := [⟨9, 3, false⟩] }), rfl⟩

/-- The hypotheses of DecisionAndCrierCommands can be met, clause by clause. -/
theorem witness_DecisionAndCrierCommands :
    (∃ (b : Fin 8) (w : BusWord) (s : State), s.powered = true ∧
      (s.dec.bus.find? fun w => w.bench == b.val && decide (w.due ≤ s.clk.time)) = some w) ∧
    (∃ (b : Fin 8) (s : State), s.powered = true ∧ (∀ w ∈ s.dec.bus, w.bench = b.val → s.clk.time < w.due)) ∧
    (∃ (b : Fin 8) (n : Nat) (s : State), s.powered = true ∧ s.clk.time % 8 = b.val ∧
      NMap.get (fun _ => 0) s.dec.slotUsed b ≠ s.clk.time + 1 ∧ n < 256 ∧ (s.tag b n).st = .ready ∧
      (s.tag b n).readyTick < s.clk.time ∧ (∀ m < n, (s.tag b m).st = .ready → s.clk.time ≤ (s.tag b m).readyTick)) ∧
    (∃ (b : Fin 8) (s : State), s.powered = true ∧ (s.clk.time % 8 ≠ b ∨
      NMap.get (fun _ => 0) s.dec.slotUsed b = s.clk.time + 1 ∨ (∀ n < 256, (s.tag b n).st = .ready →
      s.clk.time ≤ (s.tag b n).readyTick))) ∧
    (∃ (b : Fin 8) (a : OltAct) (s : State), s.powered = true ∧
      (s.dec.acts.find? fun a => a.bench == b.val && decide (a.due ≤ s.clk.time)) = some a) ∧
    (∃ (b : Fin 8) (s : State), s.powered = true ∧ (∀ a ∈ s.dec.acts, a.bench = b.val → s.clk.time < a.due)) ∧
    (∃ (p : Fin 14) (c : CrierCell) (s : State), s.powered = true ∧ s.clk.time % 24 = 0 ∧ s.mode ≠ .trim ∧
      s.mode ≠ .service ∧ s.portUsed p = true ∧ (s.port p).running = true ∧ (s.port p).sent ≠ s.clk.time + 1 ∧
      c = (s.portCell p).2) ∧
    (∃ (p : Fin 14) (c : CrierCell) (s : State), s.powered = true ∧ s.clk.time % 12 = 0 ∧ (s.mode = .trim ∨
      s.mode = .service) ∧ s.portUsed p = true ∧ (s.port p).running = true ∧ (s.port p).sent ≠ s.clk.time + 1 ∧
      c = (s.portCell p).2) ∧
    (∃ (s : State), s.powered = true ∧ s.clk.time % (if s.mode == .trim || s.mode == .service then 12 else 24) ≠ 0) ∧
    (∃ (p : Fin 14) (w : BitVec 128) (c : CrierCell) (i : Nat) (v : Bool) (s : State), s.powered = true ∧
      s.portUsed p = true ∧ (s.port p).running = true ∧ (s.port p).up = true ∧ s.mode ≠ .trim ∧ s.mode ≠ .service ∧
      cellGood w.toNat = true ∧ c = cellOf w.toNat ∧ c.control = false ∧ s.cellRight p c = true ∧ c.updates = [(i,
      v)]) ∧
    (∃ (p : Fin 14) (w : BitVec 128) (c : CrierCell) (i : Nat) (v : Bool) (s : State), s.powered = true ∧
      s.portUsed p = true ∧ (s.port p).running = true ∧ (s.port p).up = true ∧ s.mode ≠ .trim ∧ s.mode ≠ .service ∧
      cellGood w.toNat = true ∧ c = cellOf w.toNat ∧ c.control = true ∧ c.kind = 1 ∧ s.cellRight p c = true ∧
      c.slots = List.replicate 7 (i, v) ∧ s.accepts p c.src i = true) ∧
    (∃ (p : Fin 14) (w : BitVec 128) (s : State), s.powered = true ∧ s.portUsed p = true ∧
      (s.port p).running = true ∧ cellGood w.toNat = true ∧ s.cellRight p (cellOf w.toNat) = false) ∧
    (∃ (p : Fin 14) (w : BitVec 128) (c : CrierCell) (i : Nat) (v : Bool) (s : State), s.powered = true ∧
      s.portUsed p = true ∧ (s.port p).running = true ∧ (s.port p).up = true ∧ s.mode ≠ .trim ∧ s.mode ≠ .service ∧
      (s.port p).even ≠ some true ∧ cellGood w.toNat = true ∧ c = cellOf w.toNat ∧ c.control = false ∧
      s.cellRight p c = true ∧ c.updates = [(i, v)] ∧ s.accepts p c.src i = true) ∧
    (∃ (p : Fin 14) (s : State), s.powered = true ∧ (s.port p).up = true ∧ s.mode ≠ .trim ∧ s.mode ≠ .service ∧
      (s.port p).even = some true) ∧
    (∃ (p : Fin 14) (w : Option (BitVec 128)) (s : State), s.powered = true ∧ s.portUsed p = true ∧
      (s.port p).running = true ∧ (s.port p).up = true ∧ (∀ x, w = some x → cellGood x.toNat = false)) ∧
    (∃ (p : Fin 14) (s : State), s.powered = true ∧ (s.portUsed p = false ∨ (s.port p).running = false)) ∧
    (∃ (p : Fin 14) (s : State), s.powered = true ∧ s.portUsed p = true ∧ (s.port p).running = true ∧
      (s.port p).up = false ∧ 32 ≤ (s.port p).good) ∧
    (∃ (p : Fin 14) (s : State), s.powered = true ∧ (s.port p).up = true ∧ 16 ≤ (s.port p).bad) ∧
    (∃ (s : State), s.powered = true) := by
  refine ⟨?_, ?_, ?_, ?_, ?_, ?_, ?_, ?_, ?_, ?_, ?_, ?_, ?_, ?_, ?_, ?_, ?_, ?_, ?_⟩
  · exact ⟨1, wordA,
     holdsAt (let s : State := (wOn .run).wWins [winA 16 11400]; { s with dec := { s.dec with bus := [wordA] } })
         (by decide +kernel)⟩
  · exact ⟨1, holdsAt (wOn .run) (by decide +kernel)⟩
  · exact ⟨1, 255,
     holdsAt (((wOn .run).wTime 3001).onTag 1 255 fun x => { x with st := .ready, readyTick := 3000 })
         (by decide +kernel)⟩
  · exact ⟨1, holdsAt (wOn .run) (by decide +kernel)⟩
  · exact ⟨1, { bench := 1, tag := 7, idx := 3, act := 0x803, due := 3000 },
     holdsAt (let s : State := (wLane 0).wBranches [brA (5 * 2 ^ 58 + 3 * 2 ^ 54 + 7 * 2 ^ 16) 5000];
         { s with dec := { s.dec with acts := [{ bench := 1, tag := 7, idx := 3, act := 0x803, due := 3000 }] } })
         (by decide +kernel)⟩
  · exact ⟨1, holdsAt (wOn .run) (by decide +kernel)⟩
  · exact ⟨3, (((((wOn .run).wCrier 3).setReg (R.DEC_CRIER_SLOTS_LO 3) 1)).portCell 3).2,
     (((wOn .run).wCrier 3).setReg (R.DEC_CRIER_SLOTS_LO 3) 1), by decide +kernel, by decide +kernel,
     by decide +kernel, by decide +kernel, by decide +kernel, by decide +kernel, by decide +kernel, rfl⟩
  · exact ⟨3, (((wOn .trim).wCrier 3).portCell 3).2, (wOn .trim).wCrier 3, by decide +kernel, by decide +kernel,
     by decide +kernel, by decide +kernel, by decide +kernel, by decide +kernel, rfl⟩
  · exact holdsAt (((wOn .run).wCrier 3).wTime 3012) (by decide +kernel)
  · exact ⟨3, BitVec.ofNat 128 (cellA 1).word, cellOf (BitVec.ofNat 128 (cellA 1).word).toNat, 5, true,
     holdsAt ((wOn .run).wCrier 3) (by decide +kernel)⟩
  · exact ⟨3, BitVec.ofNat 128 (cellR 1).word, cellOf (BitVec.ofNat 128 (cellR 1).word).toNat, 5, true,
     holdsAt ((wOn .run).wCrier 3) (by decide +kernel)⟩
  · exact ⟨3, BitVec.ofNat 128 (cellA 2).word, holdsAt ((wOn .run).wCrier 3) (by decide +kernel)⟩
  · exact ⟨3, BitVec.ofNat 128 (cellA 1).word, cellOf (BitVec.ofNat 128 (cellA 1).word).toNat, 5, true,
     holdsAt (((wOn .run).wCrier 3).onPort 3 fun x => { x with even := some false }) (by decide +kernel)⟩
  · exact ⟨3, holdsAt (((wOn .run).wCrier 3).onPort 3 fun x => { x with even := some true }) (by decide +kernel)⟩
  · exact ⟨3, some (BitVec.ofNat 128 (cellA 1).word + 1),
     ((wOn .run).wCrier 3).onPort 3 fun x => { x with even := some false }, by decide +kernel, by decide +kernel,
     by decide +kernel, by decide +kernel, fun x h => by rewrite [← Option.some.inj h]; decide +kernel⟩
  · exact ⟨3, holdsAt (wOn .run) (by decide +kernel)⟩
  · exact ⟨3, holdsAt (((wOn .run).wCrier 3).onPort 3 fun x => { x with up := false, good := 32 })
      (by decide +kernel)⟩
  · exact ⟨3, holdsAt (((wOn .run).wCrier 3).onPort 3 fun x => { x with bad := 16 }) (by decide +kernel)⟩
  · exact holdsAt ((wOn .run).wCrier 3) (by decide +kernel)

/-- The hypotheses of ForemanBranches can be met, clause by clause. -/
theorem witness_ForemanBranches :
    (∃ (b : Fin 8) (w : Nat) (s : State) (n : State), s.powered = true ∧ s.fmDue b 0 = some w ∧ s.fmNow b = n ∧
      mwBrs w = 1) ∧
    (∃ (b : Fin 8) (w : Nat) (s : State) (n : State), s.powered = true ∧ s.fmDue b 0 = some w ∧ s.fmNow b = n ∧
      mwBrs w = 2) ∧
    (∃ (b : Fin 8) (w : Nat) (s : State) (n : State), s.powered = true ∧ s.fmDue b 0 = some w ∧ s.fmNow b = n ∧
      mwBrs w = 3) ∧
    (∃ (b : Fin 8) (w : Nat) (s : State) (n : State), s.powered = true ∧ s.fmDue b 0 = some w ∧ s.fmNow b = n ∧
      mwBrs w = 4) ∧
    (∃ (b : Fin 8) (w : Nat) (s : State) (n : State), s.powered = true ∧ s.fmDue b 0 = some w ∧ s.fmNow b = n ∧
      mwBrs w = 5) ∧
    (∃ (b : Fin 8) (w : Nat) (x : FmFrame) (rest : List FmFrame) (s : State) (n : State), s.powered = true ∧
      s.fmDue b 0 = some w ∧ s.fmNow b = n ∧ mwBrs w = 8 ∧ (n.fm b).frames = x :: rest) ∧
    (∃ (b : Fin 8) (w : Nat) (s : State) (n : State), s.powered = true ∧ s.fmDue b 0 = some w ∧ s.fmNow b = n ∧
      mwBrs w = 8 ∧ (n.fm b).frames = []) ∧
    (∃ (b : Fin 8) (w : Nat) (s : State) (n : State), s.powered = true ∧ s.fmDue b 0 = some w ∧ s.fmNow b = n ∧
      mwBrs w = 9) ∧
    (∃ (b : Fin 8) (k : Nat) (w : Nat) (c : Instr) (s : State) (n : State), s.powered = true ∧ s.fmDue b 0 = some w ∧
      s.fmNow b = n ∧ mwBrs w = k ∧ (k = 1 ∧ c = .jump b ∨ k = 2 ∧ c = .mw2 b ∨ k = 3 ∧ c = .mw4 b ∨ k = 4 ∧
      c = .mw8 b ∨ k = 5 ∧ c = .mw16 b ∨ k = 8 ∧ c = .tret b ∧ (n.fm b).frames ≠ [] ∨ k = 9 ∧ c = .foremanEnd b) ∧
      setBit (n.fm b).done 0 ≠ mwNeed w) ∧
    (∃ (b : Fin 8) (k : Nat) (w : Nat) (c : Instr) (s : State) (n : State), s.powered = true ∧ s.fmDue b 0 = some w ∧
      s.fmNow b = n ∧ mwBrs w = k ∧ (k, c) ∈ [(1, .jump b), (2, .mw2 b), (3, .mw4 b), (4, .mw8 b), (5, .mw16 b)] ∧
      setBit (n.fm b).done 0 = mwNeed w ∧ (n.fm b).fault = 0 ∧ (n.fm b).halt = none ∧ (n.fm b).shotIssued = false ∧
      (n.fm b).stopReq = true ∧ (n.fm b).region = none) ∧
    (∃ (b : Fin 8) (k : Nat) (c : Instr) (s : State), s.powered = true ∧ (k, c) ∈ [(1, .jump b), (2, .mw2 b), (3,
      .mw4 b), (4, .mw8 b), (5, .mw16 b), (8, .tret b), (9, .foremanEnd b)] ∧ (∀ w ∈ s.fmDue b 0, mwBrs w ≠ k)) ∧
    (∃ (b : Fin 8) (w : Nat) (s : State), s.fmRuns b = true ∧ (s.fm b).st = .run ∧ (s.fm b).fault = 0 ∧
      (s.fm b).halt = none ∧ (s.fm b).shotIssued = false ∧ (s.fm b).stopReq = false ∧ (s.fm b).word = w ∧
      mwNeed w = 0 ∧ (s.fm b).cyc + 2 ≤ s.clk.time ∧ s.clk.time < (s.fm b).cyc + 4) := by
  refine ⟨?_, ?_, ?_, ?_, ?_, ?_, ?_, ?_, ?_, ?_, ?_, ?_⟩
  · exact ⟨1, 1 * 2 ^ 15 + 0x4010, wFm (1 * 2 ^ 15 + 0x4010), (wFm (1 * 2 ^ 15 + 0x4010)).fmNow 1, by decide +kernel⟩
  · exact ⟨1, 2 * 2 ^ 15 + 0x4010, wFm (2 * 2 ^ 15 + 0x4010), (wFm (2 * 2 ^ 15 + 0x4010)).fmNow 1, by decide +kernel⟩
  · exact ⟨1, 3 * 2 ^ 15 + 0x4010, wFm (3 * 2 ^ 15 + 0x4010), (wFm (3 * 2 ^ 15 + 0x4010)).fmNow 1, by decide +kernel⟩
  · exact ⟨1, 4 * 2 ^ 15 + 0x4010, wFm (4 * 2 ^ 15 + 0x4010), (wFm (4 * 2 ^ 15 + 0x4010)).fmNow 1, by decide +kernel⟩
  · exact ⟨1, 5 * 2 ^ 15 + 0x4010, wFm (5 * 2 ^ 15 + 0x4010), (wFm (5 * 2 ^ 15 + 0x4010)).fmNow 1, by decide +kernel⟩
  · exact ⟨1, 8 * 2 ^ 15 + 0x4010 + 5 * 2 ^ 90, frameA false, [frameA true],
     (wFm (8 * 2 ^ 15 + 0x4010 + 5 * 2 ^ 90)).onFm 1 fun f => { f with frames := [frameA false, frameA true] },
     ((wFm (8 * 2 ^ 15 + 0x4010 + 5 * 2 ^ 90)).onFm 1 fun f => { f with frames := [frameA false, frameA true] }).fmNow 1,
     by decide +kernel⟩
  · exact ⟨1, 8 * 2 ^ 15, wFm (8 * 2 ^ 15), (wFm (8 * 2 ^ 15)).fmNow 1, by decide +kernel⟩
  · exact ⟨1, 9 * 2 ^ 15, wFm (9 * 2 ^ 15), (wFm (9 * 2 ^ 15)).fmNow 1, by decide +kernel⟩
  · exact ⟨1, 1, 1 * 2 ^ 15 + 0x4010 + 2 ^ 110, .jump 1, wFm (1 * 2 ^ 15 + 0x4010 + 2 ^ 110),
     (wFm (1 * 2 ^ 15 + 0x4010 + 2 ^ 110)).fmNow 1, by decide +kernel⟩
  · exact ⟨1, 1, 1 * 2 ^ 15 + 0x4010, .jump 1,
     (wFm (1 * 2 ^ 15 + 0x4010)).onFm 1 fun f => { f with stopReq := true, trapPend := 5 },
     ((wFm (1 * 2 ^ 15 + 0x4010)).onFm 1 fun f => { f with stopReq := true, trapPend := 5 }).fmNow 1,
     by decide +kernel⟩
  · exact ⟨1, 1, .jump 1, holdsAt (wFm (2 * 2 ^ 15 + 0x4010)) (by decide +kernel)⟩
  · exact ⟨1, 0, holdsAt (wFm 0) (by decide +kernel)⟩

/-- The hypotheses of ForemanCallStack can be met, clause by clause. -/
theorem witness_ForemanCallStack :
    (∃ (b : Fin 8) (w : Nat) (s : State) (n : State), s.powered = true ∧ s.fmDue b 0 = some w ∧ s.fmNow b = n ∧
      mwBrs w = 6 ∧ (n.fm b).stack.length < 8) ∧
    (∃ (b : Fin 8) (w : Nat) (s : State) (n : State), s.powered = true ∧ s.fmDue b 0 = some w ∧ s.fmNow b = n ∧
      mwBrs w = 6 ∧ (n.fm b).stack.length = 8) ∧
    (∃ (b : Fin 8) (w : Nat) (a : Nat) (rest : List Nat) (s : State) (n : State), s.powered = true ∧
      s.fmDue b 0 = some w ∧ s.fmNow b = n ∧ mwBrs w = 7 ∧ (n.fm b).stack = a :: rest) ∧
    (∃ (b : Fin 8) (w : Nat) (s : State) (n : State), s.powered = true ∧ s.fmDue b 0 = some w ∧ s.fmNow b = n ∧
      mwBrs w = 7 ∧ (n.fm b).stack = []) ∧
    (∃ (b : Fin 8) (s : State) (n : State), s.powered = true ∧ s.fmNow b = n ∧ n.fmRuns b = true ∧
      (n.fm b).st = .run ∧ (n.fm b).done = 0 ∧ ((n.fm b).fault = 3 ∨ (n.fm b).fault = 4) ∧ (n.fm b).cyc ≤ s.clk.time) ∧
    (∃ (s : State), s.powered = true) := by
  refine ⟨?_, ?_, ?_, ?_, ?_, ?_⟩
  · exact ⟨1, 6 * 2 ^ 15 + 0x4010, (wFm (6 * 2 ^ 15 + 0x4010)).onFm 1 fun f => { f with stack := [1, 2, 3, 4, 5, 6, 7] },
     ((wFm (6 * 2 ^ 15 + 0x4010)).onFm 1 fun f => { f with stack := [1, 2, 3, 4, 5, 6, 7] }).fmNow 1,
     by decide +kernel⟩
  · exact ⟨1, 6 * 2 ^ 15 + 0x4010,
     (wFm (6 * 2 ^ 15 + 0x4010)).onFm 1 fun f => { f with stack := [1, 2, 3, 4, 5, 6, 7, 8] },
     ((wFm (6 * 2 ^ 15 + 0x4010)).onFm 1 fun f => { f with stack := [1, 2, 3, 4, 5, 6, 7, 8] }).fmNow 1,
     by decide +kernel⟩
  · exact ⟨1, 7 * 2 ^ 15, 0x4020, [2], (wFm (7 * 2 ^ 15)).onFm 1 fun f => { f with stack := [0x4020, 2] },
     ((wFm (7 * 2 ^ 15)).onFm 1 fun f => { f with stack := [0x4020, 2] }).fmNow 1, by decide +kernel⟩
  · exact ⟨1, 7 * 2 ^ 15, wFm (7 * 2 ^ 15), (wFm (7 * 2 ^ 15)).fmNow 1, by decide +kernel⟩
  · exact ⟨1, (wFm 0).onFm 1 fun f => { f with fault := 3, cyc := 3000 },
     ((wFm 0).onFm 1 fun f => { f with fault := 3, cyc := 3000 }).fmNow 1, by decide +kernel⟩
  · exact holdsAt (wFm (1 * 2 ^ 15 + 0x4010)) (by decide +kernel)

/-- The hypotheses of ForemanStrobes can be met, clause by clause. -/
theorem witness_ForemanStrobes :
    (∃ (b : Fin 8) (w : Nat) (s : State) (n : State), s.powered = true ∧ s.fmDue b 1 = some w ∧ s.fmNow b = n ∧
      mwOp w = 1) ∧
    (∃ (b : Fin 8) (w : Nat) (s : State) (n : State), s.powered = true ∧ s.fmDue b 1 = some w ∧ s.fmNow b = n ∧
      mwOp w = 2) ∧
    (∃ (b : Fin 8) (w : Nat) (s : State) (n : State), s.powered = true ∧ s.fmDue b 1 = some w ∧ s.fmNow b = n ∧
      mwOp w = 3) ∧
    (∃ (b : Fin 8) (k : Nat) (w : Nat) (c : Instr) (s : State) (n : State), s.powered = true ∧ s.fmDue b 1 = some w ∧
      s.fmNow b = n ∧ mwOp w = k ∧ ((k = 4 ∧ c = .lopAbort b) ∨ (k = 5 ∧ c = .lopPoison b) ∨ (k = 6 ∧
      c = .lopStop b) ∨ (k = 7 ∧ c = .lopShot b))) ∧
    (∃ (b : Fin 8) (e : Sched) (s : State), s.powered = true ∧ (s.fm b).dueEntry s.clk.time = some e ∧ 4 ≤ e.lop ∧
      e.lop ≤ 6) ∧
    (∃ (b : Fin 8) (e : Sched) (s : State), s.powered = true ∧ (s.fm b).dueEntry s.clk.time = some e ∧ e.lop = 0) ∧
    (∃ (b : Fin 8) (e : Sched) (s : State), s.powered = true ∧ (s.fm b).dueEntry s.clk.time = some e ∧ e.lop = 7) ∧
    (∃ (b : Fin 8) (k : Nat) (c : Instr) (s : State), s.powered = true ∧ (k, c) ∈ [(1, .lopStart b), (2, .lopSync b),
      (3, .lopFlush b), (4, .lopAbort b), (5, .lopPoison b), (6, .lopStop b), (7, .lopShot b)] ∧ (∀ w ∈ s.fmDue b 1,
      mwOp w ≠ k)) ∧
    (∃ (s : State), s.powered = true) := by
  refine ⟨?_, ?_, ?_, ?_, ?_, ?_, ?_, ?_, ?_⟩
  · exact ⟨1, 1 * 2 ^ 65 + 0x80000005 * 2 ^ 33 + 500 * 2 ^ 69,
     (wFm (1 * 2 ^ 65 + 0x80000005 * 2 ^ 33 + 500 * 2 ^ 69)).onFm 1 fun f => { f with sbase := 2700, base := 2700 },
     ((wFm (1 * 2 ^ 65 + 0x80000005 * 2 ^ 33 + 500 * 2 ^ 69)).onFm 1 fun f => { f with sbase := 2700, base := 2700 }).fmNow 1,
     by decide +kernel⟩
  · exact ⟨1, 2 * 2 ^ 65 + 0x80000005 * 2 ^ 33 + 500 * 2 ^ 69,
     (wFm (2 * 2 ^ 65 + 0x80000005 * 2 ^ 33 + 500 * 2 ^ 69)).onFm 1 fun f => { f with sbase := 2700, base := 2700 },
     ((wFm (2 * 2 ^ 65 + 0x80000005 * 2 ^ 33 + 500 * 2 ^ 69)).onFm 1 fun f => { f with sbase := 2700, base := 2700 }).fmNow 1,
     by decide +kernel⟩
  · exact ⟨1, 3 * 2 ^ 65 + 0x80000005 * 2 ^ 33 + 500 * 2 ^ 69,
     (wFm (3 * 2 ^ 65 + 0x80000005 * 2 ^ 33 + 500 * 2 ^ 69)).onFm 1 fun f => { f with sbase := 2700, base := 2700 },
     ((wFm (3 * 2 ^ 65 + 0x80000005 * 2 ^ 33 + 500 * 2 ^ 69)).onFm 1 fun f => { f with sbase := 2700, base := 2700 }).fmNow 1,
     by decide +kernel⟩
  · exact ⟨1, 4, 4 * 2 ^ 65 + 0x80000005 * 2 ^ 33 + 299 * 2 ^ 69, .lopAbort 1,
     (wFm (4 * 2 ^ 65 + 0x80000005 * 2 ^ 33 + 299 * 2 ^ 69)).onFm 1 fun f => { f with sbase := 2700, base := 2700 },
     ((wFm (4 * 2 ^ 65 + 0x80000005 * 2 ^ 33 + 299 * 2 ^ 69)).onFm 1 fun f => { f with sbase := 2700, base := 2700 }).fmNow 1,
     by decide +kernel⟩
  · exact ⟨1, { at_ := 3000, lop := 4, mask := 0x80000001, evo := 0, base := 0, log := 0 },
     holdsAt ((wFm 0).onFm 1 fun f => { f with queue := [{ at_ := 3000, lop := 4, mask := 0x80000001, evo := 0, base := 0, log := 0 }] }) (by decide +kernel)⟩
  · exact ⟨1, { at_ := 3000, lop := 0, mask := 0x80000001, evo := 129, base := 0, log := 0 },
     holdsAt ((wFm (0)).onFm 1 fun f => { f with queue := [{ at_ := 3000, lop := 0, mask := 0x80000001, evo := 129, base := 0, log := 0 }] }) (by decide +kernel)⟩
  · exact ⟨1, { at_ := 3000, lop := 7, mask := 0, evo := 0, base := 0, log := 0, nxt := 3 },
     holdsAt ((wFm 0).onFm 1 fun f => { f with queue := [{ at_ := 3000, lop := 7, mask := 0, evo := 0, base := 0, log := 0, nxt := 3 }], newBits := 5, shots := 2 ^ 48 - 1 }) (by decide +kernel)⟩
  · exact ⟨1, 1, .lopStart 1, holdsAt (wFm (2 * 2 ^ 65)) (by decide +kernel)⟩
  · exact holdsAt (wFm 0) (by decide +kernel)

/-- The hypotheses of ForemanDecisionOps can be met, clause by clause. -/
theorem witness_ForemanDecisionOps :
    (∃ (b : Fin 8) (k : Nat) (w : Nat) (v : Bool) (c : Instr) (s : State) (n : State), s.powered = true ∧
      s.fmDue b 2 = some w ∧ s.fmNow b = n ∧ mwDop w = k ∧ ((k = 1 ∧ c = .pub0 b ∧ v = false) ∨ (k = 2 ∧
      c = .pub1 b ∧ v = true) ∨ (k = 3 ∧ c = .pubz b ∧ v = decide ((n.fm b).z = 1)))) ∧
    (∃ (b : Fin 8) (w : Nat) (s : State) (n : State), s.powered = true ∧ s.fmDue b 2 = some w ∧ s.fmNow b = n ∧
      mwDop w = 4) ∧
    (∃ (b : Fin 8) (w : Nat) (s : State) (n : State), s.powered = true ∧ s.fmDue b 2 = some w ∧ s.fmNow b = n ∧
      mwDop w = 5) ∧
    (∃ (b : Fin 8) (w : Nat) (s : State) (n : State), s.powered = true ∧ s.fmDue b 2 = some w ∧ s.fmNow b = n ∧
      mwDop w = 6) ∧
    (∃ (b : Fin 8) (w : Nat) (s : State) (n : State), s.powered = true ∧ s.fmDue b 2 = some w ∧ s.fmNow b = n ∧
      mwDop w = 7) ∧
    (∃ (b : Fin 8) (w : Nat) (s : State) (n : State), s.powered = true ∧ s.fmDue b 2 = some w ∧ s.fmNow b = n ∧
      mwDop w = 8) ∧
    (∃ (b : Fin 8) (w : Nat) (s : State) (n : State), s.powered = true ∧ s.fmDue b 2 = some w ∧ s.fmNow b = n ∧
      mwDop w = 9 ∧ mwBrs w ≠ 8) ∧
    (∃ (b : Fin 8) (w : Nat) (s : State) (n : State) (x : ELog), s.powered = true ∧ s.fmDue b 2 = some w ∧
      s.fmNow b = n ∧ mwDop w = 10 ∧ mwBrs w ≠ 8 ∧ (n.fm b).elogHead < 16 ∧
      NMap.get (fun _ => {}) (n.fm b).elog (((n.fm b).elogHead + 32 - bit (n.fm b).logged - mwDsel w % 16) % 16) = x) ∧
    (∃ (b : Fin 8) (k : Nat) (c : Instr) (s : State), s.powered = true ∧ (k, c) ∈ [(1, .pub0 b), (2, .pub1 b), (3,
      .pubz b), (4, .dopArm b), (5, .dopLookup b), (6, .clrnew b), (7, .dopMark b), (8, .dopIrq b), (9, .ldch b),
      (10, .logrd b)] ∧ (∀ w ∈ s.fmDue b 2, mwDop w ≠ k)) := by
  refine ⟨?_, ?_, ?_, ?_, ?_, ?_, ?_, ?_, ?_⟩
  · exact ⟨1, 1, 1 * 2 ^ 85 + 5 * 2 ^ 90, false, .pub0 1,
     ((wFm (1 * 2 ^ 85 + 5 * 2 ^ 90)).wGds 1).onFm 1 fun f => { f with z := 1 },
     (((wFm (1 * 2 ^ 85 + 5 * 2 ^ 90)).wGds 1).onFm 1 fun f => { f with z := 1 }).fmNow 1, by decide +kernel⟩
  · exact ⟨1, 4 * 2 ^ 85 + 255 * 2 ^ 90, wFm (4 * 2 ^ 85 + 255 * 2 ^ 90), (wFm (4 * 2 ^ 85 + 255 * 2 ^ 90)).fmNow 1,
     by decide +kernel⟩
  · exact ⟨1, 5 * 2 ^ 85 + 255 * 2 ^ 90, wFm (5 * 2 ^ 85 + 255 * 2 ^ 90), (wFm (5 * 2 ^ 85 + 255 * 2 ^ 90)).fmNow 1,
     by decide +kernel⟩
  · exact ⟨1, 6 * 2 ^ 85, (wFm (6 * 2 ^ 85)).onFm 1 fun f => { f with newBits := 0xFFFFFFFF },
     ((wFm (6 * 2 ^ 85)).onFm 1 fun f => { f with newBits := 0xFFFFFFFF }).fmNow 1, by decide +kernel⟩
  · exact ⟨1, 7 * 2 ^ 85 + 77 * 2 ^ 90, wFm (7 * 2 ^ 85 + 77 * 2 ^ 90), (wFm (7 * 2 ^ 85 + 77 * 2 ^ 90)).fmNow 1,
     by decide +kernel⟩
  · exact ⟨1, 8 * 2 ^ 85 + 255 * 2 ^ 90, wFm (8 * 2 ^ 85 + 255 * 2 ^ 90), (wFm (8 * 2 ^ 85 + 255 * 2 ^ 90)).fmNow 1,
     by decide +kernel⟩
  · exact ⟨1, 9 * 2 ^ 85 + 255 * 2 ^ 90, wFm (9 * 2 ^ 85 + 255 * 2 ^ 90), (wFm (9 * 2 ^ 85 + 255 * 2 ^ 90)).fmNow 1,
     by decide +kernel⟩
  · exact ⟨1, 10 * 2 ^ 85 + 1 * 2 ^ 90,
     (wFm (10 * 2 ^ 85 + 1 * 2 ^ 90)).onFm 1 fun f => { f with elogHead := 0, elog := [(15, { mask := 7, sched := 9 })] },
     ((wFm (10 * 2 ^ 85 + 1 * 2 ^ 90)).onFm 1 fun f => { f with elogHead := 0, elog := [(15, { mask := 7, sched := 9 })] }).fmNow 1,
     { mask := 7, sched := 9 }, by decide +kernel⟩
  · exact ⟨1, 1, .pub0 1, holdsAt (wFm (2 * 2 ^ 85)) (by decide +kernel)⟩

/-- The hypotheses of ForemanAlu can be met, clause by clause. -/
theorem witness_ForemanAlu :
    (∃ (b : Fin 8) (k : Nat) (w : Nat) (x : Nat) (y : Nat) (r : Nat) (c : Instr) (s : State) (n : State),
      s.powered = true ∧ s.fmDue b 3 = some w ∧ s.fmNow b = n ∧ mwAlu w = k ∧ mwBrs w ≠ 8 ∧
      (n.fm b).ureg (mwA w) = x ∧ x < 2 ^ 32 ∧ y < 2 ^ 32 ∧ (k = 2 ∧ c = .addi b ∧ y = mwImm w ∨
      (n.fm b).ureg (mwImm w % 8) = y ∧ (k = 1 ∧ c = .foremanAdd b ∨ k = 3 ∧ c = .foremanSub b ∨ k = 9 ∧
      c = .cmp b)) ∧ r = (if k ≤ 2 then x + y else x + 2 ^ 32 - y) % 2 ^ 32) ∧
    (∃ (b : Fin 8) (k : Nat) (w : Nat) (x : Nat) (y : Nat) (r : Nat) (c : Instr) (s : State) (n : State),
      s.powered = true ∧ s.fmDue b 3 = some w ∧ s.fmNow b = n ∧ mwAlu w = k ∧ mwBrs w ≠ 8 ∧
      (n.fm b).ureg (mwA w) = x ∧ x < 2 ^ 32 ∧ (n.fm b).ureg (mwImm w % 8) = y ∧ (k = 4 ∧ c = .and_ b ∧ r = x &&& y ∨
      k = 5 ∧ c = .or_ b ∧ r = x ||| y ∨ k = 6 ∧ c = .xor_ b ∧ r = x ^^^ y ∨ k = 7 ∧ c = .foremanShl b ∧
      r = x <<< mwImm w ∨ k = 8 ∧ c = .foremanShr b ∧ r = x >>> mwImm w)) ∧
    (∃ (b : Fin 8) (k : Nat) (w : Nat) (v : Nat) (c : Instr) (s : State) (n : State), s.powered = true ∧
      s.fmDue b 3 = some w ∧ s.fmNow b = n ∧ mwAlu w = k ∧ mwBrs w ≠ 8 ∧ (k = 10 ∧ c = .movc b ∧
      v = (n.fm b).creg (mwImm w % 4) ∨ k = 11 ∧ c = .mbx b ∧ v = (n.fm b).mbox.getD (mwImm w % 4) 0)) ∧
    (∃ (b : Fin 8) (k : Nat) (w : Nat) (v : Nat) (c : Instr) (s : State) (n : State), s.powered = true ∧
      s.fmDue b 3 = some w ∧ s.fmNow b = n ∧ mwAlu w = k ∧ mwBrs w ≠ 8 ∧ (k = 12 ∧ c = .badd b ∧ v = (n.fm b).sbase ∨
      k = 13 ∧ c = .bev b ∧ v = (n.fm b).tw ∨ k = 14 ∧ c = .bnow b ∧ v = (n.fm b).cyc + 2)) ∧
    (∃ (b : Fin 8) (k : Nat) (c : Instr) (s : State), s.powered = true ∧ (k, c) ∈ [(1, .foremanAdd b), (2, .addi b),
      (3, .foremanSub b), (4, .and_ b), (5, .or_ b), (6, .xor_ b), (7, .foremanShl b), (8, .foremanShr b), (9,
      .cmp b), (10, .movc b), (11, .mbx b), (12, .badd b), (13, .bev b), (14, .bnow b)] ∧ (∀ w ∈ s.fmDue b 3,
      mwAlu w ≠ k)) := by
  refine ⟨?_, ?_, ?_, ?_, ?_⟩
  · exact ⟨1, 1, 1 * 2 ^ 129 + 2 * 2 ^ 126 + 3 * 2 ^ 123 + 3 * 2 ^ 118, 0x80000000, 2147483648, 0, .foremanAdd 1,
     wFm (1 * 2 ^ 129 + 2 * 2 ^ 126 + 3 * 2 ^ 123 + 3 * 2 ^ 118),
     (wFm (1 * 2 ^ 129 + 2 * 2 ^ 126 + 3 * 2 ^ 123 + 3 * 2 ^ 118)).fmNow 1, by decide +kernel⟩
  · exact ⟨1, 4, 4 * 2 ^ 129 + 2 * 2 ^ 126 + 3 * 2 ^ 123 + 1 * 2 ^ 118, 0x80000000, 100, 0, .and_ 1,
     wFm (4 * 2 ^ 129 + 2 * 2 ^ 126 + 3 * 2 ^ 123 + 1 * 2 ^ 118),
     (wFm (4 * 2 ^ 129 + 2 * 2 ^ 126 + 3 * 2 ^ 123 + 1 * 2 ^ 118)).fmNow 1, by decide +kernel⟩
  · exact ⟨1, 10, 10 * 2 ^ 129 + 2 * 2 ^ 126 + 3 * 2 ^ 118, 4, .movc 1, wFm (10 * 2 ^ 129 + 2 * 2 ^ 126 + 3 * 2 ^ 118),
     (wFm (10 * 2 ^ 129 + 2 * 2 ^ 126 + 3 * 2 ^ 118)).fmNow 1, by decide +kernel⟩
  · exact ⟨1, 12, 12 * 2 ^ 129 + 1 * 2 ^ 123, 2700, .badd 1,
     (wFm (12 * 2 ^ 129 + 1 * 2 ^ 123)).onFm 1 fun f => { f with sbase := 2700 },
     ((wFm (12 * 2 ^ 129 + 1 * 2 ^ 123)).onFm 1 fun f => { f with sbase := 2700 }).fmNow 1, by decide +kernel⟩
  · exact ⟨1, 1, .foremanAdd 1, holdsAt (wFm (2 * 2 ^ 129)) (by decide +kernel)⟩

/-- The hypotheses of ForemanCountersAndRegions can be met, clause by clause. -/
theorem witness_ForemanCountersAndRegions :
    (∃ (b : Fin 8) (i : Fin 4) (w : Nat) (s : State) (n : State), s.powered = true ∧ s.fmDue b (4 + i) = some w ∧
      s.fmNow b = n ∧ mwCnt w i = 1 ∧ mwBrs w ≠ 8 ∧ (n.fm b).creg i < 2 ^ 24) ∧
    (∃ (b : Fin 8) (i : Fin 4) (w : Nat) (s : State) (n : State), s.powered = true ∧ s.fmDue b (4 + i) = some w ∧
      s.fmNow b = n ∧ mwCnt w i = 2 ∧ mwBrs w ≠ 8) ∧
    (∃ (b : Fin 8) (i : Fin 4) (w : Nat) (s : State) (n : State), s.powered = true ∧ s.fmDue b (4 + i) = some w ∧
      s.fmNow b = n ∧ mwCnt w i = 3 ∧ mwBrs w ≠ 8) ∧
    (∃ (b : Fin 8) (w : Nat) (s : State) (n : State), s.powered = true ∧ s.fmDue b 8 = some w ∧ s.fmNow b = n ∧
      mwTrg w = 1) ∧
    (∃ (b : Fin 8) (w : Nat) (s : State) (n : State), s.powered = true ∧ s.fmDue b 8 = some w ∧ s.fmNow b = n ∧
      mwTrg w = 2) ∧
    (∃ (b : Fin 8) (e : Nat) (s : State) (n : State), s.powered = true ∧ s.fmNow b = n ∧ n.fmRuns b = true ∧
      (n.fm b).fault = 0 ∧ (n.fm b).region = some e ∧ e + e % 2 ≤ s.clk.time) ∧
    (∃ (b : Fin 8) (i : Fin 4) (k : Nat) (c : Instr) (s : State), s.powered = true ∧ (((k = 1 ∧
      c = .cntDecrement b i ∨ k = 2 ∧ c = .cntReload b i ∨ k = 3 ∧ c = .cntIncrement b i) ∧ ∀ w ∈ s.fmDue b (4 + i),
      mwCnt w i ≠ k) ∨ ((k = 1 ∧ c = .trgBegin b ∨ k = 2 ∧ c = .trgEnd b) ∧ ∀ w ∈ s.fmDue b 8, mwTrg w ≠ k))) ∧
    (∃ (b : Fin 8) (s : State) (n : State), s.powered = true ∧ s.fmNow b = n ∧ ((n.fm b).region = none ∨
      (n.fm b).fault ≠ 0 ∨ ∀ e ∈ (n.fm b).region, s.clk.time < e)) := by
  refine ⟨?_, ?_, ?_, ?_, ?_, ?_, ?_, ?_⟩
  · exact ⟨1, 1, 1 * 2 ^ 112, wFm (1 * 2 ^ 112), (wFm (1 * 2 ^ 112)).fmNow 1, by decide +kernel⟩
  · exact ⟨1, 1, 2 * 2 ^ 112, wFm (2 * 2 ^ 112), (wFm (2 * 2 ^ 112)).fmNow 1, by decide +kernel⟩
  · exact ⟨1, 1, 3 * 2 ^ 112, wFm (3 * 2 ^ 112), (wFm (3 * 2 ^ 112)).fmNow 1, by decide +kernel⟩
  · exact ⟨1, 1 * 2 ^ 133 + 100 * 2 ^ 90, wFm (1 * 2 ^ 133 + 100 * 2 ^ 90), (wFm (1 * 2 ^ 133 + 100 * 2 ^ 90)).fmNow 1,
     by decide +kernel⟩
  · exact ⟨1, 2 * 2 ^ 133, wFm (2 * 2 ^ 133), (wFm (2 * 2 ^ 133)).fmNow 1, by decide +kernel⟩
  · exact ⟨1, 2999, (wFm (1 * 2 ^ 15 + 0x4010)).onFm 1 fun f => { f with region := some 2999 },
     ((wFm (1 * 2 ^ 15 + 0x4010)).onFm 1 fun f => { f with region := some 2999 }).fmNow 1, by decide +kernel⟩
  · exact ⟨1, 2, 1, .cntDecrement 1 2, holdsAt (wFm (2 * 2 ^ 114)) (by decide +kernel)⟩
  · exact ⟨1, wFm (1 * 2 ^ 15 + 0x4010), (wFm (1 * 2 ^ 15 + 0x4010)).fmNow 1, by decide +kernel⟩

/-- The hypotheses of ForemanWaiting can be met, clause by clause. -/
theorem witness_ForemanWaiting :
    (∃ (b : Fin 8) (e : Nat) (s : State), s.powered = true ∧ s.fmRuns b = true ∧ (s.fm b).st = .start ∧
      (s.fm b).startE = e + 1 ∧ (e / 2 + 1) * 2 ≤ s.clk.time) ∧
    (∃ (b : Fin 8) (c : Nat) (x : Nat) (k : Nat) (w : Nat) (f : Fm) (s : State) (n : State), s.powered = true ∧
      s.fmNow b = n ∧ n.fmWaits b = true ∧ n.fmBoundary b = c ∧ c ≤ s.clk.time ∧ n.fm b = f ∧ f.word = w ∧
      mwDsel w = k ∧ (mwWsel w = 1 ∧ (f.base + mwToff w) % 2 ^ 64 = x ∧ x ≤ c + 2 ∨ mwWsel w = 2 ∧
      bitAt f.newBits (k % 32) = true ∧ NMap.get (fun _ => 0) f.newTick (k % 32) = x ∧ x < c ∨ mwWsel w = 3 ∧ x < c ∧
      (∃ i < 32, bitAt (n.fmU b 4) i = true ∧ NMap.get (fun _ => 0) f.newTick i = x) ∧ (∀ i < 32,
      bitAt (n.fmU b 4) i = true → bitAt f.newBits i = true ∧ NMap.get (fun _ => 0) f.newTick i ≤ x) ∨ mwWsel w = 4 ∧
      (n.tag b (if bitAt k 11 then n.fmU b 7 % 256 else k % 256)).st = .done ∧
      (n.tag b (if bitAt k 11 then n.fmU b 7 % 256 else k % 256)).actTick = x ∧ x < c ∨ mwWsel w = 5 ∧
      seenTick c (NMap.get (fun _ => []) n.dec.pubs k) = some x ∧ f.waitFrom ≤ x)) ∧
    (∃ (b : Fin 8) (c : Nat) (x : Nat) (k : Nat) (w : Nat) (m : Nat) (f : Fm) (s : State) (n : State),
      s.powered = true ∧ s.fmNow b = n ∧ n.fmWaits b = true ∧ n.fmBoundary b = c ∧ c ≤ s.clk.time ∧ n.fm b = f ∧
      f.word = w ∧ mwDsel w = k ∧ m = (if bitAt (mwLop w) 3 then n.fmU b 5 else mwLstr w) ∧ (mwWsel w = 6 ∧
      n.gdsSeen k = true ∧ seenTick c (NMap.get (fun _ => []) n.dec.mirrorSet k) = some x ∨ mwWsel w = 7 ∧
      n.gdsSeen k = false ∧ seenTick c (NMap.get (fun _ => []) n.dec.mirrorSet k) = some x ∨ mwWsel w = 8 ∧
      bitAt f.evLatch (k % 8) = true ∧ NMap.get (fun _ => 0) f.evTick (k % 8) = x ∧ x < c ∨ (mwWsel w = 9 ∨
      mwWsel w = 10) ∧ x < c ∧ (∃ l < 32, bitAt m l = true ∧ (n.lane b l).since = x) ∧ (∀ l < 32, bitAt m l = true →
      (n.lane b l).st = (if mwWsel w = 9 then .ready else .sync) ∧ (n.lane b l).since ≤ x) ∨ mwWsel w = 11 ∧
      bitAt f.trapPend (4 + k % 4) = true ∧ NMap.get (fun _ => 0) f.trapTick (4 + k % 4) = x ∧ x < c)) ∧
    (∃ (b : Fin 8) (w : Nat) (s : State) (n : State), s.powered = true ∧ s.fmDue b 0 = some w ∧ s.fmNow b = n ∧
      mwBrs w = 1 ∧ (n.fm b).lastField 0) ∧
    (∃ (b : Fin 8) (s : State) (n : State), s.powered = true ∧ s.fmNow b = n ∧ (n.fmMet b (n.fmBoundary b) = none ∨
      n.fmWaits b = false ∨ s.clk.time < n.fmBoundary b)) ∧
    (∃ (b : Fin 8) (c : Nat) (s : State) (n : State), s.powered = true ∧ s.fmNow b = n ∧ n.fmWaits b = true ∧
      alignUp ((n.fm b).cyc + (s.fld (R.FM_TO b (mwWto (n.fm b).word)) Fd.FM_TO_TICKS - (n.fm b).waited)) 2 = c ∧
      c ≤ s.clk.time ∧ n.fmMet b c = none ∧ (n.fm b).stopReq = false) ∧
    (∃ (b : Fin 8) (c : Nat) (s : State) (n : State), s.powered = true ∧ s.fmNow b = n ∧ n.fmWaits b = true ∧
      alignUp ((n.fm b).cyc + (s.fld (R.FM_TO b (mwWto (n.fm b).word)) Fd.FM_TO_TICKS - (n.fm b).waited)) 2 = c ∧
      c ≤ s.clk.time ∧ n.fmMet b c = none ∧ (n.fm b).stopReq = true ∧ (n.fm b).region = none) ∧
    (∃ (b : Fin 8) (c : Nat) (s : State) (n : State), s.powered = true ∧ s.fmNow b = n ∧
      alignUp ((n.fm b).cyc + (s.fld (R.FM_TO b (mwWto (n.fm b).word)) Fd.FM_TO_TICKS - (n.fm b).waited)) 2 = c ∧
      (n.fmWaits b = false ∨ s.clk.time < c ∨ (n.fmMet b c).isSome = true)) ∧
    (∃ (b : Fin 8) (c : Nat) (s : State) (n : State), s.powered = true ∧ s.fmNow b = n ∧ n.fmBoundary b = c ∧
      c ≤ s.clk.time ∧ n.fmRuns b = true ∧ (n.fm b).st = .wait ∧ (n.fm b).holding = true ∧ (n.fm b).fault = 0 ∧
      (n.fm b).sbase = (n.fm b).base ∧ romAtU1 (n.fm b).pc = false ∧ (n.fm b).queue.length < 16 ∧
      (n.fm b).sched ≤ c + 2 + 65536) ∧
    (∃ (b : Fin 8) (s : State) (n : State), s.powered = true ∧ s.fmNow b = n ∧ ((n.fm b).holding = false ∨
      (n.fm b).mustHold (n.fmBoundary b) = true ∨ s.clk.time < n.fmBoundary b)) := by
  refine ⟨?_, ?_, ?_, ?_, ?_, ?_, ?_, ?_, ?_, ?_⟩
  · exact ⟨1, 2999, holdsAt ((wFm 0).onFm 1 fun f => { f with st := .start, startE := 3000 }) (by decide +kernel)⟩
  · exact ⟨1,
     ((wFm (1 * 2 ^ 25 + 7 * 2 ^ 69)).onFm 1 fun f => { f with st := .wait, waitFrom := 2900, cyc := 2900, base := 2990 }).fmBoundary 1,
     2997,
     mwDsel (((wFm (1 * 2 ^ 25 + 7 * 2 ^ 69)).onFm 1 fun f => { f with st := .wait, waitFrom := 2900, cyc := 2900, base := 2990 }).fm 1).word,
     (((wFm (1 * 2 ^ 25 + 7 * 2 ^ 69)).onFm 1 fun f => { f with st := .wait, waitFrom := 2900, cyc := 2900, base := 2990 }).fm 1).word,
     (((wFm (1 * 2 ^ 25 + 7 * 2 ^ 69)).onFm 1 fun f => { f with st := .wait, waitFrom := 2900, cyc := 2900, base := 2990 }).fmNow 1).fm 1,
     (wFm (1 * 2 ^ 25 + 7 * 2 ^ 69)).onFm 1 fun f => { f with st := .wait, waitFrom := 2900, cyc := 2900, base := 2990 },
     ((wFm (1 * 2 ^ 25 + 7 * 2 ^ 69)).onFm 1 fun f => { f with st := .wait, waitFrom := 2900, cyc := 2900, base := 2990 }).fmNow 1,
     by decide +kernel⟩
  · exact ⟨1,
     (let s : State :=
         (wFm (6 * 2 ^ 25 + 5 * 2 ^ 90)).onFm 1 fun f => { f with st := .wait, waitFrom := 2900, cyc := 2900 };
         { s with dec := { s.dec with mirror := [(5, true)], mirrorSet := [(5, [2991])] } }).fmBoundary 1,
     2991,
     mwDsel ((let s : State :=
         (wFm (6 * 2 ^ 25 + 5 * 2 ^ 90)).onFm 1 fun f => { f with st := .wait, waitFrom := 2900, cyc := 2900 };
         { s with dec := { s.dec with mirror := [(5, true)], mirrorSet := [(5, [2991])] } }).fm 1).word,
     ((let s : State :=
         (wFm (6 * 2 ^ 25 + 5 * 2 ^ 90)).onFm 1 fun f => { f with st := .wait, waitFrom := 2900, cyc := 2900 };
         { s with dec := { s.dec with mirror := [(5, true)], mirrorSet := [(5, [2991])] } }).fm 1).word,
     (if bitAt (mwLop ((let s : State :=
         (wFm (6 * 2 ^ 25 + 5 * 2 ^ 90)).onFm 1 fun f => { f with st := .wait, waitFrom := 2900, cyc := 2900 };
         { s with dec := { s.dec with mirror := [(5, true)], mirrorSet := [(5, [2991])] } }).fm 1).word) 3 then (let s : State := (wFm (6 * 2 ^ 25 + 5 * 2 ^ 90)).onFm 1 fun f => { f with st := .wait, waitFrom := 2900, cyc := 2900 }; { s with dec := { s.dec with mirror := [(5, true)], mirrorSet := [(5, [2991])] } }).fmU 1 5 else mwLstr ((let s : State := (wFm (6 * 2 ^ 25 + 5 * 2 ^ 90)).onFm 1 fun f => { f with st := .wait, waitFrom := 2900, cyc := 2900 }; { s with dec := { s.dec with mirror := [(5, true)], mirrorSet := [(5, [2991])] } }).fm 1).word),
     ((let s : State :=
         (wFm (6 * 2 ^ 25 + 5 * 2 ^ 90)).onFm 1 fun f => { f with st := .wait, waitFrom := 2900, cyc := 2900 };
         { s with dec := { s.dec with mirror := [(5, true)], mirrorSet := [(5, [2991])] } }).fmNow 1).fm 1,
     let s : State :=
         (wFm (6 * 2 ^ 25 + 5 * 2 ^ 90)).onFm 1 fun f => { f with st := .wait, waitFrom := 2900, cyc := 2900 };
         { s with dec := { s.dec with mirror := [(5, true)], mirrorSet := [(5, [2991])] } },
     (let s : State :=
         (wFm (6 * 2 ^ 25 + 5 * 2 ^ 90)).onFm 1 fun f => { f with st := .wait, waitFrom := 2900, cyc := 2900 };
         { s with dec := { s.dec with mirror := [(5, true)], mirrorSet := [(5, [2991])] } }).fmNow 1,
     by decide +kernel⟩
  · exact ⟨1, 1 * 2 ^ 15 + 0x4010 + 2 * 2 ^ 25 + 5 * 2 ^ 90,
     (wFm (1 * 2 ^ 15 + 0x4010 + 2 * 2 ^ 25 + 5 * 2 ^ 90)).onFm 1 fun f => { f with newBits := 0xFFFFFFFF, evLatch := 255, trapPend := 0xFFF },
     ((wFm (1 * 2 ^ 15 + 0x4010 + 2 * 2 ^ 25 + 5 * 2 ^ 90)).onFm 1 fun f => { f with newBits := 0xFFFFFFFF, evLatch := 255, trapPend := 0xFFF }).fmNow 1,
     by decide +kernel⟩
  · exact ⟨1, (wFm (6 * 2 ^ 25 + 5 * 2 ^ 90)).onFm 1 fun f => { f with st := .wait, waitFrom := 2900, cyc := 2900 },
     ((wFm (6 * 2 ^ 25 + 5 * 2 ^ 90)).onFm 1 fun f => { f with st := .wait, waitFrom := 2900, cyc := 2900 }).fmNow 1,
     by decide +kernel⟩
  · exact ⟨1, 3000,
     ((wFm (6 * 2 ^ 25 + 3 * 2 ^ 31 + 5 * 2 ^ 90)).setFld (R.FM_TO 1 3) Fd.FM_TO_TICKS 99).onFm 1 fun f => { f with st := .wait, waitFrom := 2900, cyc := 2900 },
     (((wFm (6 * 2 ^ 25 + 3 * 2 ^ 31 + 5 * 2 ^ 90)).setFld (R.FM_TO 1 3) Fd.FM_TO_TICKS 99).onFm 1 fun f => { f with st := .wait, waitFrom := 2900, cyc := 2900 }).fmNow 1,
     by decide +kernel⟩
  · exact ⟨1, 3000,
     ((wFm (6 * 2 ^ 25 + 3 * 2 ^ 31 + 5 * 2 ^ 90)).setFld (R.FM_TO 1 3) Fd.FM_TO_TICKS 99).onFm 1 fun f => { f with st := .wait, waitFrom := 2900, cyc := 2900, stopReq := true },
     (((wFm (6 * 2 ^ 25 + 3 * 2 ^ 31 + 5 * 2 ^ 90)).setFld (R.FM_TO 1 3) Fd.FM_TO_TICKS 99).onFm 1 fun f => { f with st := .wait, waitFrom := 2900, cyc := 2900, stopReq := true }).fmNow 1,
     by decide +kernel⟩
  · exact ⟨1, 3002,
     ((wFm (6 * 2 ^ 25 + 3 * 2 ^ 31 + 5 * 2 ^ 90)).setFld (R.FM_TO 1 3) Fd.FM_TO_TICKS 101).onFm 1 fun f => { f with st := .wait, waitFrom := 2900, cyc := 2900 },
     (((wFm (6 * 2 ^ 25 + 3 * 2 ^ 31 + 5 * 2 ^ 90)).setFld (R.FM_TO 1 3) Fd.FM_TO_TICKS 101).onFm 1 fun f => { f with st := .wait, waitFrom := 2900, cyc := 2900 }).fmNow 1,
     by decide +kernel⟩
  · exact ⟨1, 3000,
     (wFm (7 * 2 ^ 65)).onFm 1 fun f => { f with st := .wait, waitFrom := 2900, cyc := 2900, holding := true, base := 3002 + 65536, sbase := 3002 + 65536 },
     ((wFm (7 * 2 ^ 65)).onFm 1 fun f => { f with st := .wait, waitFrom := 2900, cyc := 2900, holding := true, base := 3002 + 65536, sbase := 3002 + 65536 }).fmNow 1,
     by decide +kernel⟩
  · exact ⟨1,
     (wFm (7 * 2 ^ 65)).onFm 1 fun f => { f with st := .wait, waitFrom := 2900, cyc := 2900, holding := true, base := 3003 + 65536, sbase := 3003 + 65536 },
     ((wFm (7 * 2 ^ 65)).onFm 1 fun f => { f with st := .wait, waitFrom := 2900, cyc := 2900, holding := true, base := 3003 + 65536, sbase := 3003 + 65536 }).fmNow 1,
     by decide +kernel⟩

/-- The hypotheses of ForemanTraps can be met, clause by clause. -/
theorem witness_ForemanTraps :
    (∃ (s : State), s.powered = true) ∧
    (∃ (b : Fin 8) (v : Nat) (s : State) (n : State), s.powered = true ∧ s.fmNow b = n ∧ n.fmRuns b = true ∧
      (n.fm b).st = .run ∧ (n.fm b).done = 0 ∧ (n.fm b).fault = 0 ∧ (n.fm b).region = none ∧ (n.fm b).frames = [] ∧
      (n.fm b).cyc ≤ s.clk.time ∧ v < 16 ∧ bitAt (n.fm b).trapPend v = true ∧ n.vecOn b v = true ∧
      NMap.get (fun _ => 0) (n.fm b).trapTick v + 4 ≤ (n.fm b).cyc ∧ (∀ u < v, bitAt (n.fm b).trapPend u = true →
      n.vecOn b u = true → (n.fm b).cyc < NMap.get (fun _ => 0) (n.fm b).trapTick u + 4)) ∧
    (∃ (b : Fin 8) (v : Nat) (c : Nat) (s : State) (n : State), s.powered = true ∧ s.fmNow b = n ∧
      n.fmRuns b = true ∧ (n.fm b).st = .wait ∧ (n.fm b).fault = 0 ∧ (n.fm b).region = none ∧ (n.fm b).frames = [] ∧
      n.fmBoundary b = c ∧ c ≤ s.clk.time ∧ v < 16 ∧ bitAt (n.fm b).trapPend v = true ∧ n.vecOn b v = true ∧
      NMap.get (fun _ => 0) (n.fm b).trapTick v + 4 ≤ c ∧ (∀ u < v, bitAt (n.fm b).trapPend u = true →
      n.vecOn b u = true → c < NMap.get (fun _ => 0) (n.fm b).trapTick u + 4)) ∧
    (∃ (b : Fin 8) (s : State) (n : State), s.powered = true ∧ s.fmNow b = n ∧ ((n.fm b).region.isSome = true ∨
      (n.fm b).frames ≠ [] ∨ (n.fm b).fault ≠ 0 ∨ (∀ v < 16, bitAt (n.fm b).trapPend v = true → n.vecOn b v = true →
      max (n.fmBoundary b) (n.fm b).cyc < NMap.get (fun _ => 0) (n.fm b).trapTick v + 4))) ∧
    (∃ (b : Fin 8) (u : Bool) (k : Nat) (v : Nat) (s : State) (n : State), s.powered = true ∧ s.fmNow b = n ∧
      n.fmRuns b = true ∧ (n.fm b).st = .run ∧ v = faultVec k ∧ ((n.fm b).fault = k ∧ 3 ≤ k ∧ k ≤ 6 ∧
      (n.fm b).done = 0 ∧ (n.fm b).cyc ≤ s.clk.time ∨ (n.fm b).fault = k ∧ k = 7 ∧ (n.fm b).cyc + 2 ≤ s.clk.time ∨
      (n.fm b).fault = k ∧ k = 2 ∧ n.fmBoundary b ≤ s.clk.time ∨ (n.fm b).fault = 0 ∧ (n.fm b).done = 0 ∧ u = true ∧
      k = 1 ∧ (n.fm b).cyc + 2 ≤ s.clk.time)) ∧
    (∃ (b : Fin 8) (u : Bool) (s : State) (n : State), s.powered = true ∧ s.fmNow b = n ∧ ((n.fm b).fault = 0 ∧
      u = false ∨ s.clk.time < (n.fm b).cyc ∧ (n.fm b).fault ≠ 2 ∨ n.fmRuns b = false)) := by
  refine ⟨?_, ?_, ?_, ?_, ?_, ?_⟩
  · exact holdsAt (wFm 0) (by decide +kernel)
  · exact ⟨1, 15,
     ((wFm (1 * 2 ^ 15 + 0x4010)).setReg (R.FM_TVEC 1 15) (BitVec.ofNat 32 (2 ^ Fd.FM_TVEC_EN.lo + 0x4100 * 2 ^ Fd.FM_TVEC_ADDR.lo))).onFm 1 fun f => { f with cyc := 3000, trapPend := 2 ^ 15, trapTick := [(15, 2996)] },
     (((wFm (1 * 2 ^ 15 + 0x4010)).setReg (R.FM_TVEC 1 15) (BitVec.ofNat 32 (2 ^ Fd.FM_TVEC_EN.lo + 0x4100 * 2 ^ Fd.FM_TVEC_ADDR.lo))).onFm 1 fun f => { f with cyc := 3000, trapPend := 2 ^ 15, trapTick := [(15, 2996)] }).fmNow 1,
     by decide +kernel⟩
  · exact ⟨1, 15, 3000,
     ((wFm (6 * 2 ^ 25 + 5 * 2 ^ 90)).setReg (R.FM_TVEC 1 15) (BitVec.ofNat 32 (2 ^ Fd.FM_TVEC_EN.lo + 0x4100 * 2 ^ Fd.FM_TVEC_ADDR.lo))).onFm 1 fun f => { f with st := .wait, waitFrom := 2900, cyc := 2900, trapPend := 2 ^ 15, trapTick := [(15, 2996)] },
     (((wFm (6 * 2 ^ 25 + 5 * 2 ^ 90)).setReg (R.FM_TVEC 1 15) (BitVec.ofNat 32 (2 ^ Fd.FM_TVEC_EN.lo + 0x4100 * 2 ^ Fd.FM_TVEC_ADDR.lo))).onFm 1 fun f => { f with st := .wait, waitFrom := 2900, cyc := 2900, trapPend := 2 ^ 15, trapTick := [(15, 2996)] }).fmNow 1,
     by decide +kernel⟩
  · exact ⟨1,
     ((wFm (6 * 2 ^ 25 + 5 * 2 ^ 90)).setReg (R.FM_TVEC 1 15) (BitVec.ofNat 32 (2 ^ Fd.FM_TVEC_EN.lo + 0x4100 * 2 ^ Fd.FM_TVEC_ADDR.lo))).onFm 1 fun f => { f with st := .wait, waitFrom := 2900, cyc := 2900, trapPend := 2 ^ 15, trapTick := [(15, 2996)], region := some 9000 },
     (((wFm (6 * 2 ^ 25 + 5 * 2 ^ 90)).setReg (R.FM_TVEC 1 15) (BitVec.ofNat 32 (2 ^ Fd.FM_TVEC_EN.lo + 0x4100 * 2 ^ Fd.FM_TVEC_ADDR.lo))).onFm 1 fun f => { f with st := .wait, waitFrom := 2900, cyc := 2900, trapPend := 2 ^ 15, trapTick := [(15, 2996)], region := some 9000 }).fmNow 1,
     by decide +kernel⟩
  · exact ⟨1, false, 3, 2, (wFm (1 * 2 ^ 15 + 0x4010)).onFm 1 fun f => { f with fault := 3, cyc := 3000 },
     ((wFm (1 * 2 ^ 15 + 0x4010)).onFm 1 fun f => { f with fault := 3, cyc := 3000 }).fmNow 1, by decide +kernel⟩
  · exact ⟨1, false, wFm (1 * 2 ^ 15 + 0x4010), (wFm (1 * 2 ^ 15 + 0x4010)).fmNow 1, by decide +kernel⟩

/-- The hypotheses of RefreshAndTemperature can be met, clause by clause. -/
theorem witness_RefreshAndTemperature :
    (∃ (c : Fin 18) (limit : Nat) (u : Nat) (s : State), s.powered = true ∧ s.refreshes = true ∧
      u = (if bitAt s.memc.refCfg 12 then 1 else 16) ∧
      limit = (if (s.mch c).catchUp then 0 else if s.memc.guard then 4 else 8)) ∧
    (∃ (s : State), s.powered = true ∧ s.refreshes = false) ∧
    (∃ (v : Int) (th : Int) (d : Nat) (s : State), s.powered = true ∧ s.memc.powered = true ∧ d < 9 ∧
      (s.dev d).st = .active ∧ -256 ≤ v ∧ v ≤ 255 ∧ s.memThresh = th) ∧
    (∃ (d : Nat) (s : State), s.powered = true ∧ s.memc.powered = true ∧ d < 9 ∧ (s.dev d).st = .active) ∧
    (∃ (s : State), s.powered = true) ∧
    (∃ (s : State), s.powered = true ∧ s.memc.powered = false) := by
  refine ⟨?_, ?_, ?_, ?_, ?_, ?_⟩
  · exact ⟨17, (if ((wMem .run).mch 17).catchUp then 0 else if (wMem .run).memc.guard then 4 else 8),
     (if bitAt (wMem .run).memc.refCfg 12 then 1 else 16), holdsAt (wMem .run) (by decide +kernel)⟩
  · exact holdsAt (wOn .run) (by decide +kernel)
  · exact ⟨190, 190, 8,
     holdsAt (((wMem .run).setFld R.MEM_TEMP_CFG Fd.MEM_TEMP_CFG_THRESH 95).onDev 8 fun x => { x with st := .active })
         (by decide +kernel)⟩
  · exact ⟨7, holdsAt (wMem .run) (by decide +kernel)⟩
  · exact holdsAt (wMem .run) (by decide +kernel)
  · exact holdsAt (wOn .run) (by decide +kernel)

/-- The hypotheses of MemoryErrors can be met, clause by clause. -/
theorem witness_MemoryErrors :
    (∃ (m : Nat) (s : State), s.powered = true ∧ s.refreshes = true ∧ s.fld R.MEM_RH_CFG Fd.MEM_RH_CFG_TRR_MAX = m) ∧
    (∃ (d : Fin 9) (s : State), s.powered = true ∧ s.refreshes = true ∧ (s.dev d).st = .active) ∧
    (∃ (us : List (BitVec 28)) (s : State), s.powered = true ∧ s.refreshes = true ∧ us ≠ []) ∧
    (∃ (s : State), s.powered = true) ∧
    (∃ (k : Fin 4) (w : Nat) (x : Nat) (s : State), s.powered = true ∧ x = (if k = 0 then s.waited3 else w)) ∧
    (∃ (s : State), s.powered = true) ∧
    (∃ (who : Who) (a : BitVec 34) (s : State), s.powered = true ∧ s.dataOpen who = true ∧ s.memServes = true ∧
      s.memDead = false ∧ s.memRefuses who (a.toNat / 4 * 4) 4 = false ∧ (s.inStaging (a.toNat / 4 * 4) 4 = false ∨
      who = .porter ∨ who = .jtag) ∧ s.unitBad (a.toNat / 64) = false) ∧
    (∃ (who : Who) (a : BitVec 34) (d : Nat) (s : State), s.powered = true ∧ s.dataOpen who = true ∧
      s.memServes = true ∧ s.memDead = false ∧ s.memRefuses who (a.toNat / 4 * 4) 4 = false ∧
      (s.inStaging (a.toNat / 4 * 4) 4 = false ∨ who = .porter ∨ who = .jtag) ∧ s.unitBad (a.toNat / 64) = false ∧
      s.unitDev (a.toNat / 64) = some d) ∧
    (∃ (who : Who) (a : BitVec 34) (r : ReadCheck) (s : State), s.powered = true ∧ s.dataOpen who = true ∧
      s.memServes = true ∧ s.memRefuses who (a.toNat / 4 * 4) 4 = false ∧ (s.inStaging (a.toNat / 4 * 4) 4 = false ∨
      who = .porter ∨ who = .jtag) ∧ (r = .uncorrectable ∨ s.unitBad (a.toNat / 64) = true ∨ s.memDead = true)) ∧
    (∃ (who : Who) (a : BitVec 34) (s : State), s.powered = true ∧ s.dataOpen who = true ∧ s.memServes = true ∧
      (s.memRefuses who (a.toNat / 4 * 4) 4 = true ∨ s.inStaging (a.toNat / 4 * 4) 4 = true ∧ (who = .host ∨
      who = .cores))) ∧
    (∃ (who : Who) (s : State), s.powered = true ∧ s.dataOpen who = true ∧ s.memServes = false) ∧
    (∃ (who : Who) (s : State), s.powered = true ∧ s.dataOpen who = false) := by
  refine ⟨?_, ?_, ?_, ?_, ?_, ?_, ?_, ?_, ?_, ?_, ?_, ?_⟩
  · exact ⟨(wMem .run).fld R.MEM_RH_CFG Fd.MEM_RH_CFG_TRR_MAX, holdsAt (wMem .run) (by decide +kernel)⟩
  · exact ⟨7, holdsAt (wMem .run) (by decide +kernel)⟩
  · exact ⟨[1, 2], holdsAt (wMem .run) (by decide +kernel)⟩
  · exact holdsAt (wOn .run) (by decide +kernel)
  · exact ⟨3, 47999, 47999, holdsAt (wMem .run) (by decide +kernel)⟩
  · exact holdsAt ((wMem .run).onDev 3 fun x => { x with ce := List.replicate 24 1 }) (by decide +kernel)
  · exact ⟨.cores, 0x1003,
     holdsAt (let s : State := (wMem .run).setByte 0x1001 7; { s with host := { s.host with coresRun := 1 } })
         (by decide +kernel)⟩
  · exact ⟨.host, 0x1003,
     ((let s : State := (wMem .run).setByte 0x1001 7;
         { s with host := { s.host with pcieUp := true } }).unitDev (0x1003 / 64)).getD 0,
     holdsAt (let s : State := (wMem .run).setByte 0x1001 7; { s with host := { s.host with pcieUp := true } })
         (by decide +kernel)⟩
  · exact ⟨.cores, 0x1003, .uncorrectable,
     holdsAt (let s : State := (wMem .run).setByte 0x1001 7; { s with host := { s.host with coresRun := 1 } })
         (by decide +kernel)⟩
  · exact ⟨.host,
     (BitVec.ofNat 34 (let s : State := (wMem .run).setByte 0x1001 7;
         { s with host := { s.host with pcieUp := true } }).dirBase),
     holdsAt (let s : State := (wMem .run).setByte 0x1001 7; { s with host := { s.host with pcieUp := true } })
         (by decide +kernel)⟩
  · exact ⟨.host,
     holdsAt (let s : State := (wMem .keep).setByte 0x1001 7; { s with host := { s.host with pcieUp := true } })
         (by decide +kernel)⟩
  · exact ⟨.host, holdsAt ((wMem .run).setByte 0x1001 7) (by decide +kernel)⟩

/-- The hypotheses of MemoryMaintenance can be met, clause by clause. -/
theorem witness_MemoryMaintenance :
    (∃ (s : State), s.powered = true) ∧
    (∃ (s : State), s.powered = true) ∧
    (∃ (s : State), s.powered = true ∧ s.maintOk = true ∧ s.retrainDue = true ∧ s.memDead = false) ∧
    (∃ (d : Nat) (sp : Nat) (s : State), s.powered = true ∧ s.firstDue = some d ∧ s.spare = some sp ∧
      s.maintOk = true ∧ s.memDead = false) ∧
    (∃ (s : State), s.powered = true) ∧
    (∃ (due : Nat) (s : State), s.powered = true ∧ s.memc.maint = some (.retrain due) ∧ due ≤ s.clk.now) ∧
    (∃ (due : Nat) (d : Fin 9) (s : State), s.powered = true ∧ s.memc.maint = some (.retrain due) ∧ due ≤ s.clk.now ∧
      (s.mode = .hold ∨ s.mode = .idle) ∧ s.transit = none ∧ (s.dev d).st = .active) ∧
    (∃ (d : Fin 9) (s : State), s.powered = true ∧ s.memc.maint = none ∧ s.mode = .sanitise ∧ s.transit = none ∧
      (s.dev d).st = .active) ∧
    (∃ (d : Nat) (sp : Nat) (due : Nat) (s : State), s.powered = true ∧ s.memc.maint = some (.migrate d sp due) ∧
      due ≤ s.clk.now ∧ d ≠ sp ∧ (s.mode = .hold ∨ s.mode = .idle) ∧ s.transit = none) ∧
    (∃ (s : State), s.powered = true) := by
  refine ⟨?_, ?_, ?_, ?_, ?_, ?_, ?_, ?_, ?_, ?_⟩
  · exact holdsAt (let s : State := wMem .idle; { s with memc := { s.memc with selfRef := true } })
      (by decide +kernel)
  · exact holdsAt (let s : State := wMem .idle; { s with clk := { s.clk with now := 3000000 } }) (by decide +kernel)
  · exact holdsAt ((wMem .hold).onDev 3 fun x => { x with retrainDue := true }) (by decide +kernel)
  · exact ⟨3, 8, holdsAt (((wMem .hold).onDev 3 fun x => { x with retireDue := 1 })) (by decide +kernel)⟩
  · exact holdsAt ((wMem .run).onDev 3 fun x => { x with retrainDue := true, retireDue := 1 }) (by decide +kernel)
  · exact ⟨6000, holdsAt ((wMem .hold).wMaint (.retrain 6000)) (by decide +kernel)⟩
  · exact ⟨6000, 3, holdsAt ((wMem .hold).wMaint (.retrain 6000)) (by decide +kernel)⟩
  · exact ⟨3, holdsAt (wMem .sanitise) (by decide +kernel)⟩
  · exact ⟨3, 8, 6000, holdsAt ((wMem .hold).wMaint (.migrate 3 8 6000)) (by decide +kernel)⟩
  · exact holdsAt (wMem .hold) (by decide +kernel)

/-- The hypotheses of TallyCommands can be met, clause by clause. -/
theorem witness_TallyCommands :
    (∃ (q : Nat) (n : Nat) (r : Rec) (s : State), s.powered = true ∧ s.writerRuns = true ∧
      s.tally.slotDue ≤ s.clk.now ∧ q ≤ 8 ∧ s.staged q = [r] ∧ (∀ p ≤ 8, p ≠ q → s.staged p = []) ∧ r.len = n ∧
      r.left = n ∧ 1 ≤ n ∧ n ≤ 2 ∧ s.tally.devRecent = [] ∧ s.tally.placed = [] ∧ s.tally.wp = s.tally.head ∧
      s.tally.head + 32 * n ≤ s.ringSize ∧ 32 * n ≤ ringFree s.ringSize s.tally.head s.rp) ∧
    (∃ (q : Nat) (r : Rec) (s : State), s.powered = true ∧ s.writerRuns = true ∧ s.tally.slotDue ≤ s.clk.now ∧
      q ≤ 8 ∧ s.staged q = [r] ∧ (∀ p ≤ 8, p ≠ q → s.staged p = []) ∧ r.len = 2 ∧ r.left = 2 ∧
      s.tally.devRecent = [] ∧ s.tally.placed = [] ∧ s.tally.wp = s.tally.head ∧ s.tally.head + 32 = s.ringSize ∧
      96 ≤ ringFree s.ringSize s.tally.head s.rp ∧ 0 < s.tally.head) ∧
    (∃ (q : Nat) (r : Rec) (s : State), s.powered = true ∧ s.writerRuns = true ∧ s.tally.slotDue ≤ s.clk.now ∧
      q ≤ 8 ∧ s.staged q = [r] ∧ (∀ p ≤ 8, p ≠ q → s.staged p = []) ∧ r.left = r.len ∧ 1 ≤ r.len ∧
      s.tally.devRecent = [] ∧ ringFree s.ringSize s.tally.head s.rp < 32 * r.len) ∧
    (∃ (s : State), s.powered = true ∧ (s.clk.core = false ∨ s.memDead = true ∨ s.clk.now < s.tally.slotDue)) ∧
    (∃ (s : State), s.powered = true ∧ (∀ q ≤ 8, s.staged q = [])) ∧
    (∃ (who : Who) (v : Word) (s : State), s.powered = true ∧ s.reaches who = true ∧ s.rp < s.ringSize ∧
      s.tally.wp < s.ringSize ∧ s.flag R.TALLY_CTL Fd.TALLY_CTL_DMA = false ∧ v.toNat % 32 = 0 ∧
      v.toNat < s.ringSize ∧ (if s.rp ≤ s.tally.wp then s.rp ≤ v.toNat ∧ v.toNat ≤ s.tally.wp else s.rp ≤ v.toNat ∨
      v.toNat ≤ s.tally.wp)) ∧
    (∃ (who : Who) (v : Word) (s : State), s.powered = true ∧ s.reaches who = true ∧ s.rp < s.ringSize ∧
      s.tally.wp < s.ringSize ∧ (s.flag R.TALLY_CTL Fd.TALLY_CTL_DMA = true ∨ v.toNat % 32 ≠ 0 ∨
      s.ringSize ≤ v.toNat ∨ (if s.rp ≤ s.tally.wp then v.toNat < s.rp ∨ s.tally.wp < v.toNat else v.toNat < s.rp ∧
      s.tally.wp < v.toNat))) ∧
    (∃ (who : Who) (s : State), s.powered = true ∧ s.reaches who = false) ∧
    (∃ (a : Nat) (len : Nat) (s : State), s.powered = true ∧ s.drains = true ∧ s.rp ≠ s.tally.wp ∧
      s.memDead = false ∧ s.ringBase + s.rp = a ∧ 32 * (s.byteAt (a + 1)).toNat = len ∧
      s.badUnits a (if s.byteAt a = 0 then 32 else len) = [] ∧ s.ringSize ≤ 2 ^ 32) ∧
    (∃ (a : Nat) (st : Nat) (s : State), s.powered = true ∧ s.drains = true ∧ s.rp ≠ s.tally.wp ∧
      s.ringBase + s.rp = a ∧ srcStream (s.readLE (a + 2) 2) = st ∧ st < 25 ∧ (s.memDead = true ∨
      s.badUnits a (if s.byteAt a = 0 then 32 else 32 * (s.byteAt (a + 1)).toNat) ≠ [])) ∧
    (∃ (s : State), s.powered = true ∧ (s.drains = false ∨ s.rp = s.tally.wp)) ∧
    (∃ (kb : Nat) (us : Nat) (s : State), s.powered = true ∧ kb = s.fld R.TALLY_DMA_IRQ Fd.TALLY_DMA_IRQ_IRQ_KB ∧
      us = s.fld R.TALLY_DMA_IRQ Fd.TALLY_DMA_IRQ_IRQ_US) ∧
    (∃ (s : State), s.powered = true) ∧
    (∃ (k : Fin 25) (s : State), s.powered = true ∧ s.streamOn k = true ∧ (∀ r ∈ s.staged (streamSrc k),
      r.acc ≠ s.clk.now + 1)) ∧
    (∃ (k : Fin 25) (r : Rec) (s : State), s.powered = true ∧ s.streamOn k = true ∧ s.staged (streamSrc k) = [r] ∧
      r.stream = k ∧ r.own = false ∧ r.left = r.len ∧ r.acc = s.clk.now + 1 ∧
      s.stream k = { seq := (r.seq + 1) % 2 ^ 32 }) ∧
    (∃ (k : Fin 25) (s : State), s.powered = true ∧ s.streamOn k = false) ∧
    (∃ (k : Fin 25) (typ : Nat) (s : State), s.streamOpen k typ = false ∧ (s.stream k).offAt ≠ s.clk.now + 1) ∧
    (∃ (k : Fin 25) (src : Nat) (typ : Nat) (len : Nat) (time : Nat) (pay : List (Nat × Nat × Nat)) (x : Stream) (r :
      Rec) (s : State), s.streamOpen k typ = true ∧ s.stream k = x ∧ x.seq < 2 ^ 32 - 1 ∧ x.wrapDue = false ∧
      (x.drops = 0 ∨ x.gapHeld = false) ∧ s.stageUse k + 32 * len ≤ stageCap k ∧ s.memDead = false ∧
      (∀ y ∈ s.staged (streamSrc k), y.acc ≠ s.clk.now + 1) ∧
      r = { typ := typ, len := len, stream := k, src := src, seq := x.seq, time := time, pay := pay, left := len, acc
      := s.clk.now + 1 }) ∧
    (∃ (k : Fin 25) (typ : Nat) (len : Nat) (s : State), s.streamOpen k typ = true ∧
      (stageCap k < s.stageUse k + 32 * len ∨ s.memDead = true)) := by
  refine ⟨?_, ?_, ?_, ?_, ?_, ?_, ?_, ?_, ?_, ?_, ?_, ?_, ?_, ?_, ?_, ?_, ?_, ?_, ?_⟩
  · exact ⟨8, 1, recA, holdsAt (wTally) (by decide +kernel)⟩
  · exact ⟨3, recB, holdsAt (wTallyB 3 (wTally.ringSize - 32)) (by decide +kernel)⟩
  · exact ⟨8, recA,
     holdsAt (let s : State := wTally.setFld R.TALLY_RP Fd.TALLY_RP_OFS 32;
         { s with tally := { s.tally with head := 0, wp := 0 } }) (by decide +kernel)⟩
  · exact holdsAt (let s : State := wTally; { s with tally := { s.tally with slotDue := 6001 } }) (by decide +kernel)
  · exact holdsAt (wMem .run) (by decide +kernel)
  · exact ⟨.porter, 64,
     holdsAt (let s : State := wMem .run; { s with tally := { s.tally with wp := 128, head := 128 } })
         (by decide +kernel)⟩
  · exact ⟨.porter, 192,
     holdsAt (let s : State := wMem .run; { s with tally := { s.tally with wp := 128, head := 128 } })
         (by decide +kernel)⟩
  · exact ⟨.host, holdsAt (wMem .run) (by decide +kernel)⟩
  · exact ⟨(let s : State := wDrain.setReg R.TALLY_DMA_HRP 96;
      { s with tally := { s.tally with hwp := 32 } }).ringBase + (let s : State := wDrain.setReg R.TALLY_DMA_HRP 96;
      { s with tally := { s.tally with hwp := 32 } }).rp,
     32 * ((let s : State := wDrain.setReg R.TALLY_DMA_HRP 96;
         { s with tally := { s.tally with hwp := 32 } }).byteAt ((let s : State := wDrain.setReg R.TALLY_DMA_HRP 96;
         { s with tally := { s.tally with hwp := 32 } }).ringBase + (let s : State := wDrain.setReg R.TALLY_DMA_HRP 96; { s with tally := { s.tally with hwp := 32 } }).rp + 1)).toNat,
     holdsAt (let s : State := wDrain.setReg R.TALLY_DMA_HRP 96; { s with tally := { s.tally with hwp := 32 } })
         (by decide +kernel)⟩
  · exact ⟨(wDrain.poisonUnit (wDrain.ringBase / 64)).ringBase + (wDrain.poisonUnit (wDrain.ringBase / 64)).rp,
     srcStream ((wDrain.poisonUnit (wDrain.ringBase / 64)).readLE ((wDrain.poisonUnit (wDrain.ringBase / 64)).ringBase + (wDrain.poisonUnit (wDrain.ringBase / 64)).rp + 2) 2),
     holdsAt (wDrain.poisonUnit (wDrain.ringBase / 64)) (by decide +kernel)⟩
  · exact holdsAt (wMem .run) (by decide +kernel)
  · exact ⟨(let s : State := wDrain;
      { s with tally := { s.tally with unreported := 65536, firstCopy := 1 } }).fld R.TALLY_DMA_IRQ Fd.TALLY_DMA_IRQ_IRQ_KB,
     (let s : State := wDrain;
         { s with tally := { s.tally with unreported := 65536, firstCopy := 1 } }).fld R.TALLY_DMA_IRQ Fd.TALLY_DMA_IRQ_IRQ_US,
     holdsAt (let s : State := wDrain; { s with tally := { s.tally with unreported := 65536, firstCopy := 1 } })
         (by decide +kernel)⟩
  · exact holdsAt (wDrain) (by decide +kernel)
  · exact ⟨24, holdsAt ((wMem .run).raise (R.TALLY_STREAM_CTL 24) Fd.TALLY_STREAM_CTL_EN) (by decide +kernel)⟩
  · exact ⟨24,
     { recA with own := false, acc := (let s : State := ((wTally.raise (R.TALLY_STREAM_CTL 24) Fd.TALLY_STREAM_CTL_EN).onStream 24 fun _ => { seq := recA.seq + 1 }); s.setStaged 8 [{ recA with acc := s.clk.now + 1 }]).clk.now + 1 },
     holdsAt (let s : State :=
         ((wTally.raise (R.TALLY_STREAM_CTL 24) Fd.TALLY_STREAM_CTL_EN).onStream 24 fun _ => { seq := recA.seq + 1 }); s.setStaged 8 [{ recA with acc := s.clk.now + 1 }]) (by decide +kernel)⟩
  · exact ⟨24, holdsAt (wMem .run) (by decide +kernel)⟩
  · exact ⟨4, 1, holdsAt (wMem .run) (by decide +kernel)⟩
  · exact ⟨24, 5, 1, 2, 9, [(0, 1, 3)], ((wMem .run).raise (R.TALLY_STREAM_CTL 24) Fd.TALLY_STREAM_CTL_EN).stream 24,
     { typ := 1, len := 2, stream := 24, src := 5, seq := (((wMem .run).raise (R.TALLY_STREAM_CTL 24) Fd.TALLY_STREAM_CTL_EN).stream 24).seq, time := 9, pay := [(0, 1, 3)], left := 2, acc := ((wMem .run).raise (R.TALLY_STREAM_CTL 24) Fd.TALLY_STREAM_CTL_EN).clk.now + 1 },
     holdsAt ((wMem .run).raise (R.TALLY_STREAM_CTL 24) Fd.TALLY_STREAM_CTL_EN) (by decide +kernel)⟩
  · exact ⟨4, 1, 449, holdsAt ((wMem .run).raise (R.TALLY_STREAM_CTL 4) Fd.TALLY_STREAM_CTL_EN) (by decide +kernel)⟩

/-- The hypotheses of FabricCycles can be met, clause by clause. -/
theorem witness_FabricCycles :
    (∃ (s : State), s.powered = true ∧ (s.clk.fabricRuns = false ∨ s.clk.time % 8 ≠ 0 ∨
      s.fabric.last = s.clk.now + 1)) ∧
    (∃ (x : State × List Nat) (s : State), s.powered = true ∧ s.clk.fabricRuns = true ∧ s.clk.time % 8 = 0 ∧
      s.fabric.last ≠ s.clk.now + 1 ∧ s.fabricEval = x) ∧
    (∃ (s : State), s.powered = true ∧ s.clk.fabricRuns = true ∧ s.clk.time % 8 = 0 ∧ s.fabric.last ≠ s.clk.now + 1) ∧
    (∃ (x : State × List Nat) (s : State), s.powered = true ∧ s.clk.fabricRuns = true ∧ s.clk.time % 8 = 0 ∧
      s.fabric.last ≠ s.clk.now + 1 ∧ s.fabricEval = x) ∧
    (∃ (x : State × List Nat) (b : Nat) (i : Nat) (m : Nat) (s : State), s.powered = true ∧ s.clk.fabricRuns = true ∧
      s.clk.time % 8 = 0 ∧ s.fabric.last ≠ s.clk.now + 1 ∧ s.fabricEval = x ∧ b < 8 ∧ i < 4 ∧ m < 32) ∧
    (∃ (x : State × List Nat) (k : Fin 8) (s : State), s.powered = true ∧ s.clk.fabricRuns = true ∧
      s.clk.time % 8 = 0 ∧ s.fabric.last ≠ s.clk.now + 1 ∧ s.fabricEval = x ∧ s.hits (224 + k) x.2 ≠ 0 ∧
      NMap.get (fun _ => 0) x.1.fabric.trigBusy k = 0) ∧
    (∃ (x : State × List Nat) (g : Fin 8) (s : State), s.powered = true ∧ s.clk.fabricRuns = true ∧
      s.clk.time % 8 = 0 ∧ s.fabric.last ≠ s.clk.now + 1 ∧ s.fabricEval = x ∧ s.hits (232 + g) x.2 ≠ 0 ∧
      s.consBusy (232 + g) = false) ∧
    (∃ (x : State × List Nat) (s : State), s.powered = true ∧ s.clk.fabricRuns = true ∧ s.clk.time % 8 = 0 ∧
      s.fabric.last ≠ s.clk.now + 1 ∧ s.fabricEval = x) ∧
    (∃ (s : State), s.powered = true) := by
  refine ⟨?_, ?_, ?_, ?_, ?_, ?_, ?_, ?_, ?_⟩
  · exact holdsAt ((wOn .run).wTime 3001) (by decide +kernel)
  · exact ⟨(let s : State := wOn .run;
      { s with fabric := { s.fabric with started := true, demand := [(3, 374), (336, 374)] } }).fabricEval,
     let s : State := wOn .run;
         { s with fabric := { s.fabric with started := true, demand := [(3, 374), (336, 374)] } },
     by decide +kernel, by decide +kernel, by decide +kernel, by decide +kernel, rfl⟩
  · exact holdsAt ((let s : State := wOn .run;
      { s with fabric := { s.fabric with started := true, aonSeen := 7 } }).wCells) (by decide +kernel)
  · exact ⟨((wOn .run).wEvents).fabricEval, (wOn .run).wEvents, by decide +kernel, by decide +kernel, by decide +kernel,
     by decide +kernel, rfl⟩
  · exact ⟨(((wOn .run).wEvents).setReg (R.EVT_LSEL_HI 1) 0xAAAAAAAA).fabricEval, 1, 2, 17,
     ((wOn .run).wEvents).setReg (R.EVT_LSEL_HI 1) 0xAAAAAAAA, by decide +kernel, by decide +kernel,
     by decide +kernel, by decide +kernel, rfl, by decide +kernel, by decide +kernel, by decide +kernel⟩
  · exact ⟨(((wOn .run).wEvents).setReg (R.TIME_TRIG_CTL 3) 0xFFFFFFFF).fabricEval, 3,
     ((wOn .run).wEvents).setReg (R.TIME_TRIG_CTL 3) 0xFFFFFFFF, by decide +kernel, by decide +kernel,
     by decide +kernel, by decide +kernel, rfl, by decide +kernel, by decide +kernel⟩
  · exact ⟨((wOn .run).wEvents).fabricEval, 3, (wOn .run).wEvents, by decide +kernel, by decide +kernel, by decide +kernel,
     by decide +kernel, rfl, by decide +kernel, by decide +kernel⟩
  · exact ⟨((((wOn .run).wEvents).onFm 1 fun f => { f with evLatch := 255 }).setReg R.EVT_IRQ 15).fabricEval,
     (((wOn .run).wEvents).onFm 1 fun f => { f with evLatch := 255 }).setReg R.EVT_IRQ 15, by decide +kernel,
     by decide +kernel, by decide +kernel, by decide +kernel, rfl⟩
  · exact holdsAt (let s : State := wOn .run; { s with fabric := { s.fabric with ledUntil := [(3, 6000)] } })
      (by decide +kernel)

/-- The hypotheses of BiasCommands can be met, clause by clause. -/
theorem witness_BiasCommands :
    (∃ (s : State), s.powered = true) ∧
    (∃ (s : State), s.powered = true) ∧
    (∃ (s : State), s.powered = true ∧ s.clk.now < s.slow.boundary) ∧
    (∃ (n : Fin 64) (code : Nat) (goal : Int) (d : Int) (s : State), s.powered = true ∧ s.slow.boundary ≤ s.clk.now ∧
      s.safeLow = false ∧ (s.bias n).parked = false ∧ (s.bias n).step = .none_ ∧ (s.bias n).susp = false ∧
      (s.bias n).aim = .target ∧ ((s.flag (R.BIAS_CH_CFG n) Fd.BIAS_CH_CFG_LGEN = false ∧ (s.bias n).staged = true ∨
      s.flag (R.BIAS_CH_CFG n) Fd.BIAS_CH_CFG_LGEN = true ∧ ∃ r ∈ s.slow.loads, r.after ≤ s.slow.boundary ∧
      r.group = s.fld (R.BIAS_CH_CFG n) Fd.BIAS_CH_CFG_LGRP) ∧ code = s.fld (R.BIAS_CH_CODE n) Fd.BIAS_CH_CODE_CODE ∨
      (s.flag (R.BIAS_CH_CFG n) Fd.BIAS_CH_CFG_LGEN = false ∧ (s.bias n).staged = false ∨
      s.flag (R.BIAS_CH_CFG n) Fd.BIAS_CH_CFG_LGEN = true ∧ ∀ r ∈ s.slow.loads, r.after ≤ s.slow.boundary →
      r.group ≠ s.fld (R.BIAS_CH_CFG n) Fd.BIAS_CH_CFG_LGRP) ∧ code = (s.bias n).target) ∧
      goal = codeVolt (s.bias n).range code ∧
      d = 1048576 * (max 1 (s.fld (R.BIAS_CH_CFG n) Fd.BIAS_CH_CFG_RATE) : Nat)) ∧
    (∃ (n : Fin 64) (goal : Int) (d : Int) (s : State), s.powered = true ∧ s.slow.boundary ≤ s.clk.now ∧
      s.safeLow = true ∧ (s.bias n).parked = false ∧ (s.bias n).step = .none_ ∧ (s.bias n).aim = .safe ∧
      goal = codeVolt (s.bias n).range (s.bias n).target ∧
      d = 10485760 * (max 1 (s.fld (R.BIAS_CH_SAFE n) Fd.BIAS_CH_SAFE_SAFE_RATE) : Nat)) ∧
    (∃ (n : Fin 64) (d : Int) (s : State), s.powered = true ∧ s.slow.boundary ≤ s.clk.now ∧
      (s.bias n).parked = false ∧ (s.bias n).aim = .parking ∧
      d = 1048576 * (max 1 (s.fld (R.BIAS_CH_CFG n) Fd.BIAS_CH_CFG_RATE) : Nat)) ∧
    (∃ (n : Fin 64) (s : State), s.powered = true ∧ s.slow.boundary ≤ s.clk.now ∧ (s.bias n).parked = true) ∧
    (∃ (n : Fin 64) (lo : Int) (hi : Int) (s : State), s.powered = true ∧ s.slow.boundary ≤ s.clk.now ∧
      (s.bias n).parked = false ∧ (lo, hi) = rangeLimits (s.bias n).range) ∧
    (∃ (n : Fin 64) (f : Nat) (s : State), s.powered = true ∧ s.slow.boundary ≤ s.clk.now ∧
      (s.bias n).parked = false ∧ (s.bias n).step = .none_ ∧ (s.bias n).susp = false ∧ (s.bias n).aim = .target ∧
      f = max 1 (min 429496730 (s.reg (R.BIAS_CH_SIN_FTW n)).toNat)) ∧
    (∃ (n : Fin 64) (g : Int) (d : Int) (s : State), s.powered = true ∧ s.slow.boundary ≤ s.clk.now ∧
      s.safeLow = false ∧ (s.bias n).parked = false ∧ (s.bias n).susp = false ∧ (s.bias n).aim = .target ∧
      s.flag (R.BIAS_CH_CFG n) Fd.BIAS_CH_CFG_JUMP = false ∧ g = codeVolt (s.bias n).range (s.bias n).target ∧
      d = 1048576 * (max 1 (s.fld (R.BIAS_CH_CFG n) Fd.BIAS_CH_CFG_RATE) : Nat)) ∧
    (∃ (i : Fin 18) (v : Bool) (s : State), s.powered = true ∧ (s.clk.phAon ≠ 0 ∨ bitAt s.slow.panel i = v)) ∧
    (∃ (s : State), s.powered = true ∧ s.clk.phAon = 0) ∧
    (∃ (g : Nat) (s : State), s.powered = true ∧ s.clk.phAon = 0 ∧ bitAt s.slow.panel 17 = true ∧ g < 8 ∧
      s.fbit R.BIAS_GRP_CFG Fd.BIAS_GRP_CFG_PIN g = true) ∧
    (∃ (who : Who) (s : State), s.powered = true ∧ s.reaches who = false) ∧
    (∃ (who : Who) (s : State), s.powered = true ∧ s.reaches who = true) ∧
    (∃ (s : State), s.powered = true) ∧
    (∃ (who : Who) (v : Word) (r : Nat) (c : Nat) (s : State), s.powered = true ∧ s.reaches who = true ∧
      r = v.toNat / 2 ^ 20 % 8 ∧ c = v.toNat % 2 ^ 20) ∧
    (∃ (n : Fin 64) (due : Nat) (s : State), s.powered = true ∧ (s.bias n).step = .switching due ∧ due ≤ s.clk.now ∧
      s.safeLow = false ∧ (s.bias n).aim ∈ [.target, .safe] ∧ (s.bias n).later = none) ∧
    (∃ (n : Fin 64) (due : Nat) (s : State), s.powered = true ∧ (s.bias n).step = .switching due ∧ due ≤ s.clk.now ∧
      s.safeLow = true ∧ (s.bias n).aim ∈ [.target, .safe] ∧ (s.bias n).later = none) ∧
    (∃ (n : Fin 64) (due : Nat) (s : State), s.powered = true ∧ (s.bias n).step = .switching due ∧ due ≤ s.clk.now ∧
      (s.bias n).aim ∈ [.parking, .parkSafe] ∧ (s.bias n).later = none) ∧
    (∃ (s : State), s.powered = true) ∧
    (∃ (s : State), s.powered = true) ∧
    (∃ (n : Fin 64) (win : Int) (s : State), s.powered = true ∧ (s.bias n).parked = false ∧ (s.bias n).sin = false ∧
      win = (s.fld (R.BIAS_CH_SUP n) Fd.BIAS_CH_SUP_WIN : Nat)) ∧
    (∃ (n : Fin 64) (load : Int) (s : State), s.powered = true ∧ (s.bias n).parked = false ∧ (s.bias n).sin = false ∧
      load = (s.fld (R.BIAS_CH_SUP n) Fd.BIAS_CH_SUP_LOAD : Nat)) ∧
    (∃ (n : Fin 64) (s : State), s.powered = true ∧ ((s.bias n).parked = true ∨ (s.bias n).sin = true)) := by
  refine ⟨?_, ?_, ?_, ?_, ?_, ?_, ?_, ?_, ?_, ?_, ?_, ?_, ?_, ?_, ?_, ?_, ?_, ?_, ?_, ?_, ?_, ?_, ?_, ?_, ?_⟩
  · exact holdsAt (wOn .run) (by decide +kernel)
  · exact holdsAt (wOn .run) (by decide +kernel)
  · exact holdsAt (let s : State := wOn .run; { s with slow := { s.slow with boundary := 6001 } }) (by decide +kernel)
  · exact ⟨63, 0xFFFFF, codeVolt 0 0xFFFFF, 1048576,
     ((wOn .run).wBias 63 { parked := false, staged := true }).setReg (R.BIAS_CH_CODE 63) 0xFFFFF, by decide +kernel,
     by decide +kernel, by decide +kernel, by decide +kernel, rfl, by decide +kernel, by decide +kernel,
     by decide +kernel, by decide +kernel, by decide +kernel⟩
  · exact ⟨63, codeVolt 0 0x80000, 10485760,
     ((wOn .run).wBias 63 { parked := false, target := 0x80000, out := 5, aim := .safe, staged := true }).wPanel 0x20000,
     by decide +kernel, by decide +kernel, by decide +kernel, by decide +kernel, rfl, by decide +kernel,
     by decide +kernel, by decide +kernel⟩
  · exact ⟨63, 1048576,
     holdsAt ((wOn .run).wBias 63 { parked := false, out := 1048576, aim := .parking, sin := true })
         (by decide +kernel)⟩
  · exact ⟨63, holdsAt (wOn .run) (by decide +kernel)⟩
  · exact ⟨63, 0, 5242875000000,
     holdsAt (((wOn .run).wBias 63 { parked := false, sin := true, phase := 0x7FFFFFFE }).setReg (R.BIAS_CH_SIN_AMP 63) 1) (by decide +kernel)⟩
  · exact ⟨63, 1, (wOn .run).wBias 63 { parked := false, sin := true, phase := 0xFFFFFFFF, sinStop := true },
     by decide +kernel, by decide +kernel, by decide +kernel, rfl, by decide +kernel, by decide +kernel,
     by decide +kernel⟩
  · exact ⟨63, codeVolt 1 0x80000, 1048576,
     holdsAt ((wOn .run).wBias 63 { parked := false, range := 1, target := 0x80000, out := 5, step := .waitGlide })
         (by decide +kernel)⟩
  · exact ⟨17, false, holdsAt (let s : State := wOn .run; { s with clk := { s.clk with phAon := 5 } })
      (by decide +kernel)⟩
  · exact holdsAt (wOn .run) (by decide +kernel)
  · exact ⟨7, holdsAt ((wOn .run).setFld R.BIAS_GRP_CFG Fd.BIAS_GRP_CFG_PIN 0x80) (by decide +kernel)⟩
  · exact ⟨.host, holdsAt (wOn .run) (by decide +kernel)⟩
  · exact ⟨.porter, holdsAt (wOn .run) (by decide +kernel)⟩
  · exact holdsAt ((wOn .run).wBias 63 { parked := false, step := .toZero }) (by decide +kernel)
  · exact ⟨.host, 0x00180000, 1, 0x80000, holdsAt ((wOn .run).wUp) (by decide +kernel)⟩
  · exact ⟨63, 6000, (wOn .run).wBias 63 { step := .switching 6000, req := 1, reqCode := 77 }, by decide +kernel, rfl,
     by decide +kernel, by decide +kernel, by decide +kernel, by decide +kernel⟩
  · exact ⟨63, 6000,
     (((wOn .run).wBias 63 { step := .switching 6000, req := 1, reqCode := 77, aim := .safe }).setReg (R.BIAS_CH_CTL 63) 4).wPanel 0x20000,
     by decide +kernel, rfl, by decide +kernel, by decide +kernel, by decide +kernel, by decide +kernel⟩
  · exact ⟨63, 6000, (wOn .run).wBias 63 { step := .switching 6000, req := 1, reqCode := 77, aim := .parking },
     by decide +kernel, rfl, by decide +kernel, by decide +kernel, by decide +kernel⟩
  · exact holdsAt (wOn .run) (by decide +kernel)
  · exact holdsAt ((wOn .run).wBias 63 { parked := false, sin := true }) (by decide +kernel)
  · exact ⟨63, 1,
     holdsAt (((wOn .run).wBias 63 { parked := false, misses := 1 }).setReg (R.BIAS_CH_SUP 63) 1) (by decide +kernel)⟩
  · exact ⟨63, 0, holdsAt ((wOn .run).wBias 63 { parked := false }) (by decide +kernel)⟩
  · exact ⟨63, holdsAt (wOn .run) (by decide +kernel)⟩

/-- The hypotheses of SensorScan can be met, clause by clause. -/
theorem witness_SensorScan :
    (∃ (s : State), s.powered = true) ∧
    (∃ (s : State), s.powered = true) ∧
    (∃ (s : State), s.powered = true ∧ s.readingDue = false) ∧
    (∃ (s : State), s.powered = true ∧ s.readingDue = true) ∧
    (∃ (e : Nat) (s : State), s.powered = true ∧ s.scanning = true ∧
      e = (if s.fld R.SENSE_CTL Fd.SENSE_CTL_LAST ≤ s.slow.scan.entry then 0 else s.slow.scan.entry + 1) ∧
      (s.slow.scan.failed = true ∨ scanAvg s.slow.scan.cfg ≤ s.slow.scan.readings.length)) ∧
    (∃ (i : Fin 32) (v : Word) (s : State), s.powered = true ∧ s.scanning = true ∧ s.slow.scan.entry = i ∧
      s.slow.scan.failed = false ∧ (s.reg (R.SENSE_SCAN_A i)).toNat % 2 ^ 19 ≠ v.toNat % 2 ^ 19) ∧
    (∃ (i : Fin 32) (v : Word) (s : State), s.powered = true ∧ (s.scanning = false ∨ s.slow.scan.entry ≠ i ∨
      s.slow.scan.failed = true ∨ (s.reg (R.SENSE_SCAN_A i)).toNat % 2 ^ 19 = v.toNat % 2 ^ 19)) ∧
    (∃ (s : State), s.powered = true) := by
  refine ⟨?_, ?_, ?_, ?_, ?_, ?_, ?_, ?_⟩
  · exact holdsAt (wOn .run) (by decide +kernel)
  · exact holdsAt ((wOn .run).wScan 0 false) (by decide +kernel)
  · exact holdsAt (wOn .run) (by decide +kernel)
  · exact holdsAt (((wOn .run).wScan 0 false).wNow 2000000000) (by decide +kernel)
  · exact ⟨0, holdsAt ((wOn .run).wScan 1 false) (by decide +kernel)⟩
  · exact ⟨0, 0x7FFFF, holdsAt ((wOn .run).wScan 1 false) (by decide +kernel)⟩
  · exact ⟨31, 0x7FFFF, holdsAt (wOn .run) (by decide +kernel)⟩
  · exact holdsAt (let s : State := wOn .run; { s with slow := { s.slow with loops := [(1, { bad := 2 })] } })
      (by decide +kernel)

/-- The hypotheses of ThermalSamples can be met, clause by clause. -/
theorem witness_ThermalSamples :
    (∃ (s : State), s.powered = true ∧ s.clk.now < s.therm.due) ∧
    (∃ (ts : List Int) (rs : List Int) (ds : List (Option Int)) (m : Int) (s : State), s.powered = true ∧
      s.therm.due ≤ s.clk.now ∧ s.isLatched = false ∧ s.hold = none ∧ s.transit = none ∧
      rs = ((List.range 32).map fun i => reading (ts.getD i 0)) ∧ (∀ i < 32, s.brokenCause rs i = 0) ∧ (∀ i < 32,
      s.riseOf rs i ≤ s.shedRise ∧ s.riseOf rs i ≤ s.latchRise) ∧ (∀ k < 2, s.diodeHi ds k = false) ∧ m ∈ rs ∧
      (∀ r ∈ rs, r ≤ m)) ∧
    (∃ (ts : List Int) (rs : List Int) (i : Nat) (s : State), s.powered = true ∧ s.therm.due ≤ s.clk.now ∧
      s.isLatched = false ∧ rs = ((List.range 32).map fun i => reading (ts.getD i 0)) ∧ (∀ j < 32,
      s.brokenCause rs j = 0) ∧ (∀ j < 32, s.riseOf rs j ≤ s.latchRise) ∧ (∀ r ∈ rs, r < s.convT ∧ r < s.latchT) ∧
      i < 32 ∧ s.shedRise < s.riseOf rs i ∧ s.therm.action = .none_) ∧
    (∃ (ts : List Int) (rs : List Int) (i : Nat) (s : State), s.powered = true ∧ s.therm.due ≤ s.clk.now ∧
      s.isLatched = false ∧ rs = ((List.range 32).map fun i => reading (ts.getD i 0)) ∧ i < 32 ∧
      s.latchRise < s.riseOf rs i) ∧
    (∃ (ts : List Int) (rs : List Int) (k : Nat) (s : State), s.powered = true ∧ s.therm.due ≤ s.clk.now ∧
      s.isLatched = false ∧ rs = ((List.range 32).map fun i => reading (ts.getD i 0)) ∧ (∀ j < 32,
      s.brokenCause rs j = 0) ∧ (∀ j < 32, s.riseOf rs j ≤ s.latchRise) ∧ (∀ r ∈ rs, r < s.convT ∧ r < s.latchT) ∧
      k < 2 ∧ s.therm.action = .none_) ∧
    (∃ (ts : List Int) (rs : List Int) (i : Nat) (s : State), s.powered = true ∧ s.therm.due ≤ s.clk.now ∧
      s.isLatched = false ∧ 16 ≤ s.therm.samples ∧ rs = ((List.range 32).map fun i => reading (ts.getD i 0)) ∧
      i < 32 ∧ s.brokenCause rs i ≠ 0) ∧
    (∃ (ts : List Int) (rs : List Int) (i : Nat) (s : State), s.powered = true ∧ s.therm.due ≤ s.clk.now ∧
      s.isLatched = false ∧ s.therm.samples < 16 ∧ rs = ((List.range 32).map fun i => reading (ts.getD i 0)) ∧
      i < 32 ∧ s.brokenCause rs i ≠ 0) ∧
    (∃ (ts : List Int) (rs : List Int) (s : State), s.powered = true ∧ s.therm.due ≤ s.clk.now ∧ s.isLatched = true ∧
      rs = ((List.range 32).map fun i => reading (ts.getD i 0))) ∧
    (∃ (h : HoldReq) (s : State), s.powered = true ∧ s.hold = some h ∧ s.mode = .run ∧ h.shed = true ∧
      h.shedDue ≤ s.clk.now ∧ h.follow = none) ∧
    (∃ (s : State), s.powered = true ∧ s.therm.latchDue.isSome = true) := by
  refine ⟨?_, ?_, ?_, ?_, ?_, ?_, ?_, ?_, ?_, ?_⟩
  · exact holdsAt (let s : State := wOn .run; { s with therm := { s.therm with due := 6001 } }) (by decide +kernel)
  · exact ⟨List.replicate 32 80, List.replicate 32 80, [none, none], 80, holdsAt (wOn .run) (by decide +kernel)⟩
  · exact ⟨List.replicate 32 87, List.replicate 32 87, 31,
     holdsAt (let s : State := wOn .run; { s with therm := { s.therm with sensors := [(31, { hist := [80] })] } })
         (by decide +kernel)⟩
  · exact ⟨List.replicate 32 121, List.replicate 32 121, 31,
     holdsAt (let s : State := wOn .run; { s with therm := { s.therm with sensors := [(31, { hist := [80] })] } })
         (by decide +kernel)⟩
  · exact ⟨List.replicate 32 80, List.replicate 32 80, 1,
     holdsAt ((wOn .run).setFld (R.THERM_DIODE 1) Fd.THERM_DIODE_HI 10) (by decide +kernel)⟩
  · exact ⟨List.replicate 32 351, List.replicate 32 351, 31,
     holdsAt (let s : State := wOn .run; { s with therm := { s.therm with samples := 16 } }) (by decide +kernel)⟩
  · exact ⟨List.replicate 32 351, List.replicate 32 351, 31, holdsAt (wOn .idle) (by decide +kernel)⟩
  · exact ⟨List.replicate 32 351, List.replicate 32 351,
     holdsAt (let s : State := wOn .latched; { s with therm := { s.therm with thermN := true } }) (by decide +kernel)⟩
  · exact ⟨holdA, holdsAt ({ wOn .run with hold := some holdA }) (by decide +kernel)⟩
  · exact holdsAt (let s : State := wOn .run;
      { s with therm := { s.therm with thermN := true, latchDue := some 6000 } }) (by decide +kernel)

/-- The hypotheses of SurveysAndLedger can be met, clause by clause. -/
theorem witness_SurveysAndLedger :
    (∃ (s : State), s.powered = true ∧ s.mode = .trim ∧ s.therm.surveying = true) ∧
    (∃ (old : Int), -12 ≤ old ∧ old ≤ 24) ∧
    (∃ (s : State), s.powered = true ∧ (s.mode ≠ .trim ∨ s.therm.surveying = false)) ∧
    (∃ (s : State), s.powered = true) ∧
    (∃ (s : State), s.powered = true ∧ (s.mode = .idle ∨ s.mode = .boot)) := by
  refine ⟨?_, ?_, ?_, ?_, ?_⟩
  · exact holdsAt (let s : State := wOn .trim; { s with therm := { s.therm with surveying := true } })
      (by decide +kernel)
  · exact ⟨24, by decide +kernel⟩
  · exact holdsAt (wOn .trim) (by decide +kernel)
  · exact holdsAt (wOn .idle) (by decide +kernel)
  · exact holdsAt (let s : State := (wOn .boot).wNow 900000000000000000;
      { s with host := { s.host with ledger := [{ seq := 1, kind := .baseline, written := 900000000000000000 - 473039999999999999 }, { seq := 2, kind := .mem, written := 900000000000000000 - 473040000000000000 }] } }) (by decide +kernel)

/-- The hypotheses of HostLinks can be met, clause by clause. -/
theorem witness_HostLinks :
    (∃ (s : State), s.powered = true) ∧
    (∃ (s : State), s.powered = true ∧ s.mode.linked = true ∧ s.host.devid = 0) ∧
    (∃ (port : Fin 5) (depth : Fin 5) (s : State), s.powered = true ∧ (port.val = 0 ∨ s.carter port ≠ 2 ∨
      depth.val ≤ s.fld R.LINK_TREE Fd.LINK_TREE_DEPTH)) ∧
    (∃ (port : Fin 5) (depth : Fin 5) (s : State), s.powered = true ∧ port.val ≠ 0 ∧ s.carter port = 2 ∧
      s.fld R.LINK_TREE Fd.LINK_TREE_DEPTH < depth.val) ∧
    (∃ (port : Fin 5) (s : State), s.powered = true ∧ (s.mode.linked = false ∨ s.carter port < 2)) ∧
    (∃ (port : Fin 5) (s : State), s.powered = true ∧ s.mode.linked = true ∧ 2 ≤ s.carter port) ∧
    (∃ (port : Fin 5) (s : State), s.powered = true ∧ (s.mode.linked = false ∨ 2 ≤ s.carter port ∨ port.val = 0 ∧
      s.host.devid = 0)) ∧
    (∃ (port : Fin 5) (s : State), s.powered = true ∧ s.mode.linked = true ∧ s.carter port < 2 ∧ (port.val ≠ 0 ∨
      s.host.devid ≠ 0)) ∧
    (∃ (port : Fin 5) (s : State), s.powered = true ∧ s.carter port = 2) := by
  refine ⟨?_, ?_, ?_, ?_, ?_, ?_, ?_, ?_, ?_⟩
  · exact holdsAt (wDrain) (by decide +kernel)
  · exact holdsAt (wOn .run) (by decide +kernel)
  · exact ⟨4, 4, holdsAt (wOn .run) (by decide +kernel)⟩
  · exact ⟨4, 4,
     holdsAt (let s : State := wOn .run; { s with host := { s.host with carter := [(4, 2)] } }) (by decide +kernel)⟩
  · exact ⟨4, holdsAt (wOn .run) (by decide +kernel)⟩
  · exact ⟨4,
     holdsAt (let s : State := wOn .run;
         { s with host := { s.host with carter := [(4, 2)], reach := 6, below := [(1, (4, 1)), (2, (3, 1))] } })
         (by decide +kernel)⟩
  · exact ⟨0, holdsAt (wOn .run) (by decide +kernel)⟩
  · exact ⟨4, holdsAt (wOn .run) (by decide +kernel)⟩
  · exact ⟨4,
     holdsAt (let s : State := wOn .run; { s with host := { s.host with carter := [(4, 2)] } }) (by decide +kernel)⟩

/-- The hypotheses of CoreCommands can be met, clause by clause. -/
theorem witness_CoreCommands :
    (∃ (a : Signer) (b : Signer) (k : Signer) (s : State), s.powered = true ∧ s.mode.hasCores = true ∧
      s.coresHeld = false ∧ s.host.coresRun = 0 ∧ s.host.customFlash = true ∧ (lifeCycle s.host.otp, k) ∈ [(.owned,
      .owner), (.vendor, .henileo), (.returned, .henileo)] ∧ (a = k ∨ b = k)) ∧
    (∃ (a : Signer) (b : Signer) (s : State), s.powered = true ∧ s.mode.hasCores = true ∧ s.coresHeld = false ∧
      s.host.coresRun = 0 ∧ (s.host.customFlash = false ∨ lifeCycle s.host.otp ∈ [.blank, .scrapped] ∨
      lifeCycle s.host.otp = .owned ∧ a ≠ .owner ∧ b ≠ .owner ∨ lifeCycle s.host.otp ∈ [.vendor, .returned] ∧
      a ≠ .henileo ∧ b ≠ .henileo)) ∧
    (∃ (s : State), s.powered = true ∧ (s.mode.hasCores = false ∨ s.coresHeld = true ∨ s.host.coresRun ≠ 0)) ∧
    (∃ (s : State), s.powered = true) ∧
    (∃ (s : State), s.powered = true) ∧
    (∃ (s : State), s.powered = true) ∧
    (∃ (s : State), s.powered = true ∧ s.host.wdogDue ≠ 0 ∧ s.host.wdogDue ≤ s.clk.now) ∧
    (∃ (s : State), s.powered = true ∧ (s.host.wdogDue = 0 ∨ s.clk.now < s.host.wdogDue)) ∧
    (∃ (code : BitVec 8) (s : State), s.powered = true ∧ (s.host.mgmtPorter = false ∨ code = 0 ∨ 6 < code.toNat)) ∧
    (∃ (code : BitVec 8) (s : State), s.powered = true ∧ s.host.mgmtPorter = true ∧ code ≠ 0 ∧ code.toNat ≤ 6) := by
  refine ⟨?_, ?_, ?_, ?_, ?_, ?_, ?_, ?_, ?_, ?_⟩
  · exact ⟨.henileo, .none_, .henileo, holdsAt (wOn .idle) (by decide +kernel)⟩
  · exact ⟨.owner, .none_, holdsAt (wOn .idle) (by decide +kernel)⟩
  · exact holdsAt (wOn .keep) (by decide +kernel)
  · exact holdsAt (wOn .idle) (by decide +kernel)
  · exact holdsAt ((wOn .idle).raise R.TOP_CORE_CTL Fd.TOP_CORE_CTL_HOLD) (by decide +kernel)
  · exact holdsAt (let s : State := (wOn .idle).setFld R.TOP_CORE_CTL Fd.TOP_CORE_CTL_WDOG 255;
      { s with host := { s.host with coresRun := 1, wdogDue := 9000 } }) (by decide +kernel)
  · exact holdsAt (let s : State := wOn .idle; { s with host := { s.host with coresRun := 1, wdogDue := 6000 } })
      (by decide +kernel)
  · exact holdsAt (wOn .idle) (by decide +kernel)
  · exact ⟨2, holdsAt (wOn .idle) (by decide +kernel)⟩
  · exact ⟨3,
     holdsAt (let s : State := wOn .idle; { s with host := { s.host with mgmtPorter := true } }) (by decide +kernel)⟩

/-- The hypotheses of PorterStarts can be met, clause by clause. -/
theorem witness_PorterStarts :
    (∃ (s : State), s.powered = true ∧ s.porterUp = true ∧ s.host.job = none) ∧
    (∃ (c : Instr) (q : Word) (p : FwPart) (k : Token) (s : State), s.powered = true ∧ s.porterUp = true ∧
      s.host.job.isSome = true ∧ c ∈ [.ident, .ledgerKey, .provKey, .ledgerRead q, .fwWrite p, .lcToken k]) ∧
    (∃ (c : Instr) (q : Word) (p : FwPart) (k : Token) (s : State), s.powered = true ∧ s.porterUp = false ∧
      c ∈ [.ident, .ledgerKey, .provKey, .ledgerRead q, .fwWrite p, .lcToken k]) ∧
    (∃ (s : State), s.powered = true ∧ s.porterUp = true ∧ s.host.job = none) := by
  refine ⟨?_, ?_, ?_, ?_⟩
  · exact holdsAt ((wOn .idle).wJob none) (by decide +kernel)
  · exact ⟨.ident, 7, { bytes := 5, last := true, verifies := true, version := 3 }, tokenA,
     holdsAt ((wOn .idle).wJob (some .ident)) (by decide +kernel)⟩
  · exact ⟨.provKey, 7, { bytes := 5, last := true, verifies := true, version := 3 }, tokenA,
     holdsAt (wOn .boot) (by decide +kernel)⟩
  · exact holdsAt ((wOn .idle).wJob none) (by decide +kernel)

/-- The hypotheses of PorterCompletions can be met, clause by clause. -/
theorem witness_PorterCompletions :
    (∃ (s : State), s.powered = true ∧ s.host.job = none) ∧
    (∃ (j : PorterJob) (s : State), s.powered = true ∧ s.host.job = some j ∧ j ∈ [.ident, .ledgerKey, .provKey]) ∧
    (∃ (r : LedgerRec) (s : State), s.powered = true ∧ s.host.job = some (.ledgerRead r.seq) ∧ r ∈ s.host.ledger ∧
      (∀ x ∈ s.host.ledger, x.seq = r.seq → x = r)) ∧
    (∃ (q : Nat) (s : State), s.powered = true ∧ s.host.job = some (.ledgerRead q) ∧ (∀ x ∈ s.host.ledger, x.seq ≠ q)) ∧
    (∃ (n : Nat) (v : Nat) (ok : Bool) (s : State), s.powered = true ∧ s.host.job = some (.fwWrite n false ok v)) ∧
    (∃ (n : Nat) (v : Nat) (ok : Bool) (s : State), s.powered = true ∧ s.host.job = some (.fwWrite n true ok v)) ∧
    (∃ (target : LifeCycle) (h : Nat) (key : Bool) (s : State), s.powered = true ∧
      s.host.job = some (.lcToken 0 target h key)) ∧
    (∃ (r : Nat) (target : LifeCycle) (h : Nat) (key : Bool) (s : State), s.powered = true ∧ r ≠ 0 ∧ r < 16 ∧
      s.host.job = some (.lcToken r target h key)) := by
  refine ⟨?_, ?_, ?_, ?_, ?_, ?_, ?_, ?_⟩
  · exact holdsAt ((wOn .idle).wJob none) (by decide +kernel)
  · exact ⟨.ledgerKey, holdsAt ((wOn .idle).wJob (some .ledgerKey)) (by decide +kernel)⟩
  · exact ⟨{ seq := 7, kind := .survey, powerOn := 9, made := 21600000000000 },
     holdsAt (let s : State := (wOn .idle).wJob (some (.ledgerRead 7));
         { s with host := { s.host with ledger := [{ seq := 7, kind := .survey, powerOn := 9, made := 21600000000000 }] } }) (by decide +kernel)⟩
  · exact ⟨0, holdsAt ((wOn .idle).wJob (some (.ledgerRead 0))) (by decide +kernel)⟩
  · exact ⟨1024, 5, true, holdsAt ((wOn .idle).wJob (some (.fwWrite 1024 false true 5))) (by decide +kernel)⟩
  · exact ⟨1024, 5, true, holdsAt ((wOn .idle).wJob (some (.fwWrite 1024 true true 5))) (by decide +kernel)⟩
  · exact ⟨.owned, 9, false, holdsAt ((wOn .idle).wJob (some (.lcToken 0 .owned 9 false))) (by decide +kernel)⟩
  · exact ⟨3, .owned, 9, false, holdsAt ((wOn .idle).wJob (some (.lcToken 3 .owned 9 false))) (by decide +kernel)⟩

/-- The hypotheses of RegisterAccess can be met, clause by clause. -/
theorem witness_RegisterAccess :
    (∃ (w : Who) (dev : Fin 64) (off : BitVec 36) (size : Nat) (s : State), s.powered = true ∧ s.reaches w = true ∧
      dev.val = s.host.devid ∧ memSize ≤ off.toNat ∧ isWindow off.toNat = false ∧ regAccessOk off.toNat size = false) ∧
    (∃ (w : Who) (dev : Fin 64) (off : BitVec 36) (d : RegDesc) (s : State), s.powered = true ∧ s.reaches w = true ∧
      dev.val = s.host.devid ∧ 0x400020000 ≤ off.toNat ∧ off.toNat < 0x400050000 ∧ off.toNat % 4 = 0 ∧
      regAt off.toNat = some d) ∧
    (∃ (dev : Fin 64) (s : State), s.powered = true ∧ s.reaches .host = true ∧ s.host.devid = 0 ∧ dev.val ≠ 0 ∧
      bitAt s.host.reach dev = false) ∧
    (∃ (w : Who) (off : BitVec 36) (s : State), s.powered = true ∧ s.reaches w = true ∧ off.toNat = R.TIME_NOW_LO) ∧
    (∃ (w : Who) (off : BitVec 36) (s : State), s.powered = true ∧ s.reaches w = true ∧ off.toNat = R.TIME_NOW_HI) ∧
    (∃ (w : Who) (s : State), s.powered = true ∧ s.reaches w = true) ∧
    (∃ (w : Who) (dev : Fin 64) (off : BitVec 36) (s : State), s.powered = true ∧ s.dataOpen w = true ∧
      dev.val = s.host.devid ∧ 0x430000000 ≤ off.toNat ∧ off.toNat < 0x438000000 ∧
      winPart ((off.toNat - 0x430000000) % 0x1000000) ∈ [none, some .laneProg, some .assayProg, some .control]) ∧
    (∃ (w : Who) (dev : Fin 64) (off : BitVec 36) (s : State), s.powered = true ∧ s.dataOpen w = true ∧
      dev.val = s.host.devid ∧ isWindow off.toNat = true ∧ s.pat.isSealed = true ∧ (w = .host ∨ w = .cores)) ∧
    (∃ (w : Who) (dev : Fin 64) (off : BitVec 36) (s : State), s.powered = true ∧ (s.reaches w = false ∨
      dev.val = s.host.devid ∧ isWindow off.toNat = true ∧ s.dataOpen w = false)) := by
  refine ⟨?_, ?_, ?_, ?_, ?_, ?_, ?_, ?_, ?_⟩
  · exact ⟨.host, 0, 0x400000001, 4, holdsAt ((wOn .idle).wUp) (by decide +kernel)⟩
  · exact ⟨.host, 0, 0x400040000, (regAt 0x400040000).getD ⟨"", 0, [], []⟩, holdsAt ((wOn .idle).wUp)
      (by decide +kernel)⟩
  · exact ⟨9, holdsAt ((wOn .idle).wUp) (by decide +kernel)⟩
  · exact ⟨.host, 0x400010000, holdsAt ((wOn .idle).wUp.wTime 0x123456789ABCDEF0) (by decide +kernel)⟩
  · exact ⟨.porter, 0x400010004, holdsAt ((wOn .idle).wTime 0x123456789ABCDEF0) (by decide +kernel)⟩
  · exact ⟨.porter, holdsAt ((wOn .idle).setReg (R.FM_TRAP 7) 0xFFFFFFFF) (by decide +kernel)⟩
  · exact ⟨.host, 0, 0x430800000, holdsAt ((wOn .idle).wUp) (by decide +kernel)⟩
  · exact ⟨.host, 0, 0x410000000,
     holdsAt (let s : State := (wOn .idle).wUp; { s with pat := { s.pat with isSealed := true } })
         (by decide +kernel)⟩
  · exact ⟨.host, 0, 0x400000000, holdsAt (wOn .idle) (by decide +kernel)⟩

/-- The hypotheses of SupplyEvents can be met, clause by clause. -/
theorem witness_SupplyEvents :
    (∃ (n : Fin 11) (s : State), s.powered = true ∧ bitAt s.pins.railsOut n = true) ∧
    (∃ (n : Fin 11) (s : State), s.powered = true ∧ bitAt s.pins.railsOut n = false) ∧
    (∃ (s : State), s.powered = true) ∧
    (∃ (s : State), s.powered = true) := by
  refine ⟨?_, ?_, ?_, ?_⟩
  · exact ⟨10,
     holdsAt (let s : State := wOn .run; { s with pins := { s.pins with railsOut := 1024 } }) (by decide +kernel)⟩
  · exact ⟨10, holdsAt ((wOn .run).wScan 0 false) (by decide +kernel)⟩
  · exact holdsAt (let s : State := wIn .dormant; { s with pins := { s.pins with railsOut := 3 } })
      (by decide +kernel)
  · exact holdsAt (wOn .run) (by decide +kernel)

end Sys2Proof.Machine
end

section
/-!
Proof about the default word of the Assay engine (R250, R251): its bits, and what an automatic answer places on the
decision bus (R219, R220).
-/
namespace Sys2Proof.Machine

/-! ### The bits of a default word -/

/-- A VOID word with a STATE below bit 3: STATE reads back, VOID is set, every other bit is 0. -/
theorem voidWord_add_bits {x : Nat} (hx : x < 2 ^ 3) :
    dwState (voidWord + x) = x ∧ bitAt (voidWord + x) 11 = true ∧ dwConf (voidWord + x) = 0 ∧
      bitAt (voidWord + x) 9 = false ∧ bitAt (voidWord + x) 10 = false ∧ voidWord + x < 2 ^ 12 := by
  simp only [dwState, dwConf, voidWord, bitsOf, bitAt, beq_iff_eq, beq_eq_false_iff_ne]
  omega

/-- The default word depends on the registers alone. -/
theorem State.defaultWord_congr {s t : State} (h : t.ap = s.ap) (b c : Nat) :
    t.defaultWord b c = s.defaultWord b c := by
  simp [State.defaultWord, State.reg_congr h]

/-! ### The word on the decision bus -/

theorem State.wrapAdd_reports (s : State) (off : Nat) (f : Bits) (n : Nat) : s.Reports (s.wrapAdd off f n) :=
  ⟨_, _, _, _, _, _, rfl⟩

theorem State.Reports.dec_eq {s t : State} (h : s.Reports t) : t.dec = s.dec := by
  obtain ⟨_, _, _, _, _, _, rfl⟩ := h
  rfl

/-- A word placed on a port goes to the end of the decision bus, due 6 ticks later: the count and the record that follow
are reports (R218). -/
theorem State.placeWord_bus (s : State) (b c ser word t : Nat) (auto : Bool) :
    (s.placeWord b c ser word t auto).dec.bus =
      s.dec.bus ++ [{ bench := b, ch := c, win := ser, word := word, due := t + 6 }] :=
  congrArg DecSt.bus (State.Reports.dec_eq
    ((State.Reports.ite (State.satAdd_reports _ _ _ _) (State.wrapAdd_reports _ _ _ _)).trans
      (.ite (State.offer_reports _ _ _ _ _ _ _) (.refl _))))

/-- What AUTO_ANSWER can do (R219, R220): nothing, or it records the answer in its engine and places the default word of
the answered channel on the port. -/
theorem autoAnswer_cases (b e : Nat) (s : State) :
    autoAnswer b e s = s ∨ ∃ a f, (s.eng b e).nextAnswer = some a ∧
      autoAnswer b e s = (s.onEng b e f).placeWord b a.ch a.win ((s.onEng b e f).defaultWord b a.ch) s.clk.time true := by
  unfold autoAnswer
  dsimp only
  generalize (if (s.eng b e).ansCyc = s.clk.time / 2 + 1 then (s.eng b e).ansCount else 0) = left
  generalize (if (s.eng b e).runs then 1 else 2) = most
  split
  case h_1 => exact .inl rfl
  case h_2 a ha =>
    split
    case isTrue => exact .inr ⟨a, _, ha, rfl⟩
    case isFalse => exact .inl rfl

/-- AUTO_ANSWER leaves the decision bus, or appends the default word of the answered channel. -/
theorem autoAnswer_bus (b e : Nat) (s : State) :
    (autoAnswer b e s).dec.bus = s.dec.bus ∨ ∃ a, (s.eng b e).nextAnswer = some a ∧
      (autoAnswer b e s).dec.bus = s.dec.bus ++
        [{ bench := b, ch := a.ch, win := a.win, word := s.defaultWord b a.ch, due := s.clk.time + 6 }] := by
  obtain hnone | ⟨a, f, ha, hplace⟩ := autoAnswer_cases b e s
  · exact .inl (by rw [hnone])
  · refine .inr ⟨a, ha, ?_⟩
    rw [hplace, State.placeWord_bus, State.onEng_dec, State.defaultWord_congr (State.onEng_ap ..)]

theorem exec_autoAnswer_next {b : Fin 8} {e : Fin 4} {s t : State} (h : exec (.autoAnswer b e) s = .next t) :
    t = autoAnswer b e s :=
  (whenPowered_next.1 h).2.symm

/-- Settles O34: clause (1) by the bits of a VOID word with a three-bit STATE, clause (2) by what AUTO_ANSWER does to the
decision bus. -/
theorem defaultWord : Obligations.DefaultWord := by
  refine ⟨fun b c s => voidWord_add_bits (bitsOf_lt _ _ _), fun b e s t h => ?_⟩
  rw [exec_autoAnswer_next h]
  obtain hsame | ⟨a, -, hword⟩ := autoAnswer_bus b e s
  · exact .inl hsame
  · exact .inr ⟨a.ch, a.win, s.clk.time + 6, hword⟩

end Sys2Proof.Machine
end

section
/-!
Proof about the shot boundary (R52, R308): what SHOT_BOUNDARY does once every enabled Bench counts as there, and while
one does not.
-/
namespace Sys2Proof.Machine

/-! ### What keeps the mode -/

/-- Whatever mode each member of a list keeps, the whole list keeps. -/
theorem foldAll_mode {α : Type} {f : State → α → State} (h : ∀ s x, (f s x).mode = s.mode) (xs : List α) :
    ∀ s : State, (foldAll f s xs).mode = s.mode := by
  induction xs with
  | nil => exact fun _ => rfl
  | cons x xs ih => exact fun s => (ih _).trans (h s x)

theorem State.memWake_mode (s : State) : s.memWake.mode = s.mode := by
  unfold State.memWake
  split <;> rfl

theorem State.criersTrain_mode (s : State) : s.criersTrain.mode = s.mode := by
  refine foldAll_mode (fun s p => ?_) _ s
  split
  · exact State.onPort_mode ..
  · rfl

theorem State.fastStart_mode (s : State) : s.fastStart.mode = s.mode :=
  (State.criersTrain_mode _).trans (State.memWake_mode _)

/-- A request that follows a HOLD begins its transition and leaves the mode (R46). -/
theorem State.followUp_mode (s : State) (f : Option Mode) : (s.followUp f).mode = s.mode := by
  unfold State.followUp
  split
  case h_1 => rfl
  case h_2 => exact State.fastStart_mode s
  case h_3 => rfl

theorem State.become_mode (s : State) (m : Mode) (cause : Nat) : (s.become m cause).mode = m := State.enter_mode ..

/-! ### The shot boundary -/

/-- A Bench counts as at its boundary: it has reached it, or its Foreman is in DONE or FAULT (R308). -/
theorem State.allReached_iff (s : State) (h : HoldReq) :
    s.allReached h = true ↔ ∀ b < 8, s.benchOn b = true →
      bitAt h.reached b = true ∨ (s.fm b).st = .done ∨ (s.fm b).st = .fault := by
  simp only [State.allReached, List.all_eq_true, List.mem_range, Bool.or_eq_true, beq_iff_eq, or_assoc,
    Bool.not_eq_true', ← Bool.not_eq_true, imp_iff_not_or]

theorem shotBoundary_mode {s : State} {h : HoldReq} (hmode : s.mode = .run) (hhold : s.hold = some h)
    (hall : s.allReached h = true) : (shotBoundary s).mode = .hold := by
  simp [shotBoundary, hhold, hmode, hall, State.followUp_mode, State.become_mode]

theorem shotBoundary_early {s : State} {h : HoldReq} (hhold : s.hold = some h) (hnot : s.allReached h = false) :
    shotBoundary s = s := by
  simp [shotBoundary, hhold, hnot]

theorem exec_shotBoundary {s : State} (hp : s.powered = true) : exec .shotBoundary s = .next (shotBoundary s) :=
  whenPowered_on hp _

/-- Settles O15: HOLD is reached exactly where `allReached` holds, and `allReached` is R308's sentence over the eight
Benches. -/
theorem stoppedForemenAtBoundary : Obligations.StoppedForemenAtBoundary := by
  refine ⟨fun s h hp hmode hhold hall => ?_, fun s h b hp _ hhold hon hnot hdone hfault => ?_⟩
  · exact completes_of_next (exec_shotBoundary hp)
      (shotBoundary_mode hmode hhold ((s.allReached_iff h).2 hall))
  · refine completes_of_next (exec_shotBoundary hp) (shotBoundary_early hhold (Bool.eq_false_iff.2 fun hall => ?_))
    obtain hreached | hst | hst := (s.allReached_iff h).1 hall b b.isLt hon
    · exact absurd hreached (by simp [hnot])
    · exact hdone hst
    · exact hfault hst

end Sys2Proof.Machine
end

section
/-!
Proof about the Foreman's call stack (R286): the fault of a CALL is lost where the word that holds it ends under an
immediate HOLD (R307).
-/
namespace Sys2Proof.Machine

/-! ### A word that ends under an immediate HOLD -/

@[simp] theorem State.fm_setFld (s : State) (off v b : Nat) (f : Bits) : (s.setFld off f v).fm b = s.fm b := rfl

/-- The Foreman stopped at once holds no raised fault (R307). -/
theorem State.fmHaltNow_fault (s : State) (b : Nat) (st : FmSt) (hold : Bool) :
    ((s.fmHaltNow b st hold).fm b).fault = 0 := by
  cases hold <;> simp [State.fmHaltNow, State.fmOff]

/-- Where a halt waits for the end of the word, the end of the word stops the Foreman and drops a raised fault. -/
theorem State.fmRetire_fault_of_halt {s : State} {b : Nat} (h : (s.fm b).halt.isSome = true) :
    ((s.fmRetire b).fm b).fault = 0 := by
  obtain ⟨⟨st, hold⟩, hhalt⟩ := Option.isSome_iff_exists.1 h
  simp only [State.fmRetire, hhalt]
  exact State.fmHaltNow_fault ..

/-- A field that is due is performed, and ends the word where it is the last. -/
theorem State.fmField_last {s n : State} {b k w : Nat} {is : Nat → Bool} {act : State → Fm → State}
    (hdue : s.fmDue b k = some w) (hnow : s.fmNow b = n) (his : is w = true)
    (hlast : setBit ((act n (n.fm b)).fm b).done k = mwNeed (n.fm b).word) :
    s.fmField b k is act = ((act n (n.fm b)).onFm b fun g => { g with done := setBit g.done k }).fmRetire b := by
  simp only [State.fmDue, hnow, Option.ite_none_right_eq_some, Option.some.injEq] at hdue
  obtain ⟨hcond, rfl⟩ := hdue
  simp only [Bool.and_eq_true] at hcond
  simp [State.fmField, hnow, hcond, his, hlast]

theorem exec_foremanCall {s : State} (b : Fin 8) (hp : s.powered = true) :
    exec (.foremanCall b) s = .next (foremanCall b s) :=
  whenPowered_on hp _

/-- A CALL in the last field of a word that a halt ends leaves no fault, whatever the stack holds. -/
theorem foremanCall_fault_of_halt {s n : State} {b w : Nat} (hdue : s.fmDue b 0 = some w) (hnow : s.fmNow b = n)
    (hcall : mwBrs w = 6) (hlast : setBit (n.fm b).done 0 = mwNeed (n.fm b).word)
    (hhalt : (n.fm b).halt.isSome = true) : ((foremanCall b s).fm b).fault = 0 := by
  unfold foremanCall fmBranch
  rw [State.fmField_last hdue hnow (by simp [hcall])]
  · refine State.fmRetire_fault_of_halt ?_
    split <;> simpa [State.fmRaise] using hhalt
  · split <;> simpa [State.fmRaise] using hlast

/-! ### A full stack at an immediate HOLD -/

/-- In RUN, the Foreman of Bench 1 in the final cycle of a word whose one field is a CALL, with 8 levels held. -/
def fullStackAtCall : State :=
  ({ State.reset with
      mode := .run
      clk := { time := 3000, now := 6000, core := true, aligned := true, conv := true } } : State).onFm 1 fun f =>
    { f with st := .run, pc := 0x4005, cyc := 2998, word := 6 * 2 ^ 15 + 0x4010, stack := [1, 2, 3, 4, 5, 6, 7, 8] }

/-- The same device in HOLD after an immediate HOLD, as `fmHalt` leaves the Foreman (R307): it still has to end its
word. -/
def fullStackAtHold : State := { fullStackAtCall.fmHalt 1 .held true with mode := .hold }

theorem fullStackAtHold_due :
    fullStackAtHold.powered = true ∧ fullStackAtHold.fmDue 1 0 = some (6 * 2 ^ 15 + 0x4010) ∧
      ((fullStackAtHold.fmNow 1).fm 1).stack.length = 8 := by
  decide +kernel

theorem fullStackAtHold_halts :
    setBit ((fullStackAtHold.fmNow 1).fm 1).done 0 = mwNeed ((fullStackAtHold.fmNow 1).fm 1).word ∧
      ((fullStackAtHold.fmNow 1).fm 1).halt.isSome = true := by
  decide +kernel

/-- Refutes O37 in clause (2): the CALL with 8 levels held is due, but its word ends under an immediate HOLD, which stops
the Foreman at that cycle boundary with no fault raised. -/
theorem not_foremanCallStack : ¬ Obligations.ForemanCallStack := by
  rintro ⟨-, hfull, -⟩
  obtain ⟨hp, hdue, hlevels⟩ := fullStackAtHold_due
  obtain ⟨hlast, hhalt⟩ := fullStackAtHold_halts
  obtain ⟨t, hexec, hfault, -⟩ := hfull 1 _ fullStackAtHold _ hp hdue rfl (by decide) hlevels
  obtain rfl : foremanCall 1 fullStackAtHold = t := Host.Outcome.next.inj ((exec_foremanCall 1 hp).symm.trans hexec)
  have hnone := foremanCall_fault_of_halt hdue rfl (by decide) hlast hhalt
  exact absurd (hfault.symm.trans hnone) (by decide)

end Sys2Proof.Machine
end

section
/-!
Refutations of the two frames: BIAS_RANGE_SWITCH_DONE clears SIN_EN under SAFE_N (R404), though it is listed among the
commands that keep the registers; a fall of SAFE_N at the panel ends plays (R196), though PANEL_LEVEL_CHANGE is not listed
among the commands that may change a lane.
-/
namespace Sys2Proof.Machine

-- One proof at a time: elaborated side by side, the proofs of so long a text need too much memory.
set_option Elab.async false

theorem exec_biasRangeSwitchDone {s : State} (n : Fin 64) (hp : s.powered = true) :
    exec (.biasRangeSwitchDone n) s = .next (biasRangeSwitchDone n s) :=
  whenPowered_on hp _

theorem exec_panelLevelChange {s : State} (i : Fin 18) (level : Bool) (hp : s.powered = true) :
    exec (.panelLevelChange i level) s = .next (panelLevelChange i level s) :=
  whenPowered_on hp _

/-! ### A range switch that ends under SAFE_N -/

/-- Output 0 in the third step of a range change, with SIN_EN set and SAFE_N low at the panel. -/
def switchUnderSafe : State :=
  (State.reset.raise (R.BIAS_CH_CTL 0) Fd.BIAS_CH_CTL_SIN_EN).onBias 0 fun x => { x with step := .switching 0 }

/-- The same with SAFE_N low. -/
def switchUnderSafeLow : State := { switchUnderSafe with slow := { switchUnderSafe.slow with panel := 0x20000 } }

theorem switchUnderSafeLow_clears_sinEn :
    (biasRangeSwitchDone 0 switchUnderSafeLow).reg (R.BIAS_CH_CTL 0) ≠ switchUnderSafeLow.reg (R.BIAS_CH_CTL 0) := by
  decide +kernel

/-- Refutes O59 in its clause on registers: a range switch that ends under SAFE_N clears SIN_EN of its output. -/
theorem not_memoryAndModeFrame : ¬ Obligations.MemoryAndModeFrame := by
  rintro ⟨⟨-, hregs⟩, -⟩
  exact switchUnderSafeLow_clears_sinEn (hregs _ _ _ rfl (exec_biasRangeSwitchDone (s := switchUnderSafeLow) 0 rfl) _)

/-! ### SAFE_N falls during a play -/

/-- In HOLD at an AON edge, with a play in progress on voice 0 of lane 0. -/
def playAtAonEdge : State := (wOn .hold).wQueue 0 0 0 [playA]

theorem safeN_fall_ends_play : (panelLevelChange 16 false playAtAonEdge).lanes ≠ playAtAonEdge.lanes := by
  decide +kernel

/-- Refutes O60 in its clause on lanes: PANEL_LEVEL_CHANGE of SAFE_N to low ends the plays of the voices (R196). -/
theorem not_partsFrame : ¬ Obligations.PartsFrame := by
  rintro ⟨-, hparts⟩
  obtain ⟨hlanes, -⟩ := hparts _ _ _ (exec_panelLevelChange (s := playAtAonEdge) 16 false rfl)
  exact safeN_fall_ends_play (hlanes rfl)

end Sys2Proof.Machine
end

section
/-!
The core of the device: queue, power, clocks, mode, what is in progress, waveform memory, thermal state, the host side and
the supplies. Most operations of the units leave it as it is: one lemma per operation says so.
-/
namespace Sys2Proof.Machine

-- One proof at a time: elaborated side by side, the proofs of so long a text need too much memory.
set_option Elab.async false

/-- What the operations of the units leave: queue, power, clocks, mode, the transition, HOLD, load and maintenance in
progress, waveform memory, thermal supervision, the host side, and supplies and pins. -/
structure Core where
  pending : List Instr
  powered : Bool
  clk : Clocks
  mode : Mode
  transit : Option Transit
  hold : Option HoldReq
  load : Option Load
  maint : Option Maint
  mem : List Host.Cell
  therm : Therm
  host : HostSt
  pins : Pins

/-- The core of a state. -/
def State.core (s : State) : Core where
  pending := s.pending
  powered := s.powered
  clk := s.clk
  mode := s.mode
  transit := s.transit
  hold := s.hold
  load := s.load
  maint := s.memc.maint
  mem := s.mem
  therm := s.therm
  host := s.host
  pins := s.pins

/-- An update of other fields leaves the core. -/
@[simp ↓] theorem State.core_update (s : State) (trim : TrimSel) (pat : PatSt) (ap : NMap Word) (bench : NMap BenchSt)
    (time : TimeSt) (segs : Segs) (looms : NMap Loom) (lanes : NMap Lane) (out : OutSt) (chans : NMap Chan)
    (adcs : NMap Adc) (engines : NMap Engine) (xyStages : NMap (Option XyStage)) (dec : DecSt) (fms : NMap Fm)
    (memc : MemSt) (tally : Tally) (fabric : Fabric) (slow : Slow) (captures : NMap Nat) (recent : NMap (Nat × Nat))
    (setvAt : NMap Nat) (later : NMap (List (Nat × Nat))) (readData : Nat) (outbox : List Out) (freeCtr : Nat)
    (h : memc.maint = s.memc.maint) :
    State.core
      { s with trim := trim, pat := pat, ap := ap, bench := bench, time := time, segs := segs, looms := looms
               lanes := lanes, out := out, chans := chans, adcs := adcs, engines := engines, xyStages := xyStages
               dec := dec, fms := fms, memc := memc, tally := tally, fabric := fabric, slow := slow
               captures := captures, recent := recent, setvAt := setvAt, later := later, readData := readData
               outbox := outbox, freeCtr := freeCtr } = s.core := by
  simp [State.core, h]

/-- One of two values, by a condition at which a simplification of the values need not look. -/
def either {α : Type} (c : Prop) [Decidable c] (a b : α) : α := if c then a else b

@[congr] theorem either_congr {α : Type} (c : Prop) [Decidable c] {a a' b b' : α} (ha : a = a') (hb : b = b') :
    either c a b = either c a' b' := by rw [ha, hb]

@[simp] theorem either_self {α : Type} (c : Prop) [Decidable c] (a : α) : either c a a = a := ite_self a

/-- The core of a state chosen by a condition. -/
@[simp ↓] theorem State.core_ite (c : Prop) [Decidable c] (a b : State) :
    (if c then a else b).core = either c a.core b.core := apply_ite State.core c a b

/-- A part of the state that each member of a list leaves, the whole list leaves. -/
theorem foldAll_keeps {α β : Type} (g : State → β) {f : State → α → State} (h : ∀ s x, g (f s x) = g s) (xs : List α) :
    ∀ s : State, g (foldAll f s xs) = g s := by
  induction xs with
  | nil => exact fun _ => rfl
  | cons x xs ih => exact fun s => (ih _).trans (h s x)

/-- The core, left by each member of a list, is left by the whole list. -/
@[simp ↓] theorem foldAll_core {α : Type} {f : State → α → State} (h : ∀ s x, (f s x).core = s.core) (s : State)
    (xs : List α) : (foldAll f s xs).core = s.core :=
  foldAll_keeps State.core h xs s


@[simp ↓] theorem State.setReg_core (s : State) (off : Nat) (v : Word) : (s.setReg off v).core = s.core := rfl

@[simp ↓] theorem State.setFld_core (s : State) (off : Nat) (f : Bits) (v : Nat) :
    (s.setFld off f v).core = s.core := rfl

@[simp ↓] theorem State.raise_core (s : State) (off : Nat) (f : Bits) : (s.raise off f).core = s.core := rfl

@[simp ↓] theorem State.clear_core (s : State) (off : Nat) (f : Bits) : (s.clear off f).core = s.core := rfl

@[simp ↓] theorem State.orFld_core (s : State) (off : Nat) (f : Bits) (m : Nat) :
    (s.orFld off f m).core = s.core := rfl

@[simp ↓] theorem State.satAdd_core (s : State) (off : Nat) (f : Bits) (n : Nat) :
    (s.satAdd off f n).core = s.core := rfl

@[simp ↓] theorem State.wrapAdd_core (s : State) (off : Nat) (f : Bits) (n : Nat) :
    (s.wrapAdd off f n).core = s.core := rfl

@[simp ↓] theorem State.setReg64_core (s : State) (off v : Nat) : (s.setReg64 off v).core = s.core := rfl

@[simp ↓] theorem State.softReg_core (s : State) (off : Nat) (v : Word) : (s.softReg off v).core = s.core := rfl

@[simp ↓] theorem State.onBench_core (s : State) (b : Nat) (f : BenchSt → BenchSt) :
    (s.onBench b f).core = s.core := rfl

@[simp ↓] theorem State.onLane_core (s : State) (b l : Nat) (f : Lane → Lane) : (s.onLane b l f).core = s.core := rfl

@[simp ↓] theorem State.onLoom_core (s : State) (b : Nat) (f : Loom → Loom) : (s.onLoom b f).core = s.core := rfl

@[simp ↓] theorem State.onChan_core (s : State) (b c : Nat) (f : Chan → Chan) : (s.onChan b c f).core = s.core := rfl

@[simp ↓] theorem State.onAdc_core (s : State) (b a : Nat) (f : Adc → Adc) : (s.onAdc b a f).core = s.core := rfl

@[simp ↓] theorem State.onEng_core (s : State) (b e : Nat) (f : Engine → Engine) : (s.onEng b e f).core = s.core := rfl

@[simp ↓] theorem State.onFm_core (s : State) (b : Nat) (f : Fm → Fm) : (s.onFm b f).core = s.core := rfl

@[simp ↓] theorem State.onDev_core (s : State) (d : Nat) (f : MemDev → MemDev) : (s.onDev d f).core = s.core := rfl

@[simp ↓] theorem State.onMch_core (s : State) (c : Nat) (f : MemChan → MemChan) : (s.onMch c f).core = s.core := rfl

@[simp ↓] theorem State.onBias_core (s : State) (n : Nat) (f : Bias → Bias) : (s.onBias n f).core = s.core := rfl

@[simp ↓] theorem State.onLoop_core (s : State) (k : Nat) (f : Loop → Loop) : (s.onLoop k f).core = s.core := rfl

@[simp ↓] theorem State.onPort_core (s : State) (p : Nat) (f : Crier → Crier) : (s.onPort p f).core = s.core := rfl

@[simp ↓] theorem State.onTag_core (s : State) (b t : Nat) (f : Tag → Tag) : (s.onTag b t f).core = s.core := rfl

@[simp ↓] theorem State.onStream_core (s : State) (i : Nat) (f : Stream → Stream) :
    (s.onStream i f).core = s.core := rfl

@[simp ↓] theorem State.setStaged_core (s : State) (q : Nat) (rs : List Rec) : (s.setStaged q rs).core = s.core := rfl

@[simp ↓] theorem State.onConv_core (s : State) (b c : Nat) (f : Conv → Conv) : (s.onConv b c f).core = s.core := rfl

@[simp ↓] theorem State.onTone_core (s : State) (b u : Nat) (f : Tone → Tone) : (s.onTone b u f).core = s.core := rfl

@[simp ↓] theorem State.free_core (s : State) : s.free.2.core = s.core := by
  unfold State.free
  dsimp only
  simp -implicitDefEqProofs

@[simp ↓] theorem State.emit_core (s : State) (o : Out) : (s.emit o).core = s.core := rfl

@[simp ↓] theorem State.denied_core (s : State) (who : Who) (off : Nat) (wr : Bool) :
    (s.denied who off wr).core = s.core := by
  unfold State.denied
  simp -implicitDefEqProofs

@[simp ↓] theorem State.irq_core (s : State) (k : Nat) : (s.irq k).core = s.core := by
  unfold State.irq
  dsimp only
  simp -implicitDefEqProofs

@[simp ↓] theorem State.flagIrq_core (s : State) (off : Nat) (f : Bits) (k : Nat) :
    (s.flagIrq off f k).core = s.core := by
  unfold State.flagIrq
  simp -implicitDefEqProofs

@[simp ↓] theorem State.benchEvent_core (s : State) (b : Nat) (f : Bits) : (s.benchEvent b f).core = s.core := by
  unfold State.benchEvent
  simp -implicitDefEqProofs

@[simp ↓] theorem State.breach_core (s : State) (f : Bits) : (s.breach f).core = s.core := rfl

@[simp ↓] theorem State.pulse_core (s : State) (line : Nat) : (s.pulse line).core = s.core := by
  unfold State.pulse
  dsimp only
  simp -implicitDefEqProofs

@[simp ↓] theorem State.fmTrap_core (s : State) (b v : Nat) : (s.fmTrap b v).core = s.core := by
  unfold State.fmTrap
  simp -implicitDefEqProofs

@[simp ↓] theorem State.dropRec_core (s : State) (st seq : Nat) : (s.dropRec st seq).core = s.core := by
  unfold State.dropRec
  dsimp only
  simp -implicitDefEqProofs

@[simp ↓] theorem State.offer_core (s : State) (st src typ len time : Nat) (pay : List (Nat × Nat × Nat)) :
    (s.offer st src typ len time pay).core = s.core := by
  unfold State.offer
  dsimp only
  simp -implicitDefEqProofs

@[simp ↓] theorem State.shotPoisoned_core (s : State) (b : Nat) : (s.shotPoisoned b).core = s.core := by
  unfold State.shotPoisoned
  dsimp only
  simp -implicitDefEqProofs

@[simp ↓] theorem State.poison_core (s : State) (b cause detail : Nat) : (s.poison b cause detail).core = s.core := by
  unfold State.poison
  dsimp only
  simp -implicitDefEqProofs

@[simp ↓] theorem State.poisonAll_core (s : State) (cause detail : Nat) :
    (s.poisonAll cause detail).core = s.core := by
  unfold State.poisonAll
  simp -implicitDefEqProofs

@[simp ↓] theorem State.modeErr_core (s : State) (code req : Nat) : (s.modeErr code req).core = s.core := by
  unfold State.modeErr
  simp -implicitDefEqProofs

@[simp ↓] theorem State.memFlag_core (s : State) (f : Bits) : (s.memFlag f).core = s.core := by
  unfold State.memFlag
  simp -implicitDefEqProofs

@[simp ↓] theorem State.decFlag_core (s : State) (f : Bits) : (s.decFlag f).core = s.core := by
  unfold State.decFlag
  simp -implicitDefEqProofs

@[simp ↓] theorem State.thermFlag_core (s : State) (f : Bits) : (s.thermFlag f).core = s.core := by
  unfold State.thermFlag
  simp -implicitDefEqProofs

@[simp ↓] theorem State.access_core (s : State) (u : Nat) (h : PageHint) : (s.access u h).core = s.core := by
  unfold State.access
  dsimp only
  split <;> simp -implicitDefEqProofs

@[simp ↓] theorem State.accessAll_core (s : State) (a n : Nat) (h : PageHint) :
    (s.accessAll a n h).core = s.core := by
  unfold State.accessAll
  simp -implicitDefEqProofs

@[simp ↓] theorem State.rowsClose_core (s : State) (c : Nat) (bank : Option Nat) :
    (s.rowsClose c bank).core = s.core := by
  unfold State.rowsClose
  dsimp only
  simp -implicitDefEqProofs

@[simp ↓] theorem State.retireCheck_core (s : State) (d : Nat) : (s.retireCheck d).core = s.core := by
  unfold State.retireCheck
  dsimp only
  simp -implicitDefEqProofs

@[simp ↓] theorem State.countCe_core (s : State) (d n : Nat) : (s.countCe d n).core = s.core := by
  unfold State.countCe
  simp -implicitDefEqProofs

@[simp ↓] theorem State.countUe_core (s : State) (d : Nat) : (s.countUe d).core = s.core := by
  unfold State.countUe
  simp -implicitDefEqProofs

@[simp ↓] theorem State.poisonUnit_core (s : State) (u : Nat) : (s.poisonUnit u).core = s.core := by
  unfold State.poisonUnit
  dsimp only
  simp -implicitDefEqProofs

@[simp ↓] theorem State.ueFlag_core (s : State) (u req : Nat) : (s.ueFlag u req).core = s.core := by
  unfold State.ueFlag
  simp -implicitDefEqProofs

@[simp ↓] theorem State.uncorrectable_core (s : State) (u req : Nat) : (s.uncorrectable u req).core = s.core := by
  unfold State.uncorrectable
  dsimp only
  split
  · simp -implicitDefEqProofs
  · split <;> simp -implicitDefEqProofs

@[simp ↓] theorem State.laneFlag_core (s : State) (b l : Nat) (f : Bits) : (s.laneFlag b l f).core = s.core := by
  unfold State.laneFlag
  simp -implicitDefEqProofs

@[simp ↓] theorem State.laneLate_core (s : State) (b l : Nat) : (s.laneLate b l).core = s.core := by
  unfold State.laneLate
  simp -implicitDefEqProofs

@[simp ↓] theorem State.laneCold_core (s : State) (b l : Nat) : (s.laneCold b l).core = s.core := by
  unfold State.laneCold
  simp -implicitDefEqProofs

@[simp ↓] theorem State.laneVoid_core (s : State) (b l : Nat) : (s.laneVoid b l).core = s.core := by
  unfold State.laneVoid
  simp -implicitDefEqProofs

@[simp ↓] theorem State.lanePoison_core (s : State) (b l cause detail : Nat) :
    (s.lanePoison b l cause detail).core = s.core := by
  unfold State.lanePoison
  simp -implicitDefEqProofs

@[simp ↓] theorem State.lateJump_core (s : State) (b l cond sel t : Nat) (v : Bool) :
    (s.lateJump b l cond sel t v).core = s.core := by
  unfold State.lateJump
  dsimp only
  simp -implicitDefEqProofs

@[simp ↓] theorem State.setSeg_core (s : State) (id : Nat) (ws : List Nat) : (s.setSeg id ws).core = s.core := by
  unfold State.setSeg
  simp -implicitDefEqProofs

@[simp ↓] theorem State.segLost_core (s : State) (id : Nat) : (s.segLost id).core = s.core := by
  unfold State.segLost
  dsimp only
  simp -implicitDefEqProofs

@[simp ↓] theorem State.onWin_core (s : State) (b c ser : Nat) (f : Win → Win) :
    (s.onWin b c ser f).core = s.core := by
  unfold State.onWin
  simp -implicitDefEqProofs

@[simp ↓] theorem State.chFlag_core (s : State) (b c : Nat) (f : Bits) : (s.chFlag b c f).core = s.core := by
  unfold State.chFlag
  simp -implicitDefEqProofs

@[simp ↓] theorem State.engFlag_core (s : State) (b e : Nat) (f : Bits) : (s.engFlag b e f).core = s.core := by
  unfold State.engFlag
  simp -implicitDefEqProofs

@[simp ↓] theorem State.answerDue_core (s : State) (b c ser : Nat) (lost : Bool) :
    (s.answerDue b c ser lost).core = s.core := by
  unfold State.answerDue
  simp -implicitDefEqProofs

@[simp ↓] theorem State.skipOwed_core (s : State) (b c : Nat) (p : Win → Bool) :
    (s.skipOwed b c p).core = s.core := by
  unfold State.skipOwed
  simp -implicitDefEqProofs

@[simp ↓] theorem State.pushEntry_core (s : State) (b c kind idx : Nat) (w : Win) (sat : Bool) (sums : List Nat) :
    (s.pushEntry b c kind idx w sat sums).core = s.core := by
  unfold State.pushEntry
  dsimp only
  simp -implicitDefEqProofs

@[simp ↓] theorem State.voidWin_core (s : State) (b c : Nat) (w : Win) : (s.voidWin b c w).core = s.core := by
  unfold State.voidWin
  dsimp only
  simp -implicitDefEqProofs

@[simp ↓] theorem State.endWindows_core (s : State) : s.endWindows.core = s.core :=
  foldAll_core (fun s b => foldAll_core (fun s c => foldAll_core (fun s w => State.voidWin_core s b c w) s _) s _) s _

@[simp ↓] theorem State.placeWord_core (s : State) (b c ser word t : Nat) (auto : Bool) :
    (s.placeWord b c ser word t auto).core = s.core := by
  unfold State.placeWord
  dsimp only
  simp -implicitDefEqProofs

@[simp ↓] theorem State.engStop_core (s : State) (b e : Nat) (st : EngSt) : (s.engStop b e st).core = s.core := by
  unfold State.engStop
  dsimp only
  simp -implicitDefEqProofs

@[simp ↓] theorem State.engFault_core (s : State) (b e cause pc : Nat) : (s.engFault b e cause pc).core = s.core := by
  unfold State.engFault
  dsimp only
  simp -implicitDefEqProofs

@[simp ↓] theorem State.pcCheck_core (s : State) (b e : Nat) : (s.pcCheck b e).core = s.core := by
  unfold State.pcCheck
  simp -implicitDefEqProofs

@[simp ↓] theorem State.nopPass_core (s : State) (b e : Nat) : (s.nopPass b e).core = s.core := by
  unfold State.nopPass
  dsimp only
  simp -implicitDefEqProofs

@[simp ↓] theorem State.nopsTick_core (s : State) : s.nopsTick.core = s.core := by
  unfold State.nopsTick
  simp -implicitDefEqProofs

@[simp ↓] theorem State.commitX_core (s : State) (b e : Nat) : (s.commitX b e).core = s.core := by
  unfold State.commitX
  dsimp only
  split <;> simp -implicitDefEqProofs

@[simp ↓] theorem State.bundleEnd_core (s : State) (b e w : Nat) : (s.bundleEnd b e w).core = s.core := by
  unfold State.bundleEnd
  dsimp only
  simp -implicitDefEqProofs

@[simp ↓] theorem State.slotDone_core (s : State) (b e w k : Nat) (f : AsRegs → AsRegs) :
    (s.slotDone b e w k f).core = s.core := by
  unfold State.slotDone
  dsimp only
  simp -implicitDefEqProofs

@[simp ↓] theorem State.ctlGo_core (s : State) (b e w pc : Nat) (taken : Bool) :
    (s.ctlGo b e w pc taken).core = s.core := by
  unfold State.ctlGo
  simp -implicitDefEqProofs

@[simp ↓] theorem State.engBegin_core (s : State) (b e : Nat) : (s.engBegin b e).core = s.core := by
  unfold State.engBegin
  dsimp only
  simp -implicitDefEqProofs

@[simp ↓] theorem State.engStart_core (s : State) (b e : Nat) (again : Bool) :
    (s.engStart b e again).core = s.core := by
  unfold State.engStart
  dsimp only
  simp -implicitDefEqProofs

@[simp ↓] theorem State.engAskStop_core (s : State) (b e : Nat) : (s.engAskStop b e).core = s.core := by
  unfold State.engAskStop
  simp -implicitDefEqProofs

@[simp ↓] theorem State.oltEvPut_core (s : State) (k : Nat) (v : Bool) : (s.oltEvPut k v).core = s.core := by
  unfold State.oltEvPut
  dsimp only
  simp -implicitDefEqProofs

@[simp ↓] theorem State.tagCheck_core (s : State) (b t : Nat) : (s.tagCheck b t).core = s.core := by
  unfold State.tagCheck
  dsimp only
  simp -implicitDefEqProofs

@[simp ↓] theorem State.armTag_core (s : State) (b t : Nat) : (s.armTag b t).core = s.core := by
  unfold State.armTag
  dsimp only
  simp -implicitDefEqProofs

@[simp ↓] theorem State.armByLane_core (s : State) (b l : Nat) : (s.armByLane b l).core = s.core := by
  unfold State.armByLane
  simp -implicitDefEqProofs

@[simp ↓] theorem State.tagsChan_core (s : State) (b c : Nat) : (s.tagsChan b c).core = s.core := by
  unfold State.tagsChan
  simp -implicitDefEqProofs

@[simp ↓] theorem State.tagsGds_core (s : State) (i : Nat) : (s.tagsGds i).core = s.core := by
  unfold State.tagsGds
  simp -implicitDefEqProofs

@[simp ↓] theorem State.mirrorPut_core (s : State) (i : Nat) (v : Bool) : (s.mirrorPut i v).core = s.core := by
  unfold State.mirrorPut
  dsimp only
  simp -implicitDefEqProofs

@[simp ↓] theorem State.gdsLate_core (s : State) (i : Nat) (v : Bool) : (s.gdsLate i v).core = s.core := by
  unfold State.gdsLate
  simp -implicitDefEqProofs

@[simp ↓] theorem State.lanesGds_core (s : State) (i : Nat) (v : Bool) : (s.lanesGds i v).core = s.core := by
  unfold State.lanesGds
  dsimp only
  simp -implicitDefEqProofs

@[simp ↓] theorem State.startHit_core (s : State) (kind sel e : Nat) : (s.startHit kind sel e).core = s.core := by
  unfold State.startHit
  dsimp only
  simp -implicitDefEqProofs

@[simp ↓] theorem State.mirrorPublish_core (s : State) (i : Nat) (v : Bool) :
    (s.mirrorPublish i v).core = s.core := by
  unfold State.mirrorPublish
  dsimp only
  simp -implicitDefEqProofs

@[simp ↓] theorem State.portFlag_core (s : State) (p : Nat) (f : Bits) : (s.portFlag p f).core = s.core := by
  unfold State.portFlag
  simp -implicitDefEqProofs

@[simp ↓] theorem State.queueOwn_core (s : State) (p : Nat) (u : Upd) : (s.queueOwn p u).core = s.core := by
  unfold State.queueOwn
  simp -implicitDefEqProofs

@[simp ↓] theorem State.publish_core (s : State) (i : Nat) (v : Bool) (kind b : Nat) :
    (s.publish i v kind b).core = s.core := by
  unfold State.publish
  dsimp only
  simp -implicitDefEqProofs

@[simp ↓] theorem State.fabricStart_core (s : State) : s.fabricStart.core = s.core := by
  unfold State.fabricStart
  dsimp only
  simp -implicitDefEqProofs

@[simp ↓] theorem State.quotFree_core (s : State) (a : Int) (n : Nat) : (s.quotFree a n).2.core = s.core := by
  unfold State.quotFree
  dsimp only
  split <;> simp -implicitDefEqProofs

@[simp ↓] theorem epochCapture_core (arrival : Nat) (s : State) : (epochCapture arrival s).core = s.core := by
  unfold epochCapture
  dsimp only
  simp -implicitDefEqProofs

@[simp ↓] theorem State.tdcLatch_core (s : State) : s.tdcLatch.core = s.core := by
  unfold State.tdcLatch
  split <;> simp -implicitDefEqProofs

@[simp ↓] theorem State.epochMark_core (s : State) (before after kind : Nat) (slip : Int) (arrival : Nat) :
    (s.epochMark before after kind slip arrival).core = s.core := by
  unfold State.epochMark
  simp -implicitDefEqProofs

@[simp ↓] theorem State.epochSeen_core (s : State) (armed : Bool) : (s.epochSeen armed).core = s.core := by
  unfold State.epochSeen
  dsimp only
  simp -implicitDefEqProofs

@[simp ↓] theorem epochMiss_core (s : State) : (epochMiss s).core = s.core := by
  unfold epochMiss
  dsimp only
  simp -implicitDefEqProofs

@[simp ↓] theorem epochArm_core (who : Who) (v : Word) (s : State) : (epochArm who v s).core = s.core := by
  unfold epochArm
  dsimp only
  simp -implicitDefEqProofs

@[simp ↓] theorem State.echoEnd_core (s : State) (result : Nat) : (s.echoEnd result).core = s.core := by
  unfold State.echoEnd
  dsimp only
  simp -implicitDefEqProofs

@[simp ↓] theorem State.echoBegin_core (s : State) (port count : Nat) : (s.echoBegin port count).core = s.core := by
  unfold State.echoBegin
  dsimp only
  simp -implicitDefEqProofs

@[simp ↓] theorem State.echoNext_core (s : State) : s.echoNext.core = s.core := by
  unfold State.echoNext
  dsimp only
  split <;> simp -implicitDefEqProofs

@[simp ↓] theorem echoStart_core (who : Who) (v : Word) (s : State) : (echoStart who v s).core = s.core := by
  unfold echoStart
  dsimp only
  simp -implicitDefEqProofs

@[simp ↓] theorem echoReq_core (port t2 t3 : Nat) (s : State) : (echoReq port t2 t3 s).core = s.core := by
  unfold echoReq
  simp -implicitDefEqProofs

@[simp ↓] theorem echoAns_core (port : Nat) (t1 t2 t3 t4 : Int) (s : State) :
    (echoAns port t1 t2 t3 t4 s).core = s.core := by
  unfold echoAns
  dsimp only
  split <;> simp -implicitDefEqProofs

@[simp ↓] theorem echoTimeout_core (s : State) : (echoTimeout s).core = s.core := by
  unfold echoTimeout
  split <;> simp -implicitDefEqProofs

@[simp ↓] theorem epochTrimWrite_core (v : Word) (s : State) : (epochTrimWrite v s).core = s.core := by
  unfold epochTrimWrite
  simp -implicitDefEqProofs

@[simp ↓] theorem fdlyWrite_core (i : Nat) (v : Word) (s : State) : (fdlyWrite i v s).core = s.core := by
  unfold fdlyWrite
  simp -implicitDefEqProofs

@[simp ↓] theorem State.fdlyTake_core (s : State) (i : Nat) : (s.fdlyTake i).core = s.core := by
  unfold State.fdlyTake
  dsimp only
  simp -implicitDefEqProofs

@[simp ↓] theorem State.takeTrims_core (s : State) : s.takeTrims.core = s.core := by
  unfold State.takeTrims
  dsimp only
  simp -implicitDefEqProofs

@[simp ↓] theorem trigEdge_core (k : Nat) (falling : Bool) (frac : Nat) (s : State) :
    (trigEdge k falling frac s).core = s.core := by
  unfold trigEdge
  dsimp only
  simp -implicitDefEqProofs

@[simp ↓] theorem trigOutEdge_core (k : Nat) (s : State) : (trigOutEdge k s).core = s.core := by
  unfold trigOutEdge
  dsimp only
  split <;> simp -implicitDefEqProofs

@[simp ↓] theorem trigContend_core (k : Nat) (s : State) : (trigContend k s).core = s.core := by
  unfold trigContend
  simp -implicitDefEqProofs

theorem State.transientFor_core {s t : State} {b id : Nat} {ws : List Nat} (h : s.transientFor b id ws = some t) :
    t.core = s.core := by
  revert h
  fun_cases State.transientFor <;> rintro ⟨⟩ <;> simp -implicitDefEqProofs

@[simp ↓] theorem State.seekSamples_core (s : State) (b l voice id ser : Nat) (ws : List Nat) :
    (s.seekSamples b l voice id ser ws).1.core = s.core := by
  fun_cases State.seekSamples with
  | case1 => rfl
  | case2 => simp -implicitDefEqProofs
  | case3 _ _ t ht => exact State.transientFor_core ht
  | case4 => simp -implicitDefEqProofs

@[simp ↓] theorem State.dirTouch_core (s : State) (b id : Nat) : (s.dirTouch b id).core = s.core := by
  unfold State.dirTouch
  dsimp only
  simp -implicitDefEqProofs

@[simp ↓] theorem State.dirPurge_core (s : State) (id : Nat) : (s.dirPurge id).core = s.core := by
  unfold State.dirPurge
  simp -implicitDefEqProofs

@[simp ↓] theorem State.slotFreed_core (s : State) (b : Nat) : (s.slotFreed b).core = s.core := by
  unfold State.slotFreed
  dsimp only
  split
  · simp -implicitDefEqProofs
  · split <;> simp -implicitDefEqProofs

@[simp ↓] theorem State.dirMiss_core (s : State) (b id : Nat) : (s.dirMiss b id).core = s.core := by
  unfold State.dirMiss
  simp -implicitDefEqProofs

@[simp ↓] theorem State.serve_core (s : State) (r : MemReq) (h : PageHint) : (s.serve r h).core = s.core := by
  unfold State.serve
  dsimp only
  simp -implicitDefEqProofs

@[simp ↓] theorem State.descReport_core (s : State) (b l : Nat) (p : Play) : (s.descReport b l p).core = s.core := by
  unfold State.descReport
  split <;> simp -implicitDefEqProofs

@[simp ↓] theorem State.countShort_core (s : State) (b l voice : Nat) (p : Play) :
    (s.countShort b l voice p).core = s.core := by
  unfold State.countShort
  dsimp only
  simp -implicitDefEqProofs

@[simp ↓] theorem State.segBusy_core (s : State) (who : Who) (addr : Nat) (dir : Bool) :
    (s.segBusy who addr dir).core = s.core := by
  unfold State.segBusy
  dsimp only
  simp -implicitDefEqProofs

@[simp ↓] theorem State.setDescStage_core (s : State) (who : Who) (d : DescStage) :
    (s.setDescStage who d).core = s.core := by
  unfold State.setDescStage
  dsimp only
  simp -implicitDefEqProofs

@[simp ↓] theorem State.commitDesc_core (s : State) (who : Who) (id first : Nat) (ws : List Nat) :
    (s.commitDesc who id first ws).core = s.core := by
  unfold State.commitDesc
  dsimp only
  simp -implicitDefEqProofs

@[simp ↓] theorem State.memTouch_core (s : State) : s.memTouch.core = s.core := by
  unfold State.memTouch
  dsimp only
  simp -implicitDefEqProofs

@[simp ↓] theorem segdirWrite_core (who : Who) (id first : Nat) (ws : List Word) (s : State) :
    (segdirWrite who id first ws s).core = s.core := by
  unfold segdirWrite
  dsimp only
  simp -implicitDefEqProofs

@[simp ↓] theorem aliasWrite_core (a : Nat) (v : Word) (s : State) : (aliasWrite a v s).core = s.core := by
  unfold aliasWrite
  simp -implicitDefEqProofs

@[simp ↓] theorem State.retireDone_core (s : State) (id : Nat) : (s.retireDone id).core = s.core := by
  unfold State.retireDone
  dsimp only
  simp -implicitDefEqProofs

@[simp ↓] theorem State.retireRefuse_core (s : State) (cause : Nat) : (s.retireRefuse cause).core = s.core := by
  unfold State.retireRefuse
  simp -implicitDefEqProofs

@[simp ↓] theorem retire_core (v : Word) (s : State) : (retire v s).core = s.core := by
  unfold retire
  dsimp only
  simp -implicitDefEqProofs

@[simp ↓] theorem retireComplete_core (s : State) : (retireComplete s).core = s.core := by
  unfold retireComplete
  split <;> simp -implicitDefEqProofs

@[simp ↓] theorem State.dropCopies_core (s : State) (a n : Nat) : (s.dropCopies a n).core = s.core := by
  unfold State.dropCopies
  simp -implicitDefEqProofs

@[simp ↓] theorem State.onWindow_core (s : State) (b v : Nat) (f : Window → Window) :
    (s.onWindow b v f).core = s.core := by
  unfold State.onWindow
  simp -implicitDefEqProofs

@[simp ↓] theorem panicEntry_core (b v : Nat) (s : State) : (panicEntry b v s).core = s.core := by
  unfold panicEntry
  dsimp only
  simp -implicitDefEqProofs

@[simp ↓] theorem State.windowRequest_core (s : State) (b v : Nat) : (s.windowRequest b v).core = s.core := by
  unfold State.windowRequest
  split <;> simp -implicitDefEqProofs

@[simp ↓] theorem granuleRequest_core (b : Nat) (src : GranSrc) (s : State) :
    (granuleRequest b src s).core = s.core := by
  unfold granuleRequest
  split <;> simp -implicitDefEqProofs

@[simp ↓] theorem State.requestsDue_core (s : State) (b v x3 : Nat) : (s.requestsDue b v x3).core = s.core := by
  fun_induction State.requestsDue <;> simp_all -implicitDefEqProofs

@[simp ↓] theorem State.granuleUe_core (s : State) (b : Nat) (f : Fetch) : (s.granuleUe b f).core = s.core := by
  unfold State.granuleUe
  dsimp only
  simp -implicitDefEqProofs

@[simp ↓] theorem State.panicEnd_core (s : State) (b v : Nat) : (s.panicEnd b v).core = s.core := by
  unfold State.panicEnd
  dsimp only
  simp -implicitDefEqProofs

@[simp ↓] theorem State.underrunAt_core (s : State) (b l voice : Nat) : (s.underrunAt b l voice).core = s.core := by
  unfold State.underrunAt
  dsimp only
  simp -implicitDefEqProofs

@[simp ↓] theorem State.granuleMissed_core (s : State) (b l voice : Nat) (p : Play) (g : Nat) (copy : Bool) :
    (s.granuleMissed b l voice p g copy).core = s.core := by
  unfold State.granuleMissed
  dsimp only
  simp -implicitDefEqProofs

@[simp ↓] theorem State.lateFor_core (s : State) (b g : Nat) (copy : Bool) (ps : List (Nat × Nat × Play)) :
    (s.lateFor b g copy ps).core = s.core := by
  unfold State.lateFor
  simp -implicitDefEqProofs

@[simp ↓] theorem underrun_core (b v : Nat) (s : State) : (underrun b v s).core = s.core := by
  unfold underrun
  dsimp only
  split
  · simp -implicitDefEqProofs
  · split <;> simp -implicitDefEqProofs

@[simp ↓] theorem State.residentsMade_core (s : State) (b : Nat) : (s.residentsMade b).core = s.core := by
  unfold State.residentsMade
  dsimp only
  simp -implicitDefEqProofs

@[simp ↓] theorem State.panicsOver_core (s : State) (b : Nat) : (s.panicsOver b).core = s.core := by
  unfold State.panicsOver
  simp -implicitDefEqProofs

@[simp ↓] theorem State.onFrm_core (s : State) (b u f : Nat) (g : Frame → Frame) :
    (s.onFrm b u f g).core = s.core := by
  unfold State.onFrm
  dsimp only
  simp -implicitDefEqProofs

@[simp ↓] theorem State.frameInit_core (s : State) (b u f t : Nat) : (s.frameInit b u f t).core = s.core := by
  unfold State.frameInit
  simp -implicitDefEqProofs

@[simp ↓] theorem State.bandCheck_core (s : State) (b u f fw : Nat) : (s.bandCheck b u f fw).core = s.core := by
  unfold State.bandCheck
  dsimp only
  simp -implicitDefEqProofs

@[simp ↓] theorem State.tidyStreams_core (s : State) (b l : Nat) : (s.tidyStreams b l).core = s.core := by
  unfold State.tidyStreams
  dsimp only
  simp -implicitDefEqProofs

@[simp ↓] theorem State.pruneLane_core (s : State) (b l : Nat) : (s.pruneLane b l).core = s.core := by
  unfold State.pruneLane
  simp -implicitDefEqProofs

@[simp ↓] theorem State.newWindow_core (s : State) (b l c ser start frame phase : Nat) :
    (s.newWindow b l c ser start frame phase).1.core = s.core := by
  unfold State.newWindow
  dsimp only
  simp -implicitDefEqProofs

@[simp ↓] theorem State.playWindow_core (s : State) (b l ser start frame phase : Nat) (win : Bool) :
    (s.playWindow b l ser start frame phase win).1.core = s.core := by
  unfold State.playWindow
  dsimp only
  split
  · simp -implicitDefEqProofs
  · split <;> simp -implicitDefEqProofs

@[simp ↓] theorem State.pushPlay_core (s : State) (b l voice : Nat) (p : Play) :
    (s.pushPlay b l voice p).core = s.core := by
  unfold State.pushPlay
  dsimp only
  simp -implicitDefEqProofs

@[simp ↓] theorem State.discard_core (s : State) (b l : Nat) (play : Play → Bool) (frm : FrameUpd → Bool) (mrk : MarkUpd → Bool) :
    (s.discard b l play frm mrk).core = s.core := by
  unfold State.discard
  dsimp only
  split <;> simp -implicitDefEqProofs

@[simp ↓] theorem State.playChain_core (s : State) (b l voice : Nat) (p : Play) :
    (s.playChain b l voice p).core = s.core := by
  unfold State.playChain
  split <;> simp -implicitDefEqProofs

@[simp ↓] theorem playStartTick_core (b l voice : Nat) (s : State) : (playStartTick b l voice s).core = s.core := by
  unfold playStartTick
  dsimp only
  split
  · simp -implicitDefEqProofs
  · split <;> simp -implicitDefEqProofs

@[simp ↓] theorem State.headMisses_core (s : State) (b : Nat) (h : Head) : (s.headMisses b h).core = s.core := by
  unfold State.headMisses
  simp -implicitDefEqProofs

@[simp ↓] theorem State.addBranch_core (s : State) (b l word bnd : Nat) (alts : List (Nat × Nat)) (stages : Bool) (onWaitd : Option Nat) :
    (s.addBranch b l word bnd alts stages onWaitd).core = s.core := by
  unfold State.addBranch
  dsimp only
  simp -implicitDefEqProofs

@[simp ↓] theorem State.counted_core (s : State) (b : Nat) : (s.counted b).core = s.core := by
  unfold State.counted
  simp -implicitDefEqProofs

@[simp ↓] theorem State.withInstr_core (s : State) (b l op : Nat) {f : State → Nat → State} (hf : ∀ t w, (f t w).core = t.core) :
    (s.withInstr b l op f).core = s.core := by
  unfold State.withInstr
  split <;> simp -implicitDefEqProofs [hf]

@[simp ↓] theorem State.goTo_core (s : State) (b l pc : Nat) : (s.goTo b l pc).core = s.core := by
  unfold State.goTo
  simp -implicitDefEqProofs

@[simp ↓] theorem State.laneWait_core (s : State) (b l : Nat) : (s.laneWait b l).core = s.core := by
  unfold State.laneWait
  simp -implicitDefEqProofs

@[simp ↓] theorem State.setDr_core (s : State) (b l dr : Nat) : (s.setDr b l dr).core = s.core := by
  unfold State.setDr
  dsimp only
  simp -implicitDefEqProofs

@[simp ↓] theorem State.tooLate_core (s : State) (b l : Nat) : (s.tooLate b l).core = s.core := by
  unfold State.tooLate
  simp -implicitDefEqProofs

@[simp ↓] theorem State.asapRec_core (s : State) (b l bnd alt : Nat) (hot void_ : Bool) :
    (s.asapRec b l bnd alt hot void_).core = s.core := by
  unfold State.asapRec
  simp -implicitDefEqProofs

@[simp ↓] theorem State.waitdGo_core (s : State) (b l w bnd alt dr : Nat) :
    (s.waitdGo b l w bnd alt dr).core = s.core := by
  unfold State.waitdGo
  dsimp only
  simp -implicitDefEqProofs

@[simp ↓] theorem State.waitdFixed_core (s : State) (b l w : Nat) : (s.waitdFixed b l w).core = s.core := by
  unfold State.waitdFixed
  dsimp only
  split <;> simp -implicitDefEqProofs

@[simp ↓] theorem State.waitdAsap_core (s : State) (b l w : Nat) : (s.waitdAsap b l w).core = s.core := by
  unfold State.waitdAsap
  split <;> simp -implicitDefEqProofs

@[simp ↓] theorem waitd_core (b l : Nat) (s : State) : (waitd b l s).core = s.core := by
  unfold waitd
  simp -implicitDefEqProofs

@[simp ↓] theorem State.brGo_core (s : State) (b l w : Nat) (taken : Bool) : (s.brGo b l w taken).core = s.core := by
  unfold State.brGo
  simp -implicitDefEqProofs

@[simp ↓] theorem State.brPend_core (s : State) (b l w : Nat) (onWaitd : Option Nat) (known : Option (Nat × Nat)) :
    (s.brPend b l w onWaitd known).core = s.core := by
  unfold State.brPend
  dsimp only
  simp -implicitDefEqProofs

@[simp ↓] theorem stageDone_core (b l : Nat) (s : State) : (stageDone b l s).core = s.core := by
  unfold stageDone
  dsimp only
  split <;> simp -implicitDefEqProofs

@[simp ↓] theorem State.giveBack_core (s : State) (b l bnd : Nat) (br : Branch) (h : Option Head) :
    (s.giveBack b l bnd br h).core = s.core := by
  unfold State.giveBack
  simp -implicitDefEqProofs

@[simp ↓] theorem State.restore_core (s : State) (b l : Nat) (k : Checkpoint) : (s.restore b l k).core = s.core := by
  unfold State.restore
  dsimp only
  simp -implicitDefEqProofs

@[simp ↓] theorem State.liveAfter_core (s : State) (b l : Nat) (br : Branch) (taken : Bool) :
    (s.liveAfter b l br taken).core = s.core := by
  unfold State.liveAfter
  dsimp only
  simp -implicitDefEqProofs

@[simp ↓] theorem slotRelease_core (b l : Nat) (s : State) : (slotRelease b l s).core = s.core := by
  unfold slotRelease
  dsimp only
  simp -implicitDefEqProofs

@[simp ↓] theorem idle_core (b l : Nat) (s : State) : (idle b l s).core = s.core := by
  unfold idle
  dsimp only
  simp -implicitDefEqProofs

@[simp ↓] theorem frame_core (b l : Nat) (s : State) : (frame b l s).core = s.core := by
  unfold frame
  dsimp only
  simp -implicitDefEqProofs

@[simp ↓] theorem loop_core (b l : Nat) (s : State) : (loop b l s).core = s.core := by
  unfold loop
  dsimp only
  simp -implicitDefEqProofs

@[simp ↓] theorem sync_core (b l : Nat) (s : State) : (sync b l s).core = s.core := by
  unfold sync
  simp -implicitDefEqProofs

@[simp ↓] theorem mark_core (b l : Nat) (s : State) : (mark b l s).core = s.core := by
  unfold mark
  simp -implicitDefEqProofs

@[simp ↓] theorem setv_core (b l : Nat) (s : State) : (setv b l s).core = s.core := by
  unfold setv
  dsimp only
  simp -implicitDefEqProofs

@[simp ↓] theorem State.laneEnd_core (s : State) (b l : Nat) : (s.laneEnd b l).core = s.core := by
  unfold State.laneEnd
  simp -implicitDefEqProofs

@[simp ↓] theorem end__core (b l : Nat) (s : State) : (end_ b l s).core = s.core := by
  unfold end_
  simp -implicitDefEqProofs

@[simp ↓] theorem frameEffect_core (b l : Nat) (s : State) : (frameEffect b l s).core = s.core := by
  unfold frameEffect
  dsimp only
  (repeat' split) <;> simp -implicitDefEqProofs

@[simp ↓] theorem markEffect_core (b l : Nat) (s : State) : (markEffect b l s).core = s.core := by
  unfold markEffect
  dsimp only
  split
  · simp -implicitDefEqProofs
  · split <;> simp -implicitDefEqProofs

@[simp ↓] theorem State.takeStrobe_core (s : State) (b l : Nat) (k : StrobeKind) :
    (s.takeStrobe b l k).2.core = s.core := by
  unfold State.takeStrobe
  split <;> simp -implicitDefEqProofs

@[simp ↓] theorem State.startLost_core (s : State) (b l : Nat) : (s.startLost b l).core = s.core := by
  unfold State.startLost
  simp -implicitDefEqProofs

@[simp ↓] theorem State.strobe_core (s : State) (b l : Nat) (k : StrobeKind) (ok : Lane → Bool) {act : State → Nat → State}
    (ha : ∀ t n, (act t n).core = t.core) :
    (s.strobe b l k ok act).core = s.core := by
  have h := State.takeStrobe_core s b l k
  unfold State.strobe
  split <;> rename_i heq <;> rw [heq] at h
  · exact h
  · simpa -implicitDefEqProofs [ha] using h

@[simp ↓] theorem State.framesReset_core (s : State) (b l t : Nat) : (s.framesReset b l t).core = s.core := by
  refine foldAll_core (fun s v => ?_) s _
  split
  · rfl
  · simp -implicitDefEqProofs

@[simp ↓] theorem startStrobe_core (b l : Nat) (s : State) : (startStrobe b l s).core = s.core := by
  unfold startStrobe
  dsimp only
  simp -implicitDefEqProofs

@[simp ↓] theorem syncRelease_core (b l : Nat) (s : State) : (syncRelease b l s).core = s.core := by
  unfold syncRelease
  dsimp only
  simp -implicitDefEqProofs

@[simp ↓] theorem syncTimeout_core (b l : Nat) (s : State) : (syncTimeout b l s).core = s.core := by
  unfold syncTimeout
  dsimp only
  simp -implicitDefEqProofs

@[simp ↓] theorem State.laneStop_core (s : State) (b l : Nat) (ready ramp : Bool) :
    (s.laneStop b l ready ramp).core = s.core := by
  unfold State.laneStop
  dsimp only
  simp -implicitDefEqProofs

@[simp ↓] theorem abortStrobe_core (b l : Nat) (s : State) : (abortStrobe b l s).core = s.core := by
  unfold abortStrobe
  simp -implicitDefEqProofs

@[simp ↓] theorem State.laneFlush_core (s : State) (b l t : Nat) : (s.laneFlush b l t).core = s.core := by
  unfold State.laneFlush
  dsimp only
  split <;> simp -implicitDefEqProofs

@[simp ↓] theorem flushStrobe_core (b l : Nat) (s : State) : (flushStrobe b l s).core = s.core := by
  unfold flushStrobe
  simp -implicitDefEqProofs

@[simp ↓] theorem poisonStrobe_core (b l : Nat) (s : State) : (poisonStrobe b l s).core = s.core := by
  unfold poisonStrobe
  simp -implicitDefEqProofs

@[simp ↓] theorem stopStrobe_core (b l : Nat) (s : State) : (stopStrobe b l s).core = s.core := by
  unfold stopStrobe
  simp -implicitDefEqProofs

@[simp ↓] theorem laneDisable_core (b l : Nat) (s : State) : (laneDisable b l s).core = s.core := by
  unfold laneDisable
  simp -implicitDefEqProofs

@[simp ↓] theorem State.laneStopped_core (s : State) (b l : Nat) : (s.laneStopped b l).core = s.core := by
  unfold State.laneStopped
  dsimp only
  simp -implicitDefEqProofs

@[simp ↓] theorem State.laneArm_core (s : State) (b l : Nat) : (s.laneArm b l).core = s.core := by
  unfold State.laneArm
  dsimp only
  simp -implicitDefEqProofs

@[simp ↓] theorem laneStopDone_core (b l : Nat) (s : State) : (laneStopDone b l s).core = s.core := by
  unfold laneStopDone
  dsimp only
  simp -implicitDefEqProofs

@[simp ↓] theorem laneEnable_core (b l : Nat) (s : State) : (laneEnable b l s).core = s.core := by
  unfold laneEnable
  simp -implicitDefEqProofs

@[simp ↓] theorem laneDrained_core (b l : Nat) (s : State) : (laneDrained b l s).core = s.core := by
  unfold laneDrained
  dsimp only
  simp -implicitDefEqProofs

@[simp ↓] theorem State.abortAll_core (s : State) (ramp : Bool) : (s.abortAll ramp).core = s.core := by
  unfold State.abortAll
  dsimp only
  simp -implicitDefEqProofs

@[simp ↓] theorem toneFwCommit_core (b u : Nat) (lo : Option Word) (hi : Word) (s : State) :
    (toneFwCommit b u lo hi s).core = s.core := by
  unfold toneFwCommit
  dsimp only
  simp -implicitDefEqProofs

@[simp ↓] theorem State.fsrTake_core (s : State) (b c : Nat) : (s.fsrTake b c).core = s.core := by
  unfold State.fsrTake
  simp -implicitDefEqProofs

@[simp ↓] theorem fsrRequest_core (b c : Nat) (v : Word) (s : State) : (fsrRequest b c v s).core = s.core := by
  unfold fsrRequest
  dsimp only
  simp -implicitDefEqProofs

@[simp ↓] theorem State.muted_core (s : State) (b c : Nat) : (s.muted b c).core = s.core := by
  unfold State.muted
  simp -implicitDefEqProofs

@[simp ↓] theorem State.rangeStart_core (s : State) (b c : Nat) : (s.rangeStart b c).core = s.core := by
  unfold State.rangeStart
  simp -implicitDefEqProofs

@[simp ↓] theorem rangeChangeStart_core (b c : Nat) (s : State) : (rangeChangeStart b c s).core = s.core := by
  unfold rangeChangeStart
  simp -implicitDefEqProofs

@[simp ↓] theorem rangeChangeDone_core (b c : Nat) (s : State) : (rangeChangeDone b c s).core = s.core := by
  unfold rangeChangeDone
  split <;> simp -implicitDefEqProofs

@[simp ↓] theorem fdlyApply_core (i : Nat) (s : State) : (fdlyApply i s).core = s.core := by
  unfold fdlyApply
  dsimp only
  (repeat' split) <;> simp -implicitDefEqProofs

@[simp ↓] theorem State.fluxClear_core (s : State) (b k : Nat) : (s.fluxClear b k).core = s.core := by
  unfold State.fluxClear
  dsimp only
  simp -implicitDefEqProofs

@[simp ↓] theorem State.fluxClearAll_core (s : State) : s.fluxClearAll.core = s.core := by
  unfold State.fluxClearAll
  dsimp only
  simp -implicitDefEqProofs

@[simp ↓] theorem correctorWrite_core (who : Who) (b k : Nat) (r : CorrReg) (v : Word) (s : State) :
    (correctorWrite who b k r v s).core = s.core := by
  unfold correctorWrite
  dsimp only
  simp -implicitDefEqProofs

@[simp ↓] theorem State.pipePut_core (s : State) (i : Nat) (codes : List Int) :
    (s.pipePut i codes).core = s.core := by
  unfold State.pipePut
  dsimp only
  simp -implicitDefEqProofs

@[simp ↓] theorem State.satCount_core (s : State) (reg : Nat) (flag cnt : Bits) (n : Nat) :
    (s.satCount reg flag cnt n).core = s.core := by
  unfold State.satCount
  simp -implicitDefEqProofs

@[simp ↓] theorem State.convTick_core (s : State) (b c : Nat) (live : List (Nat × List Cx)) :
    (s.convTick b c live).core = s.core := by
  unfold State.convTick
  dsimp only
  simp -implicitDefEqProofs

@[simp ↓] theorem State.mutedTick_core (s : State) (b : Nat) (live : List (Nat × List Cx)) :
    (s.mutedTick b live).core = s.core := by
  unfold State.mutedTick
  simp -implicitDefEqProofs

@[simp ↓] theorem State.bandTick_core (s : State) (b : Nat) : (s.bandTick b).core = s.core := by
  refine foldAll_core (fun s u => ?_) s _
  split
  · split <;> simp -implicitDefEqProofs
  · rfl

@[simp ↓] theorem State.fluxTick_core (s : State) (b k : Nat) : (s.fluxTick b k).core = s.core := by
  unfold State.fluxTick
  dsimp only
  simp -implicitDefEqProofs

@[simp ↓] theorem State.shortTick_core (s : State) (b l : Nat) : (s.shortTick b l).core = s.core := by
  refine foldAll_core (fun s v => ?_) s _
  split <;> simp -implicitDefEqProofs

@[simp ↓] theorem State.benchChain_core (s : State) (b : Nat) : (s.benchChain b).core = s.core := by
  unfold State.benchChain
  dsimp only
  simp -implicitDefEqProofs

@[simp ↓] theorem State.chainTick_core (s : State) : s.chainTick.core = s.core := by
  unfold State.chainTick
  simp -implicitDefEqProofs

@[simp ↓] theorem State.ballsTick_core (s : State) : s.ballsTick.core = s.core := by
  unfold State.ballsTick
  dsimp only
  simp -implicitDefEqProofs

@[simp ↓] theorem adcClip_core (b a s4 : Nat) (s : State) : (adcClip b a s4 s).core = s.core := by
  unfold adcClip
  dsimp only
  simp -implicitDefEqProofs

@[simp ↓] theorem State.winInvalid_core (s : State) (b a : Nat) (e : Nat × Win) :
    (s.winInvalid b a e).core = s.core := by
  unfold State.winInvalid
  simp -implicitDefEqProofs

@[simp ↓] theorem State.attnStart_core (s : State) (b a t : Nat) : (s.attnStart b a t).core = s.core := by
  unfold State.attnStart
  dsimp only
  simp -implicitDefEqProofs

@[simp ↓] theorem attnRequest_core (b a : Nat) (v : Word) (s : State) : (attnRequest b a v s).core = s.core := by
  unfold attnRequest
  dsimp only
  simp -implicitDefEqProofs

@[simp ↓] theorem attnChangeStart_core (b a : Nat) (s : State) : (attnChangeStart b a s).core = s.core := by
  unfold attnChangeStart
  simp -implicitDefEqProofs

@[simp ↓] theorem attnChangeDone_core (b a : Nat) (s : State) : (attnChangeDone b a s).core = s.core := by
  unfold attnChangeDone
  split <;> simp -implicitDefEqProofs

@[simp ↓] theorem windowOpen_core (b c : Nat) (s : State) : (windowOpen b c s).core = s.core := by
  unfold windowOpen
  dsimp only
  split <;> simp -implicitDefEqProofs

@[simp ↓] theorem State.thetaTick_core (s : State) (b c : Nat) (w : Win) : (s.thetaTick b c w).core = s.core := by
  unfold State.thetaTick
  dsimp only
  simp -implicitDefEqProofs

@[simp ↓] theorem State.readTick_core (s : State) : s.readTick.core = s.core := by
  unfold State.readTick
  simp -implicitDefEqProofs

@[simp ↓] theorem partialEntry_core (b c : Nat) (xs : List (BitVec 12)) (s : State) :
    (partialEntry b c xs s).core = s.core := by
  unfold partialEntry
  dsimp only
  split <;> simp -implicitDefEqProofs

@[simp ↓] theorem State.iqRec_core (s : State) (b c : Nat) (w : Win) (sat : Bool) (es : List Nat) :
    (s.iqRec b c w sat es).core = s.core := by
  unfold State.iqRec
  dsimp only
  simp -implicitDefEqProofs

@[simp ↓] theorem windowFinal_core (b c : Nat) (xs : List (BitVec 12)) (s : State) :
    (windowFinal b c xs s).core = s.core := by
  unfold windowFinal
  dsimp only
  split <;> simp -implicitDefEqProofs

@[simp ↓] theorem State.weightKept_core (s : State) (b c n : Nat) : (s.weightKept b c n).core = s.core := by
  unfold State.weightKept
  dsimp only
  simp -implicitDefEqProofs

@[simp ↓] theorem kernelWrite_core (who : Who) (b i : Nat) (v : Word) (s : State) :
    (kernelWrite who b i v s).core = s.core := by
  unfold kernelWrite
  dsimp only
  simp -implicitDefEqProofs

@[simp ↓] theorem traceRecord_core (b c : Nat) (xs : List (BitVec 12)) (s : State) :
    (traceRecord b c xs s).core = s.core := by
  unfold traceRecord
  dsimp only
  split <;> simp -implicitDefEqProofs

@[simp ↓] theorem assayJmp_core (b e : Nat) (s : State) : (assayJmp b e s).core = s.core := by
  unfold assayJmp
  split <;> simp -implicitDefEqProofs

@[simp ↓] theorem assayCall_core (b e : Nat) (s : State) : (assayCall b e s).core = s.core := by
  unfold assayCall
  dsimp only
  split <;> simp -implicitDefEqProofs

@[simp ↓] theorem assayBr_core (b e : Nat) (s : State) : (assayBr b e s).core = s.core := by
  unfold assayBr
  dsimp only
  split <;> simp -implicitDefEqProofs

@[simp ↓] theorem State.popEntry_core (s : State) (b e w : Nat) (h : Entry) (cyc : Nat) :
    (s.popEntry b e w h cyc).core = s.core := by
  unfold State.popEntry
  dsimp only
  simp -implicitDefEqProofs

@[simp ↓] theorem waitin_core (b e : Nat) (s : State) : (waitin b e s).core = s.core := by
  unfold waitin
  dsimp only
  split
  · simp -implicitDefEqProofs
  · split <;> simp -implicitDefEqProofs

@[simp ↓] theorem waitinTimeout_core (b e : Nat) (s : State) : (waitinTimeout b e s).core = s.core := by
  unfold waitinTimeout
  dsimp only
  split
  · simp -implicitDefEqProofs
  · split <;> simp -implicitDefEqProofs

@[simp ↓] theorem rep_core (b e : Nat) (s : State) : (rep b e s).core = s.core := by
  unfold rep
  split <;> simp -implicitDefEqProofs

@[simp ↓] theorem repEnd_core (b e : Nat) (s : State) : (repEnd b e s).core = s.core := by
  unfold repEnd
  dsimp only
  simp -implicitDefEqProofs

@[simp ↓] theorem decide__core (b e : Nat) (s : State) : (decide_ b e s).core = s.core := by
  unfold decide_
  dsimp only
  split
  · simp -implicitDefEqProofs
  · split <;> simp -implicitDefEqProofs

@[simp ↓] theorem emit_core (b e : Nat) (s : State) : (emit b e s).core = s.core := by
  unfold emit
  dsimp only
  split <;> simp -implicitDefEqProofs

@[simp ↓] theorem assayRet_core (b e : Nat) (s : State) : (assayRet b e s).core = s.core := by
  unfold assayRet
  dsimp only
  split
  · simp -implicitDefEqProofs
  · split <;> simp -implicitDefEqProofs

@[simp ↓] theorem halt_core (b e : Nat) (s : State) : (halt b e s).core = s.core := by
  unfold halt
  split <;> simp -implicitDefEqProofs

@[simp ↓] theorem autoAnswer_core (b e : Nat) (s : State) : (autoAnswer b e s).core = s.core := by
  unfold autoAnswer
  dsimp only
  split <;> simp -implicitDefEqProofs

@[simp ↓] theorem engineEnable_core (b e : Nat) (s : State) : (engineEnable b e s).core = s.core := by
  unfold engineEnable
  dsimp only
  simp -implicitDefEqProofs

@[simp ↓] theorem engineDisable_core (b e : Nat) (s : State) : (engineDisable b e s).core = s.core := by
  unfold engineDisable
  dsimp only
  simp -implicitDefEqProofs

@[simp ↓] theorem engineStop_core (b e : Nat) (s : State) : (engineStop b e s).core = s.core := by
  unfold engineStop
  dsimp only
  simp -implicitDefEqProofs

@[simp ↓] theorem engineTrapRequest_core (b e : Nat) (s : State) : (engineTrapRequest b e s).core = s.core := by
  unfold engineTrapRequest
  simp -implicitDefEqProofs

@[simp ↓] theorem engineTrap_core (b e : Nat) (s : State) : (engineTrap b e s).core = s.core := by
  unfold engineTrap
  dsimp only
  simp -implicitDefEqProofs

@[simp ↓] theorem State.xyCommit_core (s : State) (b e : Nat) (y : Bool) (i v : Nat) :
    (s.xyCommit b e y i v).core = s.core := by
  unfold State.xyCommit
  dsimp only
  simp -implicitDefEqProofs

@[simp ↓] theorem assayXyWrite_core (who : Who) (b e : Nat) (y : Bool) (i : Nat) (half : XyPart) (v : Nat) (s : State) :
    (assayXyWrite who b e y i half v s).core = s.core := by
  unfold assayXyWrite
  dsimp only
  (repeat' split) <;> simp -implicitDefEqProofs

@[simp ↓] theorem assayRegAccess_core (who : Who) (b e r : Nat) (hi : Bool) (wr : Option Word) (s : State) :
    (assayRegAccess who b e r hi wr s).core = s.core := by
  unfold assayRegAccess
  dsimp only
  (repeat' split) <;> simp -implicitDefEqProofs

@[simp ↓] theorem State.macDone_core (s : State) (b e w : Nat) (sat : Bool) (f : AsRegs → AsRegs) :
    (s.macDone b e w sat f).core = s.core := by
  unfold State.macDone
  dsimp only
  simp -implicitDefEqProofs

@[simp ↓] theorem quad_core (b e : Nat) (s : State) : (quad b e s).core = s.core := by
  unfold quad
  dsimp only
  split <;> simp -implicitDefEqProofs

@[simp ↓] theorem cpx_core (b e : Nat) (s : State) : (cpx b e s).core = s.core := by
  unfold cpx
  dsimp only
  split <;> simp -implicitDefEqProofs

@[simp ↓] theorem sqacc_core (b e : Nat) (s : State) : (sqacc b e s).core = s.core := by
  unfold sqacc
  dsimp only
  split <;> simp -implicitDefEqProofs

@[simp ↓] theorem State.macUnary_core (s : State) (b e w : Nat) (sat : Bool) (f : Int → Int) :
    (s.macUnary b e w sat f).core = s.core := by
  unfold State.macUnary
  dsimp only
  simp -implicitDefEqProofs

@[simp ↓] theorem State.macSum_core (s : State) (b e w : Nat) (f : Int → Int → Int) :
    (s.macSum b e w f).core = s.core := by
  unfold State.macSum
  dsimp only
  simp -implicitDefEqProofs

@[simp ↓] theorem assayAdd_core (b e : Nat) (s : State) : (assayAdd b e s).core = s.core := by
  unfold assayAdd
  split <;> simp -implicitDefEqProofs

@[simp ↓] theorem assaySub_core (b e : Nat) (s : State) : (assaySub b e s).core = s.core := by
  unfold assaySub
  split <;> simp -implicitDefEqProofs

@[simp ↓] theorem abs_core (b e : Nat) (s : State) : (abs b e s).core = s.core := by
  unfold abs
  split <;> simp -implicitDefEqProofs

@[simp ↓] theorem assayShl_core (b e : Nat) (s : State) : (assayShl b e s).core = s.core := by
  unfold assayShl
  split <;> simp -implicitDefEqProofs

@[simp ↓] theorem assayShr_core (b e : Nat) (s : State) : (assayShr b e s).core = s.core := by
  unfold assayShr
  split <;> simp -implicitDefEqProofs

@[simp ↓] theorem rnd_core (b e : Nat) (s : State) : (rnd b e s).core = s.core := by
  unfold rnd
  dsimp only
  split <;> simp -implicitDefEqProofs

@[simp ↓] theorem mov_core (b e : Nat) (s : State) : (mov b e s).core = s.core := by
  unfold mov
  dsimp only
  split <;> simp -implicitDefEqProofs

@[simp ↓] theorem clr_core (b e : Nat) (s : State) : (clr b e s).core = s.core := by
  unfold clr
  dsimp only
  split <;> simp -implicitDefEqProofs

@[simp ↓] theorem State.extremum_core (s : State) (b e w : Nat) (beats : Int → Int → Bool) :
    (s.extremum b e w beats).core = s.core := by
  unfold State.extremum
  dsimp only
  simp -implicitDefEqProofs

@[simp ↓] theorem minx_core (b e : Nat) (s : State) : (minx b e s).core = s.core := by
  unfold minx
  split <;> simp -implicitDefEqProofs

@[simp ↓] theorem maxx_core (b e : Nat) (s : State) : (maxx b e s).core = s.core := by
  unfold maxx
  split <;> simp -implicitDefEqProofs

@[simp ↓] theorem yRead_core (b e : Nat) (s : State) : (yRead b e s).core = s.core := by
  unfold yRead
  split <;> simp -implicitDefEqProofs

@[simp ↓] theorem xRead_core (b e : Nat) (s : State) : (xRead b e s).core = s.core := by
  unfold xRead
  dsimp only
  split <;> simp -implicitDefEqProofs

@[simp ↓] theorem xWrite_core (b e : Nat) (s : State) : (xWrite b e s).core = s.core := by
  unfold xWrite
  dsimp only
  split <;> simp -implicitDefEqProofs

@[simp ↓] theorem ldi_core (b e : Nat) (s : State) : (ldi b e s).core = s.core := by
  unfold ldi
  dsimp only
  split <;> simp -implicitDefEqProofs

@[simp ↓] theorem State.trigPulse_core (s : State) (k t : Nat) : (s.trigPulse k t).core = s.core := by
  unfold State.trigPulse
  dsimp only
  simp -implicitDefEqProofs

@[simp ↓] theorem State.trigScheduled_core (s : State) (line t : Nat) : (s.trigScheduled line t).core = s.core := by
  unfold State.trigScheduled
  simp -implicitDefEqProofs

@[simp ↓] theorem State.fmEvent_core (s : State) (b k : Nat) : (s.fmEvent b k).core = s.core := by
  unfold State.fmEvent
  dsimp only
  simp -implicitDefEqProofs

@[simp ↓] theorem State.laneEvent_core (s : State) (b i : Nat) : (s.laneEvent b i).core = s.core := by
  unfold State.laneEvent
  dsimp only
  simp -implicitDefEqProofs

@[simp ↓] theorem State.strobeGroup_core (s : State) (g : Nat) (fabric : Bool) :
    (s.strobeGroup g fabric).core = s.core := by
  unfold State.strobeGroup
  dsimp only
  simp -implicitDefEqProofs

@[simp ↓] theorem State.consAct_core (s : State) (c : Nat) : (s.consAct c).core = s.core := by
  unfold State.consAct
  dsimp only
  simp -implicitDefEqProofs

@[simp ↓] theorem State.consFlag_core (s : State) (c : Nat) (f g : Bits) : (s.consFlag c f g).core = s.core := by
  unfold State.consFlag
  simp -implicitDefEqProofs

@[simp ↓] theorem State.consume_core (s : State) (rose : List Nat) (c : Nat) : (s.consume rose c).core = s.core := by
  unfold State.consume
  dsimp only
  simp -implicitDefEqProofs

@[simp ↓] theorem State.fabricEval_core (s : State) : s.fabricEval.1.core = s.core := by
  unfold State.fabricEval
  dsimp only
  simp -implicitDefEqProofs

@[simp ↓] theorem State.loopSuspect_core (s : State) (rose : List Nat) : (s.loopSuspect rose).core = s.core := by
  unfold State.loopSuspect
  simp -implicitDefEqProofs

@[simp ↓] theorem fabricCycle_core (s : State) : (fabricCycle s).core = s.core := by
  unfold fabricCycle
  dsimp only
  simp -implicitDefEqProofs

@[simp ↓] theorem ledTimeout_core (k : Nat) (s : State) : (ledTimeout k s).core = s.core := by
  unfold ledTimeout
  dsimp only
  simp -implicitDefEqProofs

@[simp ↓] theorem State.publishWord_core (s : State) (b c w : Nat) : (s.publishWord b c w).core = s.core := by
  unfold State.publishWord
  dsimp only
  simp -implicitDefEqProofs

@[simp ↓] theorem State.latchPut_core (s : State) (b c w : Nat) : (s.latchPut b c w).core = s.core := by
  unfold State.latchPut
  dsimp only
  simp -implicitDefEqProofs

@[simp ↓] theorem State.fmWord_core (s : State) (b c : Nat) : (s.fmWord b c).core = s.core := by
  unfold State.fmWord
  simp -implicitDefEqProofs

@[simp ↓] theorem decisionWord_core (b : Nat) (s : State) : (decisionWord b s).core = s.core := by
  unfold decisionWord
  dsimp only
  split <;> simp -implicitDefEqProofs

@[simp ↓] theorem oltLookup_core (b : Nat) (s : State) : (oltLookup b s).core = s.core := by
  unfold oltLookup
  dsimp only
  split <;> simp -implicitDefEqProofs

@[simp ↓] theorem State.lanesAct_core (s : State) (b t alt due : Nat) : (s.lanesAct b t alt due).core = s.core := by
  unfold State.lanesAct
  simp -implicitDefEqProofs

@[simp ↓] theorem oltAction_core (b : Nat) (s : State) : (oltAction b s).core = s.core := by
  unfold oltAction
  dsimp only
  split <;> simp -implicitDefEqProofs

@[simp ↓] theorem State.tagsOff_core (s : State) (b : Nat) : (s.tagsOff b).core = s.core := by
  unfold State.tagsOff
  dsimp only
  simp -implicitDefEqProofs

@[simp ↓] theorem State.portSend_core (s : State) (p seq : Nat) (paired odd : Bool) :
    (s.portSend p seq paired odd).core = s.core := by
  unfold State.portSend
  dsimp only
  simp -implicitDefEqProofs

@[simp ↓] theorem crierPairSend_core (s : State) : (crierPairSend s).core = s.core := by
  unfold crierPairSend
  dsimp only
  simp -implicitDefEqProofs

@[simp ↓] theorem State.relay_core (s : State) (p i : Nat) (v : Bool) : (s.relay p i v).core = s.core := by
  unfold State.relay
  simp -implicitDefEqProofs

@[simp ↓] theorem State.takeUpdate_core (s : State) (p src : Nat) (refresh : Bool) (i : Nat) (v : Bool) :
    (s.takeUpdate p src refresh i v).core = s.core := by
  unfold State.takeUpdate
  dsimp only
  simp -implicitDefEqProofs

@[simp ↓] theorem State.applyCell_core (s : State) (p : Nat) (c : CrierCell) : (s.applyCell p c).core = s.core := by
  unfold State.applyCell
  simp -implicitDefEqProofs

@[simp ↓] theorem State.countCell_core (s : State) (p : Nat) (x2 : Option CrierCell) :
    (s.countCell p x2).core = s.core := by
  unfold State.countCell
  dsimp only
  split <;> simp -implicitDefEqProofs

@[simp ↓] theorem State.takeCell_core (s : State) (p : Nat) (c : CrierCell) : (s.takeCell p c).core = s.core := by
  unfold State.takeCell
  simp -implicitDefEqProofs

@[simp ↓] theorem State.cellIn_core (s : State) (p : Nat) (odd : Bool) (got : Option CrierCell) :
    (s.cellIn p odd got).core = s.core := by
  unfold State.cellIn
  dsimp only
  simp -implicitDefEqProofs
  (repeat' split) <;> simp -implicitDefEqProofs

@[simp ↓] theorem crierCellReceive_core (p : Nat) (odd : Bool) (cell : Option Nat) (s : State) :
    (crierCellReceive p odd cell s).core = s.core := by
  unfold crierCellReceive
  simp -implicitDefEqProofs

@[simp ↓] theorem linkUp_core (p : Nat) (s : State) : (linkUp p s).core = s.core := by
  unfold linkUp
  dsimp only
  simp -implicitDefEqProofs

@[simp ↓] theorem State.linkDownFlag_core (s : State) (p : Nat) : (s.linkDownFlag p).core = s.core := by
  unfold State.linkDownFlag
  simp -implicitDefEqProofs

@[simp ↓] theorem linkDown_core (p : Nat) (s : State) : (linkDown p s).core = s.core := by
  unfold linkDown
  dsimp only
  simp -implicitDefEqProofs

@[simp ↓] theorem State.criersTrain_core (s : State) : s.criersTrain.core = s.core := by
  unfold State.criersTrain
  simp -implicitDefEqProofs

@[simp ↓] theorem State.criersEntered_core (s : State) : s.criersEntered.core = s.core := by
  unfold State.criersEntered
  simp -implicitDefEqProofs

@[simp ↓] theorem State.criersStop_core (s : State) : s.criersStop.core = s.core := by
  unfold State.criersStop
  simp -implicitDefEqProofs

@[simp ↓] theorem State.setU_core (s : State) (b i v : Nat) : (s.setU b i v).core = s.core := by
  unfold State.setU
  dsimp only
  simp -implicitDefEqProofs

@[simp ↓] theorem State.setC_core (s : State) (b i v : Nat) : (s.setC b i v).core = s.core := by
  unfold State.setC
  simp -implicitDefEqProofs

@[simp ↓] theorem State.fmFlag_core (s : State) (b : Nat) (f : Bits) : (s.fmFlag b f).core = s.core := by
  unfold State.fmFlag
  simp -implicitDefEqProofs

@[simp ↓] theorem State.fmSnap_core (s : State) (b c : Nat) : (s.fmSnap b c).core = s.core := by
  unfold State.fmSnap
  dsimp only
  simp -implicitDefEqProofs

@[simp ↓] theorem State.fmReady_core (s : State) (b c : Nat) : (s.fmReady b c).core = s.core := by
  unfold State.fmReady
  dsimp only
  simp -implicitDefEqProofs

@[simp ↓] theorem State.fmFetch_core (s : State) (b c : Nat) : (s.fmFetch b c).core = s.core := by
  unfold State.fmFetch
  dsimp only
  split <;> simp -implicitDefEqProofs

@[simp ↓] theorem State.fmLog_core (s : State) (b mask : Nat) : (s.fmLog b mask).core = s.core := by
  unfold State.fmLog
  dsimp only
  simp -implicitDefEqProofs

@[simp ↓] theorem State.fmLate_core (s : State) (b : Nat) : (s.fmLate b).core = s.core := by
  unfold State.fmLate
  simp -implicitDefEqProofs

@[simp ↓] theorem State.fmQueue_core (s : State) (b lop : Nat) : (s.fmQueue b lop).core = s.core := by
  unfold State.fmQueue
  dsimp only
  simp -implicitDefEqProofs

@[simp ↓] theorem State.fmOff_core (s : State) (b : Nat) : (s.fmOff b).core = s.core := by
  unfold State.fmOff
  simp -implicitDefEqProofs

@[simp ↓] theorem State.fmAskStop_core (s : State) (b : Nat) : (s.fmAskStop b).core = s.core := by
  unfold State.fmAskStop
  dsimp only
  simp -implicitDefEqProofs

@[simp ↓] theorem State.fmHaltNow_core (s : State) (b : Nat) (st : FmSt) (hold : Bool) :
    (s.fmHaltNow b st hold).core = s.core := by
  unfold State.fmHaltNow
  dsimp only
  simp -implicitDefEqProofs

@[simp ↓] theorem State.fmHalt_core (s : State) (b : Nat) (st : FmSt) (hold : Bool) :
    (s.fmHalt b st hold).core = s.core := by
  unfold State.fmHalt
  dsimp only
  simp -implicitDefEqProofs

@[simp ↓] theorem State.fmHeld_core (s : State) (b t : Nat) : (s.fmHeld b t).core = s.core := by
  unfold State.fmHeld
  dsimp only
  simp -implicitDefEqProofs

@[simp ↓] theorem State.fmRestore_core (s : State) (b keep : Nat) (x : FmFrame) :
    (s.fmRestore b keep x).core = s.core := by
  unfold State.fmRestore
  dsimp only
  simp -implicitDefEqProofs

@[simp ↓] theorem State.fmReturn_core (s : State) (b : Nat) : (s.fmReturn b).core = s.core := by
  unfold State.fmReturn
  dsimp only
  split <;> simp -implicitDefEqProofs

@[simp ↓] theorem State.fmRetire_core (s : State) (b : Nat) : (s.fmRetire b).core = s.core := by
  unfold State.fmRetire
  dsimp only
  split <;> simp -implicitDefEqProofs

@[simp ↓] theorem State.fmCatch_core (s : State) (b x2 : Nat) : (s.fmCatch b x2).core = s.core := by
  fun_induction State.fmCatch <;> simp_all -implicitDefEqProofs

@[simp ↓] theorem State.fmNow_core (s : State) (b : Nat) : (s.fmNow b).core = s.core := by
  unfold State.fmNow
  simp -implicitDefEqProofs

@[simp ↓] theorem State.fmField_core (s : State) (b k : Nat) (is : Nat → Bool) {act : State → Fm → State} (ha : ∀ t f, (act t f).core = t.core) :
    (s.fmField b k is act).core = s.core := by
  unfold State.fmField
  simp -implicitDefEqProofs [ha]

@[simp ↓] theorem State.fmRaise_core (s : State) (b cause : Nat) : (s.fmRaise b cause).core = s.core := by
  unfold State.fmRaise
  simp -implicitDefEqProofs

@[simp ↓] theorem fmGoes_core (s : State) (x1 : Fm) : (fmGoes s x1).core = s.core := by
  unfold fmGoes
  simp -implicitDefEqProofs

@[simp ↓] theorem State.fmFirst_core (s : State) (b : Nat) : (s.fmFirst b).core = s.core := by
  unfold State.fmFirst
  simp -implicitDefEqProofs

@[simp ↓] theorem fmTimeline_core (b k : Nat) (kind : StrobeKind) (s : State) :
    (fmTimeline b k kind s).core = s.core := by
  unfold fmTimeline
  dsimp only
  simp -implicitDefEqProofs

@[simp ↓] theorem fmPoint_core (b k : Nat) (s : State) : (fmPoint b k s).core = s.core := by
  unfold fmPoint
  simp -implicitDefEqProofs

@[simp ↓] theorem lopShot_core (b : Nat) (s : State) : (lopShot b s).core = s.core := by
  unfold lopShot
  dsimp only
  simp -implicitDefEqProofs

@[simp ↓] theorem State.evoPulse_core (s : State) (b : Nat) (e : Sched) : (s.evoPulse b e).core = s.core := by
  unfold State.evoPulse
  simp -implicitDefEqProofs

@[simp ↓] theorem pointStrobeEffect_core (b : Nat) (s : State) : (pointStrobeEffect b s).core = s.core := by
  unfold pointStrobeEffect
  dsimp only
  split <;> simp -implicitDefEqProofs

@[simp ↓] theorem State.newShot_core (s : State) (b : Nat) : (s.newShot b).core = s.core := by
  unfold State.newShot
  dsimp only
  simp -implicitDefEqProofs

@[simp ↓] theorem State.shotTick_core (s : State) (b : Nat) : (s.shotTick b).core = s.core := by
  unfold State.shotTick
  dsimp only
  simp -implicitDefEqProofs

@[simp ↓] theorem State.shotMark_core (s : State) (b n base : Nat) : (s.shotMark b n base).core = s.core := by
  unfold State.shotMark
  dsimp only
  simp -implicitDefEqProofs

@[simp ↓] theorem State.fmLookup_core (s : State) (b t : Nat) : (s.fmLookup b t).core = s.core := by
  unfold State.fmLookup
  simp -implicitDefEqProofs

@[simp ↓] theorem State.fmFlags_core (s : State) (b r : Nat) (c v : Bool) : (s.fmFlags b r c v).core = s.core := by
  unfold State.fmFlags
  simp -implicitDefEqProofs

@[simp ↓] theorem State.fmSum_core (s : State) (b d x y : Nat) : (s.fmSum b d x y).core = s.core := by
  unfold State.fmSum
  dsimp only
  simp -implicitDefEqProofs

@[simp ↓] theorem State.fmDiff_core (s : State) (b x y : Nat) : (s.fmDiff b x y).core = s.core := by
  unfold State.fmDiff
  dsimp only
  simp -implicitDefEqProofs

@[simp ↓] theorem State.fmLogic_core (s : State) (b d r : Nat) : (s.fmLogic b d r).core = s.core := by
  unfold State.fmLogic
  dsimp only
  simp -implicitDefEqProofs

@[simp ↓] theorem State.setBase_core (s : State) (b v : Nat) : (s.setBase b v).core = s.core := by
  unfold State.setBase
  simp -implicitDefEqProofs

@[simp ↓] theorem fmCount_core (b n k : Nat) (act : State → Fm → Nat) (s : State) :
    (fmCount b n k act s).core = s.core := by
  unfold fmCount
  simp -implicitDefEqProofs

@[simp ↓] theorem trgBegin_core (b : Nat) (s : State) : (trgBegin b s).core = s.core := by
  unfold trgBegin
  simp -implicitDefEqProofs

@[simp ↓] theorem trgEnd_core (b : Nat) (s : State) : (trgEnd b s).core = s.core := by
  unfold trgEnd
  simp -implicitDefEqProofs

@[simp ↓] theorem State.fmArm_core (s : State) (b : Nat) (resume : Bool) : (s.fmArm b resume).core = s.core := by
  unfold State.fmArm
  dsimp only
  simp -implicitDefEqProofs

@[simp ↓] theorem foremanStartCondition_core (b : Nat) (s : State) : (foremanStartCondition b s).core = s.core := by
  unfold foremanStartCondition
  dsimp only
  simp -implicitDefEqProofs

@[simp ↓] theorem waitComplete_core (b : Nat) (s : State) : (waitComplete b s).core = s.core := by
  unfold waitComplete
  dsimp only
  (repeat' split) <;> simp -implicitDefEqProofs

@[simp ↓] theorem waitTimeout_core (b : Nat) (s : State) : (waitTimeout b s).core = s.core := by
  unfold waitTimeout
  dsimp only
  simp -implicitDefEqProofs

@[simp ↓] theorem holdRelease_core (b : Nat) (s : State) : (holdRelease b s).core = s.core := by
  unfold holdRelease
  dsimp only
  simp -implicitDefEqProofs

@[simp ↓] theorem doorbell_core (b mask : Nat) (s : State) : (doorbell b mask s).core = s.core := by
  unfold doorbell
  simp -implicitDefEqProofs

@[simp ↓] theorem State.fmEnter_core (s : State) (b v c : Nat) (sync : Bool) :
    (s.fmEnter b v c sync).core = s.core := by
  unfold State.fmEnter
  dsimp only
  simp -implicitDefEqProofs

@[simp ↓] theorem foremanTrap_core (b : Nat) (s : State) : (foremanTrap b s).core = s.core := by
  unfold foremanTrap
  dsimp only
  (repeat' split) <;> simp -implicitDefEqProofs

@[simp ↓] theorem timedOverrun_core (b : Nat) (s : State) : (timedOverrun b s).core = s.core := by
  unfold timedOverrun
  dsimp only
  split <;> simp -implicitDefEqProofs

@[simp ↓] theorem State.fmFaultFlags_core (s : State) (b cause : Nat) : (s.fmFaultFlags b cause).core = s.core := by
  unfold State.fmFaultFlags
  simp -implicitDefEqProofs

@[simp ↓] theorem syncFault_core (b : Nat) (uecc : Bool) (s : State) : (syncFault b uecc s).core = s.core := by
  unfold syncFault
  dsimp only
  simp -implicitDefEqProofs

@[simp ↓] theorem State.charge_core (s : State) (q moved : Nat) : (s.charge q moved).core = s.core := by
  unfold State.charge
  dsimp only
  simp -implicitDefEqProofs

@[simp ↓] theorem State.finalGap_core (s : State) (st : Nat) : (s.finalGap st).core = s.core := by
  unfold State.finalGap
  dsimp only
  simp -implicitDefEqProofs

@[simp ↓] theorem rpWrite_core (who : Who) (v : Word) (s : State) : (rpWrite who v s).core = s.core := by
  unfold rpWrite
  simp -implicitDefEqProofs

@[simp ↓] theorem State.lostRec_core (s : State) (st seq : Nat) : (s.lostRec st seq).core = s.core := by
  unfold State.lostRec
  simp -implicitDefEqProofs

@[simp ↓] theorem drainCopy_core (s : State) : (drainCopy s).core = s.core := by
  unfold drainCopy
  dsimp only
  split
  · simp -implicitDefEqProofs
  · split <;> simp -implicitDefEqProofs

@[simp ↓] theorem drainIrq_core (s : State) : (drainIrq s).core = s.core := by
  unfold drainIrq
  dsimp only
  simp -implicitDefEqProofs

@[simp ↓] theorem dmaError_core (s : State) : (dmaError s).core = s.core := by
  unfold dmaError
  dsimp only
  simp -implicitDefEqProofs

@[simp ↓] theorem State.streamStops_core (s : State) (st : Nat) : (s.streamStops st).core = s.core := by
  unfold State.streamStops
  dsimp only
  simp -implicitDefEqProofs

@[simp ↓] theorem streamDisable_core (st : Nat) (s : State) : (streamDisable st s).core = s.core := by
  unfold streamDisable
  simp -implicitDefEqProofs

@[simp ↓] theorem State.benchLaneOff_core (s : State) (b l : Nat) : (s.benchLaneOff b l).core = s.core := by
  unfold State.benchLaneOff
  simp -implicitDefEqProofs

@[simp ↓] theorem State.benchEngOff_core (s : State) (b e : Nat) : (s.benchEngOff b e).core = s.core := by
  unfold State.benchEngOff
  simp -implicitDefEqProofs

@[simp ↓] theorem State.benchStop_core (s : State) (b : Nat) : (s.benchStop b).core = s.core := by
  unfold State.benchStop
  dsimp only
  simp -implicitDefEqProofs

@[simp ↓] theorem benchDisable_core (b : Nat) (s : State) : (benchDisable b s).core = s.core := by
  unfold benchDisable
  simp -implicitDefEqProofs

@[simp ↓] theorem State.benchStart_core (s : State) (b : Nat) : (s.benchStart b).core = s.core := by
  unfold State.benchStart
  dsimp only
  simp -implicitDefEqProofs

@[simp ↓] theorem State.benchAsk_core (s : State) (b : Nat) : (s.benchAsk b).core = s.core := by
  unfold State.benchAsk
  simp -implicitDefEqProofs

@[simp ↓] theorem benchEnable_core (who : Who) (b : Nat) (s : State) : (benchEnable who b s).core = s.core := by
  unfold benchEnable
  simp -implicitDefEqProofs

@[simp ↓] theorem State.benchResetBegin_core (s : State) (b : Nat) : (s.benchResetBegin b).core = s.core := by
  unfold State.benchResetBegin
  dsimp only
  simp -implicitDefEqProofs

@[simp ↓] theorem benchQuietReached_core (b : Nat) (s : State) : (benchQuietReached b s).core = s.core := by
  unfold benchQuietReached
  dsimp only
  simp -implicitDefEqProofs

@[simp ↓] theorem State.cachesLost_core (s : State) (b : Nat) : (s.cachesLost b).core = s.core := by
  unfold State.cachesLost
  dsimp only
  simp -implicitDefEqProofs

@[simp ↓] theorem State.benchWipe_core (s : State) (b : Nat) : (s.benchWipe b).core = s.core := by
  unfold State.benchWipe
  dsimp only
  simp -implicitDefEqProofs

@[simp ↓] theorem benchWipeDone_core (b : Nat) (s : State) : (benchWipeDone b s).core = s.core := by
  unfold benchWipeDone
  dsimp only
  simp -implicitDefEqProofs

@[simp ↓] theorem State.biasLoad_core (s : State) (n : Nat) : (s.biasLoad n).core = s.core := by
  unfold State.biasLoad
  dsimp only
  simp -implicitDefEqProofs

@[simp ↓] theorem State.biasDrive_core (s : State) (n : Nat) : (s.biasDrive n).core = s.core := by
  unfold State.biasDrive
  dsimp only
  simp -implicitDefEqProofs

@[simp ↓] theorem State.biasTick_core (s : State) (n : Nat) (groups : List Nat) :
    (s.biasTick n groups).core = s.core := by
  unfold State.biasTick
  dsimp only
  simp -implicitDefEqProofs

@[simp ↓] theorem biasUpdate_core (s : State) : (biasUpdate s).core = s.core := by
  unfold biasUpdate
  dsimp only
  simp -implicitDefEqProofs

@[simp ↓] theorem biasCodeWrite_core (n : Nat) (v : Word) (s : State) : (biasCodeWrite n v s).core = s.core := by
  unfold biasCodeWrite
  simp -implicitDefEqProofs

@[simp ↓] theorem loadStrobe_core (groups : Nat) (s : State) : (loadStrobe groups s).core = s.core := by
  unfold loadStrobe
  simp -implicitDefEqProofs

@[simp ↓] theorem unpark_core (who : Who) (n : Nat) (s : State) : (unpark who n s).core = s.core := by
  unfold unpark
  dsimp only
  simp -implicitDefEqProofs

@[simp ↓] theorem park_core (n : Nat) (s : State) : (park n s).core = s.core := by
  unfold park
  dsimp only
  simp -implicitDefEqProofs

@[simp ↓] theorem State.biasRange_core (s : State) (n r c : Nat) : (s.biasRange n r c).core = s.core := by
  unfold State.biasRange
  simp -implicitDefEqProofs

@[simp ↓] theorem biasRangeRequest_core (who : Who) (n : Nat) (v : Word) (s : State) :
    (biasRangeRequest who n v s).core = s.core := by
  unfold biasRangeRequest
  dsimp only
  simp -implicitDefEqProofs

@[simp ↓] theorem biasRangeSwitchDone_core (n : Nat) (s : State) : (biasRangeSwitchDone n s).core = s.core := by
  unfold biasRangeSwitchDone
  dsimp only
  split <;> simp -implicitDefEqProofs

@[simp ↓] theorem sinStart_core (n : Nat) (s : State) : (sinStart n s).core = s.core := by
  unfold sinStart
  simp -implicitDefEqProofs

@[simp ↓] theorem sinStop_core (n : Nat) (s : State) : (sinStop n s).core = s.core := by
  unfold sinStop
  simp -implicitDefEqProofs

@[simp ↓] theorem State.biasFault_core (s : State) (n : Nat) (f : Bits) : (s.biasFault n f).core = s.core := by
  unfold State.biasFault
  simp -implicitDefEqProofs

@[simp ↓] theorem State.monitorV_core (s : State) (n : Nat) (v : Int) : (s.monitorV n v).core = s.core := by
  unfold State.monitorV
  dsimp only
  simp -implicitDefEqProofs

@[simp ↓] theorem State.monitorI_core (s : State) (n : Nat) (i : Int) : (s.monitorI n i).core = s.core := by
  unfold State.monitorI
  dsimp only
  simp -implicitDefEqProofs

@[simp ↓] theorem monitorConversion_core (n : Nat) (current : Bool) (v : Int) (s : State) :
    (monitorConversion n current v s).core = s.core := by
  unfold monitorConversion
  dsimp only
  simp -implicitDefEqProofs

@[simp ↓] theorem State.biasSafe_core (s : State) (n : Nat) : (s.biasSafe n).core = s.core := by
  unfold State.biasSafe
  dsimp only
  simp -implicitDefEqProofs

@[simp ↓] theorem State.biasUnsafe_core (s : State) (n : Nat) : (s.biasUnsafe n).core = s.core := by
  unfold State.biasUnsafe
  simp -implicitDefEqProofs

@[simp ↓] theorem State.biasDown_core (s : State) (n : Nat) : (s.biasDown n).core = s.core := by
  unfold State.biasDown
  simp -implicitDefEqProofs

@[simp ↓] theorem State.biasPark_core (s : State) (n : Nat) : (s.biasPark n).core = s.core := by
  unfold State.biasPark
  dsimp only
  simp -implicitDefEqProofs

@[simp ↓] theorem State.panelPut_core (s : State) (i : Nat) (level : Bool) : (s.panelPut i level).core = s.core := by
  unfold State.panelPut
  dsimp only
  simp -implicitDefEqProofs

@[simp ↓] theorem State.budgetNote_core (s : State) (r : Budget) (mask point : Nat) (out : Option (Nat × Nat)) :
    (s.budgetNote r mask point out).core = s.core := by
  unfold State.budgetNote
  dsimp only
  simp -implicitDefEqProofs

@[simp ↓] theorem State.budgetCheck_core (s : State) (mask point : Nat) :
    (s.budgetCheck mask point).1.core = s.core := by
  unfold State.budgetCheck
  dsimp only
  simp -implicitDefEqProofs

@[simp ↓] theorem State.voicesPark_core (s : State) : s.voicesPark.core = s.core := by
  unfold State.voicesPark
  dsimp only
  simp -implicitDefEqProofs

@[simp ↓] theorem State.convPark_core (s : State) (b c : Nat) : (s.convPark b c).core = s.core := by
  unfold State.convPark
  dsimp only
  simp -implicitDefEqProofs

@[simp ↓] theorem State.convParkAll_core (s : State) : s.convParkAll.core = s.core := by
  unfold State.convParkAll
  simp -implicitDefEqProofs

@[simp ↓] theorem State.safePark_core (s : State) : s.safePark.core = s.core := by
  unfold State.safePark
  dsimp only
  simp -implicitDefEqProofs

@[simp ↓] theorem State.safeFalls_core (s : State) : s.safeFalls.core = s.core := by
  unfold State.safeFalls
  simp -implicitDefEqProofs

@[simp ↓] theorem State.safeRises_core (s : State) : s.safeRises.core = s.core := by
  unfold State.safeRises
  simp -implicitDefEqProofs

@[simp ↓] theorem safeNLow_core (s : State) : (safeNLow s).core = s.core := by
  unfold safeNLow
  simp -implicitDefEqProofs

@[simp ↓] theorem safeNHigh_core (s : State) : (safeNHigh s).core = s.core := by
  unfold safeNHigh
  simp -implicitDefEqProofs

@[simp ↓] theorem State.loadPin_core (s : State) : s.loadPin.core = s.core := by
  unfold State.loadPin
  simp -implicitDefEqProofs

@[simp ↓] theorem panelLevelChange_core (i : Nat) (level : Bool) (s : State) :
    (panelLevelChange i level s).core = s.core := by
  unfold panelLevelChange
  simp -implicitDefEqProofs

@[simp ↓] theorem State.scanBegin_core (s : State) (e : Nat) : (s.scanBegin e).core = s.core := by
  unfold State.scanBegin
  dsimp only
  simp -implicitDefEqProofs

@[simp ↓] theorem State.scanNext_core (s : State) : s.scanNext.core = s.core := by
  unfold State.scanNext
  dsimp only
  simp -implicitDefEqProofs

@[simp ↓] theorem scanRun_core (s : State) : (scanRun s).core = s.core := by
  unfold scanRun
  dsimp only
  simp -implicitDefEqProofs

@[simp ↓] theorem State.staleCh_core (s : State) (c : Nat) : (s.staleCh c).core = s.core := by
  unfold State.staleCh
  simp -implicitDefEqProofs

@[simp ↓] theorem State.scanHalt_core (s : State) : s.scanHalt.core = s.core := by
  unfold State.scanHalt
  dsimp only
  simp -implicitDefEqProofs

@[simp ↓] theorem scanStop_core (s : State) : (scanStop s).core = s.core := by
  unfold scanStop
  simp -implicitDefEqProofs

@[simp ↓] theorem State.loopFault_core (s : State) (k : Nat) : (s.loopFault k).core = s.core := by
  unfold State.loopFault
  dsimp only
  simp -implicitDefEqProofs

@[simp ↓] theorem State.loopCmd_core (s : State) (k : Nat) : (s.loopCmd k).2.core = s.core := by
  unfold State.loopCmd
  dsimp only
  (repeat' split) <;> simp -implicitDefEqProofs

@[simp ↓] theorem State.loopResult_core (s : State) (k : Nat) : (s.loopResult k).core = s.core := by
  unfold State.loopResult
  dsimp only
  simp -implicitDefEqProofs

@[simp ↓] theorem State.loopConfig_core (s : State) (k : Nat) : (s.loopConfig k).core = s.core := by
  unfold State.loopConfig
  dsimp only
  simp -implicitDefEqProofs

@[simp ↓] theorem State.senseFault_core (s : State) (c : Nat) (f : Bits) : (s.senseFault c f).core = s.core := by
  unfold State.senseFault
  dsimp only
  simp -implicitDefEqProofs

@[simp ↓] theorem State.scanFail_core (s : State) : s.scanFail.core = s.core := by
  unfold State.scanFail
  dsimp only
  simp -implicitDefEqProofs

@[simp ↓] theorem sensorReading_core (r : Reading) (s : State) : (sensorReading r s).core = s.core := by
  unfold sensorReading
  dsimp only
  (repeat' split) <;> simp -implicitDefEqProofs

@[simp ↓] theorem State.scanResult_core (s : State) : s.scanResult.core = s.core := by
  unfold State.scanResult
  dsimp only
  simp -implicitDefEqProofs

@[simp ↓] theorem scanEntryEnd_core (s : State) : (scanEntryEnd s).core = s.core := by
  unfold scanEntryEnd
  dsimp only
  simp -implicitDefEqProofs

@[simp ↓] theorem State.scanRestart_core (s : State) (c0 : Nat) : (s.scanRestart c0).core = s.core := by
  unfold State.scanRestart
  dsimp only
  simp -implicitDefEqProofs

@[simp ↓] theorem excitationSwitch_core (i : Nat) (v : Word) (s : State) :
    (excitationSwitch i v s).core = s.core := by
  unfold excitationSwitch
  dsimp only
  simp -implicitDefEqProofs

@[simp ↓] theorem loopReadback_core (k microamps : Nat) (s : State) : (loopReadback k microamps s).core = s.core := by
  unfold loopReadback
  dsimp only
  simp -implicitDefEqProofs

@[simp ↓] theorem State.regsLost_core (s : State) (keep : Nat → Bool) (open_ : Bool) :
    (s.regsLost keep open_).core = s.core := by
  unfold State.regsLost
  dsimp only
  simp -implicitDefEqProofs

@[simp ↓] theorem State.loopsOff_core (s : State) : s.loopsOff.core = s.core := by
  unfold State.loopsOff
  simp -implicitDefEqProofs

@[simp ↓] theorem State.migrationStands_core (s : State) : s.migrationStands.core = s.core := by
  unfold State.migrationStands
  dsimp only
  split <;> simp -implicitDefEqProofs

@[simp ↓] theorem State.biasAllDown_core (s : State) : s.biasAllDown.core = s.core := by
  unfold State.biasAllDown
  simp -implicitDefEqProofs

@[simp ↓] theorem State.biasAllPark_core (s : State) : s.biasAllPark.core = s.core := by
  unfold State.biasAllPark
  simp -implicitDefEqProofs

@[simp ↓] theorem State.markLost_core (s : State) (lost : Nat → Bool) : (s.markLost lost).core = s.core := by
  unfold State.markLost
  dsimp only
  simp -implicitDefEqProofs

@[simp ↓] theorem State.memMark_core (s : State) (event dev : Nat) : (s.memMark event dev).core = s.core := by
  unfold State.memMark
  simp -implicitDefEqProofs

@[simp ↓] theorem State.memWake_core (s : State) : s.memWake.core = s.core := by
  unfold State.memWake
  dsimp only
  simp -implicitDefEqProofs

@[simp ↓] theorem State.memSleep_core (s : State) : s.memSleep.core = s.core := by
  unfold State.memSleep
  dsimp only
  simp -implicitDefEqProofs

@[simp ↓] theorem State.convsOff_core (s : State) : s.convsOff.core = s.core := by
  unfold State.convsOff
  dsimp only
  simp -implicitDefEqProofs

@[simp ↓] theorem State.convsOn_core (s : State) : s.convsOn.core = s.core := by
  unfold State.convsOn
  simp -implicitDefEqProofs

@[simp ↓] theorem State.isincTake_core (s : State) : s.isincTake.core = s.core := by
  unfold State.isincTake
  simp -implicitDefEqProofs

@[simp ↓] theorem State.fsrTakeAll_core (s : State) : s.fsrTakeAll.core = s.core := by
  unfold State.fsrTakeAll
  simp -implicitDefEqProofs

@[simp ↓] theorem State.fmsOff_core (s : State) : s.fmsOff.core = s.core := by
  unfold State.fmsOff
  dsimp only
  simp -implicitDefEqProofs

@[simp ↓] theorem State.engsStop_core (s : State) : s.engsStop.core = s.core := by
  unfold State.engsStop
  simp -implicitDefEqProofs

@[simp ↓] theorem State.allCachesLost_core (s : State) : s.allCachesLost.core = s.core := by
  unfold State.allCachesLost
  simp -implicitDefEqProofs

@[simp ↓] theorem State.sendOffset_core (s : State) (d : Nat) (ofs : Int) : (s.sendOffset d ofs).core = s.core := by
  unfold State.sendOffset
  dsimp only
  simp -implicitDefEqProofs

@[simp ↓] theorem State.alertServe_core (s : State) (faulty : Bool) : (s.alertServe faulty).core = s.core := by
  unfold State.alertServe
  dsimp only
  simp -implicitDefEqProofs

@[simp ↓] theorem State.streamTake_core (s : State) (b : Nat) : (s.streamTake b).core = s.core := by
  unfold State.streamTake
  simp -implicitDefEqProofs

@[simp ↓] theorem State.notePrev_core (s : State) : s.notePrev.core = s.core := by
  unfold State.notePrev
  simp -implicitDefEqProofs

@[simp ↓] theorem State.thermMark_core (s : State) (a sensor : Nat) : (s.thermMark a sensor).core = s.core := by
  unfold State.thermMark
  simp -implicitDefEqProofs

@[simp ↓] theorem State.thermFlags_core (s : State) (rise broken hi bad : Bool) :
    (s.thermFlags rise broken hi bad).core = s.core := by
  unfold State.thermFlags
  dsimp only
  simp -implicitDefEqProofs

@[simp ↓] theorem State.marginPut_core (s : State) (d : Nat) (m : Int) : (s.marginPut d m).core = s.core := by
  unfold State.marginPut
  dsimp only
  simp -implicitDefEqProofs

@[simp ↓] theorem State.ueResult_core (s : State) (who : Who) : (s.ueResult who).core = s.core := by
  unfold State.ueResult
  split <;> simp -implicitDefEqProofs

@[simp ↓] theorem waveformRead_core (who : Who) (a : Nat) (r : ReadCheck) (s : State) :
    (waveformRead who a r s).core = s.core := by
  unfold waveformRead
  dsimp only
  (repeat' split) <;> simp -implicitDefEqProofs

@[simp ↓] theorem State.setDebt_core (s : State) (c debt : Nat) (catchUp : Bool) :
    (s.setDebt c debt catchUp).core = s.core := by
  unfold State.setDebt
  dsimp only
  simp -implicitDefEqProofs

@[simp ↓] theorem State.forced_core (s : State) (n : Nat) : (s.forced n).core = s.core := by
  unfold State.forced
  simp -implicitDefEqProofs

@[simp ↓] theorem State.rowsRefreshed_core (s : State) (c : Nat) : (s.rowsRefreshed c).core = s.core := by
  unfold State.rowsRefreshed
  dsimp only
  simp -implicitDefEqProofs

@[simp ↓] theorem refreshDue_core (c : Nat) (panicIssues : Bool) (s : State) :
    (refreshDue c panicIssues s).core = s.core := by
  unfold refreshDue
  dsimp only
  simp -implicitDefEqProofs

@[simp ↓] theorem State.hotEnter_core (s : State) (c : Nat) : (s.hotEnter c).core = s.core := by
  unfold State.hotEnter
  dsimp only
  simp -implicitDefEqProofs

@[simp ↓] theorem State.guardEnter_core (s : State) (c : Nat) : (s.guardEnter c).core = s.core := by
  unfold State.guardEnter
  dsimp only
  simp -implicitDefEqProofs

@[simp ↓] theorem State.hotLeave_core (s : State) (c : Nat) : (s.hotLeave c).core = s.core := by
  unfold State.hotLeave
  simp -implicitDefEqProofs

@[simp ↓] theorem memTempSample_core (temps : List (Option Int)) (s : State) :
    (memTempSample temps s).core = s.core := by
  unfold memTempSample
  dsimp only
  simp -implicitDefEqProofs

@[simp ↓] theorem State.limit_core (s : State) (c q : Nat) : (s.limit c q).core = s.core := by
  unfold State.limit
  dsimp only
  simp -implicitDefEqProofs

@[simp ↓] theorem rowThreshold_core (c row q : Nat) (s : State) : (rowThreshold c row q s).core = s.core := by
  unfold rowThreshold
  dsimp only
  simp -implicitDefEqProofs

@[simp ↓] theorem rhWindow_core (s : State) : (rhWindow s).core = s.core := by
  unfold rhWindow
  dsimp only
  simp -implicitDefEqProofs

@[simp ↓] theorem State.retrainAsk_core (s : State) (d : Nat) : (s.retrainAsk d).core = s.core := by
  unfold State.retrainAsk
  simp -implicitDefEqProofs

@[simp ↓] theorem edcError_core (d : Nat) (write : Bool) (failed unit : Nat) (s : State) :
    (edcError d write failed unit s).core = s.core := by
  unfold edcError
  dsimp only
  simp -implicitDefEqProofs

@[simp ↓] theorem caParityAlert_core (c : Nat) (units : List (BitVec 28)) (s : State) :
    (caParityAlert c units s).core = s.core := by
  unfold caParityAlert
  dsimp only
  simp -implicitDefEqProofs

@[simp ↓] theorem requestPromotion_core (k waited : Nat) (s : State) :
    (requestPromotion k waited s).core = s.core := by
  unfold requestPromotion
  dsimp only
  simp -implicitDefEqProofs

@[simp ↓] theorem errorCountHour_core (s : State) : (errorCountHour s).core = s.core := by
  unfold errorCountHour
  simp -implicitDefEqProofs

@[simp ↓] theorem selfRefreshExit_core (s : State) : (selfRefreshExit s).core = s.core := by
  unfold selfRefreshExit
  dsimp only
  simp -implicitDefEqProofs

@[simp ↓] theorem selfRefreshEntry_core (s : State) : (selfRefreshEntry s).core = s.core := by
  unfold selfRefreshEntry
  simp -implicitDefEqProofs

@[simp ↓] theorem State.takeSlot_core (s : State) (d sp : Nat) : (s.takeSlot d sp).core = s.core := by
  unfold State.takeSlot
  dsimp only
  simp -implicitDefEqProofs

@[simp ↓] theorem pcieReset_core (s : State) : (pcieReset s).core = s.core := by
  unfold pcieReset
  simp -implicitDefEqProofs

@[simp ↓] theorem State.resend_core (s : State) : s.resend.core = s.core := by
  unfold State.resend
  dsimp only
  simp -implicitDefEqProofs

@[simp ↓] theorem carterFrameError_core (port : Nat) (s : State) : (carterFrameError port s).core = s.core := by
  unfold carterFrameError
  simp -implicitDefEqProofs

@[simp ↓] theorem coreRelease_core (s : State) : (coreRelease s).core = s.core := by
  unfold coreRelease
  simp -implicitDefEqProofs

@[simp ↓] theorem State.mboxFree_core (s : State) (n : Nat) : (s.mboxFree n).core = s.core := by
  unfold State.mboxFree
  dsimp only
  simp -implicitDefEqProofs

@[simp ↓] theorem State.recordOut_core (s : State) (r : LedgerRec) : (s.recordOut r).core = s.core := by
  unfold State.recordOut
  simp -implicitDefEqProofs

@[simp ↓] theorem State.loadWord_core (s : State) (off v : Nat) : (s.loadWord off v).core = s.core := by
  unfold State.loadWord
  dsimp only
  split <;> simp -implicitDefEqProofs

@[simp ↓] theorem State.loadHalf_core (s : State) (off v : Nat) : (s.loadHalf off v).core = s.core := by
  unfold State.loadHalf
  dsimp only
  simp -implicitDefEqProofs

@[simp ↓] theorem State.carveSet_core (s : State) (c t k : Nat) : (s.carveSet c t k).core = s.core := by
  unfold State.carveSet
  simp -implicitDefEqProofs

@[simp ↓] theorem State.structCleared_core (s : State) : s.structCleared.core = s.core := by
  unfold State.structCleared
  simp -implicitDefEqProofs

@[simp ↓] theorem State.loadStatus_core (s : State) (overlay : Bool) (err sec : Nat) :
    (s.loadStatus overlay err sec).core = s.core := by
  unfold State.loadStatus
  dsimp only
  simp -implicitDefEqProofs

@[simp ↓] theorem State.tonesLoad_core (s : State) (b : Nat) : (s.tonesLoad b).core = s.core := by
  unfold State.tonesLoad
  dsimp only
  simp -implicitDefEqProofs

@[simp ↓] theorem State.windowsLoad_core (s : State) (b : Nat) : (s.windowsLoad b).core = s.core := by
  unfold State.windowsLoad
  dsimp only
  simp -implicitDefEqProofs

@[simp ↓] theorem State.mirrorInit_core (s : State) : s.mirrorInit.core = s.core := by
  unfold State.mirrorInit
  dsimp only
  simp -implicitDefEqProofs

@[simp ↓] theorem State.tallyLoad_core (s : State) : s.tallyLoad.core = s.core := by
  unfold State.tallyLoad
  dsimp only
  simp -implicitDefEqProofs

@[simp ↓] theorem State.lanesLoad_core (s : State) (b : Nat) : (s.lanesLoad b).core = s.core := by
  unfold State.lanesLoad
  simp -implicitDefEqProofs

@[simp ↓] theorem State.latchesLoad_core (s : State) (b : Nat) : (s.latchesLoad b).core = s.core := by
  unfold State.latchesLoad
  dsimp only
  simp -implicitDefEqProofs

@[simp ↓] theorem State.unpatterned_core (s : State) : s.unpatterned.core = s.core := by
  unfold State.unpatterned
  dsimp only
  simp -implicitDefEqProofs

@[simp ↓] theorem State.capture_core (s : State) (who : Who) (off v : Nat) : (s.capture who off v).core = s.core := by
  unfold State.capture
  simp -implicitDefEqProofs

@[simp ↓] theorem State.takeCapture_core (s : State) (who : Who) (off : Nat) :
    (s.takeCapture who off).core = s.core := by
  unfold State.takeCapture
  dsimp only
  split
  · simp -implicitDefEqProofs
  · split <;> simp -implicitDefEqProofs

@[simp ↓] theorem irqCodeRead_core (b : Nat) (s : State) : (irqCodeRead b s).core = s.core := by
  unfold irqCodeRead
  simp -implicitDefEqProofs

@[simp ↓] theorem State.readOne_core (s : State) (who : Who) (view : Nat) (single : Bool) :
    (s.readOne who view single).core = s.core := by
  unfold State.readOne
  dsimp only
  split <;> simp -implicitDefEqProofs

@[simp ↓] theorem State.readReg_core (s : State) (who : Who) (view size : Nat) :
    (s.readReg who view size).core = s.core := by
  unfold State.readReg
  dsimp only
  simp -implicitDefEqProofs

@[simp ↓] theorem State.unreach_core (s : State) : s.unreach.core = s.core := by
  unfold State.unreach
  simp -implicitDefEqProofs

@[simp ↓] theorem captureRead_core (who : Who) (off : Nat) (s : State) : (captureRead who off s).core = s.core := by
  unfold captureRead
  simp -implicitDefEqProofs

@[simp ↓] theorem apertureRead_core (who : Who) (off size : Nat) (s : State) :
    (apertureRead who off size s).core = s.core := by
  unfold apertureRead
  dsimp only
  simp -implicitDefEqProofs

@[simp ↓] theorem deniedRead_core (who : Who) (dev off size : Nat) (s : State) :
    (deniedRead who dev off size s).core = s.core := by
  unfold deniedRead
  simp -implicitDefEqProofs

@[simp ↓] theorem State.fieldsWrite_core (s : State) (who : Who) (view : Nat) (d : RegDesc) (v : Nat) :
    (s.fieldsWrite who view d v).core = s.core := by
  unfold State.fieldsWrite
  dsimp only
  simp -implicitDefEqProofs

@[simp ↓] theorem State.laterWrite_core (s : State) (who : Who) (view : Nat) (d : RegDesc) (v : Nat) :
    (s.laterWrite who view d v).core = s.core := by
  unfold State.laterWrite
  dsimp only
  simp -implicitDefEqProofs

@[simp ↓] theorem State.governWrite_core (s : State) (who : Who) (view : Nat) (d : RegDesc) (v : Nat) :
    (s.governWrite who view d v).core = s.core := by
  unfold State.governWrite
  dsimp only
  simp -implicitDefEqProofs

@[simp ↓] theorem State.timeWrite_core (s : State) (who : Who) (d : RegDesc) (off v : Nat) :
    (s.timeWrite who d off v).core = s.core := by
  unfold State.timeWrite
  simp -implicitDefEqProofs

@[simp ↓] theorem State.laneWrite_core (s : State) (who : Who) (d : RegDesc) (off v : Nat) :
    (s.laneWrite who d off v).core = s.core := by
  unfold State.laneWrite
  dsimp only
  simp -implicitDefEqProofs

@[simp ↓] theorem State.loomWrite_core (s : State) (who : Who) (d : RegDesc) (view v : Nat) :
    (s.loomWrite who d view v).core = s.core := by
  unfold State.loomWrite
  dsimp only
  simp -implicitDefEqProofs

@[simp ↓] theorem State.outWrite_core (s : State) (who : Who) (d : RegDesc) (off v : Nat) :
    (s.outWrite who d off v).core = s.core := by
  unfold State.outWrite
  dsimp only
  simp -implicitDefEqProofs

@[simp ↓] theorem State.fluxWrite_core (s : State) (who : Who) (d : RegDesc) (off v : Nat) :
    (s.fluxWrite who d off v).core = s.core := by
  unfold State.fluxWrite
  dsimp only
  split <;> simp -implicitDefEqProofs

@[simp ↓] theorem State.readWrite_core (s : State) (who : Who) (d : RegDesc) (off v : Nat) :
    (s.readWrite who d off v).core = s.core := by
  unfold State.readWrite
  dsimp only
  simp -implicitDefEqProofs

@[simp ↓] theorem State.assayWrite_core (s : State) (who : Who) (d : RegDesc) (off v : Nat) :
    (s.assayWrite who d off v).core = s.core := by
  unfold State.assayWrite
  dsimp only
  split <;> simp -implicitDefEqProofs

@[simp ↓] theorem State.evinWrite_core (s : State) (who : Who) (d : RegDesc) (b v : Nat) :
    (s.evinWrite who d b v).core = s.core := by
  unfold State.evinWrite
  dsimp only
  simp -implicitDefEqProofs

@[simp ↓] theorem State.fmWrite_core (s : State) (who : Who) (d : RegDesc) (off v : Nat) :
    (s.fmWrite who d off v).core = s.core := by
  unfold State.fmWrite
  dsimp only
  simp -implicitDefEqProofs

@[simp ↓] theorem State.benchWrite_core (s : State) (who : Who) (d : RegDesc) (off v : Nat) :
    (s.benchWrite who d off v).core = s.core := by
  unfold State.benchWrite
  dsimp only
  simp -implicitDefEqProofs

@[simp ↓] theorem State.tallyWrite_core (s : State) (who : Who) (d : RegDesc) (off v : Nat) :
    (s.tallyWrite who d off v).core = s.core := by
  unfold State.tallyWrite
  dsimp only
  simp -implicitDefEqProofs

@[simp ↓] theorem State.biasCtlWrite_core (s : State) (who : Who) (n v : Nat) :
    (s.biasCtlWrite who n v).core = s.core := by
  unfold State.biasCtlWrite
  dsimp only
  simp -implicitDefEqProofs

@[simp ↓] theorem State.biasWrite_core (s : State) (who : Who) (d : RegDesc) (off v : Nat) :
    (s.biasWrite who d off v).core = s.core := by
  unfold State.biasWrite
  dsimp only
  simp -implicitDefEqProofs

@[simp ↓] theorem State.senseWrite_core (s : State) (who : Who) (d : RegDesc) (off v : Nat) :
    (s.senseWrite who d off v).core = s.core := by
  unfold State.senseWrite
  dsimp only
  simp -implicitDefEqProofs

@[simp ↓] theorem State.dirWrite_core (s : State) (who : Who) (off size v : Nat) :
    (s.dirWrite who off size v).core = s.core := by
  unfold State.dirWrite
  dsimp only
  simp -implicitDefEqProofs

@[simp ↓] theorem State.xyWrite_core (s : State) (who : Who) (b rel off size v : Nat) :
    (s.xyWrite who b rel off size v).core = s.core := by
  unfold State.xyWrite
  dsimp only
  simp -implicitDefEqProofs

@[simp ↓] theorem State.fetchTick_core (s : State) : s.fetchTick.core = s.core := by
  unfold State.fetchTick
  simp -implicitDefEqProofs

@[simp ↓] theorem State.shotsTick_core (s : State) : s.shotsTick.core = s.core := by
  unfold State.shotsTick
  simp -implicitDefEqProofs

@[simp ↓] theorem State.convsTick_core (s : State) : s.convsTick.core = s.core := by
  unfold State.convsTick
  dsimp only
  simp -implicitDefEqProofs

@[simp ↓] theorem State.panicTick_core (s : State) : s.panicTick.core = s.core := by
  unfold State.panicTick
  simp -implicitDefEqProofs

/-- The core of a state paired with a result, chosen by a condition. -/
@[simp ↓] theorem State.core_fst_ite {α : Type} (c : Prop) [Decidable c] (p q : State × α) :
    (if c then p else q).1.core = either c p.1.core q.1.core := apply_ite (fun r : State × α => r.1.core) c p q

@[simp ↓] theorem State.core_snd_ite {α : Type} (c : Prop) [Decidable c] (p q : α × State) :
    (if c then p else q).2.core = either c p.2.core q.2.core := apply_ite (fun r : α × State => r.2.core) c p q

@[simp ↓] theorem State.epochSlip_core (s : State) : s.epochSlip.2.core = s.core := by
  simp only [State.epochSlip, ↓State.core_snd_ite, ↓State.free_core, either_self]

@[simp ↓] theorem State.seekFor_core (s : State) (b l voice id ser : Nat) (d : DescSt) :
    (s.seekFor b l voice id ser d).1.core = s.core := by
  unfold State.seekFor
  split
  · split <;> rename_i heq <;> exact (congrArg (fun r => r.1.core) heq).symm.trans (State.seekSamples_core ..)
  · rfl

@[simp ↓] theorem State.descReaches_core (s : State) (b l voice id ser : Nat) (ws : List Nat) (aliasOk : Bool) :
    (s.descReaches b l voice id ser ws aliasOk).1.core = s.core :=
  State.seekFor_core ..

@[simp ↓] theorem State.fillPlay_core (s : State) (b l voice id : Nat) (ws : List Nat) (p : Play) :
    (s.fillPlay b l voice id ws p).core = s.core := by
  unfold State.fillPlay
  dsimp only
  simp -implicitDefEqProofs

@[simp ↓] theorem dirMissFill_core (b seg : Nat) (ue : Bool) (s : State) : (dirMissFill b seg ue s).core = s.core := by
  unfold dirMissFill
  dsimp only
  split
  · rfl
  · simp -implicitDefEqProofs

theorem State.serveHead_core {s t : State} {b : Nat} {f : Fetch} (h : s.serveHead b f = some t) : t.core = s.core := by
  unfold State.serveHead at h
  split at h
  · split at h
    · rw [← Option.some.inj h]
      simp -implicitDefEqProofs
    · cases h
  · cases h

@[simp ↓] theorem granuleArrive_core (b : Nat) (src : GranSrc) (ue : Bool) (s : State) :
    (granuleArrive b src ue s).core = s.core := by
  unfold granuleArrive
  split
  · dsimp only
    split
    · rfl
    · split
      · rfl
      · rename_i h
        simp -implicitDefEqProofs [State.serveHead_core h]
  · split
    · rfl
    · split
      · rfl
      · rename_i h
        simp -implicitDefEqProofs [State.serveHead_core h]

@[simp ↓] theorem State.enterPlay_core (s : State) (b l : Nat) (a : PlayArgs) (start : Nat) :
    (s.enterPlay b l a start).1.core = s.core := by
  unfold State.enterPlay
  dsimp only
  simp -implicitDefEqProofs

@[simp ↓] theorem State.enterHeadPlay_core (s : State) (b l voice : Nat) (p : Play) :
    (s.enterHeadPlay b l voice p).core = s.core := by
  unfold State.enterHeadPlay
  dsimp only
  simp -implicitDefEqProofs

@[simp ↓] theorem State.enterHeads_core (s : State) (b l n : Nat) : (s.enterHeads b l n).core = s.core := by
  induction n generalizing s with
  | zero => rfl
  | succ n ih =>
    unfold State.enterHeads
    split
    · simp -implicitDefEqProofs
    · simp -implicitDefEqProofs [ih]

@[simp ↓] theorem State.enterHead_core (s : State) (b l bnd : Nat) (staged : Bool) (h : Head) :
    (s.enterHead b l bnd staged h).core = s.core := by
  unfold State.enterHead
  dsimp only
  simp -implicitDefEqProofs

@[simp ↓] theorem State.ringDrop_core (n : Nat) (s : State) : (s.ringDrop n).core = s.core := by
  induction n generalizing s with
  | zero => rfl
  | succ n ih =>
    unfold State.ringDrop
    dsimp only
    simp -implicitDefEqProofs [ih]

@[simp ↓] theorem State.benchWinWrite_core (s : State) (who : Who) (off size v : Nat) :
    (s.benchWinWrite who off size v).core = s.core := by
  -- The difference to the window's base is named first: the kernel would count it down to 0.
  suffices h : ∀ f, f = @State.benchWinWrite → (f s who off size v).core = s.core from h _ rfl
  delta State.benchWinWrite
  rintro _ rfl
  beta_reduce
  obtain ⟨d, hd⟩ : ∃ d, d = off - 0x430000000 := ⟨_, rfl⟩
  rw [← hd]
  dsimp only
  split
  · split <;> simp only [↓kernelWrite_core]
  · exact State.xyWrite_core ..
  · exact State.xyWrite_core ..
  · exact State.denied_core ..

@[simp ↓] theorem State.winWrite_core (s : State) (who : Who) (off size v : Nat) :
    (s.winWrite who off size v).core = s.core := by
  unfold State.winWrite
  simp only [↓State.core_ite, ↓State.denied_core, ↓State.dirWrite_core, ↓State.benchWinWrite_core, either_self]


@[simp ↓] theorem State.issuePlay_core (s : State) (b l w : Nat) : (s.issuePlay b l w).core = s.core := by
  unfold State.issuePlay
  dsimp only
  simp -implicitDefEqProofs

@[simp ↓] theorem play_core (b l : Nat) (s : State) : (play b l s).core = s.core :=
  State.withInstr_core s b l 1 fun t w => t.issuePlay_core b l w

@[simp ↓] theorem playx_core (b l : Nat) (s : State) : (playx b l s).core = s.core :=
  State.withInstr_core s b l 2 fun t w => t.issuePlay_core b l w

@[simp ↓] theorem playQueueSpace_core (b l : Nat) (s : State) : (playQueueSpace b l s).core = s.core := by
  unfold playQueueSpace
  dsimp only
  split <;> simp -implicitDefEqProofs

@[simp ↓] theorem endl_core (b l : Nat) (s : State) : (endl b l s).core = s.core := by
  refine State.withInstr_core s b l 8 fun t w => ?_
  split <;> simp -implicitDefEqProofs

@[simp ↓] theorem br_core (b l : Nat) (s : State) : (br b l s).core = s.core := by
  refine State.withInstr_core s b l 6 fun t w => ?_
  dsimp only
  split
  case h_1 | h_2 => split <;> simp -implicitDefEqProofs
  case h_3 | h_4 => split <;> simp -implicitDefEqProofs
  all_goals simp -implicitDefEqProofs

@[simp ↓] theorem State.follow_core (s : State) (b l bnd : Nat) (br : Branch) (alt target : Nat) :
    (s.follow b l bnd br alt target).core = s.core := by
  unfold State.follow
  dsimp only
  simp -implicitDefEqProofs

@[simp ↓] theorem State.turn_core (s : State) (b l : Nat) (br : Branch) (dr alt : Nat) :
    (s.turn b l br dr alt).core = s.core := by
  unfold State.turn
  dsimp only
  simp -implicitDefEqProofs

@[simp ↓] theorem State.commitFixed_core (s : State) (b l : Nat) (br : Branch) (rest : List Branch) :
    (s.commitFixed b l br rest).core = s.core := by
  unfold State.commitFixed
  dsimp only
  split
  · rfl
  · generalize (s.outcome b l br _).2.2 = dr
    cases dr <;> simp -implicitDefEqProofs

@[simp ↓] theorem State.commitAsap_core (s : State) (b l : Nat) (br : Branch) :
    (s.commitAsap b l br).core = s.core := by
  unfold State.commitAsap
  dsimp only
  split <;> simp -implicitDefEqProofs

@[simp ↓] theorem branchCommit_core (b l : Nat) (s : State) : (branchCommit b l s).core = s.core := by
  unfold branchCommit
  dsimp only
  split
  · rfl
  · split <;> simp -implicitDefEqProofs

@[simp ↓] theorem fmBranch_core (b k : Nat) {act : State → Fm → State} (h : ∀ t f, (act t f).core = t.core) (s : State) :
    (fmBranch b k act s).core = s.core :=
  State.fmField_core s b 0 _ h

@[simp ↓] theorem foremanCall_core (b : Nat) (s : State) : (foremanCall b s).core = s.core :=
  fmBranch_core b 6 (fun t f => by simp -implicitDefEqProofs) s

@[simp ↓] theorem foremanRet_core (b : Nat) (s : State) : (foremanRet b s).core = s.core :=
  fmBranch_core b 7 (fun t f => by simp -implicitDefEqProofs) s

@[simp ↓] theorem tret_core (b : Nat) (s : State) : (tret b s).core = s.core :=
  fmBranch_core b 8 (fun t f => by simp -implicitDefEqProofs) s

@[simp ↓] theorem fmDop_core (b k : Nat) {act : State → Fm → State} (h : ∀ t f, (act t f).core = t.core) (s : State) :
    (fmDop b k act s).core = s.core :=
  State.fmField_core s b 2 _ h

@[simp ↓] theorem fmPublish_core (b k : Nat) (v : Fm → Bool) (s : State) : (fmPublish b k v s).core = s.core :=
  fmDop_core b k (fun t f => by simp -implicitDefEqProofs) s

@[simp ↓] theorem clrnew_core (b : Nat) (s : State) : (clrnew b s).core = s.core :=
  fmDop_core b 6 (fun t f => by simp -implicitDefEqProofs) s

@[simp ↓] theorem fmAlu_core (b k : Nat) {act : State → Fm → State} (h : ∀ t f, (act t f).core = t.core) (s : State) :
    (fmAlu b k act s).core = s.core :=
  State.fmField_core s b 3 _ h

/-! ### What every operation keeps of the core -/

/-- OTP `p` is `o` with at most more bits burnt. -/
structure Otp.Burnt (o p : Otp) : Prop where
  serial : p.serial = o.serial
  vendorSet : p.vendorSet = o.vendorSet
  ownCnt : o.ownCnt ≤ p.ownCnt
  retCnt : o.retCnt ≤ p.retCnt
  fwFloor : o.fwFloor ≤ p.fwFloor
  scrap : o.scrap = true → p.scrap = true
  ownerHash : o.ownerHash <:+ p.ownerHash

@[simp] theorem Otp.Burnt.refl (o : Otp) : o.Burnt o := ⟨rfl, rfl, le_rfl, le_rfl, le_rfl, id, List.suffix_rfl⟩

theorem Otp.Burnt.trans {o p q : Otp} (h : o.Burnt p) (k : p.Burnt q) : o.Burnt q where
  serial := k.serial.trans h.serial
  vendorSet := k.vendorSet.trans h.vendorSet
  ownCnt := h.ownCnt.trans k.ownCnt
  retCnt := h.retCnt.trans k.retCnt
  fwFloor := h.fwFloor.trans k.fwFloor
  scrap := k.scrap ∘ h.scrap
  ownerHash := h.ownerHash.trans k.ownerHash

/-- Core `d` has the queue of `c`, waveform memory in canonical form and clocks in order if `c` has, and the OTP of `c`
with at most more bits burnt. -/
structure Core.Keeps (c d : Core) : Prop where
  pending : d.pending = c.pending
  mem : Memory.wf c.mem = true → Memory.wf d.mem = true
  clk : c.clk.ok → d.clk.ok
  otp : c.host.otp.Burnt d.host.otp

@[simp ↓] theorem Core.Keeps.refl (c : Core) : c.Keeps c := ⟨rfl, id, id, .refl _⟩

theorem Core.Keeps.trans {c d e : Core} (h : c.Keeps d) (k : d.Keeps e) : c.Keeps e :=
  ⟨k.pending.trans h.pending, k.mem ∘ h.mem, k.clk ∘ h.clk, h.otp.trans k.otp⟩

@[simp ↓] theorem Core.Keeps.either {c a b : Core} {p : Prop} [Decidable p] (ha : c.Keeps a) (hb : c.Keeps b) :
    c.Keeps (either p a b) := by
  unfold Sys2Proof.Machine.either
  split <;> assumption

/-- An update of the state that leaves the queue keeps what its memory, clocks and OTP keep. -/
theorem Core.Keeps.update {c : Core} {s : State} (hs : c.Keeps s.core) {t : State}
    (hpend : t.pending = s.pending) (hmem : Memory.wf s.mem = true → Memory.wf t.mem = true)
    (hclk : s.clk.ok → t.clk.ok) (hotp : s.host.otp.Burnt t.host.otp) : c.Keeps t.core :=
  hs.trans ⟨hpend, hmem, hclk, hotp⟩

/-- The same of an update written out. -/
@[simp ↓] theorem Core.Keeps.record {c : Core} {s : State}
    (powered : Bool) (clk : Clocks) (mode : Mode) (transit : Option Transit) (hold : Option HoldReq)
    (trim : TrimSel) (load : Option Load) (pat : PatSt) (ap : NMap Word) (mem : List Host.Cell)
    (bench : NMap BenchSt) (time : TimeSt) (segs : Segs) (looms : NMap Loom) (lanes : NMap Lane) (out : OutSt)
    (chans : NMap Chan) (adcs : NMap Adc) (engines : NMap Engine) (xyStages : NMap (Option XyStage)) (dec : DecSt)
    (fms : NMap Fm) (memc : MemSt) (tally : Tally) (fabric : Fabric) (slow : Slow) (therm : Therm) (host : HostSt)
    (pins : Pins) (captures : NMap Nat) (recent : NMap (Nat × Nat)) (setvAt : NMap Nat)
    (later : NMap (List (Nat × Nat))) (readData : Nat) (outbox : List Out) (freeCtr : Nat)
    (hs : c.Keeps s.core) (hmem : Memory.wf s.mem = true → Memory.wf mem = true) (hclk : s.clk.ok → clk.ok)
    (hotp : s.host.otp.Burnt host.otp) :
    c.Keeps (State.core
      { s with
        powered := powered, clk := clk, mode := mode, transit := transit, hold := hold, trim := trim
        load := load, pat := pat, ap := ap, mem := mem, bench := bench, time := time, segs := segs
        looms := looms, lanes := lanes, out := out, chans := chans, adcs := adcs, engines := engines
        xyStages := xyStages, dec := dec, fms := fms, memc := memc, tally := tally, fabric := fabric
        slow := slow, therm := therm, host := host, pins := pins, captures := captures, recent := recent
        setvAt := setvAt, later := later, readData := readData, outbox := outbox, freeCtr := freeCtr }) :=
  hs.update rfl hmem hclk hotp

/-- What holds of a result, and is kept for each member of a list, holds after the whole list. -/
theorem foldAll_induct {α β : Type} (P : β → Prop) {f : β → α → β} (hf : ∀ b x, P b → P (f b x)) (xs : List α) :
    ∀ b, P b → P (foldAll f b xs) := by
  induction xs with
  | nil => exact fun _ h => h
  | cons x xs ih => exact fun b h => ih _ (hf b x h)

@[simp ↓] theorem Core.Keeps.foldAll {α : Type} {c : Core} {s : State} {f : State → α → State} (h : c.Keeps s.core)
    (hf : ∀ t x, c.Keeps t.core → c.Keeps (f t x).core) (xs : List α) : c.Keeps (foldAll f s xs).core :=
  foldAll_induct (fun t : State => c.Keeps t.core) hf xs s h


@[simp ↓] theorem State.setByte_keeps {c : Core} {s : State} (h : c.Keeps s.core) (a : Nat) (v : Byte) :
    c.Keeps (s.setByte a v).core := 
  h.update rfl (s.setByte_wf a v) id (.refl _)

@[simp ↓] theorem State.setBytes_keeps {c : Core} (vs : List Byte) :
    ∀ {s : State}, c.Keeps s.core → ∀ a : Nat, c.Keeps (s.setBytes a vs).core := by
  induction vs with
  | nil => exact fun h _ => h
  | cons v vs ih => exact fun h a => ih (State.setByte_keeps h a v) (a + 1)

@[simp ↓] theorem State.memStore_keeps {c : Core} {s : State} (h : c.Keeps s.core) (a : Nat) (vs : List Byte) :
    c.Keeps (s.memStore a vs).core := by
  unfold State.memStore
  dsimp only
  simp (maxDischargeDepth := 40) -implicitDefEqProofs [h]

@[simp ↓] theorem State.enter_keeps {c : Core} {s : State} (h : c.Keeps s.core) (m : Mode) (cause : Nat) :
    c.Keeps (s.enter m cause).core := by
  unfold State.enter
  dsimp only
  simp (maxDischargeDepth := 40) -implicitDefEqProofs [h]

theorem Clocks.ok_start {c : Clocks} (h : c.ok) (conv : Bool) : (c.start conv).ok := by
  obtain ⟨h1, h2, h3, h4⟩ := h
  unfold Clocks.start
  split
  · exact ⟨h1, h2, h3, h4⟩
  · next hc => exact ⟨h1, h2, h3, by simpa [hc] using h4⟩

@[simp ↓] theorem State.startClocks_keeps {c : Core} {s : State} (h : c.Keeps s.core) (conv : Bool) :
    c.Keeps (s.startClocks conv).core := h.update rfl id (fun hc => Clocks.ok_start hc conv) (.refl _)

theorem Clocks.ok_stop {c : Clocks} (h : c.ok) : c.stop.ok := by
  obtain ⟨h1, h2, h3, h4⟩ := h
  unfold Clocks.stop
  split
  · split
    · exact ⟨h1, h2, h3, h4⟩
    · next hr => exact ⟨h1, h2, max_lt h3 (Nat.mod_lt _ (by decide)), fun hr' => absurd hr' hr⟩
  · next hc => exact ⟨h1, h2, h3, by simpa [hc] using h4⟩

@[simp ↓] theorem State.stopClocks_keeps {c : Core} {s : State} (h : c.Keeps s.core) : c.Keeps s.stopClocks.core := h.update rfl id (Clocks.ok_stop) (.refl _)

theorem Clocks.ok_align {c : Clocks} (h : c.ok) (hp : c.phRef = 0) : ({ c with aligned := true } : Clocks).ok := by
  obtain ⟨h1, h2, h3, h4⟩ := h
  exact ⟨h1, h2, h3, fun hr => by simpa [hp] using h4 hr⟩

theorem State.align_keeps {c : Core} {s : State} (h : c.Keeps s.core) (hp : s.clk.phRef = 0) : c.Keeps s.align.core :=
  h.update rfl id (fun hc => Clocks.ok_align hc hp) (.refl _)

@[simp ↓] theorem dividerAligned_keeps {c : Core} {s : State} (h : c.Keeps s.core) :
    c.Keeps (dividerAligned s).core := by
  unfold dividerAligned
  dsimp only
  rw [State.core_ite]
  by_cases hp : s.clk.phRef = 0
  · exact .either (State.align_keeps h hp) h
  · simpa [hp, either] using h

@[simp ↓] theorem waveformWrite_keeps {c : Core} {s : State} (h : c.Keeps s.core) (who : Who) (a : Nat) (bytes : List Byte) :
    c.Keeps (waveformWrite who a bytes s).core := by
  unfold waveformWrite
  dsimp only
  simp (maxDischargeDepth := 40) -implicitDefEqProofs [h]

@[simp ↓] theorem shot_keeps {c : Core} {s : State} (h : c.Keeps s.core) (b : Nat) : c.Keeps (shot b s).core := by
  unfold shot
  dsimp only
  split <;> simp (maxDischargeDepth := 40) -implicitDefEqProofs [h]

@[simp ↓] theorem State.writePart_keeps {c : Core} {s : State} (h : c.Keeps s.core) (q : Nat) (r : Rec) :
    c.Keeps (s.writePart q r).core := by
  unfold State.writePart
  dsimp only
  simp (maxDischargeDepth := 40) -implicitDefEqProofs [h]

@[simp ↓] theorem State.tallyStop_keeps {c : Core} {s : State} (h : c.Keeps s.core) : c.Keeps s.tallyStop.core := by
  unfold State.tallyStop
  dsimp only
  refine Core.Keeps.foldAll ?_ (fun t q ht => ?_) _
  · rw [State.core_ite]
    refine .either h (.foldAll h (fun t q ht => ?_) _)
    split
    · split
      · refine .foldAll ht (fun t x ht => ?_) _
        split
        · split
          · exact State.writePart_keeps ht ..
          · exact ht
        · exact ht
      · exact ht
    · exact ht
  · rw [State.setStaged_core]
    refine .foldAll ht (fun t r ht => ?_) _
    simp -implicitDefEqProofs [ht]

@[simp ↓] theorem State.surveyLost_keeps {c : Core} {s : State} (h : c.Keeps s.core) : c.Keeps s.surveyLost.core := by
  unfold State.surveyLost
  dsimp only
  simp (maxDischargeDepth := 40) -implicitDefEqProofs [h]

theorem Otp.burnt_burn (o : Otp) (target : LifeCycle) (hash : Nat) : o.Burnt (o.burn target hash) := by
  cases target <;> constructor <;> simp [Otp.burn]

@[simp ↓] theorem State.tokenCut_keeps {c : Core} {s : State} (h : c.Keeps s.core) : c.Keeps s.tokenCut.core := by
  unfold State.tokenCut
  split
  · dsimp only
    split
    · exact h.update rfl id id (Otp.burnt_burn ..)
    · exact h.update rfl id id (.refl _)
  · exact h

@[simp ↓] theorem State.coreLost_keeps {c : Core} {s : State} (h : c.Keeps s.core) (keep : Nat → Bool) (open_ : Bool) :
    c.Keeps (s.coreLost keep open_).core := by
  have h1 : c.Keeps (s.tokenCut.regsLost keep open_).core := by
    rw [State.regsLost_core]
    exact State.tokenCut_keeps h
  unfold State.coreLost
  dsimp only
  rw [State.core_ite, State.raise_core]
  rw [either_self]
  exact h1.update rfl (fun _ => rfl) id (.refl _)

@[simp ↓] theorem State.commit_keeps {c : Core} {s : State} (h : c.Keeps s.core) (k : LedgerKind) (data : List Nat) :
    c.Keeps (s.commit k data).core := by
  unfold State.commit
  dsimp only
  simp (maxDischargeDepth := 40) -implicitDefEqProofs [h]

@[simp ↓] theorem State.bytesLost_keeps {c : Core} {s : State} (h : c.Keeps s.core) (lost : Nat → Bool) :
    c.Keeps (s.bytesLost lost).core := h.update rfl (s.bytesLost_wf lost) id (.refl _)

@[simp ↓] theorem State.keepLoss_keeps {c : Core} {s : State} (h : c.Keeps s.core) : c.Keeps s.keepLoss.core := by
  unfold State.keepLoss
  dsimp only
  simp (maxDischargeDepth := 40) -implicitDefEqProofs [h]

@[simp ↓] theorem State.become_keeps {c : Core} {s : State} (h : c.Keeps s.core) (m : Mode) (cause : Nat) :
    c.Keeps (s.become m cause).core := by
  unfold State.become
  dsimp only
  simp (maxDischargeDepth := 40) -implicitDefEqProofs [h]

@[simp ↓] theorem State.coresStop_keeps {c : Core} {s : State} (h : c.Keeps s.core) : c.Keeps s.coresStop.core := by
  unfold State.coresStop
  dsimp only
  simp (maxDischargeDepth := 40) -implicitDefEqProofs [h]

@[simp ↓] theorem State.toIdle_keeps {c : Core} {s : State} (h : c.Keeps s.core) (cause : Nat) :
    c.Keeps (s.toIdle cause).core := by
  unfold State.toIdle
  dsimp only
  simp (maxDischargeDepth := 40) -implicitDefEqProofs [h]

@[simp ↓] theorem State.toKeep_keeps {c : Core} {s : State} (h : c.Keeps s.core) : c.Keeps s.toKeep.core := by
  unfold State.toKeep
  dsimp only
  simp (maxDischargeDepth := 40) -implicitDefEqProofs [h]

@[simp ↓] theorem State.memRail_keeps {c : Core} {s : State} (h : c.Keeps s.core) (on : Bool) :
    c.Keeps (s.memRail on).core := by
  unfold State.memRail
  dsimp only
  simp (maxDischargeDepth := 40) -implicitDefEqProofs [h]

@[simp ↓] theorem State.toDormant_keeps {c : Core} {s : State} (h : c.Keeps s.core) : c.Keeps s.toDormant.core := by
  unfold State.toDormant
  dsimp only
  simp (maxDischargeDepth := 40) -implicitDefEqProofs [h]

@[simp ↓] theorem State.trimAbort_keeps {c : Core} {s : State} (h : c.Keeps s.core) (code : Nat) :
    c.Keeps (s.trimAbort code).core := by
  unfold State.trimAbort
  simp (maxDischargeDepth := 40) -implicitDefEqProofs [h]

@[simp ↓] theorem State.toTrim_keeps {c : Core} {s : State} (h : c.Keeps s.core) : c.Keeps s.toTrim.core := by
  unfold State.toTrim
  dsimp only
  simp (maxDischargeDepth := 40) -implicitDefEqProofs [h]

@[simp ↓] theorem State.toService_keeps {c : Core} {s : State} (h : c.Keeps s.core) : c.Keeps s.toService.core := by
  unfold State.toService
  dsimp only
  simp (maxDischargeDepth := 40) -implicitDefEqProofs [h]

@[simp ↓] theorem State.beginTo_keeps {c : Core} {s : State} (h : c.Keeps s.core) (dst : Mode) (kind : TransKind) (ticks : Nat) :
    c.Keeps (s.beginTo dst kind ticks).core := by
  unfold State.beginTo
  simp (maxDischargeDepth := 40) -implicitDefEqProofs [h]

@[simp ↓] theorem State.fastStart_keeps {c : Core} {s : State} (h : c.Keeps s.core) : c.Keeps s.fastStart.core := by
  unfold State.fastStart
  simp (maxDischargeDepth := 40) -implicitDefEqProofs [h]

@[simp ↓] theorem State.beginService_keeps {c : Core} {s : State} (h : c.Keeps s.core) :
    c.Keeps s.beginService.core := by
  unfold State.beginService
  simp (maxDischargeDepth := 40) -implicitDefEqProofs [h]

@[simp ↓] theorem State.beginIdle_keeps {c : Core} {s : State} (h : c.Keeps s.core) : c.Keeps s.beginIdle.core := by
  unfold State.beginIdle
  simp (maxDischargeDepth := 40) -implicitDefEqProofs [h]

@[simp ↓] theorem State.followUp_keeps {c : Core} {s : State} (h : c.Keeps s.core) (f : Option Mode) :
    c.Keeps (s.followUp f).core := by
  unfold State.followUp
  split <;> simp (maxDischargeDepth := 40) -implicitDefEqProofs [h]

@[simp ↓] theorem State.holdNow_keeps {c : Core} {s : State} (h : c.Keeps s.core) (code : Nat) (poison : Option (Nat × Nat)) :
    c.Keeps (s.holdNow code poison).core := by
  unfold State.holdNow
  dsimp only
  split <;> simp (maxDischargeDepth := 40) -implicitDefEqProofs [h]

@[simp ↓] theorem shotBoundary_keeps {c : Core} {s : State} (h : c.Keeps s.core) : c.Keeps (shotBoundary s).core := by
  unfold shotBoundary
  dsimp only
  split <;> simp (maxDischargeDepth := 40) -implicitDefEqProofs [h]

@[simp ↓] theorem startConditionMet_keeps {c : Core} {s : State} (h : c.Keeps s.core) :
    c.Keeps (startConditionMet s).core := by
  unfold startConditionMet
  dsimp only
  simp (maxDischargeDepth := 40) -implicitDefEqProofs [h]

@[simp ↓] theorem State.sendPlan_keeps {c : Core} {s : State} (h : c.Keeps s.core) (p : Plan) (ack : Nat) :
    c.Keeps (s.sendPlan p ack).1.core := by
  refine foldAll_induct (fun a : State × Bool => c.Keeps a.1.core) (fun a d ha => ?_) _ (s, true) h
  dsimp only
  split
  · exact ha
  · split
    · exact Core.Keeps.update (s := a.1.sendOffset d (p.offset d)) (by rwa [State.sendOffset_core]) rfl id id (.refl _)
    · rwa [State.sendOffset_core]

@[simp ↓] theorem State.planSend_keeps {c : Core} {s : State} (h : c.Keeps s.core) (ack : Nat) :
    c.Keeps (s.planSend ack).core := by
  unfold State.planSend
  dsimp only
  simp (maxDischargeDepth := 40) -implicitDefEqProofs [h]

@[simp ↓] theorem State.planTake_keeps {c : Core} {s : State} (h : c.Keeps s.core) : c.Keeps s.planTake.core := by
  unfold State.planTake
  dsimp only
  split <;> simp (maxDischargeDepth := 40) -implicitDefEqProofs [h]

@[simp ↓] theorem State.alertLate_keeps {c : Core} {s : State} (h : c.Keeps s.core) : c.Keeps s.alertLate.core := by
  unfold State.alertLate
  dsimp only
  split <;> simp (maxDischargeDepth := 40) -implicitDefEqProofs [h]

@[simp ↓] theorem State.toArmed_keeps {c : Core} {s : State} (h : c.Keeps s.core) (src : Mode) :
    c.Keeps (s.toArmed src).core := by
  unfold State.toArmed
  dsimp only
  simp (maxDischargeDepth := 40) -implicitDefEqProofs [h]

@[simp ↓] theorem State.pllLockStep_keeps {c : Core} {s : State} (h : c.Keeps s.core) :
    c.Keeps s.pllLockStep.core := by
  unfold State.pllLockStep
  dsimp only
  simp (maxDischargeDepth := 40) -implicitDefEqProofs [h]

@[simp ↓] theorem State.entrySteps_keeps {c : Core} {s : State} (h : c.Keeps s.core) : c.Keeps s.entrySteps.core := by
  unfold State.entrySteps
  simp (maxDischargeDepth := 40) -implicitDefEqProofs [h]

@[simp ↓] theorem State.entryAbort_keeps {c : Core} {s : State} (h : c.Keeps s.core) (t : Transit) (code : Nat) :
    c.Keeps (s.entryAbort t code).core := by
  unfold State.entryAbort
  dsimp only
  simp (maxDischargeDepth := 40) -implicitDefEqProofs [h]

@[simp ↓] theorem State.armedOrShort_keeps {c : Core} {s : State} (h : c.Keeps s.core) (t : Transit) :
    c.Keeps (s.armedOrShort t).core := by
  unfold State.armedOrShort
  dsimp only
  simp (maxDischargeDepth := 40) -implicitDefEqProofs [h]

theorem State.planTake_clk (s : State) : s.planTake.clk = s.clk := by
  unfold State.planTake
  split
  · split <;> rfl
  · rfl

@[simp ↓] theorem armedEntryDone_keeps {c : Core} {s : State} (h : c.Keeps s.core) (ack : Nat) :
    c.Keeps (armedEntryDone ack s).core := by
  unfold armedEntryDone
  split
  · split
    · exact h
    · split
      · simp (maxDischargeDepth := 40) -implicitDefEqProofs [h]
      · split
        · simp (maxDischargeDepth := 40) -implicitDefEqProofs [h]
        · split
          · next hc =>
            refine State.armedOrShort_keeps ?_ _
            rw [State.core_ite]
            refine .either (State.planTake_keeps h) (State.align_keeps (State.planTake_keeps h) ?_)
            simp at hc
            rw [State.planTake_clk]
            exact hc.1.1.1
          · exact h
      · exact h
  · exact h

@[simp ↓] theorem transitionDone_keeps {c : Core} {s : State} (h : c.Keeps s.core) :
    c.Keeps (transitionDone s).core := by
  unfold transitionDone
  split
  · split
    · simp (maxDischargeDepth := 40) -implicitDefEqProofs [h]
    · split <;> simp (maxDischargeDepth := 40) -implicitDefEqProofs [h]
  · simp (maxDischargeDepth := 40) -implicitDefEqProofs [h]

@[simp ↓] theorem trimDone_keeps {c : Core} {s : State} (h : c.Keeps s.core) (cal : List (BitVec 14)) :
    c.Keeps (trimDone cal s).core := by
  unfold trimDone
  dsimp only
  simp (maxDischargeDepth := 40) -implicitDefEqProofs [h]

@[simp ↓] theorem State.holdAsk_keeps {c : Core} {s : State} (h : c.Keeps s.core) (follow : Option Mode) :
    c.Keeps (s.holdAsk follow).core := by
  unfold State.holdAsk
  dsimp only
  simp (maxDischargeDepth := 40) -implicitDefEqProofs [h]

@[simp ↓] theorem State.keepExit_keeps {c : Core} {s : State} (h : c.Keeps s.core) (toArmed : Bool) :
    c.Keeps (s.keepExit toArmed).core := by
  unfold State.keepExit
  simp (maxDischargeDepth := 40) -implicitDefEqProofs [h]

@[simp ↓] theorem modeReqIdle_keeps {c : Core} {s : State} (h : c.Keeps s.core) : c.Keeps (modeReqIdle s).core := by
  unfold modeReqIdle
  split
  · simp (maxDischargeDepth := 40) -implicitDefEqProofs [h]
  · split <;> simp (maxDischargeDepth := 40) -implicitDefEqProofs [h]

@[simp ↓] theorem modeReqKeep_keeps {c : Core} {s : State} (h : c.Keeps s.core) : c.Keeps (modeReqKeep s).core := by
  unfold modeReqKeep
  simp (maxDischargeDepth := 40) -implicitDefEqProofs [h]

@[simp ↓] theorem modeReqDormant_keeps {c : Core} {s : State} (h : c.Keeps s.core) :
    c.Keeps (modeReqDormant s).core := by
  unfold modeReqDormant
  simp (maxDischargeDepth := 40) -implicitDefEqProofs [h]

@[simp ↓] theorem modeReqTrim_keeps {c : Core} {s : State} (h : c.Keeps s.core) (conv skew survey full : Bool) :
    c.Keeps (modeReqTrim conv skew survey full s).core := by
  unfold modeReqTrim
  simp (maxDischargeDepth := 40) -implicitDefEqProofs [h]

@[simp ↓] theorem State.beginArmed_keeps {c : Core} {s : State} (h : c.Keeps s.core) : c.Keeps s.beginArmed.core := by
  unfold State.beginArmed
  split <;> simp (maxDischargeDepth := 40) -implicitDefEqProofs [h]

@[simp ↓] theorem modeReqArmed_keeps {c : Core} {s : State} (h : c.Keeps s.core) : c.Keeps (modeReqArmed s).core := by
  unfold modeReqArmed
  dsimp only
  simp (maxDischargeDepth := 40) -implicitDefEqProofs [h]

@[simp ↓] theorem modeReqHold_keeps {c : Core} {s : State} (h : c.Keeps s.core) : c.Keeps (modeReqHold s).core := by
  unfold modeReqHold
  split
  · simp (maxDischargeDepth := 40) -implicitDefEqProofs [h]
  · split <;> simp (maxDischargeDepth := 40) -implicitDefEqProofs [h]

@[simp ↓] theorem modeReqHoldForce_keeps {c : Core} {s : State} (h : c.Keeps s.core) :
    c.Keeps (modeReqHoldForce s).core := by
  unfold modeReqHoldForce
  split
  · simp (maxDischargeDepth := 40) -implicitDefEqProofs [h]
  · split <;> simp (maxDischargeDepth := 40) -implicitDefEqProofs [h]

@[simp ↓] theorem modeReqService_keeps {c : Core} {s : State} (h : c.Keeps s.core) :
    c.Keeps (modeReqService s).core := by
  unfold modeReqService
  split
  · simp (maxDischargeDepth := 40) -implicitDefEqProofs [h]
  · split <;> simp (maxDischargeDepth := 40) -implicitDefEqProofs [h]

@[simp ↓] theorem State.refLossMode_keeps {c : Core} {s : State} (h : c.Keeps s.core) (cause : Nat) :
    c.Keeps (s.refLossMode cause).core := by
  unfold State.refLossMode
  (repeat' split) <;> simp (maxDischargeDepth := 40) -implicitDefEqProofs [h]

/-- Clocks in order stay so when REFCLK is lost. -/
theorem Clocks.ok_lost {c d : Clocks} (h : c.ok) (hd : d.phRef = c.phRef ∧ d.phAon = c.phAon ∧ d.time = c.time)
    (hr : d.refclk = false) : d.ok := by
  obtain ⟨h1, h2, h3, -⟩ := h
  obtain ⟨d1, d2, d3⟩ := hd
  exact ⟨d1 ▸ h1, d2 ▸ h2, d3 ▸ h3, fun k => absurd k (by simp [hr])⟩

@[simp ↓] theorem State.refLost_keeps {c : Core} {s : State} (h : c.Keeps s.core) (cause : LossCause) :
    c.Keeps (s.refLost cause).core := by
  unfold State.refLost
  refine State.refLossMode_keeps ?_ _
  rw [State.core_ite]
  refine .either ?_ (by simpa only [↓State.pulse_core, ↓State.clear_core, ↓State.setFld_core, ↓State.flagIrq_core] using h)
  refine Core.Keeps.update
    (s := (((s.flagIrq R.TIME_STATUS Fd.TIME_STATUS_REF_LOSS 1).setFld R.TIME_STATUS Fd.TIME_STATUS_LOSS_CAUSE
      (lossCode cause)).clear R.TOP_MODE Fd.TOP_MODE_COHERENT).pulse 345)
    (by simpa only [↓State.pulse_core, ↓State.clear_core, ↓State.setFld_core, ↓State.flagIrq_core] using h)
    rfl id (fun hc => ?_) (.refl _)
  dsimp only
  split
  · exact Clocks.ok_stop (Clocks.ok_lost hc ⟨rfl, rfl, rfl⟩ rfl)
  · exact Clocks.ok_lost hc ⟨rfl, rfl, rfl⟩ rfl

@[simp ↓] theorem refLoss_keeps {c : Core} {s : State} (h : c.Keeps s.core) (cause : LossCause) :
    c.Keeps (refLoss cause s).core := by
  unfold refLoss
  simp (maxDischargeDepth := 40) -implicitDefEqProofs [h]

@[simp ↓] theorem pllLockLoss_keeps {c : Core} {s : State} (h : c.Keeps s.core) (core : Bool) :
    c.Keeps (pllLockLoss core s).core := by
  unfold pllLockLoss
  rw [State.core_ite]
  refine .either h ?_
  dsimp only
  rw [State.core_ite]
  exact .either ((State.refLost_keeps h _).update rfl id id (.refl _)) (State.refLost_keeps h _)

@[simp ↓] theorem State.latchOff_keeps {c : Core} {s : State} (h : c.Keeps s.core) : c.Keeps s.latchOff.core := by
  unfold State.latchOff
  dsimp only
  simp (maxDischargeDepth := 40) -implicitDefEqProofs [h]

@[simp ↓] theorem State.resetCommon_keeps {c : Core} {s : State} (h : c.Keeps s.core) (keep : Nat → Bool) :
    c.Keeps (s.resetCommon keep).core := by
  unfold State.resetCommon
  simp (maxDischargeDepth := 40) -implicitDefEqProofs [h]

@[simp ↓] theorem State.powerOn_keeps {c : Core} {s : State} (h : c.Keeps s.core) (straps : Nat) :
    c.Keeps (s.powerOn straps).core := by
  refine h.update rfl (fun _ => rfl) (fun ⟨h1, h2, _⟩ => ⟨h1, h2, ?_, fun _ => rfl⟩) (.refl _)
  exact Nat.two_pow_pos 64

@[simp ↓] theorem State.supplyOn_keeps {c : Core} {s : State} (h : c.Keeps s.core) (straps : Nat) :
    c.Keeps (s.supplyOn straps).core := by
  unfold State.supplyOn
  dsimp only
  simp (maxDischargeDepth := 40) -implicitDefEqProofs [h]

@[simp ↓] theorem powerOnReset_keeps {c : Core} {s : State} (h : c.Keeps s.core) (vdd : Bool) (straps : Nat) :
    c.Keeps (powerOnReset vdd straps s).core := by
  unfold powerOnReset
  dsimp only
  simp (maxDischargeDepth := 40) -implicitDefEqProofs [h]

@[simp ↓] theorem State.supplyOff_keeps {c : Core} {s : State} (h : c.Keeps s.core) : c.Keeps s.supplyOff.core := by
  unfold State.supplyOff
  dsimp only
  simp (maxDischargeDepth := 40) -implicitDefEqProofs [h]

@[simp ↓] theorem pwrgdLow_keeps {c : Core} {s : State} (h : c.Keeps s.core) : c.Keeps (pwrgdLow s).core := by
  unfold pwrgdLow
  dsimp only
  simp (maxDischargeDepth := 40) -implicitDefEqProofs [h]

@[simp ↓] theorem vddAonRemoved_keeps {c : Core} {s : State} (h : c.Keeps s.core) :
    c.Keeps (vddAonRemoved s).core := by
  unfold vddAonRemoved
  dsimp only
  simp (maxDischargeDepth := 40) -implicitDefEqProofs [h]

@[simp ↓] theorem resetN_keeps {c : Core} {s : State} (h : c.Keeps s.core) (straps : Nat) :
    c.Keeps (resetN straps s).core := by
  unfold resetN
  dsimp only
  simp (maxDischargeDepth := 40) -implicitDefEqProofs [h]

@[simp ↓] theorem State.warm_keeps {c : Core} {s : State} (h : c.Keeps s.core) (cause : Bits) :
    c.Keeps (s.warm cause).core := by
  unfold State.warm
  dsimp only
  simp (maxDischargeDepth := 40) -implicitDefEqProofs [h]

@[simp ↓] theorem warmReset_keeps {c : Core} {s : State} (h : c.Keeps s.core) (byPorter : Bool) :
    c.Keeps (warmReset byPorter s).core := by
  unfold warmReset
  simp (maxDischargeDepth := 40) -implicitDefEqProofs [h]

@[simp ↓] theorem State.boots_keeps {c : Core} {s : State} (h : c.Keeps s.core) : c.Keeps s.boots.core := by
  unfold State.boots
  dsimp only
  simp (maxDischargeDepth := 40) -implicitDefEqProofs [h]

@[simp ↓] theorem bootRequest_keeps {c : Core} {s : State} (h : c.Keeps s.core) : c.Keeps (bootRequest s).core := by
  unfold bootRequest
  split <;> simp (maxDischargeDepth := 40) -implicitDefEqProofs [h]

@[simp ↓] theorem wakeTimer_keeps {c : Core} {s : State} (h : c.Keeps s.core) : c.Keeps (wakeTimer s).core := by
  unfold wakeTimer
  simp (maxDischargeDepth := 40) -implicitDefEqProofs [h]

@[simp ↓] theorem wakeTrig_keeps {c : Core} {s : State} (h : c.Keeps s.core) (line : Nat) :
    c.Keeps (wakeTrig line s).core := by
  unfold wakeTrig
  simp (maxDischargeDepth := 40) -implicitDefEqProofs [h]

@[simp ↓] theorem State.intentCheck_keeps {c : Core} {s : State} (h : c.Keeps s.core) :
    c.Keeps s.intentCheck.core := by
  unfold State.intentCheck
  simp (maxDischargeDepth := 40) -implicitDefEqProofs [h]

@[simp ↓] theorem State.intentFinish_keeps {c : Core} {s : State} (h : c.Keeps s.core) (t : Nat) :
    c.Keeps (s.intentFinish t).core := by
  unfold State.intentFinish
  dsimp only
  simp (maxDischargeDepth := 40) -implicitDefEqProofs [h]

@[simp ↓] theorem firmwareVerified_keeps {c : Core} {s : State} (h : c.Keeps s.core) (alternate : Bool) :
    c.Keeps (firmwareVerified alternate s).core := by
  unfold firmwareVerified
  dsimp only
  rw [State.core_ite]
  refine .either (State.intentFinish_keeps h _) ?_
  rw [State.core_ite]
  refine .either (Core.Keeps.update (State.memRail_keeps (State.startClocks_keeps (State.become_keeps ?_ _ _) _) _)
    rfl id id (.refl _)) h
  rw [State.raise_core]
  exact (State.intentCheck_keeps h).update rfl id id ⟨rfl, rfl, le_rfl, le_rfl, le_max_left .., id, List.suffix_rfl⟩

@[simp ↓] theorem bootFail_keeps {c : Core} {s : State} (h : c.Keeps s.core) : c.Keeps (bootFail s).core := by
  unfold bootFail
  dsimp only
  simp (maxDischargeDepth := 40) -implicitDefEqProofs [h]

@[simp ↓] theorem keepExitDone_keeps {c : Core} {s : State} (h : c.Keeps s.core) : c.Keeps (keepExitDone s).core := by
  unfold keepExitDone
  dsimp only
  (repeat' split) <;> simp (maxDischargeDepth := 40) -implicitDefEqProofs [h]

@[simp ↓] theorem State.shedMode_keeps {c : Core} {s : State} (h : c.Keeps s.core) : c.Keeps s.shedMode.core := by
  unfold State.shedMode
  dsimp only
  (repeat' split) <;> simp (maxDischargeDepth := 40) -implicitDefEqProofs [h]

@[simp ↓] theorem State.convOffMode_keeps {c : Core} {s : State} (h : c.Keeps s.core) :
    c.Keeps s.convOffMode.core := by
  unfold State.convOffMode
  dsimp only
  (repeat' split) <;> simp (maxDischargeDepth := 40) -implicitDefEqProofs [h]

@[simp ↓] theorem State.shedTake_keeps {c : Core} {s : State} (h : c.Keeps s.core) (sensor : Nat) :
    c.Keeps (s.shedTake sensor).core := by
  unfold State.shedTake
  dsimp only
  simp (maxDischargeDepth := 40) -implicitDefEqProofs [h]

@[simp ↓] theorem State.convOffTake_keeps {c : Core} {s : State} (h : c.Keeps s.core) (sensor : Nat) :
    c.Keeps (s.convOffTake sensor).core := by
  unfold State.convOffTake
  dsimp only
  simp (maxDischargeDepth := 40) -implicitDefEqProofs [h]

@[simp ↓] theorem State.latchTake_keeps {c : Core} {s : State} (h : c.Keeps s.core) (sensor cause : Nat) (rise : Int) :
    c.Keeps (s.latchTake sensor cause rise).core := by
  unfold State.latchTake
  dsimp only
  simp (maxDischargeDepth := 40) -implicitDefEqProofs [h]

@[simp ↓] theorem State.thermEnd_keeps {c : Core} {s : State} (h : c.Keeps s.core) : c.Keeps s.thermEnd.core := by
  unfold State.thermEnd
  dsimp only
  simp (maxDischargeDepth := 40) -implicitDefEqProofs [h]

@[simp ↓] theorem State.thermRecord_keeps {c : Core} {s : State} (h : c.Keeps s.core) (ts : List Int) (ds : List (Option Int)) :
    c.Keeps (s.thermRecord ts ds).core := by
  unfold State.thermRecord
  dsimp only
  simp (maxDischargeDepth := 40) -implicitDefEqProofs [h]

@[simp ↓] theorem shedDeadline_keeps {c : Core} {s : State} (h : c.Keeps s.core) : c.Keeps (shedDeadline s).core := by
  unfold shedDeadline
  split <;> simp (maxDischargeDepth := 40) -implicitDefEqProofs [h]

@[simp ↓] theorem latchedEntry_keeps {c : Core} {s : State} (h : c.Keeps s.core) : c.Keeps (latchedEntry s).core := by
  unfold latchedEntry
  dsimp only
  split <;> simp (maxDischargeDepth := 40) -implicitDefEqProofs [h]

@[simp ↓] theorem surveyComplete_keeps {c : Core} {s : State} (h : c.Keeps s.core) (r : SurveyResult) :
    c.Keeps (surveyComplete r s).core := by
  unfold surveyComplete
  dsimp only
  simp (maxDischargeDepth := 40) -implicitDefEqProofs [h]

@[simp ↓] theorem ledgerCompaction_keeps {c : Core} {s : State} (h : c.Keeps s.core) :
    c.Keeps (ledgerCompaction s).core := by
  unfold ledgerCompaction
  dsimp only
  simp (contextual := true) (maxDischargeDepth := 40) -implicitDefEqProofs [h]

@[simp ↓] theorem ledgerRefresh_keeps {c : Core} {s : State} (h : c.Keeps s.core) :
    c.Keeps (ledgerRefresh s).core := by
  unfold ledgerRefresh
  dsimp only
  simp (maxDischargeDepth := 40) -implicitDefEqProofs [h]

@[simp ↓] theorem State.maint_keeps {c : Core} {s : State} (h : c.Keeps s.core) (m : Option Maint) :
    c.Keeps (s.maint m).core := by
  unfold State.maint
  dsimp only
  simp (maxDischargeDepth := 40) -implicitDefEqProofs [h]

@[simp ↓] theorem State.memRecord_keeps {c : Core} {s : State} (h : c.Keeps s.core) (d : Nat) :
    c.Keeps (s.memRecord d).core := by
  unfold State.memRecord
  simp (maxDischargeDepth := 40) -implicitDefEqProofs [h]

@[simp ↓] theorem State.budgetMode_keeps {c : Core} {s : State} (h : c.Keeps s.core) : c.Keeps s.budgetMode.core := by
  unfold State.budgetMode
  dsimp only
  (repeat' split) <;> simp (maxDischargeDepth := 40) -implicitDefEqProofs [h]

@[simp ↓] theorem State.capChanged_keeps {c : Core} {s : State} (h : c.Keeps s.core) : c.Keeps s.capChanged.core := by
  unfold State.capChanged
  dsimp only
  simp (maxDischargeDepth := 40) -implicitDefEqProofs [h]

@[simp ↓] theorem State.slotLost_keeps {c : Core} {s : State} (h : c.Keeps s.core) (slot dev : Nat) :
    c.Keeps (s.slotLost slot dev).core := by
  unfold State.slotLost
  dsimp only
  simp (maxDischargeDepth := 40) -implicitDefEqProofs [h]

@[simp ↓] theorem State.deviceDead_keeps {c : Core} {s : State} (h : c.Keeps s.core) (d : Nat) :
    c.Keeps (s.deviceDead d).core := by
  unfold State.deviceDead
  dsimp only
  simp (maxDischargeDepth := 40) -implicitDefEqProofs [h]

@[simp ↓] theorem retirementStart_keeps {c : Core} {s : State} (h : c.Keeps s.core) :
    c.Keeps (retirementStart s).core := by
  unfold retirementStart
  split <;> simp (maxDischargeDepth := 40) -implicitDefEqProofs [h]

@[simp ↓] theorem migrationDone_keeps {c : Core} {s : State} (h : c.Keeps s.core) :
    c.Keeps (migrationDone s).core := by
  unfold migrationDone
  dsimp only
  split <;> simp (maxDischargeDepth := 40) -implicitDefEqProofs [h]

@[simp ↓] theorem pcieLinkUp_keeps {c : Core} {s : State} (h : c.Keeps s.core) : c.Keeps (pcieLinkUp s).core := by
  unfold pcieLinkUp
  dsimp only
  simp (maxDischargeDepth := 40) -implicitDefEqProofs [h]

@[simp ↓] theorem State.carterPut_keeps {c : Core} {s : State} (h : c.Keeps s.core) (p st : Nat) :
    c.Keeps (s.carterPut p st).core := by
  unfold State.carterPut
  dsimp only
  simp (maxDischargeDepth := 40) -implicitDefEqProofs [h]

@[simp ↓] theorem State.refuseDev_keeps {c : Core} {s : State} (h : c.Keeps s.core) (f : Bits) (port dev : Nat) (parent : Bool) :
    c.Keeps (s.refuseDev f port dev parent).core := by
  unfold State.refuseDev
  dsimp only
  simp (maxDischargeDepth := 40) -implicitDefEqProofs [h]

@[simp ↓] theorem carterAnnounce_keeps {c : Core} {s : State} (h : c.Keeps s.core) (port dev depth : Nat) :
    c.Keeps (carterAnnounce port dev depth s).core := by
  unfold carterAnnounce
  dsimp only
  simp (maxDischargeDepth := 40) -implicitDefEqProofs [h]

@[simp ↓] theorem carterLinkDown_keeps {c : Core} {s : State} (h : c.Keeps s.core) (port : Nat) :
    c.Keeps (carterLinkDown port s).core := by
  unfold carterLinkDown
  dsimp only
  simp (maxDischargeDepth := 40) -implicitDefEqProofs [h]

@[simp ↓] theorem carterLinkUp_keeps {c : Core} {s : State} (h : c.Keeps s.core) (port : Nat) :
    c.Keeps (carterLinkUp port s).core := by
  unfold carterLinkUp
  dsimp only
  simp (maxDischargeDepth := 40) -implicitDefEqProofs [h]

@[simp ↓] theorem State.wdogArm_keeps {c : Core} {s : State} (h : c.Keeps s.core) : c.Keeps s.wdogArm.core := by
  unfold State.wdogArm
  dsimp only
  simp (maxDischargeDepth := 40) -implicitDefEqProofs [h]

@[simp ↓] theorem coreImageLoaded_keeps {c : Core} {s : State} (h : c.Keeps s.core) (a b : Signer) :
    c.Keeps (coreImageLoaded a b s).core := by
  unfold coreImageLoaded
  dsimp only
  (repeat' split) <;> simp (maxDischargeDepth := 40) -implicitDefEqProofs [h]

@[simp ↓] theorem coreHold_keeps {c : Core} {s : State} (h : c.Keeps s.core) : c.Keeps (coreHold s).core := by
  unfold coreHold
  simp (maxDischargeDepth := 40) -implicitDefEqProofs [h]

@[simp ↓] theorem watchdogKick_keeps {c : Core} {s : State} (h : c.Keeps s.core) : c.Keeps (watchdogKick s).core := by
  unfold watchdogKick
  simp (maxDischargeDepth := 40) -implicitDefEqProofs [h]

@[simp ↓] theorem watchdogFired_keeps {c : Core} {s : State} (h : c.Keeps s.core) :
    c.Keeps (watchdogFired s).core := by
  unfold watchdogFired
  dsimp only
  simp (maxDischargeDepth := 40) -implicitDefEqProofs [h]

@[simp ↓] theorem State.porterStart_keeps {c : Core} {s : State} (h : c.Keeps s.core) (j : PorterJob) :
    c.Keeps (s.porterStart j).core := by
  unfold State.porterStart
  dsimp only
  simp (maxDischargeDepth := 40) -implicitDefEqProofs [h]

@[simp ↓] theorem ident_keeps {c : Core} {s : State} (h : c.Keeps s.core) : c.Keeps (ident s).core := by
  unfold ident
  simp (maxDischargeDepth := 40) -implicitDefEqProofs [h]

@[simp ↓] theorem ledgerKey_keeps {c : Core} {s : State} (h : c.Keeps s.core) : c.Keeps (ledgerKey s).core := by
  unfold ledgerKey
  simp (maxDischargeDepth := 40) -implicitDefEqProofs [h]

@[simp ↓] theorem ledgerRead_keeps {c : Core} {s : State} (h : c.Keeps s.core) (seq : Nat) :
    c.Keeps (ledgerRead seq s).core := by
  unfold ledgerRead
  simp (maxDischargeDepth := 40) -implicitDefEqProofs [h]

@[simp ↓] theorem provKey_keeps {c : Core} {s : State} (h : c.Keeps s.core) : c.Keeps (provKey s).core := by
  unfold provKey
  simp (maxDischargeDepth := 40) -implicitDefEqProofs [h]

@[simp ↓] theorem fwWrite_keeps {c : Core} {s : State} (h : c.Keeps s.core) (p : FwPart) :
    c.Keeps (fwWrite p s).core := by
  unfold fwWrite
  simp (maxDischargeDepth := 40) -implicitDefEqProofs [h]

@[simp ↓] theorem lcToken_keeps {c : Core} {s : State} (h : c.Keeps s.core) (t : Token) :
    c.Keeps (lcToken t s).core := by
  unfold lcToken
  dsimp only
  simp (maxDischargeDepth := 40) -implicitDefEqProofs [h]

@[simp ↓] theorem State.porterEnd_keeps {c : Core} {s : State} (h : c.Keeps s.core) (result olen : Nat) :
    c.Keeps (s.porterEnd result olen).core := by
  unfold State.porterEnd
  dsimp only
  simp (maxDischargeDepth := 40) -implicitDefEqProofs [h]

@[simp ↓] theorem State.fwPart_keeps {c : Core} {s : State} (h : c.Keeps s.core) (bytes : Nat) (last verifies : Bool) (version : Nat) :
    c.Keeps (s.fwPart bytes last verifies version).core := by
  unfold State.fwPart
  dsimp only
  simp (maxDischargeDepth := 40) -implicitDefEqProofs [h]

@[simp ↓] theorem mgmtPacket_keeps {c : Core} {s : State} (h : c.Keeps s.core) (code : Nat) :
    c.Keeps (mgmtPacket code s).core := by
  unfold mgmtPacket
  dsimp only
  (repeat' split) <;> simp (maxDischargeDepth := 40) -implicitDefEqProofs [h]

@[simp ↓] theorem railTrip_keeps {c : Core} {s : State} (h : c.Keeps s.core) (n : Nat) :
    c.Keeps (railTrip n s).core := by
  unfold railTrip
  dsimp only
  simp (maxDischargeDepth := 40) -implicitDefEqProofs [h]

@[simp ↓] theorem railRecover_keeps {c : Core} {s : State} (h : c.Keeps s.core) (straps : Nat) :
    c.Keeps (railRecover straps s).core := by
  unfold railRecover
  dsimp only
  simp (maxDischargeDepth := 40) -implicitDefEqProofs [h]

@[simp ↓] theorem pmbAlert_keeps {c : Core} {s : State} (h : c.Keeps s.core) (faulty : Bool) :
    c.Keeps (pmbAlert faulty s).core := by
  unfold pmbAlert
  dsimp only
  simp (maxDischargeDepth := 40) -implicitDefEqProofs [h]

@[simp ↓] theorem State.memZero_keeps {c : Core} {s : State} (h : c.Keeps s.core) (a n : Nat) :
    c.Keeps (s.memZero a n).core := h.update rfl (s.memZero_wf a n) id (.refl _)

@[simp ↓] theorem State.loadStart_keeps {c : Core} {s : State} (h : c.Keeps s.core) (overlay : Bool) :
    c.Keeps (s.loadStart overlay).core := by
  unfold State.loadStart
  dsimp only
  simp (maxDischargeDepth := 40) -implicitDefEqProofs [h]

@[simp ↓] theorem patternLoadStart_keeps {c : Core} {s : State} (h : c.Keeps s.core) :
    c.Keeps (patternLoadStart s).core := by
  unfold patternLoadStart
  simp (maxDischargeDepth := 40) -implicitDefEqProofs [h]

@[simp ↓] theorem overlayStart_keeps {c : Core} {s : State} (h : c.Keeps s.core) : c.Keeps (overlayStart s).core := by
  unfold overlayStart
  simp (maxDischargeDepth := 40) -implicitDefEqProofs [h]

@[simp ↓] theorem State.loadEnd_keeps {c : Core} {s : State} (h : c.Keeps s.core) (l : Load) (wipe : Bool) (err sec : Nat) :
    c.Keeps (s.loadEnd l wipe err sec).core := by
  unfold State.loadEnd
  dsimp only
  simp (maxDischargeDepth := 40) -implicitDefEqProofs [h]

@[simp ↓] theorem patternAbort_keeps {c : Core} {s : State} (h : c.Keeps s.core) : c.Keeps (patternAbort s).core := by
  unfold patternAbort
  split <;> simp (maxDischargeDepth := 40) -implicitDefEqProofs [h]

@[simp ↓] theorem State.benchResetOne_keeps {c : Core} {s : State} (h : c.Keeps s.core) (b : Nat) :
    c.Keeps (s.benchResetOne b).core := by
  unfold State.benchResetOne
  (repeat' split) <;> simp (maxDischargeDepth := 40) -implicitDefEqProofs [h]

@[simp ↓] theorem benchReset_keeps {c : Core} {s : State} (h : c.Keeps s.core) (mask : Nat) :
    c.Keeps (benchReset mask s).core := by
  unfold benchReset
  simp (contextual := true) (maxDischargeDepth := 40) -implicitDefEqProofs [h]

@[simp ↓] theorem State.modeReqWrite_keeps {c : Core} {s : State} (h : c.Keeps s.core) (v : Nat) :
    c.Keeps (s.modeReqWrite v).core := by
  unfold State.modeReqWrite
  split <;> simp (maxDischargeDepth := 40) -implicitDefEqProofs [h]

@[simp ↓] theorem State.resetWrite_keeps {c : Core} {s : State} (h : c.Keeps s.core) (who : Who) (v : Nat) :
    c.Keeps (s.resetWrite who v).core := by
  unfold State.resetWrite
  simp (maxDischargeDepth := 40) -implicitDefEqProofs [h]

@[simp ↓] theorem State.patCtlWrite_keeps {c : Core} {s : State} (h : c.Keeps s.core) (v : Nat) :
    c.Keeps (s.patCtlWrite v).core := by
  unfold State.patCtlWrite
  dsimp only
  simp (maxDischargeDepth := 40) -implicitDefEqProofs [h]

@[simp ↓] theorem State.coreCtlWrite_keeps {c : Core} {s : State} (h : c.Keeps s.core) (d : RegDesc) (who : Who) (v : Nat) :
    c.Keeps (s.coreCtlWrite d who v).core := by
  unfold State.coreCtlWrite
  dsimp only
  simp (maxDischargeDepth := 40) -implicitDefEqProofs [h]

@[simp ↓] theorem State.topWrite_keeps {c : Core} {s : State} (h : c.Keeps s.core) (who : Who) (d : RegDesc) (off v : Nat) :
    c.Keeps (s.topWrite who d off v).core := by
  unfold State.topWrite
  simp (maxDischargeDepth := 40) -implicitDefEqProofs [h]

@[simp ↓] theorem State.porterCmd_keeps {c : Core} {s : State} (h : c.Keeps s.core) (v : Nat) :
    c.Keeps (s.porterCmd v).core := by
  unfold State.porterCmd
  split <;> simp (maxDischargeDepth := 40) -implicitDefEqProofs [h]

@[simp ↓] theorem State.porterWrite_keeps {c : Core} {s : State} (h : c.Keeps s.core) (who : Who) (d : RegDesc) (off v : Nat) :
    c.Keeps (s.porterWrite who d off v).core := by
  unfold State.porterWrite
  simp (maxDischargeDepth := 40) -implicitDefEqProofs [h]

@[simp ↓] theorem State.writeReg_keeps {c : Core} {s : State} (h : c.Keeps s.core) (who : Who) (view v : Nat) :
    c.Keeps (s.writeReg who view v).core := by
  unfold State.writeReg
  dsimp only
  split <;> simp (maxDischargeDepth := 40) -implicitDefEqProofs [h]

@[simp ↓] theorem State.writeRegs_keeps {c : Core} {s : State} (h : c.Keeps s.core) (who : Who) (view size v : Nat) :
    c.Keeps (s.writeRegs who view size v).core := by
  unfold State.writeRegs
  split
  · simp (maxDischargeDepth := 40) -implicitDefEqProofs [h]
  · split <;> simp (maxDischargeDepth := 40) -implicitDefEqProofs [h]

@[simp ↓] theorem apertureWrite_keeps {c : Core} {s : State} (h : c.Keeps s.core) (who : Who) (off size v : Nat) :
    c.Keeps (apertureWrite who off size v s).core := by
  unfold apertureWrite
  simp (maxDischargeDepth := 40) -implicitDefEqProofs [h]

@[simp ↓] theorem registerWrite_keeps {c : Core} {s : State} (h : c.Keeps s.core) (who : Who) (dev off size v : Nat) :
    c.Keeps (registerWrite who dev off size v s).core := by
  unfold registerWrite
  simp (maxDischargeDepth := 40) -implicitDefEqProofs [h]


/-! ### Pattern loads -/

@[simp ↓] theorem State.biasLoadSec_core (s t : State) (x : Image) (n : Nat) : (s.biasLoadSec t x n).core = t.core := by
  unfold State.biasLoadSec
  dsimp only
  simp -implicitDefEqProofs

@[simp ↓] theorem State.slowLoad_core (s t : State) (x : Image) : (s.slowLoad t x).core = t.core := by
  unfold State.slowLoad
  dsimp only
  simp -implicitDefEqProofs

@[simp ↓] theorem State.streamsLoad_core (s t : State) : (s.streamsLoad t).core = t.core := by
  unfold State.streamsLoad
  simp -implicitDefEqProofs

@[simp ↓] theorem State.enginesLoad_core (s t : State) (x : Image) (b : Nat) : (s.enginesLoad t x b).core = t.core := by
  unfold State.enginesLoad
  simp -implicitDefEqProofs

@[simp ↓] theorem State.loadEffects_core (s t : State) (x : Image) : (s.loadEffects t x).core = t.core := by
  unfold State.loadEffects
  dsimp only
  simp -implicitDefEqProofs

@[simp ↓] theorem State.fullDone_core (s t : State) (x : Image) : (s.fullDone t x).core = t.core := by
  unfold State.fullDone
  dsimp only
  simp -implicitDefEqProofs

@[simp ↓] theorem State.overlayDone_core (s t : State) (x : Image) : (s.overlayDone t x).core = t.core := by
  unfold State.overlayDone
  dsimp only
  simp -implicitDefEqProofs

@[simp ↓] theorem State.loadRun_keeps {c : Core} {t : State} (h : c.Keeps t.core) (s : State) (r : Run) :
    c.Keeps (s.loadRun t r).core := by
  unfold State.loadRun
  simp (maxDischargeDepth := 40) -implicitDefEqProofs [h]

theorem State.staged__keeps {c : Core} {s : State} (h : c.Keeps s.core) (x : Image) : c.Keeps (s.staged_ x).core := by
  unfold State.staged_
  dsimp only
  refine List.foldlRecOn (motive := fun t : State => c.Keeps t.core) _ _ ?_
    (fun t ht e _ => State.loadRun_keeps ht s e.2)
  split <;> simp -implicitDefEqProofs [h]

theorem State.decrypted_keeps {d : Core} {s : State} (h : d.Keeps s.core) (x : Image) (c : CheckResult) :
    d.Keeps (s.decrypted x c).core := by
  refine .foldAll h (fun t e ht => ?_) _
  split
  · exact State.setBytes_keeps _ ht _
  · exact ht

theorem State.samplesWiped_keeps {c : Core} {t : State} (h : c.Keeps t.core) (s : State) (x : Image) :
    c.Keeps (s.samplesWiped t x).core := by
  refine .foldAll h (fun t e ht => ?_) _
  simp -implicitDefEqProofs [ht]

theorem State.loadFailed_keeps {c : Core} {t : State} (h : c.Keeps t.core) (s : State) (x : Image) (l : Load)
    (wipe : Bool) (i : Nat) : c.Keeps (s.loadFailed t x l wipe i).core := by
  unfold State.loadFailed
  dsimp only
  simp (maxDischargeDepth := 40) -implicitDefEqProofs [h, State.samplesWiped_keeps]

@[simp ↓] theorem checkPhaseDone_keeps {d : Core} {s : State} (h : d.Keeps s.core) (c : CheckResult) :
    d.Keeps (checkPhaseDone c s).core := by
  have hd := fun x => State.decrypted_keeps h x c
  unfold checkPhaseDone
  split
  · exact h
  · dsimp only
    simp (maxDischargeDepth := 40) -implicitDefEqProofs [h, hd]

@[simp ↓] theorem applyPhaseDone_keeps {c : Core} {s : State} (h : c.Keeps s.core) (fails : Option Nat) :
    c.Keeps (applyPhaseDone fails s).core := by
  have hs := fun x => State.staged__keeps h x
  unfold applyPhaseDone
  split
  · exact h
  · rw [State.core_ite]
    refine .either h (.foldAll ?_ (fun t b ht => by rwa [State.benchResetBegin_core]) _)
    split
    · exact State.loadFailed_keeps (hs _) ..
    · refine State.loadEnd_keeps ?_ ..
      simp -implicitDefEqProofs [hs]

/-! ### The Tally writer -/

theorem State.movePart_keeps {c : Core} {s : State} (h : c.Keeps s.core) (q : Nat) : c.Keeps (s.movePart q).1.core := by
  fun_cases State.movePart with
  | case1 => exact h
  | case2 => exact State.writePart_keeps h ..
  | case3 => exact Core.Keeps.record (hs := h) (hmem := id) (hclk := id) (hotp := .refl _) ..
  | case4 =>
    exact Core.Keeps.record (hs := State.memStore_keeps h _ _) (hmem := id) (hclk := id) (hotp := .refl _) ..
  | case5 =>
    refine State.writePart_keeps ?_ ..
    exact Core.Keeps.record (hs := by rw [State.setStaged_core]; exact h) (hmem := id) (hclk := id) (hotp := .refl _) ..

theorem State.slotPart_keeps {c : Core} {s : State} (h : c.Keeps s.core) (devNow : Nat) :
    c.Keeps (s.slotPart devNow).1.core := by
  unfold State.slotPart
  split
  · exact h
  · next q moved _ =>
    have hm := State.movePart_keeps h q
    split <;> next heq => rw [heq] at hm; simpa -implicitDefEqProofs using hm

@[simp ↓] theorem writerSlot_keeps {c : Core} {s : State} (h : c.Keeps s.core) : c.Keeps (writerSlot s).core := by
  have h1 := State.slotPart_keeps h 0
  unfold writerSlot
  rw [State.core_ite]
  refine .either h ?_
  generalize s.slotPart 0 = p at h1
  obtain ⟨t, m1, d1⟩ := p
  have h2 : c.Keeps (if m1 then t.slotPart (bit d1) else (t, false, false)).1.core := by
    rw [State.core_fst_ite]
    exact .either (State.slotPart_keeps h1 _) h1
  dsimp only
  revert h2
  generalize (if m1 then t.slotPart (bit d1) else (t, false, false)) = p
  intro h2
  obtain ⟨u, m2, d2⟩ := p
  refine Core.Keeps.foldAll ?_ (fun t i ht => by rwa [State.finalGap_core]) _
  exact Core.Keeps.update (s := u) h2 rfl id id (.refl _)

/-! ### The other operations with several ways to end -/

@[simp ↓] theorem wipeComplete_keeps {c : Core} {s : State} (h : c.Keeps s.core) : c.Keeps (wipeComplete s).core := by
  unfold wipeComplete
  split
  · rw [State.core_ite]
    refine .either (State.beginTo_keeps ?_ ..) h
    exact Core.Keeps.update (s := s.clear R.TOP_MODE Fd.TOP_MODE_SANITISE_OPEN) (by rwa [State.clear_core])
      rfl (fun _ => rfl) id (.refl _)
  · exact h

theorem State.lifeChange_keeps {c : Core} {s : State} (h : c.Keeps s.core) (target : LifeCycle) (hash : Nat) (key : Bool) :
    c.Keeps (s.lifeChange target hash key).core := by
  unfold State.lifeChange
  refine State.warm_keeps (State.porterEnd_keeps (State.commit_keeps ?_ ..) ..) _
  exact h.update rfl id id (Otp.burnt_burn ..)

@[simp ↓] theorem porterCommandDone_keeps {c : Core} {s : State} (h : c.Keeps s.core) : c.Keeps (porterCommandDone s).core := by
  unfold porterCommandDone
  split
  case h_5 => split <;> simp (maxDischargeDepth := 40) -implicitDefEqProofs [h]
  all_goals simp (maxDischargeDepth := 40) -implicitDefEqProofs [h, State.lifeChange_keeps]

@[simp ↓] theorem State.retrainAll_keeps {c : Core} {s : State} (h : c.Keeps s.core) : c.Keeps s.retrainAll.core :=
  State.maint_keeps h _

@[simp ↓] theorem retrainStart_keeps {c : Core} {s : State} (h : c.Keeps s.core) : c.Keeps (retrainStart s).core := by
  unfold retrainStart
  simp (maxDischargeDepth := 40) -implicitDefEqProofs [h]

@[simp ↓] theorem State.trained_keeps {c : Core} {s : State} (h : c.Keeps s.core) : c.Keeps s.trained.core := by
  unfold State.trained
  simp (maxDischargeDepth := 40) -implicitDefEqProofs [h]

theorem State.ladder_keeps {c : Core} {s : State} (h : c.Keeps s.core) (d : Nat) : c.Keeps (s.ladder d).core := by
  unfold State.ladder
  dsimp only
  rw [State.core_ite]
  refine .either ?_ ?_
  · simp (maxDischargeDepth := 40) -implicitDefEqProofs [h]
  · split <;> simp (maxDischargeDepth := 40) -implicitDefEqProofs [h]

@[simp ↓] theorem retrainDone_keeps {c : Core} {s : State} (h : c.Keeps s.core) (failing : Option Nat) :
    c.Keeps (retrainDone failing s).core := by
  unfold retrainDone
  split
  · rw [State.core_ite]
    refine .either h ?_
    split <;> simp (maxDischargeDepth := 40) -implicitDefEqProofs [h, State.ladder_keeps]
  · exact h
  · split <;> simp (maxDischargeDepth := 40) -implicitDefEqProofs [h, State.ladder_keeps]

@[simp ↓] theorem thermalSample_keeps {c : Core} {s : State} (h : c.Keeps s.core) (temps : List Int) (ds : List (Option Int)) :
    c.Keeps (thermalSample temps ds s).core := by
  unfold thermalSample
  rw [State.core_ite]
  refine .either h ?_
  extract_lets ts first fails rises shedR latchR hi hiShed s1 src s2 s3 raw tj hot act
  have h1 : c.Keeps s1.core := State.thermRecord_keeps h ts ds
  rw [State.core_ite]
  refine .either h1 ?_
  clear_value s1
  have h2 : c.Keeps s2.core := by
    simp only [s2, State.core_ite]
    exact .either (h1.update rfl id id (.refl _)) h1
  clear_value s2
  have h3 : c.Keeps s3.core := by rwa [State.thermFlags_core]
  clear_value s3
  have hact : c.Keeps act.core := by
    simp only [act]
    clear_value latchR
    rw [State.core_ite]
    refine .either (State.latchTake_keeps h3 ..) ?_
    cases latchR
    · simp (maxDischargeDepth := 40) -implicitDefEqProofs [h3]
    · exact State.latchTake_keeps h3 ..
  clear_value act
  exact hact.update rfl id id (.refl _)

end Sys2Proof.Machine

namespace Sys2Proof

/-- The commands that act on the core: all others leave it as it is. -/
def Instr.actsOnCore : Instr → Bool
  | .powerOnReset _ _ | .pwrgdLow | .resetN _ | .warmReset _ | .benchReset _ _ | .bootRequest | .wakeTimer
  | .wakeTrig _ | .firmwareVerified _ | .bootFail | .wipeComplete | .modeReqIdle | .modeReqKeep | .modeReqDormant
  | .modeReqTrim _ _ _ _ | .modeReqArmed | .modeReqHold | .modeReqHoldForce | .modeReqService | .armedEntryDone _
  | .transitionDone | .keepExitDone | .trimDone _ | .startConditionMet | .shotBoundary | .patternLoadStart
  | .overlayStart | .patternAbort | .checkPhaseDone _ | .applyPhaseDone _ | .epochLoad | .refLoss _ | .pllLockLoss _
  | .refclkReturn | .dividerAligned | .waveformWrite _ _ _ | .shot _ | .retrainStart | .retrainDone _
  | .retirementStart | .migrationDone | .writerSlot | .thermalSample _ _ | .shedDeadline | .latchedEntry
  | .surveyComplete _ | .ledgerCompaction | .ledgerRefresh | .pcieLinkUp | .carterAnnounce _ _ _ | .carterLinkDown _
  | .carterLinkUp _ | .coreImageLoaded _ | .coreHold | .watchdogKick | .watchdogFired | .mgmtPacket _ | .ident
  | .lcToken _ | .ledgerKey | .ledgerRead _ | .fwWrite _ | .provKey | .porterCommandDone | .railTrip _
  | .railRecover _ | .pmbAlert _ | .registerWrite _ _ _ _ _ | .vddAonRemoved => true
  | _ => false

end Sys2Proof

namespace Sys2Proof.Machine

-- One proof at a time: elaborated side by side, the proofs of so long a text need too much memory.
set_option Elab.async false

/-! ### What every command keeps of the core -/

theorem core_of_whenPowered {s t : State} {f : State → State} (h : whenPowered s f = .next t)
    (hf : (f s).core = s.core) : t.core = s.core := by
  obtain ⟨-, rfl⟩ := whenPowered_next.1 h
  exact hf

/-- The commands that do not act on the core leave it as it is. -/
theorem exec_core {c : Instr} {s t : State} (h : exec c s = .next t) (hc : c.actsOnCore = false) : t.core = s.core := by
  cases c
  all_goals first
    | exact Bool.noConfusion (show true = false from hc)
    | (refine core_of_whenPowered h ?_; simp -implicitDefEqProofs)

theorem keeps_of_whenPowered {s t : State} {f : State → State} (h : whenPowered s f = .next t)
    (hf : s.core.Keeps (f s).core) : s.core.Keeps t.core := by
  obtain ⟨-, rfl⟩ := whenPowered_next.1 h
  exact hf

theorem execPowerOnReset_keeps {s t : State} {vddRose : Bool} {straps : Fin 64}
    (h : execPowerOnReset vddRose straps s = .next t) : s.core.Keeps t.core := by
  unfold execPowerOnReset at h
  split at h
  · rw [← Host.Outcome.next.inj h]
    exact powerOnReset_keeps (.refl _) ..
  · exact keeps_of_whenPowered h (powerOnReset_keeps (.refl _) ..)

/-- Every command but the two that set TIME keeps queue, memory, clocks and OTP in order. -/
theorem exec_keeps {c : Instr} {s t : State} (h : exec c s = .next t) (hl : c ≠ .epochLoad) (hr : c ≠ .refclkReturn) :
    s.core.Keeps t.core := by
  by_cases hc : c.actsOnCore = true
  · cases c
    case epochLoad => exact absurd rfl hl
    case refclkReturn => exact absurd rfl hr
    case powerOnReset => exact execPowerOnReset_keeps h
    all_goals first
      | exact Bool.noConfusion (show false = true from hc)
      | (refine keeps_of_whenPowered h ?_; simp (maxDischargeDepth := 40) -implicitDefEqProofs)
  · rw [exec_core h (by simpa using hc)]
    exact .refl _

/-- A load of TIME by an Epoch changes of the core only TIME, at a REFCLK edge. -/
theorem epochLoad_core (s : State) : (epochLoad s).core = s.core ∨ (s.clk.refclk = true ∧ s.clk.phRef = 0 ∧
    (epochLoad s).core = { s.core with clk := { s.clk with time := s.reg64 R.TIME_EPOCH_LOAD_LO } }) := by
  unfold epochLoad
  split
  · exact .inl rfl
  · next c rest _ =>
    split
    · exact .inl rfl
    · next hn =>
      simp only [Bool.or_eq_true, decide_eq_true_eq, Bool.not_eq_true', bne_iff_ne, not_or, not_lt, Bool.not_eq_false,
        ne_eq, Decidable.not_not] at hn
      obtain ⟨⟨-, href⟩, hph⟩ := hn
      extract_lets src u arrival before clk loaded cleared coh time ready
      have hu : u.core = s.core := rfl
      have hload : u.reg64 R.TIME_EPOCH_LOAD_LO = s.reg64 R.TIME_EPOCH_LOAD_LO := rfl
      clear_value u
      have hready : ready.core = { u.core with clk := { u.clk with time := u.reg64 R.TIME_EPOCH_LOAD_LO } } := by
        have hcoh : ready.core = coh.core := rfl
        rw [hcoh]
        simp only [coh, cleared, ↓State.core_ite, ↓State.raise_core, ↓State.clear_core, either_self]
        rfl
      clear_value ready
      have hclk : u.clk = s.clk := congrArg Core.clk hu
      split
      · refine .inr ⟨href, hph, ?_⟩
        rw [State.epochMark_core, State.epochSeen_core, hready, hu, hload, hclk]
      · left
        split
        · have hslip := State.epochSlip_core u
          generalize u.epochSlip = p at hslip ⊢
          obtain ⟨off, v⟩ := p
          dsimp only at hslip ⊢
          rw [State.epochMark_core, State.epochSeen_core, State.setReg_core, State.flagIrq_core, hslip, hu]
        · rw [State.epochMark_core, State.epochSeen_core, hu]

/-- The return of REFCLK changes of the core only the clocks. -/
theorem refclkReturn_core (s : State) : ∃ k, (refclkReturn s).core = { s.core with clk := k } := by
  unfold refclkReturn
  split
  · exact ⟨s.clk, rfl⟩
  · exact ⟨_, rfl⟩

/-- A tick changes of the core only the clocks. -/
theorem State.idleTick_core (s : State) : s.idleTick.core = { s.core with clk := s.clk.tick } := by
  have h := (((s.chainTick.readTick.fetchTick.panicTick_core).trans (State.fetchTick_core _)).trans
    (State.readTick_core _)).trans (State.chainTick_core _)
  unfold State.idleTick
  generalize s.chainTick.readTick.fetchTick.panicTick = u at h ⊢
  have hu : ({ u with clk := u.clk.tick } : State).core = { s.core with clk := s.clk.tick } := by
    rw [← h]
    have : s.clk = u.clk := congrArg Core.clk h.symm
    rw [this]
    rfl
  dsimp only
  simp only [↓State.nopsTick_core, ↓State.shotsTick_core, ↓State.tdcLatch_core, ↓State.core_ite, ↓State.fabricStart_core,
    ↓State.convsTick_core, ↓State.ballsTick_core, either_self]
  exact hu


/-! ### Every command completes (O4) -/

theorem execPowerOnReset_on {s : State} (h : s.powered = true) (vddRose : Bool) (straps : Fin 64) :
    ∃ t, execPowerOnReset vddRose straps s = .next t := by
  unfold execPowerOnReset
  split
  · exact ⟨_, rfl⟩
  · exact ⟨_, whenPowered_on h _⟩

theorem exec_on {s : State} (h : s.powered = true) (c : Instr) : ∃ t, exec c s = .next t := by
  cases c
  case powerOnReset => exact execPowerOnReset_on h ..
  all_goals exact ⟨_, whenPowered_on h _⟩

theorem exec_off {s : State} (h : s.powered = false) {c : Instr} (hc : ∀ v x, c ≠ .powerOnReset v x) :
    exec c s = .fault .unpowered := by
  cases c
  case powerOnReset v x => exact absurd rfl (hc v x)
  all_goals exact whenPowered_off h _

theorem refclkReturn_of_exec {s t : State} (h : exec .refclkReturn s = .next t) : refclkReturn s = t :=
  (whenPowered_next.1 h).2

theorem epochLoad_of_exec {s t : State} (h : exec .epochLoad s = .next t) : epochLoad s = t :=
  (whenPowered_next.1 h).2

/-- Every command keeps the core as `Core.Keeps` says, but for the clocks where it sets TIME. -/
theorem exec_keeps_but_clk {c : Instr} {s t : State} (h : exec c s = .next t) :
    s.core.Keeps { t.core with clk := s.clk } := by
  have hcore (k : Clocks) (e : t.core = { s.core with clk := k }) : s.core.Keeps { t.core with clk := s.clk } := by
    rw [e]
    exact .refl _
  by_cases hl : c = .epochLoad
  · subst hl
    rw [← epochLoad_of_exec h] at hcore ⊢
    rcases epochLoad_core s with e | ⟨-, -, e⟩
    · exact hcore _ e
    · exact hcore _ e
  by_cases hr : c = .refclkReturn
  · subst hr
    rw [← refclkReturn_of_exec h] at hcore ⊢
    obtain ⟨k, e⟩ := refclkReturn_core s
    exact hcore k e
  obtain ⟨hp, hm, -, ho⟩ := exec_keeps h hl hr
  exact ⟨hp, hm, id, ho⟩

/-- Settles O4: every meaning acts on a powered device and on no other, and leaves the queue. -/
theorem everyCommand : Obligations.EveryCommand :=
  ⟨fun c _ h => exec_on h c, fun _ _ h hc => exec_off h hc, fun _ _ _ h => (exec_keeps_but_clk h).pending⟩

/-! ### The canonical form of memory (O5) -/

theorem State.core_mem (s : State) : s.core.mem = s.mem := rfl

theorem State.core_clk (s : State) : s.core.clk = s.clk := rfl

theorem State.idleTick_mem (s : State) : s.idleTick.mem = s.mem := by
  rw [← State.core_mem, State.idleTick_core]
  rfl

theorem State.idleTick_clk (s : State) : s.idleTick.clk = s.clk.tick := by
  rw [← State.core_clk, State.idleTick_core]

/-- Settles O5: every command keeps the form, and a tick leaves memory as it is. -/
theorem memoryFormKept : Obligations.MemoryFormKept := by
  intro s t hm h
  match hq : s.pending with
  | [] =>
    rw [step_nil s hq] at h
    rw [← Host.Outcome.next.inj h]
    split
    · rw [State.idleTick_mem]
      exact hm
    · exact hm
  | c :: rest =>
    rw [step_cons s c rest hq] at h
    exact (exec_keeps_but_clk h).mem hm

/-! ### One-time programmable bits (O6) -/

/-- Settles O6. -/
theorem otpOnlyBurnt : Obligations.OtpOnlyBurnt := by
  intro c s t h
  obtain ⟨h1, h2, h3, h4, h5, h6, h7⟩ := (exec_keeps_but_clk h).otp
  exact ⟨h1, h2, h3, h4, h5, h6, h7⟩

/-! ### The clock invariant (O20) -/

theorem timeAdd_lt (t n : Nat) : timeAdd t n < 2 ^ 64 := Nat.mod_lt _ (Nat.two_pow_pos 64)

theorem timeAdd_mod {t n : Nat} (h : t + n < 2 ^ 64) : timeAdd t n % 30 = (t + n) % 30 :=
  congrArg (· % 30) (Nat.mod_eq_of_lt h)

theorem snap30_lt (t : Nat) : snap30 t < 2 ^ 64 := Nat.mod_lt _ (Nat.two_pow_pos 64)

theorem snap30_mod {t : Nat} (h : t + 30 < 2 ^ 64) : snap30 t % 30 = 0 := by
  have hlt : (t / 30 + 1) * 30 < timeMod := by
    unfold timeMod
    omega
  rw [snap30, Nat.mod_eq_of_lt hlt, Nat.mul_mod_left]

theorem Clocks.tick_phRef (c : Clocks) : c.tick.phRef = (c.phRef + 1) % 30 := by
  unfold Clocks.tick
  dsimp only
  split_ifs <;> rfl

theorem Clocks.tick_phAon (c : Clocks) : c.tick.phAon = (c.phAon + 1) % 120 := by
  unfold Clocks.tick
  dsimp only
  split_ifs <;> rfl

theorem Clocks.tick_refclk (c : Clocks) : c.tick.refclk = c.refclk := by
  unfold Clocks.tick
  dsimp only
  split_ifs <;> rfl

theorem Clocks.tick_time_lt {c : Clocks} (h : c.time < 2 ^ 64) : c.tick.time < 2 ^ 64 := by
  unfold Clocks.tick
  dsimp only
  split_ifs <;> simp only [h, snap30_lt, timeAdd_lt]

/-- TIME after a tick with REFCLK present: on the grid of the edges. -/
theorem Clocks.tick_time_mod {c : Clocks} (hp : c.phRef < 30) (ht : c.time + 30 < 2 ^ 64) (hr : c.refclk = true)
    (h : c.time % 30 = if c.core && c.aligned then c.phRef else 0) :
    c.tick.time % 30 = if c.tick.core && c.tick.aligned then c.tick.phRef else 0 := by
  have h1 : timeAdd c.time 1 % 30 = (c.time + 1) % 30 := timeAdd_mod (by omega)
  have h30 : timeAdd c.time 30 % 30 = (c.time + 30) % 30 := timeAdd_mod (by omega)
  have hs : snap30 c.time % 30 = 0 := snap30_mod ht
  rw [Clocks.tick_phRef]
  unfold Clocks.tick
  generalize timeAdd c.time 1 = t1, timeAdd c.time 30 = t30, snap30 c.time = ts at *
  rcases Nat.lt_or_ge c.phRef 29 with hlt | hge
  · have he : (c.phRef + 1) % 30 = c.phRef + 1 := Nat.mod_eq_of_lt (by omega)
    simp only [hr, he]
    cases hrun : c.core && c.aligned
    · simp [hrun] at h ⊢
      omega
    · simp [hrun] at h ⊢
      omega
  · have he : (c.phRef + 1) % 30 = 0 := by omega
    simp only [hr, he]
    cases hrun : c.core && c.aligned <;> cases c.snapPend <;> cases c.stopPend <;> simp [hrun] at h ⊢ <;> omega

theorem Clocks.ok_tick {c : Clocks} (h : c.ok) (ht : c.time + 30 < 2 ^ 64) : c.tick.ok := by
  obtain ⟨h1, h2, h3, h4⟩ := h
  refine ⟨?_, ?_, Clocks.tick_time_lt h3, fun hr => ?_⟩
  · rw [Clocks.tick_phRef]
    exact Nat.mod_lt _ (by decide)
  · rw [Clocks.tick_phAon]
    exact Nat.mod_lt _ (by decide)
  · rw [Clocks.tick_refclk] at hr
    exact Clocks.tick_time_mod h1 ht hr (h4 hr)

theorem refclkReturn_ok {s : State} (h : s.clk.ok) (ht : s.clk.time + 30 < 2 ^ 64) : (refclkReturn s).clk.ok := by
  unfold refclkReturn
  split
  · exact h
  · obtain ⟨h1, h2, h3, h4⟩ := h
    exact ⟨Nat.succ_pos _, h2, snap30_lt _, fun _ => by simpa using snap30_mod ht⟩

theorem two_words_lt (a b : Nat) : a < 2 ^ 32 → b < 2 ^ 32 → a + b * 2 ^ 32 < 2 ^ 64 := by omega

theorem State.reg64_lt (s : State) (off : Nat) : s.reg64 off < 2 ^ 64 :=
  two_words_lt _ _ (s.reg off).isLt (s.reg (off + 4)).isLt

theorem Clocks.ok_loaded {c : Clocks} {n : Nat} (h : c.ok) (hp : c.phRef = 0) (hlt : n < 2 ^ 64) (hn : n % 30 = 0) :
    ({ c with time := n } : Clocks).ok := by
  obtain ⟨h1, h2, -, -⟩ := h
  exact ⟨h1, h2, hlt, fun _ => by simp [hp, hn]⟩

theorem Clocks.ok_of_core {s : State} {d : Core} (h : s.core = d) (hd : d.clk.ok) : s.clk.ok := by
  rwa [← State.core_clk, h]

/-- A load of TIME keeps the clocks in order where it loads a multiple of 30 (R90). -/
theorem epochLoad_ok {s : State} (h : s.clk.ok) (hl : s.reg64 R.TIME_EPOCH_LOAD_LO % 30 = 0) :
    (epochLoad s).clk.ok := by
  rcases epochLoad_core s with e | ⟨-, hp, e⟩
  · exact Clocks.ok_of_core e h
  · exact Clocks.ok_of_core e (Clocks.ok_loaded h hp (s.reg64_lt _) hl)

theorem exec_ok {c : Instr} {s t : State} (h : exec c s = .next t) (hc : s.clk.ok) (ht : s.clk.time + 30 < 2 ^ 64)
    (hl : s.reg64 R.TIME_EPOCH_LOAD_LO % 30 = 0) : t.clk.ok := by
  by_cases h1 : c = .epochLoad
  · subst h1
    exact epochLoad_of_exec h ▸ epochLoad_ok hc hl
  by_cases h2 : c = .refclkReturn
  · subst h2
    exact refclkReturn_of_exec h ▸ refclkReturn_ok hc ht
  exact (exec_keeps h h1 h2).clk hc

/-- Settles O20: commands and ticks keep the clocks in order. -/
theorem clockInvariantKept : Obligations.ClockInvariantKept := by
  intro s t hc ht hl h
  match hq : s.pending with
  | [] =>
    rw [step_nil s hq] at h
    rw [← Host.Outcome.next.inj h]
    split
    · rw [State.idleTick_clk]
      exact Clocks.ok_tick hc ht
    · exact hc
  | c :: rest =>
    rw [step_cons s c rest hq] at h
    exact exec_ok h hc ht hl


/-! ### What no tick changes but the core (O2) -/

/-- TRIM in progress and the slow side: what a tick leaves of the rest of the state. -/
structure Aside where
  trim : TrimSel
  slow : Slow

def State.aside (s : State) : Aside := ⟨s.trim, s.slow⟩

/-- An update of other fields leaves TRIM in progress and the slow side. -/
@[simp ↓] theorem State.aside_update (s : State)
    (pending : List Instr) (powered : Bool) (clk : Clocks) (mode : Mode) (transit : Option Transit)
    (hold : Option HoldReq) (load : Option Load) (pat : PatSt) (ap : NMap Word) (mem : List Host.Cell)
    (bench : NMap BenchSt) (time : TimeSt) (segs : Segs) (looms : NMap Loom) (lanes : NMap Lane) (out : OutSt)
    (chans : NMap Chan) (adcs : NMap Adc) (engines : NMap Engine) (xyStages : NMap (Option XyStage)) (dec : DecSt)
    (fms : NMap Fm) (memc : MemSt) (tally : Tally) (fabric : Fabric) (therm : Therm) (host : HostSt) (pins : Pins)
    (captures : NMap Nat) (recent : NMap (Nat × Nat)) (setvAt : NMap Nat) (later : NMap (List (Nat × Nat)))
    (readData : Nat) (outbox : List Out) (freeCtr : Nat) :
    State.aside
      { s with
        pending := pending, powered := powered, clk := clk, mode := mode, transit := transit, hold := hold
        load := load, pat := pat, ap := ap, mem := mem, bench := bench, time := time, segs := segs
        looms := looms, lanes := lanes, out := out, chans := chans, adcs := adcs, engines := engines
        xyStages := xyStages, dec := dec, fms := fms, memc := memc, tally := tally, fabric := fabric
        therm := therm, host := host, pins := pins, captures := captures, recent := recent, setvAt := setvAt
        later := later, readData := readData, outbox := outbox, freeCtr := freeCtr } = s.aside :=
  rfl

@[simp ↓] theorem State.aside_ite (c : Prop) [Decidable c] (a b : State) :
    (if c then a else b).aside = either c a.aside b.aside := apply_ite State.aside c a b

@[simp ↓] theorem foldAll_aside {α : Type} {f : State → α → State} (h : ∀ s x, (f s x).aside = s.aside) (s : State)
    (xs : List α) : (foldAll f s xs).aside = s.aside :=
  foldAll_keeps State.aside h xs s

@[simp ↓] theorem State.setReg_aside (s : State) (off : Nat) (v : Word) : (s.setReg off v).aside = s.aside := rfl

@[simp ↓] theorem State.setFld_aside (s : State) (off : Nat) (f : Bits) (v : Nat) :
    (s.setFld off f v).aside = s.aside := rfl

@[simp ↓] theorem State.raise_aside (s : State) (off : Nat) (f : Bits) : (s.raise off f).aside = s.aside := rfl

@[simp ↓] theorem State.orFld_aside (s : State) (off : Nat) (f : Bits) (m : Nat) :
    (s.orFld off f m).aside = s.aside := rfl

@[simp ↓] theorem State.satAdd_aside (s : State) (off : Nat) (f : Bits) (n : Nat) :
    (s.satAdd off f n).aside = s.aside := rfl

@[simp ↓] theorem State.onBench_aside (s : State) (b : Nat) (f : BenchSt → BenchSt) :
    (s.onBench b f).aside = s.aside := rfl

@[simp ↓] theorem State.onLoom_aside (s : State) (b : Nat) (f : Loom → Loom) : (s.onLoom b f).aside = s.aside := rfl

@[simp ↓] theorem State.onChan_aside (s : State) (b c : Nat) (f : Chan → Chan) : (s.onChan b c f).aside = s.aside := rfl

@[simp ↓] theorem State.onEng_aside (s : State) (b e : Nat) (f : Engine → Engine) : (s.onEng b e f).aside = s.aside := rfl

@[simp ↓] theorem State.onFm_aside (s : State) (b : Nat) (f : Fm → Fm) : (s.onFm b f).aside = s.aside := rfl

@[simp ↓] theorem State.onStream_aside (s : State) (i : Nat) (f : Stream → Stream) :
    (s.onStream i f).aside = s.aside := rfl

@[simp ↓] theorem State.setStaged_aside (s : State) (q : Nat) (rs : List Rec) : (s.setStaged q rs).aside = s.aside := rfl

@[simp ↓] theorem State.onConv_aside (s : State) (b c : Nat) (f : Conv → Conv) : (s.onConv b c f).aside = s.aside := rfl

@[simp ↓] theorem State.onTone_aside (s : State) (b u : Nat) (f : Tone → Tone) : (s.onTone b u f).aside = s.aside := rfl

@[simp ↓] theorem State.emit_aside (s : State) (o : Out) : (s.emit o).aside = s.aside := rfl

@[simp ↓] theorem State.irq_aside (s : State) (k : Nat) : (s.irq k).aside = s.aside := by
  unfold State.irq
  dsimp only
  simp -implicitDefEqProofs

@[simp ↓] theorem State.flagIrq_aside (s : State) (off : Nat) (f : Bits) (k : Nat) :
    (s.flagIrq off f k).aside = s.aside := by
  unfold State.flagIrq
  simp -implicitDefEqProofs

@[simp ↓] theorem State.benchEvent_aside (s : State) (b : Nat) (f : Bits) : (s.benchEvent b f).aside = s.aside := by
  unfold State.benchEvent
  simp -implicitDefEqProofs

@[simp ↓] theorem State.breach_aside (s : State) (f : Bits) : (s.breach f).aside = s.aside := rfl

@[simp ↓] theorem State.pulse_aside (s : State) (line : Nat) : (s.pulse line).aside = s.aside := by
  unfold State.pulse
  dsimp only
  simp -implicitDefEqProofs

@[simp ↓] theorem State.fmTrap_aside (s : State) (b v : Nat) : (s.fmTrap b v).aside = s.aside := by
  unfold State.fmTrap
  simp -implicitDefEqProofs

@[simp ↓] theorem State.dropRec_aside (s : State) (st seq : Nat) : (s.dropRec st seq).aside = s.aside := by
  unfold State.dropRec
  dsimp only
  simp -implicitDefEqProofs

@[simp ↓] theorem State.offer_aside (s : State) (st src typ len time : Nat) (pay : List (Nat × Nat × Nat)) :
    (s.offer st src typ len time pay).aside = s.aside := by
  unfold State.offer
  dsimp only
  simp -implicitDefEqProofs

@[simp ↓] theorem State.shotPoisoned_aside (s : State) (b : Nat) : (s.shotPoisoned b).aside = s.aside := by
  unfold State.shotPoisoned
  dsimp only
  simp -implicitDefEqProofs

@[simp ↓] theorem State.poison_aside (s : State) (b cause detail : Nat) : (s.poison b cause detail).aside = s.aside := by
  unfold State.poison
  dsimp only
  simp -implicitDefEqProofs

@[simp ↓] theorem State.onWin_aside (s : State) (b c ser : Nat) (f : Win → Win) :
    (s.onWin b c ser f).aside = s.aside := by
  unfold State.onWin
  simp -implicitDefEqProofs

@[simp ↓] theorem State.engFlag_aside (s : State) (b e : Nat) (f : Bits) : (s.engFlag b e f).aside = s.aside := by
  unfold State.engFlag
  simp -implicitDefEqProofs

@[simp ↓] theorem State.answerDue_aside (s : State) (b c ser : Nat) (lost : Bool) :
    (s.answerDue b c ser lost).aside = s.aside := by
  unfold State.answerDue
  simp -implicitDefEqProofs

@[simp ↓] theorem State.engStop_aside (s : State) (b e : Nat) (st : EngSt) : (s.engStop b e st).aside = s.aside := by
  unfold State.engStop
  dsimp only
  simp -implicitDefEqProofs

@[simp ↓] theorem State.engFault_aside (s : State) (b e cause pc : Nat) : (s.engFault b e cause pc).aside = s.aside := by
  unfold State.engFault
  dsimp only
  simp -implicitDefEqProofs

@[simp ↓] theorem State.pcCheck_aside (s : State) (b e : Nat) : (s.pcCheck b e).aside = s.aside := by
  unfold State.pcCheck
  simp -implicitDefEqProofs

@[simp ↓] theorem State.nopPass_aside (s : State) (b e : Nat) : (s.nopPass b e).aside = s.aside := by
  unfold State.nopPass
  dsimp only
  simp -implicitDefEqProofs

@[simp ↓] theorem State.nopsTick_aside (s : State) : s.nopsTick.aside = s.aside := by
  unfold State.nopsTick
  simp -implicitDefEqProofs

@[simp ↓] theorem State.fabricStart_aside (s : State) : s.fabricStart.aside = s.aside := by
  unfold State.fabricStart
  dsimp only
  simp -implicitDefEqProofs

@[simp ↓] theorem State.tdcLatch_aside (s : State) : s.tdcLatch.aside = s.aside := by
  unfold State.tdcLatch
  split <;> simp -implicitDefEqProofs

@[simp ↓] theorem State.countShort_aside (s : State) (b l voice : Nat) (p : Play) :
    (s.countShort b l voice p).aside = s.aside := by
  unfold State.countShort
  dsimp only
  simp -implicitDefEqProofs

@[simp ↓] theorem State.onWindow_aside (s : State) (b v : Nat) (f : Window → Window) :
    (s.onWindow b v f).aside = s.aside := by
  unfold State.onWindow
  simp -implicitDefEqProofs

@[simp ↓] theorem State.windowRequest_aside (s : State) (b v : Nat) : (s.windowRequest b v).aside = s.aside := by
  unfold State.windowRequest
  split <;> simp -implicitDefEqProofs

@[simp ↓] theorem State.requestsDue_aside (s : State) (b v x3 : Nat) : (s.requestsDue b v x3).aside = s.aside := by
  fun_induction State.requestsDue <;> simp_all -implicitDefEqProofs

@[simp ↓] theorem State.panicEnd_aside (s : State) (b v : Nat) : (s.panicEnd b v).aside = s.aside := by
  unfold State.panicEnd
  dsimp only
  simp -implicitDefEqProofs

@[simp ↓] theorem State.panicsOver_aside (s : State) (b : Nat) : (s.panicsOver b).aside = s.aside := by
  unfold State.panicsOver
  simp -implicitDefEqProofs

@[simp ↓] theorem State.bandCheck_aside (s : State) (b u f fw : Nat) : (s.bandCheck b u f fw).aside = s.aside := by
  unfold State.bandCheck
  dsimp only
  simp -implicitDefEqProofs

@[simp ↓] theorem State.pipePut_aside (s : State) (i : Nat) (codes : List Int) :
    (s.pipePut i codes).aside = s.aside := by
  unfold State.pipePut
  dsimp only
  simp -implicitDefEqProofs

@[simp ↓] theorem State.satCount_aside (s : State) (reg : Nat) (flag cnt : Bits) (n : Nat) :
    (s.satCount reg flag cnt n).aside = s.aside := by
  unfold State.satCount
  simp -implicitDefEqProofs

@[simp ↓] theorem State.convTick_aside (s : State) (b c : Nat) (live : List (Nat × List Cx)) :
    (s.convTick b c live).aside = s.aside := by
  unfold State.convTick
  dsimp only
  simp -implicitDefEqProofs

@[simp ↓] theorem State.mutedTick_aside (s : State) (b : Nat) (live : List (Nat × List Cx)) :
    (s.mutedTick b live).aside = s.aside := by
  unfold State.mutedTick
  simp -implicitDefEqProofs

@[simp ↓] theorem State.bandTick_aside (s : State) (b : Nat) : (s.bandTick b).aside = s.aside := by
  refine foldAll_aside (fun s u => ?_) s _
  split
  · split <;> simp -implicitDefEqProofs
  · rfl

@[simp ↓] theorem State.fluxTick_aside (s : State) (b k : Nat) : (s.fluxTick b k).aside = s.aside := by
  unfold State.fluxTick
  dsimp only
  simp -implicitDefEqProofs

@[simp ↓] theorem State.shortTick_aside (s : State) (b l : Nat) : (s.shortTick b l).aside = s.aside := by
  refine foldAll_aside (fun s v => ?_) s _
  split <;> simp -implicitDefEqProofs

@[simp ↓] theorem State.benchChain_aside (s : State) (b : Nat) : (s.benchChain b).aside = s.aside := by
  unfold State.benchChain
  dsimp only
  simp -implicitDefEqProofs

@[simp ↓] theorem State.chainTick_aside (s : State) : s.chainTick.aside = s.aside := by
  unfold State.chainTick
  simp -implicitDefEqProofs

@[simp ↓] theorem State.ballsTick_aside (s : State) : s.ballsTick.aside = s.aside := by
  unfold State.ballsTick
  dsimp only
  simp -implicitDefEqProofs

@[simp ↓] theorem State.thetaTick_aside (s : State) (b c : Nat) (w : Win) : (s.thetaTick b c w).aside = s.aside := by
  unfold State.thetaTick
  dsimp only
  simp -implicitDefEqProofs

@[simp ↓] theorem State.readTick_aside (s : State) : s.readTick.aside = s.aside := by
  unfold State.readTick
  simp -implicitDefEqProofs

@[simp ↓] theorem State.shotTick_aside (s : State) (b : Nat) : (s.shotTick b).aside = s.aside := by
  unfold State.shotTick
  dsimp only
  simp -implicitDefEqProofs

@[simp ↓] theorem State.fetchTick_aside (s : State) : s.fetchTick.aside = s.aside := by
  unfold State.fetchTick
  simp -implicitDefEqProofs

@[simp ↓] theorem State.shotsTick_aside (s : State) : s.shotsTick.aside = s.aside := by
  unfold State.shotsTick
  simp -implicitDefEqProofs

@[simp ↓] theorem State.convsTick_aside (s : State) : s.convsTick.aside = s.aside := by
  unfold State.convsTick
  dsimp only
  simp -implicitDefEqProofs

@[simp ↓] theorem State.panicTick_aside (s : State) : s.panicTick.aside = s.aside := by
  unfold State.panicTick
  simp -implicitDefEqProofs

theorem State.idleTick_aside (s : State) : s.idleTick.aside = s.aside := by
  have h := (((s.chainTick.readTick.fetchTick.panicTick_aside).trans (State.fetchTick_aside _)).trans
    (State.readTick_aside _)).trans (State.chainTick_aside _)
  unfold State.idleTick
  generalize s.chainTick.readTick.fetchTick.panicTick = u at h ⊢
  dsimp only
  simp only [↓State.nopsTick_aside, ↓State.shotsTick_aside, ↓State.tdcLatch_aside, ↓State.aside_ite,
    ↓State.fabricStart_aside, ↓State.convsTick_aside, ↓State.ballsTick_aside, ↓State.aside_update, either_self]
  exact h

theorem State.core_parts {s t : State} {k : Clocks} (h : t.core = { s.core with clk := k }) :
    t.pending = s.pending ∧ t.clk = k ∧ t.mode = s.mode ∧ t.transit = s.transit ∧ t.hold = s.hold ∧ t.load = s.load ∧
      t.mem = s.mem ∧ t.therm = s.therm ∧ t.host = s.host ∧ t.pins = s.pins := by
  simp only [State.core, Core.mk.injEq] at h
  obtain ⟨hpend, -, hclk, hmode, htransit, hhold, hload, -, hmem, htherm, hhost, hpins⟩ := h
  exact ⟨hpend, hclk, hmode, htransit, hhold, hload, hmem, htherm, hhost, hpins⟩

theorem State.aside_parts {s t : State} (h : t.aside = s.aside) : t.trim = s.trim ∧ t.slow = s.slow := by
  simpa only [State.aside, Aside.mk.injEq] using h

theorem Clocks.tick_now (c : Clocks) : c.tick.now = c.now + 1 := by
  unfold Clocks.tick
  dsimp only
  split_ifs <;> rfl

/-- Without a pending snap TIME counts ticks of an aligned core clock. -/
theorem Clocks.tick_time_aligned {c : Clocks} (hs : c.snapPend = false) (hc : c.core = true) (ha : c.aligned = true) :
    c.tick.time = (c.time + 1) % 2 ^ 64 := by
  simp only [Clocks.tick, hs, hc, ha, Bool.and_false, Bool.false_eq_true, if_false, Bool.and_self, if_true]
  split_ifs <;> rfl

/-- Without an aligned core clock TIME counts REFCLK edges. -/
theorem Clocks.tick_time_edges {c : Clocks} (hs : c.snapPend = false) (hc : c.core = false ∨ c.aligned = false)
    (hr : c.refclk = true) : c.tick.time = if c.tick.phRef = 0 then (c.time + 30) % 2 ^ 64 else c.time := by
  have hrun : (c.core && c.aligned) = false := by rcases hc with h | h <;> simp [h]
  rw [Clocks.tick_phRef]
  simp only [Clocks.tick, hs, hrun, hr, Bool.and_false, Bool.false_eq_true, if_false, if_true]
  split_ifs <;> rfl

/-- A stop that waits on an aligned core clock is made at a REFCLK edge and not before. -/
theorem Clocks.tick_stop {c : Clocks} (hs : c.snapPend = false) (hc : c.core = true) (ha : c.aligned = true)
    (hp : c.stopPend = true) (hr : c.refclk = true) :
    (c.tick.phRef = 0 → c.tick.core = false ∧ c.tick.conv = false ∧ c.tick.stopPend = false) ∧
    (c.tick.phRef ≠ 0 → c.tick.core = true ∧ c.tick.conv = c.conv ∧ c.tick.stopPend = true) := by
  rw [Clocks.tick_phRef]
  by_cases he : (c.phRef + 1) % 30 = 0 <;> simp [Clocks.tick, hs, hc, ha, hp, hr, he]

/-- Settles O2. -/
theorem idleTick : Obligations.IdleTick := by
  refine ⟨fun s hq hp => ?_, fun s hq hp => ?_, fun c => ?_⟩
  · rw [step_nil s hq]
    simp [hp]
  · obtain ⟨hpend, hclk, hmode, htransit, hhold, hload, hmem, htherm, hhost, hpins⟩ := State.core_parts s.idleTick_core
    obtain ⟨htrim, hslow⟩ := State.aside_parts s.idleTick_aside
    rw [step_nil s hq, if_pos hp]
    exact ⟨_, rfl, hclk, hmode, htransit, hload, hhold, htrim, hmem, hslow, htherm, hpins, hhost, hpend.trans hq⟩
  · exact ⟨c.tick_now, c.tick_phRef, c.tick_phAon, c.tick_refclk, Clocks.tick_time_aligned, Clocks.tick_time_edges,
      Clocks.tick_stop⟩

/-- Settles O1. -/
theorem stepRunsFront : Obligations.StepRunsFront :=
  fun c rest s => step_cons { s with pending := c :: rest } c rest rfl

/-- Settles O3. -/
theorem resetState : Obligations.ResetState := by
  refine ⟨rfl, rfl, rfl, rfl, rfl, rfl, rfl, rfl, rfl, fun _ => rfl, fun _ _ => rfl, fun _ _ => rfl, fun _ => rfl, rfl, rfl,
    ?_⟩
  exact ⟨by decide, by decide, by decide, fun _ => by decide⟩


end Sys2Proof.Machine
end

section
/-!
The stage the device is on: power, mode, and the transition, load, HOLD or maintenance in progress. LATCHED is a stage that
no command but the removal of VDD_AON leaves (O7); RUN is left only for HOLD, by a reset, a loss of supply or LATCH (O14).
-/
namespace Sys2Proof.Machine

-- One proof at a time: elaborated side by side, the proofs of so long a text need too much memory.
set_option Elab.async false

structure Stage where
  powered : Bool
  mode : Mode
  transit : Option Transit
  load : Option Load
  hold : Option HoldReq
  maint : Option Maint
  thermN : Bool

/-- The stage of a core. -/
def Core.stage (c : Core) : Stage := ⟨c.powered, c.mode, c.transit, c.load, c.hold, c.maint, c.therm.thermN⟩

@[simp ↓] theorem Core.stage_either (c : Prop) [Decidable c] (a b : Core) :
    (either c a b).stage = either c a.stage b.stage := apply_ite Core.stage c a b

/-- What the stage is of a state of which the other fields were changed. -/
@[simp ↓] theorem State.stage_update (s : State)
    (pending : List Instr) (clk : Clocks) (trim : TrimSel) (pat : PatSt) (ap : NMap Word) (mem : List Host.Cell)
    (bench : NMap BenchSt) (time : TimeSt) (segs : Segs) (looms : NMap Loom) (lanes : NMap Lane) (out : OutSt)
    (chans : NMap Chan) (adcs : NMap Adc) (engines : NMap Engine) (xyStages : NMap (Option XyStage)) (dec : DecSt)
    (fms : NMap Fm) (memc : MemSt) (tally : Tally) (fabric : Fabric) (slow : Slow) (therm : Therm) (host : HostSt)
    (pins : Pins) (captures : NMap Nat) (recent : NMap (Nat × Nat)) (setvAt : NMap Nat)
    (later : NMap (List (Nat × Nat))) (readData : Nat) (outbox : List Out) (freeCtr : Nat)
    (hmaint : memc.maint = s.memc.maint) (htherm : therm.thermN = s.therm.thermN) :
    (State.core
      { s with
        pending := pending, clk := clk, trim := trim, pat := pat, ap := ap, mem := mem, bench := bench
        time := time, segs := segs, looms := looms, lanes := lanes, out := out, chans := chans, adcs := adcs
        engines := engines, xyStages := xyStages, dec := dec, fms := fms, memc := memc, tally := tally
        fabric := fabric, slow := slow, therm := therm, host := host, pins := pins, captures := captures
        recent := recent, setvAt := setvAt, later := later, readData := readData, outbox := outbox
        freeCtr := freeCtr }).stage = s.core.stage := by
  simp [Core.stage, State.core, hmaint, htherm]

@[simp ↓] theorem foldAll_stage {α : Type} {f : State → α → State} (h : ∀ s x, (f s x).core.stage = s.core.stage)
    (s : State) (xs : List α) : (foldAll f s xs).core.stage = s.core.stage :=
  foldAll_keeps (fun s => s.core.stage) h xs s


@[simp ↓] theorem State.setByte_stage (s : State) (a : Nat) (v : Byte) :
    (s.setByte a v).core.stage = s.core.stage := rfl

@[simp ↓] theorem State.setBytes_stage (vs : List Byte) (s : State) (a : Nat) :
    (s.setBytes a vs).core.stage = s.core.stage := by
  induction vs generalizing s a with
  | nil => rfl
  | cons v vs ih => exact (ih _ _).trans (s.setByte_stage a v)

@[simp ↓] theorem State.memStore_stage (s : State) (a : Nat) (vs : List Byte) :
    (s.memStore a vs).core.stage = s.core.stage := by
  unfold State.memStore
  dsimp only
  simp -implicitDefEqProofs

@[simp ↓] theorem State.startClocks_stage (s : State) (conv : Bool) :
    (s.startClocks conv).core.stage = s.core.stage := rfl

@[simp ↓] theorem State.stopClocks_stage (s : State) : s.stopClocks.core.stage = s.core.stage := rfl

@[simp ↓] theorem State.align_stage (s : State) : s.align.core.stage = s.core.stage := rfl

@[simp ↓] theorem dividerAligned_stage (s : State) : (dividerAligned s).core.stage = s.core.stage := by
  unfold dividerAligned
  dsimp only
  simp -implicitDefEqProofs

@[simp ↓] theorem waveformWrite_stage (who : Who) (a : Nat) (bytes : List Byte) (s : State) :
    (waveformWrite who a bytes s).core.stage = s.core.stage := by
  unfold waveformWrite
  dsimp only
  simp -implicitDefEqProofs

@[simp ↓] theorem State.writePart_stage (s : State) (q : Nat) (r : Rec) :
    (s.writePart q r).core.stage = s.core.stage := by
  unfold State.writePart
  dsimp only
  simp -implicitDefEqProofs

@[simp ↓] theorem State.movePart_stage (s : State) (q : Nat) : (s.movePart q).1.core.stage = s.core.stage := by
  fun_cases State.movePart with
  | case1 => rfl
  | case2 => exact State.writePart_stage ..
  | case3 => exact State.stage_update (hmaint := rfl) (htherm := rfl) ..
  | case4 => exact (State.stage_update (hmaint := rfl) (htherm := rfl) ..).trans (State.memStore_stage ..)
  | case5 =>
    rw [State.writePart_stage]
    exact (State.stage_update (hmaint := rfl) (htherm := rfl) ..).trans (by rw [State.setStaged_core])

@[simp ↓] theorem State.tallyStop_stage (s : State) : s.tallyStop.core.stage = s.core.stage := by
  unfold State.tallyStop
  dsimp only
  rw [foldAll_stage (fun t q => ?_)]
  · rw [State.core_ite, Core.stage_either, foldAll_stage (fun t q => ?_), either_self]
    split
    · split
      · refine foldAll_stage (fun t x => ?_) t _
        split
        · split
          · exact State.writePart_stage ..
          · rfl
        · rfl
      · rfl
    · rfl
  · rw [State.setStaged_core, foldAll_stage (fun t r => ?_)]
    simp -implicitDefEqProofs

@[simp ↓] theorem State.surveyLost_stage (s : State) : s.surveyLost.core.stage = s.core.stage := by
  unfold State.surveyLost
  dsimp only
  simp -implicitDefEqProofs

@[simp ↓] theorem State.tokenCut_stage (s : State) : s.tokenCut.core.stage = s.core.stage := by
  unfold State.tokenCut
  dsimp only
  split <;> simp -implicitDefEqProofs

@[simp ↓] theorem State.commit_stage (s : State) (k : LedgerKind) (data : List Nat) :
    (s.commit k data).core.stage = s.core.stage := by
  unfold State.commit
  dsimp only
  simp -implicitDefEqProofs

@[simp ↓] theorem State.bytesLost_stage (s : State) (lost : Nat → Bool) :
    (s.bytesLost lost).core.stage = s.core.stage := rfl

@[simp ↓] theorem State.keepLoss_stage (s : State) : s.keepLoss.core.stage = s.core.stage := by
  unfold State.keepLoss
  dsimp only
  simp -implicitDefEqProofs

@[simp ↓] theorem State.coresStop_stage (s : State) : s.coresStop.core.stage = s.core.stage := by
  unfold State.coresStop
  dsimp only
  simp -implicitDefEqProofs

@[simp ↓] theorem State.memRail_stage (s : State) (on : Bool) : (s.memRail on).core.stage = s.core.stage := by
  unfold State.memRail
  dsimp only
  simp -implicitDefEqProofs

@[simp ↓] theorem State.fastStart_stage (s : State) : s.fastStart.core.stage = s.core.stage := by
  unfold State.fastStart
  simp -implicitDefEqProofs

@[simp ↓] theorem State.sendPlan_stage (s : State) (p : Plan) (ack : Nat) :
    (s.sendPlan p ack).1.core.stage = s.core.stage := by
  refine foldAll_induct (fun a : State × Bool => a.1.core.stage = s.core.stage) (fun a d ha => ?_) _ (s, true) rfl
  dsimp only
  split
  · exact ha
  · split
    · exact Eq.trans (State.stage_update (s := a.1.sendOffset d (p.offset d)) (hmaint := rfl) (htherm := rfl) ..)
        (by rw [State.sendOffset_core]; exact ha)
    · rw [State.sendOffset_core]
      exact ha

@[simp ↓] theorem State.planSend_stage (s : State) (ack : Nat) : (s.planSend ack).core.stage = s.core.stage := by
  unfold State.planSend
  dsimp only
  simp -implicitDefEqProofs

@[simp ↓] theorem State.planTake_stage (s : State) : s.planTake.core.stage = s.core.stage := by
  unfold State.planTake
  dsimp only
  split <;> simp -implicitDefEqProofs

@[simp ↓] theorem State.alertLate_stage (s : State) : s.alertLate.core.stage = s.core.stage := by
  unfold State.alertLate
  dsimp only
  split <;> simp -implicitDefEqProofs

@[simp ↓] theorem State.intentCheck_stage (s : State) : s.intentCheck.core.stage = s.core.stage := by
  unfold State.intentCheck
  simp -implicitDefEqProofs

@[simp ↓] theorem State.shedTake_stage (s : State) (sensor : Nat) :
    (s.shedTake sensor).core.stage = s.core.stage := by
  unfold State.shedTake
  dsimp only
  simp -implicitDefEqProofs

@[simp ↓] theorem State.thermEnd_stage (s : State) : s.thermEnd.core.stage = s.core.stage := by
  unfold State.thermEnd
  dsimp only
  simp -implicitDefEqProofs

@[simp ↓] theorem State.thermRecord_stage (s : State) (ts : List Int) (ds : List (Option Int)) :
    (s.thermRecord ts ds).core.stage = s.core.stage := by
  unfold State.thermRecord
  dsimp only
  simp -implicitDefEqProofs

@[simp ↓] theorem surveyComplete_stage (r : SurveyResult) (s : State) :
    (surveyComplete r s).core.stage = s.core.stage := by
  unfold surveyComplete
  dsimp only
  simp -implicitDefEqProofs

@[simp ↓] theorem ledgerCompaction_stage (s : State) : (ledgerCompaction s).core.stage = s.core.stage := by
  unfold ledgerCompaction
  dsimp only
  simp -implicitDefEqProofs

@[simp ↓] theorem ledgerRefresh_stage (s : State) : (ledgerRefresh s).core.stage = s.core.stage := by
  unfold ledgerRefresh
  dsimp only
  simp -implicitDefEqProofs

@[simp ↓] theorem State.memRecord_stage (s : State) (d : Nat) : (s.memRecord d).core.stage = s.core.stage := by
  unfold State.memRecord
  simp -implicitDefEqProofs

@[simp ↓] theorem State.slotLost_stage (s : State) (slot dev : Nat) :
    (s.slotLost slot dev).core.stage = s.core.stage := by
  unfold State.slotLost
  dsimp only
  simp -implicitDefEqProofs

@[simp ↓] theorem pcieLinkUp_stage (s : State) : (pcieLinkUp s).core.stage = s.core.stage := by
  unfold pcieLinkUp
  dsimp only
  simp -implicitDefEqProofs

@[simp ↓] theorem State.carterPut_stage (s : State) (p st : Nat) : (s.carterPut p st).core.stage = s.core.stage := by
  unfold State.carterPut
  dsimp only
  simp -implicitDefEqProofs

@[simp ↓] theorem State.refuseDev_stage (s : State) (f : Bits) (port dev : Nat) (parent : Bool) :
    (s.refuseDev f port dev parent).core.stage = s.core.stage := by
  unfold State.refuseDev
  dsimp only
  simp -implicitDefEqProofs

@[simp ↓] theorem carterAnnounce_stage (port dev depth : Nat) (s : State) :
    (carterAnnounce port dev depth s).core.stage = s.core.stage := by
  unfold carterAnnounce
  dsimp only
  simp -implicitDefEqProofs

@[simp ↓] theorem carterLinkDown_stage (port : Nat) (s : State) :
    (carterLinkDown port s).core.stage = s.core.stage := by
  unfold carterLinkDown
  dsimp only
  simp -implicitDefEqProofs

@[simp ↓] theorem carterLinkUp_stage (port : Nat) (s : State) : (carterLinkUp port s).core.stage = s.core.stage := by
  unfold carterLinkUp
  dsimp only
  simp -implicitDefEqProofs

@[simp ↓] theorem State.wdogArm_stage (s : State) : s.wdogArm.core.stage = s.core.stage := by
  unfold State.wdogArm
  dsimp only
  simp -implicitDefEqProofs

@[simp ↓] theorem coreImageLoaded_stage (a b : Signer) (s : State) :
    (coreImageLoaded a b s).core.stage = s.core.stage := by
  unfold coreImageLoaded
  dsimp only
  split
  · simp -implicitDefEqProofs
  · split <;> simp -implicitDefEqProofs

@[simp ↓] theorem coreHold_stage (s : State) : (coreHold s).core.stage = s.core.stage := by
  unfold coreHold
  simp -implicitDefEqProofs

@[simp ↓] theorem watchdogKick_stage (s : State) : (watchdogKick s).core.stage = s.core.stage := by
  unfold watchdogKick
  simp -implicitDefEqProofs

@[simp ↓] theorem watchdogFired_stage (s : State) : (watchdogFired s).core.stage = s.core.stage := by
  unfold watchdogFired
  dsimp only
  simp -implicitDefEqProofs

@[simp ↓] theorem State.porterStart_stage (s : State) (j : PorterJob) :
    (s.porterStart j).core.stage = s.core.stage := by
  unfold State.porterStart
  dsimp only
  simp -implicitDefEqProofs

@[simp ↓] theorem ident_stage (s : State) : (ident s).core.stage = s.core.stage := by
  unfold ident
  simp -implicitDefEqProofs

@[simp ↓] theorem ledgerKey_stage (s : State) : (ledgerKey s).core.stage = s.core.stage := by
  unfold ledgerKey
  simp -implicitDefEqProofs

@[simp ↓] theorem ledgerRead_stage (seq : Nat) (s : State) : (ledgerRead seq s).core.stage = s.core.stage := by
  unfold ledgerRead
  simp -implicitDefEqProofs

@[simp ↓] theorem provKey_stage (s : State) : (provKey s).core.stage = s.core.stage := by
  unfold provKey
  simp -implicitDefEqProofs

@[simp ↓] theorem fwWrite_stage (p : FwPart) (s : State) : (fwWrite p s).core.stage = s.core.stage := by
  unfold fwWrite
  simp -implicitDefEqProofs

@[simp ↓] theorem lcToken_stage (t : Token) (s : State) : (lcToken t s).core.stage = s.core.stage := by
  unfold lcToken
  dsimp only
  simp -implicitDefEqProofs

@[simp ↓] theorem State.porterEnd_stage (s : State) (result olen : Nat) :
    (s.porterEnd result olen).core.stage = s.core.stage := by
  unfold State.porterEnd
  dsimp only
  simp -implicitDefEqProofs

@[simp ↓] theorem State.fwPart_stage (s : State) (bytes : Nat) (last verifies : Bool) (version : Nat) :
    (s.fwPart bytes last verifies version).core.stage = s.core.stage := by
  unfold State.fwPart
  dsimp only
  simp -implicitDefEqProofs

@[simp ↓] theorem mgmtPacket_stage (code : Nat) (s : State) : (mgmtPacket code s).core.stage = s.core.stage := by
  unfold mgmtPacket
  dsimp only
  split
  · simp -implicitDefEqProofs
  · split <;> simp -implicitDefEqProofs

@[simp ↓] theorem pmbAlert_stage (faulty : Bool) (s : State) : (pmbAlert faulty s).core.stage = s.core.stage := by
  unfold pmbAlert
  dsimp only
  simp -implicitDefEqProofs

@[simp ↓] theorem State.memZero_stage (s : State) (a n : Nat) : (s.memZero a n).core.stage = s.core.stage := rfl

@[simp ↓] theorem State.coreCtlWrite_stage (s : State) (d : RegDesc) (who : Who) (v : Nat) :
    (s.coreCtlWrite d who v).core.stage = s.core.stage := by
  unfold State.coreCtlWrite
  dsimp only
  simp -implicitDefEqProofs

@[simp ↓] theorem State.porterCmd_stage (s : State) (v : Nat) : (s.porterCmd v).core.stage = s.core.stage := by
  unfold State.porterCmd
  split <;> simp -implicitDefEqProofs

@[simp ↓] theorem State.porterWrite_stage (s : State) (who : Who) (d : RegDesc) (off v : Nat) :
    (s.porterWrite who d off v).core.stage = s.core.stage := by
  unfold State.porterWrite
  simp -implicitDefEqProofs

@[simp ↓] theorem State.loadRun_stage (s t : State) (r : Run) : (s.loadRun t r).core.stage = t.core.stage := by
  unfold State.loadRun
  simp -implicitDefEqProofs

@[simp ↓] theorem State.staged__stage (s : State) (x : Image) : (s.staged_ x).core.stage = s.core.stage := by
  unfold State.staged_
  dsimp only
  refine List.foldlRecOn (motive := fun t : State => t.core.stage = s.core.stage) _ _ ?_
    (fun t ht e _ => (State.loadRun_stage s t e.2).trans ht)
  split <;> simp -implicitDefEqProofs

@[simp ↓] theorem State.decrypted_stage (s : State) (x : Image) (c : CheckResult) :
    (s.decrypted x c).core.stage = s.core.stage := by
  refine foldAll_stage (fun t e => ?_) s _
  split
  · exact State.setBytes_stage ..
  · rfl

@[simp ↓] theorem State.samplesWiped_stage (s t : State) (x : Image) :
    (s.samplesWiped t x).core.stage = t.core.stage := by
  refine foldAll_stage (fun t e => ?_) t _
  simp -implicitDefEqProofs

@[simp ↓] theorem State.slotPart_stage (s : State) (devNow : Nat) :
    (s.slotPart devNow).1.core.stage = s.core.stage := by
  unfold State.slotPart
  split
  · rfl
  · next q moved _ =>
    have hm := State.movePart_stage s q
    split <;> next heq => rw [heq] at hm; simpa -implicitDefEqProofs using hm

@[simp ↓] theorem writerSlot_stage (s : State) : (writerSlot s).core.stage = s.core.stage := by
  have h1 := State.slotPart_stage s 0
  unfold writerSlot
  rw [State.core_ite, Core.stage_either]
  generalize s.slotPart 0 = p at h1
  obtain ⟨t, m1, d1⟩ := p
  have h2 : (if m1 then t.slotPart (bit d1) else (t, false, false)).1.core.stage = s.core.stage := by
    rw [State.core_fst_ite, Core.stage_either, State.slotPart_stage, either_self]
    exact h1
  dsimp only
  generalize (if m1 then t.slotPart (bit d1) else (t, false, false)) = p at h2
  obtain ⟨u, m2, d2⟩ := p
  rw [foldAll_stage (f := State.finalGap) (fun t i => by rw [State.finalGap_core]), State.stage_update u, h2, either_self]
  · rfl
  · rfl

theorem stage_of_core {s t : State} {k : Clocks} (h : t.core = { s.core with clk := k }) :
    t.core.stage = s.core.stage := by
  rw [h]
  rfl

@[simp ↓] theorem epochLoad_stage (s : State) : (epochLoad s).core.stage = s.core.stage := by
  rcases epochLoad_core s with h | ⟨-, -, h⟩
  · rw [h]
  · exact stage_of_core h

@[simp ↓] theorem refclkReturn_stage (s : State) : (refclkReturn s).core.stage = s.core.stage := by
  obtain ⟨k, h⟩ := refclkReturn_core s
  exact stage_of_core h


/-! ### ARMED is entered only through an entry to ARMED (O14) -/

/-- Stage `b` is in ARMED only if stage `a` is. -/
structure Stage.Unarmed (a b : Stage) : Prop where
  of_armed : b.mode = .armed → a.mode = .armed

@[simp ↓] theorem Stage.Unarmed.refl (a : Stage) : a.Unarmed a := ⟨id⟩

@[simp ↓] theorem Stage.Unarmed.either {a b c : Stage} {p : Prop} [Decidable p] (hb : a.Unarmed b) (hc : a.Unarmed c) :
    a.Unarmed (either p b c) := by
  unfold Sys2Proof.Machine.either
  split <;> assumption

/-- A state that is in ARMED only if one is of which that holds. -/
theorem Stage.Unarmed.update {a : Stage} {s : State} (h : a.Unarmed s.core.stage) {t : State}
    (hm : t.mode = .armed → s.mode = .armed) : a.Unarmed t.core.stage := ⟨h.of_armed ∘ hm⟩

@[simp ↓] theorem Stage.Unarmed.record {a : Stage} {s : State}
    (powered : Bool) (clk : Clocks) (mode : Mode) (transit : Option Transit) (hold : Option HoldReq)
    (trim : TrimSel) (load : Option Load) (pat : PatSt) (ap : NMap Word) (mem : List Host.Cell)
    (bench : NMap BenchSt) (time : TimeSt) (segs : Segs) (looms : NMap Loom) (lanes : NMap Lane) (out : OutSt)
    (chans : NMap Chan) (adcs : NMap Adc) (engines : NMap Engine) (xyStages : NMap (Option XyStage)) (dec : DecSt)
    (fms : NMap Fm) (memc : MemSt) (tally : Tally) (fabric : Fabric) (slow : Slow) (therm : Therm) (host : HostSt)
    (pins : Pins) (captures : NMap Nat) (recent : NMap (Nat × Nat)) (setvAt : NMap Nat)
    (later : NMap (List (Nat × Nat))) (readData : Nat) (outbox : List Out) (freeCtr : Nat)
    (hs : a.Unarmed s.core.stage) (hm : mode = .armed → s.mode = .armed) :
    a.Unarmed (State.core
      { s with
        powered := powered, clk := clk, mode := mode, transit := transit, hold := hold, trim := trim
        load := load, pat := pat, ap := ap, mem := mem, bench := bench, time := time, segs := segs
        looms := looms, lanes := lanes, out := out, chans := chans, adcs := adcs, engines := engines
        xyStages := xyStages, dec := dec, fms := fms, memc := memc, tally := tally, fabric := fabric
        slow := slow, therm := therm, host := host, pins := pins, captures := captures, recent := recent
        setvAt := setvAt, later := later, readData := readData, outbox := outbox, freeCtr := freeCtr }).stage :=
  hs.update hm

@[simp ↓] theorem Stage.Unarmed.foldAll {α : Type} {a : Stage} {s : State} {f : State → α → State}
    (h : a.Unarmed s.core.stage) (hf : ∀ t x, a.Unarmed t.core.stage → a.Unarmed (f t x).core.stage) (xs : List α) :
    a.Unarmed (foldAll f s xs).core.stage :=
  foldAll_induct (fun t : State => a.Unarmed t.core.stage) hf xs s h


@[simp ↓] theorem State.enter_unarmed {a : Stage} {s : State} (h : a.Unarmed s.core.stage) {m : Mode} (hm : m ≠ .armed)
    (cause : Nat) : a.Unarmed (s.enter m cause).core.stage := by
  unfold State.enter
  simp (maxDischargeDepth := 40) -implicitDefEqProofs [h, hm]

@[simp ↓] theorem shot_unarmed {a : Stage} {s : State} (h : a.Unarmed s.core.stage) (b : Nat) :
    a.Unarmed (shot b s).core.stage := by
  unfold shot
  dsimp only
  split <;> simp (maxDischargeDepth := 40) -implicitDefEqProofs [h]

@[simp ↓] theorem State.coreLost_unarmed {a : Stage} {s : State} (h : a.Unarmed s.core.stage) (keep : Nat → Bool) (open_ : Bool) :
    a.Unarmed (s.coreLost keep open_).core.stage := by
  unfold State.coreLost
  dsimp only
  simp (maxDischargeDepth := 40) -implicitDefEqProofs [h]

@[simp ↓] theorem State.become_unarmed {a : Stage} {s : State} (h : a.Unarmed s.core.stage) {m : Mode} (hm : m ≠ .armed)
    (cause : Nat) : a.Unarmed (s.become m cause).core.stage := by
  unfold State.become
  dsimp only
  simp (maxDischargeDepth := 40) -implicitDefEqProofs [h, hm]

@[simp ↓] theorem State.toIdle_unarmed {a : Stage} {s : State} (h : a.Unarmed s.core.stage) (cause : Nat) :
    a.Unarmed (s.toIdle cause).core.stage := by
  unfold State.toIdle
  dsimp only
  simp (maxDischargeDepth := 40) -implicitDefEqProofs [h]

@[simp ↓] theorem State.toKeep_unarmed {a : Stage} {s : State} (h : a.Unarmed s.core.stage) :
    a.Unarmed s.toKeep.core.stage := by
  unfold State.toKeep
  dsimp only
  simp (maxDischargeDepth := 40) -implicitDefEqProofs [h]

@[simp ↓] theorem State.toDormant_unarmed {a : Stage} {s : State} (h : a.Unarmed s.core.stage) :
    a.Unarmed s.toDormant.core.stage := by
  unfold State.toDormant
  dsimp only
  simp (maxDischargeDepth := 40) -implicitDefEqProofs [h]

@[simp ↓] theorem State.trimAbort_unarmed {a : Stage} {s : State} (h : a.Unarmed s.core.stage) (code : Nat) :
    a.Unarmed (s.trimAbort code).core.stage := by
  unfold State.trimAbort
  simp (maxDischargeDepth := 40) -implicitDefEqProofs [h]

@[simp ↓] theorem State.toTrim_unarmed {a : Stage} {s : State} (h : a.Unarmed s.core.stage) :
    a.Unarmed s.toTrim.core.stage := by
  unfold State.toTrim
  dsimp only
  simp (maxDischargeDepth := 40) -implicitDefEqProofs [h]

@[simp ↓] theorem State.toService_unarmed {a : Stage} {s : State} (h : a.Unarmed s.core.stage) :
    a.Unarmed s.toService.core.stage := by
  unfold State.toService
  dsimp only
  simp (maxDischargeDepth := 40) -implicitDefEqProofs [h]

@[simp ↓] theorem State.beginTo_unarmed {a : Stage} {s : State} (h : a.Unarmed s.core.stage) (dst : Mode) (kind : TransKind) (ticks : Nat) :
    a.Unarmed (s.beginTo dst kind ticks).core.stage := by
  unfold State.beginTo
  simp (maxDischargeDepth := 40) -implicitDefEqProofs [h]

@[simp ↓] theorem State.beginService_unarmed {a : Stage} {s : State} (h : a.Unarmed s.core.stage) :
    a.Unarmed s.beginService.core.stage := by
  unfold State.beginService
  simp (maxDischargeDepth := 40) -implicitDefEqProofs [h]

@[simp ↓] theorem State.beginIdle_unarmed {a : Stage} {s : State} (h : a.Unarmed s.core.stage) :
    a.Unarmed s.beginIdle.core.stage := by
  unfold State.beginIdle
  simp (maxDischargeDepth := 40) -implicitDefEqProofs [h]

@[simp ↓] theorem State.followUp_unarmed {a : Stage} {s : State} (h : a.Unarmed s.core.stage) (f : Option Mode) :
    a.Unarmed (s.followUp f).core.stage := by
  unfold State.followUp
  split <;> simp (maxDischargeDepth := 40) -implicitDefEqProofs [h]

@[simp ↓] theorem State.holdNow_unarmed {a : Stage} {s : State} (h : a.Unarmed s.core.stage) (code : Nat) (poison : Option (Nat × Nat)) :
    a.Unarmed (s.holdNow code poison).core.stage := by
  unfold State.holdNow
  dsimp only
  split <;> simp (maxDischargeDepth := 40) -implicitDefEqProofs [h]

@[simp ↓] theorem shotBoundary_unarmed {a : Stage} {s : State} (h : a.Unarmed s.core.stage) :
    a.Unarmed (shotBoundary s).core.stage := by
  unfold shotBoundary
  dsimp only
  split <;> simp (maxDischargeDepth := 40) -implicitDefEqProofs [h]

@[simp ↓] theorem startConditionMet_unarmed {a : Stage} {s : State} (h : a.Unarmed s.core.stage) :
    a.Unarmed (startConditionMet s).core.stage := by
  unfold startConditionMet
  dsimp only
  simp (maxDischargeDepth := 40) -implicitDefEqProofs [h]

@[simp ↓] theorem State.pllLockStep_unarmed {a : Stage} {s : State} (h : a.Unarmed s.core.stage) :
    a.Unarmed s.pllLockStep.core.stage := by
  unfold State.pllLockStep
  dsimp only
  simp (maxDischargeDepth := 40) -implicitDefEqProofs [h]

@[simp ↓] theorem State.entrySteps_unarmed {a : Stage} {s : State} (h : a.Unarmed s.core.stage) :
    a.Unarmed s.entrySteps.core.stage := by
  unfold State.entrySteps
  simp (maxDischargeDepth := 40) -implicitDefEqProofs [h]

@[simp ↓] theorem State.entryAbort_unarmed {a : Stage} {s : State} (h : a.Unarmed s.core.stage) (t : Transit) (code : Nat) :
    a.Unarmed (s.entryAbort t code).core.stage := by
  unfold State.entryAbort
  dsimp only
  simp (maxDischargeDepth := 40) -implicitDefEqProofs [h]

@[simp ↓] theorem transitionDone_unarmed {a : Stage} {s : State} (h : a.Unarmed s.core.stage) :
    a.Unarmed (transitionDone s).core.stage := by
  unfold transitionDone
  split
  · split
    · simp (maxDischargeDepth := 40) -implicitDefEqProofs [h]
    · split <;> simp (maxDischargeDepth := 40) -implicitDefEqProofs [h]
  · simp (maxDischargeDepth := 40) -implicitDefEqProofs [h]

@[simp ↓] theorem trimDone_unarmed {a : Stage} {s : State} (h : a.Unarmed s.core.stage) (cal : List (BitVec 14)) :
    a.Unarmed (trimDone cal s).core.stage := by
  unfold trimDone
  dsimp only
  simp (maxDischargeDepth := 40) -implicitDefEqProofs [h]

@[simp ↓] theorem State.holdAsk_unarmed {a : Stage} {s : State} (h : a.Unarmed s.core.stage) (follow : Option Mode) :
    a.Unarmed (s.holdAsk follow).core.stage := by
  unfold State.holdAsk
  dsimp only
  simp (maxDischargeDepth := 40) -implicitDefEqProofs [h]

@[simp ↓] theorem State.keepExit_unarmed {a : Stage} {s : State} (h : a.Unarmed s.core.stage) (toArmed : Bool) :
    a.Unarmed (s.keepExit toArmed).core.stage := by
  unfold State.keepExit
  simp (maxDischargeDepth := 40) -implicitDefEqProofs [h]

@[simp ↓] theorem modeReqIdle_unarmed {a : Stage} {s : State} (h : a.Unarmed s.core.stage) :
    a.Unarmed (modeReqIdle s).core.stage := by
  unfold modeReqIdle
  split
  · simp (maxDischargeDepth := 40) -implicitDefEqProofs [h]
  · split <;> simp (maxDischargeDepth := 40) -implicitDefEqProofs [h]

@[simp ↓] theorem modeReqKeep_unarmed {a : Stage} {s : State} (h : a.Unarmed s.core.stage) :
    a.Unarmed (modeReqKeep s).core.stage := by
  unfold modeReqKeep
  simp (maxDischargeDepth := 40) -implicitDefEqProofs [h]

@[simp ↓] theorem modeReqDormant_unarmed {a : Stage} {s : State} (h : a.Unarmed s.core.stage) :
    a.Unarmed (modeReqDormant s).core.stage := by
  unfold modeReqDormant
  simp (maxDischargeDepth := 40) -implicitDefEqProofs [h]

@[simp ↓] theorem modeReqTrim_unarmed {a : Stage} {s : State} (h : a.Unarmed s.core.stage) (conv skew survey full : Bool) :
    a.Unarmed (modeReqTrim conv skew survey full s).core.stage := by
  unfold modeReqTrim
  simp (maxDischargeDepth := 40) -implicitDefEqProofs [h]

@[simp ↓] theorem State.beginArmed_unarmed {a : Stage} {s : State} (h : a.Unarmed s.core.stage) :
    a.Unarmed s.beginArmed.core.stage := by
  unfold State.beginArmed
  split <;> simp (maxDischargeDepth := 40) -implicitDefEqProofs [h]

@[simp ↓] theorem modeReqArmed_unarmed {a : Stage} {s : State} (h : a.Unarmed s.core.stage) :
    a.Unarmed (modeReqArmed s).core.stage := by
  unfold modeReqArmed
  dsimp only
  simp (maxDischargeDepth := 40) -implicitDefEqProofs [h]

@[simp ↓] theorem modeReqHold_unarmed {a : Stage} {s : State} (h : a.Unarmed s.core.stage) :
    a.Unarmed (modeReqHold s).core.stage := by
  unfold modeReqHold
  split
  · simp (maxDischargeDepth := 40) -implicitDefEqProofs [h]
  · split <;> simp (maxDischargeDepth := 40) -implicitDefEqProofs [h]

@[simp ↓] theorem modeReqHoldForce_unarmed {a : Stage} {s : State} (h : a.Unarmed s.core.stage) :
    a.Unarmed (modeReqHoldForce s).core.stage := by
  unfold modeReqHoldForce
  split
  · simp (maxDischargeDepth := 40) -implicitDefEqProofs [h]
  · split <;> simp (maxDischargeDepth := 40) -implicitDefEqProofs [h]

@[simp ↓] theorem modeReqService_unarmed {a : Stage} {s : State} (h : a.Unarmed s.core.stage) :
    a.Unarmed (modeReqService s).core.stage := by
  unfold modeReqService
  split
  · simp (maxDischargeDepth := 40) -implicitDefEqProofs [h]
  · split <;> simp (maxDischargeDepth := 40) -implicitDefEqProofs [h]

@[simp ↓] theorem State.refLossMode_unarmed {a : Stage} {s : State} (h : a.Unarmed s.core.stage) (cause : Nat) :
    a.Unarmed (s.refLossMode cause).core.stage := by
  unfold State.refLossMode
  (repeat' split) <;> simp (maxDischargeDepth := 40) -implicitDefEqProofs [h]

@[simp ↓] theorem State.refLost_unarmed {a : Stage} {s : State} (h : a.Unarmed s.core.stage) (cause : LossCause) :
    a.Unarmed (s.refLost cause).core.stage := by
  unfold State.refLost
  dsimp only
  simp (maxDischargeDepth := 40) -implicitDefEqProofs [h]

@[simp ↓] theorem refLoss_unarmed {a : Stage} {s : State} (h : a.Unarmed s.core.stage) (cause : LossCause) :
    a.Unarmed (refLoss cause s).core.stage := by
  unfold refLoss
  simp (maxDischargeDepth := 40) -implicitDefEqProofs [h]

@[simp ↓] theorem pllLockLoss_unarmed {a : Stage} {s : State} (h : a.Unarmed s.core.stage) (core : Bool) :
    a.Unarmed (pllLockLoss core s).core.stage := by
  unfold pllLockLoss
  dsimp only
  simp (maxDischargeDepth := 40) -implicitDefEqProofs [h]

@[simp ↓] theorem State.latchOff_unarmed {a : Stage} {s : State} (h : a.Unarmed s.core.stage) :
    a.Unarmed s.latchOff.core.stage := by
  unfold State.latchOff
  dsimp only
  simp (maxDischargeDepth := 40) -implicitDefEqProofs [h]

@[simp ↓] theorem State.resetCommon_unarmed {a : Stage} {s : State} (h : a.Unarmed s.core.stage) (keep : Nat → Bool) :
    a.Unarmed (s.resetCommon keep).core.stage := by
  unfold State.resetCommon
  simp (maxDischargeDepth := 40) -implicitDefEqProofs [h]

@[simp ↓] theorem State.powerOn_unarmed {a : Stage} {s : State} (h : a.Unarmed s.core.stage) (straps : Nat) :
    a.Unarmed (s.powerOn straps).core.stage := h.update (t := s.powerOn straps) nofun

@[simp ↓] theorem State.supplyOn_unarmed {a : Stage} {s : State} (h : a.Unarmed s.core.stage) (straps : Nat) :
    a.Unarmed (s.supplyOn straps).core.stage := by
  unfold State.supplyOn
  dsimp only
  simp (maxDischargeDepth := 40) -implicitDefEqProofs [h]

@[simp ↓] theorem powerOnReset_unarmed {a : Stage} {s : State} (h : a.Unarmed s.core.stage) (vdd : Bool) (straps : Nat) :
    a.Unarmed (powerOnReset vdd straps s).core.stage := by
  unfold powerOnReset
  dsimp only
  simp (maxDischargeDepth := 40) -implicitDefEqProofs [h]

@[simp ↓] theorem State.supplyOff_unarmed {a : Stage} {s : State} (h : a.Unarmed s.core.stage) :
    a.Unarmed s.supplyOff.core.stage := by
  unfold State.supplyOff
  dsimp only
  simp (maxDischargeDepth := 40) -implicitDefEqProofs [h]

@[simp ↓] theorem pwrgdLow_unarmed {a : Stage} {s : State} (h : a.Unarmed s.core.stage) :
    a.Unarmed (pwrgdLow s).core.stage := by
  unfold pwrgdLow
  dsimp only
  simp (maxDischargeDepth := 40) -implicitDefEqProofs [h]

@[simp ↓] theorem vddAonRemoved_unarmed {a : Stage} {s : State} (h : a.Unarmed s.core.stage) :
    a.Unarmed (vddAonRemoved s).core.stage := by
  unfold vddAonRemoved
  dsimp only
  simp (maxDischargeDepth := 40) -implicitDefEqProofs [h]

@[simp ↓] theorem resetN_unarmed {a : Stage} {s : State} (h : a.Unarmed s.core.stage) (straps : Nat) :
    a.Unarmed (resetN straps s).core.stage := by
  unfold resetN
  dsimp only
  simp (maxDischargeDepth := 40) -implicitDefEqProofs [h]

@[simp ↓] theorem State.warm_unarmed {a : Stage} {s : State} (h : a.Unarmed s.core.stage) (cause : Bits) :
    a.Unarmed (s.warm cause).core.stage := by
  unfold State.warm
  dsimp only
  simp (maxDischargeDepth := 40) -implicitDefEqProofs [h]

@[simp ↓] theorem warmReset_unarmed {a : Stage} {s : State} (h : a.Unarmed s.core.stage) (byPorter : Bool) :
    a.Unarmed (warmReset byPorter s).core.stage := by
  unfold warmReset
  simp (maxDischargeDepth := 40) -implicitDefEqProofs [h]

@[simp ↓] theorem State.boots_unarmed {a : Stage} {s : State} (h : a.Unarmed s.core.stage) :
    a.Unarmed s.boots.core.stage := by
  unfold State.boots
  dsimp only
  simp (maxDischargeDepth := 40) -implicitDefEqProofs [h]

@[simp ↓] theorem bootRequest_unarmed {a : Stage} {s : State} (h : a.Unarmed s.core.stage) :
    a.Unarmed (bootRequest s).core.stage := by
  unfold bootRequest
  split <;> simp (maxDischargeDepth := 40) -implicitDefEqProofs [h]

@[simp ↓] theorem wakeTimer_unarmed {a : Stage} {s : State} (h : a.Unarmed s.core.stage) :
    a.Unarmed (wakeTimer s).core.stage := by
  unfold wakeTimer
  simp (maxDischargeDepth := 40) -implicitDefEqProofs [h]

@[simp ↓] theorem wakeTrig_unarmed {a : Stage} {s : State} (h : a.Unarmed s.core.stage) (line : Nat) :
    a.Unarmed (wakeTrig line s).core.stage := by
  unfold wakeTrig
  simp (maxDischargeDepth := 40) -implicitDefEqProofs [h]

@[simp ↓] theorem State.intentFinish_unarmed {a : Stage} {s : State} (h : a.Unarmed s.core.stage) (t : Nat) :
    a.Unarmed (s.intentFinish t).core.stage := by
  unfold State.intentFinish
  dsimp only
  simp (maxDischargeDepth := 40) -implicitDefEqProofs [h]

@[simp ↓] theorem firmwareVerified_unarmed {a : Stage} {s : State} (h : a.Unarmed s.core.stage) (alternate : Bool) :
    a.Unarmed (firmwareVerified alternate s).core.stage := by
  unfold firmwareVerified
  dsimp only
  simp (maxDischargeDepth := 40) -implicitDefEqProofs [h]

@[simp ↓] theorem bootFail_unarmed {a : Stage} {s : State} (h : a.Unarmed s.core.stage) :
    a.Unarmed (bootFail s).core.stage := by
  unfold bootFail
  dsimp only
  simp (maxDischargeDepth := 40) -implicitDefEqProofs [h]

@[simp ↓] theorem keepExitDone_unarmed {a : Stage} {s : State} (h : a.Unarmed s.core.stage) :
    a.Unarmed (keepExitDone s).core.stage := by
  unfold keepExitDone
  dsimp only
  (repeat' split) <;> simp (maxDischargeDepth := 40) -implicitDefEqProofs [h]

@[simp ↓] theorem State.shedMode_unarmed {a : Stage} {s : State} (h : a.Unarmed s.core.stage) :
    a.Unarmed s.shedMode.core.stage := by
  unfold State.shedMode
  dsimp only
  (repeat' split) <;> simp (maxDischargeDepth := 40) -implicitDefEqProofs [h]

@[simp ↓] theorem State.convOffMode_unarmed {a : Stage} {s : State} (h : a.Unarmed s.core.stage) :
    a.Unarmed s.convOffMode.core.stage := by
  unfold State.convOffMode
  dsimp only
  (repeat' split) <;> simp (maxDischargeDepth := 40) -implicitDefEqProofs [h]

@[simp ↓] theorem State.convOffTake_unarmed {a : Stage} {s : State} (h : a.Unarmed s.core.stage) (sensor : Nat) :
    a.Unarmed (s.convOffTake sensor).core.stage := by
  unfold State.convOffTake
  dsimp only
  simp (maxDischargeDepth := 40) -implicitDefEqProofs [h]

@[simp ↓] theorem State.latchTake_unarmed {a : Stage} {s : State} (h : a.Unarmed s.core.stage) (sensor cause : Nat) (rise : Int) :
    a.Unarmed (s.latchTake sensor cause rise).core.stage := by
  unfold State.latchTake
  dsimp only
  simp (maxDischargeDepth := 40) -implicitDefEqProofs [h]

@[simp ↓] theorem shedDeadline_unarmed {a : Stage} {s : State} (h : a.Unarmed s.core.stage) :
    a.Unarmed (shedDeadline s).core.stage := by
  unfold shedDeadline
  split <;> simp (maxDischargeDepth := 40) -implicitDefEqProofs [h]

@[simp ↓] theorem latchedEntry_unarmed {a : Stage} {s : State} (h : a.Unarmed s.core.stage) :
    a.Unarmed (latchedEntry s).core.stage := by
  unfold latchedEntry
  dsimp only
  split <;> simp (maxDischargeDepth := 40) -implicitDefEqProofs [h]

@[simp ↓] theorem State.maint_unarmed {a : Stage} {s : State} (h : a.Unarmed s.core.stage) (m : Option Maint) :
    a.Unarmed (s.maint m).core.stage := by
  unfold State.maint
  dsimp only
  simp (maxDischargeDepth := 40) -implicitDefEqProofs [h]

@[simp ↓] theorem State.retrainAll_unarmed {a : Stage} {s : State} (h : a.Unarmed s.core.stage) :
    a.Unarmed s.retrainAll.core.stage := State.maint_unarmed h _

@[simp ↓] theorem retrainStart_unarmed {a : Stage} {s : State} (h : a.Unarmed s.core.stage) :
    a.Unarmed (retrainStart s).core.stage := by
  unfold retrainStart
  simp (maxDischargeDepth := 40) -implicitDefEqProofs [h]

@[simp ↓] theorem State.budgetMode_unarmed {a : Stage} {s : State} (h : a.Unarmed s.core.stage) :
    a.Unarmed s.budgetMode.core.stage := by
  unfold State.budgetMode
  dsimp only
  (repeat' split) <;> simp (maxDischargeDepth := 40) -implicitDefEqProofs [h]

@[simp ↓] theorem State.capChanged_unarmed {a : Stage} {s : State} (h : a.Unarmed s.core.stage) :
    a.Unarmed s.capChanged.core.stage := by
  unfold State.capChanged
  dsimp only
  simp (maxDischargeDepth := 40) -implicitDefEqProofs [h]

@[simp ↓] theorem State.deviceDead_unarmed {a : Stage} {s : State} (h : a.Unarmed s.core.stage) (d : Nat) :
    a.Unarmed (s.deviceDead d).core.stage := by
  unfold State.deviceDead
  dsimp only
  simp (maxDischargeDepth := 40) -implicitDefEqProofs [h]

@[simp ↓] theorem State.trained_unarmed {a : Stage} {s : State} (h : a.Unarmed s.core.stage) :
    a.Unarmed s.trained.core.stage := by
  unfold State.trained
  simp (maxDischargeDepth := 40) -implicitDefEqProofs [h]

@[simp ↓] theorem State.ladder_unarmed {a : Stage} {s : State} (h : a.Unarmed s.core.stage) (d : Nat) :
    a.Unarmed (s.ladder d).core.stage := by
  unfold State.ladder
  dsimp only
  split
  · simp (maxDischargeDepth := 40) -implicitDefEqProofs [h]
  · split <;> simp (maxDischargeDepth := 40) -implicitDefEqProofs [h]

@[simp ↓] theorem retrainDone_unarmed {a : Stage} {s : State} (h : a.Unarmed s.core.stage) (failing : Option Nat) :
    a.Unarmed (retrainDone failing s).core.stage := by
  unfold retrainDone
  (repeat' split) <;> simp (maxDischargeDepth := 40) -implicitDefEqProofs [h]

@[simp ↓] theorem retirementStart_unarmed {a : Stage} {s : State} (h : a.Unarmed s.core.stage) :
    a.Unarmed (retirementStart s).core.stage := by
  unfold retirementStart
  split <;> simp (maxDischargeDepth := 40) -implicitDefEqProofs [h]

@[simp ↓] theorem migrationDone_unarmed {a : Stage} {s : State} (h : a.Unarmed s.core.stage) :
    a.Unarmed (migrationDone s).core.stage := by
  unfold migrationDone
  dsimp only
  split <;> simp (maxDischargeDepth := 40) -implicitDefEqProofs [h]

@[simp ↓] theorem State.lifeChange_unarmed {a : Stage} {s : State} (h : a.Unarmed s.core.stage) (target : LifeCycle) (hash : Nat) (key : Bool) :
    a.Unarmed (s.lifeChange target hash key).core.stage := by
  unfold State.lifeChange
  dsimp only
  simp (maxDischargeDepth := 40) -implicitDefEqProofs [h]

@[simp ↓] theorem porterCommandDone_unarmed {a : Stage} {s : State} (h : a.Unarmed s.core.stage) :
    a.Unarmed (porterCommandDone s).core.stage := by
  unfold porterCommandDone
  split
  case h_5 => split <;> simp (maxDischargeDepth := 40) -implicitDefEqProofs [h]
  all_goals simp (maxDischargeDepth := 40) -implicitDefEqProofs [h, State.lifeChange_unarmed]

@[simp ↓] theorem railTrip_unarmed {a : Stage} {s : State} (h : a.Unarmed s.core.stage) (n : Nat) :
    a.Unarmed (railTrip n s).core.stage := by
  unfold railTrip
  dsimp only
  simp (maxDischargeDepth := 40) -implicitDefEqProofs [h]

@[simp ↓] theorem railRecover_unarmed {a : Stage} {s : State} (h : a.Unarmed s.core.stage) (straps : Nat) :
    a.Unarmed (railRecover straps s).core.stage := by
  unfold railRecover
  dsimp only
  simp (maxDischargeDepth := 40) -implicitDefEqProofs [h]

@[simp ↓] theorem State.loadStart_unarmed {a : Stage} {s : State} (h : a.Unarmed s.core.stage) (overlay : Bool) :
    a.Unarmed (s.loadStart overlay).core.stage := by
  unfold State.loadStart
  dsimp only
  simp (maxDischargeDepth := 40) -implicitDefEqProofs [h]

@[simp ↓] theorem patternLoadStart_unarmed {a : Stage} {s : State} (h : a.Unarmed s.core.stage) :
    a.Unarmed (patternLoadStart s).core.stage := by
  unfold patternLoadStart
  simp (maxDischargeDepth := 40) -implicitDefEqProofs [h]

@[simp ↓] theorem overlayStart_unarmed {a : Stage} {s : State} (h : a.Unarmed s.core.stage) :
    a.Unarmed (overlayStart s).core.stage := by
  unfold overlayStart
  simp (maxDischargeDepth := 40) -implicitDefEqProofs [h]

@[simp ↓] theorem State.loadEnd_unarmed {a : Stage} {s : State} (h : a.Unarmed s.core.stage) (l : Load) (wipe : Bool) (err sec : Nat) :
    a.Unarmed (s.loadEnd l wipe err sec).core.stage := by
  unfold State.loadEnd
  dsimp only
  simp (maxDischargeDepth := 40) -implicitDefEqProofs [h]

@[simp ↓] theorem patternAbort_unarmed {a : Stage} {s : State} (h : a.Unarmed s.core.stage) :
    a.Unarmed (patternAbort s).core.stage := by
  unfold patternAbort
  split <;> simp (maxDischargeDepth := 40) -implicitDefEqProofs [h]

@[simp ↓] theorem checkPhaseDone_unarmed {a : Stage} {s : State} (h : a.Unarmed s.core.stage) (c : CheckResult) :
    a.Unarmed (checkPhaseDone c s).core.stage := by
  unfold checkPhaseDone
  dsimp only
  split <;> simp (maxDischargeDepth := 40) -implicitDefEqProofs [h]

@[simp ↓] theorem State.benchResetOne_unarmed {a : Stage} {s : State} (h : a.Unarmed s.core.stage) (b : Nat) :
    a.Unarmed (s.benchResetOne b).core.stage := by
  unfold State.benchResetOne
  (repeat' split) <;> simp (maxDischargeDepth := 40) -implicitDefEqProofs [h]

@[simp ↓] theorem benchReset_unarmed {a : Stage} {s : State} (h : a.Unarmed s.core.stage) (mask : Nat) :
    a.Unarmed (benchReset mask s).core.stage := by
  unfold benchReset
  simp (contextual := true) (maxDischargeDepth := 40) -implicitDefEqProofs [h]

@[simp ↓] theorem State.modeReqWrite_unarmed {a : Stage} {s : State} (h : a.Unarmed s.core.stage) (v : Nat) :
    a.Unarmed (s.modeReqWrite v).core.stage := by
  unfold State.modeReqWrite
  split <;> simp (maxDischargeDepth := 40) -implicitDefEqProofs [h]

@[simp ↓] theorem State.resetWrite_unarmed {a : Stage} {s : State} (h : a.Unarmed s.core.stage) (who : Who) (v : Nat) :
    a.Unarmed (s.resetWrite who v).core.stage := by
  unfold State.resetWrite
  simp (maxDischargeDepth := 40) -implicitDefEqProofs [h]

@[simp ↓] theorem State.patCtlWrite_unarmed {a : Stage} {s : State} (h : a.Unarmed s.core.stage) (v : Nat) :
    a.Unarmed (s.patCtlWrite v).core.stage := by
  unfold State.patCtlWrite
  dsimp only
  simp (maxDischargeDepth := 40) -implicitDefEqProofs [h]

@[simp ↓] theorem State.topWrite_unarmed {a : Stage} {s : State} (h : a.Unarmed s.core.stage) (who : Who) (d : RegDesc) (off v : Nat) :
    a.Unarmed (s.topWrite who d off v).core.stage := by
  unfold State.topWrite
  simp (maxDischargeDepth := 40) -implicitDefEqProofs [h]

@[simp ↓] theorem State.writeReg_unarmed {a : Stage} {s : State} (h : a.Unarmed s.core.stage) (who : Who) (view v : Nat) :
    a.Unarmed (s.writeReg who view v).core.stage := by
  unfold State.writeReg
  dsimp only
  split <;> simp (maxDischargeDepth := 40) -implicitDefEqProofs [h]

@[simp ↓] theorem State.writeRegs_unarmed {a : Stage} {s : State} (h : a.Unarmed s.core.stage) (who : Who) (view size v : Nat) :
    a.Unarmed (s.writeRegs who view size v).core.stage := by
  unfold State.writeRegs
  split
  · simp (maxDischargeDepth := 40) -implicitDefEqProofs [h]
  · split <;> simp (maxDischargeDepth := 40) -implicitDefEqProofs [h]

@[simp ↓] theorem apertureWrite_unarmed {a : Stage} {s : State} (h : a.Unarmed s.core.stage) (who : Who) (off size v : Nat) :
    a.Unarmed (apertureWrite who off size v s).core.stage := by
  unfold apertureWrite
  simp (maxDischargeDepth := 40) -implicitDefEqProofs [h]

@[simp ↓] theorem registerWrite_unarmed {a : Stage} {s : State} (h : a.Unarmed s.core.stage) (who : Who) (dev off size v : Nat) :
    a.Unarmed (registerWrite who dev off size v s).core.stage := by
  unfold registerWrite
  simp (maxDischargeDepth := 40) -implicitDefEqProofs [h]

@[simp ↓] theorem State.loadFailed_unarmed {a : Stage} {t : State} (h : a.Unarmed t.core.stage) (s : State) (x : Image)
    (l : Load) (wipe : Bool) (i : Nat) : a.Unarmed (s.loadFailed t x l wipe i).core.stage := by
  unfold State.loadFailed
  dsimp only
  simp (maxDischargeDepth := 40) -implicitDefEqProofs [h]

@[simp ↓] theorem applyPhaseDone_unarmed {a : Stage} {s : State} (h : a.Unarmed s.core.stage) (fails : Option Nat) :
    a.Unarmed (applyPhaseDone fails s).core.stage := by
  unfold applyPhaseDone
  split
  · exact h
  · rw [State.core_ite, Core.stage_either]
    refine .either h (.foldAll ?_ (fun t b ht => by rwa [State.benchResetBegin_core]) _)
    split
    · refine State.loadFailed_unarmed ?_ ..
      rwa [State.staged__stage]
    · refine State.loadEnd_unarmed ?_ ..
      simpa -implicitDefEqProofs using h

@[simp ↓] theorem thermalSample_unarmed {a : Stage} {s : State} (h : a.Unarmed s.core.stage) (temps : List Int)
    (ds : List (Option Int)) : a.Unarmed (thermalSample temps ds s).core.stage := by
  unfold thermalSample
  rw [State.core_ite, Core.stage_either]
  refine .either h ?_
  extract_lets ts first fails rises shedR latchR hi hiShed s1 src s2 s3 raw tj hot act
  have h1 : a.Unarmed s1.core.stage := by rwa [State.thermRecord_stage]
  rw [State.core_ite, Core.stage_either]
  refine .either h1 ?_
  clear_value s1
  have h2 : a.Unarmed s2.core.stage := by
    simp only [s2, State.core_ite, Core.stage_either]
    exact .either (h1.update id) h1
  clear_value s2
  have h3 : a.Unarmed s3.core.stage := by rwa [State.thermFlags_core]
  clear_value s3
  have hact : a.Unarmed act.core.stage := by
    simp only [act]
    clear_value latchR
    rw [State.core_ite, Core.stage_either]
    refine .either (State.latchTake_unarmed h3 ..) ?_
    cases latchR
    · simp (maxDischargeDepth := 40) -implicitDefEqProofs [h3]
    · exact State.latchTake_unarmed h3 ..
  clear_value act
  exact hact.update id

@[simp ↓] theorem wipeComplete_unarmed {a : Stage} {s : State} (h : a.Unarmed s.core.stage) :
    a.Unarmed (wipeComplete s).core.stage := by
  unfold wipeComplete
  split
  · rw [State.core_ite, Core.stage_either]
    exact .either (State.beginTo_unarmed (h.update id) ..) h
  · exact h

theorem unarmed_of_whenPowered {s t : State} {f : State → State} (h : whenPowered s f = .next t)
    (hf : s.core.stage.Unarmed (f s).core.stage) : s.core.stage.Unarmed t.core.stage := by
  obtain ⟨-, rfl⟩ := whenPowered_next.1 h
  exact hf

theorem execPowerOnReset_unarmed {s t : State} {vddRose : Bool} {straps : Fin 64}
    (h : execPowerOnReset vddRose straps s = .next t) : s.core.stage.Unarmed t.core.stage := by
  unfold execPowerOnReset at h
  split at h
  · rw [← Host.Outcome.next.inj h]
    exact powerOnReset_unarmed (.refl _) ..
  · exact unarmed_of_whenPowered h (powerOnReset_unarmed (.refl _) ..)

/-- Only the end of an entry to ARMED leads there. -/
theorem exec_unarmed {c : Instr} {s t : State} (h : exec c s = .next t) (hc : ∀ ack, c ≠ .armedEntryDone ack) :
    s.core.stage.Unarmed t.core.stage := by
  by_cases hcore : c.actsOnCore = true
  · cases c
    case armedEntryDone ack => exact absurd rfl (hc ack)
    case powerOnReset => exact execPowerOnReset_unarmed h
    all_goals first
      | exact Bool.noConfusion (show false = true from hcore)
      | (refine unarmed_of_whenPowered h ?_; simp (maxDischargeDepth := 40) -implicitDefEqProofs)
  · rw [exec_core h (by simpa using hcore)]
    exact .refl _

theorem armedEntryDone_unarmed {s : State} {ack : Nat}
    (h : ∀ x, s.transit = some x → x.kind ≠ .armedEntry) : s.core.stage.Unarmed (armedEntryDone ack s).core.stage := by
  unfold armedEntryDone
  split
  · next x hx =>
    rw [State.core_ite, Core.stage_either]
    refine .either (.refl _) ?_
    split
    · simp (maxDischargeDepth := 40) -implicitDefEqProofs
    · next hk => exact absurd hk (h x hx)
    · exact .refl _
  · exact .refl _

/-- ARMED is entered only while an entry to ARMED is in progress. -/
theorem exec_enters_armed {c : Instr} {s t : State} (h : exec c s = .next t) (ht : t.mode = .armed)
    (hs : s.mode ≠ .armed) : ∃ x, s.transit = some x ∧ x.kind = .armedEntry := by
  by_contra hx
  have hx' : ∀ x, s.transit = some x → x.kind ≠ .armedEntry := fun x h1 h2 => hx ⟨x, h1, h2⟩
  refine hs ?_
  by_cases hc : ∃ ack, c = .armedEntryDone ack
  · obtain ⟨ack, rfl⟩ := hc
    exact (unarmed_of_whenPowered h (armedEntryDone_unarmed hx')).of_armed ht
  · exact (exec_unarmed h fun ack e => hc ⟨ack, e⟩).of_armed ht


/-! ### RUN is left only for HOLD, by a reset, a loss of supply or LATCH (O14) -/

@[simp ↓] theorem either_true {α : Type} (a b : α) : either True a b = a := if_pos trivial

@[simp ↓] theorem either_false {α : Type} (a b : α) : either False a b = b := if_neg not_false

/-- The modes that RUN may lead to while no transition and no load is in progress. -/
def outOfRun : Mode → Bool
  | .run | .hold | .latched | .dormant | .boot => true
  | _ => false

@[simp] theorem outOfRun_run : outOfRun .run = true := rfl
@[simp] theorem outOfRun_hold : outOfRun .hold = true := rfl
@[simp] theorem outOfRun_latched : outOfRun .latched = true := rfl
@[simp] theorem outOfRun_dormant : outOfRun .dormant = true := rfl
@[simp] theorem outOfRun_boot : outOfRun .boot = true := rfl

/-- No load but of an overlay is in progress. -/
def overlayOnly : Option Load → Bool
  | some l => l.overlay
  | none => true

@[simp] theorem overlayOnly_none : overlayOnly none = true := rfl
@[simp] theorem overlayOnly_some (l : Load) : overlayOnly (some l) = l.overlay := rfl

/-- The stage is in one of the modes that RUN may lead to, with no load of a Pattern in progress. -/
structure Stage.AfterRun (b : Stage) : Prop where
  of_mode : outOfRun b.mode = true
  of_load : overlayOnly b.load = true

@[simp ↓] theorem Stage.AfterRun.either {b c : Stage} {p : Prop} [Decidable p] (hb : b.AfterRun) (hc : c.AfterRun) :
    Stage.AfterRun (either p b c) := by
  unfold Sys2Proof.Machine.either
  split <;> assumption

theorem Stage.AfterRun.update {s : State} (h : s.core.stage.AfterRun) {t : State}
    (hm : outOfRun s.mode = true → outOfRun t.mode = true)
    (hl : overlayOnly s.load = true → overlayOnly t.load = true) : t.core.stage.AfterRun :=
  ⟨hm h.of_mode, hl h.of_load⟩

@[simp ↓] theorem Stage.AfterRun.record {s : State}
    (powered : Bool) (clk : Clocks) (mode : Mode) (transit : Option Transit) (hold : Option HoldReq)
    (trim : TrimSel) (load : Option Load) (pat : PatSt) (ap : NMap Word) (mem : List Host.Cell)
    (bench : NMap BenchSt) (time : TimeSt) (segs : Segs) (looms : NMap Loom) (lanes : NMap Lane) (out : OutSt)
    (chans : NMap Chan) (adcs : NMap Adc) (engines : NMap Engine) (xyStages : NMap (Option XyStage)) (dec : DecSt)
    (fms : NMap Fm) (memc : MemSt) (tally : Tally) (fabric : Fabric) (slow : Slow) (therm : Therm) (host : HostSt)
    (pins : Pins) (captures : NMap Nat) (recent : NMap (Nat × Nat)) (setvAt : NMap Nat)
    (later : NMap (List (Nat × Nat))) (readData : Nat) (outbox : List Out) (freeCtr : Nat)
    (hs : s.core.stage.AfterRun) (hm : outOfRun s.mode = true → outOfRun mode = true)
    (hl : overlayOnly s.load = true → overlayOnly load = true) :
    Stage.AfterRun (State.core
      { s with
        powered := powered, clk := clk, mode := mode, transit := transit, hold := hold, trim := trim
        load := load, pat := pat, ap := ap, mem := mem, bench := bench, time := time, segs := segs
        looms := looms, lanes := lanes, out := out, chans := chans, adcs := adcs, engines := engines
        xyStages := xyStages, dec := dec, fms := fms, memc := memc, tally := tally, fabric := fabric
        slow := slow, therm := therm, host := host, pins := pins, captures := captures, recent := recent
        setvAt := setvAt, later := later, readData := readData, outbox := outbox, freeCtr := freeCtr }).stage :=
  hs.update hm hl

@[simp ↓] theorem Stage.AfterRun.foldAll {α : Type} {s : State} {f : State → α → State}
    (h : s.core.stage.AfterRun) (hf : ∀ t x, t.core.stage.AfterRun → (f t x).core.stage.AfterRun) (xs : List α) :
    (foldAll f s xs).core.stage.AfterRun :=
  foldAll_induct (fun t : State => t.core.stage.AfterRun) hf xs s h


@[simp ↓] theorem State.enter_out {s : State} (h : s.core.stage.AfterRun) {m : Mode} (hm : outOfRun m = true)
    (cause : Nat) : (s.enter m cause).core.stage.AfterRun := by
  unfold State.enter
  simp (maxDischargeDepth := 40) -implicitDefEqProofs [h, hm]

@[simp ↓] theorem shot_out {s : State} (h : s.core.stage.AfterRun) (b : Nat) :
    (shot b s).core.stage.AfterRun := by
  unfold shot
  dsimp only
  split <;> simp (maxDischargeDepth := 40) -implicitDefEqProofs [h]

@[simp ↓] theorem State.coreLost_out {s : State} (h : s.core.stage.AfterRun) (keep : Nat → Bool) (open_ : Bool) :
    (s.coreLost keep open_).core.stage.AfterRun := by
  unfold State.coreLost
  dsimp only
  simp (maxDischargeDepth := 40) -implicitDefEqProofs [h]

@[simp ↓] theorem State.become_out {s : State} (h : s.core.stage.AfterRun) {m : Mode} (hm : outOfRun m = true)
    (cause : Nat) : (s.become m cause).core.stage.AfterRun := by
  unfold State.become
  dsimp only
  simp (maxDischargeDepth := 40) -implicitDefEqProofs [h, hm]

@[simp ↓] theorem State.beginTo_out {s : State} (h : s.core.stage.AfterRun) (dst : Mode) (kind : TransKind) (ticks : Nat) :
    (s.beginTo dst kind ticks).core.stage.AfterRun := by
  unfold State.beginTo
  simp (maxDischargeDepth := 40) -implicitDefEqProofs [h]

@[simp ↓] theorem State.beginService_out {s : State} (h : s.core.stage.AfterRun)  :
    s.beginService.core.stage.AfterRun := by
  unfold State.beginService
  simp (maxDischargeDepth := 40) -implicitDefEqProofs [h]

@[simp ↓] theorem State.beginIdle_out {s : State} (h : s.core.stage.AfterRun)  :
    s.beginIdle.core.stage.AfterRun := by
  unfold State.beginIdle
  simp (maxDischargeDepth := 40) -implicitDefEqProofs [h]

@[simp ↓] theorem State.followUp_out {s : State} (h : s.core.stage.AfterRun) (f : Option Mode) :
    (s.followUp f).core.stage.AfterRun := by
  unfold State.followUp
  split <;> simp (maxDischargeDepth := 40) -implicitDefEqProofs [h]

@[simp ↓] theorem State.holdNow_out {s : State} (h : s.core.stage.AfterRun) (code : Nat) (poison : Option (Nat × Nat)) :
    (s.holdNow code poison).core.stage.AfterRun := by
  unfold State.holdNow
  dsimp only
  split <;> simp (maxDischargeDepth := 40) -implicitDefEqProofs [h]

@[simp ↓] theorem shotBoundary_out {s : State} (h : s.core.stage.AfterRun)  :
    (shotBoundary s).core.stage.AfterRun := by
  unfold shotBoundary
  dsimp only
  split <;> simp (maxDischargeDepth := 40) -implicitDefEqProofs [h]

@[simp ↓] theorem startConditionMet_out {s : State} (h : s.core.stage.AfterRun)  :
    (startConditionMet s).core.stage.AfterRun := by
  unfold startConditionMet
  dsimp only
  simp (maxDischargeDepth := 40) -implicitDefEqProofs [h]

@[simp ↓] theorem State.pllLockStep_out {s : State} (h : s.core.stage.AfterRun)  :
    s.pllLockStep.core.stage.AfterRun := by
  unfold State.pllLockStep
  dsimp only
  simp (maxDischargeDepth := 40) -implicitDefEqProofs [h]

@[simp ↓] theorem State.entrySteps_out {s : State} (h : s.core.stage.AfterRun)  :
    s.entrySteps.core.stage.AfterRun := by
  unfold State.entrySteps
  simp (maxDischargeDepth := 40) -implicitDefEqProofs [h]

@[simp ↓] theorem State.holdAsk_out {s : State} (h : s.core.stage.AfterRun) (follow : Option Mode) :
    (s.holdAsk follow).core.stage.AfterRun := by
  unfold State.holdAsk
  dsimp only
  simp (maxDischargeDepth := 40) -implicitDefEqProofs [h]

@[simp ↓] theorem State.keepExit_out {s : State} (h : s.core.stage.AfterRun) (toArmed : Bool) :
    (s.keepExit toArmed).core.stage.AfterRun := by
  unfold State.keepExit
  simp (maxDischargeDepth := 40) -implicitDefEqProofs [h]

@[simp ↓] theorem modeReqIdle_out {s : State} (h : s.core.stage.AfterRun)  :
    (modeReqIdle s).core.stage.AfterRun := by
  unfold modeReqIdle
  split
  · simp (maxDischargeDepth := 40) -implicitDefEqProofs [h]
  · split <;> simp (maxDischargeDepth := 40) -implicitDefEqProofs [h]

@[simp ↓] theorem modeReqKeep_out {s : State} (h : s.core.stage.AfterRun)  :
    (modeReqKeep s).core.stage.AfterRun := by
  unfold modeReqKeep
  simp (maxDischargeDepth := 40) -implicitDefEqProofs [h]

@[simp ↓] theorem modeReqDormant_out {s : State} (h : s.core.stage.AfterRun)  :
    (modeReqDormant s).core.stage.AfterRun := by
  unfold modeReqDormant
  simp (maxDischargeDepth := 40) -implicitDefEqProofs [h]

@[simp ↓] theorem modeReqTrim_out {s : State} (h : s.core.stage.AfterRun) (conv skew survey full : Bool) :
    (modeReqTrim conv skew survey full s).core.stage.AfterRun := by
  unfold modeReqTrim
  simp (maxDischargeDepth := 40) -implicitDefEqProofs [h]

@[simp ↓] theorem State.beginArmed_out {s : State} (h : s.core.stage.AfterRun)  :
    s.beginArmed.core.stage.AfterRun := by
  unfold State.beginArmed
  split <;> simp (maxDischargeDepth := 40) -implicitDefEqProofs [h]

@[simp ↓] theorem modeReqArmed_out {s : State} (h : s.core.stage.AfterRun)  :
    (modeReqArmed s).core.stage.AfterRun := by
  unfold modeReqArmed
  dsimp only
  simp (maxDischargeDepth := 40) -implicitDefEqProofs [h]

@[simp ↓] theorem modeReqHold_out {s : State} (h : s.core.stage.AfterRun)  :
    (modeReqHold s).core.stage.AfterRun := by
  unfold modeReqHold
  split
  · simp (maxDischargeDepth := 40) -implicitDefEqProofs [h]
  · split <;> simp (maxDischargeDepth := 40) -implicitDefEqProofs [h]

@[simp ↓] theorem modeReqHoldForce_out {s : State} (h : s.core.stage.AfterRun)  :
    (modeReqHoldForce s).core.stage.AfterRun := by
  unfold modeReqHoldForce
  split
  · simp (maxDischargeDepth := 40) -implicitDefEqProofs [h]
  · split <;> simp (maxDischargeDepth := 40) -implicitDefEqProofs [h]

@[simp ↓] theorem modeReqService_out {s : State} (h : s.core.stage.AfterRun)  :
    (modeReqService s).core.stage.AfterRun := by
  unfold modeReqService
  split
  · simp (maxDischargeDepth := 40) -implicitDefEqProofs [h]
  · split <;> simp (maxDischargeDepth := 40) -implicitDefEqProofs [h]

@[simp ↓] theorem State.latchOff_out {s : State} (h : s.core.stage.AfterRun)  :
    s.latchOff.core.stage.AfterRun := by
  unfold State.latchOff
  dsimp only
  simp (maxDischargeDepth := 40) -implicitDefEqProofs [h]

@[simp ↓] theorem State.resetCommon_out {s : State} (h : s.core.stage.AfterRun) (keep : Nat → Bool) :
    (s.resetCommon keep).core.stage.AfterRun := by
  unfold State.resetCommon
  simp (maxDischargeDepth := 40) -implicitDefEqProofs [h]

@[simp ↓] theorem State.powerOn_out {s : State} (h : s.core.stage.AfterRun) (straps : Nat) :
    (s.powerOn straps).core.stage.AfterRun :=
  h.update (t := s.powerOn straps) (fun _ => rfl) fun _ => rfl

@[simp ↓] theorem State.supplyOn_out {s : State} (h : s.core.stage.AfterRun) (straps : Nat) :
    (s.supplyOn straps).core.stage.AfterRun := by
  unfold State.supplyOn
  dsimp only
  simp (maxDischargeDepth := 40) -implicitDefEqProofs [h]

@[simp ↓] theorem powerOnReset_out {s : State} (h : s.core.stage.AfterRun) (vdd : Bool) (straps : Nat) :
    (powerOnReset vdd straps s).core.stage.AfterRun := by
  unfold powerOnReset
  dsimp only
  simp (maxDischargeDepth := 40) -implicitDefEqProofs [h]

@[simp ↓] theorem State.supplyOff_out {s : State} (h : s.core.stage.AfterRun)  :
    s.supplyOff.core.stage.AfterRun := by
  unfold State.supplyOff
  dsimp only
  simp (maxDischargeDepth := 40) -implicitDefEqProofs [h]

@[simp ↓] theorem pwrgdLow_out {s : State} (h : s.core.stage.AfterRun)  :
    (pwrgdLow s).core.stage.AfterRun := by
  unfold pwrgdLow
  dsimp only
  simp (maxDischargeDepth := 40) -implicitDefEqProofs [h]

@[simp ↓] theorem vddAonRemoved_out {s : State} (h : s.core.stage.AfterRun)  :
    (vddAonRemoved s).core.stage.AfterRun := by
  unfold vddAonRemoved
  dsimp only
  simp (maxDischargeDepth := 40) -implicitDefEqProofs [h]

@[simp ↓] theorem resetN_out {s : State} (h : s.core.stage.AfterRun) (straps : Nat) :
    (resetN straps s).core.stage.AfterRun := by
  unfold resetN
  dsimp only
  simp (maxDischargeDepth := 40) -implicitDefEqProofs [h]

@[simp ↓] theorem State.warm_out {s : State} (h : s.core.stage.AfterRun) (cause : Bits) :
    (s.warm cause).core.stage.AfterRun := by
  unfold State.warm
  dsimp only
  simp (maxDischargeDepth := 40) -implicitDefEqProofs [h]

@[simp ↓] theorem warmReset_out {s : State} (h : s.core.stage.AfterRun) (byPorter : Bool) :
    (warmReset byPorter s).core.stage.AfterRun := by
  unfold warmReset
  simp (maxDischargeDepth := 40) -implicitDefEqProofs [h]

@[simp ↓] theorem State.boots_out {s : State} (h : s.core.stage.AfterRun)  :
    s.boots.core.stage.AfterRun := by
  unfold State.boots
  dsimp only
  simp (maxDischargeDepth := 40) -implicitDefEqProofs [h]

@[simp ↓] theorem bootRequest_out {s : State} (h : s.core.stage.AfterRun)  :
    (bootRequest s).core.stage.AfterRun := by
  unfold bootRequest
  split <;> simp (maxDischargeDepth := 40) -implicitDefEqProofs [h]

@[simp ↓] theorem wakeTimer_out {s : State} (h : s.core.stage.AfterRun)  :
    (wakeTimer s).core.stage.AfterRun := by
  unfold wakeTimer
  simp (maxDischargeDepth := 40) -implicitDefEqProofs [h]

@[simp ↓] theorem wakeTrig_out {s : State} (h : s.core.stage.AfterRun) (line : Nat) :
    (wakeTrig line s).core.stage.AfterRun := by
  unfold wakeTrig
  simp (maxDischargeDepth := 40) -implicitDefEqProofs [h]

@[simp ↓] theorem State.intentFinish_out {s : State} (h : s.core.stage.AfterRun) (t : Nat) :
    (s.intentFinish t).core.stage.AfterRun := by
  unfold State.intentFinish
  dsimp only
  simp (maxDischargeDepth := 40) -implicitDefEqProofs [h]

@[simp ↓] theorem bootFail_out {s : State} (h : s.core.stage.AfterRun)  :
    (bootFail s).core.stage.AfterRun := by
  unfold bootFail
  dsimp only
  simp (maxDischargeDepth := 40) -implicitDefEqProofs [h]

@[simp ↓] theorem wipeComplete_out {s : State} (h : s.core.stage.AfterRun) :
    (wipeComplete s).core.stage.AfterRun := by
  unfold wipeComplete
  dsimp only
  split <;> simp (maxDischargeDepth := 40) -implicitDefEqProofs [h]

@[simp ↓] theorem State.latchTake_out {s : State} (h : s.core.stage.AfterRun) (sensor cause : Nat) (rise : Int) :
    (s.latchTake sensor cause rise).core.stage.AfterRun := by
  unfold State.latchTake
  dsimp only
  simp (maxDischargeDepth := 40) -implicitDefEqProofs [h]

@[simp ↓] theorem shedDeadline_out {s : State} (h : s.core.stage.AfterRun)  :
    (shedDeadline s).core.stage.AfterRun := by
  unfold shedDeadline
  split <;> simp (maxDischargeDepth := 40) -implicitDefEqProofs [h]

@[simp ↓] theorem latchedEntry_out {s : State} (h : s.core.stage.AfterRun)  :
    (latchedEntry s).core.stage.AfterRun := by
  unfold latchedEntry
  dsimp only
  split <;> simp (maxDischargeDepth := 40) -implicitDefEqProofs [h]

@[simp ↓] theorem State.maint_out {s : State} (h : s.core.stage.AfterRun) (m : Option Maint) :
    (s.maint m).core.stage.AfterRun := by
  unfold State.maint
  dsimp only
  simp (maxDischargeDepth := 40) -implicitDefEqProofs [h]

@[simp ↓] theorem State.retrainAll_out {s : State} (h : s.core.stage.AfterRun)  :
    s.retrainAll.core.stage.AfterRun := State.maint_out h _

@[simp ↓] theorem retrainStart_out {s : State} (h : s.core.stage.AfterRun)  :
    (retrainStart s).core.stage.AfterRun := by
  unfold retrainStart
  simp (maxDischargeDepth := 40) -implicitDefEqProofs [h]

@[simp ↓] theorem State.trained_out {s : State} (h : s.core.stage.AfterRun)  :
    s.trained.core.stage.AfterRun := by
  unfold State.trained
  simp (maxDischargeDepth := 40) -implicitDefEqProofs [h]

@[simp ↓] theorem retirementStart_out {s : State} (h : s.core.stage.AfterRun)  :
    (retirementStart s).core.stage.AfterRun := by
  unfold retirementStart
  split <;> simp (maxDischargeDepth := 40) -implicitDefEqProofs [h]

@[simp ↓] theorem State.lifeChange_out {s : State} (h : s.core.stage.AfterRun) (target : LifeCycle) (hash : Nat) (key : Bool) :
    (s.lifeChange target hash key).core.stage.AfterRun := by
  unfold State.lifeChange
  dsimp only
  simp (maxDischargeDepth := 40) -implicitDefEqProofs [h]

@[simp ↓] theorem porterCommandDone_out {s : State} (h : s.core.stage.AfterRun)  :
    (porterCommandDone s).core.stage.AfterRun := by
  unfold porterCommandDone
  split
  case h_5 => split <;> simp (maxDischargeDepth := 40) -implicitDefEqProofs [h]
  all_goals simp (maxDischargeDepth := 40) -implicitDefEqProofs [h, State.lifeChange_out]

@[simp ↓] theorem railTrip_out {s : State} (h : s.core.stage.AfterRun) (n : Nat) :
    (railTrip n s).core.stage.AfterRun := by
  unfold railTrip
  dsimp only
  simp (maxDischargeDepth := 40) -implicitDefEqProofs [h]

@[simp ↓] theorem railRecover_out {s : State} (h : s.core.stage.AfterRun) (straps : Nat) :
    (railRecover straps s).core.stage.AfterRun := by
  unfold railRecover
  dsimp only
  simp (maxDischargeDepth := 40) -implicitDefEqProofs [h]

@[simp ↓] theorem State.modeReqWrite_out {s : State} (h : s.core.stage.AfterRun) (v : Nat) :
    (s.modeReqWrite v).core.stage.AfterRun := by
  unfold State.modeReqWrite
  split <;> simp (maxDischargeDepth := 40) -implicitDefEqProofs [h]


theorem Stage.AfterRun.overlay {s : State} (h : s.core.stage.AfterRun) {l : Load} (hl : s.load = some l) :
    l.overlay = true := by
  have hs : overlayOnly s.load = true := h.of_load
  rwa [hl] at hs

theorem Stage.AfterRun.mode_ne {s : State} (h : s.core.stage.AfterRun) {m : Mode} (hm : outOfRun m = false) :
    s.mode ≠ m := by
  rintro rfl
  exact Bool.noConfusion (hm.symm.trans h.of_mode)

@[simp ↓] theorem State.loadStart_out {s : State} (h : s.core.stage.AfterRun) (overlay : Bool) :
    (s.loadStart overlay).core.stage.AfterRun := by
  unfold State.loadStart
  have hm : (s.mode != .idle) = true := by simpa using h.mode_ne (m := .idle) rfl
  cases overlay <;> simp (maxDischargeDepth := 40) -implicitDefEqProofs [h, hm]

@[simp ↓] theorem patternLoadStart_out {s : State} (h : s.core.stage.AfterRun) :
    (patternLoadStart s).core.stage.AfterRun := State.loadStart_out h _

@[simp ↓] theorem overlayStart_out {s : State} (h : s.core.stage.AfterRun) :
    (overlayStart s).core.stage.AfterRun := State.loadStart_out h _

@[simp ↓] theorem State.loadEnd_out {s : State} (h : s.core.stage.AfterRun) {l : Load} (hl : l.overlay = true)
    (wipe : Bool) (err sec : Nat) : (s.loadEnd l wipe err sec).core.stage.AfterRun := by
  unfold State.loadEnd
  dsimp only
  simp (maxDischargeDepth := 40) -implicitDefEqProofs [h, hl]

@[simp ↓] theorem patternAbort_out {s : State} (h : s.core.stage.AfterRun) :
    (patternAbort s).core.stage.AfterRun := by
  unfold patternAbort
  split
  · next l hl => simp (maxDischargeDepth := 40) -implicitDefEqProofs [h, h.overlay hl]
  · exact h

@[simp ↓] theorem checkPhaseDone_out {s : State} (h : s.core.stage.AfterRun) (c : CheckResult) :
    (checkPhaseDone c s).core.stage.AfterRun := by
  unfold checkPhaseDone
  dsimp only
  split
  · exact h
  · next l hl => simp (maxDischargeDepth := 40) -implicitDefEqProofs [h, h.overlay hl]

@[simp ↓] theorem State.loadFailed_out {t : State} (h : t.core.stage.AfterRun) (s : State) (x : Image)
    {l : Load} (hl : l.overlay = true) (wipe : Bool) (i : Nat) : (s.loadFailed t x l wipe i).core.stage.AfterRun := by
  unfold State.loadFailed
  dsimp only
  simp (maxDischargeDepth := 40) -implicitDefEqProofs [h, hl]

@[simp ↓] theorem applyPhaseDone_out {s : State} (h : s.core.stage.AfterRun) (fails : Option Nat) :
    (applyPhaseDone fails s).core.stage.AfterRun := by
  unfold applyPhaseDone
  split
  · exact h
  · next l hl =>
    rw [State.core_ite, Core.stage_either]
    refine .either h (.foldAll ?_ (fun t b ht => by rwa [State.benchResetBegin_core]) _)
    split
    · refine State.loadFailed_out ?_ _ _ (h.overlay hl) ..
      rwa [State.staged__stage]
    · refine State.loadEnd_out ?_ (h.overlay hl) ..
      simpa -implicitDefEqProofs using h

@[simp ↓] theorem State.benchResetOne_out {s : State} (h : s.core.stage.AfterRun) (b : Nat) :
    (s.benchResetOne b).core.stage.AfterRun := by
  unfold State.benchResetOne
  split
  · simp (maxDischargeDepth := 40) -implicitDefEqProofs [h]
  · next l hl =>
    split
    · split <;> simp (maxDischargeDepth := 40) -implicitDefEqProofs [h, h.overlay hl]
    · simp (maxDischargeDepth := 40) -implicitDefEqProofs [h]

@[simp ↓] theorem benchReset_out {s : State} (h : s.core.stage.AfterRun) (mask : Nat) :
    (benchReset mask s).core.stage.AfterRun := by
  unfold benchReset
  simp (contextual := true) (maxDischargeDepth := 40) -implicitDefEqProofs [h]

@[simp ↓] theorem State.resetWrite_out {s : State} (h : s.core.stage.AfterRun) (who : Who) (v : Nat) :
    (s.resetWrite who v).core.stage.AfterRun := by
  unfold State.resetWrite
  simp (maxDischargeDepth := 40) -implicitDefEqProofs [h]

@[simp ↓] theorem State.patCtlWrite_out {s : State} (h : s.core.stage.AfterRun) (v : Nat) :
    (s.patCtlWrite v).core.stage.AfterRun := by
  unfold State.patCtlWrite
  dsimp only
  simp (maxDischargeDepth := 40) -implicitDefEqProofs [h]

@[simp ↓] theorem State.topWrite_out {s : State} (h : s.core.stage.AfterRun) (who : Who) (d : RegDesc) (off v : Nat) :
    (s.topWrite who d off v).core.stage.AfterRun := by
  unfold State.topWrite
  simp (maxDischargeDepth := 40) -implicitDefEqProofs [h]

@[simp ↓] theorem State.writeReg_out {s : State} (h : s.core.stage.AfterRun) (who : Who) (view v : Nat) :
    (s.writeReg who view v).core.stage.AfterRun := by
  unfold State.writeReg
  dsimp only
  split <;> simp (maxDischargeDepth := 40) -implicitDefEqProofs [h]

@[simp ↓] theorem State.writeRegs_out {s : State} (h : s.core.stage.AfterRun) (who : Who) (view size v : Nat) :
    (s.writeRegs who view size v).core.stage.AfterRun := by
  unfold State.writeRegs
  split
  · simp (maxDischargeDepth := 40) -implicitDefEqProofs [h]
  · split <;> simp (maxDischargeDepth := 40) -implicitDefEqProofs [h]

@[simp ↓] theorem apertureWrite_out {s : State} (h : s.core.stage.AfterRun) (who : Who) (off size v : Nat) :
    (apertureWrite who off size v s).core.stage.AfterRun := by
  unfold apertureWrite
  simp (maxDischargeDepth := 40) -implicitDefEqProofs [h]

@[simp ↓] theorem registerWrite_out {s : State} (h : s.core.stage.AfterRun) (who : Who) (dev off size v : Nat) :
    (registerWrite who dev off size v s).core.stage.AfterRun := by
  unfold registerWrite
  simp (maxDischargeDepth := 40) -implicitDefEqProofs [h]


/-- As `Stage.AfterRun`, with no transition in progress. -/
structure Stage.Free (b : Stage) : Prop where
  afterRun : b.AfterRun
  of_transit : b.transit = none

theorem Stage.Free.transit {s : State} (h : s.core.stage.Free) : s.transit = none := h.of_transit

@[simp ↓] theorem Stage.Free.either {b c : Stage} {p : Prop} [Decidable p] (hb : b.Free) (hc : c.Free) :
    Stage.Free (either p b c) := by
  unfold Sys2Proof.Machine.either
  split <;> assumption

@[simp ↓] theorem State.maint_free {s : State} (h : s.core.stage.Free) (m : Option Maint) :
    (s.maint m).core.stage.Free := ⟨State.maint_out h.afterRun m, h.of_transit⟩

@[simp ↓] theorem State.shedMode_out {s : State} (h : s.core.stage.Free) : s.shedMode.core.stage.AfterRun := by
  unfold State.shedMode
  rw [h.transit]
  have hr := h.afterRun
  dsimp only
  split
  · simp (maxDischargeDepth := 40) -implicitDefEqProofs [hr]
  · simp (maxDischargeDepth := 40) -implicitDefEqProofs [hr]
  · next hm => exact absurd hm (hr.mode_ne rfl)
  · next hm => exact absurd hm (hr.mode_ne rfl)
  · exact hr

@[simp ↓] theorem State.convOffMode_out {s : State} (h : s.core.stage.Free) : s.convOffMode.core.stage.AfterRun := by
  unfold State.convOffMode
  rw [h.transit]
  have hr := h.afterRun
  dsimp only
  split
  · simp (maxDischargeDepth := 40) -implicitDefEqProofs [hr]
  · simp (maxDischargeDepth := 40) -implicitDefEqProofs [hr]
  · next hm => exact absurd hm (hr.mode_ne rfl)
  · next hm => exact absurd hm (hr.mode_ne rfl)
  · exact hr

@[simp ↓] theorem State.refLossMode_out {s : State} (h : s.core.stage.Free) (cause : Nat) :
    (s.refLossMode cause).core.stage.AfterRun := by
  unfold State.refLossMode
  rw [h.transit]
  have hr := h.afterRun
  rw [State.core_ite, Core.stage_either]
  refine .either hr ?_
  dsimp only
  split
  · simp (maxDischargeDepth := 40) -implicitDefEqProofs [hr]
  · simp (maxDischargeDepth := 40) -implicitDefEqProofs [hr]
  · next hm => exact absurd hm (hr.mode_ne rfl)
  · exact hr

@[simp ↓] theorem State.budgetMode_out {s : State} (h : s.core.stage.Free) : s.budgetMode.core.stage.AfterRun := by
  unfold State.budgetMode
  rw [h.transit]
  have hr := h.afterRun
  dsimp only
  split <;> simp (maxDischargeDepth := 40) -implicitDefEqProofs [hr]

@[simp ↓] theorem State.convOffTake_out {s : State} (h : s.core.stage.Free) (sensor : Nat) :
    (s.convOffTake sensor).core.stage.AfterRun := by
  unfold State.convOffTake
  dsimp only
  simp (maxDischargeDepth := 40) -implicitDefEqProofs [h]

@[simp ↓] theorem State.refLost_out {s : State} (h : s.core.stage.Free) (cause : LossCause) :
    (s.refLost cause).core.stage.AfterRun := by
  unfold State.refLost
  dsimp only
  simp (maxDischargeDepth := 40) -implicitDefEqProofs [h]

@[simp ↓] theorem refLoss_out {s : State} (h : s.core.stage.Free) (cause : LossCause) :
    (refLoss cause s).core.stage.AfterRun := by
  unfold refLoss
  simp (maxDischargeDepth := 40) -implicitDefEqProofs [h, h.afterRun]

@[simp ↓] theorem pllLockLoss_out {s : State} (h : s.core.stage.Free) (core : Bool) :
    (pllLockLoss core s).core.stage.AfterRun := by
  unfold pllLockLoss
  dsimp only
  simp (maxDischargeDepth := 40) -implicitDefEqProofs [h, h.afterRun]

@[simp ↓] theorem State.capChanged_out {s : State} (h : s.core.stage.Free) : s.capChanged.core.stage.AfterRun := by
  unfold State.capChanged
  dsimp only
  simp (maxDischargeDepth := 40) -implicitDefEqProofs [h, h.afterRun]

@[simp ↓] theorem State.deviceDead_out {s : State} (h : s.core.stage.Free) (d : Nat) :
    (s.deviceDead d).core.stage.AfterRun := by
  unfold State.deviceDead
  dsimp only
  simp (maxDischargeDepth := 40) -implicitDefEqProofs [h]

@[simp ↓] theorem State.ladder_out {s : State} (h : s.core.stage.Free) (d : Nat) :
    (s.ladder d).core.stage.AfterRun := by
  unfold State.ladder
  dsimp only
  split
  · simp (maxDischargeDepth := 40) -implicitDefEqProofs [h, h.afterRun]
  · split <;> simp (maxDischargeDepth := 40) -implicitDefEqProofs [h, h.afterRun]

@[simp ↓] theorem retrainDone_out {s : State} (h : s.core.stage.Free) (failing : Option Nat) :
    (retrainDone failing s).core.stage.AfterRun := by
  unfold retrainDone
  (repeat' split) <;> simp (maxDischargeDepth := 40) -implicitDefEqProofs [h, h.afterRun]

@[simp ↓] theorem migrationDone_out {s : State} (h : s.core.stage.Free) :
    (migrationDone s).core.stage.AfterRun := by
  unfold migrationDone
  dsimp only
  split <;> simp (maxDischargeDepth := 40) -implicitDefEqProofs [h, h.afterRun]

@[simp ↓] theorem thermalSample_out {s : State} (h : s.core.stage.Free) (temps : List Int)
    (ds : List (Option Int)) : (thermalSample temps ds s).core.stage.AfterRun := by
  unfold thermalSample
  rw [State.core_ite, Core.stage_either]
  refine .either h.afterRun ?_
  extract_lets ts first fails rises shedR latchR hi hiShed s1 src s2 s3 raw tj hot act
  have h1 : s1.core.stage.Free := by rwa [State.thermRecord_stage]
  rw [State.core_ite, Core.stage_either]
  refine .either h1.afterRun ?_
  clear_value s1
  have h2 : s2.core.stage.Free := by
    simp only [s2, State.core_ite, Core.stage_either]
    exact .either h1 h1
  clear_value s2
  have h3 : s3.core.stage.Free := by rwa [State.thermFlags_core]
  clear_value s3
  have hact : act.core.stage.AfterRun := by
    simp only [act]
    clear_value latchR
    rw [State.core_ite, Core.stage_either]
    refine .either (State.latchTake_out h3.afterRun ..) ?_
    cases latchR
    · simp (maxDischargeDepth := 40) -implicitDefEqProofs [h3, h3.afterRun]
    · exact State.latchTake_out h3.afterRun ..
  clear_value act
  exact hact.update id id

@[simp ↓] theorem transitionDone_out {s : State} (h : s.core.stage.Free) : (transitionDone s).core.stage.AfterRun := by
  unfold transitionDone
  rw [h.transit]
  exact h.afterRun

@[simp ↓] theorem armedEntryDone_out {s : State} (h : s.core.stage.Free) (ack : Nat) :
    (armedEntryDone ack s).core.stage.AfterRun := by
  unfold armedEntryDone
  rw [h.transit]
  exact h.afterRun

@[simp ↓] theorem keepExitDone_out {s : State} (h : s.core.stage.Free) : (keepExitDone s).core.stage.AfterRun := by
  unfold keepExitDone
  rw [h.transit]
  exact h.afterRun

@[simp ↓] theorem trimDone_out {s : State} (h : s.core.stage.AfterRun) (cal : List (BitVec 14)) :
    (trimDone cal s).core.stage.AfterRun := by
  have hr : s.trimReady = false := by
    have hm := h.mode_ne (m := .trim) rfl
    simp [State.trimReady, hm]
  unfold trimDone
  rw [if_neg (by simp [hr])]
  exact h

theorem firmwareVerified_out {s : State} (h : s.core.stage.AfterRun) (hm : s.mode = .run) (alternate : Bool) :
    (firmwareVerified alternate s).core.stage.AfterRun := by
  unfold firmwareVerified
  simpa -implicitDefEqProofs [hm] using h

theorem afterRun_of_whenPowered {s t : State} {f : State → State} (h : whenPowered s f = .next t)
    (hf : (f s).core.stage.AfterRun) : t.core.stage.AfterRun := by
  obtain ⟨-, rfl⟩ := whenPowered_next.1 h
  exact hf

theorem execPowerOnReset_out {s t : State} {vddRose : Bool} {straps : Fin 64} (hs : s.core.stage.AfterRun)
    (h : execPowerOnReset vddRose straps s = .next t) : t.core.stage.AfterRun := by
  unfold execPowerOnReset at h
  split at h
  · rw [← Host.Outcome.next.inj h]
    exact powerOnReset_out hs ..
  · exact afterRun_of_whenPowered h (powerOnReset_out hs ..)

/-- Where RUN with no transition and no load in progress may lead to. -/
theorem exec_out {c : Instr} {s t : State} (h : exec c s = .next t) (hs : s.core.stage.Free) (hm : s.mode = .run) :
    t.core.stage.AfterRun := by
  have hr := hs.afterRun
  by_cases hcore : c.actsOnCore = true
  · cases c
    case powerOnReset => exact execPowerOnReset_out hr h
    case firmwareVerified alternate => exact afterRun_of_whenPowered h (firmwareVerified_out hr hm alternate)
    all_goals first
      | exact Bool.noConfusion (show false = true from hcore)
      | (refine afterRun_of_whenPowered h ?_; simp (maxDischargeDepth := 40) -implicitDefEqProofs [hs, hr])
  · rw [exec_core h (by simpa using hcore)]
    exact hr

theorem exec_leaves_run {c : Instr} {s t : State} (h : exec c s = .next t) (hm : s.mode = .run)
    (ht : s.transit = none) (hl : s.load = none) :
    t.mode = .run ∨ t.mode = .hold ∨ t.mode = .latched ∨ t.mode = .dormant ∨ t.mode = .boot := by
  have hs : s.core.stage.AfterRun :=
    ⟨show outOfRun s.mode = true by rw [hm]; rfl, show overlayOnly s.load = true by rw [hl]; rfl⟩
  have ho : outOfRun t.mode = true := (exec_out h ⟨hs, ht⟩ hm).of_mode
  revert ho
  cases t.mode <;> simp [outOfRun]

/-- Settles O14: every way out of RUN leads to a mode that `outOfRun` names, and ARMED is reached only by the end of an
entry to ARMED. -/
theorem runLeftOnlyForHold : Obligations.RunLeftOnlyForHold := by
  unfold Obligations.RunLeftOnlyForHold
  exact fun _ _ _ h => ⟨exec_leaves_run h, exec_enters_armed h⟩


/-! ### LATCHED ends only with the removal of VDD_AON (O7) -/

/-- LATCHED, with nothing in progress. -/
structure Stage.Latched (b : Stage) : Prop where
  powered : b.powered = true
  mode : b.mode = .latched
  thermN : b.thermN = true
  transit : b.transit = none
  load : b.load = none
  hold : b.hold = none
  maint : b.maint = none

section
variable {s : State} (h : s.core.stage.Latched)
include h

theorem Stage.Latched.powered_eq : s.powered = true := h.powered
theorem Stage.Latched.mode_eq : s.mode = .latched := h.mode
theorem Stage.Latched.thermN_eq : s.therm.thermN = true := h.thermN
theorem Stage.Latched.transit_eq : s.transit = none := h.transit
theorem Stage.Latched.load_eq : s.load = none := h.load
theorem Stage.Latched.hold_eq : s.hold = none := h.hold
theorem Stage.Latched.maint_eq : s.memc.maint = none := h.maint

theorem Stage.Latched.isLatched : s.isLatched = true := by simp [State.isLatched, h.mode_eq]

theorem Stage.Latched.resetHeld : s.resetHeld = true := by simp [State.resetHeld, h.isLatched]

theorem Stage.Latched.maintOk : s.maintOk = false := by simp [State.maintOk, h.mode_eq]

end

section
variable {s : State} (h : s.core.stage.Latched)
include h

@[simp ↓] theorem powerOnReset_latched (vdd : Bool) (straps : Nat) :
    (powerOnReset vdd straps s).core.stage = s.core.stage := by
  have hl := h.isLatched
  unfold powerOnReset
  cases vdd
  · have hp : ({ s with pins := { s.pins with pwrgd := true } } : State).isLatched = true := hl
    dsimp only
    rw [if_neg Bool.false_ne_true, if_pos hp]
    simp -implicitDefEqProofs
  · rw [if_pos rfl, if_pos h.powered_eq]

@[simp ↓] theorem pwrgdLow_latched : (pwrgdLow s).core.stage = s.core.stage := by
  have hp : ({ s with pins := { s.pins with pwrgd := false } } : State).isLatched = true := h.isLatched
  unfold pwrgdLow
  dsimp only
  rw [if_pos hp]
  simp -implicitDefEqProofs

@[simp ↓] theorem resetN_latched (straps : Nat) : (resetN straps s).core.stage = s.core.stage := by
  have hr : (s.raise R.TOP_RESET_CAUSE Fd.TOP_RESET_CAUSE_PIN).core.stage = s.core.stage := by simp -implicitDefEqProofs
  unfold resetN
  dsimp only
  rw [if_pos (Stage.Latched.resetHeld (by rwa [hr])), hr]

@[simp ↓] theorem State.warm_latched (cause : Bits) : (s.warm cause).core.stage = s.core.stage := by
  have hr : (s.raise R.TOP_RESET_CAUSE cause).core.stage = s.core.stage := by simp -implicitDefEqProofs
  have hh : (s.raise R.TOP_RESET_CAUSE cause).resetHeld = true := Stage.Latched.resetHeld (by rwa [hr])
  unfold State.warm
  dsimp only
  rw [if_pos (by rw [hh]; rfl), hr]

@[simp ↓] theorem warmReset_latched (byPorter : Bool) : (warmReset byPorter s).core.stage = s.core.stage :=
  State.warm_latched h _

@[simp ↓] theorem benchReset_latched (mask : Nat) : (benchReset mask s).core.stage = s.core.stage := by
  unfold benchReset
  rw [if_neg (by simp [h.mode_eq, Mode.benchResets])]
  simp -implicitDefEqProofs

@[simp ↓] theorem State.boots_latched : s.boots.core.stage = s.core.stage := by
  unfold State.boots
  rw [if_pos (by simp [h.mode_eq])]

@[simp ↓] theorem bootRequest_latched : (bootRequest s).core.stage = s.core.stage := by
  unfold bootRequest
  split <;> simp -implicitDefEqProofs [h]

@[simp ↓] theorem wakeTimer_latched : (wakeTimer s).core.stage = s.core.stage := by
  unfold wakeTimer
  simp -implicitDefEqProofs [h]

@[simp ↓] theorem wakeTrig_latched (line : Nat) : (wakeTrig line s).core.stage = s.core.stage := by
  unfold wakeTrig
  simp -implicitDefEqProofs [h]

@[simp ↓] theorem firmwareVerified_latched (alternate : Bool) :
    (firmwareVerified alternate s).core.stage = s.core.stage := by
  unfold firmwareVerified
  simp -implicitDefEqProofs [h.mode_eq]

@[simp ↓] theorem bootFail_latched : (bootFail s).core.stage = s.core.stage := by
  unfold bootFail
  simp -implicitDefEqProofs [h.mode_eq]

@[simp ↓] theorem wipeComplete_latched : (wipeComplete s).core.stage = s.core.stage := by
  unfold wipeComplete
  split <;> simp -implicitDefEqProofs [h.mode_eq]

@[simp ↓] theorem modeReqIdle_latched : (modeReqIdle s).core.stage = s.core.stage := by
  unfold modeReqIdle
  rw [h.mode_eq]
  simp -implicitDefEqProofs

@[simp ↓] theorem modeReqKeep_latched : (modeReqKeep s).core.stage = s.core.stage := by
  unfold modeReqKeep
  simp -implicitDefEqProofs [h.mode_eq]

@[simp ↓] theorem modeReqDormant_latched : (modeReqDormant s).core.stage = s.core.stage := by
  unfold modeReqDormant
  simp -implicitDefEqProofs [h.mode_eq]

@[simp ↓] theorem modeReqTrim_latched (conv skew survey full : Bool) :
    (modeReqTrim conv skew survey full s).core.stage = s.core.stage := by
  unfold modeReqTrim
  simp -implicitDefEqProofs [h.mode_eq]

@[simp ↓] theorem modeReqArmed_latched : (modeReqArmed s).core.stage = s.core.stage := by
  unfold modeReqArmed
  simp -implicitDefEqProofs [h.mode_eq]

@[simp ↓] theorem modeReqHold_latched : (modeReqHold s).core.stage = s.core.stage := by
  unfold modeReqHold
  rw [h.mode_eq]
  simp -implicitDefEqProofs

@[simp ↓] theorem modeReqHoldForce_latched : (modeReqHoldForce s).core.stage = s.core.stage := by
  unfold modeReqHoldForce
  rw [h.mode_eq]
  simp -implicitDefEqProofs

@[simp ↓] theorem modeReqService_latched : (modeReqService s).core.stage = s.core.stage := by
  unfold modeReqService
  rw [h.mode_eq]
  simp -implicitDefEqProofs

@[simp ↓] theorem armedEntryDone_latched (ack : Nat) : (armedEntryDone ack s).core.stage = s.core.stage := by
  unfold armedEntryDone
  rw [h.transit_eq]

@[simp ↓] theorem transitionDone_latched : (transitionDone s).core.stage = s.core.stage := by
  unfold transitionDone
  rw [h.transit_eq]

@[simp ↓] theorem keepExitDone_latched : (keepExitDone s).core.stage = s.core.stage := by
  unfold keepExitDone
  rw [h.transit_eq]

@[simp ↓] theorem trimDone_latched (cal : List (BitVec 14)) : (trimDone cal s).core.stage = s.core.stage := by
  unfold trimDone
  rw [if_neg (by simp [State.trimReady, h.mode_eq])]

@[simp ↓] theorem startConditionMet_latched : (startConditionMet s).core.stage = s.core.stage := by
  unfold startConditionMet
  rw [if_neg (by simp [h.mode_eq])]

@[simp ↓] theorem shotBoundary_latched : (shotBoundary s).core.stage = s.core.stage := by
  unfold shotBoundary
  rw [h.hold_eq]

@[simp ↓] theorem State.loadStart_latched (overlay : Bool) : (s.loadStart overlay).core.stage = s.core.stage := by
  unfold State.loadStart
  simp -implicitDefEqProofs [h.mode_eq]

@[simp ↓] theorem patternLoadStart_latched : (patternLoadStart s).core.stage = s.core.stage :=
  State.loadStart_latched h _

@[simp ↓] theorem overlayStart_latched : (overlayStart s).core.stage = s.core.stage :=
  State.loadStart_latched h _

@[simp ↓] theorem patternAbort_latched : (patternAbort s).core.stage = s.core.stage := by
  unfold patternAbort
  rw [h.load_eq]

@[simp ↓] theorem checkPhaseDone_latched (c : CheckResult) : (checkPhaseDone c s).core.stage = s.core.stage := by
  unfold checkPhaseDone
  rw [h.load_eq]

@[simp ↓] theorem applyPhaseDone_latched (fails : Option Nat) :
    (applyPhaseDone fails s).core.stage = s.core.stage := by
  unfold applyPhaseDone
  rw [h.load_eq]

@[simp ↓] theorem State.refLossMode_latched (cause : Nat) : (s.refLossMode cause).core.stage = s.core.stage := by
  unfold State.refLossMode
  rw [if_pos h.thermN_eq]

@[simp ↓] theorem State.refLost_latched (cause : LossCause) : (s.refLost cause).core.stage = s.core.stage := by
  unfold State.refLost
  dsimp only
  simp (maxDischargeDepth := 40) -implicitDefEqProofs [h]

@[simp ↓] theorem refLoss_latched (cause : LossCause) : (refLoss cause s).core.stage = s.core.stage := by
  unfold refLoss
  simp -implicitDefEqProofs [h]

@[simp ↓] theorem pllLockLoss_latched (core : Bool) : (pllLockLoss core s).core.stage = s.core.stage := by
  unfold pllLockLoss
  dsimp only
  simp -implicitDefEqProofs [h]

@[simp ↓] theorem shot_latched (b : Nat) : (shot b s).core.stage = s.core.stage := by
  unfold shot
  split
  · rfl
  · rw [State.core_ite, Core.stage_either]
    extract_lets n time s1 s2 s3 s4 s5 st s6 s7
    have h4 : s4.core.stage = s.core.stage := by simp -implicitDefEqProofs [s4, s3, s2, s1]
    clear_value s4
    have hh : s4.hold.isSome = false := by rw [Stage.Latched.hold_eq (by rwa [h4])]; rfl
    simp -implicitDefEqProofs [s7, hh, h4]

@[simp ↓] theorem retrainStart_latched : (retrainStart s).core.stage = s.core.stage := by
  unfold retrainStart
  rw [if_neg (by simp [h.maintOk])]

@[simp ↓] theorem retrainDone_latched (failing : Option Nat) : (retrainDone failing s).core.stage = s.core.stage := by
  unfold retrainDone
  rw [h.maint_eq]
  cases failing
  · rfl
  · dsimp only
    rw [if_neg (by simp [h.mode_eq])]

@[simp ↓] theorem retirementStart_latched : (retirementStart s).core.stage = s.core.stage := by
  unfold retirementStart
  split
  · rw [if_neg (by simp [h.maintOk])]
  · rfl

@[simp ↓] theorem migrationDone_latched : (migrationDone s).core.stage = s.core.stage := by
  unfold migrationDone
  rw [h.maint_eq]

@[simp ↓] theorem thermalSample_latched (temps : List Int) (ds : List (Option Int)) :
    (thermalSample temps ds s).core.stage = s.core.stage := by
  unfold thermalSample
  dsimp only
  rw [if_pos h.isLatched]
  simp -implicitDefEqProofs

@[simp ↓] theorem shedDeadline_latched : (shedDeadline s).core.stage = s.core.stage := by
  unfold shedDeadline
  rw [h.hold_eq]

@[simp ↓] theorem latchedEntry_latched : (latchedEntry s).core.stage = s.core.stage := by
  unfold latchedEntry
  split
  · have hc : ∀ k i, (s.commit k i).core.stage = s.core.stage := by intros; simp -implicitDefEqProofs
    have hs := hc .latch s.therm.latchInfo
    simp only [Core.stage, State.core, Stage.mk.injEq] at hs ⊢
    obtain ⟨hp, hm, ht, hl, hh, hi, hn⟩ := hs
    exact ⟨hp, h.mode_eq.symm, h.transit_eq.symm, hl, hh, hi, hn⟩
  · rfl

@[simp ↓] theorem State.lifeChange_latched (target : LifeCycle) (hash : Nat) (key : Bool) :
    (s.lifeChange target hash key).core.stage = s.core.stage := by
  unfold State.lifeChange
  dsimp only
  simp (maxDischargeDepth := 40) -implicitDefEqProofs [h]

@[simp ↓] theorem porterCommandDone_latched : (porterCommandDone s).core.stage = s.core.stage := by
  unfold porterCommandDone
  split
  case h_5 => split <;> simp -implicitDefEqProofs
  all_goals simp -implicitDefEqProofs [h]

@[simp ↓] theorem railTrip_latched (n : Nat) : (railTrip n s).core.stage = s.core.stage := by
  have hr : (({ s with pins := { s.pins with railsOut := setBit s.pins.railsOut n } } : State).orFld R.TOP_SUPPLY
      Fd.TOP_SUPPLY_TRIP (2 ^ n)).core.stage = s.core.stage := by simp -implicitDefEqProofs
  have hl : (({ s with pins := { s.pins with railsOut := setBit s.pins.railsOut n } } : State).orFld R.TOP_SUPPLY
      Fd.TOP_SUPPLY_TRIP (2 ^ n)).isLatched = true := Stage.Latched.isLatched (by rwa [hr])
  unfold railTrip
  simp -implicitDefEqProofs [hl]

@[simp ↓] theorem railRecover_latched (straps : Nat) : (railRecover straps s).core.stage = s.core.stage := by
  have hl : ({ s with pins := { s.pins with railsOut := 0 } } : State).isLatched = true := h.isLatched
  unfold railRecover
  simp -implicitDefEqProofs [hl]

@[simp ↓] theorem State.modeReqWrite_latched (v : Nat) : (s.modeReqWrite v).core.stage = s.core.stage := by
  unfold State.modeReqWrite
  split <;> simp -implicitDefEqProofs [h]

@[simp ↓] theorem State.resetWrite_latched (who : Who) (v : Nat) :
    (s.resetWrite who v).core.stage = s.core.stage := by
  unfold State.resetWrite
  simp (maxDischargeDepth := 40) -implicitDefEqProofs [h]

@[simp ↓] theorem State.patCtlWrite_latched (v : Nat) :
    (s.patCtlWrite v).core.stage = s.core.stage := by
  unfold State.patCtlWrite
  dsimp only
  simp (maxDischargeDepth := 40) -implicitDefEqProofs [h]

@[simp ↓] theorem State.topWrite_latched (who : Who) (d : RegDesc) (off v : Nat) :
    (s.topWrite who d off v).core.stage = s.core.stage := by
  unfold State.topWrite
  simp (maxDischargeDepth := 40) -implicitDefEqProofs [h]

@[simp ↓] theorem State.writeReg_latched (who : Who) (view v : Nat) :
    (s.writeReg who view v).core.stage = s.core.stage := by
  unfold State.writeReg
  dsimp only
  split <;> simp (maxDischargeDepth := 40) -implicitDefEqProofs [h]

@[simp ↓] theorem State.writeRegs_latched (who : Who) (view size v : Nat) :
    (s.writeRegs who view size v).core.stage = s.core.stage := by
  unfold State.writeRegs
  split
  · simp (maxDischargeDepth := 40) -implicitDefEqProofs [h]
  · split <;> simp (maxDischargeDepth := 40) -implicitDefEqProofs [h]

@[simp ↓] theorem apertureWrite_latched (who : Who) (off size v : Nat) :
    (apertureWrite who off size v s).core.stage = s.core.stage := by
  unfold apertureWrite
  simp (maxDischargeDepth := 40) -implicitDefEqProofs [h]

@[simp ↓] theorem registerWrite_latched (who : Who) (dev off size v : Nat) :
    (registerWrite who dev off size v s).core.stage = s.core.stage := by
  unfold registerWrite
  simp (maxDischargeDepth := 40) -implicitDefEqProofs [h]

end

/-- Every command but the removal of VDD_AON keeps the stage of a device in LATCHED. -/
theorem exec_latched {c : Instr} {s t : State} (h : exec c s = .next t) (hs : s.core.stage.Latched)
    (hc : c ≠ .vddAonRemoved) : t.core.stage = s.core.stage := by
  by_cases hcore : c.actsOnCore = true
  · cases c
    case vddAonRemoved => exact absurd rfl hc
    case powerOnReset vddRose straps =>
      change execPowerOnReset vddRose straps s = .next t at h
      unfold execPowerOnReset at h
      split at h
      · rw [← Host.Outcome.next.inj h]
        exact powerOnReset_latched hs ..
      · obtain ⟨-, rfl⟩ := whenPowered_next.1 h
        exact powerOnReset_latched hs ..
    all_goals first
      | exact Bool.noConfusion (show false = true from hcore)
      | (obtain ⟨-, rfl⟩ := whenPowered_next.1 h; simp -implicitDefEqProofs [hs])
  · rw [exec_core h (by simpa using hcore)]

/-- Settles O7: each command that acts on the stage of the device is held by LATCHED, by THERM_N or by there being nothing in
progress. -/
theorem latchedStays : Obligations.LatchedStays := by
  unfold Obligations.LatchedStays
  intro c s t hp hm hn ht hl hh hi hc h
  have hs : s.core.stage.Latched := ⟨hp, hm, hn, ht, hl, hh, hi⟩
  have htt : t.core.stage.Latched := by rwa [exec_latched h hs hc]
  exact ⟨htt.powered, htt.mode, htt.thermN, htt.transit, htt.load, htt.hold, htt.maint⟩


end Sys2Proof.Machine
end

section
/-!
Which parts of the state an operation changes: `s.Only ps t` says that `t` is `s` but for the parts `ps`. One lemma per
operation says what parts are its own; the statements read off what a command leaves as it is.
-/
namespace Sys2Proof.Machine

-- One proof at a time: elaborated side by side, the proofs of so long a text need too much memory.
set_option Elab.async false

/-- The parts of a state. -/
inductive Part where
  | pending | powered | clk | mode | transit | hold | trim | load
  | pat | ap | mem | bench | time | segs | looms | lanes
  | out | chans | adcs | engines | xyStages | dec | fms | memc
  | tally | fabric | slow | therm | host | pins | captures | recent
  | setvAt | later | readData | outbox | freeCtr

/-- Two states have the same part. -/
def State.same (s t : State) : Part → Prop
  | .pending => t.pending = s.pending
  | .powered => t.powered = s.powered
  | .clk => t.clk = s.clk
  | .mode => t.mode = s.mode
  | .transit => t.transit = s.transit
  | .hold => t.hold = s.hold
  | .trim => t.trim = s.trim
  | .load => t.load = s.load
  | .pat => t.pat = s.pat
  | .ap => t.ap = s.ap
  | .mem => t.mem = s.mem
  | .bench => t.bench = s.bench
  | .time => t.time = s.time
  | .segs => t.segs = s.segs
  | .looms => t.looms = s.looms
  | .lanes => t.lanes = s.lanes
  | .out => t.out = s.out
  | .chans => t.chans = s.chans
  | .adcs => t.adcs = s.adcs
  | .engines => t.engines = s.engines
  | .xyStages => t.xyStages = s.xyStages
  | .dec => t.dec = s.dec
  | .fms => t.fms = s.fms
  | .memc => t.memc = s.memc
  | .tally => t.tally = s.tally
  | .fabric => t.fabric = s.fabric
  | .slow => t.slow = s.slow
  | .therm => t.therm = s.therm
  | .host => t.host = s.host
  | .pins => t.pins = s.pins
  | .captures => t.captures = s.captures
  | .recent => t.recent = s.recent
  | .setvAt => t.setvAt = s.setvAt
  | .later => t.later = s.later
  | .readData => t.readData = s.readData
  | .outbox => t.outbox = s.outbox
  | .freeCtr => t.freeCtr = s.freeCtr

/-- `t` is `s` but for the parts `ps`. -/
structure State.Only (s : State) (ps : List Part) (t : State) : Prop where
  same_of_not_mem : ∀ p, p ∉ ps → s.same t p

namespace State.Only

@[simp ↓] theorem refl (s : State) (ps : List Part) : s.Only ps s := ⟨fun p _ => by cases p <;> rfl⟩

theorem trans {s t u : State} {ps : List Part} (h : s.Only ps t) (k : t.Only ps u) : s.Only ps u :=
  ⟨fun p hp => by
    have h := h.same_of_not_mem p hp
    have k := k.same_of_not_mem p hp
    cases p <;> exact k.trans h⟩

theorem mono {s t : State} {ps qs : List Part} (h : s.Only ps t) (hq : ps ⊆ qs) : s.Only qs t :=
  ⟨fun p hp => h.same_of_not_mem p fun hps => hp (hq hps)⟩

@[simp ↓] theorem ite {s t u : State} {ps : List Part} {c : Prop} [Decidable c] (h : s.Only ps t) (k : s.Only ps u) :
    s.Only ps (if c then t else u) := by
  split <;> assumption

@[simp ↓] theorem foldAll {α : Type} {a s : State} {ps : List Part} {f : State → α → State}
    (h : a.Only ps s) (hf : ∀ t x, a.Only ps t → a.Only ps (f t x)) (xs : List α) :
    a.Only ps (Machine.foldAll f s xs) :=
  foldAll_induct (fun t : State => a.Only ps t) hf xs s h

section
variable {s t : State} {ps : List Part} (h : s.Only ps t)
include h

theorem pending (hp : .pending ∉ ps := by simp) : t.pending = s.pending := h.same_of_not_mem .pending hp
theorem powered (hp : .powered ∉ ps := by simp) : t.powered = s.powered := h.same_of_not_mem .powered hp
theorem clk (hp : .clk ∉ ps := by simp) : t.clk = s.clk := h.same_of_not_mem .clk hp
theorem mode (hp : .mode ∉ ps := by simp) : t.mode = s.mode := h.same_of_not_mem .mode hp
theorem transit (hp : .transit ∉ ps := by simp) : t.transit = s.transit := h.same_of_not_mem .transit hp
theorem hold (hp : .hold ∉ ps := by simp) : t.hold = s.hold := h.same_of_not_mem .hold hp
theorem trim (hp : .trim ∉ ps := by simp) : t.trim = s.trim := h.same_of_not_mem .trim hp
theorem load (hp : .load ∉ ps := by simp) : t.load = s.load := h.same_of_not_mem .load hp
theorem pat (hp : .pat ∉ ps := by simp) : t.pat = s.pat := h.same_of_not_mem .pat hp
theorem ap (hp : .ap ∉ ps := by simp) : t.ap = s.ap := h.same_of_not_mem .ap hp
theorem mem (hp : .mem ∉ ps := by simp) : t.mem = s.mem := h.same_of_not_mem .mem hp
theorem bench (hp : .bench ∉ ps := by simp) : t.bench = s.bench := h.same_of_not_mem .bench hp
theorem time (hp : .time ∉ ps := by simp) : t.time = s.time := h.same_of_not_mem .time hp
theorem segs (hp : .segs ∉ ps := by simp) : t.segs = s.segs := h.same_of_not_mem .segs hp
theorem looms (hp : .looms ∉ ps := by simp) : t.looms = s.looms := h.same_of_not_mem .looms hp
theorem lanes (hp : .lanes ∉ ps := by simp) : t.lanes = s.lanes := h.same_of_not_mem .lanes hp
theorem out (hp : .out ∉ ps := by simp) : t.out = s.out := h.same_of_not_mem .out hp
theorem chans (hp : .chans ∉ ps := by simp) : t.chans = s.chans := h.same_of_not_mem .chans hp
theorem adcs (hp : .adcs ∉ ps := by simp) : t.adcs = s.adcs := h.same_of_not_mem .adcs hp
theorem engines (hp : .engines ∉ ps := by simp) : t.engines = s.engines := h.same_of_not_mem .engines hp
theorem xyStages (hp : .xyStages ∉ ps := by simp) : t.xyStages = s.xyStages := h.same_of_not_mem .xyStages hp
theorem dec (hp : .dec ∉ ps := by simp) : t.dec = s.dec := h.same_of_not_mem .dec hp
theorem fms (hp : .fms ∉ ps := by simp) : t.fms = s.fms := h.same_of_not_mem .fms hp
theorem memc (hp : .memc ∉ ps := by simp) : t.memc = s.memc := h.same_of_not_mem .memc hp
theorem tally (hp : .tally ∉ ps := by simp) : t.tally = s.tally := h.same_of_not_mem .tally hp
theorem fabric (hp : .fabric ∉ ps := by simp) : t.fabric = s.fabric := h.same_of_not_mem .fabric hp
theorem slow (hp : .slow ∉ ps := by simp) : t.slow = s.slow := h.same_of_not_mem .slow hp
theorem therm (hp : .therm ∉ ps := by simp) : t.therm = s.therm := h.same_of_not_mem .therm hp
theorem host (hp : .host ∉ ps := by simp) : t.host = s.host := h.same_of_not_mem .host hp
theorem pins (hp : .pins ∉ ps := by simp) : t.pins = s.pins := h.same_of_not_mem .pins hp
theorem captures (hp : .captures ∉ ps := by simp) : t.captures = s.captures := h.same_of_not_mem .captures hp
theorem recent (hp : .recent ∉ ps := by simp) : t.recent = s.recent := h.same_of_not_mem .recent hp
theorem setvAt (hp : .setvAt ∉ ps := by simp) : t.setvAt = s.setvAt := h.same_of_not_mem .setvAt hp
theorem later (hp : .later ∉ ps := by simp) : t.later = s.later := h.same_of_not_mem .later hp
theorem readData (hp : .readData ∉ ps := by simp) : t.readData = s.readData := h.same_of_not_mem .readData hp
theorem outbox (hp : .outbox ∉ ps := by simp) : t.outbox = s.outbox := h.same_of_not_mem .outbox hp
theorem freeCtr (hp : .freeCtr ∉ ps := by simp) : t.freeCtr = s.freeCtr := h.same_of_not_mem .freeCtr hp

end

/-- A part is one that may change, or it is as before. -/
def Or {α : Type} (ps : List Part) (p : Part) (x y : α) : Prop := p ∈ ps ∨ x = y

@[simp ↓] theorem or_self {α : Type} (ps : List Part) (p : Part) (x : α) : Or ps p x x := .inr rfl

@[simp ↓] theorem or_of_mem {α : Type} {ps : List Part} {p : Part} (h : p ∈ ps) (x y : α) : Or ps p x y := .inl h

/-- A state of which parts were replaced. -/
@[simp ↓] theorem update {a s : State} {ps : List Part} (h : a.Only ps s)
    (powered : Bool) (clk : Clocks) (mode : Mode) (transit : Option Transit) (hold : Option HoldReq)
    (trim : TrimSel) (load : Option Load) (pat : PatSt) (ap : NMap Word) (mem : List Host.Cell)
    (bench : NMap BenchSt) (time : TimeSt) (segs : Segs) (looms : NMap Loom) (lanes : NMap Lane) (out : OutSt)
    (chans : NMap Chan) (adcs : NMap Adc) (engines : NMap Engine) (xyStages : NMap (Option XyStage))
    (dec : DecSt) (fms : NMap Fm) (memc : MemSt) (tally : Tally) (fabric : Fabric) (slow : Slow)
    (therm : Therm) (host : HostSt) (pins : Pins) (captures : NMap Nat) (recent : NMap (Nat × Nat))
    (setvAt : NMap Nat) (later : NMap (List (Nat × Nat))) (readData : Nat) (outbox : List Out) (freeCtr : Nat)
    (hpowered : Or ps .powered powered s.powered) (hclk : Or ps .clk clk s.clk)
    (hmode : Or ps .mode mode s.mode) (htransit : Or ps .transit transit s.transit)
    (hhold : Or ps .hold hold s.hold) (htrim : Or ps .trim trim s.trim) (hload : Or ps .load load s.load)
    (hpat : Or ps .pat pat s.pat) (hap : Or ps .ap ap s.ap) (hmem : Or ps .mem mem s.mem)
    (hbench : Or ps .bench bench s.bench) (htime : Or ps .time time s.time) (hsegs : Or ps .segs segs s.segs)
    (hlooms : Or ps .looms looms s.looms) (hlanes : Or ps .lanes lanes s.lanes) (hout : Or ps .out out s.out)
    (hchans : Or ps .chans chans s.chans) (hadcs : Or ps .adcs adcs s.adcs)
    (hengines : Or ps .engines engines s.engines) (hxyStages : Or ps .xyStages xyStages s.xyStages)
    (hdec : Or ps .dec dec s.dec) (hfms : Or ps .fms fms s.fms) (hmemc : Or ps .memc memc s.memc)
    (htally : Or ps .tally tally s.tally) (hfabric : Or ps .fabric fabric s.fabric)
    (hslow : Or ps .slow slow s.slow) (htherm : Or ps .therm therm s.therm) (hhost : Or ps .host host s.host)
    (hpins : Or ps .pins pins s.pins) (hcaptures : Or ps .captures captures s.captures)
    (hrecent : Or ps .recent recent s.recent) (hsetvAt : Or ps .setvAt setvAt s.setvAt)
    (hlater : Or ps .later later s.later) (hreadData : Or ps .readData readData s.readData)
    (houtbox : Or ps .outbox outbox s.outbox) (hfreeCtr : Or ps .freeCtr freeCtr s.freeCtr) :
    a.Only ps
      { s with
        powered := powered, clk := clk, mode := mode, transit := transit, hold := hold, trim := trim,
        load := load, pat := pat, ap := ap, mem := mem, bench := bench, time := time, segs := segs,
        looms := looms, lanes := lanes, out := out, chans := chans, adcs := adcs, engines := engines,
        xyStages := xyStages, dec := dec, fms := fms, memc := memc, tally := tally, fabric := fabric,
        slow := slow, therm := therm, host := host, pins := pins, captures := captures, recent := recent,
        setvAt := setvAt, later := later, readData := readData, outbox := outbox, freeCtr := freeCtr } := by
  refine ⟨fun p hp => ?_⟩
  have h := h.same_of_not_mem p hp
  cases p
  case pending => exact h
  case powered => exact (hpowered.resolve_left hp).trans h
  case clk => exact (hclk.resolve_left hp).trans h
  case mode => exact (hmode.resolve_left hp).trans h
  case transit => exact (htransit.resolve_left hp).trans h
  case hold => exact (hhold.resolve_left hp).trans h
  case trim => exact (htrim.resolve_left hp).trans h
  case load => exact (hload.resolve_left hp).trans h
  case pat => exact (hpat.resolve_left hp).trans h
  case ap => exact (hap.resolve_left hp).trans h
  case mem => exact (hmem.resolve_left hp).trans h
  case bench => exact (hbench.resolve_left hp).trans h
  case time => exact (htime.resolve_left hp).trans h
  case segs => exact (hsegs.resolve_left hp).trans h
  case looms => exact (hlooms.resolve_left hp).trans h
  case lanes => exact (hlanes.resolve_left hp).trans h
  case out => exact (hout.resolve_left hp).trans h
  case chans => exact (hchans.resolve_left hp).trans h
  case adcs => exact (hadcs.resolve_left hp).trans h
  case engines => exact (hengines.resolve_left hp).trans h
  case xyStages => exact (hxyStages.resolve_left hp).trans h
  case dec => exact (hdec.resolve_left hp).trans h
  case fms => exact (hfms.resolve_left hp).trans h
  case memc => exact (hmemc.resolve_left hp).trans h
  case tally => exact (htally.resolve_left hp).trans h
  case fabric => exact (hfabric.resolve_left hp).trans h
  case slow => exact (hslow.resolve_left hp).trans h
  case therm => exact (htherm.resolve_left hp).trans h
  case host => exact (hhost.resolve_left hp).trans h
  case pins => exact (hpins.resolve_left hp).trans h
  case captures => exact (hcaptures.resolve_left hp).trans h
  case recent => exact (hrecent.resolve_left hp).trans h
  case setvAt => exact (hsetvAt.resolve_left hp).trans h
  case later => exact (hlater.resolve_left hp).trans h
  case readData => exact (hreadData.resolve_left hp).trans h
  case outbox => exact (houtbox.resolve_left hp).trans h
  case freeCtr => exact (hfreeCtr.resolve_left hp).trans h

end State.Only


@[simp ↓] theorem State.setReg_only {s₀ s : State} {ps : List Part} (h₀ : s₀.Only ps s) (hq : [.ap] ⊆ ps)
    (off : Nat) (v : Word) : s₀.Only ps (s.setReg off v) := by
  simp only [List.cons_subset, List.nil_subset, and_true] at hq
  unfold State.setReg
  simp (contextual := true) (maxDischargeDepth := 40) -implicitDefEqProofs [h₀, hq]

@[simp ↓] theorem State.setFld_only {s₀ s : State} {ps : List Part} (h₀ : s₀.Only ps s) (hq : [.ap] ⊆ ps)
    (off : Nat) (f : Bits) (v : Nat) : s₀.Only ps (s.setFld off f v) := by
  simp only [List.cons_subset, List.nil_subset, and_true] at hq
  unfold State.setFld
  simp (contextual := true) (maxDischargeDepth := 40) -implicitDefEqProofs [h₀, hq]

@[simp ↓] theorem State.raise_only {s₀ s : State} {ps : List Part} (h₀ : s₀.Only ps s) (hq : [.ap] ⊆ ps)
    (off : Nat) (f : Bits) : s₀.Only ps (s.raise off f) := by
  simp only [List.cons_subset, List.nil_subset, and_true] at hq
  unfold State.raise
  simp (contextual := true) (maxDischargeDepth := 40) -implicitDefEqProofs [h₀, hq]

@[simp ↓] theorem State.clear_only {s₀ s : State} {ps : List Part} (h₀ : s₀.Only ps s) (hq : [.ap] ⊆ ps)
    (off : Nat) (f : Bits) : s₀.Only ps (s.clear off f) := by
  simp only [List.cons_subset, List.nil_subset, and_true] at hq
  unfold State.clear
  simp (contextual := true) (maxDischargeDepth := 40) -implicitDefEqProofs [h₀, hq]

@[simp ↓] theorem State.orFld_only {s₀ s : State} {ps : List Part} (h₀ : s₀.Only ps s) (hq : [.ap] ⊆ ps)
    (off : Nat) (f : Bits) (m : Nat) : s₀.Only ps (s.orFld off f m) := by
  simp only [List.cons_subset, List.nil_subset, and_true] at hq
  unfold State.orFld
  simp (contextual := true) (maxDischargeDepth := 40) -implicitDefEqProofs [h₀, hq]

@[simp ↓] theorem State.satAdd_only {s₀ s : State} {ps : List Part} (h₀ : s₀.Only ps s) (hq : [.ap] ⊆ ps)
    (off : Nat) (f : Bits) (n : Nat) : s₀.Only ps (s.satAdd off f n) := by
  simp only [List.cons_subset, List.nil_subset, and_true] at hq
  unfold State.satAdd
  simp (contextual := true) (maxDischargeDepth := 40) -implicitDefEqProofs [h₀, hq]

@[simp ↓] theorem State.setReg64_only {s₀ s : State} {ps : List Part} (h₀ : s₀.Only ps s) (hq : [.ap] ⊆ ps)
    (off v : Nat) : s₀.Only ps (s.setReg64 off v) := by
  simp only [List.cons_subset, List.nil_subset, and_true] at hq
  unfold State.setReg64
  simp (contextual := true) (maxDischargeDepth := 40) -implicitDefEqProofs [h₀, hq]

@[simp ↓] theorem State.setByte_only {s₀ s : State} {ps : List Part} (h₀ : s₀.Only ps s) (hq : [.mem] ⊆ ps)
    (a : Nat) (v : Byte) : s₀.Only ps (s.setByte a v) := by
  simp only [List.cons_subset, List.nil_subset, and_true] at hq
  unfold State.setByte
  simp (contextual := true) (maxDischargeDepth := 40) -implicitDefEqProofs [h₀, hq]

@[simp ↓] theorem State.setBytes_only {s₀ s : State} {ps : List Part} (h₀ : s₀.Only ps s) (hq : [.mem] ⊆ ps) (a : Nat)
    (vs : List Byte) : s₀.Only ps (s.setBytes a vs) := by
  induction vs generalizing a s with
  | nil => exact h₀
  | cons v vs ih => exact ih (State.setByte_only h₀ hq a v) (a + 1)

@[simp ↓] theorem State.memStore_only {s₀ s : State} {ps : List Part} (h₀ : s₀.Only ps s) (hq : [.mem, .memc] ⊆ ps)
    (a : Nat) (vs : List Byte) : s₀.Only ps (s.memStore a vs) := by
  simp only [List.cons_subset, List.nil_subset, and_true] at hq
  unfold State.memStore
  dsimp only
  simp (contextual := true) (maxDischargeDepth := 40) -implicitDefEqProofs [h₀, hq]

@[simp ↓] theorem State.onBench_only {s₀ s : State} {ps : List Part} (h₀ : s₀.Only ps s) (hq : [.bench] ⊆ ps)
    (b : Nat) (f : BenchSt → BenchSt) : s₀.Only ps (s.onBench b f) := by
  simp only [List.cons_subset, List.nil_subset, and_true] at hq
  unfold State.onBench
  simp (contextual := true) (maxDischargeDepth := 40) -implicitDefEqProofs [h₀, hq]

@[simp ↓] theorem State.onLane_only {s₀ s : State} {ps : List Part} (h₀ : s₀.Only ps s) (hq : [.lanes] ⊆ ps)
    (b l : Nat) (f : Lane → Lane) : s₀.Only ps (s.onLane b l f) := by
  simp only [List.cons_subset, List.nil_subset, and_true] at hq
  unfold State.onLane
  simp (contextual := true) (maxDischargeDepth := 40) -implicitDefEqProofs [h₀, hq]

@[simp ↓] theorem State.onLoom_only {s₀ s : State} {ps : List Part} (h₀ : s₀.Only ps s) (hq : [.looms] ⊆ ps)
    (b : Nat) (f : Loom → Loom) : s₀.Only ps (s.onLoom b f) := by
  simp only [List.cons_subset, List.nil_subset, and_true] at hq
  unfold State.onLoom
  simp (contextual := true) (maxDischargeDepth := 40) -implicitDefEqProofs [h₀, hq]

@[simp ↓] theorem State.onChan_only {s₀ s : State} {ps : List Part} (h₀ : s₀.Only ps s) (hq : [.chans] ⊆ ps)
    (b c : Nat) (f : Chan → Chan) : s₀.Only ps (s.onChan b c f) := by
  simp only [List.cons_subset, List.nil_subset, and_true] at hq
  unfold State.onChan
  simp (contextual := true) (maxDischargeDepth := 40) -implicitDefEqProofs [h₀, hq]

@[simp ↓] theorem State.onEng_only {s₀ s : State} {ps : List Part} (h₀ : s₀.Only ps s) (hq : [.engines] ⊆ ps)
    (b e : Nat) (f : Engine → Engine) : s₀.Only ps (s.onEng b e f) := by
  simp only [List.cons_subset, List.nil_subset, and_true] at hq
  unfold State.onEng
  simp (contextual := true) (maxDischargeDepth := 40) -implicitDefEqProofs [h₀, hq]

@[simp ↓] theorem State.onFm_only {s₀ s : State} {ps : List Part} (h₀ : s₀.Only ps s) (hq : [.fms] ⊆ ps)
    (b : Nat) (f : Fm → Fm) : s₀.Only ps (s.onFm b f) := by
  simp only [List.cons_subset, List.nil_subset, and_true] at hq
  unfold State.onFm
  simp (contextual := true) (maxDischargeDepth := 40) -implicitDefEqProofs [h₀, hq]

@[simp ↓] theorem State.onDev_only {s₀ s : State} {ps : List Part} (h₀ : s₀.Only ps s) (hq : [.memc] ⊆ ps)
    (d : Nat) (f : MemDev → MemDev) : s₀.Only ps (s.onDev d f) := by
  simp only [List.cons_subset, List.nil_subset, and_true] at hq
  unfold State.onDev
  dsimp only
  simp (contextual := true) (maxDischargeDepth := 40) -implicitDefEqProofs [h₀, hq]

@[simp ↓] theorem State.onBias_only {s₀ s : State} {ps : List Part} (h₀ : s₀.Only ps s) (hq : [.slow] ⊆ ps)
    (n : Nat) (f : Bias → Bias) : s₀.Only ps (s.onBias n f) := by
  simp only [List.cons_subset, List.nil_subset, and_true] at hq
  unfold State.onBias
  dsimp only
  simp (contextual := true) (maxDischargeDepth := 40) -implicitDefEqProofs [h₀, hq]

@[simp ↓] theorem State.onLoop_only {s₀ s : State} {ps : List Part} (h₀ : s₀.Only ps s) (hq : [.slow] ⊆ ps)
    (k : Nat) (f : Loop → Loop) : s₀.Only ps (s.onLoop k f) := by
  simp only [List.cons_subset, List.nil_subset, and_true] at hq
  unfold State.onLoop
  dsimp only
  simp (contextual := true) (maxDischargeDepth := 40) -implicitDefEqProofs [h₀, hq]

@[simp ↓] theorem State.onPort_only {s₀ s : State} {ps : List Part} (h₀ : s₀.Only ps s) (hq : [.dec] ⊆ ps)
    (p : Nat) (f : Crier → Crier) : s₀.Only ps (s.onPort p f) := by
  simp only [List.cons_subset, List.nil_subset, and_true] at hq
  unfold State.onPort
  dsimp only
  simp (contextual := true) (maxDischargeDepth := 40) -implicitDefEqProofs [h₀, hq]

@[simp ↓] theorem State.onTag_only {s₀ s : State} {ps : List Part} (h₀ : s₀.Only ps s) (hq : [.dec] ⊆ ps)
    (b t : Nat) (f : Tag → Tag) : s₀.Only ps (s.onTag b t f) := by
  simp only [List.cons_subset, List.nil_subset, and_true] at hq
  unfold State.onTag
  dsimp only
  simp (contextual := true) (maxDischargeDepth := 40) -implicitDefEqProofs [h₀, hq]

@[simp ↓] theorem State.onStream_only {s₀ s : State} {ps : List Part} (h₀ : s₀.Only ps s) (hq : [.tally] ⊆ ps)
    (i : Nat) (f : Stream → Stream) : s₀.Only ps (s.onStream i f) := by
  simp only [List.cons_subset, List.nil_subset, and_true] at hq
  unfold State.onStream
  dsimp only
  simp (contextual := true) (maxDischargeDepth := 40) -implicitDefEqProofs [h₀, hq]

@[simp ↓] theorem State.setStaged_only {s₀ s : State} {ps : List Part} (h₀ : s₀.Only ps s) (hq : [.tally] ⊆ ps)
    (q : Nat) (rs : List Rec) : s₀.Only ps (s.setStaged q rs) := by
  simp only [List.cons_subset, List.nil_subset, and_true] at hq
  unfold State.setStaged
  dsimp only
  simp (contextual := true) (maxDischargeDepth := 40) -implicitDefEqProofs [h₀, hq]

@[simp ↓] theorem State.onConv_only {s₀ s : State} {ps : List Part} (h₀ : s₀.Only ps s) (hq : [.out] ⊆ ps)
    (b c : Nat) (f : Conv → Conv) : s₀.Only ps (s.onConv b c f) := by
  simp only [List.cons_subset, List.nil_subset, and_true] at hq
  unfold State.onConv
  dsimp only
  simp (contextual := true) (maxDischargeDepth := 40) -implicitDefEqProofs [h₀, hq]

@[simp ↓] theorem State.free_only {s₀ s : State} {ps : List Part} (h₀ : s₀.Only ps s) (hq : [.freeCtr] ⊆ ps) :
    s₀.Only ps s.free.2 := by
  simp only [List.cons_subset, List.nil_subset, and_true] at hq
  unfold State.free
  dsimp only
  simp (contextual := true) (maxDischargeDepth := 40) -implicitDefEqProofs [h₀, hq]

@[simp ↓] theorem State.emit_only {s₀ s : State} {ps : List Part} (h₀ : s₀.Only ps s) (hq : [.outbox] ⊆ ps)
    (o : Out) : s₀.Only ps (s.emit o) := by
  simp only [List.cons_subset, List.nil_subset, and_true] at hq
  unfold State.emit
  simp (contextual := true) (maxDischargeDepth := 40) -implicitDefEqProofs [h₀, hq]

@[simp ↓] theorem State.denied_only {s₀ s : State} {ps : List Part} (h₀ : s₀.Only ps s) (hq : [.ap] ⊆ ps)
    (who : Who) (off : Nat) (wr : Bool) : s₀.Only ps (s.denied who off wr) := by
  simp only [List.cons_subset, List.nil_subset, and_true] at hq
  unfold State.denied
  simp (contextual := true) (maxDischargeDepth := 40) -implicitDefEqProofs [h₀, hq]

@[simp ↓] theorem State.irq_only {s₀ s : State} {ps : List Part} (h₀ : s₀.Only ps s) (hq : [.ap, .outbox] ⊆ ps)
    (k : Nat) : s₀.Only ps (s.irq k) := by
  simp only [List.cons_subset, List.nil_subset, and_true] at hq
  unfold State.irq
  dsimp only
  simp (contextual := true) (maxDischargeDepth := 40) -implicitDefEqProofs [h₀, hq]

@[simp ↓] theorem State.flagIrq_only {s₀ s : State} {ps : List Part} (h₀ : s₀.Only ps s) (hq : [.ap, .outbox] ⊆ ps)
    (off : Nat) (f : Bits) (k : Nat) : s₀.Only ps (s.flagIrq off f k) := by
  simp only [List.cons_subset, List.nil_subset, and_true] at hq
  unfold State.flagIrq
  simp (contextual := true) (maxDischargeDepth := 40) -implicitDefEqProofs [h₀, hq]

@[simp ↓] theorem State.benchEvent_only {s₀ s : State} {ps : List Part} (h₀ : s₀.Only ps s)
    (hq : [.ap, .outbox] ⊆ ps) (b : Nat) (f : Bits) : s₀.Only ps (s.benchEvent b f) := by
  simp only [List.cons_subset, List.nil_subset, and_true] at hq
  unfold State.benchEvent
  simp (contextual := true) (maxDischargeDepth := 40) -implicitDefEqProofs [h₀, hq]

@[simp ↓] theorem State.breach_only {s₀ s : State} {ps : List Part} (h₀ : s₀.Only ps s) (hq : [.ap] ⊆ ps) (f : Bits)
    : s₀.Only ps (s.breach f) := by
  simp only [List.cons_subset, List.nil_subset, and_true] at hq
  unfold State.breach
  simp (contextual := true) (maxDischargeDepth := 40) -implicitDefEqProofs [h₀, hq]

@[simp ↓] theorem State.pulse_only {s₀ s : State} {ps : List Part} (h₀ : s₀.Only ps s) (hq : [.fabric] ⊆ ps)
    (line : Nat) : s₀.Only ps (s.pulse line) := by
  simp only [List.cons_subset, List.nil_subset, and_true] at hq
  unfold State.pulse
  dsimp only
  simp (contextual := true) (maxDischargeDepth := 40) -implicitDefEqProofs [h₀, hq]

@[simp ↓] theorem State.fmTrap_only {s₀ s : State} {ps : List Part} (h₀ : s₀.Only ps s) (hq : [.fms] ⊆ ps)
    (b v : Nat) : s₀.Only ps (s.fmTrap b v) := by
  simp only [List.cons_subset, List.nil_subset, and_true] at hq
  unfold State.fmTrap
  simp (contextual := true) (maxDischargeDepth := 40) -implicitDefEqProofs [h₀, hq]

@[simp ↓] theorem State.dropRec_only {s₀ s : State} {ps : List Part} (h₀ : s₀.Only ps s)
    (hq : [.ap, .fms, .tally, .outbox] ⊆ ps) (st seq : Nat) : s₀.Only ps (s.dropRec st seq) := by
  simp only [List.cons_subset, List.nil_subset, and_true] at hq
  unfold State.dropRec
  dsimp only
  simp (contextual := true) (maxDischargeDepth := 40) -implicitDefEqProofs [h₀, hq]

@[simp ↓] theorem State.offer_only {s₀ s : State} {ps : List Part} (h₀ : s₀.Only ps s)
    (hq : [.ap, .fms, .tally, .outbox] ⊆ ps) (st src typ len time : Nat) (pay : List (Nat × Nat × Nat)) :
    s₀.Only ps (s.offer st src typ len time pay) := by
  simp only [List.cons_subset, List.nil_subset, and_true] at hq
  unfold State.offer
  dsimp only
  simp (contextual := true) (maxDischargeDepth := 40) -implicitDefEqProofs [h₀, hq]

@[simp ↓] theorem State.shotPoisoned_only {s₀ s : State} {ps : List Part} (h₀ : s₀.Only ps s) (hq : [.tally] ⊆ ps)
    (b : Nat) : s₀.Only ps (s.shotPoisoned b) := by
  simp only [List.cons_subset, List.nil_subset, and_true] at hq
  unfold State.shotPoisoned
  dsimp only
  simp (contextual := true) (maxDischargeDepth := 40) -implicitDefEqProofs [h₀, hq]

@[simp ↓] theorem State.poison_only {s₀ s : State} {ps : List Part} (h₀ : s₀.Only ps s)
    (hq : [.ap, .bench, .fms, .tally, .fabric, .outbox] ⊆ ps) (b cause detail : Nat) :
    s₀.Only ps (s.poison b cause detail) := by
  simp only [List.cons_subset, List.nil_subset, and_true] at hq
  unfold State.poison
  dsimp only
  simp (contextual := true) (maxDischargeDepth := 40) -implicitDefEqProofs [h₀, hq]

@[simp ↓] theorem State.poisonAll_only {s₀ s : State} {ps : List Part} (h₀ : s₀.Only ps s)
    (hq : [.ap, .bench, .fms, .tally, .fabric, .outbox] ⊆ ps) (cause detail : Nat) :
    s₀.Only ps (s.poisonAll cause detail) := by
  simp only [List.cons_subset, List.nil_subset, and_true] at hq
  unfold State.poisonAll
  simp (contextual := true) (maxDischargeDepth := 40) -implicitDefEqProofs [h₀, hq]

@[simp ↓] theorem State.modeErr_only {s₀ s : State} {ps : List Part} (h₀ : s₀.Only ps s) (hq : [.ap, .outbox] ⊆ ps)
    (code req : Nat) : s₀.Only ps (s.modeErr code req) := by
  simp only [List.cons_subset, List.nil_subset, and_true] at hq
  unfold State.modeErr
  simp (contextual := true) (maxDischargeDepth := 40) -implicitDefEqProofs [h₀, hq]

@[simp ↓] theorem State.enter_only {s₀ s : State} {ps : List Part} (h₀ : s₀.Only ps s)
    (hq : [.mode, .ap, .fms, .tally, .fabric, .outbox] ⊆ ps) (m : Mode) (cause : Nat) :
    s₀.Only ps (s.enter m cause) := by
  simp only [List.cons_subset, List.nil_subset, and_true] at hq
  unfold State.enter
  dsimp only
  simp (contextual := true) (maxDischargeDepth := 40) -implicitDefEqProofs [h₀, hq]

@[simp ↓] theorem State.memFlag_only {s₀ s : State} {ps : List Part} (h₀ : s₀.Only ps s) (hq : [.ap, .outbox] ⊆ ps)
    (f : Bits) : s₀.Only ps (s.memFlag f) := by
  simp only [List.cons_subset, List.nil_subset, and_true] at hq
  unfold State.memFlag
  simp (contextual := true) (maxDischargeDepth := 40) -implicitDefEqProofs [h₀, hq]

@[simp ↓] theorem State.decFlag_only {s₀ s : State} {ps : List Part} (h₀ : s₀.Only ps s) (hq : [.ap, .outbox] ⊆ ps)
    (f : Bits) : s₀.Only ps (s.decFlag f) := by
  simp only [List.cons_subset, List.nil_subset, and_true] at hq
  unfold State.decFlag
  simp (contextual := true) (maxDischargeDepth := 40) -implicitDefEqProofs [h₀, hq]

@[simp ↓] theorem State.access_only {s₀ s : State} {ps : List Part} (h₀ : s₀.Only ps s) (hq : [.memc] ⊆ ps)
    (u : Nat) (h : PageHint) : s₀.Only ps (s.access u h) := by
  simp only [List.cons_subset, List.nil_subset, and_true] at hq
  unfold State.access
  dsimp only
  split <;> simp (contextual := true) (maxDischargeDepth := 40) -implicitDefEqProofs [h₀, hq]

@[simp ↓] theorem State.rowsClose_only {s₀ s : State} {ps : List Part} (h₀ : s₀.Only ps s) (hq : [.memc] ⊆ ps)
    (c : Nat) (bank : Option Nat) : s₀.Only ps (s.rowsClose c bank) := by
  simp only [List.cons_subset, List.nil_subset, and_true] at hq
  unfold State.rowsClose
  dsimp only
  simp (contextual := true) (maxDischargeDepth := 40) -implicitDefEqProofs [h₀, hq]

@[simp ↓] theorem State.retireCheck_only {s₀ s : State} {ps : List Part} (h₀ : s₀.Only ps s)
    (hq : [.ap, .memc, .outbox] ⊆ ps) (d : Nat) : s₀.Only ps (s.retireCheck d) := by
  simp only [List.cons_subset, List.nil_subset, and_true] at hq
  unfold State.retireCheck
  dsimp only
  simp (contextual := true) (maxDischargeDepth := 40) -implicitDefEqProofs [h₀, hq]

@[simp ↓] theorem State.countCe_only {s₀ s : State} {ps : List Part} (h₀ : s₀.Only ps s)
    (hq : [.ap, .memc, .outbox] ⊆ ps) (d n : Nat) : s₀.Only ps (s.countCe d n) := by
  simp only [List.cons_subset, List.nil_subset, and_true] at hq
  unfold State.countCe
  simp (contextual := true) (maxDischargeDepth := 40) -implicitDefEqProofs [h₀, hq]

@[simp ↓] theorem State.countUe_only {s₀ s : State} {ps : List Part} (h₀ : s₀.Only ps s)
    (hq : [.ap, .memc, .outbox] ⊆ ps) (d : Nat) : s₀.Only ps (s.countUe d) := by
  simp only [List.cons_subset, List.nil_subset, and_true] at hq
  unfold State.countUe
  simp (contextual := true) (maxDischargeDepth := 40) -implicitDefEqProofs [h₀, hq]

@[simp ↓] theorem State.poisonUnit_only {s₀ s : State} {ps : List Part} (h₀ : s₀.Only ps s) (hq : [.memc] ⊆ ps)
    (u : Nat) : s₀.Only ps (s.poisonUnit u) := by
  simp only [List.cons_subset, List.nil_subset, and_true] at hq
  unfold State.poisonUnit
  dsimp only
  simp (contextual := true) (maxDischargeDepth := 40) -implicitDefEqProofs [h₀, hq]

@[simp ↓] theorem State.ueFlag_only {s₀ s : State} {ps : List Part} (h₀ : s₀.Only ps s) (hq : [.ap, .outbox] ⊆ ps)
    (u req : Nat) : s₀.Only ps (s.ueFlag u req) := by
  simp only [List.cons_subset, List.nil_subset, and_true] at hq
  unfold State.ueFlag
  simp (contextual := true) (maxDischargeDepth := 40) -implicitDefEqProofs [h₀, hq]

@[simp ↓] theorem State.uncorrectable_only {s₀ s : State} {ps : List Part} (h₀ : s₀.Only ps s)
    (hq : [.ap, .memc, .outbox] ⊆ ps) (u req : Nat) : s₀.Only ps (s.uncorrectable u req) := by
  simp only [List.cons_subset, List.nil_subset, and_true] at hq
  unfold State.uncorrectable
  dsimp only
  split
  · simp (contextual := true) (maxDischargeDepth := 40) -implicitDefEqProofs [h₀, hq]
  · split <;> simp (contextual := true) (maxDischargeDepth := 40) -implicitDefEqProofs [h₀, hq]

@[simp ↓] theorem State.laneFlag_only {s₀ s : State} {ps : List Part} (h₀ : s₀.Only ps s) (hq : [.ap] ⊆ ps)
    (b l : Nat) (f : Bits) : s₀.Only ps (s.laneFlag b l f) := by
  simp only [List.cons_subset, List.nil_subset, and_true] at hq
  unfold State.laneFlag
  simp (contextual := true) (maxDischargeDepth := 40) -implicitDefEqProofs [h₀, hq]

@[simp ↓] theorem State.setSeg_only {s₀ s : State} {ps : List Part} (h₀ : s₀.Only ps s) (hq : [.ap] ⊆ ps)
    (id : Nat) (ws : List Nat) : s₀.Only ps (s.setSeg id ws) := by
  simp only [List.cons_subset, List.nil_subset, and_true] at hq
  unfold State.setSeg
  simp (contextual := true) (maxDischargeDepth := 40) -implicitDefEqProofs [h₀, hq]

@[simp ↓] theorem State.segLost_only {s₀ s : State} {ps : List Part} (h₀ : s₀.Only ps s) (hq : [.ap] ⊆ ps)
    (id : Nat) : s₀.Only ps (s.segLost id) := by
  simp only [List.cons_subset, List.nil_subset, and_true] at hq
  unfold State.segLost
  dsimp only
  simp (contextual := true) (maxDischargeDepth := 40) -implicitDefEqProofs [h₀, hq]

@[simp ↓] theorem State.onWin_only {s₀ s : State} {ps : List Part} (h₀ : s₀.Only ps s) (hq : [.chans] ⊆ ps)
    (b c ser : Nat) (f : Win → Win) : s₀.Only ps (s.onWin b c ser f) := by
  simp only [List.cons_subset, List.nil_subset, and_true] at hq
  unfold State.onWin
  simp (contextual := true) (maxDischargeDepth := 40) -implicitDefEqProofs [h₀, hq]

@[simp ↓] theorem State.chFlag_only {s₀ s : State} {ps : List Part} (h₀ : s₀.Only ps s) (hq : [.ap] ⊆ ps)
    (b c : Nat) (f : Bits) : s₀.Only ps (s.chFlag b c f) := by
  simp only [List.cons_subset, List.nil_subset, and_true] at hq
  unfold State.chFlag
  simp (contextual := true) (maxDischargeDepth := 40) -implicitDefEqProofs [h₀, hq]

@[simp ↓] theorem State.engFlag_only {s₀ s : State} {ps : List Part} (h₀ : s₀.Only ps s) (hq : [.ap] ⊆ ps)
    (b e : Nat) (f : Bits) : s₀.Only ps (s.engFlag b e f) := by
  simp only [List.cons_subset, List.nil_subset, and_true] at hq
  unfold State.engFlag
  simp (contextual := true) (maxDischargeDepth := 40) -implicitDefEqProofs [h₀, hq]

@[simp ↓] theorem State.answerDue_only {s₀ s : State} {ps : List Part} (h₀ : s₀.Only ps s) (hq : [.engines] ⊆ ps)
    (b c ser : Nat) (lost : Bool) : s₀.Only ps (s.answerDue b c ser lost) := by
  simp only [List.cons_subset, List.nil_subset, and_true] at hq
  unfold State.answerDue
  simp (contextual := true) (maxDischargeDepth := 40) -implicitDefEqProofs [h₀, hq]

@[simp ↓] theorem State.pushEntry_only {s₀ s : State} {ps : List Part} (h₀ : s₀.Only ps s)
    (hq : [.ap, .engines] ⊆ ps) (b c kind idx : Nat) (w : Win) (sat : Bool) (sums : List Nat) :
    s₀.Only ps (s.pushEntry b c kind idx w sat sums) := by
  simp only [List.cons_subset, List.nil_subset, and_true] at hq
  unfold State.pushEntry
  dsimp only
  simp (contextual := true) (maxDischargeDepth := 40) -implicitDefEqProofs [h₀, hq]

@[simp ↓] theorem State.voidWin_only {s₀ s : State} {ps : List Part} (h₀ : s₀.Only ps s)
    (hq : [.ap, .chans, .engines] ⊆ ps) (b c : Nat) (w : Win) : s₀.Only ps (s.voidWin b c w) := by
  simp only [List.cons_subset, List.nil_subset, and_true] at hq
  unfold State.voidWin
  dsimp only
  simp (contextual := true) (maxDischargeDepth := 40) -implicitDefEqProofs [h₀, hq]

@[simp ↓] theorem State.endWindows_only {s₀ s : State} {ps : List Part} (h₀ : s₀.Only ps s)
    (hq : [.ap, .chans, .engines] ⊆ ps) : s₀.Only ps s.endWindows := by
  simp only [List.cons_subset, List.nil_subset, and_true] at hq
  unfold State.endWindows
  simp (contextual := true) (maxDischargeDepth := 40) -implicitDefEqProofs [h₀, hq]

@[simp ↓] theorem State.engStop_only {s₀ s : State} {ps : List Part} (h₀ : s₀.Only ps s) (hq : [.engines] ⊆ ps)
    (b e : Nat) (st : EngSt) : s₀.Only ps (s.engStop b e st) := by
  simp only [List.cons_subset, List.nil_subset, and_true] at hq
  unfold State.engStop
  dsimp only
  simp (contextual := true) (maxDischargeDepth := 40) -implicitDefEqProofs [h₀, hq]

@[simp ↓] theorem State.engBegin_only {s₀ s : State} {ps : List Part} (h₀ : s₀.Only ps s) (hq : [.engines] ⊆ ps)
    (b e : Nat) : s₀.Only ps (s.engBegin b e) := by
  simp only [List.cons_subset, List.nil_subset, and_true] at hq
  unfold State.engBegin
  dsimp only
  simp (contextual := true) (maxDischargeDepth := 40) -implicitDefEqProofs [h₀, hq]

@[simp ↓] theorem State.engStart_only {s₀ s : State} {ps : List Part} (h₀ : s₀.Only ps s) (hq : [.engines] ⊆ ps)
    (b e : Nat) (again : Bool) : s₀.Only ps (s.engStart b e again) := by
  simp only [List.cons_subset, List.nil_subset, and_true] at hq
  unfold State.engStart
  dsimp only
  simp (contextual := true) (maxDischargeDepth := 40) -implicitDefEqProofs [h₀, hq]

@[simp ↓] theorem State.engAskStop_only {s₀ s : State} {ps : List Part} (h₀ : s₀.Only ps s) (hq : [.engines] ⊆ ps)
    (b e : Nat) : s₀.Only ps (s.engAskStop b e) := by
  simp only [List.cons_subset, List.nil_subset, and_true] at hq
  unfold State.engAskStop
  simp (contextual := true) (maxDischargeDepth := 40) -implicitDefEqProofs [h₀, hq]

@[simp ↓] theorem State.startHit_only {s₀ s : State} {ps : List Part} (h₀ : s₀.Only ps s) (hq : [.fms] ⊆ ps)
    (kind sel e : Nat) : s₀.Only ps (s.startHit kind sel e) := by
  simp only [List.cons_subset, List.nil_subset, and_true] at hq
  unfold State.startHit
  dsimp only
  simp (contextual := true) (maxDischargeDepth := 40) -implicitDefEqProofs [h₀, hq]

@[simp ↓] theorem State.portFlag_only {s₀ s : State} {ps : List Part} (h₀ : s₀.Only ps s) (hq : [.ap] ⊆ ps)
    (p : Nat) (f : Bits) : s₀.Only ps (s.portFlag p f) := by
  simp only [List.cons_subset, List.nil_subset, and_true] at hq
  unfold State.portFlag
  simp (contextual := true) (maxDischargeDepth := 40) -implicitDefEqProofs [h₀, hq]

@[simp ↓] theorem State.startClocks_only {s₀ s : State} {ps : List Part} (h₀ : s₀.Only ps s) (hq : [.clk] ⊆ ps)
    (conv : Bool) : s₀.Only ps (s.startClocks conv) := by
  simp only [List.cons_subset, List.nil_subset, and_true] at hq
  unfold State.startClocks
  simp (contextual := true) (maxDischargeDepth := 40) -implicitDefEqProofs [h₀, hq]

@[simp ↓] theorem State.stopClocks_only {s₀ s : State} {ps : List Part} (h₀ : s₀.Only ps s) (hq : [.clk] ⊆ ps) :
    s₀.Only ps s.stopClocks := by
  simp only [List.cons_subset, List.nil_subset, and_true] at hq
  unfold State.stopClocks
  simp (contextual := true) (maxDischargeDepth := 40) -implicitDefEqProofs [h₀, hq]

@[simp ↓] theorem State.fabricStart_only {s₀ s : State} {ps : List Part} (h₀ : s₀.Only ps s) (hq : [.fabric] ⊆ ps) :
    s₀.Only ps s.fabricStart := by
  simp only [List.cons_subset, List.nil_subset, and_true] at hq
  unfold State.fabricStart
  dsimp only
  simp (contextual := true) (maxDischargeDepth := 40) -implicitDefEqProofs [h₀, hq]

@[simp ↓] theorem State.align_only {s₀ s : State} {ps : List Part} (h₀ : s₀.Only ps s) (hq : [.clk, .fabric] ⊆ ps) :
    s₀.Only ps s.align := by
  simp only [List.cons_subset, List.nil_subset, and_true] at hq
  unfold State.align
  dsimp only
  simp (contextual := true) (maxDischargeDepth := 40) -implicitDefEqProofs [h₀, hq]

@[simp ↓] theorem State.quotFree_only {s₀ s : State} {ps : List Part} (h₀ : s₀.Only ps s) (hq : [.freeCtr] ⊆ ps)
    (a : Int) (n : Nat) : s₀.Only ps (s.quotFree a n).2 := by
  simp only [List.cons_subset, List.nil_subset, and_true] at hq
  unfold State.quotFree
  dsimp only
  split <;> simp (contextual := true) (maxDischargeDepth := 40) -implicitDefEqProofs [h₀, hq]

@[simp ↓] theorem State.epochMark_only {s₀ s : State} {ps : List Part} (h₀ : s₀.Only ps s)
    (hq : [.ap, .fms, .tally, .outbox] ⊆ ps) (before after kind : Nat) (slip : Int) (arrival : Nat) :
    s₀.Only ps (s.epochMark before after kind slip arrival) := by
  simp only [List.cons_subset, List.nil_subset, and_true] at hq
  unfold State.epochMark
  simp (contextual := true) (maxDischargeDepth := 40) -implicitDefEqProofs [h₀, hq]

@[simp ↓] theorem State.echoEnd_only {s₀ s : State} {ps : List Part} (h₀ : s₀.Only ps s)
    (hq : [.ap, .time, .outbox] ⊆ ps) (result : Nat) : s₀.Only ps (s.echoEnd result) := by
  simp only [List.cons_subset, List.nil_subset, and_true] at hq
  unfold State.echoEnd
  dsimp only
  simp (contextual := true) (maxDischargeDepth := 40) -implicitDefEqProofs [h₀, hq]

@[simp ↓] theorem State.echoBegin_only {s₀ s : State} {ps : List Part} (h₀ : s₀.Only ps s)
    (hq : [.ap, .time, .outbox] ⊆ ps) (port count : Nat) : s₀.Only ps (s.echoBegin port count) := by
  simp only [List.cons_subset, List.nil_subset, and_true] at hq
  unfold State.echoBegin
  dsimp only
  simp (contextual := true) (maxDischargeDepth := 40) -implicitDefEqProofs [h₀, hq]

@[simp ↓] theorem State.echoNext_only {s₀ s : State} {ps : List Part} (h₀ : s₀.Only ps s)
    (hq : [.trim, .ap, .time, .outbox] ⊆ ps) : s₀.Only ps s.echoNext := by
  simp only [List.cons_subset, List.nil_subset, and_true] at hq
  unfold State.echoNext
  dsimp only
  split <;> simp (contextual := true) (maxDischargeDepth := 40) -implicitDefEqProofs [h₀, hq]

@[simp ↓] theorem State.fdlyTake_only {s₀ s : State} {ps : List Part} (h₀ : s₀.Only ps s) (hq : [.ap, .time] ⊆ ps)
    (i : Nat) : s₀.Only ps (s.fdlyTake i) := by
  simp only [List.cons_subset, List.nil_subset, and_true] at hq
  unfold State.fdlyTake
  dsimp only
  simp (contextual := true) (maxDischargeDepth := 40) -implicitDefEqProofs [h₀, hq]

@[simp ↓] theorem State.takeTrims_only {s₀ s : State} {ps : List Part} (h₀ : s₀.Only ps s) (hq : [.ap, .time] ⊆ ps)
    : s₀.Only ps s.takeTrims := by
  simp only [List.cons_subset, List.nil_subset, and_true] at hq
  unfold State.takeTrims
  dsimp only
  simp (contextual := true) (maxDischargeDepth := 40) -implicitDefEqProofs [h₀, hq]

@[simp ↓] theorem State.dirPurge_only {s₀ s : State} {ps : List Part} (h₀ : s₀.Only ps s) (hq : [.looms] ⊆ ps)
    (id : Nat) : s₀.Only ps (s.dirPurge id) := by
  simp only [List.cons_subset, List.nil_subset, and_true] at hq
  unfold State.dirPurge
  simp (contextual := true) (maxDischargeDepth := 40) -implicitDefEqProofs [h₀, hq]

@[simp ↓] theorem State.memTouch_only {s₀ s : State} {ps : List Part} (h₀ : s₀.Only ps s) (hq : [.memc] ⊆ ps) :
    s₀.Only ps s.memTouch := by
  simp only [List.cons_subset, List.nil_subset, and_true] at hq
  unfold State.memTouch
  dsimp only
  simp (contextual := true) (maxDischargeDepth := 40) -implicitDefEqProofs [h₀, hq]

@[simp ↓] theorem State.onWindow_only {s₀ s : State} {ps : List Part} (h₀ : s₀.Only ps s) (hq : [.looms] ⊆ ps)
    (b v : Nat) (f : Window → Window) : s₀.Only ps (s.onWindow b v f) := by
  simp only [List.cons_subset, List.nil_subset, and_true] at hq
  unfold State.onWindow
  simp (contextual := true) (maxDischargeDepth := 40) -implicitDefEqProofs [h₀, hq]

@[simp ↓] theorem State.residentsMade_only {s₀ s : State} {ps : List Part} (h₀ : s₀.Only ps s) (hq : [.looms] ⊆ ps)
    (b : Nat) : s₀.Only ps (s.residentsMade b) := by
  simp only [List.cons_subset, List.nil_subset, and_true] at hq
  unfold State.residentsMade
  dsimp only
  simp (contextual := true) (maxDischargeDepth := 40) -implicitDefEqProofs [h₀, hq]

@[simp ↓] theorem State.bandCheck_only {s₀ s : State} {ps : List Part} (h₀ : s₀.Only ps s) (hq : [.ap] ⊆ ps)
    (b u f fw : Nat) : s₀.Only ps (s.bandCheck b u f fw) := by
  simp only [List.cons_subset, List.nil_subset, and_true] at hq
  unfold State.bandCheck
  dsimp only
  simp (contextual := true) (maxDischargeDepth := 40) -implicitDefEqProofs [h₀, hq]

@[simp ↓] theorem State.tidyStreams_only {s₀ s : State} {ps : List Part} (h₀ : s₀.Only ps s) (hq : [.looms] ⊆ ps)
    (b l : Nat) : s₀.Only ps (s.tidyStreams b l) := by
  simp only [List.cons_subset, List.nil_subset, and_true] at hq
  unfold State.tidyStreams
  dsimp only
  simp (contextual := true) (maxDischargeDepth := 40) -implicitDefEqProofs [h₀, hq]

@[simp ↓] theorem State.pruneLane_only {s₀ s : State} {ps : List Part} (h₀ : s₀.Only ps s)
    (hq : [.looms, .lanes] ⊆ ps) (b l : Nat) : s₀.Only ps (s.pruneLane b l) := by
  simp only [List.cons_subset, List.nil_subset, and_true] at hq
  unfold State.pruneLane
  simp (contextual := true) (maxDischargeDepth := 40) -implicitDefEqProofs [h₀, hq]

@[simp ↓] theorem State.discard_only {s₀ s : State} {ps : List Part} (h₀ : s₀.Only ps s)
    (hq : [.looms, .lanes, .chans] ⊆ ps)
    (b l : Nat) (play : Play → Bool) (frm : FrameUpd → Bool) (mrk : MarkUpd → Bool) :
    s₀.Only ps (s.discard b l play frm mrk) := by
  simp only [List.cons_subset, List.nil_subset, and_true] at hq
  unfold State.discard
  dsimp only
  split <;> simp (contextual := true) (maxDischargeDepth := 40) -implicitDefEqProofs [h₀, hq]

@[simp ↓] theorem State.laneStop_only {s₀ s : State} {ps : List Part} (h₀ : s₀.Only ps s) (hq : [.ap, .lanes] ⊆ ps)
    (b l : Nat) (ready ramp : Bool) : s₀.Only ps (s.laneStop b l ready ramp) := by
  simp only [List.cons_subset, List.nil_subset, and_true] at hq
  unfold State.laneStop
  dsimp only
  simp (contextual := true) (maxDischargeDepth := 40) -implicitDefEqProofs [h₀, hq]

@[simp ↓] theorem State.laneArm_only {s₀ s : State} {ps : List Part} (h₀ : s₀.Only ps s) (hq : [.lanes] ⊆ ps)
    (b l : Nat) : s₀.Only ps (s.laneArm b l) := by
  simp only [List.cons_subset, List.nil_subset, and_true] at hq
  unfold State.laneArm
  dsimp only
  simp (contextual := true) (maxDischargeDepth := 40) -implicitDefEqProofs [h₀, hq]

@[simp ↓] theorem laneDrained_only {s₀ s : State} {ps : List Part} (h₀ : s₀.Only ps s) (hq : [.looms, .lanes] ⊆ ps)
    (b l : Nat) : s₀.Only ps (laneDrained b l s) := by
  simp only [List.cons_subset, List.nil_subset, and_true] at hq
  unfold laneDrained
  dsimp only
  simp (contextual := true) (maxDischargeDepth := 40) -implicitDefEqProofs [h₀, hq]

@[simp ↓] theorem State.abortAll_only {s₀ s : State} {ps : List Part} (h₀ : s₀.Only ps s) (hq : [.ap, .lanes] ⊆ ps)
    (ramp : Bool) : s₀.Only ps (s.abortAll ramp) := by
  simp only [List.cons_subset, List.nil_subset, and_true] at hq
  unfold State.abortAll
  dsimp only
  simp (contextual := true) (maxDischargeDepth := 40) -implicitDefEqProofs [h₀, hq]

@[simp ↓] theorem State.fsrTake_only {s₀ s : State} {ps : List Part} (h₀ : s₀.Only ps s) (hq : [.ap] ⊆ ps)
    (b c : Nat) : s₀.Only ps (s.fsrTake b c) := by
  simp only [List.cons_subset, List.nil_subset, and_true] at hq
  unfold State.fsrTake
  simp (contextual := true) (maxDischargeDepth := 40) -implicitDefEqProofs [h₀, hq]

@[simp ↓] theorem State.fluxClearAll_only {s₀ s : State} {ps : List Part} (h₀ : s₀.Only ps s) (hq : [.out] ⊆ ps) :
    s₀.Only ps s.fluxClearAll := by
  simp only [List.cons_subset, List.nil_subset, and_true] at hq
  unfold State.fluxClearAll
  dsimp only
  simp (contextual := true) (maxDischargeDepth := 40) -implicitDefEqProofs [h₀, hq]

@[simp ↓] theorem State.tagsOff_only {s₀ s : State} {ps : List Part} (h₀ : s₀.Only ps s) (hq : [.dec] ⊆ ps)
    (b : Nat) : s₀.Only ps (s.tagsOff b) := by
  simp only [List.cons_subset, List.nil_subset, and_true] at hq
  unfold State.tagsOff
  dsimp only
  simp (contextual := true) (maxDischargeDepth := 40) -implicitDefEqProofs [h₀, hq]

@[simp ↓] theorem State.linkDownFlag_only {s₀ s : State} {ps : List Part} (h₀ : s₀.Only ps s)
    (hq : [.ap, .outbox] ⊆ ps) (p : Nat) : s₀.Only ps (s.linkDownFlag p) := by
  simp only [List.cons_subset, List.nil_subset, and_true] at hq
  unfold State.linkDownFlag
  simp (contextual := true) (maxDischargeDepth := 40) -implicitDefEqProofs [h₀, hq]

@[simp ↓] theorem State.criersTrain_only {s₀ s : State} {ps : List Part} (h₀ : s₀.Only ps s) (hq : [.dec] ⊆ ps) :
    s₀.Only ps s.criersTrain := by
  simp only [List.cons_subset, List.nil_subset, and_true] at hq
  unfold State.criersTrain
  simp (contextual := true) (maxDischargeDepth := 40) -implicitDefEqProofs [h₀, hq]

@[simp ↓] theorem State.criersEntered_only {s₀ s : State} {ps : List Part} (h₀ : s₀.Only ps s)
    (hq : [.ap, .dec, .outbox] ⊆ ps) : s₀.Only ps s.criersEntered := by
  simp only [List.cons_subset, List.nil_subset, and_true] at hq
  unfold State.criersEntered
  simp (contextual := true) (maxDischargeDepth := 40) -implicitDefEqProofs [h₀, hq]

@[simp ↓] theorem State.criersStop_only {s₀ s : State} {ps : List Part} (h₀ : s₀.Only ps s) (hq : [.dec] ⊆ ps) :
    s₀.Only ps s.criersStop := by
  simp only [List.cons_subset, List.nil_subset, and_true] at hq
  unfold State.criersStop
  simp (contextual := true) (maxDischargeDepth := 40) -implicitDefEqProofs [h₀, hq]

@[simp ↓] theorem State.fmOff_only {s₀ s : State} {ps : List Part} (h₀ : s₀.Only ps s) (hq : [.fms] ⊆ ps) (b : Nat)
    : s₀.Only ps (s.fmOff b) := by
  simp only [List.cons_subset, List.nil_subset, and_true] at hq
  unfold State.fmOff
  simp (contextual := true) (maxDischargeDepth := 40) -implicitDefEqProofs [h₀, hq]

@[simp ↓] theorem State.fmAskStop_only {s₀ s : State} {ps : List Part} (h₀ : s₀.Only ps s) (hq : [.fms] ⊆ ps)
    (b : Nat) : s₀.Only ps (s.fmAskStop b) := by
  simp only [List.cons_subset, List.nil_subset, and_true] at hq
  unfold State.fmAskStop
  dsimp only
  simp (contextual := true) (maxDischargeDepth := 40) -implicitDefEqProofs [h₀, hq]

@[simp ↓] theorem State.fmHaltNow_only {s₀ s : State} {ps : List Part} (h₀ : s₀.Only ps s) (hq : [.ap, .fms] ⊆ ps)
    (b : Nat) (st : FmSt) (hold : Bool) : s₀.Only ps (s.fmHaltNow b st hold) := by
  simp only [List.cons_subset, List.nil_subset, and_true] at hq
  unfold State.fmHaltNow
  dsimp only
  simp (contextual := true) (maxDischargeDepth := 40) -implicitDefEqProofs [h₀, hq]

@[simp ↓] theorem State.fmHalt_only {s₀ s : State} {ps : List Part} (h₀ : s₀.Only ps s) (hq : [.ap, .fms] ⊆ ps)
    (b : Nat) (st : FmSt) (hold : Bool) : s₀.Only ps (s.fmHalt b st hold) := by
  simp only [List.cons_subset, List.nil_subset, and_true] at hq
  unfold State.fmHalt
  dsimp only
  simp (contextual := true) (maxDischargeDepth := 40) -implicitDefEqProofs [h₀, hq]

@[simp ↓] theorem State.fmArm_only {s₀ s : State} {ps : List Part} (h₀ : s₀.Only ps s) (hq : [.bench, .fms] ⊆ ps)
    (b : Nat) (resume : Bool) : s₀.Only ps (s.fmArm b resume) := by
  simp only [List.cons_subset, List.nil_subset, and_true] at hq
  unfold State.fmArm
  dsimp only
  simp (contextual := true) (maxDischargeDepth := 40) -implicitDefEqProofs [h₀, hq]

@[simp ↓] theorem State.writePart_only {s₀ s : State} {ps : List Part} (h₀ : s₀.Only ps s)
    (hq : [.mem, .memc, .tally] ⊆ ps) (q : Nat) (r : Rec) : s₀.Only ps (s.writePart q r) := by
  simp only [List.cons_subset, List.nil_subset, and_true] at hq
  unfold State.writePart
  dsimp only
  simp (contextual := true) (maxDischargeDepth := 40) -implicitDefEqProofs [h₀, hq]

@[simp ↓] theorem State.finalGap_only {s₀ s : State} {ps : List Part} (h₀ : s₀.Only ps s) (hq : [.tally] ⊆ ps)
    (st : Nat) : s₀.Only ps (s.finalGap st) := by
  simp only [List.cons_subset, List.nil_subset, and_true] at hq
  unfold State.finalGap
  dsimp only
  simp (contextual := true) (maxDischargeDepth := 40) -implicitDefEqProofs [h₀, hq]

@[simp ↓] theorem State.lostRec_only {s₀ s : State} {ps : List Part} (h₀ : s₀.Only ps s) (hq : [.ap, .tally] ⊆ ps)
    (st seq : Nat) : s₀.Only ps (s.lostRec st seq) := by
  simp only [List.cons_subset, List.nil_subset, and_true] at hq
  unfold State.lostRec
  simp (contextual := true) (maxDischargeDepth := 40) -implicitDefEqProofs [h₀, hq]

@[simp ↓] theorem State.streamStops_only {s₀ s : State} {ps : List Part} (h₀ : s₀.Only ps s)
    (hq : [.ap, .fms, .tally, .outbox] ⊆ ps) (st : Nat) : s₀.Only ps (s.streamStops st) := by
  simp only [List.cons_subset, List.nil_subset, and_true] at hq
  unfold State.streamStops
  dsimp only
  simp (contextual := true) (maxDischargeDepth := 40) -implicitDefEqProofs [h₀, hq]

@[simp ↓] theorem State.tallyStop_only {s₀ s : State} {ps : List Part} (h₀ : s₀.Only ps s)
    (hq : [.ap, .mem, .memc, .tally] ⊆ ps) : s₀.Only ps s.tallyStop := by
  simp only [List.cons_subset, List.nil_subset, and_true] at hq
  unfold State.tallyStop
  dsimp only
  refine State.Only.foldAll ?_ (fun t q ht => ?_) _
  · refine State.Only.ite h₀ (State.Only.foldAll h₀ (fun t q ht => ?_) _)
    split
    · refine State.Only.ite (State.Only.foldAll ht (fun u _ hu => ?_) _) ht
      split
      · exact State.Only.ite (State.writePart_only hu (by simp [hq]) _ _) hu
      · exact hu
    · exact ht
  · simp (contextual := true) (maxDischargeDepth := 40) -implicitDefEqProofs [ht, hq]

@[simp ↓] theorem State.benchLaneOff_only {s₀ s : State} {ps : List Part} (h₀ : s₀.Only ps s)
    (hq : [.ap, .lanes] ⊆ ps) (b l : Nat) : s₀.Only ps (s.benchLaneOff b l) := by
  simp only [List.cons_subset, List.nil_subset, and_true] at hq
  unfold State.benchLaneOff
  simp (contextual := true) (maxDischargeDepth := 40) -implicitDefEqProofs [h₀, hq]

@[simp ↓] theorem State.benchEngOff_only {s₀ s : State} {ps : List Part} (h₀ : s₀.Only ps s) (hq : [.engines] ⊆ ps)
    (b e : Nat) : s₀.Only ps (s.benchEngOff b e) := by
  simp only [List.cons_subset, List.nil_subset, and_true] at hq
  unfold State.benchEngOff
  simp (contextual := true) (maxDischargeDepth := 40) -implicitDefEqProofs [h₀, hq]

@[simp ↓] theorem State.benchStop_only {s₀ s : State} {ps : List Part} (h₀ : s₀.Only ps s)
    (hq : [.ap, .bench, .lanes, .engines, .dec, .fms, .tally, .outbox] ⊆ ps) (b : Nat) :
    s₀.Only ps (s.benchStop b) := by
  simp only [List.cons_subset, List.nil_subset, and_true] at hq
  unfold State.benchStop
  dsimp only
  simp (contextual := true) (maxDischargeDepth := 40) -implicitDefEqProofs [h₀, hq]

@[simp ↓] theorem State.benchStart_only {s₀ s : State} {ps : List Part} (h₀ : s₀.Only ps s)
    (hq : [.ap, .bench, .lanes, .engines] ⊆ ps) (b : Nat) : s₀.Only ps (s.benchStart b) := by
  simp only [List.cons_subset, List.nil_subset, and_true] at hq
  unfold State.benchStart
  dsimp only
  simp (contextual := true) (maxDischargeDepth := 40) -implicitDefEqProofs [h₀, hq]

@[simp ↓] theorem State.benchResetBegin_only {s₀ s : State} {ps : List Part} (h₀ : s₀.Only ps s)
    (hq : [.ap, .bench, .lanes, .engines, .dec, .fms, .tally, .outbox] ⊆ ps) (b : Nat) :
    s₀.Only ps (s.benchResetBegin b) := by
  simp only [List.cons_subset, List.nil_subset, and_true] at hq
  unfold State.benchResetBegin
  dsimp only
  simp (contextual := true) (maxDischargeDepth := 40) -implicitDefEqProofs [h₀, hq]

@[simp ↓] theorem State.cachesLost_only {s₀ s : State} {ps : List Part} (h₀ : s₀.Only ps s) (hq : [.looms] ⊆ ps)
    (b : Nat) : s₀.Only ps (s.cachesLost b) := by
  simp only [List.cons_subset, List.nil_subset, and_true] at hq
  unfold State.cachesLost
  dsimp only
  simp (contextual := true) (maxDischargeDepth := 40) -implicitDefEqProofs [h₀, hq]

@[simp ↓] theorem State.biasDown_only {s₀ s : State} {ps : List Part} (h₀ : s₀.Only ps s) (hq : [.slow] ⊆ ps)
    (n : Nat) : s₀.Only ps (s.biasDown n) := by
  simp only [List.cons_subset, List.nil_subset, and_true] at hq
  unfold State.biasDown
  simp (contextual := true) (maxDischargeDepth := 40) -implicitDefEqProofs [h₀, hq]

@[simp ↓] theorem State.biasPark_only {s₀ s : State} {ps : List Part} (h₀ : s₀.Only ps s) (hq : [.slow] ⊆ ps)
    (n : Nat) : s₀.Only ps (s.biasPark n) := by
  simp only [List.cons_subset, List.nil_subset, and_true] at hq
  unfold State.biasPark
  dsimp only
  simp (contextual := true) (maxDischargeDepth := 40) -implicitDefEqProofs [h₀, hq]

@[simp ↓] theorem State.budgetNote_only {s₀ s : State} {ps : List Part} (h₀ : s₀.Only ps s)
    (hq : [.ap, .outbox] ⊆ ps) (r : Budget) (mask point : Nat) (out : Option (Nat × Nat)) :
    s₀.Only ps (s.budgetNote r mask point out) := by
  simp only [List.cons_subset, List.nil_subset, and_true] at hq
  unfold State.budgetNote
  dsimp only
  simp (contextual := true) (maxDischargeDepth := 40) -implicitDefEqProofs [h₀, hq]

@[simp ↓] theorem State.budgetCheck_only {s₀ s : State} {ps : List Part} (h₀ : s₀.Only ps s)
    (hq : [.ap, .outbox] ⊆ ps) (mask point : Nat) : s₀.Only ps (s.budgetCheck mask point).1 := by
  simp only [List.cons_subset, List.nil_subset, and_true] at hq
  unfold State.budgetCheck
  dsimp only
  simp (contextual := true) (maxDischargeDepth := 40) -implicitDefEqProofs [h₀, hq]

@[simp ↓] theorem State.staleCh_only {s₀ s : State} {ps : List Part} (h₀ : s₀.Only ps s) (hq : [.ap] ⊆ ps) (c : Nat)
    : s₀.Only ps (s.staleCh c) := by
  simp only [List.cons_subset, List.nil_subset, and_true] at hq
  unfold State.staleCh
  simp (contextual := true) (maxDischargeDepth := 40) -implicitDefEqProofs [h₀, hq]

@[simp ↓] theorem State.scanHalt_only {s₀ s : State} {ps : List Part} (h₀ : s₀.Only ps s) (hq : [.ap, .slow] ⊆ ps) :
    s₀.Only ps s.scanHalt := by
  simp only [List.cons_subset, List.nil_subset, and_true] at hq
  unfold State.scanHalt
  dsimp only
  simp (contextual := true) (maxDischargeDepth := 40) -implicitDefEqProofs [h₀, hq]

@[simp ↓] theorem State.regsLost_only {s₀ s : State} {ps : List Part} (h₀ : s₀.Only ps s) (hq : [.ap] ⊆ ps)
    (keep : Nat → Bool) (open_ : Bool) : s₀.Only ps (s.regsLost keep open_) := by
  simp only [List.cons_subset, List.nil_subset, and_true] at hq
  unfold State.regsLost
  dsimp only
  simp (contextual := true) (maxDischargeDepth := 40) -implicitDefEqProofs [h₀, hq]

@[simp ↓] theorem State.loopsOff_only {s₀ s : State} {ps : List Part} (h₀ : s₀.Only ps s) (hq : [.slow] ⊆ ps) :
    s₀.Only ps s.loopsOff := by
  simp only [List.cons_subset, List.nil_subset, and_true] at hq
  unfold State.loopsOff
  simp (contextual := true) (maxDischargeDepth := 40) -implicitDefEqProofs [h₀, hq]

@[simp ↓] theorem State.surveyLost_only {s₀ s : State} {ps : List Part} (h₀ : s₀.Only ps s)
    (hq : [.ap, .therm, .outbox] ⊆ ps) : s₀.Only ps s.surveyLost := by
  simp only [List.cons_subset, List.nil_subset, and_true] at hq
  unfold State.surveyLost
  dsimp only
  simp (contextual := true) (maxDischargeDepth := 40) -implicitDefEqProofs [h₀, hq]

@[simp ↓] theorem State.tokenCut_only {s₀ s : State} {ps : List Part} (h₀ : s₀.Only ps s)
    (hq : [.host, .freeCtr] ⊆ ps) : s₀.Only ps s.tokenCut := by
  simp only [List.cons_subset, List.nil_subset, and_true] at hq
  unfold State.tokenCut
  dsimp only
  split <;> simp (contextual := true) (maxDischargeDepth := 40) -implicitDefEqProofs [h₀, hq]

@[simp ↓] theorem State.coreLost_only {s₀ s : State} {ps : List Part} (h₀ : s₀.Only ps s)
        (hq : [.transit, .hold, .trim, .load, .pat, .ap, .mem, .bench, .time, .segs, .looms, .lanes, .out, .chans,
      .adcs, .engines, .xyStages, .dec, .fms, .memc, .tally, .fabric, .therm, .host, .pins, .captures, .recent,
      .setvAt, .freeCtr] ⊆ ps)
    (keep : Nat → Bool) (open_ : Bool) : s₀.Only ps (s.coreLost keep open_) := by
  simp only [List.cons_subset, List.nil_subset, and_true] at hq
  unfold State.coreLost
  dsimp only
  simp (contextual := true) (maxDischargeDepth := 40) -implicitDefEqProofs [h₀, hq]

@[simp ↓] theorem State.migrationStands_only {s₀ s : State} {ps : List Part} (h₀ : s₀.Only ps s)
    (hq : [.ap, .memc] ⊆ ps) : s₀.Only ps s.migrationStands := by
  simp only [List.cons_subset, List.nil_subset, and_true] at hq
  unfold State.migrationStands
  dsimp only
  split <;> simp (contextual := true) (maxDischargeDepth := 40) -implicitDefEqProofs [h₀, hq]

@[simp ↓] theorem State.biasAllDown_only {s₀ s : State} {ps : List Part} (h₀ : s₀.Only ps s) (hq : [.slow] ⊆ ps) :
    s₀.Only ps s.biasAllDown := by
  simp only [List.cons_subset, List.nil_subset, and_true] at hq
  unfold State.biasAllDown
  simp (contextual := true) (maxDischargeDepth := 40) -implicitDefEqProofs [h₀, hq]

@[simp ↓] theorem State.biasAllPark_only {s₀ s : State} {ps : List Part} (h₀ : s₀.Only ps s) (hq : [.slow] ⊆ ps) :
    s₀.Only ps s.biasAllPark := by
  simp only [List.cons_subset, List.nil_subset, and_true] at hq
  unfold State.biasAllPark
  simp (contextual := true) (maxDischargeDepth := 40) -implicitDefEqProofs [h₀, hq]

@[simp ↓] theorem State.commit_only {s₀ s : State} {ps : List Part} (h₀ : s₀.Only ps s) (hq : [.host] ⊆ ps)
    (k : LedgerKind) (data : List Nat) : s₀.Only ps (s.commit k data) := by
  simp only [List.cons_subset, List.nil_subset, and_true] at hq
  unfold State.commit
  dsimp only
  simp (contextual := true) (maxDischargeDepth := 40) -implicitDefEqProofs [h₀, hq]

@[simp ↓] theorem State.markLost_only {s₀ s : State} {ps : List Part} (h₀ : s₀.Only ps s) (hq : [.ap, .looms] ⊆ ps)
    (lost : Nat → Bool) : s₀.Only ps (s.markLost lost) := by
  simp only [List.cons_subset, List.nil_subset, and_true] at hq
  unfold State.markLost
  dsimp only
  simp (contextual := true) (maxDischargeDepth := 40) -implicitDefEqProofs [h₀, hq]

@[simp ↓] theorem State.memMark_only {s₀ s : State} {ps : List Part} (h₀ : s₀.Only ps s)
    (hq : [.ap, .fms, .tally, .outbox] ⊆ ps) (event dev : Nat) : s₀.Only ps (s.memMark event dev) := by
  simp only [List.cons_subset, List.nil_subset, and_true] at hq
  unfold State.memMark
  simp (contextual := true) (maxDischargeDepth := 40) -implicitDefEqProofs [h₀, hq]

@[simp ↓] theorem State.bytesLost_only {s₀ s : State} {ps : List Part} (h₀ : s₀.Only ps s) (hq : [.mem, .memc] ⊆ ps)
    (lost : Nat → Bool) : s₀.Only ps (s.bytesLost lost) := by
  simp only [List.cons_subset, List.nil_subset, and_true] at hq
  unfold State.bytesLost
  dsimp only
  simp (contextual := true) (maxDischargeDepth := 40) -implicitDefEqProofs [h₀, hq]

@[simp ↓] theorem State.keepLoss_only {s₀ s : State} {ps : List Part} (h₀ : s₀.Only ps s)
    (hq : [.ap, .mem, .looms, .fms, .memc, .tally, .outbox] ⊆ ps) : s₀.Only ps s.keepLoss := by
  simp only [List.cons_subset, List.nil_subset, and_true] at hq
  unfold State.keepLoss
  dsimp only
  simp (contextual := true) (maxDischargeDepth := 40) -implicitDefEqProofs [h₀, hq]

@[simp ↓] theorem State.become_only {s₀ s : State} {ps : List Part} (h₀ : s₀.Only ps s)
    (hq : [.mode, .ap, .fms, .memc, .tally, .fabric, .outbox] ⊆ ps) (m : Mode) (cause : Nat) :
    s₀.Only ps (s.become m cause) := by
  simp only [List.cons_subset, List.nil_subset, and_true] at hq
  unfold State.become
  dsimp only
  simp (contextual := true) (maxDischargeDepth := 40) -implicitDefEqProofs [h₀, hq]

@[simp ↓] theorem State.memWake_only {s₀ s : State} {ps : List Part} (h₀ : s₀.Only ps s) (hq : [.memc] ⊆ ps) :
    s₀.Only ps s.memWake := by
  simp only [List.cons_subset, List.nil_subset, and_true] at hq
  unfold State.memWake
  dsimp only
  simp (contextual := true) (maxDischargeDepth := 40) -implicitDefEqProofs [h₀, hq]

@[simp ↓] theorem State.memSleep_only {s₀ s : State} {ps : List Part} (h₀ : s₀.Only ps s) (hq : [.memc] ⊆ ps) :
    s₀.Only ps s.memSleep := by
  simp only [List.cons_subset, List.nil_subset, and_true] at hq
  unfold State.memSleep
  dsimp only
  simp (contextual := true) (maxDischargeDepth := 40) -implicitDefEqProofs [h₀, hq]

@[simp ↓] theorem State.convsOff_only {s₀ s : State} {ps : List Part} (h₀ : s₀.Only ps s) (hq : [.out] ⊆ ps) :
    s₀.Only ps s.convsOff := by
  simp only [List.cons_subset, List.nil_subset, and_true] at hq
  unfold State.convsOff
  dsimp only
  simp (contextual := true) (maxDischargeDepth := 40) -implicitDefEqProofs [h₀, hq]

@[simp ↓] theorem State.convsOn_only {s₀ s : State} {ps : List Part} (h₀ : s₀.Only ps s) (hq : [.out] ⊆ ps) :
    s₀.Only ps s.convsOn := by
  simp only [List.cons_subset, List.nil_subset, and_true] at hq
  unfold State.convsOn
  simp (contextual := true) (maxDischargeDepth := 40) -implicitDefEqProofs [h₀, hq]

@[simp ↓] theorem State.isincTake_only {s₀ s : State} {ps : List Part} (h₀ : s₀.Only ps s) (hq : [.out] ⊆ ps) :
    s₀.Only ps s.isincTake := by
  simp only [List.cons_subset, List.nil_subset, and_true] at hq
  unfold State.isincTake
  simp (contextual := true) (maxDischargeDepth := 40) -implicitDefEqProofs [h₀, hq]

@[simp ↓] theorem State.fsrTakeAll_only {s₀ s : State} {ps : List Part} (h₀ : s₀.Only ps s) (hq : [.ap] ⊆ ps) :
    s₀.Only ps s.fsrTakeAll := by
  simp only [List.cons_subset, List.nil_subset, and_true] at hq
  unfold State.fsrTakeAll
  simp (contextual := true) (maxDischargeDepth := 40) -implicitDefEqProofs [h₀, hq]

@[simp ↓] theorem State.fmsOff_only {s₀ s : State} {ps : List Part} (h₀ : s₀.Only ps s) (hq : [.ap, .fms] ⊆ ps) :
    s₀.Only ps s.fmsOff := by
  simp only [List.cons_subset, List.nil_subset, and_true] at hq
  unfold State.fmsOff
  dsimp only
  simp (contextual := true) (maxDischargeDepth := 40) -implicitDefEqProofs [h₀, hq]

@[simp ↓] theorem State.engsStop_only {s₀ s : State} {ps : List Part} (h₀ : s₀.Only ps s) (hq : [.engines] ⊆ ps) :
    s₀.Only ps s.engsStop := by
  simp only [List.cons_subset, List.nil_subset, and_true] at hq
  unfold State.engsStop
  simp (contextual := true) (maxDischargeDepth := 40) -implicitDefEqProofs [h₀, hq]

@[simp ↓] theorem State.coresStop_only {s₀ s : State} {ps : List Part} (h₀ : s₀.Only ps s) (hq : [.host] ⊆ ps) :
    s₀.Only ps s.coresStop := by
  simp only [List.cons_subset, List.nil_subset, and_true] at hq
  unfold State.coresStop
  dsimp only
  simp (contextual := true) (maxDischargeDepth := 40) -implicitDefEqProofs [h₀, hq]

@[simp ↓] theorem State.allCachesLost_only {s₀ s : State} {ps : List Part} (h₀ : s₀.Only ps s) (hq : [.looms] ⊆ ps)
    : s₀.Only ps s.allCachesLost := by
  simp only [List.cons_subset, List.nil_subset, and_true] at hq
  unfold State.allCachesLost
  simp (contextual := true) (maxDischargeDepth := 40) -implicitDefEqProofs [h₀, hq]

@[simp ↓] theorem State.memRail_only {s₀ s : State} {ps : List Part} (h₀ : s₀.Only ps s)
    (hq : [.pins, .outbox] ⊆ ps) (on : Bool) : s₀.Only ps (s.memRail on) := by
  simp only [List.cons_subset, List.nil_subset, and_true] at hq
  unfold State.memRail
  dsimp only
  simp (contextual := true) (maxDischargeDepth := 40) -implicitDefEqProofs [h₀, hq]

@[simp ↓] theorem State.beginTo_only {s₀ s : State} {ps : List Part} (h₀ : s₀.Only ps s) (hq : [.transit] ⊆ ps)
    (dst : Mode) (kind : TransKind) (ticks : Nat) : s₀.Only ps (s.beginTo dst kind ticks) := by
  simp only [List.cons_subset, List.nil_subset, and_true] at hq
  unfold State.beginTo
  simp (contextual := true) (maxDischargeDepth := 40) -implicitDefEqProofs [h₀, hq]

@[simp ↓] theorem State.fastStart_only {s₀ s : State} {ps : List Part} (h₀ : s₀.Only ps s)
    (hq : [.clk, .dec, .memc] ⊆ ps) : s₀.Only ps s.fastStart := by
  simp only [List.cons_subset, List.nil_subset, and_true] at hq
  unfold State.fastStart
  simp (contextual := true) (maxDischargeDepth := 40) -implicitDefEqProofs [h₀, hq]

@[simp ↓] theorem State.beginService_only {s₀ s : State} {ps : List Part} (h₀ : s₀.Only ps s)
    (hq : [.clk, .transit, .dec, .memc] ⊆ ps) : s₀.Only ps s.beginService := by
  simp only [List.cons_subset, List.nil_subset, and_true] at hq
  unfold State.beginService
  simp (contextual := true) (maxDischargeDepth := 40) -implicitDefEqProofs [h₀, hq]

@[simp ↓] theorem State.beginIdle_only {s₀ s : State} {ps : List Part} (h₀ : s₀.Only ps s) (hq : [.transit] ⊆ ps) :
    s₀.Only ps s.beginIdle := by
  simp only [List.cons_subset, List.nil_subset, and_true] at hq
  unfold State.beginIdle
  simp (contextual := true) (maxDischargeDepth := 40) -implicitDefEqProofs [h₀, hq]

@[simp ↓] theorem State.followUp_only {s₀ s : State} {ps : List Part} (h₀ : s₀.Only ps s)
    (hq : [.clk, .transit, .dec, .memc] ⊆ ps) (f : Option Mode) : s₀.Only ps (s.followUp f) := by
  simp only [List.cons_subset, List.nil_subset, and_true] at hq
  unfold State.followUp
  split <;> simp (contextual := true) (maxDischargeDepth := 40) -implicitDefEqProofs [h₀, hq]

@[simp ↓] theorem State.sendOffset_only {s₀ s : State} {ps : List Part} (h₀ : s₀.Only ps s) (hq : [.outbox] ⊆ ps)
    (d : Nat) (ofs : Int) : s₀.Only ps (s.sendOffset d ofs) := by
  simp only [List.cons_subset, List.nil_subset, and_true] at hq
  unfold State.sendOffset
  dsimp only
  simp (contextual := true) (maxDischargeDepth := 40) -implicitDefEqProofs [h₀, hq]

@[simp ↓] theorem State.sendPlan_only {s₀ s : State} {ps : List Part} (h₀ : s₀.Only ps s)
    (hq : [.therm, .outbox] ⊆ ps) (p : Plan) (ack : Nat) : s₀.Only ps (s.sendPlan p ack).1 := by
  have hq' := hq
  simp only [List.cons_subset, List.nil_subset, and_true] at hq'
  unfold State.sendPlan
  refine foldAll_induct (fun x : State × Bool => s₀.Only ps x.1) (fun x d hx => ?_) _ (s, true) h₀
  dsimp only
  have hs : ∀ v, s₀.Only ps (x.1.sendOffset d v) := fun v => State.sendOffset_only hx (by simp [hq']) d v
  split
  · exact hx
  · split
    · simp (contextual := true) (maxDischargeDepth := 40) -implicitDefEqProofs [hs, hq']
    · exact hs _

@[simp ↓] theorem State.planSend_only {s₀ s : State} {ps : List Part} (h₀ : s₀.Only ps s)
    (hq : [.ap, .therm, .outbox] ⊆ ps) (ack : Nat) : s₀.Only ps (s.planSend ack) := by
  simp only [List.cons_subset, List.nil_subset, and_true] at hq
  unfold State.planSend
  dsimp only
  simp (contextual := true) (maxDischargeDepth := 40) -implicitDefEqProofs [h₀, hq]

@[simp ↓] theorem State.planTake_only {s₀ s : State} {ps : List Part} (h₀ : s₀.Only ps s) (hq : [.therm] ⊆ ps) :
    s₀.Only ps s.planTake := by
  simp only [List.cons_subset, List.nil_subset, and_true] at hq
  unfold State.planTake
  dsimp only
  split <;> simp (contextual := true) (maxDischargeDepth := 40) -implicitDefEqProofs [h₀, hq]

@[simp ↓] theorem State.alertServe_only {s₀ s : State} {ps : List Part} (h₀ : s₀.Only ps s)
    (hq : [.ap, .outbox] ⊆ ps) (faulty : Bool) : s₀.Only ps (s.alertServe faulty) := by
  simp only [List.cons_subset, List.nil_subset, and_true] at hq
  unfold State.alertServe
  dsimp only
  simp (contextual := true) (maxDischargeDepth := 40) -implicitDefEqProofs [h₀, hq]

@[simp ↓] theorem State.alertLate_only {s₀ s : State} {ps : List Part} (h₀ : s₀.Only ps s)
    (hq : [.ap, .pins, .outbox] ⊆ ps) : s₀.Only ps s.alertLate := by
  simp only [List.cons_subset, List.nil_subset, and_true] at hq
  unfold State.alertLate
  dsimp only
  split <;> simp (contextual := true) (maxDischargeDepth := 40) -implicitDefEqProofs [h₀, hq]

@[simp ↓] theorem State.streamTake_only {s₀ s : State} {ps : List Part} (h₀ : s₀.Only ps s) (hq : [.looms] ⊆ ps)
    (b : Nat) : s₀.Only ps (s.streamTake b) := by
  simp only [List.cons_subset, List.nil_subset, and_true] at hq
  unfold State.streamTake
  simp (contextual := true) (maxDischargeDepth := 40) -implicitDefEqProofs [h₀, hq]

@[simp ↓] theorem State.pllLockStep_only {s₀ s : State} {ps : List Part} (h₀ : s₀.Only ps s)
    (hq : [.clk, .transit, .dec, .memc] ⊆ ps) : s₀.Only ps s.pllLockStep := by
  simp only [List.cons_subset, List.nil_subset, and_true] at hq
  unfold State.pllLockStep
  dsimp only
  simp (contextual := true) (maxDischargeDepth := 40) -implicitDefEqProofs [h₀, hq]

@[simp ↓] theorem State.entrySteps_only {s₀ s : State} {ps : List Part} (h₀ : s₀.Only ps s)
    (hq : [.clk, .transit, .dec, .memc] ⊆ ps) : s₀.Only ps s.entrySteps := by
  simp only [List.cons_subset, List.nil_subset, and_true] at hq
  unfold State.entrySteps
  simp (contextual := true) (maxDischargeDepth := 40) -implicitDefEqProofs [h₀, hq]

@[simp ↓] theorem State.notePrev_only {s₀ s : State} {ps : List Part} (h₀ : s₀.Only ps s) (hq : [.ap] ⊆ ps) :
    s₀.Only ps s.notePrev := by
  simp only [List.cons_subset, List.nil_subset, and_true] at hq
  unfold State.notePrev
  simp (contextual := true) (maxDischargeDepth := 40) -implicitDefEqProofs [h₀, hq]

@[simp ↓] theorem State.resetCommon_only {s₀ s : State} {ps : List Part} (h₀ : s₀.Only ps s)
        (hq : [.clk, .transit, .hold, .trim, .load, .pat, .ap, .mem, .bench, .time, .segs, .looms, .lanes, .out,
      .chans, .adcs, .engines, .xyStages, .dec, .fms, .memc, .tally, .fabric, .slow, .therm, .host, .pins,
      .captures, .recent, .setvAt, .freeCtr] ⊆ ps)
    (keep : Nat → Bool) : s₀.Only ps (s.resetCommon keep) := by
  simp only [List.cons_subset, List.nil_subset, and_true] at hq
  unfold State.resetCommon
  simp (contextual := true) (maxDischargeDepth := 40) -implicitDefEqProofs [h₀, hq]

@[simp ↓] theorem State.intentCheck_only {s₀ s : State} {ps : List Part} (h₀ : s₀.Only ps s)
    (hq : [.ap, .host] ⊆ ps) : s₀.Only ps s.intentCheck := by
  simp only [List.cons_subset, List.nil_subset, and_true] at hq
  unfold State.intentCheck
  simp (contextual := true) (maxDischargeDepth := 40) -implicitDefEqProofs [h₀, hq]

@[simp ↓] theorem State.marginPut_only {s₀ s : State} {ps : List Part} (h₀ : s₀.Only ps s)
    (hq : [.ap, .freeCtr] ⊆ ps) (d : Nat) (m : Int) : s₀.Only ps (s.marginPut d m) := by
  simp only [List.cons_subset, List.nil_subset, and_true] at hq
  unfold State.marginPut
  dsimp only
  simp (contextual := true) (maxDischargeDepth := 40) -implicitDefEqProofs [h₀, hq]

@[simp ↓] theorem State.ueResult_only {s₀ s : State} {ps : List Part} (h₀ : s₀.Only ps s) (hq : [.ap, .outbox] ⊆ ps)
    (who : Who) : s₀.Only ps (s.ueResult who) := by
  simp only [List.cons_subset, List.nil_subset, and_true] at hq
  unfold State.ueResult
  split <;> simp (contextual := true) (maxDischargeDepth := 40) -implicitDefEqProofs [h₀, hq]

@[simp ↓] theorem State.rowsRefreshed_only {s₀ s : State} {ps : List Part} (h₀ : s₀.Only ps s)
    (hq : [.memc, .freeCtr] ⊆ ps) (c : Nat) : s₀.Only ps (s.rowsRefreshed c) := by
  simp only [List.cons_subset, List.nil_subset, and_true] at hq
  unfold State.rowsRefreshed
  dsimp only
  simp (contextual := true) (maxDischargeDepth := 40) -implicitDefEqProofs [h₀, hq]

@[simp ↓] theorem State.limit_only {s₀ s : State} {ps : List Part} (h₀ : s₀.Only ps s) (hq : [.memc] ⊆ ps)
    (c q : Nat) : s₀.Only ps (s.limit c q) := by
  simp only [List.cons_subset, List.nil_subset, and_true] at hq
  unfold State.limit
  dsimp only
  simp (contextual := true) (maxDischargeDepth := 40) -implicitDefEqProofs [h₀, hq]

@[simp ↓] theorem State.maint_only {s₀ s : State} {ps : List Part} (h₀ : s₀.Only ps s) (hq : [.memc] ⊆ ps)
    (m : Option Maint) : s₀.Only ps (s.maint m) := by
  simp only [List.cons_subset, List.nil_subset, and_true] at hq
  unfold State.maint
  dsimp only
  simp (contextual := true) (maxDischargeDepth := 40) -implicitDefEqProofs [h₀, hq]

@[simp ↓] theorem State.memRecord_only {s₀ s : State} {ps : List Part} (h₀ : s₀.Only ps s) (hq : [.host] ⊆ ps)
    (d : Nat) : s₀.Only ps (s.memRecord d) := by
  simp only [List.cons_subset, List.nil_subset, and_true] at hq
  unfold State.memRecord
  simp (contextual := true) (maxDischargeDepth := 40) -implicitDefEqProofs [h₀, hq]

@[simp ↓] theorem State.takeSlot_only {s₀ s : State} {ps : List Part} (h₀ : s₀.Only ps s) (hq : [.memc] ⊆ ps)
    (d sp : Nat) : s₀.Only ps (s.takeSlot d sp) := by
  simp only [List.cons_subset, List.nil_subset, and_true] at hq
  unfold State.takeSlot
  dsimp only
  simp (contextual := true) (maxDischargeDepth := 40) -implicitDefEqProofs [h₀, hq]

@[simp ↓] theorem State.trained_only {s₀ s : State} {ps : List Part} (h₀ : s₀.Only ps s) (hq : [.memc] ⊆ ps) :
    s₀.Only ps s.trained := by
  simp only [List.cons_subset, List.nil_subset, and_true] at hq
  unfold State.trained
  dsimp only
  simp (contextual := true) (maxDischargeDepth := 40) -implicitDefEqProofs [h₀, hq]

@[simp ↓] theorem State.carterPut_only {s₀ s : State} {ps : List Part} (h₀ : s₀.Only ps s)
    (hq : [.ap, .host, .outbox] ⊆ ps) (p st : Nat) : s₀.Only ps (s.carterPut p st) := by
  simp only [List.cons_subset, List.nil_subset, and_true] at hq
  unfold State.carterPut
  dsimp only
  simp (contextual := true) (maxDischargeDepth := 40) -implicitDefEqProofs [h₀, hq]

@[simp ↓] theorem State.porterStart_only {s₀ s : State} {ps : List Part} (h₀ : s₀.Only ps s)
    (hq : [.ap, .host] ⊆ ps) (j : PorterJob) : s₀.Only ps (s.porterStart j) := by
  simp only [List.cons_subset, List.nil_subset, and_true] at hq
  unfold State.porterStart
  dsimp only
  simp (contextual := true) (maxDischargeDepth := 40) -implicitDefEqProofs [h₀, hq]

@[simp ↓] theorem lcToken_only {s₀ s : State} {ps : List Part} (h₀ : s₀.Only ps s) (hq : [.ap, .host] ⊆ ps)
    (t : Token) : s₀.Only ps (lcToken t s) := by
  simp only [List.cons_subset, List.nil_subset, and_true] at hq
  unfold lcToken
  dsimp only
  simp (contextual := true) (maxDischargeDepth := 40) -implicitDefEqProofs [h₀, hq]

@[simp ↓] theorem State.porterEnd_only {s₀ s : State} {ps : List Part} (h₀ : s₀.Only ps s)
    (hq : [.ap, .host, .outbox] ⊆ ps) (result olen : Nat) : s₀.Only ps (s.porterEnd result olen) := by
  simp only [List.cons_subset, List.nil_subset, and_true] at hq
  unfold State.porterEnd
  dsimp only
  simp (contextual := true) (maxDischargeDepth := 40) -implicitDefEqProofs [h₀, hq]

@[simp ↓] theorem State.mboxFree_only {s₀ s : State} {ps : List Part} (h₀ : s₀.Only ps s)
    (hq : [.ap, .freeCtr] ⊆ ps) (n : Nat) : s₀.Only ps (s.mboxFree n) := by
  simp only [List.cons_subset, List.nil_subset, and_true] at hq
  unfold State.mboxFree
  dsimp only
  simp (contextual := true) (maxDischargeDepth := 40) -implicitDefEqProofs [h₀, hq]

@[simp ↓] theorem State.recordOut_only {s₀ s : State} {ps : List Part} (h₀ : s₀.Only ps s)
    (hq : [.ap, .freeCtr] ⊆ ps) (r : LedgerRec) : s₀.Only ps (s.recordOut r) := by
  simp only [List.cons_subset, List.nil_subset, and_true] at hq
  unfold State.recordOut
  simp (contextual := true) (maxDischargeDepth := 40) -implicitDefEqProofs [h₀, hq]

end Sys2Proof.Machine
end

section
/-!
Bits of numbers, and what a read of a register sees after the operations that every unit shares.
-/
namespace Sys2Proof.Machine

-- One proof at a time: elaborated side by side, the proofs of so long a text need too much memory.
set_option Elab.async false

/-! ### Bits -/

theorem bitAt_eq_testBit (v i : Nat) : bitAt v i = v.testBit i := by
  rw [bitAt, Nat.testBit_eq_decide_div_mod_eq, Bool.eq_iff_iff, beq_iff_eq, decide_eq_true_iff]

@[simp] theorem bitAt_or (v w i : Nat) : bitAt (v ||| w) i = (bitAt v i || bitAt w i) := by
  simp [bitAt_eq_testBit]

theorem bitAt_two_pow (k i : Nat) : bitAt (2 ^ k) i = decide (k = i) := by
  simp [bitAt_eq_testBit, Nat.testBit_two_pow]

@[simp] theorem bitAt_setBit_self (v i : Nat) : bitAt (setBit v i) i = true := by
  simp [setBit, bitAt_two_pow]

@[simp] theorem bitAt_setBit_ne (v : Nat) {i j : Nat} (h : j ≠ i) : bitAt (setBit v i) j = bitAt v j := by
  simp [setBit, bitAt_two_pow, h.symm]

theorem bitAt_clrBit_self (m i : Nat) : bitAt (clrBit m i) i = false := by
  unfold clrBit
  split
  · next h =>
    rw [bitAt_eq_testBit] at h ⊢
    have hle : 2 ^ i ≤ m := Nat.ge_two_pow_of_testBit h
    have hs : (2 ^ i + (m - 2 ^ i)).testBit i = !(m - 2 ^ i).testBit i := Nat.testBit_two_pow_add_eq _ _
    rw [Nat.add_sub_cancel' hle, h] at hs
    simpa using hs.symm
  · next h => simpa using h

theorem bitAt_clrBit_ne (m : Nat) {i j : Nat} (h : j ≠ i) : bitAt (clrBit m i) j = bitAt m j := by
  unfold clrBit
  split
  · next hb =>
    rw [bitAt_eq_testBit] at hb
    have hle : 2 ^ i ≤ m := Nat.ge_two_pow_of_testBit hb
    rw [bitAt_eq_testBit, bitAt_eq_testBit]
    rcases Nat.lt_or_gt_of_ne h with h | h
    · rw [← Nat.testBit_two_pow_add_gt h, Nat.add_sub_cancel' hle]
    · have hq : m / 2 ^ i % 2 = 1 := by simpa [Nat.testBit_eq_decide_div_mod_eq] using hb
      have hd : (m - 2 ^ i) / 2 ^ (i + 1) = m / 2 ^ (i + 1) := by
        have := Nat.sub_mul_div m (2 ^ i) 1
        rw [mul_one] at this
        rw [pow_succ, ← Nat.div_div_eq_div_mul, ← Nat.div_div_eq_div_mul, this]
        generalize m / 2 ^ i = q at hq ⊢
        omega
      have hj : j = (j - (i + 1)) + (i + 1) := by omega
      rw [hj, ← Nat.testBit_div_two_pow, ← Nat.testBit_div_two_pow, hd]
  · rfl

theorem bitAt_foldl_clrBit (l : List Nat) (m i : Nat) :
    bitAt (l.foldl clrBit m) i = (bitAt m i && !l.contains i) := by
  induction l generalizing m with
  | nil => simp
  | cons a l ih =>
    rw [List.foldl_cons, ih, List.contains_cons]
    by_cases h : i = a
    · rw [h, bitAt_clrBit_self]
      simp
    · rw [bitAt_clrBit_ne _ h, beq_false_of_ne h, Bool.false_or]

theorem bitAt_mod_two_pow (v w i : Nat) : bitAt (v % 2 ^ w) i = (decide (i < w) && bitAt v i) := by
  simp [bitAt_eq_testBit]

/-! ### Fields -/

namespace State

theorem fld_congr {s t : State} {o : Nat} (h : t.reg o = s.reg o) (f : Bits) : t.fld o f = s.fld o f := by
  rw [fld, h, fld]

theorem flag_congr {s t : State} {o : Nat} (h : t.reg o = s.reg o) (f : Bits) : t.flag o f = s.flag o f := by
  rw [flag, fld_congr h, flag]

theorem fbit_congr {s t : State} {o : Nat} (h : t.reg o = s.reg o) (f : Bits) (i : Nat) :
    t.fbit o f i = s.fbit o f i := by
  rw [fbit, fld_congr h, fbit]

theorem reg64_congr {s t : State} {o : Nat} (h : t.reg o = s.reg o) (k : t.reg (o + 4) = s.reg (o + 4)) :
    t.reg64 o = s.reg64 o := by
  rw [reg64, h, k, reg64]

theorem fld_lt (s : State) (o : Nat) (f : Bits) : s.fld o f < 2 ^ f.w := bitsOf_lt _ _ _

theorem flag_setFld (s : State) (o v : Nat) (f : Bits) (h : f.lo + f.w ≤ 32) :
    (s.setFld o f v).flag o f = (v % 2 ^ f.w != 0) := by
  rw [flag, fld_setFld _ _ _ _ h]

theorem flag_raise (s : State) (o : Nat) (f : Bits) (h : f.lo + f.w ≤ 32 := by decide) (hw : 0 < f.w := by decide) :
    (s.raise o f).flag o f = true := by
  have : 1 < 2 ^ f.w := Nat.one_lt_two_pow hw.ne'
  rw [flag, fld_raise _ _ _ h, bne_iff_ne]
  omega

theorem flag_clear (s : State) (o : Nat) (f : Bits) (h : f.lo + f.w ≤ 32 := by decide) :
    (s.clear o f).flag o f = false := by
  rw [flag, fld_clear _ _ _ h]
  rfl

theorem fbit_orFld (s : State) (o m i : Nat) (f : Bits) (h : f.lo + f.w ≤ 32) (hi : i < f.w) :
    (s.orFld o f m).fbit o f i = (s.fbit o f i || bitAt m i) := by
  rw [fbit, orFld, fld_setFld _ _ _ _ h, bitAt_mod_two_pow, bitAt_or, decide_eq_true hi, Bool.true_and, fbit]

theorem reg_orFld_ne (s : State) (o p m : Nat) (f : Bits) (h : p ≠ o) : (s.orFld o f m).reg p = s.reg p :=
  reg_setFld_ne _ _ _ _ _ h

theorem reg_raise_ne (s : State) (o p : Nat) (f : Bits) (h : p ≠ o) : (s.raise o f).reg p = s.reg p :=
  reg_setFld_ne _ _ _ _ _ h

theorem reg_clear_ne (s : State) (o p : Nat) (f : Bits) (h : p ≠ o) : (s.clear o f).reg p = s.reg p :=
  reg_setFld_ne _ _ _ _ _ h

theorem reg_satAdd_ne (s : State) (o p n : Nat) (f : Bits) (h : p ≠ o) : (s.satAdd o f n).reg p = s.reg p :=
  reg_setFld_ne _ _ _ _ _ h

theorem fld_satAdd (s : State) (o n : Nat) (f : Bits) (h : f.lo + f.w ≤ 32) :
    (s.satAdd o f n).fld o f = min (s.fld o f + n) (2 ^ f.w - 1) := by
  rw [satAdd, fld_setFld _ _ _ _ h]
  exact Nat.mod_eq_of_lt (by have := Nat.two_pow_pos f.w; omega)

/-! ### Registers after interrupts and pulses -/

theorem Only.reg {s t : State} {ps : List Part} (h : s.Only ps t) (o : Nat) (hp : .ap ∉ ps := by simp) :
    t.reg o = s.reg o := reg_congr (h.ap hp) o

theorem reg_pulse (s : State) (line o : Nat) : (s.pulse line).reg o = s.reg o :=
  (pulse_only (.refl s [.fabric]) (by simp) line).reg o

theorem reg_fmTrap (s : State) (b v o : Nat) : (s.fmTrap b v).reg o = s.reg o :=
  (fmTrap_only (.refl s [.fms]) (by simp) b v).reg o

theorem reg_irq (s : State) (k o : Nat) :
    (s.irq k).reg o = if s.fbit R.TOP_IRQ_PEND Fd.TOP_IRQ_PEND_BITS k then s.reg o
      else (s.orFld R.TOP_IRQ_PEND Fd.TOP_IRQ_PEND_BITS (2 ^ k)).reg o := by
  unfold irq
  split
  · rfl
  · dsimp only
    split <;> split <;> rfl

theorem reg_irq_ne (s : State) (k : Nat) {o : Nat} (h : o ≠ R.TOP_IRQ_PEND) : (s.irq k).reg o = s.reg o := by
  rw [reg_irq, reg_orFld_ne _ _ _ _ _ h, ite_self]

theorem fbit_irq (s : State) {k : Nat} (hk : k < 32) :
    (s.irq k).fbit R.TOP_IRQ_PEND Fd.TOP_IRQ_PEND_BITS k = true := by
  by_cases h : s.fbit R.TOP_IRQ_PEND Fd.TOP_IRQ_PEND_BITS k = true
  · rw [fbit_congr (s := s) (by rw [reg_irq, if_pos h]), h]
  · rw [fbit_congr (s := s.orFld R.TOP_IRQ_PEND Fd.TOP_IRQ_PEND_BITS (2 ^ k)) (by rw [reg_irq, if_neg h]),
      fbit_orFld _ _ _ _ _ (by decide) hk]
    simp [bitAt_two_pow]

theorem reg_flagIrq_ne (s : State) (f : Bits) (k : Nat) {off o : Nat} (h : o ≠ off) (hi : o ≠ R.TOP_IRQ_PEND) :
    (s.flagIrq off f k).reg o = s.reg o := by
  unfold flagIrq
  split
  · rfl
  · rw [reg_irq_ne _ _ hi, reg_raise_ne _ _ _ _ h]

theorem irq_host (s : State) (k : Nat) : (s.irq k).host = s.host :=
  (irq_only (.refl s [.ap, .outbox]) (List.Subset.refl _) k).host

theorem flagIrq_host (s : State) (o : Nat) (f : Bits) (k : Nat) : (s.flagIrq o f k).host = s.host :=
  (flagIrq_only (.refl s [.ap, .outbox]) (List.Subset.refl _) o f k).host

theorem fld_flagIrq (s : State) {f g : Bits} (k : Nat) {off : Nat} (h : off ≠ R.TOP_IRQ_PEND)
    (hg : g.lo + g.w ≤ 32) (hd : f.lo + f.w ≤ g.lo ∨ g.lo + g.w ≤ f.lo) :
    (s.flagIrq off f k).fld off g = s.fld off g := by
  unfold flagIrq
  split
  · rfl
  · rw [fld_congr (reg_irq_ne _ _ h)]
    exact fld_setFld_disj _ _ _ _ _ hg hd

theorem flag_flagIrq (s : State) (f : Bits) (k off : Nat) (h : off ≠ R.TOP_IRQ_PEND := by decide)
    (hf : f.lo + f.w ≤ 32 := by decide) (hw : 0 < f.w := by decide) : (s.flagIrq off f k).flag off f = true := by
  unfold flagIrq
  split
  · assumption
  · rw [flag_congr (reg_irq_ne _ _ h), flag_raise _ _ _ hf hw]

theorem fld_orFld (s : State) (o m : Nat) (f : Bits) (h : f.lo + f.w ≤ 32) :
    (s.orFld o f m).fld o f = (s.fld o f ||| m) % 2 ^ f.w := by
  rw [orFld, fld_setFld _ _ _ _ h]

/-! ### What a refusal leaves in the registers -/

theorem reg_denied_ne (s : State) (who : Who) (off : Nat) (wr : Bool) {o : Nat} (h : o ≠ R.TOP_ACCESS)
    (hl : o ≠ R.TOP_ACCESS_LOG_LO) (hh : o ≠ R.TOP_ACCESS_LOG_HI) : (s.denied who off wr).reg o = s.reg o := by
  unfold denied
  split
  · rfl
  · rw [reg_setReg_ne _ _ _ _ hh, reg_setReg_ne _ _ _ _ hl, reg_raise_ne _ _ _ _ h]

theorem flag_denied (s : State) (who : Who) (off : Nat) (wr : Bool) :
    (s.denied who off wr).flag R.TOP_ACCESS Fd.TOP_ACCESS_ACCESS_DENIED = true := by
  unfold denied
  split
  · assumption
  · rw [flag_congr (s := s.raise R.TOP_ACCESS Fd.TOP_ACCESS_ACCESS_DENIED), flag_raise _ _ _ (by decide) (by decide)]
    rw [reg_setReg_ne _ _ _ _ (by decide), reg_setReg_ne _ _ _ _ (by decide)]

theorem reg_modeErr_ne (s : State) (code req : Nat) {o : Nat} (h : o ≠ R.TOP_MODE_ERR) (hi : o ≠ R.TOP_IRQ_PEND) :
    (s.modeErr code req).reg o = s.reg o := by
  rw [modeErr, reg_flagIrq_ne _ _ _ h hi, reg_setFld_ne _ _ _ _ _ h, reg_setFld_ne _ _ _ _ _ h]

theorem modeErr_shows (s : State) {code req : Nat} (hc : code < 2 ^ Fd.TOP_MODE_ERR_CODE.w)
    (hr : req < 2 ^ Fd.TOP_MODE_ERR_REQ.w) :
    (s.modeErr code req).fld R.TOP_MODE_ERR Fd.TOP_MODE_ERR_CODE = code ∧
      (s.modeErr code req).fld R.TOP_MODE_ERR Fd.TOP_MODE_ERR_REQ = req ∧
      (s.modeErr code req).flag R.TOP_MODE_ERR Fd.TOP_MODE_ERR_NEW = true := by
  refine ⟨?_, ?_, flag_flagIrq _ _ _ _ (by decide) (by decide) (by decide)⟩
  · rw [modeErr, fld_flagIrq _ _ (by decide) (by decide) (by decide), fld_setFld_disj _ _ _ _ _ (by decide) (by decide),
      fld_setFld _ _ _ _ (by decide)]
    exact Nat.mod_eq_of_lt hc
  · rw [modeErr, fld_flagIrq _ _ (by decide) (by decide) (by decide), fld_setFld _ _ _ _ (by decide)]
    exact Nat.mod_eq_of_lt hr

/-! ### Registers after a change of another part -/

theorem reg_onBench (s : State) (b : Nat) (f : BenchSt → BenchSt) (o : Nat) : (s.onBench b f).reg o = s.reg o := rfl

theorem reg_onLane (s : State) (b l : Nat) (f : Lane → Lane) (o : Nat) : (s.onLane b l f).reg o = s.reg o := rfl

theorem reg_onLoom (s : State) (b : Nat) (f : Loom → Loom) (o : Nat) : (s.onLoom b f).reg o = s.reg o := rfl

theorem reg_onChan (s : State) (b c : Nat) (f : Chan → Chan) (o : Nat) : (s.onChan b c f).reg o = s.reg o := rfl

theorem reg_onAdc (s : State) (b a : Nat) (f : Adc → Adc) (o : Nat) : (s.onAdc b a f).reg o = s.reg o := rfl

theorem reg_onEng (s : State) (b e : Nat) (f : Engine → Engine) (o : Nat) : (s.onEng b e f).reg o = s.reg o := rfl

theorem reg_onFm (s : State) (b : Nat) (f : Fm → Fm) (o : Nat) : (s.onFm b f).reg o = s.reg o := rfl

theorem reg_onDev (s : State) (d : Nat) (f : MemDev → MemDev) (o : Nat) : (s.onDev d f).reg o = s.reg o := rfl

theorem reg_onMch (s : State) (c : Nat) (f : MemChan → MemChan) (o : Nat) : (s.onMch c f).reg o = s.reg o := rfl

theorem reg_onBias (s : State) (n : Nat) (f : Bias → Bias) (o : Nat) : (s.onBias n f).reg o = s.reg o := rfl

theorem reg_onLoop (s : State) (k : Nat) (f : Loop → Loop) (o : Nat) : (s.onLoop k f).reg o = s.reg o := rfl

theorem reg_onPort (s : State) (p : Nat) (f : Crier → Crier) (o : Nat) : (s.onPort p f).reg o = s.reg o := rfl

theorem reg_onTag (s : State) (b t : Nat) (f : Tag → Tag) (o : Nat) : (s.onTag b t f).reg o = s.reg o := rfl

theorem reg_onStream (s : State) (i : Nat) (f : Stream → Stream) (o : Nat) : (s.onStream i f).reg o = s.reg o := rfl

theorem reg_onConv (s : State) (b c : Nat) (f : Conv → Conv) (o : Nat) : (s.onConv b c f).reg o = s.reg o := rfl

theorem reg_onTone (s : State) (b u : Nat) (f : Tone → Tone) (o : Nat) : (s.onTone b u f).reg o = s.reg o := rfl

theorem reg_setStaged (s : State) (q : Nat) (rs : List Rec) (o : Nat) : (s.setStaged q rs).reg o = s.reg o := rfl

/-! ### Registers after a Tally offer -/

/-- The registers that Tally offers, and the breaches and interrupts with them, may change. -/
def offerReg (o : Nat) : Bool :=
  o == R.TOP_IRQ_PEND || o == R.TOP_BREACH || (decide (0x400050000 ≤ o) && decide (o < 0x400060000))

theorem offerReg_eq_false {o : Nat} : offerReg o = false ↔
    o ≠ R.TOP_IRQ_PEND ∧ o ≠ R.TOP_BREACH ∧ ¬ (0x400050000 ≤ o ∧ o < 0x400060000) := by
  simp [offerReg, and_assoc]

section
variable {o : Nat} (h : offerReg o = false)
include h

theorem reg_dropRec (s : State) {st : Nat} (hst : st ≤ 24) (seq : Nat) : (s.dropRec st seq).reg o = s.reg o := by
  obtain ⟨hi, hb, ht⟩ := offerReg_eq_false.1 h
  have hd : o ≠ R.TALLY_STREAM_DROP st := by
    unfold R.TALLY_STREAM_DROP
    omega
  have hs : o ≠ R.TALLY_STATUS := by
    unfold R.TALLY_STATUS
    omega
  have he : ∀ t : State, ((t.flagIrq R.TALLY_STATUS Fd.TALLY_STATUS_DROP 4).breach Fd.TOP_BREACH_TIER6).reg o =
      t.reg o := fun t => by
    rw [breach, reg_raise_ne _ _ _ _ hb, reg_flagIrq_ne _ _ _ hs hi]
  have hr : ∀ f : Stream → Stream, ((s.satAdd (R.TALLY_STREAM_DROP st) Fd.TALLY_STREAM_DROP_COUNT 1).onStream st
      f).reg o = s.reg o := fun f => reg_satAdd_ne s _ _ _ _ hd
  unfold dropRec
  dsimp only
  split
  · rw [reg_fmTrap, he, hr]
  · rw [he, hr]

theorem reg_offer (s : State) {st : Nat} (hst : st ≤ 24) (src typ len time : Nat) (pay : List (Nat × Nat × Nat)) :
    (s.offer st src typ len time pay).reg o = s.reg o := by
  obtain ⟨hi, hb, ht⟩ := offerReg_eq_false.1 h
  have hw : o ≠ R.TALLY_STREAM_WRAPS st := by
    unfold R.TALLY_STREAM_WRAPS
    omega
  unfold offer
  dsimp only
  split
  · split
    · exact reg_dropRec h _ hst _
    · rfl
  · have h1 : ∀ (c : Prop) [Decidable c] (f : Stream → Stream), (if c then (s.onStream st f).satAdd (R.TALLY_STREAM_WRAPS
        st) Fd.TALLY_STREAM_WRAPS_COUNT 1 else s.onStream st f).reg o = s.reg o := fun c _ f => by
      split
      · exact reg_satAdd_ne _ _ _ _ _ hw
      · rfl
    split
    · exact h1 _ _
    · exact (reg_dropRec h _ hst _).trans (h1 _ _)

theorem reg_enter (s : State) (m : Mode) (cause : Nat) : (s.enter m cause).reg o = s.reg o := by
  obtain ⟨hi, -, -⟩ := offerReg_eq_false.1 h
  unfold enter
  dsimp only
  rw [reg_irq_ne _ _ hi, reg_pulse]
  exact reg_offer h s (st := 24) le_rfl _ _ _ _ _

theorem reg_become (s : State) (m : Mode) (cause : Nat) (he : o ≠ R.TIME_EPOCH_CTL) :
    (s.become m cause).reg o = s.reg o := by
  unfold become
  dsimp only
  rw [reg_enter h]
  split
  · exact reg_clear_ne _ _ _ _ he
  · rfl

end

end State

/-! ### Commands that complete -/

theorem completes_of_powered {c : Instr} {s : State} {f : State → State} {P : State → Prop} (h : s.powered = true)
    (he : exec c s = whenPowered s f) (k : P (f s)) : Completes c s P :=
  ⟨f s, he.trans (whenPowered_on h f), k⟩

theorem completes_of_reached {c : Instr} {who : Who} {s : State} {f : State → State} {P : State → Prop}
    (h : s.powered = true) (hr : s.reaches who = true) (he : exec c s = whenReached who s f) (k : P (f s)) :
    Completes c s P :=
  completes_of_powered h he (by rwa [if_pos hr])

theorem exec_of_powered {c : Instr} {s t : State} {f : State → State} (h : s.powered = true)
    (he : exec c s = whenPowered s f) (k : f s = t) : exec c s = .next t :=
  he.trans ((whenPowered_on h f).trans (congrArg _ k))

theorem exec_of_reached {c : Instr} {who : Who} {s t : State} {f : State → State} (h : s.powered = true)
    (hr : s.reaches who = true) (he : exec c s = whenReached who s f) (k : f s = t) : exec c s = .next t :=
  exec_of_powered h he (by rwa [if_pos hr])

theorem exec_of_unreached {c : Instr} {who : Who} {s : State} {f : State → State} (h : s.powered = true)
    (hr : s.reaches who = false) (he : exec c s = whenReached who s f) : exec c s = .next s :=
  exec_of_powered h he (if_neg (by simp [hr]))

theorem completes_of_open {c : Instr} {who : Who} {s : State} {f : State → State} {P : State → Prop}
    (h : s.powered = true) (hr : s.dataOpen who = true) (he : exec c s = whenOpen who s f) (k : P (f s)) :
    Completes c s P :=
  completes_of_powered h he (by rwa [if_pos hr])

theorem exec_of_open {c : Instr} {who : Who} {s t : State} {f : State → State} (h : s.powered = true)
    (hr : s.dataOpen who = true) (he : exec c s = whenOpen who s f) (k : f s = t) : exec c s = .next t :=
  exec_of_powered h he (by rwa [if_pos hr])

theorem exec_of_shut {c : Instr} {who : Who} {s : State} {f : State → State} (h : s.powered = true)
    (hr : s.dataOpen who = false) (he : exec c s = whenOpen who s f) : exec c s = .next s :=
  exec_of_powered h he (if_neg (by simp [hr]))

/-! ### Members of a list, one by one -/

/-- A view that each member of a list leaves, the whole list leaves. -/
theorem foldAll_keeps_mem {α β : Type} (g : State → β) {f : State → α → State} (xs : List α)
    (h : ∀ x ∈ xs, ∀ s, g (f s x) = g s) (s : State) : g (foldAll f s xs) = g s := by
  unfold foldAll
  induction xs generalizing s with
  | nil => rfl
  | cons x xs ih =>
    rw [List.foldl_cons, ih fun y hy => h y (List.mem_cons_of_mem _ hy), h x List.mem_cons_self]

/-- Where each member of a list but one leaves a view, the view is as that one makes it, from a state that shows what the
first one did. -/
theorem foldAll_view {α β : Type} {f : State → α → State} (I : State → Prop) (g : State → β) (j : α) (xs : List α)
    (hx : xs.Nodup) (hI : ∀ k ∈ xs, ∀ s, I s → I (f s k)) (hne : ∀ k ∈ xs, k ≠ j → ∀ s, I s → g (f s k) = g s)
    (s : State) (hs : I s) :
    I (foldAll f s xs) ∧ (j ∉ xs → g (foldAll f s xs) = g s) ∧
      (j ∈ xs → ∃ t, I t ∧ g t = g s ∧ g (foldAll f s xs) = g (f t j)) := by
  induction xs generalizing s with
  | nil => exact ⟨hs, fun _ => rfl, fun h => absurd h List.not_mem_nil⟩
  | cons x xs ih =>
    obtain ⟨hn, hx⟩ := List.nodup_cons.1 hx
    obtain ⟨h1, h2, h3⟩ := ih hx (fun k hk => hI k (List.mem_cons_of_mem _ hk))
      (fun k hk => hne k (List.mem_cons_of_mem _ hk)) (f s x) (hI x List.mem_cons_self s hs)
    have he : foldAll f s (x :: xs) = foldAll f (f s x) xs := rfl
    rw [he]
    refine ⟨h1, fun h => ?_, fun h => ?_⟩
    · obtain ⟨hj, h⟩ := not_or.1 (mt List.mem_cons.2 h)
      rw [h2 h, hne x List.mem_cons_self (Ne.symm hj) s hs]
    · rcases List.mem_cons.1 h with rfl | h
      · exact ⟨s, hs, rfl, h2 hn⟩
      · obtain ⟨t, ht, hts, hg⟩ := h3 h
        have hj : x ≠ j := fun e => hn (e ▸ h)
        exact ⟨t, ht, hts.trans (hne x List.mem_cons_self hj s hs), hg⟩

/-- What one member's operation made of a part of its own stands once the whole list is done. -/
theorem foldAll_get {β : Type} {f : State → Nat → State} {g : State → Nat → β} {F : β → β}
    (hself : ∀ s k, g (f s k) k = F (g s k)) (hne : ∀ s k j, j ≠ k → g (f s k) j = g s j) (xs : List Nat)
    (hx : xs.Nodup) (s : State) (j : Nat) : g (foldAll f s xs) j = if j ∈ xs then F (g s j) else g s j := by
  induction xs generalizing s with
  | nil => rfl
  | cons x xs ih =>
    obtain ⟨hn, hx⟩ := List.nodup_cons.1 hx
    refine (ih hx (f s x)).trans ?_
    by_cases hj : j = x
    · subst hj
      simp [hn, hself]
    · simp [hj, hne s x j hj]

end Sys2Proof.Machine
end

section
/-!
The registers of the TOP and TIME blocks that an operation leaves as they are: `a.At o s` says that the register at `o` is
in `s` as it was in `a`. One lemma per operation names the registers of those two blocks that are its own; interrupt
sources and breaches, which every event may set, are left out by `Apart`.
-/
namespace Sys2Proof.Machine

-- One proof at a time: elaborated side by side, the proofs of so long a text need too much memory.
set_option Elab.async false

/-- A register of TOP or TIME that events do not set by the way. -/
structure Apart (o : Nat) : Prop where
  low : o < 0x400020000
  irq : o ≠ R.TOP_IRQ_PEND
  breach : o ≠ R.TOP_BREACH

theorem Apart.ne {o p : Nat} (h : Apart o) (hp : 0x400020000 ≤ p) : o ≠ p := fun he => absurd h.low (by omega)

/-- The register at `o` is in `s` as it was in `a`. -/
structure State.At (a : State) (o : Nat) (s : State) : Prop where
  reg : s.reg o = a.reg o

namespace State.At

@[simp ↓] theorem refl (s : State) (o : Nat) : s.At o s := ⟨rfl⟩

theorem trans {s t u : State} {o : Nat} (h : s.At o t) (k : t.At o u) : s.At o u := ⟨k.reg.trans h.reg⟩

theorem fld {s t : State} {o : Nat} (h : s.At o t) (f : Bits) : t.fld o f = s.fld o f := State.fld_congr h.reg f

theorem flag {s t : State} {o : Nat} (h : s.At o t) (f : Bits) : t.flag o f = s.flag o f := State.flag_congr h.reg f

@[simp ↓] theorem ite {s t u : State} {o : Nat} {c : Prop} [Decidable c] (h : s.At o t) (k : s.At o u) :
    s.At o (if c then t else u) := by
  split <;> assumption

@[simp ↓] theorem foldAll {α : Type} {a s : State} {o : Nat} {f : State → α → State}
    (h : a.At o s) (hf : ∀ t x, a.At o t → a.At o (f t x)) (xs : List α) : a.At o (Machine.foldAll f s xs) :=
  foldAll_induct (fun t : State => a.At o t) hf xs s h

/-- A state of which other parts than the registers were replaced. -/
@[simp ↓] theorem update {a s : State} {o : Nat} (h : a.At o s) (pending : List Instr)
    (powered : Bool) (clk : Clocks) (mode : Mode) (transit : Option Transit) (hold : Option HoldReq)
    (trim : TrimSel) (load : Option Load) (pat : PatSt) (mem : List Host.Cell)
    (bench : NMap BenchSt) (time : TimeSt) (segs : Segs) (looms : NMap Loom) (lanes : NMap Lane) (out : OutSt)
    (chans : NMap Chan) (adcs : NMap Adc) (engines : NMap Engine) (xyStages : NMap (Option XyStage))
    (dec : DecSt) (fms : NMap Fm) (memc : MemSt) (tally : Tally) (fabric : Fabric) (slow : Slow)
    (therm : Therm) (host : HostSt) (pins : Pins) (captures : NMap Nat) (recent : NMap (Nat × Nat))
    (setvAt : NMap Nat) (later : NMap (List (Nat × Nat))) (readData : Nat) (outbox : List Out) (freeCtr : Nat) :
    a.At o
      { s with
        pending := pending
        powered := powered, clk := clk, mode := mode, transit := transit, hold := hold, trim := trim,
        load := load, pat := pat, mem := mem, bench := bench, time := time, segs := segs,
        looms := looms, lanes := lanes, out := out, chans := chans, adcs := adcs, engines := engines,
        xyStages := xyStages, dec := dec, fms := fms, memc := memc, tally := tally, fabric := fabric, slow := slow,
        therm := therm, host := host, pins := pins, captures := captures, recent := recent,
        setvAt := setvAt, later := later, readData := readData, outbox := outbox, freeCtr := freeCtr } := ⟨h.reg⟩

section
variable {a s : State} {o : Nat} (h : a.At o s)
include h

@[simp ↓] theorem setReg {off : Nat} (hne : o ≠ off) (v : Word) : a.At o (s.setReg off v) :=
  ⟨(NMap.get_set_ne _ _ _ _ _ hne).trans h.reg⟩

@[simp ↓] theorem setFld {off : Nat} (hne : o ≠ off) (f : Bits) (v : Nat) : a.At o (s.setFld off f v) := setReg h hne _
@[simp ↓] theorem raise {off : Nat} (hne : o ≠ off) (f : Bits) : a.At o (s.raise off f) := setReg h hne _
@[simp ↓] theorem clear {off : Nat} (hne : o ≠ off) (f : Bits) : a.At o (s.clear off f) := setReg h hne _
@[simp ↓] theorem orFld {off : Nat} (hne : o ≠ off) (f : Bits) (m : Nat) : a.At o (s.orFld off f m) := setReg h hne _
@[simp ↓] theorem satAdd {off : Nat} (hne : o ≠ off) (f : Bits) (n : Nat) : a.At o (s.satAdd off f n) := setReg h hne _
@[simp ↓] theorem wrapAdd {off : Nat} (hne : o ≠ off) (f : Bits) (n : Nat) : a.At o (s.wrapAdd off f n) := setReg h hne _
@[simp ↓] theorem setReg64 {off : Nat} (hne : o ≠ off) (hne' : o ≠ off + 4) (v : Nat) : a.At o (s.setReg64 off v) :=
  setReg (setReg h hne _) hne' _

end

end State.At

@[simp] theorem Apart.ne_AGE_STATUS {o : Nat} (h : Apart o) : o ≠ R.AGE_STATUS :=
  h.ne (by unfold R.AGE_STATUS; omega)

@[simp] theorem Apart.ne_ASSAY_FLAGS {o : Nat} (h : Apart o) (b i : Nat) : o ≠ R.ASSAY_FLAGS b i :=
  h.ne (by unfold R.ASSAY_FLAGS; omega)

@[simp] theorem Apart.ne_BENCH_EVENTS {o : Nat} (h : Apart o) (b : Nat) : o ≠ R.BENCH_EVENTS b :=
  h.ne (by unfold R.BENCH_EVENTS; omega)

@[simp] theorem Apart.ne_FM_ENTRY {o : Nat} (h : Apart o) (b : Nat) : o ≠ R.FM_ENTRY b :=
  h.ne (by unfold R.FM_ENTRY; omega)

@[simp] theorem Apart.ne_LOOM_LANE_FLAGS {o : Nat} (h : Apart o) (b i : Nat) : o ≠ R.LOOM_LANE_FLAGS b i :=
  h.ne (by unfold R.LOOM_LANE_FLAGS; omega)

@[simp] theorem Apart.ne_READ_CH_FLAGS {o : Nat} (h : Apart o) (b i : Nat) : o ≠ R.READ_CH_FLAGS b i :=
  h.ne (by unfold R.READ_CH_FLAGS; omega)

@[simp] theorem Apart.ne_SENSE_CH_FLAGS {o : Nat} (h : Apart o) (b : Nat) : o ≠ R.SENSE_CH_FLAGS b :=
  h.ne (by unfold R.SENSE_CH_FLAGS; omega)

@[simp] theorem Apart.ne_SENSE_CTL {o : Nat} (h : Apart o) : o ≠ R.SENSE_CTL :=
  h.ne (by unfold R.SENSE_CTL; omega)

@[simp] theorem Apart.ne_TALLY_STATUS {o : Nat} (h : Apart o) : o ≠ R.TALLY_STATUS :=
  h.ne (by unfold R.TALLY_STATUS; omega)

@[simp] theorem Apart.ne_TALLY_STREAM_DROP {o : Nat} (h : Apart o) (b : Nat) : o ≠ R.TALLY_STREAM_DROP b :=
  h.ne (by unfold R.TALLY_STREAM_DROP; omega)

@[simp] theorem Apart.ne_TALLY_STREAM_WRAPS {o : Nat} (h : Apart o) (b : Nat) : o ≠ R.TALLY_STREAM_WRAPS b :=
  h.ne (by unfold R.TALLY_STREAM_WRAPS; omega)

@[simp] theorem Apart.ne_TOP_IRQ_PEND {o : Nat} (h : Apart o) : o ≠ R.TOP_IRQ_PEND := h.irq

@[simp] theorem Apart.ne_TOP_BREACH {o : Nat} (h : Apart o) : o ≠ R.TOP_BREACH := h.breach

@[simp ↓] theorem State.setByte_at {a₀ s : State} {o : Nat} (h₀ : a₀.At o s) (a : Nat) (v : Byte) :
    a₀.At o (s.setByte a v) := by
  unfold State.setByte
  simp (contextual := true) (maxDischargeDepth := 40) -implicitDefEqProofs [h₀]

@[simp ↓] theorem State.setBytes_at {a₀ s : State} {o : Nat} (h₀ : a₀.At o s) (a : Nat) (vs : List Byte) :
    a₀.At o (s.setBytes a vs) := by
  induction vs generalizing a s with
  | nil => exact h₀
  | cons v vs ih => exact ih (State.setByte_at h₀ a v) (a + 1)

@[simp ↓] theorem State.memStore_at {a₀ s : State} {o : Nat} (h₀ : a₀.At o s) (a : Nat) (vs : List Byte) :
    a₀.At o (s.memStore a vs) := by
  unfold State.memStore
  simp (contextual := true) (maxDischargeDepth := 40) -implicitDefEqProofs [h₀]

@[simp ↓] theorem State.onBench_at {a s : State} {o : Nat} (h₀ : a.At o s) (b : Nat) (f : BenchSt → BenchSt) :
    a.At o (s.onBench b f) := by
  unfold State.onBench
  simp (contextual := true) (maxDischargeDepth := 40) -implicitDefEqProofs [h₀]

@[simp ↓] theorem State.onLane_at {a s : State} {o : Nat} (h₀ : a.At o s) (b l : Nat) (f : Lane → Lane) :
    a.At o (s.onLane b l f) := by
  unfold State.onLane
  simp (contextual := true) (maxDischargeDepth := 40) -implicitDefEqProofs [h₀]

@[simp ↓] theorem State.onChan_at {a s : State} {o : Nat} (h₀ : a.At o s) (b c : Nat) (f : Chan → Chan) :
    a.At o (s.onChan b c f) := by
  unfold State.onChan
  simp (contextual := true) (maxDischargeDepth := 40) -implicitDefEqProofs [h₀]

@[simp ↓] theorem State.onEng_at {a s : State} {o : Nat} (h₀ : a.At o s) (b e : Nat) (f : Engine → Engine) :
    a.At o (s.onEng b e f) := by
  unfold State.onEng
  simp (contextual := true) (maxDischargeDepth := 40) -implicitDefEqProofs [h₀]

@[simp ↓] theorem State.onFm_at {a s : State} {o : Nat} (h₀ : a.At o s) (b : Nat) (f : Fm → Fm) :
    a.At o (s.onFm b f) := by
  unfold State.onFm
  simp (contextual := true) (maxDischargeDepth := 40) -implicitDefEqProofs [h₀]

@[simp ↓] theorem State.onLoop_at {a s : State} {o : Nat} (h₀ : a.At o s) (k : Nat) (f : Loop → Loop) :
    a.At o (s.onLoop k f) := by
  unfold State.onLoop
  simp (contextual := true) (maxDischargeDepth := 40) -implicitDefEqProofs [h₀]

@[simp ↓] theorem State.onPort_at {a s : State} {o : Nat} (h₀ : a.At o s) (p : Nat) (f : Crier → Crier) :
    a.At o (s.onPort p f) := by
  unfold State.onPort
  simp (contextual := true) (maxDischargeDepth := 40) -implicitDefEqProofs [h₀]

@[simp ↓] theorem State.onStream_at {a s : State} {o : Nat} (h₀ : a.At o s) (i : Nat) (f : Stream → Stream) :
    a.At o (s.onStream i f) := by
  unfold State.onStream
  simp (contextual := true) (maxDischargeDepth := 40) -implicitDefEqProofs [h₀]

@[simp ↓] theorem State.setStaged_at {a s : State} {o : Nat} (h₀ : a.At o s) (q : Nat) (rs : List Rec) :
    a.At o (s.setStaged q rs) := by
  unfold State.setStaged
  simp (contextual := true) (maxDischargeDepth := 40) -implicitDefEqProofs [h₀]

@[simp ↓] theorem State.emit_at {a s : State} {reg : Nat} (h₀ : a.At reg s) (o : Out) : a.At reg (s.emit o) := by
  unfold State.emit
  simp (contextual := true) (maxDischargeDepth := 40) -implicitDefEqProofs [h₀]

@[simp ↓] theorem State.irq_at {a s : State} {o : Nat} (h₀ : a.At o s) (hq : Apart o) (k : Nat) :
    a.At o (s.irq k) := by
  unfold State.irq
  simp (contextual := true) (maxDischargeDepth := 40) -implicitDefEqProofs [h₀, hq]

@[simp ↓] theorem State.flagIrq_at {a s : State} {o : Nat} (h₀ : a.At o s) (hq : Apart o) {off : Nat}
    (hne : o ≠ off) (f : Bits) (k : Nat) : a.At o (s.flagIrq off f k) := by
  unfold State.flagIrq
  simp (contextual := true) (maxDischargeDepth := 40) -implicitDefEqProofs [h₀, hq, hne]

@[simp ↓] theorem State.benchEvent_at {a s : State} {o : Nat} (h₀ : a.At o s) (hq : Apart o) (b : Nat) (f : Bits) :
    a.At o (s.benchEvent b f) := by
  unfold State.benchEvent
  simp (contextual := true) (maxDischargeDepth := 40) -implicitDefEqProofs [h₀, hq]

@[simp ↓] theorem State.breach_at {a s : State} {o : Nat} (h₀ : a.At o s) (hq : Apart o) (f : Bits) :
    a.At o (s.breach f) := by
  unfold State.breach
  simp (contextual := true) (maxDischargeDepth := 40) -implicitDefEqProofs [h₀, hq]

@[simp ↓] theorem State.pulse_at {a s : State} {o : Nat} (h₀ : a.At o s) (line : Nat) : a.At o (s.pulse line) := by
  unfold State.pulse
  simp (contextual := true) (maxDischargeDepth := 40) -implicitDefEqProofs [h₀]

@[simp ↓] theorem State.fmTrap_at {a s : State} {o : Nat} (h₀ : a.At o s) (b v : Nat) : a.At o (s.fmTrap b v) := by
  unfold State.fmTrap
  simp (contextual := true) (maxDischargeDepth := 40) -implicitDefEqProofs [h₀]

@[simp ↓] theorem State.dropRec_at {a s : State} {o : Nat} (h₀ : a.At o s) (hq : Apart o) (st seq : Nat) :
    a.At o (s.dropRec st seq) := by
  unfold State.dropRec
  simp (contextual := true) (maxDischargeDepth := 40) -implicitDefEqProofs [h₀, hq]

@[simp ↓] theorem State.offer_at {a s : State} {o : Nat} (h₀ : a.At o s) (hq : Apart o)
    (st src typ len time : Nat) (pay : List (Nat × Nat × Nat)) : a.At o (s.offer st src typ len time pay) := by
  unfold State.offer
  simp (contextual := true) (maxDischargeDepth := 40) -implicitDefEqProofs [h₀, hq]

@[simp ↓] theorem State.shotPoisoned_at {a s : State} {o : Nat} (h₀ : a.At o s) (b : Nat) :
    a.At o (s.shotPoisoned b) := by
  unfold State.shotPoisoned
  simp (contextual := true) (maxDischargeDepth := 40) -implicitDefEqProofs [h₀]

@[simp ↓] theorem State.poison_at {a s : State} {o : Nat} (h₀ : a.At o s) (hq : Apart o) (b cause detail : Nat) :
    a.At o (s.poison b cause detail) := by
  unfold State.poison
  simp (contextual := true) (maxDischargeDepth := 40) -implicitDefEqProofs [h₀, hq]

@[simp ↓] theorem State.poisonAll_at {a s : State} {o : Nat} (h₀ : a.At o s) (hq : Apart o) (cause detail : Nat) :
    a.At o (s.poisonAll cause detail) := by
  unfold State.poisonAll
  simp (contextual := true) (maxDischargeDepth := 40) -implicitDefEqProofs [h₀, hq]

@[simp ↓] theorem State.modeErr_at {a s : State} {o : Nat} (h₀ : a.At o s) (hq : Apart o) (h1 : o ≠ R.TOP_MODE_ERR)
    (code req : Nat) : a.At o (s.modeErr code req) := by
  unfold State.modeErr
  simp (contextual := true) (maxDischargeDepth := 40) -implicitDefEqProofs [h₀, hq, h1]

@[simp ↓] theorem State.enter_at {a s : State} {o : Nat} (h₀ : a.At o s) (hq : Apart o) (m : Mode) (cause : Nat) :
    a.At o (s.enter m cause) := by
  unfold State.enter
  simp (contextual := true) (maxDischargeDepth := 40) -implicitDefEqProofs [h₀, hq]

@[simp ↓] theorem State.access_at {a s : State} {o : Nat} (h₀ : a.At o s) (u : Nat) (h : PageHint) :
    a.At o (s.access u h) := by
  unfold State.access
  dsimp only
  split <;> simp (contextual := true) (maxDischargeDepth := 40) -implicitDefEqProofs [h₀]

@[simp ↓] theorem State.laneFlag_at {a s : State} {o : Nat} (h₀ : a.At o s) (hq : Apart o) (b l : Nat) (f : Bits) :
    a.At o (s.laneFlag b l f) := by
  unfold State.laneFlag
  simp (contextual := true) (maxDischargeDepth := 40) -implicitDefEqProofs [h₀, hq]

@[simp ↓] theorem State.onWin_at {a s : State} {o : Nat} (h₀ : a.At o s) (b c ser : Nat) (f : Win → Win) :
    a.At o (s.onWin b c ser f) := by
  unfold State.onWin
  simp (contextual := true) (maxDischargeDepth := 40) -implicitDefEqProofs [h₀]

@[simp ↓] theorem State.chFlag_at {a s : State} {o : Nat} (h₀ : a.At o s) (hq : Apart o) (b c : Nat) (f : Bits) :
    a.At o (s.chFlag b c f) := by
  unfold State.chFlag
  simp (contextual := true) (maxDischargeDepth := 40) -implicitDefEqProofs [h₀, hq]

@[simp ↓] theorem State.engFlag_at {a s : State} {o : Nat} (h₀ : a.At o s) (hq : Apart o) (b e : Nat) (f : Bits) :
    a.At o (s.engFlag b e f) := by
  unfold State.engFlag
  simp (contextual := true) (maxDischargeDepth := 40) -implicitDefEqProofs [h₀, hq]

@[simp ↓] theorem State.answerDue_at {a s : State} {o : Nat} (h₀ : a.At o s) (b c ser : Nat) (lost : Bool) :
    a.At o (s.answerDue b c ser lost) := by
  unfold State.answerDue
  simp (contextual := true) (maxDischargeDepth := 40) -implicitDefEqProofs [h₀]

@[simp ↓] theorem State.pushEntry_at {a s : State} {o : Nat} (h₀ : a.At o s) (hq : Apart o)
    (b c kind idx : Nat) (w : Win) (sat : Bool) (sums : List Nat) : a.At o (s.pushEntry b c kind idx w sat sums) := by
  unfold State.pushEntry
  simp (contextual := true) (maxDischargeDepth := 40) -implicitDefEqProofs [h₀, hq]

@[simp ↓] theorem State.voidWin_at {a s : State} {o : Nat} (h₀ : a.At o s) (hq : Apart o) (b c : Nat) (w : Win) :
    a.At o (s.voidWin b c w) := by
  unfold State.voidWin
  simp (contextual := true) (maxDischargeDepth := 40) -implicitDefEqProofs [h₀, hq]

@[simp ↓] theorem State.endWindows_at {a s : State} {o : Nat} (h₀ : a.At o s) (hq : Apart o) :
    a.At o s.endWindows := by
  unfold State.endWindows
  simp (contextual := true) (maxDischargeDepth := 40) -implicitDefEqProofs [h₀, hq]

@[simp ↓] theorem State.engStop_at {a s : State} {o : Nat} (h₀ : a.At o s) (b e : Nat) (st : EngSt) :
    a.At o (s.engStop b e st) := by
  unfold State.engStop
  simp (contextual := true) (maxDischargeDepth := 40) -implicitDefEqProofs [h₀]

@[simp ↓] theorem State.startHit_at {a s : State} {o : Nat} (h₀ : a.At o s) (kind sel e : Nat) :
    a.At o (s.startHit kind sel e) := by
  unfold State.startHit
  simp (contextual := true) (maxDischargeDepth := 40) -implicitDefEqProofs [h₀]

@[simp ↓] theorem State.startClocks_at {a s : State} {o : Nat} (h₀ : a.At o s) (conv : Bool) :
    a.At o (s.startClocks conv) := by
  unfold State.startClocks
  simp (contextual := true) (maxDischargeDepth := 40) -implicitDefEqProofs [h₀]

@[simp ↓] theorem State.stopClocks_at {a s : State} {o : Nat} (h₀ : a.At o s) : a.At o s.stopClocks := by
  unfold State.stopClocks
  simp (contextual := true) (maxDischargeDepth := 40) -implicitDefEqProofs [h₀]

@[simp ↓] theorem State.epochMark_at {a s : State} {o : Nat} (h₀ : a.At o s) (hq : Apart o)
    (before after kind : Nat) (slip : Int) (arrival : Nat) : a.At o (s.epochMark before after kind slip arrival) := by
  unfold State.epochMark
  simp (contextual := true) (maxDischargeDepth := 40) -implicitDefEqProofs [h₀, hq]

@[simp ↓] theorem State.echoEnd_at {a s : State} {o : Nat} (h₀ : a.At o s) (hq : Apart o) (h1 : o ≠ R.TIME_ECHO_CTL)
    (result : Nat) : a.At o (s.echoEnd result) := by
  unfold State.echoEnd
  simp (contextual := true) (maxDischargeDepth := 40) -implicitDefEqProofs [h₀, hq, h1]

@[simp ↓] theorem State.laneStop_at {a s : State} {o : Nat} (h₀ : a.At o s) (hq : Apart o)
    (b l : Nat) (ready ramp : Bool) : a.At o (s.laneStop b l ready ramp) := by
  unfold State.laneStop
  simp (contextual := true) (maxDischargeDepth := 40) -implicitDefEqProofs [h₀, hq]

@[simp ↓] theorem State.abortAll_at {a s : State} {o : Nat} (h₀ : a.At o s) (hq : Apart o) (ramp : Bool) :
    a.At o (s.abortAll ramp) := by
  unfold State.abortAll
  simp (contextual := true) (maxDischargeDepth := 40) -implicitDefEqProofs [h₀, hq]

@[simp ↓] theorem State.criersTrain_at {a s : State} {o : Nat} (h₀ : a.At o s) : a.At o s.criersTrain := by
  unfold State.criersTrain
  simp (contextual := true) (maxDischargeDepth := 40) -implicitDefEqProofs [h₀]

@[simp ↓] theorem State.criersStop_at {a s : State} {o : Nat} (h₀ : a.At o s) : a.At o s.criersStop := by
  unfold State.criersStop
  simp (contextual := true) (maxDischargeDepth := 40) -implicitDefEqProofs [h₀]

@[simp ↓] theorem State.fmOff_at {a s : State} {o : Nat} (h₀ : a.At o s) (b : Nat) : a.At o (s.fmOff b) := by
  unfold State.fmOff
  simp (contextual := true) (maxDischargeDepth := 40) -implicitDefEqProofs [h₀]

@[simp ↓] theorem State.fmHaltNow_at {a s : State} {o : Nat} (h₀ : a.At o s) (hq : Apart o)
    (b : Nat) (st : FmSt) (hold : Bool) : a.At o (s.fmHaltNow b st hold) := by
  unfold State.fmHaltNow
  simp (contextual := true) (maxDischargeDepth := 40) -implicitDefEqProofs [h₀, hq]

@[simp ↓] theorem State.fmHalt_at {a s : State} {o : Nat} (h₀ : a.At o s) (hq : Apart o)
    (b : Nat) (st : FmSt) (hold : Bool) : a.At o (s.fmHalt b st hold) := by
  unfold State.fmHalt
  simp (contextual := true) (maxDischargeDepth := 40) -implicitDefEqProofs [h₀, hq]

@[simp ↓] theorem State.writePart_at {a s : State} {o : Nat} (h₀ : a.At o s) (q : Nat) (r : Rec) :
    a.At o (s.writePart q r) := by
  unfold State.writePart
  simp (contextual := true) (maxDischargeDepth := 40) -implicitDefEqProofs [h₀]

@[simp ↓] theorem State.lostRec_at {a s : State} {o : Nat} (h₀ : a.At o s) (hq : Apart o) (st seq : Nat) :
    a.At o (s.lostRec st seq) := by
  unfold State.lostRec
  simp (contextual := true) (maxDischargeDepth := 40) -implicitDefEqProofs [h₀, hq]

@[simp ↓] theorem State.tallyStop_at {a s : State} {o : Nat} (h₀ : a.At o s) (hq : Apart o) : a.At o s.tallyStop := by
  unfold State.tallyStop
  dsimp only
  refine State.At.foldAll ?_ (fun t q ht => ?_) _
  · refine State.At.ite h₀ (State.At.foldAll h₀ (fun t q ht => ?_) _)
    split
    · refine State.At.ite (State.At.foldAll ht (fun u _ hu => ?_) _) ht
      split
      · exact State.At.ite (State.writePart_at hu _ _) hu
      · exact hu
    · exact ht
  · refine State.setStaged_at (State.At.foldAll ht (fun u r hu => ?_) _) _ _
    exact State.At.ite (State.onStream_at hu _ _) (State.lostRec_at hu hq _ _)

@[simp ↓] theorem State.staleCh_at {a s : State} {o : Nat} (h₀ : a.At o s) (hq : Apart o) (c : Nat) :
    a.At o (s.staleCh c) := by
  unfold State.staleCh
  simp (contextual := true) (maxDischargeDepth := 40) -implicitDefEqProofs [h₀, hq]

@[simp ↓] theorem State.scanHalt_at {a s : State} {o : Nat} (h₀ : a.At o s) (hq : Apart o) : a.At o s.scanHalt := by
  unfold State.scanHalt
  simp (contextual := true) (maxDischargeDepth := 40) -implicitDefEqProofs [h₀, hq]

@[simp ↓] theorem State.loopsOff_at {a s : State} {o : Nat} (h₀ : a.At o s) : a.At o s.loopsOff := by
  unfold State.loopsOff
  simp (contextual := true) (maxDischargeDepth := 40) -implicitDefEqProofs [h₀]

@[simp ↓] theorem State.surveyLost_at {a s : State} {o : Nat} (h₀ : a.At o s) (hq : Apart o) :
    a.At o s.surveyLost := by
  unfold State.surveyLost
  simp (contextual := true) (maxDischargeDepth := 40) -implicitDefEqProofs [h₀, hq]

@[simp ↓] theorem State.become_at {a s : State} {o : Nat} (h₀ : a.At o s) (hq : Apart o) (h1 : o ≠ R.TIME_EPOCH_CTL)
    (m : Mode) (cause : Nat) : a.At o (s.become m cause) := by
  unfold State.become
  simp (contextual := true) (maxDischargeDepth := 40) -implicitDefEqProofs [h₀, hq, h1]

@[simp ↓] theorem State.memWake_at {a s : State} {o : Nat} (h₀ : a.At o s) : a.At o s.memWake := by
  unfold State.memWake
  simp (contextual := true) (maxDischargeDepth := 40) -implicitDefEqProofs [h₀]

@[simp ↓] theorem State.memSleep_at {a s : State} {o : Nat} (h₀ : a.At o s) : a.At o s.memSleep := by
  unfold State.memSleep
  simp (contextual := true) (maxDischargeDepth := 40) -implicitDefEqProofs [h₀]

@[simp ↓] theorem State.convsOff_at {a s : State} {o : Nat} (h₀ : a.At o s) : a.At o s.convsOff := by
  unfold State.convsOff
  simp (contextual := true) (maxDischargeDepth := 40) -implicitDefEqProofs [h₀]

@[simp ↓] theorem State.fmsOff_at {a s : State} {o : Nat} (h₀ : a.At o s) (hq : Apart o) : a.At o s.fmsOff := by
  unfold State.fmsOff
  simp (contextual := true) (maxDischargeDepth := 40) -implicitDefEqProofs [h₀, hq]

@[simp ↓] theorem State.engsStop_at {a s : State} {o : Nat} (h₀ : a.At o s) : a.At o s.engsStop := by
  unfold State.engsStop
  simp (contextual := true) (maxDischargeDepth := 40) -implicitDefEqProofs [h₀]

@[simp ↓] theorem State.toIdle_at {a s : State} {o : Nat} (h₀ : a.At o s) (hq : Apart o) (h1 : o ≠ R.TIME_EPOCH_CTL)
    (cause : Nat) : a.At o (s.toIdle cause) := by
  unfold State.toIdle
  simp (contextual := true) (maxDischargeDepth := 40) -implicitDefEqProofs [h₀, hq, h1]

@[simp ↓] theorem State.memRail_at {a s : State} {o : Nat} (h₀ : a.At o s) (on : Bool) : a.At o (s.memRail on) := by
  unfold State.memRail
  simp (contextual := true) (maxDischargeDepth := 40) -implicitDefEqProofs [h₀]

@[simp ↓] theorem State.trimAbort_at {a s : State} {o : Nat} (h₀ : a.At o s) (hq : Apart o)
    (h1 : o ≠ R.TIME_EPOCH_CTL) (code : Nat) : a.At o (s.trimAbort code) := by
  unfold State.trimAbort
  simp (contextual := true) (maxDischargeDepth := 40) -implicitDefEqProofs [h₀, hq, h1]

@[simp ↓] theorem State.beginTo_at {a s : State} {o : Nat} (h₀ : a.At o s)
    (dst : Mode) (kind : TransKind) (ticks : Nat) : a.At o (s.beginTo dst kind ticks) := by
  unfold State.beginTo
  simp (contextual := true) (maxDischargeDepth := 40) -implicitDefEqProofs [h₀]

@[simp ↓] theorem State.fastStart_at {a s : State} {o : Nat} (h₀ : a.At o s) : a.At o s.fastStart := by
  unfold State.fastStart
  simp (contextual := true) (maxDischargeDepth := 40) -implicitDefEqProofs [h₀]

@[simp ↓] theorem State.beginService_at {a s : State} {o : Nat} (h₀ : a.At o s) : a.At o s.beginService := by
  unfold State.beginService
  simp (contextual := true) (maxDischargeDepth := 40) -implicitDefEqProofs [h₀]

@[simp ↓] theorem State.beginIdle_at {a s : State} {o : Nat} (h₀ : a.At o s) : a.At o s.beginIdle := by
  unfold State.beginIdle
  simp (contextual := true) (maxDischargeDepth := 40) -implicitDefEqProofs [h₀]

@[simp ↓] theorem State.followUp_at {a s : State} {o : Nat} (h₀ : a.At o s) (f : Option Mode) :
    a.At o (s.followUp f) := by
  unfold State.followUp
  split <;> simp (contextual := true) (maxDischargeDepth := 40) -implicitDefEqProofs [h₀]

@[simp ↓] theorem State.holdNow_at {a s : State} {o : Nat} (h₀ : a.At o s) (hq : Apart o)
    (h1 : o ≠ R.TIME_EPOCH_CTL) (code : Nat) (poison : Option (Nat × Nat)) : a.At o (s.holdNow code poison) := by
  unfold State.holdNow
  dsimp only
  split <;> simp (contextual := true) (maxDischargeDepth := 40) -implicitDefEqProofs [h₀, hq, h1]

@[simp ↓] theorem State.alertServe_at {a s : State} {o : Nat} (h₀ : a.At o s) (h1 : o ≠ R.TOP_SUPPLY)
    (faulty : Bool) : a.At o (s.alertServe faulty) := by
  unfold State.alertServe
  simp (contextual := true) (maxDischargeDepth := 40) -implicitDefEqProofs [h₀, h1]

@[simp ↓] theorem State.alertLate_at {a s : State} {o : Nat} (h₀ : a.At o s) (h1 : o ≠ R.TOP_SUPPLY) :
    a.At o s.alertLate := by
  unfold State.alertLate
  dsimp only
  split <;> simp (contextual := true) (maxDischargeDepth := 40) -implicitDefEqProofs [h₀, h1]

@[simp ↓] theorem State.entryAbort_at {a s : State} {o : Nat} (h₀ : a.At o s) (hq : Apart o)
    (h1 : o ≠ R.TIME_EPOCH_CTL) (h2 : o ≠ R.TOP_MODE_ERR) (h3 : o ≠ R.TOP_SUPPLY) (t : Transit) (code : Nat) :
    a.At o (s.entryAbort t code) := by
  unfold State.entryAbort
  simp (contextual := true) (maxDischargeDepth := 40) -implicitDefEqProofs [h₀, hq, h1, h2, h3]

end Sys2Proof.Machine
end

section
/-!
What a loss of the core, SRAM and memory domains leaves (R41, R44, R56, R57): the parts that are gone, the registers that are
kept, and the stores.
-/
namespace Sys2Proof.Machine

-- One proof at a time: elaborated side by side, the proofs of so long a text need too much memory.
set_option Elab.async false

/-! ### Clocks and modes -/

@[simp] theorem Clocks.stop_now (c : Clocks) : c.stop.now = c.now := by
  unfold Clocks.stop
  split
  · split <;> rfl
  · rfl

theorem Clocks.stop_time {c : Clocks} (h : c.refclk = true) : c.stop.time = c.time := by
  unfold Clocks.stop
  split
  · simp [h]
  · rfl

theorem Mode.code_lt (m : Mode) : m.code < 16 := by cases m <;> decide

namespace State

/-! ### The stores -/

theorem keepsStores.refl (s : State) : s.keepsStores s := ⟨rfl, fun _ => rfl⟩

theorem keepsStores.trans {s t u : State} (h : s.keepsStores t) (hj : t.host.job = s.host.job ∨ t.host = s.host)
    (k : t.keepsStores u) : s.keepsStores u :=
  ⟨k.1.trans h.1, fun hs => (k.2 (by rcases hj with hj | hj <;> rw [hj, hs])).trans (h.2 hs)⟩

theorem keepsStores.of_host {s t u : State} (h : t.host = s.host) (k : t.keepsStores u) : s.keepsStores u := by
  unfold keepsStores at k ⊢
  rwa [h] at k

theorem keepsStores.to_host {s t u : State} (k : s.keepsStores t) (h : u.host.ledger = t.host.ledger)
    (ho : u.host.otp = t.host.otp) : s.keepsStores u := by
  unfold keepsStores at k ⊢
  rwa [h, ho]

theorem tokenCut_keepsStores (s : State) : s.keepsStores s.tokenCut := by
  unfold tokenCut
  split
  · next hj =>
    dsimp only [free_fst, free_snd]
    refine ⟨by split <;> rfl, fun h => ?_⟩
    rw [hj] at h
    exact absurd h (by simp)
  · exact .refl s

/-! ### The loss of the core domain -/

section
variable (s : State) (keep : Nat → Bool) (open_ : Bool)

theorem coreLost_gone : (s.coreLost keep open_).transit = none ∧ (s.coreLost keep open_).load = none ∧
    (s.coreLost keep open_).hold = none ∧ (s.coreLost keep open_).pat = {} ∧ (s.coreLost keep open_).mem = [] ∧
    (s.coreLost keep open_).bench = [] ∧ (s.coreLost keep open_).lanes = [] ∧ (s.coreLost keep open_).chans = [] ∧
    (s.coreLost keep open_).engines = [] ∧ (s.coreLost keep open_).fms = [] ∧
    (s.coreLost keep open_).memc.maint = none := by
  unfold coreLost
  dsimp only
  split <;> exact ⟨rfl, rfl, rfl, rfl, rfl, rfl, rfl, rfl, rfl, rfl, rfl⟩

theorem coreLost_pins : (s.coreLost keep open_).pins = { s.pins with alertHeld := none } := by
  have h : s.tokenCut.pins = s.pins := (tokenCut_only (.refl s _) (List.Subset.refl _)).pins
  unfold coreLost
  dsimp only
  split <;> exact congrArg (fun p : Pins => { p with alertHeld := none }) h

theorem coreLost_slow : (s.coreLost keep open_).slow = s.slow :=
  (coreLost_only (.refl s _) (List.Subset.refl _) keep open_).slow

theorem coreLost_clk : (s.coreLost keep open_).clk = s.clk :=
  (coreLost_only (.refl s _) (List.Subset.refl _) keep open_).clk

theorem coreLost_mode : (s.coreLost keep open_).mode = s.mode :=
  (coreLost_only (.refl s _) (List.Subset.refl _) keep open_).mode

theorem coreLost_keepsStores : s.keepsStores (s.coreLost keep open_) := by
  refine (tokenCut_keepsStores s).to_host ?_ ?_ <;> unfold coreLost <;> dsimp only <;> split <;> rfl

/-- The registers of the kept domain stand; the others hold their Reset column. -/
theorem reg_coreLost {o : Nat} (hm : o ≠ R.TOP_MODE) (ha : o ≠ R.AGE_STATUS) :
    (s.coreLost keep open_).reg o = if keep o then s.reg o else apReset o := by
  have ht : s.tokenCut.ap = s.ap := (tokenCut_only (.refl s _) (List.Subset.refl _)).ap
  have hl : (s.tokenCut.regsLost keep open_).reg o = if keep o then s.reg o else apReset o := by
    unfold regsLost
    dsimp only
    rw [reg_setFld_ne _ _ _ _ _ hm, reg_setFld_ne _ _ _ _ _ hm]
    refine (NMap.get_erase apReset (fun off => !keep off) s.tokenCut.ap o).trans ?_
    rw [ht]
    cases keep o <;> rfl
  rw [← hl]
  unfold coreLost
  dsimp only
  split
  · exact reg_raise_ne _ _ _ _ ha
  · rfl

theorem apReset_patterned : bitsOf (apReset R.TOP_MODE).toNat Fd.TOP_MODE_PATTERNED.lo Fd.TOP_MODE_PATTERNED.w = 0 := by
  decide +kernel

/-- PATTERNED stands in a register that every loss clears. -/
theorem coreLost_patterned (hk : keep R.TOP_MODE = false) : (s.coreLost keep open_).patterned = false := by
  have h : ∀ t : State, (t.regsLost keep open_).flag R.TOP_MODE Fd.TOP_MODE_PATTERNED = false := by
    intro t
    unfold regsLost flag
    dsimp only
    rw [fld_setFld_disj _ _ _ _ _ (by decide) (by decide), fld_setFld_disj _ _ _ _ _ (by decide) (by decide), fld]
    have hr : ({ t with ap := NMap.erase (fun off => !keep off) t.ap } : State).reg R.TOP_MODE = apReset R.TOP_MODE := by
      refine (NMap.get_erase apReset (fun off => !keep off) t.ap R.TOP_MODE).trans ?_
      rw [hk]
      rfl
    rw [hr, apReset_patterned]
    rfl
  unfold patterned
  rw [← h s.tokenCut]
  unfold coreLost
  dsimp only
  split
  · exact flag_congr (reg_raise_ne _ _ _ _ (by decide)) _
  · rfl

end

/-! ### Before a reset -/

theorem scanHalt_keeps_reg (s : State) {o : Nat} (h : o < 0x400070000) : s.scanHalt.reg o = s.reg o := by
  unfold scanHalt
  split
  · dsimp only
    have hc : o ≠ R.SENSE_CTL := by
      unfold R.SENSE_CTL
      omega
    have hf : o ≠ R.SENSE_CH_FLAGS s.scanCh := by
      unfold R.SENSE_CH_FLAGS
      omega
    exact (reg_congr (s := (s.staleCh s.scanCh).clear R.SENSE_CTL Fd.SENSE_CTL_RUN) rfl o).trans
      ((reg_clear_ne _ _ _ _ hc).trans (reg_raise_ne _ _ _ _ hf))
  · rfl

theorem scanHalt_bias (s : State) : s.scanHalt.slow.bias = s.slow.bias := by
  unfold scanHalt
  split <;> rfl

theorem loopsOff_bias (s : State) : s.loopsOff.slow.bias = s.slow.bias :=
  by
  unfold loopsOff
  exact foldAll_keeps (fun t : State => t.slow.bias) (fun _ _ => by rfl) _ s

theorem migrationStands_keeps_reg (s : State) {o : Nat} (h : o ≠ R.TOP_RESET_CAUSE) :
    s.migrationStands.reg o = s.reg o := by
  unfold migrationStands
  split
  · exact reg_raise_ne _ _ _ _ h
  · rfl

theorem migrationStands_keeps_cause (s : State) {f : Bits} (hf : f.lo + f.w ≤ 32) (hd : 6 ≤ f.lo ∨ f.lo + f.w ≤ 5) :
    s.migrationStands.fld R.TOP_RESET_CAUSE f = s.fld R.TOP_RESET_CAUSE f := by
  unfold migrationStands
  split
  · exact fld_setFld_disj _ _ _ _ _ hf (by simpa [Fd.TOP_RESET_CAUSE_MIGRATION] using hd)
  · rfl

/-! ### What every reset begins with -/

section
variable (s : State) (keep : Nat → Bool)

theorem resetCommon_mode : (s.resetCommon keep).mode = s.mode :=
  (resetCommon_only (.refl s _) (List.Subset.refl _) keep).mode

/-- What the core domain is lost from keeps all but registers, memory maintenance and sensors, with the clocks stopped. -/
theorem resetCommon_eq : ∃ t : State, s.Only [.ap, .memc, .slow, .clk] t ∧ t.clk = s.clk.stop ∧
    t.slow.bias = s.slow.bias ∧ (∀ o < 0x400070000, o ≠ R.TOP_RESET_CAUSE → t.reg o = s.reg o) ∧
    t.fld R.TOP_RESET_CAUSE Fd.TOP_RESET_CAUSE_PREV_MODE = s.mode.code ∧
    (∀ f : Bits, f.lo + f.w ≤ 5 → t.fld R.TOP_RESET_CAUSE f = s.fld R.TOP_RESET_CAUSE f) ∧
    s.resetCommon keep = t.coreLost keep true := by
  have hn : s.Only [.ap, .memc, .slow, .clk] s.notePrev.migrationStands.scanHalt.loopsOff := by
    simp (maxDischargeDepth := 40) -implicitDefEqProofs
  have hreg : ∀ t : State, t.loopsOff.stopClocks.ap = t.ap := fun t =>
    (loopsOff_only (.refl t _) (List.Subset.refl _)).ap
  have hc : s.notePrev.migrationStands.scanHalt.loopsOff.clk = s.clk :=
    (show s.Only [.ap, .memc, .slow] _ by simp (maxDischargeDepth := 40) -implicitDefEqProofs).clk
  refine ⟨_, stopClocks_only hn (by simp), congrArg Clocks.stop hc, ?_, fun o ho hc => ?_, ?_, fun f hf => ?_, rfl⟩
  · refine (loopsOff_bias _).trans ((scanHalt_bias _).trans ?_)
    exact congrArg Slow.bias
      (migrationStands_only (notePrev_only (.refl s [.ap, .memc]) (by simp)) (by simp)).slow
  · rw [reg_congr (hreg _), scanHalt_keeps_reg _ ho, migrationStands_keeps_reg _ hc]
    exact reg_setFld_ne _ _ _ _ _ hc
  · rw [fld_congr ((reg_congr (hreg _) _).trans (scanHalt_keeps_reg _ (by decide))),
      migrationStands_keeps_cause _ (by decide) (by decide)]
    refine (fld_setFld _ _ _ _ (by decide)).trans (Nat.mod_eq_of_lt ?_)
    exact s.mode.code_lt
  · have hw : f.lo + f.w ≤ 32 := by omega
    rw [fld_congr ((reg_congr (hreg _) _).trans (scanHalt_keeps_reg _ (by decide))),
      migrationStands_keeps_cause _ hw (by omega)]
    exact fld_setFld_disj _ _ _ _ _ hw (.inr (by simp [Fd.TOP_RESET_CAUSE_PREV_MODE]; omega))

theorem resetCommon_clk : (s.resetCommon keep).clk = s.clk.stop := by
  obtain ⟨t, -, hc, -, -, -, -, h⟩ := resetCommon_eq s keep
  rw [h, coreLost_clk, hc]

theorem resetCommon_bias : (s.resetCommon keep).slow.bias = s.slow.bias := by
  obtain ⟨t, -, -, hb, -, -, -, h⟩ := resetCommon_eq s keep
  rw [h, coreLost_slow, hb]

theorem resetCommon_pins : (s.resetCommon keep).pins = { s.pins with alertHeld := none } := by
  obtain ⟨t, ho, -, -, -, -, -, h⟩ := resetCommon_eq s keep
  rw [h, coreLost_pins, ho.pins]

theorem resetCommon_keepsStores : s.keepsStores (s.resetCommon keep) := by
  obtain ⟨t, ho, -, -, -, -, -, h⟩ := resetCommon_eq s keep
  rw [h]
  exact (coreLost_keepsStores t keep true).of_host ho.host

theorem resetCommon_gone (hk : keep R.TOP_MODE = false) : (s.resetCommon keep).coreGone := by
  obtain ⟨t, -, -, -, -, -, -, h⟩ := resetCommon_eq s keep
  obtain ⟨h1, h2, h3, -, h5, h6, h7, h8, h9, h10, h11⟩ := coreLost_gone t keep true
  rw [h]
  exact ⟨h1, h2, h3, h11, coreLost_patterned t keep true hk, h5, h6, h7, h8, h9, h10⟩

theorem resetCommon_pat : (s.resetCommon keep).pat = {} := by
  obtain ⟨t, -, -, -, -, -, -, h⟩ := resetCommon_eq s keep
  rw [h]
  exact (coreLost_gone t keep true).2.2.2.1

theorem reg_resetCommon_kept {o : Nat} (ho : o < 0x400070000) (hm : o ≠ R.TOP_MODE) (hc : o ≠ R.TOP_RESET_CAUSE)
    (hk : keep o = true) : (s.resetCommon keep).reg o = s.reg o := by
  obtain ⟨t, -, -, -, hr, -, -, h⟩ := resetCommon_eq s keep
  have ha : o ≠ R.AGE_STATUS := by
    unfold R.AGE_STATUS
    omega
  rw [h, reg_coreLost t keep true hm ha, if_pos hk, hr o ho hc]

theorem reg_resetCommon_lost {o : Nat} (hm : o ≠ R.TOP_MODE) (ha : o ≠ R.AGE_STATUS) (hk : keep o = false) :
    (s.resetCommon keep).reg o = apReset o := by
  obtain ⟨t, -, -, -, -, -, -, h⟩ := resetCommon_eq s keep
  rw [h, reg_coreLost t keep true hm ha, if_neg (by simp [hk])]

section
variable {keep} (hk : keep R.TOP_RESET_CAUSE = true)
include hk

theorem resetCommon_prevMode :
    (s.resetCommon keep).fld R.TOP_RESET_CAUSE Fd.TOP_RESET_CAUSE_PREV_MODE = s.mode.code := by
  obtain ⟨t, -, -, -, -, hp, -, h⟩ := resetCommon_eq s keep
  rw [h, fld_congr ((reg_coreLost t keep true (by decide) (by decide)).trans (if_pos hk)), hp]

theorem resetCommon_cause {f : Bits} (hf : f.lo + f.w ≤ 5) :
    (s.resetCommon keep).fld R.TOP_RESET_CAUSE f = s.fld R.TOP_RESET_CAUSE f := by
  obtain ⟨t, -, -, -, -, -, hc, h⟩ := resetCommon_eq s keep
  rw [h, fld_congr ((reg_coreLost t keep true (by decide) (by decide)).trans (if_pos hk)), hc f hf]

end

end

/-- The loss shows in parts that the rest of a reset leaves. -/
theorem coreGone.of_only {s t : State} (h : s.Only [.mode, .ap, .out, .time, .slow, .host, .pins] t)
    (hp : t.patterned = s.patterned) (k : s.coreGone) : t.coreGone := by
  unfold coreGone at k ⊢
  rwa [h.transit, h.load, h.hold, h.memc, hp, h.mem, h.bench, h.lanes, h.chans, h.engines, h.fms]

end State
end Sys2Proof.Machine
end

section
/-! Power-on reset, PWRGD rising and the removal of VDD_AON (O9). -/
namespace Sys2Proof.Machine

-- One proof at a time: elaborated side by side, the proofs of so long a text need too much memory.
set_option Elab.async false

theorem State.supplyOn_cause (s : State) (straps : Nat) :
    (s.supplyOn straps).fld R.TOP_RESET_CAUSE Fd.TOP_RESET_CAUSE_SUPPLY = 1 ∧
      (s.supplyOn straps).fld R.TOP_RESET_CAUSE Fd.TOP_RESET_CAUSE_POWER_ON = 0 := by
  unfold State.supplyOn
  dsimp only
  constructor
  · rw [State.fld_setFld_disj _ _ _ _ _ (by decide) (by decide), State.fld_raise _ _ _ (by decide)]
    rfl
  · rw [State.fld_setFld_disj _ _ _ _ _ (by decide) (by decide)]
    refine (State.fld_setFld_disj _ _ _ _ _ (by decide) (by decide)).trans ?_
    exact State.fld_clear _ _ _ (by decide)

/-- With a rail out or in LATCHED, PWRGD rising is only recorded. -/
theorem powerOnReset_held {s : State} (straps : Nat) (hp : s.powered = true) (hg : s.pins.pwrgd = false)
    (h : s.isLatched = true ∨ s.pins.railsOut % 256 ≠ 0) :
    powerOnReset false straps s =
      if s.isLatched then
        ({ s with pins := { s.pins with pwrgd := true } } : State).raise R.TOP_RESET_CAUSE Fd.TOP_RESET_CAUSE_SUPPLY
      else { s with pins := { s.pins with pwrgd := true } } := by
  have hr : s.isLatched = false → ¬ s.pins.railsOut % 256 = 0 := fun hl => h.resolve_left (by simp [hl])
  unfold powerOnReset
  rw [if_neg Bool.false_ne_true, if_neg (by simp [hp, hg])]
  refine ite_congr rfl (fun _ => rfl) fun hn => if_neg ?_
  exact hr (Bool.eq_false_iff.2 hn)

/-- Settles O9. -/
theorem powerOnReset' : Obligations.PowerOnReset := by
  unfold Obligations.PowerOnReset
  refine ⟨fun straps s hp => ?_, fun straps s hp hg hl hr => ?_, fun straps s hp hg h => ?_, fun s hp => ?_⟩
  · have he : exec (.powerOnReset true straps) s = .next (s.powerOn straps) := by
      change Host.Outcome.next (powerOnReset true straps s) = _
      unfold powerOnReset
      rw [if_pos rfl, if_neg (by simp [hp])]
    exact ⟨_, he, rfl, rfl, rfl, fun _ => rfl, fun _ => rfl, rfl, rfl, rfl, rfl⟩
  · have he : powerOnReset false straps s =
        ({ s with pins := { s.pins with pwrgd := true } } : State).supplyOn straps := by
      have hl' : ¬ ({ s with pins := { s.pins with pwrgd := true } } : State).isLatched = true := by
        change ¬ s.isLatched = true
        simp [hl]
      unfold powerOnReset
      rw [if_neg Bool.false_ne_true, if_neg (by simp [hp, hg])]
      exact (if_neg hl').trans (if_pos hr)
    obtain ⟨h1, h2⟩ := State.supplyOn_cause { s with pins := { s.pins with pwrgd := true } } straps
    refine completes_of_powered hp rfl ?_
    rw [he]
    exact ⟨rfl, rfl, rfl, rfl, h1, h2, rfl, fun _ => rfl⟩
  · refine completes_of_powered hp rfl ?_
    rw [powerOnReset_held straps hp hg h]
    split
    · exact ⟨rfl, rfl, rfl, fun _ => State.fld_raise _ _ _ (by decide)⟩
    · next hn => exact ⟨rfl, rfl, rfl, fun hl => absurd hl hn⟩
  · refine completes_of_powered hp rfl ?_
    have hs : s.keepsStores s.migrationStands.tokenCut :=
      (State.tokenCut_keepsStores _).of_host (State.migrationStands_only (.refl s _) (List.Subset.refl _)).host
    have hq : s.migrationStands.tokenCut.pending = s.pending :=
      (State.tokenCut_only (State.migrationStands_only (.refl s [.ap, .memc, .host, .freeCtr]) (by simp)) (by simp)).pending
    exact ⟨rfl, hq, hs.1, hs.2⟩

end Sys2Proof.Machine
end

section
/-! PWRGD low, RESET_N and warm reset (O10). -/
namespace Sys2Proof.Machine

-- One proof at a time: elaborated side by side, the proofs of so long a text need too much memory.
set_option Elab.async false

/-- A map whose every entry is the default reads as the default. -/
theorem NMap.get_map_default {α β : Type} (x : β) (m : NMap α) (k : Nat) :
    NMap.get (fun _ => x) (m.map fun e => (e.1, x)) k = x := by
  induction m with
  | nil => rfl
  | cons e m ih => simp only [List.map_cons, NMap.get_cons, ih, ite_self]

namespace State

theorem memRail_stands (s : State) (on : Bool) : s.Only [.pins, .outbox] (s.memRail on) :=
  memRail_only (.refl s _) (List.Subset.refl _) on

theorem memRail_pins (s : State) (on : Bool) : (s.memRail on).pins = { s.pins with memRail := on } := by
  unfold memRail
  dsimp only
  split <;> rfl

theorem bias_biasAllDown (s : State) {n : Nat} (hn : n < 64) :
    s.biasAllDown.bias n = if (s.bias n).parked && (s.bias n).step == .none_ then s.bias n
      else { s.bias n with aim := .parkSafe } := by
  unfold biasAllDown
  refine (foldAll_get (g := State.bias)
    (F := fun x : Bias => if x.parked && x.step == .none_ then x else { x with aim := .parkSafe })
    (fun s k => bias_onBias_self s k _) (fun s k j h => ?_) _ List.nodup_range s n).trans ?_
  · exact (bias_onBias s k j _).trans (if_neg h)
  · rw [if_pos (List.mem_range.2 hn)]

/-! ### A loss of the supply -/

section
variable (s : State)

theorem supplyOff_stands : ((s.memRail false).resetCommon aonReg).Only [.slow, .mode, .pins] s.supplyOff := by
  unfold supplyOff
  simp (maxDischargeDepth := 40) -implicitDefEqProofs

theorem supplyOff_gone : s.supplyOff.coreGone := by
  refine (resetCommon_gone (s.memRail false) aonReg (by decide)).of_only ((supplyOff_stands s).mono (by simp)) ?_
  exact flag_congr ((supplyOff_stands s).reg _) _

theorem supplyOff_keepsStores : s.keepsStores s.supplyOff := by
  have h := supplyOff_stands s
  refine ((resetCommon_keepsStores (s.memRail false) aonReg).of_host (memRail_stands s false).host).to_host ?_ ?_ <;>
    rw [h.host]

theorem supplyOff_pins : s.supplyOff.pins = { s.pins with memRail := false, bootDue := none, alertHeld := none } := by
  have h : ((s.memRail false).resetCommon aonReg).pins = { s.pins with memRail := false, alertHeld := none } := by
    rw [resetCommon_pins, memRail_pins]
  unfold supplyOff
  dsimp only
  rw [h]

theorem supplyOff_clk : s.supplyOff.clk = s.clk.stop := by
  rw [(supplyOff_stands s).clk, resetCommon_clk, (memRail_stands s false).clk]

theorem supplyOff_prevMode :
    s.supplyOff.fld R.TOP_RESET_CAUSE Fd.TOP_RESET_CAUSE_PREV_MODE = s.mode.code := by
  rw [fld_congr ((supplyOff_stands s).reg _), resetCommon_prevMode _ (by decide), (memRail_stands s false).mode]

theorem reg_supplyOff {o : Nat} (ho : o < 0x400070000) (hm : o ≠ R.TOP_MODE) (hc : o ≠ R.TOP_RESET_CAUSE)
    (hk : aonReg o = true) : s.supplyOff.reg o = s.reg o := by
  rw [(supplyOff_stands s).reg, reg_resetCommon_kept _ _ ho hm hc hk, (memRail_stands s false).reg]

theorem bias_supplyOff {n : Nat} (hn : n < 64) (h : (s.bias n).parked = false) :
    (s.supplyOff.bias n).aim = .parkSafe := by
  have hb : ((s.memRail false).resetCommon aonReg).bias n = s.bias n := by
    rw [bias, resetCommon_bias, (memRail_stands s false).slow, bias]
  have hd := bias_biasAllDown ((s.memRail false).resetCommon aonReg) hn
  rw [hb, if_neg (by simp [h])] at hd
  have hs : s.supplyOff.slow = ((s.memRail false).resetCommon aonReg).biasAllDown.slow := by
    unfold supplyOff
    dsimp only
  rw [bias, hs]
  exact congrArg Bias.aim hd

end

theorem aonReg_time {o : Nat} (h : 0x400010000 ≤ o) (h' : o < 0x400020000) : aonReg o = true := by
  simp [aonReg, h, h']

/-- No register of the block TIME is one that every reset changes. -/
theorem timeReg_ne {o : Nat} (h : 0x400010000 ≤ o) (h' : o < 0x400020000) :
    o < 0x400070000 ∧ o ≠ R.TOP_MODE ∧ o ≠ R.TOP_RESET_CAUSE := by
  unfold R.TOP_MODE R.TOP_RESET_CAUSE
  omega

/-! ### RESET_N and warm reset -/

end State

theorem resetN_held {s : State} (straps : Nat) (h : s.resetHeld = true) :
    resetN straps s = s.raise R.TOP_RESET_CAUSE Fd.TOP_RESET_CAUSE_PIN :=
  if_pos (show (s.raise R.TOP_RESET_CAUSE Fd.TOP_RESET_CAUSE_PIN).resetHeld = true from h)

/-- RESET_CAUSE with a cause set that the reset keeps. -/
theorem State.fld_resetCommon_raise (s : State) {keep : Nat → Bool} (hk : keep R.TOP_RESET_CAUSE = true) {f : Bits}
    (hf : f.lo + f.w ≤ 5) : ((s.raise R.TOP_RESET_CAUSE f).resetCommon keep).fld R.TOP_RESET_CAUSE f = 2 ^ f.w - 1 := by
  rw [State.resetCommon_cause _ hk hf, State.fld_raise _ _ _ (by omega)]

/-- What a reset with cause `f` makes of the device before it takes its mode. -/
structure State.ResetBy (s : State) (keep : Nat → Bool) (f : Bits) (u : State) : Prop where
  gone : u.coreGone
  stores : s.keepsStores u
  cause : u.fld R.TOP_RESET_CAUSE f = 2 ^ f.w - 1
  prevMode : u.fld R.TOP_RESET_CAUSE Fd.TOP_RESET_CAUSE_PREV_MODE = s.mode.code
  clk : u.clk = s.clk.stop
  bias : u.slow.bias = s.slow.bias
  pins : u.pins = { s.pins with memRail := u.pins.memRail, alertHeld := none }
  kept : ∀ o < 0x400070000, o ≠ R.TOP_MODE → o ≠ R.TOP_RESET_CAUSE → keep o = true → u.reg o = s.reg o
  lost : ∀ o, o ≠ R.TOP_MODE → o ≠ R.AGE_STATUS → keep o = false → u.reg o = apReset o

theorem State.resetBy (s : State) {keep : Nat → Bool} (hk : keep R.TOP_RESET_CAUSE = true)
    (hm : keep R.TOP_MODE = false) {f : Bits} (hf : f.lo + f.w ≤ 5) {u : State}
    (hu : (s.raise R.TOP_RESET_CAUSE f).Only [.pins, .outbox] u)
    (hp : u.pins = { s.pins with memRail := u.pins.memRail }) : s.ResetBy keep f (u.resetCommon keep) := by
  have hr : s.Only [.ap] (s.raise R.TOP_RESET_CAUSE f) := State.raise_only (.refl s _) (List.Subset.refl _) ..
  refine ⟨resetCommon_gone u keep hm, (resetCommon_keepsStores u keep).of_host (hu.host.trans hr.host), ?_, ?_, ?_, ?_, ?_,
    fun o ho hm hc hk => ?_, fun o hm ha hk => reg_resetCommon_lost u keep hm ha hk⟩
  · rw [resetCommon_cause _ hk hf, fld_congr (hu.reg _), fld_raise _ _ _ (by omega)]
  · rw [resetCommon_prevMode _ hk, hu.mode, hr.mode]
  · rw [resetCommon_clk, hu.clk, hr.clk]
  · rw [resetCommon_bias, hu.slow, hr.slow]
  · rw [resetCommon_pins, hp]
  · rw [reg_resetCommon_kept u keep ho hm hc hk, hu.reg, reg_raise_ne _ _ _ _ hc]

theorem resetN_resets {s : State} (straps : Nat) (h : s.resetHeld = false) :
    (resetN straps s).mode = .dormant ∧ (resetN straps s).coreGone ∧ s.keepsStores (resetN straps s) ∧
      (resetN straps s).host.straps = straps ∧
      (resetN straps s).fld R.TOP_RESET_CAUSE Fd.TOP_RESET_CAUSE_PIN = 1 ∧
      (resetN straps s).fld R.TOP_RESET_CAUSE Fd.TOP_RESET_CAUSE_PREV_MODE = s.mode.code ∧
      (s.clk.refclk = true → (resetN straps s).clk.time = s.clk.time) ∧
      (resetN straps s).reg R.TIME_EPOCH_PERIOD = s.reg R.TIME_EPOCH_PERIOD ∧
      (∀ off, 0x400060000 ≤ off → off < 0x400090000 → (resetN straps s).reg off = apReset off) ∧
      (∀ n : Fin 64, ((resetN straps s).bias n).parked = true ∧ ((resetN straps s).bias n).out = 0) ∧
      (resetN straps s).pins.bootDue = some (max (s.clk.now + 300000) (s.pins.bootDue.getD 0)) := by
  have hr : ¬ (s.raise R.TOP_RESET_CAUSE Fd.TOP_RESET_CAUSE_PIN).resetHeld = true := by
    change ¬ s.resetHeld = true
    simp [h]
  have hu := s.resetBy (keep := coldReg) (by decide) (by decide) (f := Fd.TOP_RESET_CAUSE_PIN) (by decide)
    (State.memRail_stands (s.raise R.TOP_RESET_CAUSE Fd.TOP_RESET_CAUSE_PIN) false) (by rw [State.memRail_pins]; rfl)
  have hb := State.biasAllPark_only (.refl (((s.raise R.TOP_RESET_CAUSE Fd.TOP_RESET_CAUSE_PIN).memRail false).resetCommon
    coldReg) _) (List.Subset.refl _)
  unfold resetN
  dsimp only
  rw [if_neg hr]
  generalize (((s.raise R.TOP_RESET_CAUSE Fd.TOP_RESET_CAUSE_PIN).memRail false).resetCommon coldReg) = u at hu hb
  generalize u.biasAllPark = v at hb
  have hw : u.Only [.slow, .ap] ((v.setReg R.TIME_EPOCH_CTL (v.reg R.TIME_EPOCH_CTL &&& 2#32)).setReg R.TIME_STATUS
      (v.reg R.TIME_STATUS &&& 0xFFFF008E#32)) := by
    simp (maxDischargeDepth := 40) -implicitDefEqProofs [hb.mono (qs := [.slow, .ap]) (by simp)]
  have hreg : ∀ o, o ≠ R.TIME_EPOCH_CTL → o ≠ R.TIME_STATUS →
      ((v.setReg R.TIME_EPOCH_CTL (v.reg R.TIME_EPOCH_CTL &&& 2#32)).setReg R.TIME_STATUS
        (v.reg R.TIME_STATUS &&& 0xFFFF008E#32)).reg o = u.reg o := fun o h1 h2 => by
    rw [State.reg_setReg_ne _ _ _ _ h2, State.reg_setReg_ne _ _ _ _ h1, hb.reg]
  generalize (v.setReg R.TIME_EPOCH_CTL (v.reg R.TIME_EPOCH_CTL &&& 2#32)).setReg R.TIME_STATUS
    (v.reg R.TIME_STATUS &&& 0xFFFF008E#32) = w at hw hreg
  have hclk : w.clk = s.clk.stop := by rw [hw.clk, hu.clk]
  refine ⟨rfl, ?_, ?_, rfl, ?_, ?_, fun hc => ?_, ?_, fun off h1 h2 => ?_, fun n => ?_, ?_⟩
  · refine State.coreGone.of_only (s := u) ?_ ?_ hu.gone
    · simp (maxDischargeDepth := 40) -implicitDefEqProofs
        [hw.mono (qs := [.mode, .ap, .out, .time, .slow, .host, .pins]) (by simp)]
    · exact State.flag_congr (hreg R.TOP_MODE (by decide) (by decide)) _
  · exact ⟨(congrArg HostSt.ledger hw.host).trans hu.stores.1,
      fun hj => (congrArg HostSt.otp hw.host).trans (hu.stores.2 hj)⟩
  · exact (State.fld_congr (hreg R.TOP_RESET_CAUSE (by decide) (by decide)) _).trans hu.cause
  · exact (State.fld_congr (hreg R.TOP_RESET_CAUSE (by decide) (by decide)) _).trans hu.prevMode
  · exact (congrArg Clocks.time hclk).trans (Clocks.stop_time hc)
  · exact (hreg _ (by decide) (by decide)).trans (hu.kept _ (by decide) (by decide) (by decide) (by decide))
  · have hk : coldReg off = false := by
      simp [coldReg, R.TOP_RESET_CAUSE, R.TIME_EPOCH_PERIOD, R.TIME_EPOCH_LOAD_LO, R.TIME_EPOCH_LOAD_HI,
        R.TIME_EPOCH_LAST_LO, R.TIME_EPOCH_LAST_HI, R.TIME_EPOCH_TDC, R.TIME_EPOCH_SLIP_AMT, R.TIME_EPOCH_TRIM,
        R.TIME_EPOCH_CTL, R.TIME_STATUS, R.TIME_FDLY]
      exact ⟨by omega, fun _ => decide_eq_false (by omega)⟩
    refine (hreg off ?_ ?_).trans (hu.lost off ?_ ?_ hk) <;>
      simp only [R.TIME_EPOCH_CTL, R.TIME_STATUS, R.TOP_MODE, R.AGE_STATUS] <;> omega
  · have hd : ∀ k, NMap.get (fun _ => ({} : Bias)) (w.slow.bias.map fun e => (e.1, ({} : Bias))) k = {} :=
      NMap.get_map_default ({} : Bias) _
    exact ⟨congrArg Bias.parked (hd n), congrArg Bias.out (hd n)⟩
  · have hv : v.pins.bootDue = s.pins.bootDue := by rw [hb.pins, hu.pins]
    rw [hclk, hv, Clocks.stop_now]

/-- WARM_RESET where nothing holds it and no boot request is pending. -/
theorem State.warm_resets {s : State} {f : Bits} (hf : f.lo + f.w ≤ 5) (h : s.resetHeld = false)
    (hb : s.pins.bootDue = none) :
    (s.warm f).mode = .boot ∧ (s.warm f).coreGone ∧ s.keepsStores (s.warm f) ∧
      (s.warm f).fld R.TOP_RESET_CAUSE f = 2 ^ f.w - 1 ∧
      (s.warm f).fld R.TOP_RESET_CAUSE Fd.TOP_RESET_CAUSE_PREV_MODE = s.mode.code ∧
      (s.warm f).slow.bias = s.slow.bias ∧ (s.warm f).clk = s.clk.stop ∧
      ∀ off, 0x400010000 ≤ off → off < 0x400020000 → (s.warm f).reg off = s.reg off := by
  have hr : ¬ ((s.raise R.TOP_RESET_CAUSE f).resetHeld || (s.raise R.TOP_RESET_CAUSE f).pins.bootDue.isSome) = true := by
    change ¬ (s.resetHeld || s.pins.bootDue.isSome) = true
    simp [h, hb]
  have hu := s.resetBy (keep := aonReg) (by decide) (by decide) hf (.refl (s.raise R.TOP_RESET_CAUSE f) _) rfl
  unfold State.warm
  dsimp only
  rw [if_neg hr]
  generalize (s.raise R.TOP_RESET_CAUSE f).resetCommon aonReg = u at hu
  refine ⟨rfl, ?_, hu.stores, hu.cause, hu.prevMode, hu.bias, hu.clk, fun off h1 h2 => ?_⟩
  · refine State.coreGone.of_only (s := u) ?_ rfl hu.gone
    simp (maxDischargeDepth := 40) -implicitDefEqProofs
  · obtain ⟨hlt, hm, hc⟩ := State.timeReg_ne h1 h2
    exact hu.kept off hlt hm hc (State.aonReg_time h1 h2)

theorem State.warm_held {s : State} (f : Bits) (h : s.resetHeld = true ∨ s.pins.bootDue.isSome = true) :
    s.warm f = s.raise R.TOP_RESET_CAUSE f := by
  refine if_pos ?_
  change (s.resetHeld || s.pins.bootDue.isSome) = true
  simpa using h

theorem State.goesOn_raise (s : State) (o : Nat) (f : Bits) : s.goesOn (s.raise o f) :=
  ⟨rfl, rfl, rfl, rfl, rfl, rfl, rfl, rfl, rfl⟩

/-- The losses of PWRGD low. -/
theorem pwrgdLow_falls {s : State} (hg : s.pins.pwrgd = true) (hl : s.isLatched = false) :
    pwrgdLow s = ({ s with pins := { s.pins with pwrgd := false } } : State).supplyOff := by
  have hl' : ¬ ({ s with pins := { s.pins with pwrgd := false } } : State).isLatched = true := by
    change ¬ s.isLatched = true
    simp [hl]
  unfold pwrgdLow
  rw [if_neg (by simp [hg])]
  exact if_neg hl'

/-- Settles O10. -/
theorem deviceResets : Obligations.DeviceResets := by
  unfold Obligations.DeviceResets
  refine ⟨fun s hp hg hl => ?_, fun s hp hg hl => ?_, fun s hp hg => ?_, fun straps s hp h => ?_, fun straps s hp h => ?_,
    fun byPorter s hp h hb => ?_, fun byPorter s hp h => ?_⟩
  · refine completes_of_powered hp rfl ?_
    rw [pwrgdLow_falls hg hl]
    have hs := State.supplyOff_pins { s with pins := { s.pins with pwrgd := false } }
    refine ⟨rfl, congrArg Pins.pwrgd hs, congrArg Pins.bootDue hs, State.supplyOff_gone _, ?_,
      State.supplyOff_prevMode _, fun hc => ?_, fun off h1 h2 => ?_, fun n hn => State.bias_supplyOff _ n.2 hn⟩
    · exact (State.supplyOff_keepsStores { s with pins := { s.pins with pwrgd := false } }).of_host rfl
    · rw [State.supplyOff_clk]
      exact Clocks.stop_time hc
    · obtain ⟨hlt, hm, hc⟩ := State.timeReg_ne h1 h2
      exact State.reg_supplyOff _ hlt hm hc (State.aonReg_time h1 h2)
  · refine exec_of_powered hp rfl ?_
    unfold pwrgdLow
    rw [if_neg (by simp [hg])]
    exact if_pos (show s.isLatched = true from hl)
  · refine exec_of_powered hp rfl ?_
    unfold pwrgdLow
    rw [if_pos (by simp [hg])]
  · exact completes_of_powered hp rfl (resetN_resets straps h)
  · refine completes_of_powered hp rfl ?_
    rw [resetN_held straps h]
    exact ⟨State.fld_raise _ _ _ (by decide), s.goesOn_raise _ _⟩
  · refine completes_of_powered hp rfl ?_
    have hf : ∀ b : Bool, (if b then Fd.TOP_RESET_CAUSE_PORTER else Fd.TOP_RESET_CAUSE_WARM).lo +
        (if b then Fd.TOP_RESET_CAUSE_PORTER else Fd.TOP_RESET_CAUSE_WARM).w ≤ 5 := by decide
    have hw : ∀ b : Bool, 2 ^ (if b then Fd.TOP_RESET_CAUSE_PORTER else Fd.TOP_RESET_CAUSE_WARM).w - 1 = 1 := by decide
    obtain ⟨h1, h2, h3, h4, h5, h6, h7, h8⟩ := State.warm_resets (hf byPorter) h hb
    rw [hw] at h4
    exact ⟨h1, h2, h3, h4, h5, h6, fun hc => (congrArg Clocks.time h7).trans (Clocks.stop_time hc), h8⟩
  · refine completes_of_powered hp rfl ?_
    unfold warmReset
    rw [State.warm_held _ h]
    refine ⟨?_, s.goesOn_raise _ _⟩
    cases byPorter <;> exact State.fld_raise _ _ _ (by decide)

end Sys2Proof.Machine
end

section
/-! Rail trips and regulator alerts (O58). -/
namespace Sys2Proof.Machine

-- One proof at a time: elaborated side by side, the proofs of so long a text need too much memory.
set_option Elab.async false

namespace State

theorem bias_biasAllPark (s : State) {n : Nat} (hn : n < 64) :
    s.biasAllPark.bias n = { (s.bias n).quiet with
      parked := true, out := 0, driven := 0, aim := .target, step := .none_, susp := false, later := none
      unpark := false } := by
  unfold biasAllPark
  refine (foldAll_get (g := State.bias)
    (F := fun x : Bias => { x.quiet with
      parked := true, out := 0, driven := 0, aim := .target, step := .none_, susp := false, later := none
      unpark := false })
    (fun s k => bias_onBias_self s k _) (fun s k j h => ?_) _ List.nodup_range s n).trans ?_
  · exact (bias_onBias s k j _).trans (if_neg h)
  · rw [if_pos (List.mem_range.2 hn)]

theorem isLatched_congr {s t : State} (hm : t.mode = s.mode) (ht : t.therm = s.therm) : t.isLatched = s.isLatched := by
  rw [isLatched, hm, ht, isLatched]

/-- A rail leaves its window. -/
def tripped (s : State) (n : Nat) : State :=
  ({ s with pins := { s.pins with railsOut := setBit s.pins.railsOut n } } : State).orFld R.TOP_SUPPLY
    Fd.TOP_SUPPLY_TRIP (2 ^ n)

theorem tripped_trip (s : State) {n : Nat} (hn : n < 11) :
    (s.tripped n).fbit R.TOP_SUPPLY Fd.TOP_SUPPLY_TRIP n = true := by
  unfold tripped
  rw [fbit_orFld _ _ _ _ _ (by decide) hn]
  simp [bitAt_two_pow]

end State

theorem railTrip_eq {s : State} {n : Nat} (h : bitAt s.pins.railsOut n = false) :
    railTrip n s =
      if n < 8 then
        if s.isLatched then (s.tripped n).raise R.TOP_RESET_CAUSE Fd.TOP_RESET_CAUSE_SUPPLY
        else if s.pins.pwrgd then (s.tripped n).supplyOff else s.tripped n
      else if n < 10 then ((s.tripped n).biasAllPark.pulse 351).irq 6
      else
        ((foldAll (fun s k => s.onLoop k fun x => { x with undriven := true })
          ((s.tripped n).scanHalt.clear R.SENSE_CTL Fd.SENSE_CTL_RUN) [0, 1]).pulse 350).irq 6 := by
  unfold railTrip
  rw [if_neg (by simp [h])]
  rfl

section
variable {s : State} {n : Nat} (h : bitAt s.pins.railsOut n = false)
include h

theorem railTrip_core_rail (hn : n < 8) : (railTrip n s).pins.railsOut = setBit s.pins.railsOut n ∧
    (railTrip n s).fbit R.TOP_SUPPLY Fd.TOP_SUPPLY_TRIP n = true ∧
    (s.isLatched = false → s.pins.pwrgd = true → railTrip n s = (s.tripped n).supplyOff) ∧
    (s.isLatched = true → (railTrip n s).mode = s.mode ∧ (railTrip n s).therm = s.therm ∧
      (railTrip n s).slow = s.slow) := by
  have ht := s.tripped_trip (n := n) (by omega)
  rw [railTrip_eq h, if_pos hn]
  split
  · next hl =>
    exact ⟨rfl, (State.fbit_congr (State.reg_raise_ne _ _ _ _ (by decide)) _ _).trans ht,
      fun hl' => absurd hl (by simp [hl']), fun _ => ⟨rfl, rfl, rfl⟩⟩
  · next hl =>
    split
    · refine ⟨?_, ?_, fun _ _ => rfl, fun hl' => absurd hl' hl⟩
      · rw [State.supplyOff_pins]
        rfl
      · rw [State.fbit_congr (State.reg_supplyOff _ (by decide) (by decide) (by decide) (by decide)), ht]
    · next hg => exact ⟨rfl, ht, fun _ hg' => absurd hg' hg, fun hl' => absurd hl' hl⟩

theorem railTrip_bias_rail (hn : 8 ≤ n) (hn' : n < 10) : (railTrip n s).pins.railsOut = setBit s.pins.railsOut n ∧
    (railTrip n s).fbit R.TOP_SUPPLY Fd.TOP_SUPPLY_TRIP n = true ∧ (railTrip n s).mode = s.mode ∧
    (railTrip n s).fbit R.TOP_IRQ_PEND Fd.TOP_IRQ_PEND_BITS 6 = true ∧
    ∀ k < 64, ((railTrip n s).bias k).parked = true ∧ ((railTrip n s).bias k).driven = 0 := by
  have ho : (s.tripped n).Only [.slow] (s.tripped n).biasAllPark :=
    State.biasAllPark_only (.refl _ _) (List.Subset.refl _)
  rw [railTrip_eq h, if_neg (by omega), if_pos hn']
  have hp : (s.tripped n).biasAllPark.Only [.ap, .outbox, .fabric] (((s.tripped n).biasAllPark.pulse 351).irq 6) := by
    simp (maxDischargeDepth := 40) -implicitDefEqProofs
  refine ⟨?_, ?_, ?_, State.fbit_irq _ (by decide), fun k hk => ?_⟩
  · rw [hp.pins, ho.pins]
    rfl
  · rw [State.fbit_congr (State.reg_irq_ne _ _ (by decide)), State.fbit_congr (State.reg_pulse _ _ _),
      State.fbit_congr (ho.reg _), s.tripped_trip (by omega)]
  · rw [hp.mode, ho.mode]
    rfl
  · rw [State.bias, hp.slow]
    have hb := State.bias_biasAllPark (s.tripped n) hk
    exact ⟨congrArg Bias.parked hb, congrArg Bias.driven hb⟩

theorem railTrip_loop_rail (hn : n = 10) : (railTrip n s).pins.railsOut = setBit s.pins.railsOut n ∧
    (railTrip n s).fbit R.TOP_SUPPLY Fd.TOP_SUPPLY_TRIP n = true ∧ (railTrip n s).mode = s.mode ∧
    (railTrip n s).fbit R.TOP_IRQ_PEND Fd.TOP_IRQ_PEND_BITS 6 = true ∧ (railTrip n s).scanning = false ∧
    ((railTrip n s).loop 0).undriven = true ∧ ((railTrip n s).loop 1).undriven = true ∧
    ∀ k, (railTrip n s).bias k = s.bias k := by
  rw [railTrip_eq h, if_neg (by omega), if_neg (by omega)]
  have hu : (s.tripped n).Only [.ap, .slow] ((s.tripped n).scanHalt.clear R.SENSE_CTL Fd.SENSE_CTL_RUN) := by
    simp (maxDischargeDepth := 40) -implicitDefEqProofs
  have hr : ((s.tripped n).scanHalt.clear R.SENSE_CTL Fd.SENSE_CTL_RUN).reg R.TOP_SUPPLY =
      (s.tripped n).reg R.TOP_SUPPLY :=
    (State.reg_clear_ne _ _ _ _ (by decide)).trans (State.scanHalt_keeps_reg _ (by decide))
  have hsc : ((s.tripped n).scanHalt.clear R.SENSE_CTL Fd.SENSE_CTL_RUN).flag R.SENSE_CTL Fd.SENSE_CTL_RUN = false :=
    State.flag_clear _ _ _
  have hb : ((s.tripped n).scanHalt.clear R.SENSE_CTL Fd.SENSE_CTL_RUN).slow.bias = s.slow.bias :=
    State.scanHalt_bias (s.tripped n)
  generalize (s.tripped n).scanHalt.clear R.SENSE_CTL Fd.SENSE_CTL_RUN = u at hu hr hsc hb
  have hl : ∀ k, k < 2 → ((foldAll (fun s k => s.onLoop k fun x => { x with undriven := true }) u [0, 1]).loop
      k).undriven = true := by
    intro k hk
    refine (congrArg Loop.undriven (foldAll_get (g := State.loop) (F := fun x : Loop => { x with undriven := true })
      (fun s k => State.loop_onLoop_self s k _) (fun s k j h => ?_) _ (by decide) u k)).trans ?_
    · exact (State.loop_onLoop s k j _).trans (if_neg h)
    · rw [if_pos (by simp; omega)]
  have hfb : (foldAll (fun s k => s.onLoop k fun x => { x with undriven := true }) u [0, 1]).slow.bias = u.slow.bias :=
    rfl
  have hv : u.Only [.slow] (foldAll (fun s k => s.onLoop k fun x => { x with undriven := true }) u [0, 1]) := by
    simp (contextual := true) (maxDischargeDepth := 40) -implicitDefEqProofs
  generalize foldAll (fun s k => s.onLoop k fun x => { x with undriven := true }) u [0, 1] = v at hl hfb hv
  have hw : v.Only [.ap, .outbox, .fabric] ((v.pulse 350).irq 6) := by
    simp (maxDischargeDepth := 40) -implicitDefEqProofs
  have hreg : ∀ o, o ≠ R.TOP_IRQ_PEND → ((v.pulse 350).irq 6).reg o = u.reg o := fun o ho => by
    rw [State.reg_irq_ne _ _ ho, State.reg_pulse, hv.reg]
  refine ⟨?_, ?_, ?_, State.fbit_irq _ (by decide), ?_, ?_, ?_, fun k => ?_⟩
  · rw [hw.pins, hv.pins, hu.pins]
    rfl
  · rw [State.fbit_congr ((hreg _ (by decide)).trans hr), s.tripped_trip (by omega)]
  · rw [hw.mode, hv.mode, hu.mode]
    rfl
  · rw [State.scanning, State.flag_congr (hreg _ (by decide)), hsc]
  · rw [State.loop, hw.slow]
    exact hl 0 (by decide)
  · rw [State.loop, hw.slow]
    exact hl 1 (by decide)
  · rw [State.bias, hw.slow, hfb, hb, State.bias]

end

theorem State.alertServe_outbox (s : State) (f : Bool) {a : Nat} (ha : a ∈ s.pmbAddrs) :
    Out.pmbus a 0x79 0 ∈ (s.alertServe f).outbox := by
  have hkeep : ∀ (xs : List Nat) (t : State) (x : Out), x ∈ t.outbox →
      x ∈ (foldAll (fun s a => (s.emit (.pmbus a 0 0)).emit (.pmbus a 0x79 0)) t xs).outbox := by
    intro xs
    induction xs with
    | nil => exact fun t x hx => hx
    | cons b xs ih => exact fun t x hx => ih _ x (by simp [State.emit, hx])
  have hin : ∀ (xs : List Nat) (t : State), a ∈ xs →
      Out.pmbus a 0x79 0 ∈ (foldAll (fun s a => (s.emit (.pmbus a 0 0)).emit (.pmbus a 0x79 0)) t xs).outbox := by
    intro xs
    induction xs with
    | nil => exact fun t h => absurd h (by simp)
    | cons b xs ih =>
      intro t h
      rcases List.mem_cons.1 h with rfl | h
      · exact hkeep xs _ _ (by simp [State.emit])
      · exact ih _ h
  have h := hin s.pmbAddrs s ha
  unfold State.alertServe
  dsimp only
  split
  · rw [State.raise_outbox]
    exact h
  · exact h

/-- Settles O58. -/
theorem supplyEvents : Obligations.SupplyEvents := by
  unfold Obligations.SupplyEvents
  refine ⟨fun n s hp h => exec_of_powered hp rfl (if_pos h), fun n s hp h => completes_of_powered hp rfl ?_,
    fun x s hp => completes_of_powered hp rfl ?_, fun f s hp => completes_of_powered hp rfl ?_⟩
  · have hbits : ∀ {t : State}, t.pins.railsOut = setBit s.pins.railsOut n → bitAt t.pins.railsOut n = true ∧
        ∀ i, i ≠ n.val → bitAt t.pins.railsOut i = bitAt s.pins.railsOut i := fun ht => by
      rw [ht]
      exact ⟨bitAt_setBit_self _ _, fun i hi => bitAt_setBit_ne _ hi⟩
    rcases lt_or_ge n.val 8 with hn | hn
    · obtain ⟨hr, ht, hoff, hl⟩ := railTrip_core_rail h hn
      obtain ⟨hb, hb'⟩ := hbits hr
      refine ⟨hb, ht, hb', fun _ hl hg => ?_, fun _ => hl, fun _ => by omega, fun _ => by omega, fun _ => by omega⟩
      obtain ⟨h1, h2, h3, -⟩ := State.supplyOff_gone (s.tripped n)
      rw [hoff hl hg]
      refine ⟨rfl, ?_, h2, h1, h3⟩
      rw [(State.supplyOff_stands _).pat, State.resetCommon_pat]
    · rcases lt_or_ge n.val 10 with hn' | hn'
      · obtain ⟨hr, ht, hm, hi, hk⟩ := railTrip_bias_rail h hn hn'
        obtain ⟨hb, hb'⟩ := hbits hr
        exact ⟨hb, ht, hb', fun _ => by omega, fun _ => by omega, fun _ => ⟨hm, hi⟩, fun _ => hk, fun _ => by omega⟩
      · obtain ⟨hr, ht, hm, hi, hs, h0, h1, hk⟩ := railTrip_loop_rail h (by omega)
        obtain ⟨hb, hb'⟩ := hbits hr
        exact ⟨hb, ht, hb', fun _ => by omega, fun _ => by omega, fun _ => ⟨hm, hi⟩, fun _ => by omega,
          fun _ => ⟨hs, h0, h1, fun k _ => hk k⟩⟩
  · have he : railRecover x s = if s.pins.railsOut % 256 != 0 && s.pins.pwrgd && !s.isLatched then
        ({ s with pins := { s.pins with railsOut := 0 } } : State).supplyOn x
        else { s with pins := { s.pins with railsOut := 0 } } := rfl
    rw [he]
    split
    · next hc =>
      obtain ⟨⟨hr, hg⟩, hl⟩ : (s.pins.railsOut % 256 ≠ 0 ∧ s.pins.pwrgd = true) ∧ s.isLatched = false := by simpa using hc
      obtain ⟨h1, h2⟩ := State.supplyOn_cause { s with pins := { s.pins with railsOut := 0 } } x
      refine ⟨rfl, fun _ _ _ => ⟨rfl, ?_, ?_, rfl, rfl⟩, fun h => ?_⟩
      · rw [State.flag, h1]
        rfl
      · rw [State.flag, h2]
        rfl
      · simp [hr, hg, hl] at h
    · next hc =>
      refine ⟨rfl, fun h1 h2 h3 => ?_, fun _ => ⟨rfl, rfl, rfl, rfl, rfl⟩⟩
      simp [h1, h2, h3] at hc
  · unfold pmbAlert
    split
    · next h => exact ⟨rfl, fun _ => ⟨rfl, rfl, fun hf => by simp [hf]⟩, fun h' => by simp [h] at h'⟩
    · next h =>
      have hm : s.Only [.ap, .outbox] (s.alertServe f) := by
        simp (contextual := true) (maxDischargeDepth := 40) -implicitDefEqProofs
      refine ⟨hm.mode, fun h' => absurd h' h, fun _ => ⟨fun hf => ?_, fun hf => ?_, fun a => s.alertServe_outbox f⟩⟩
      · subst hf
        exact State.flag_raise _ _ _
      · subst hf
        unfold State.alertServe
        exact foldAll_keeps (fun t : State => t.ap) (fun _ _ => by rfl) _ s

end Sys2Proof.Machine
end

section
/-! Boot requests, firmware verification, SANITISE and its end (O11). -/
namespace Sys2Proof.Machine

-- One proof at a time: elaborated side by side, the proofs of so long a text need too much memory.
set_option Elab.async false

namespace State

theorem become_stands (s : State) (m : Mode) (cause : Nat) :
    s.Only [.mode, .ap, .memc, .tally, .fabric, .fms, .outbox] (s.become m cause) := by
  simp (maxDischargeDepth := 40) -implicitDefEqProofs

section
variable {s : State} (hm : s.mode = .dormant) (hg : s.pins.pwrgd = true) (hr : s.pins.railsOut % 256 = 0)
include hm hg hr

theorem boots_boot (hb : s.therm.bootBad = false) :
    s.boots.mode = .boot ∧ s.boots.pins.bootDue = none ∧ s.boots.clk = s.clk := by
  have h : s.boots = ({ s with pins := { s.pins with bootDue := none } } : State).become .boot 0 := by
    unfold boots
    rw [if_neg (by simp [hm, hg, hr])]
    exact if_neg (by simp [hb])
  have hs := become_stands { s with pins := { s.pins with bootDue := none } } .boot 0
  rw [h]
  exact ⟨become_mode _ _ _, congrArg Pins.bootDue hs.pins, hs.clk⟩

theorem boots_latch (hb : s.therm.bootBad = true) : s.boots.mode = .latched ∧ s.boots.therm.thermN = true := by
  have h : s.boots = { ({ s with pins := { s.pins with bootDue := none } } : State).latchOff with mode := .latched } := by
    unfold boots
    rw [if_neg (by simp [hm, hg, hr])]
    exact if_pos hb
  rw [h]
  exact ⟨rfl, rfl⟩

end

/-! ### The requests that boot -/

section
variable {s : State}

theorem bootRequest_eq {d : Nat} (h : s.pins.bootDue = some d) (hd : d ≤ s.clk.now)
    (ha : s.flag R.TOP_AON_CTL Fd.TOP_AON_CTL_AUTOBOOT = true) : bootRequest s = s.boots := by
  unfold bootRequest
  rw [h]
  exact if_pos (by simp [hd, ha])

theorem wakeTimer_eq (hp : s.clk.phAon = 0) (h : s.flag R.TOP_AON_CTL Fd.TOP_AON_CTL_WAKE_TIMER_EN = true)
    (ht : s.reg64 R.TOP_WAKE_TIME_LO ≤ s.clk.time) : wakeTimer s = s.boots :=
  if_pos (by simp [hp, h, ht])

theorem wakeTrig_eq {line : Nat} (h : s.flag R.TOP_AON_CTL Fd.TOP_AON_CTL_WAKE_TRIG_EN = true)
    (hl : s.fld R.TOP_AON_CTL Fd.TOP_AON_CTL_WAKE_TRIG = line) : wakeTrig line s = s.boots :=
  if_pos (by simp [h, hl])

end

/-! ### A transition that a reset cut off -/

/-- What the finish of a life-cycle transition makes of the flash and the Ledger before its reset. -/
theorem intentFinish_eq (s : State) (x : Nat) : ∃ u : State, s.Only [.host, .freeCtr] u ∧ u.host.customFlash = false ∧
    (∃ r : LedgerRec, u.host.ledger = s.host.ledger ++ [r] ∧ r.kind = .lifecycle false x) ∧
    s.intentFinish x = u.warm Fd.TOP_RESET_CAUSE_PORTER := by
  unfold intentFinish
  dsimp only
  refine ⟨_, ?_, ?_, ⟨⟨s.host.nextSeq, .lifecycle false x, [0], s.host.powerOns, s.clk.now, s.clk.now⟩, ?_, rfl⟩, rfl⟩
  · simp (maxDischargeDepth := 40) -implicitDefEqProofs
  · rfl
  · rfl

theorem tokenCut_customFlash (s : State) : s.tokenCut.host.customFlash = s.host.customFlash := by
  unfold tokenCut
  split
  · dsimp only [free_fst, free_snd]
    split <;> rfl
  · rfl

theorem coreLost_customFlash (s : State) (keep : Nat → Bool) (open_ : Bool) :
    (s.coreLost keep open_).host.customFlash = s.host.customFlash := by
  refine Eq.trans ?_ (tokenCut_customFlash s)
  unfold coreLost
  dsimp only
  split <;> rfl

theorem warm_customFlash (s : State) (f : Bits) : (s.warm f).host.customFlash = s.host.customFlash := by
  have h : ((s.raise R.TOP_RESET_CAUSE f).resetCommon aonReg).host.customFlash = s.host.customFlash := by
    obtain ⟨t, ho, -, -, -, -, -, he⟩ := resetCommon_eq (s.raise R.TOP_RESET_CAUSE f) aonReg
    rw [he, coreLost_customFlash, ho.host, raise_host]
  unfold warm
  dsimp only
  split
  · rfl
  · exact h

/-- RESET_CAUSE shows a warm reset whether it is made or held. -/
theorem warm_cause (s : State) {f : Bits} (hf : f.lo + f.w ≤ 5) :
    (s.warm f).fld R.TOP_RESET_CAUSE f = 2 ^ f.w - 1 := by
  by_cases h : s.resetHeld = true ∨ s.pins.bootDue.isSome = true
  · rw [warm_held f h, fld_raise _ _ _ (by omega)]
  · obtain ⟨h1, h2⟩ := not_or.1 h
    exact (warm_resets hf (by simpa using h1) (by simpa using h2)).2.2.2.1

theorem warm_mode (s : State) {f : Bits} (hf : f.lo + f.w ≤ 5) (hm : s.mode = .boot) : (s.warm f).mode = .boot := by
  by_cases h : s.resetHeld = true ∨ s.pins.bootDue.isSome = true
  · rw [warm_held f h]
    exact hm
  · obtain ⟨h1, h2⟩ := not_or.1 h
    exact (warm_resets hf (by simpa using h1) (by simpa using h2)).1

theorem warm_ledger (s : State) {f : Bits} (hf : f.lo + f.w ≤ 5) : (s.warm f).host.ledger = s.host.ledger := by
  by_cases h : s.resetHeld = true ∨ s.pins.bootDue.isSome = true
  · rw [warm_held f h]
    rfl
  · obtain ⟨h1, h2⟩ := not_or.1 h
    exact (warm_resets hf (by simpa using h1) (by simpa using h2)).2.2.1.1

theorem intentFinish_resets {s : State} (x : Nat) (hm : s.mode = .boot) :
    (s.intentFinish x).mode = .boot ∧ (s.intentFinish x).host.customFlash = false ∧
      (∃ r : LedgerRec, (s.intentFinish x).host.ledger = s.host.ledger ++ [r] ∧ r.kind = .lifecycle false x) ∧
      (s.intentFinish x).fld R.TOP_RESET_CAUSE Fd.TOP_RESET_CAUSE_PORTER = 1 ∧
      (s.resetHeld = false → s.pins.bootDue = none → (s.intentFinish x).coreGone) := by
  obtain ⟨u, hu, hc, ⟨r, hl, hr⟩, h⟩ := s.intentFinish_eq x
  have hheld : u.resetHeld = s.resetHeld := by
    rw [resetHeld, isLatched_congr hu.mode hu.therm, hu.pins, resetHeld]
  rw [h]
  refine ⟨u.warm_mode (by decide) (hu.mode.trans hm), (u.warm_customFlash _).trans hc,
    ⟨r, (u.warm_ledger (by decide)).trans hl, hr⟩, u.warm_cause (by decide), fun h1 h2 => ?_⟩
  exact (warm_resets (by decide) (hheld.trans h1) (by rw [hu.pins, h2])).2.1

/-! ### Firmware and the end of SANITISE -/

theorem intentCheck_stands (s : State) : s.Only [.ap, .host] s.intentCheck :=
  intentCheck_only (.refl s _) (List.Subset.refl _)

theorem intentCheck_otp (s : State) : s.intentCheck.host.otp = s.host.otp := by
  unfold intentCheck
  split <;> rfl

section
variable {s : State} {alternate : Bool} (hm : s.mode = .boot) (hi : s.intentBurnt = none)
  (hb : s.flag R.TOP_MODE Fd.TOP_MODE_BOOT_FAIL = false) (hv : s.host.image alternate ≠ 0)
  (hf : s.host.otp.fwFloor ≤ s.host.image alternate)
include hm hi hb hv hf

/-- The verified firmware runs from a state that keeps the clocks, and takes the device to SANITISE. -/
theorem firmwareVerified_eq : ∃ (u : State) (m : MemSt) (th : Therm), u.clk = s.clk ∧
    u.host.fwVer = s.host.image alternate ∧ u.host.otp.fwFloor = s.host.image alternate ∧
    m.wipeDue = some (((((u.raise R.TOP_MODE Fd.TOP_MODE_SANITISE_OPEN).become .sanitise 0).startClocks false).memRail
      true).clk.now + 229650000) ∧
    firmwareVerified alternate s =
      { (((u.raise R.TOP_MODE Fd.TOP_MODE_SANITISE_OPEN).become .sanitise 0).startClocks false).memRail true with
        memc := m, therm := th } := by
  unfold firmwareVerified
  dsimp only
  rw [if_neg (by simp [hi]), if_pos (by simp [hm, hb, hv, hf])]
  refine ⟨_, _, _, ?_, ?_, ?_, ?_, rfl⟩
  · exact (intentCheck_stands s).clk
  · rfl
  · exact (congrArg (max · _) (congrArg Otp.fwFloor (intentCheck_otp s))).trans (max_eq_right hf)
  · rfl

theorem firmwareVerified_sanitise :
    (firmwareVerified alternate s).mode = .sanitise ∧
      (firmwareVerified alternate s).flag R.TOP_MODE Fd.TOP_MODE_SANITISE_OPEN = true ∧
      (firmwareVerified alternate s).clk.core = true ∧
      (firmwareVerified alternate s).host.fwVer = s.host.image alternate ∧
      (firmwareVerified alternate s).host.otp.fwFloor = s.host.image alternate ∧
      (firmwareVerified alternate s).memc.wipeDue = some (s.clk.now + 229650000) := by
  obtain ⟨u, m, th, hclk, hver, hfloor, hw, he⟩ := firmwareVerified_eq hm hi hb hv hf
  have hs := become_stands (u.raise R.TOP_MODE Fd.TOP_MODE_SANITISE_OPEN) .sanitise 0
  have hmode := become_mode (u.raise R.TOP_MODE Fd.TOP_MODE_SANITISE_OPEN) .sanitise 0
  have hflag : ((u.raise R.TOP_MODE Fd.TOP_MODE_SANITISE_OPEN).become .sanitise 0).flag R.TOP_MODE
      Fd.TOP_MODE_SANITISE_OPEN = true :=
    (flag_congr (reg_become (by decide) _ _ _ (by decide)) _).trans (flag_raise _ _ _)
  rw [he]
  clear he
  generalize (u.raise R.TOP_MODE Fd.TOP_MODE_SANITISE_OPEN).become .sanitise 0 = w at hs hmode hflag hw
  have hr := memRail_stands (w.startClocks false) true
  have hcore : (w.clk.start false).core = true ∧ (w.clk.start false).now = w.clk.now := by
    unfold Clocks.start
    split
    · next h => exact ⟨h, rfl⟩
    · exact ⟨rfl, rfl⟩
  generalize (w.startClocks false).memRail true = x at hr hw
  have hxc : x.clk = w.clk.start false := hr.clk
  have hxh : x.host = u.host := hr.host.trans (hs.host.trans (raise_host _ _ _))
  have hreg : ({ x with memc := m, therm := th } : State).reg R.TOP_MODE = w.reg R.TOP_MODE :=
    hr.reg R.TOP_MODE
  refine ⟨hr.mode.trans hmode, (flag_congr hreg _).trans hflag, ?_, ?_, ?_, hw.trans ?_⟩
  · exact (congrArg Clocks.core hxc).trans hcore.1
  · exact (congrArg HostSt.fwVer hxh).trans hver
  · exact (congrArg (fun h : HostSt => h.otp.fwFloor) hxh).trans hfloor
  · rw [hxc, hcore.2, hs.clk, raise_clk, hclk]

end

end State

/-- Settles O11. -/
theorem bootAndSanitise : Obligations.BootAndSanitise := by
  unfold Obligations.BootAndSanitise
  refine ⟨fun s hp hm hg hr hb hd ha => ?_, fun s hp hm hg hr hb ha hw ht => ?_, fun line s hp hm hg hr hb hw hl => ?_,
    fun line s hp hm hg hr hb hd ha hph hw ht hwt hl c hc => ?_, fun alternate s hp hm hi hb hv hf => ?_,
    fun s hp hm hi => ?_, fun alternate x s hp hm hi c hc => ?_, fun s hp hm ha hd => ?_⟩
  · obtain ⟨d, hd, hle⟩ := hd
    refine completes_of_powered hp rfl ?_
    rw [State.bootRequest_eq hd hle ha]
    exact State.boots_boot hm hg hr hb
  · refine completes_of_powered hp rfl ?_
    rw [State.wakeTimer_eq ha hw ht]
    exact State.boots_boot hm hg hr hb
  · refine completes_of_powered hp rfl ?_
    rw [State.wakeTrig_eq hw hl]
    exact State.boots_boot hm hg hr hb
  · obtain ⟨d, hd, hle⟩ := hd
    simp only [List.mem_cons, List.not_mem_nil, or_false] at hc
    rcases hc with rfl | rfl | rfl <;> refine completes_of_powered hp rfl ?_
    · rw [State.bootRequest_eq hd hle ha]
      exact State.boots_latch hm hg hr hb
    · rw [State.wakeTimer_eq hph hw ht]
      exact State.boots_latch hm hg hr hb
    · rw [State.wakeTrig_eq hwt hl]
      exact State.boots_latch hm hg hr hb
  · exact completes_of_powered hp rfl (State.firmwareVerified_sanitise hm hi hb hv hf)
  · refine completes_of_powered hp rfl ?_
    have he : bootFail s = { s.intentCheck.raise R.TOP_MODE Fd.TOP_MODE_BOOT_FAIL with
        host := { (s.intentCheck.raise R.TOP_MODE Fd.TOP_MODE_BOOT_FAIL).host with mgmtPorter := true } } := by
      unfold bootFail
      rw [if_neg (by simp [hi]), if_pos (by simp [hm])]
    rw [he]
    have hf := State.flag_raise s.intentCheck R.TOP_MODE Fd.TOP_MODE_BOOT_FAIL
    have hu := (State.raise_mode s.intentCheck R.TOP_MODE Fd.TOP_MODE_BOOT_FAIL).trans s.intentCheck_stands.mode
    generalize s.intentCheck.raise R.TOP_MODE Fd.TOP_MODE_BOOT_FAIL = u at hf hu
    exact ⟨hu.trans hm, hf, rfl⟩
  · simp only [List.mem_cons, List.not_mem_nil, or_false] at hc
    rcases hc with rfl | rfl <;> refine completes_of_powered hp rfl ?_
    · have he : firmwareVerified alternate s = s.intentFinish x := by
        unfold firmwareVerified
        rw [if_pos (by simp [hm, hi]), hi]
        rfl
      rw [he]
      exact State.intentFinish_resets x hm
    · have he : bootFail s = s.intentFinish x := by
        unfold bootFail
        rw [if_pos (by simp [hm, hi]), hi]
        rfl
      rw [he]
      exact State.intentFinish_resets x hm
  · obtain ⟨d, hd, hle⟩ := hd
    refine completes_of_powered hp rfl ?_
    unfold wipeComplete
    rw [hd]
    dsimp only
    rw [if_pos (by simp [hm, hle, ha])]
    have hne : ∀ off, isWindow off = true → off ≠ R.TOP_MODE := by
      rintro off h rfl
      exact absurd h (by decide)
    refine ⟨?_, fun _ => rfl, fun off hw => ?_, ?_⟩
    · refine Eq.trans (State.flag_congr ?_ _) (State.flag_clear s R.TOP_MODE Fd.TOP_MODE_SANITISE_OPEN)
      exact (NMap.get_erase apReset isWindow _ _).trans (if_neg (by decide))
    · exact (NMap.get_erase apReset isWindow _ _).trans (if_pos hw)
    · simp [State.beginTo, hm]

end Sys2Proof.Machine
end

section
/-! Trims, fine delays and the trigger bus (O18). -/
namespace Sys2Proof.Machine

-- One proof at a time: elaborated side by side, the proofs of so long a text need too much memory.
set_option Elab.async false

theorem lowBits_lt (w : Nat) (i : Int) : lowBits w i < 2 ^ w := by
  have h : (0 : Int) < Int.ofNat (2 ^ w) := Int.natCast_pos.2 (Nat.two_pow_pos w)
  have h1 := Int.emod_nonneg i h.ne'
  have h2 := Int.emod_lt_of_pos i h
  unfold lowBits
  zify
  rw [Int.toNat_of_nonneg h1]
  simpa using h2

namespace State

theorem reg64_setReg64 (s : State) (o : Nat) {v : Nat} (hv : v < 2 ^ 64) : (s.setReg64 o v).reg64 o = v := by
  have h4 : o ≠ o + 4 := by omega
  unfold setReg64 reg64
  rw [reg_setReg_self, reg_setReg_ne _ _ _ _ h4, reg_setReg_self, BitVec.toNat_ofNat, BitVec.toNat_ofNat]
  omega

theorem reg_setReg64_ne (s : State) {o p : Nat} (v : Nat) (h : p ≠ o) (h4 : p ≠ o + 4) :
    (s.setReg64 o v).reg p = s.reg p := by
  rw [setReg64, reg_setReg_ne _ _ _ _ h4, reg_setReg_ne _ _ _ _ h]

end State

/-! ### Edges at an input line -/

section
variable {s : State} {k : Nat} {falling : Bool} {frac : Nat} (ho : s.flag (R.TIME_TRIG_CTL k) Fd.TIME_TRIG_CTL_OUT = false)
  (hs : s.trigSelects k falling = true)
include ho hs

theorem trigEdge_close (h0 : NMap.get (fun _ => 0) s.time.trigLast k ≠ 0)
    (h : 16 * s.clk.now + frac + 1 < NMap.get (fun _ => 0) s.time.trigLast k + 64) :
    trigEdge k falling frac s = s.raise (R.TIME_TRIG_STAT k) Fd.TIME_TRIG_STAT_OVER := by
  unfold trigEdge
  dsimp only
  rw [if_neg (by simp [ho, hs]), if_pos]
  simp only [Bool.and_eq_true, bne_iff_ne, ne_eq, h0, not_false_eq_true, decide_eq_true_eq, true_and]
  omega

/-- The timestamp that a taken edge leaves. -/
theorem trigEdge_stamp {a : Nat} {x : Int}
    (h : NMap.get (fun _ => 0) s.time.trigLast k = 0 ∨
      NMap.get (fun _ => 0) s.time.trigLast k + 64 ≤ 16 * s.clk.now + frac + 1)
    (ha : a = (if s.clk.core && s.clk.aligned then 16 * s.clk.time + frac
      else 16 * (if s.clk.phRef = 0 && frac = 0 then s.clk.time else s.timeNextEdge)))
    (hx : x = Int.ofNat a - s.time.trimNow - Int.ofNat (s.fld (R.TIME_TRIG_CTL k) Fd.TIME_TRIG_CTL_DLY)) :
    ∃ u : State, s.Only [.time] u ∧ ∃ up pay,
      trigEdge k falling frac s =
        (((((((u.setReg64 (R.TIME_TRIG_TS_LO k) (lowBits 64 (x / 16))).setFld (R.TIME_TRIG_STAT k)
          Fd.TIME_TRIG_STAT_FRAC (lowBits 4 x)).raise (R.TIME_TRIG_STAT k) Fd.TIME_TRIG_STAT_NEW).setFld
          (R.TIME_TRIG_STAT k) Fd.TIME_TRIG_STAT_COARSE (bit !(s.clk.core && s.clk.aligned))).offer 24 srcDev 0x20 1
          (lowBits 64 (x / 16)) pay).startHit 2 k up).pulse (336 + k)) := by
  have harr : (if (!(s.clk.core && s.clk.aligned)) = true then
      16 * (if s.clk.phRef = 0 && frac = 0 then s.clk.time else s.timeNextEdge) else 16 * s.clk.time + frac) = a := by
    rw [ha]
    cases s.clk.core && s.clk.aligned <;> rfl
  unfold trigEdge
  dsimp only
  rw [if_neg (by simp [ho, hs]), if_neg, harr, ← hx]
  · refine ⟨_, ?_, _, _, rfl⟩
    simp (maxDischargeDepth := 40) -implicitDefEqProofs
  · simp only [Bool.and_eq_true, bne_iff_ne, ne_eq, decide_eq_true_eq, not_and]
    intro h0
    have := h.resolve_left h0
    omega

end

/-- What the registers of line `k` show once a timestamp `v` and fraction `f` have been written. -/
theorem stamp_regs (u : State) (k : Nat) {v f : Nat} (c : Bool) (hv : v < 2 ^ 64) (hf : f < 2 ^ 4) {w : State}
    (hw : w = (((u.setReg64 (R.TIME_TRIG_TS_LO k) v).setFld (R.TIME_TRIG_STAT k) Fd.TIME_TRIG_STAT_FRAC f).raise
      (R.TIME_TRIG_STAT k) Fd.TIME_TRIG_STAT_NEW).setFld (R.TIME_TRIG_STAT k) Fd.TIME_TRIG_STAT_COARSE (bit c)) :
    w.clk = u.clk ∧ w.reg64 (R.TIME_TRIG_TS_LO k) = v ∧ w.fld (R.TIME_TRIG_STAT k) Fd.TIME_TRIG_STAT_FRAC = f ∧
      w.flag (R.TIME_TRIG_STAT k) Fd.TIME_TRIG_STAT_NEW = true ∧
      w.flag (R.TIME_TRIG_STAT k) Fd.TIME_TRIG_STAT_COARSE = c := by
  have hts : ∀ o, o ≠ R.TIME_TRIG_STAT k → w.reg o = (u.setReg64 (R.TIME_TRIG_TS_LO k) v).reg o := fun o ho => by
    rw [hw, State.reg_setFld_ne _ _ _ _ _ ho, State.reg_raise_ne _ _ _ _ ho, State.reg_setFld_ne _ _ _ _ _ ho]
  have hlo : R.TIME_TRIG_TS_LO k ≠ R.TIME_TRIG_STAT k ∧ R.TIME_TRIG_TS_LO k + 4 ≠ R.TIME_TRIG_STAT k := by
    unfold R.TIME_TRIG_TS_LO R.TIME_TRIG_STAT
    omega
  refine ⟨by simp [hw], ?_, ?_, ?_, ?_⟩
  · rw [State.reg64_congr (hts _ hlo.1) (hts _ hlo.2), State.reg64_setReg64 _ _ hv]
  · rw [hw, State.fld_setFld_disj _ _ _ _ _ (by decide) (by decide), State.raise,
      State.fld_setFld_disj _ _ _ _ _ (by decide) (by decide), State.fld_setFld _ _ _ _ (by decide)]
    exact Nat.mod_eq_of_lt hf
  · rw [hw, State.flag, State.fld_setFld_disj _ _ _ _ _ (by decide) (by decide), ← State.flag]
    exact State.flag_raise _ _ _ (by decide) (by decide)
  · rw [hw, State.flag_setFld _ _ _ _ (by decide)]
    cases c <;> rfl

theorem trigEdge_taken {s : State} {k : Nat} {falling : Bool} {frac : Nat} (hk : k < 8)
    (ho : s.flag (R.TIME_TRIG_CTL k) Fd.TIME_TRIG_CTL_OUT = false) (hs : s.trigSelects k falling = true) {a : Nat} {x : Int}
    (hl : NMap.get (fun _ => 0) s.time.trigLast k = 0 ∨
      NMap.get (fun _ => 0) s.time.trigLast k + 64 ≤ 16 * s.clk.now + frac + 1)
    (ha : a = (if s.clk.core && s.clk.aligned then 16 * s.clk.time + frac
      else 16 * (if s.clk.phRef = 0 && frac = 0 then s.clk.time else s.timeNextEdge)))
    (hx : x = Int.ofNat a - s.time.trimNow - Int.ofNat (s.fld (R.TIME_TRIG_CTL k) Fd.TIME_TRIG_CTL_DLY)) :
    (trigEdge k falling frac s).clk = s.clk ∧
      (trigEdge k falling frac s).reg64 (R.TIME_TRIG_TS_LO k) = lowBits 64 (x / 16) ∧
      (trigEdge k falling frac s).fld (R.TIME_TRIG_STAT k) Fd.TIME_TRIG_STAT_FRAC = lowBits 4 x ∧
      (trigEdge k falling frac s).flag (R.TIME_TRIG_STAT k) Fd.TIME_TRIG_STAT_NEW = true ∧
      (trigEdge k falling frac s).flag (R.TIME_TRIG_STAT k) Fd.TIME_TRIG_STAT_COARSE =
        !(s.clk.core && s.clk.aligned) := by
  obtain ⟨u, hu, up, pay, h⟩ := trigEdge_stamp ho hs hl ha hx
  obtain ⟨hclk, hts, hfr, hnew, hco⟩ := stamp_regs u k (!(s.clk.core && s.clk.aligned)) (lowBits_lt 64 (x / 16))
    (lowBits_lt 4 x) rfl
  rw [h]
  generalize State.setFld (State.raise _ _ _) _ _ _ = w at hclk hts hfr hnew hco ⊢
  have ht : w.Only [.ap, .fms, .tally, .outbox, .fabric] (((w.offer 24 srcDev 0x20 1
      (lowBits 64 (x / 16)) pay).startHit 2 k up).pulse (336 + k)) := by
    simp (maxDischargeDepth := 40) -implicitDefEqProofs
  have hreg : ∀ o : Nat, State.offerReg o = false → (((w.offer 24 srcDev 0x20 1 (lowBits 64 (x / 16))
      pay).startHit 2 k up).pulse (336 + k)).reg o = w.reg o := fun o hf => by
    rw [State.reg_pulse, (State.startHit_only (.refl _ _) (List.Subset.refl _) 2 k up).reg,
      State.reg_offer hf _ le_rfl]
  obtain ⟨h1, h2, h3⟩ : State.offerReg (R.TIME_TRIG_STAT k) = false ∧ State.offerReg (R.TIME_TRIG_TS_LO k) = false ∧
      State.offerReg (R.TIME_TRIG_TS_LO k + 4) = false := by
    simp only [State.offerReg_eq_false, R.TIME_TRIG_STAT, R.TIME_TRIG_TS_LO, R.TOP_IRQ_PEND, R.TOP_BREACH]
    omega
  generalize ((w.offer 24 srcDev 0x20 1 (lowBits 64 (x / 16)) pay).startHit 2 k up).pulse (336 + k) = t at ht hreg ⊢
  refine ⟨(State.Only.clk ht).trans (hclk.trans hu.clk), ?_, ?_, ?_, ?_⟩
  · rw [State.reg64_congr (hreg _ h2) (hreg _ h3), hts]
  · rw [State.fld_congr (hreg _ h1), hfr]
  · rw [State.flag_congr (hreg _ h1), hnew]
  · rw [State.flag_congr (hreg _ h1), hco]

/-! ### Scheduled edges of an output line -/

theorem erase_first_on_line {k : Nat} {e : TrigEdge} {before rest : List TrigEdge}
    (hb : (before.all fun x => x.line != k) = true) (hk : e.line = k) :
    (before ++ e :: rest).erase e = before ++ rest := by
  rw [List.erase_append_right, List.erase_cons_head]
  intro he
  have := List.all_eq_true.1 hb e he
  simp [hk] at this

theorem trigOutEdge_eq {k : Nat} {e : TrigEdge} {before rest : List TrigEdge} {s : State}
    (hq : s.time.trigQ = before ++ e :: rest) (hb : (before.all fun x => x.line != k) = true) (hk : e.line = k)
    (he : e.at16 < Int.ofNat (16 * (s.clk.time + 1))) :
    trigOutEdge k s =
      if s.flag (R.TIME_TRIG_CTL k) Fd.TIME_TRIG_CTL_OUT then
        ({ s with time := { s.time with
          trigQ := before ++ rest
          trigLevel := if e.level then setBit s.time.trigLevel k else clrBit s.time.trigLevel k } } : State).emit
            (.trig k e.at16 e.level)
      else { s with time := { s.time with trigQ := before ++ rest } } := by
  have hfind : s.time.trigQ.find? (fun e => e.line == k && decide (e.at16 < Int.ofNat (16 * (s.clk.time + 1)))) =
      some e := by
    rw [hq, List.find?_append, List.find?_eq_none.2, List.find?_cons_of_pos (by simpa [hk] using he)]
    · rfl
    · intro x hx
      have := List.all_eq_true.1 hb x hx
      simp_all
  unfold trigOutEdge
  rw [hfind]
  dsimp only
  rw [hq, erase_first_on_line hb hk]
  rfl

/-- Settles O18. -/
theorem trimsAndTriggers : Obligations.TrimsAndTriggers := by
  unfold Obligations.TrimsAndTriggers
  refine ⟨fun v s hp => completes_of_powered hp rfl ?_, fun j v s hp => completes_of_powered hp rfl ?_,
    fun k falling frac a x s hp ho hs h ha hx => completes_of_powered hp rfl ?_,
    fun k falling frac s hp ho hs h0 h => completes_of_powered hp rfl ?_,
    fun k falling frac s hp h => exec_of_powered hp rfl ?_,
    fun k e before rest s hp hq hb hk he => completes_of_powered hp rfl ?_,
    fun k s hp => ⟨fun h => completes_of_powered hp rfl ?_, fun h => exec_of_powered hp rfl ?_⟩⟩
  · unfold epochTrimWrite
    refine ⟨?_, State.flag_raise _ _ _ (by decide) (by decide), by simp⟩
    refine (State.fld_setFld_disj _ _ _ _ _ (by decide) (by decide)).trans ?_
    rw [State.fld_setFld _ _ _ _ (by decide)]
    exact Nat.mod_eq_of_lt (bitsOf_lt _ _ _)
  · unfold fdlyWrite
    refine ⟨?_, State.flag_raise _ _ _ (by decide) (by decide), by simp⟩
    refine (State.fld_setFld_disj _ _ _ _ _ (by decide) (by decide)).trans ?_
    rw [State.fld_setFld _ _ _ _ (by decide)]
    exact Nat.mod_eq_of_lt (bitsOf_lt _ _ _)
  · have ha' : a = (if s.clk.core && s.clk.aligned then 16 * s.clk.time + frac.val
        else 16 * (if s.clk.phRef = 0 && frac.val = 0 then s.clk.time else s.timeNextEdge)) := ha
    exact trigEdge_taken k.isLt ho hs h ha' hx
  · rw [trigEdge_close ho hs h0 h]
    refine ⟨rfl, State.flag_raise _ _ _ (by decide) (by decide), ?_⟩
    refine State.reg64_congr (State.reg_raise_ne _ _ _ _ ?_) (State.reg_raise_ne _ _ _ _ ?_) <;>
    · unfold R.TIME_TRIG_TS_LO R.TIME_TRIG_STAT
      omega
  · unfold trigEdge
    rw [if_pos (by simpa using h)]
  · rw [trigOutEdge_eq hq hb hk he]
    refine ⟨?_, fun h => ?_, fun h => ?_⟩
    · split <;> rfl
    · rw [if_pos h]
      refine ⟨rfl, ?_⟩
      cases hl : e.level
      · exact bitAt_clrBit_self _ _
      · exact bitAt_setBit_self _ _
    · rw [if_neg (by simp [h])]
      exact ⟨rfl, rfl⟩
  · rw [trigContend, if_pos h]
    exact State.flag_raise _ _ _ (by decide) (by decide)
  · rw [trigContend, if_neg (by simp [h])]

end Sys2Proof.Machine
end

section
/-! The host links and the Carter tree (O53). -/
namespace Sys2Proof.Machine

-- One proof at a time: elaborated side by side, the proofs of so long a text need too much memory.
set_option Elab.async false

/-! ### Link states -/

theorem State.carterPut_host (s : State) (p st : Nat) :
    (s.carterPut p st).host = { s.host with carter := (s.carterPut p st).host.carter } := by
  unfold State.carterPut
  split
  · rfl
  · rw [State.irq_host]

theorem State.carterPut_carter (s : State) (p st : Nat) : (s.carterPut p st).carter p = st := by
  unfold State.carterPut
  split
  · assumption
  · rw [State.carter, State.irq_host]
    exact NMap.get_set_self _ _ _ _

theorem State.carterPut_tally (s : State) (p st : Nat) : (s.carterPut p st).tally = s.tally :=
  (State.carterPut_only (.refl s [.ap, .host, .outbox]) (List.Subset.refl _) p st).tally

theorem State.reg_carterPut (s : State) (p st : Nat) {o : Nat} (h : o ≠ R.TOP_IRQ_PEND) :
    (s.carterPut p st).reg o = s.reg o := by
  unfold State.carterPut
  split
  · rfl
  · rw [State.reg_irq_ne _ _ h]
    rfl

/-! ### Announcements -/

section
variable {s : State} {port dev depth : Nat} (hp : port ≠ 0) (hc : s.carter port = 2)
  (hd : s.fld R.LINK_TREE Fd.LINK_TREE_DEPTH < depth)
include hp hc hd

theorem carterAnnounce_accepted (h4 : depth < 4)
    (h : s.host.devid ≠ 0 ∨ (dev ≠ 0 ∧ bitAt s.host.reach dev = false)) :
    carterAnnounce port dev depth s = { s with host := { s.host with
      reach := setBit s.host.reach dev
      below := NMap.set (fun _ => (0, 0)) s.host.below dev (port, depth) } } := by
  unfold carterAnnounce
  dsimp only
  rw [if_neg (by simp [hp, hc, hd]), if_neg (Nat.not_le.2 h4), if_neg]
  rcases h with h | ⟨h, h'⟩
  · simp [h]
  · simp [State.dupDevid, h, h']

theorem carterAnnounce_dup (h4 : depth < 4) (h0 : s.host.devid = 0)
    (h : dev = 0 ∨ bitAt s.host.reach dev = true) :
    carterAnnounce port dev depth s = s.refuseDev Fd.LINK_TREE_DUP_DEVID port dev
      (depth == s.fld R.LINK_TREE Fd.LINK_TREE_DEPTH + 1) := by
  unfold carterAnnounce
  dsimp only
  rw [if_neg (by simp [hp, hc, hd]), if_neg (Nat.not_le.2 h4), if_pos]
  simpa [State.dupDevid, h0] using h

theorem carterAnnounce_deep (h4 : 4 ≤ depth) :
    carterAnnounce port dev depth s =
      if depth == s.fld R.LINK_TREE Fd.LINK_TREE_DEPTH + 1 then s.refuseDev Fd.LINK_TREE_DEPTH_ERR port dev true
      else s.setFld R.LINK_TREE Fd.LINK_TREE_BAD_DEVID dev := by
  unfold carterAnnounce
  dsimp only
  rw [if_neg (by simp [hp, hc, hd]), if_pos h4]

end

/-- A refused announcement: its flag and device are shown, reachability stays, and the parent disables the link. -/
theorem State.refuseDev_shows (s : State) {f : Bits} (port : Nat) {dev : Nat} (parent : Bool) (hdev : dev < 2 ^ 6)
    (hf : f.lo + f.w ≤ 32) (hw : 0 < f.w)
    (hdis : f.lo + f.w ≤ Fd.LINK_TREE_BAD_DEVID.lo ∨ Fd.LINK_TREE_BAD_DEVID.lo + Fd.LINK_TREE_BAD_DEVID.w ≤ f.lo) :
    (s.refuseDev f port dev parent).host.reach = s.host.reach ∧
      (s.refuseDev f port dev parent).flag R.LINK_TREE f = true ∧
      (s.refuseDev f port dev parent).fld R.LINK_TREE Fd.LINK_TREE_BAD_DEVID = dev ∧
      (parent = true → (s.refuseDev f port dev parent).carter port = 3) := by
  obtain ⟨u, hu, hfl⟩ : ∃ u : State, (u = s.flagIrq R.LINK_TREE f 9) ∧ u.flag R.LINK_TREE f = true :=
    ⟨_, rfl, State.flag_flagIrq _ _ _ _ (by decide) hf hw⟩
  have hr : ∀ w : State, w = u.setFld R.LINK_TREE Fd.LINK_TREE_BAD_DEVID dev →
      w.host = s.host ∧ w.flag R.LINK_TREE f = true ∧ w.fld R.LINK_TREE Fd.LINK_TREE_BAD_DEVID = dev := by
    rintro w rfl
    refine ⟨?_, ?_, ?_⟩
    · rw [State.setFld_host, hu]
      exact State.flagIrq_host _ _ _ _
    · rw [State.flag, State.fld_setFld_disj _ _ _ _ _ hf hdis.symm]
      exact hfl
    · rw [State.fld_setFld _ _ _ _ (by decide)]
      exact Nat.mod_eq_of_lt hdev
  unfold State.refuseDev
  dsimp only
  rw [← hu]
  generalize u.setFld R.LINK_TREE Fd.LINK_TREE_BAD_DEVID dev = w at hr ⊢
  obtain ⟨h1, h2, h3⟩ := hr w rfl
  cases parent
  · exact ⟨by rw [← h1]; rfl, h2, h3, by simp⟩
  · have hreg := State.reg_carterPut w port 3 (o := R.LINK_TREE) (by decide)
    refine ⟨?_, (State.flag_congr hreg _).trans h2, (State.fld_congr hreg _).trans h3,
      fun _ => State.carterPut_carter _ _ _⟩
    rw [if_pos rfl, State.carterPut_host, h1]

/-! ### Links that come up and go down -/

theorem foldAll_emit (g : HostSt → Nat → Out) (xs : List Nat) (s : State) :
    foldAll (fun s k => s.emit (g s.host k)) s xs = { s with outbox := s.outbox ++ xs.map (g s.host) } := by
  unfold foldAll
  induction xs generalizing s with
  | nil => simp
  | cons x xs ih =>
    rw [List.foldl_cons, ih]
    simp [State.emit]

theorem State.resend_eq (s : State) :
    s.resend = { s with outbox := s.outbox ++ (bitsSet 32 (s.fld R.TOP_IRQ_PEND Fd.TOP_IRQ_PEND_BITS &&&
      s.fld R.TOP_IRQ_ROUTE_HOST Fd.TOP_IRQ_ROUTE_HOST_BITS)).map fun k => .msix (32 * s.host.devid + k) } :=
  foldAll_emit (fun (h : HostSt) k => .msix (32 * h.devid + k)) _ s

theorem State.fbit_irq_of (s : State) (j : Nat) {k : Nat} (hk : k < 32)
    (h : s.fbit R.TOP_IRQ_PEND Fd.TOP_IRQ_PEND_BITS k = true) :
    (s.irq j).fbit R.TOP_IRQ_PEND Fd.TOP_IRQ_PEND_BITS k = true := by
  by_cases hj : s.fbit R.TOP_IRQ_PEND Fd.TOP_IRQ_PEND_BITS j = true
  · rw [State.fbit_congr (s := s) (by rw [State.reg_irq, if_pos hj]), h]
  · rw [State.fbit_congr (s := s.orFld R.TOP_IRQ_PEND Fd.TOP_IRQ_PEND_BITS (2 ^ j)) (by rw [State.reg_irq, if_neg hj]),
      State.fbit_orFld _ _ _ _ _ (by decide) hk, h, Bool.true_or]

theorem State.fbit_carterPut_of (s : State) (p st : Nat) {k : Nat} (hk : k < 32)
    (h : s.fbit R.TOP_IRQ_PEND Fd.TOP_IRQ_PEND_BITS k = true) :
    (s.carterPut p st).fbit R.TOP_IRQ_PEND Fd.TOP_IRQ_PEND_BITS k = true := by
  unfold State.carterPut
  split
  · exact h
  · exact State.fbit_irq_of _ _ hk h

theorem State.resend_mem (s : State) {k : Nat} (hk : k < 32)
    (hp : s.fbit R.TOP_IRQ_PEND Fd.TOP_IRQ_PEND_BITS k = true)
    (hr : s.fbit R.TOP_IRQ_ROUTE_HOST Fd.TOP_IRQ_ROUTE_HOST_BITS k = true) :
    .msix (32 * s.host.devid + k) ∈ s.resend.outbox := by
  have hb : bitAt (s.fld R.TOP_IRQ_PEND Fd.TOP_IRQ_PEND_BITS &&&
      s.fld R.TOP_IRQ_ROUTE_HOST Fd.TOP_IRQ_ROUTE_HOST_BITS) k = true := by
    rw [bitAt_eq_testBit, Nat.testBit_and, ← bitAt_eq_testBit, ← bitAt_eq_testBit]
    exact Bool.and_eq_true_iff.2 ⟨hp, hr⟩
  rw [State.resend_eq]
  refine List.mem_append_right _ (List.mem_map.2 ⟨k, ?_, rfl⟩)
  simp [bitsSet, pick, hk, hb]

theorem carterLinkDown_eq {s : State} {port : Nat} (hm : s.mode.linked = true) (hc : 2 ≤ s.carter port) :
    carterLinkDown port s =
      let s := (s.carterPut port 1).raise (R.LINK_CARTER port) Fd.LINK_CARTER_WENT_DOWN
      if port = 0 then { s with tally := { s.tally with paused := true } }
      else
        let gone := (s.host.below.filter fun e => e.2.1 == port).map (·.1)
        { s with host := { s.host with
          reach := gone.foldl clrBit s.host.reach
          below := NMap.erase (fun d => gone.contains d) s.host.below } } := by
  have h0 : s.carter port ≠ 0 := by omega
  have h1 : s.carter port ≠ 1 := by omega
  unfold carterLinkDown
  rw [if_neg (by simp [h0, h1, hm])]

/-- What the up port writes when it comes up: a depth of 1 to 3 and its parent. -/
def State.upTree (s : State) : State :=
  (s.free.2.setFld R.LINK_TREE Fd.LINK_TREE_DEPTH (1 + s.free.1.toNat % 3)).setFld R.LINK_TREE
    Fd.LINK_TREE_PARENT (s.free.1.toNat / 4)

theorem State.upTree_depth (s : State) : 1 ≤ s.upTree.fld R.LINK_TREE Fd.LINK_TREE_DEPTH := by
  unfold State.upTree
  rw [State.fld_setFld_disj _ _ _ _ _ (by decide) (by decide), State.fld_setFld _ _ _ _ (by decide)]
  have : 1 + s.free.1.toNat % 3 < 2 ^ Fd.LINK_TREE_DEPTH.w := by
    show _ < 4
    omega
  rw [Nat.mod_eq_of_lt this]
  exact Nat.le_add_right _ _

theorem State.reg_upTree (s : State) {o : Nat} (h : o ≠ R.LINK_TREE) : s.upTree.reg o = s.reg o := by
  unfold State.upTree
  rw [State.reg_setFld_ne _ _ _ _ _ h, State.reg_setFld_ne _ _ _ _ _ h]
  rfl

theorem State.upTree_host (s : State) : s.upTree.host = s.host := by
  unfold State.upTree
  rw [State.setFld_host, State.setFld_host]
  rfl

theorem carterLinkUp_eq {s : State} {port : Nat} (hm : s.mode.linked = true) (hc : s.carter port < 2)
    (h : port ≠ 0 ∨ s.host.devid ≠ 0) : carterLinkUp port s =
      let s := s.carterPut port 2
      if port = 0 then
        ({ s.upTree with tally := { s.upTree.tally with paused := false } } : State).resend
      else s := by
  unfold carterLinkUp
  rw [if_neg (by rcases h with h | h <;> simp [hc, hm, h])]
  rfl

/-- Settles O53. -/
theorem hostLinks : Obligations.HostLinks := by
  unfold Obligations.HostLinks
  refine ⟨fun s hp => completes_of_powered hp rfl ?_,
    fun s hp => ⟨fun hm hd => completes_of_powered hp rfl ?_, fun h => exec_of_powered hp rfl ?_⟩,
    fun port dev depth s hp h => exec_of_powered hp rfl ?_,
    fun port dev depth s hp hp0 hc hd => completes_of_powered hp rfl ⟨fun h4 h => ?_, fun h4 h0 h => ?_, fun h4 => ?_⟩,
    fun port s hp h => exec_of_powered hp rfl ?_,
    fun port s hp hm hc => completes_of_powered hp rfl ?_,
    fun port s hp h => exec_of_powered hp rfl ?_,
    fun port s hp hm hc h => completes_of_powered hp rfl ?_,
    fun port s hp => ⟨fun h => completes_of_powered hp rfl ?_, fun h => exec_of_powered hp rfl ?_⟩⟩
  · unfold pcieReset
    refine ⟨State.flag_clear _ _ _ (by decide), fun o ho => State.reg_clear_ne _ _ _ _ ho, ?_, ?_⟩
    · exact State.fld_setFld_disj _ _ _ _ _ (by decide) (by decide)
    · simp
  · unfold pcieLinkUp
    rw [if_pos (by simp [hm, hd])]
    exact ⟨rfl, rfl⟩
  · unfold pcieLinkUp
    rw [if_neg (by rcases h with h | h <;> simp [h])]
  · unfold carterAnnounce
    dsimp only
    rw [if_pos (by simpa [or_assoc] using h)]
  · rw [carterAnnounce_accepted hp0 hc hd h4 h]
    exact ⟨bitAt_setBit_self _ _, fun d h => bitAt_setBit_ne _ h, rfl, rfl⟩
  · rw [carterAnnounce_dup hp0 hc hd h4 h0 h]
    obtain ⟨h1, h2, h3, h4⟩ := State.refuseDev_shows s (f := Fd.LINK_TREE_DUP_DEVID) port.val
      (depth.val == s.fld R.LINK_TREE Fd.LINK_TREE_DEPTH + 1) dev.isLt (by decide) (by decide) (by decide)
    exact ⟨h1, h2, h3, fun h => h4 (by simpa using h)⟩
  · rw [carterAnnounce_deep hp0 hc hd h4.ge]
    obtain ⟨h1, h2, h3, h5⟩ := State.refuseDev_shows s (f := Fd.LINK_TREE_DEPTH_ERR) port.val true dev.isLt
      (by decide) (by decide) (by decide)
    split
    · exact ⟨h1, h3, fun _ => ⟨h2, h5 rfl⟩⟩
    · next hn =>
      refine ⟨by rw [State.setFld_host], ?_, fun h => absurd ?_ hn⟩
      · rw [State.fld_setFld _ _ _ _ (by decide)]
        exact Nat.mod_eq_of_lt dev.isLt
      · simp [h4, h]
  · unfold carterLinkDown
    rw [if_pos]
    rcases h with h | h
    · simp [h]
    · obtain h | h : s.carter port = 0 ∨ s.carter port = 1 := by omega
      all_goals simp [h]
  · rw [carterLinkDown_eq hm hc]
    dsimp only
    obtain ⟨u, hu⟩ : ∃ u : State, u = (s.carterPut port 1).raise (R.LINK_CARTER port) Fd.LINK_CARTER_WENT_DOWN := ⟨_, rfl⟩
    rw [← hu]
    have hh : u.host = (s.carterPut port 1).host := by rw [hu, State.raise_host]
    have hcar : u.carter port = 1 := by rw [State.carter, hh, ← State.carter, State.carterPut_carter]
    have hw : u.flag (R.LINK_CARTER port) Fd.LINK_CARTER_WENT_DOWN = true := by
      rw [hu]
      exact State.flag_raise _ _ _ (by decide) (by decide)
    have ht : u.tally = s.tally := by rw [hu, State.raise_tally, State.carterPut_tally]
    rw [State.carterPut_host] at hh
    have hr : u.host.reach = s.host.reach := by rw [hh]
    have hbel : u.host.below = s.host.below := by rw [hh]
    clear hu
    split
    · next h0 => exact ⟨hcar, hw, fun _ => ⟨rfl, hr⟩, fun h => absurd h0 h⟩
    · next h0 =>
      refine ⟨hcar, hw, fun h => absurd h h0, fun _ => ⟨ht, fun d k hd => ?_, fun d hd => ?_⟩⟩
      · dsimp only
        rw [bitAt_foldl_clrBit, hbel, hr]
        have : d ∈ (s.host.below.filter fun e => e.2.1 == port.val).map (·.1) :=
          List.mem_map.2 ⟨_, List.mem_filter.2 ⟨hd, by simp⟩, rfl⟩
        simp [this]
      · dsimp only
        rw [bitAt_foldl_clrBit, hbel, hr]
        have : d ∉ (s.host.below.filter fun e => e.2.1 == port.val).map (·.1) := by
          rintro h
          obtain ⟨⟨a, p, k⟩, he, rfl⟩ := List.mem_map.1 h
          obtain ⟨he, hp⟩ := List.mem_filter.1 he
          obtain rfl : p = port.val := by simpa using hp
          exact hd k he
        simp [this]
  · unfold carterLinkUp
    rw [if_pos (by simpa [or_assoc, or_left_comm] using h)]
  · rw [carterLinkUp_eq hm hc h]
    dsimp only
    obtain ⟨u, hu⟩ : ∃ u : State, u = s.carterPut port 2 := ⟨_, rfl⟩
    rw [← hu]
    have hcar : u.carter port = 2 := by rw [hu, State.carterPut_carter]
    have ht : u.tally = s.tally := by rw [hu, State.carterPut_tally]
    have hdev : u.host.devid = s.host.devid := by rw [hu, State.carterPut_host]
    have hpend : ∀ k < 32, s.fbit R.TOP_IRQ_PEND Fd.TOP_IRQ_PEND_BITS k = true →
        u.fbit R.TOP_IRQ_PEND Fd.TOP_IRQ_PEND_BITS k = true := fun k hk h => by
      rw [hu]
      exact State.fbit_carterPut_of s _ _ hk h
    have hroute : u.reg R.TOP_IRQ_ROUTE_HOST = s.reg R.TOP_IRQ_ROUTE_HOST := by
      rw [hu, State.reg_carterPut _ _ _ (by decide)]
    clear hu
    split
    · next h0 =>
      have hd := u.upTree_depth
      have hh := u.upTree_host
      have hreg := fun o => u.reg_upTree (o := o)
      generalize u.upTree = v at hd hh hreg
      refine ⟨?_, fun h => absurd h0 h, fun _ => ⟨?_, ?_, fun k hk hp hr => ?_⟩⟩
      · rw [State.resend_eq]
        exact (congrArg (fun h : HostSt => NMap.get (fun _ => 0) h.carter port) hh).trans hcar
      · rw [State.resend_eq]
      · rw [State.resend_eq]
        exact hd
      · have := State.resend_mem { v with tally := { v.tally with paused := false } } hk
          ((State.fbit_congr (hreg _ (by decide)) _ _).trans (hpend k hk hp)) ((State.fbit_congr ((hreg _ (by decide)).trans hroute) _ _).trans hr)
        rwa [← hdev, ← hh]
    · next h0 => exact ⟨hcar, fun _ => ht, fun h => absurd h h0⟩
  · unfold carterFrameError
    rw [if_pos h]
    refine ⟨State.fld_satAdd _ _ _ _ (by decide), ?_, fun o ho => State.reg_satAdd_ne _ _ _ _ _ ho⟩
    simp [State.satAdd]
  · unfold carterFrameError
    rw [if_neg h]

end Sys2Proof.Machine
end

section
/-! Porter's commands start (O55). -/
namespace Sys2Proof.Machine

-- One proof at a time: elaborated side by side, the proofs of so long a text need too much memory.
set_option Elab.async false

theorem State.porterStart_starts {s : State} (hu : s.porterUp = true) (hj : s.host.job = none) (j : PorterJob) :
    s.porterStart j = { s with host := { s.host with job := some j } } := by
  simp [State.porterStart, hu, hj]

theorem State.porterStart_job {s : State} (hu : s.porterUp = true) (hj : s.host.job = none) (j : PorterJob) :
    (s.porterStart j).host.job = some j ∧ (s.porterStart j).ap = s.ap := by
  rw [State.porterStart_starts hu hj]
  exact ⟨rfl, rfl⟩

theorem State.porterStart_busy {s : State} (hu : s.porterUp = true) (hj : s.host.job.isSome = true) (j : PorterJob) :
    s.porterStart j = s.setFld R.PORTER_STATUS Fd.PORTER_STATUS_RESULT 1 := by
  simp [State.porterStart, hu, hj]

theorem State.porterStart_down {s : State} (hu : s.porterUp = false) (j : PorterJob) : s.porterStart j = s := by
  simp [State.porterStart, hu]

theorem lcToken_unaccepted {s : State} {k : Token}
    (h : tokenResult s.host.otp k ≠ 0 ∨ s.porterUp = false ∨ s.host.job.isSome = true) :
    lcToken k s = s.porterStart (.lcToken (tokenResult s.host.otp k) (lifeOf k.target) 0 false) := by
  unfold lcToken
  dsimp only
  rw [if_neg]
  rcases h with h | h | h
  · simp [h]
  · simp [h]
  · simp [Option.isSome_iff_ne_none.1 h]

theorem lcToken_accepted {s : State} {k : Token} (h : tokenResult s.host.otp k = 0) (hu : s.porterUp = true)
    (hj : s.host.job = none) :
    lcToken k s = (s.commit (.lifecycle true k.target) []).porterStart
      (.lcToken 0 (lifeOf k.target) k.ownerHash.toNat k.patternKey) := by
  unfold lcToken
  dsimp only
  rw [if_pos (by simp [h, hu, hj])]

/-- While Porter is not free, each of its commands is a start that is not made. -/
theorem exec_porter_command {c : Instr} {q : Word} {p : FwPart} {k : Token} {s : State} (hp : s.powered = true)
    (h : s.porterUp = false ∨ s.host.job.isSome = true)
    (hc : c ∈ [.ident, .ledgerKey, .provKey, .ledgerRead q, .fwWrite p, .lcToken k]) :
    ∃ j, exec c s = .next (s.porterStart j) := by
  simp only [List.mem_cons, List.not_mem_nil, or_false] at hc
  rcases hc with rfl | rfl | rfl | rfl | rfl | rfl
  · exact ⟨_, exec_of_powered hp rfl rfl⟩
  · exact ⟨_, exec_of_powered hp rfl rfl⟩
  · exact ⟨_, exec_of_powered hp rfl rfl⟩
  · exact ⟨_, exec_of_powered hp rfl rfl⟩
  · exact ⟨_, exec_of_powered hp rfl rfl⟩
  · exact ⟨_, exec_of_powered hp rfl (lcToken_unaccepted (.inr h))⟩

/-! ### The token -/

/-- What R461 asks of a token besides its signature's key. -/
def Otp.knows (o : Otp) (t : Token) : Prop :=
  t.magicOk = true ∧ t.serial.toNat = o.serial ∧ t.ownCnt.val = o.ownCnt ∧
    lifeAllowed (lifeCycle o) (lifeOf t.target) t.signer = true

theorem tokenResult_refused {o : Otp} {t : Token} (h : t.magicOk = false ∨ t.serial.toNat ≠ o.serial ∨
    t.ownCnt.val ≠ o.ownCnt ∨ lifeAllowed (lifeCycle o) (lifeOf t.target) t.signer = false) : tokenResult o t = 2 := by
  unfold tokenResult
  dsimp only
  rw [if_pos]
  rcases h with h | h | h | h <;> simp [h]

theorem tokenResult_known {o : Otp} {t : Token} (h : o.knows t) :
    tokenResult o t = if lifeOf t.target == .owned && o.ownCnt == 15 then 3 else 0 := by
  obtain ⟨h1, h2, h3, h4⟩ := h
  unfold tokenResult
  dsimp only
  rw [if_neg (by simp [h1, h2, h3, h4])]

theorem lifeOf_owned (i : Fin 5) : (lifeOf i == .owned) = (i.val == 2) := by
  revert i
  decide

/-- Settles O55. -/
theorem porterStarts : Obligations.PorterStarts := by
  unfold Obligations.PorterStarts
  refine ⟨fun q p s hp hu hj => ⟨?_, ?_, ?_, ?_, ?_⟩, fun c q p k s hp hu hj hc => ?_,
    fun c q p k s hp hu hc => ?_, fun k s hp hu hj => completes_of_powered hp rfl ?_, fun k a => ?_⟩
  · exact completes_of_powered hp rfl (State.porterStart_job hu hj _)
  · exact completes_of_powered hp rfl (State.porterStart_job hu hj _)
  · exact completes_of_powered hp rfl (State.porterStart_job hu hj _)
  · exact completes_of_powered hp rfl (State.porterStart_job hu hj _)
  · exact completes_of_powered hp rfl (by rw [fwWrite, State.porterStart_starts hu hj]; exact ⟨rfl, rfl, rfl⟩)
  · obtain ⟨j, h⟩ := exec_porter_command hp (.inr hj) hc
    refine ⟨_, h, ?_⟩
    rw [State.porterStart_busy hu hj]
    exact ⟨State.setFld_host _ _ _ _, State.fld_setFld _ _ _ _ (by decide), fun o ho => State.reg_setFld_ne _ _ _ _ _ ho⟩
  · obtain ⟨j, h⟩ := exec_porter_command hp (.inl hu) hc
    rw [h, State.porterStart_down hu]
  · refine ⟨?_, ?_, fun h => ?_, fun h1 h2 h3 h4 => ?_⟩
    · by_cases hr : tokenResult s.host.otp k = 0
      · have hu' : (s.commit (.lifecycle true k.target) []).porterUp = true := hu
        rw [lcToken_accepted hr hu hj, State.porterStart_starts hu' hj]
        rfl
      · rw [lcToken_unaccepted (.inl hr), State.porterStart_starts hu hj]
    · exact (lcToken_only (.refl s [.ap, .host]) (List.Subset.refl _) k).mode
    · have hr := tokenResult_refused h
      rw [lcToken_unaccepted (.inl (by rw [hr]; decide)), State.porterStart_starts hu hj, hr]
      exact ⟨rfl, rfl⟩
    · have hr := tokenResult_known (o := s.host.otp) (t := k) ⟨h1, h2, h3, h4⟩
      rw [lifeOf_owned] at hr
      refine ⟨fun ht ho => ?_, fun h => ?_⟩
      · rw [if_pos (by simp [ht, ho])] at hr
        rw [lcToken_unaccepted (.inl (by rw [hr]; decide)), State.porterStart_starts hu hj, hr]
        exact ⟨rfl, rfl⟩
      · rw [if_neg (by simpa using h)] at hr
        have hu' : (s.commit (.lifecycle true k.target) []).porterUp = true := hu
        rw [lcToken_accepted hr hu hj, State.porterStart_starts hu' hj]
        exact ⟨rfl, _, rfl, rfl, rfl⟩
  · cases k <;> cases a <;> decide

end Sys2Proof.Machine
end

section
/-! Application cores, their watchdog and the management port (O54). -/
namespace Sys2Proof.Machine

-- One proof at a time: elaborated side by side, the proofs of so long a text need too much memory.
set_option Elab.async false

/-! ### The image that the cores boot -/

theorem State.coreImageOf_verified {s : State} {a b k : Signer} (hf : s.host.customFlash = true)
    (hk : (lifeCycle s.host.otp, k) ∈
      [(LifeCycle.owned, Signer.owner), (.vendor, .henileo), (.returned, .henileo)]) (h : a = k ∨ b = k) :
    s.coreImageOf a b = some (decide (a ≠ k)) := by
  have hi : imageKey s.host.otp = some k := by
    unfold imageKey
    simp only [List.mem_cons, Prod.mk.injEq, List.not_mem_nil, or_false] at hk
    rcases hk with ⟨hl, rfl⟩ | ⟨hl, rfl⟩ | ⟨hl, rfl⟩ <;> rw [hl]
  unfold State.coreImageOf
  rw [hi]
  by_cases ha : a = k
  · simp [hf, ha]
  · simp [hf, ha, h.resolve_left ha]

theorem State.coreImageOf_none {s : State} {a b : Signer} (h : s.host.customFlash = false ∨
    lifeCycle s.host.otp ∈ [LifeCycle.blank, .scrapped] ∨ lifeCycle s.host.otp = .owned ∧ a ≠ .owner ∧ b ≠ .owner ∨
      lifeCycle s.host.otp ∈ [LifeCycle.vendor, .returned] ∧ a ≠ .henileo ∧ b ≠ .henileo) :
    s.coreImageOf a b = none := by
  unfold State.coreImageOf imageKey
  simp only [List.mem_cons, List.not_mem_nil, or_false] at h
  rcases h with h | (h | h) | ⟨h, ha, hb⟩ | ⟨h | h, ha, hb⟩
  · simp [h]
  · simp [h]
  · simp [h]
  · simp [h, ha, hb]
  · simp [h, ha, hb]
  · simp [h, ha, hb]

theorem State.wdogArm_host (s : State) : s.wdogArm.host = { s.host with
    wdogDue := if s.wdogTicks != 0 && bitAt s.host.coresRun 0 then s.clk.now + s.wdogTicks else 0 } := rfl

theorem State.wdogTicks_zero {s : State} : s.wdogTicks = 0 ↔ s.fld R.TOP_CORE_CTL Fd.TOP_CORE_CTL_WDOG = 0 := by
  unfold State.wdogTicks
  omega

section
variable {s : State} (hc : s.mode.hasCores = true) (hh : s.coresHeld = false) (hr : s.host.coresRun = 0)
include hc hh hr

theorem coreImageLoaded_eq (a b : Signer) : coreImageLoaded a b s =
    match s.coreImageOf a b with
    | some b =>
      ({ (s.clear R.TOP_CORE_STATUS Fd.TOP_CORE_STATUS_NO_IMAGE).setFld R.TOP_CORE_STATUS
          Fd.TOP_CORE_STATUS_IMAGE_B (bit b) with
        host := { s.host with coreImage := true, coresRun := 1, mgmtPorter := false } } : State).wdogArm
    | none =>
      { s.raise R.TOP_CORE_STATUS Fd.TOP_CORE_STATUS_NO_IMAGE with host := { s.host with mgmtPorter := true } } := by
  unfold coreImageLoaded
  rw [if_neg (by simp [hc, hh, hr])]
  rfl

end

/-- Holding the cores stops them all, with no register changed but HOLD. -/
theorem State.coresHold_shows (s : State) :
    (coreHold s).coresHeld = true ∧ (coreHold s).host.coresRun = 0 ∧ (coreHold s).host.wdogDue = 0 ∧
      (coreHold s).mode = s.mode ∧ ∀ o, o ≠ R.TOP_CORE_CTL → (coreHold s).reg o = s.reg o := by
  have hf := State.flag_raise s R.TOP_CORE_CTL Fd.TOP_CORE_CTL_HOLD (by decide) (by decide)
  have hm := State.raise_mode s R.TOP_CORE_CTL Fd.TOP_CORE_CTL_HOLD
  have hr := fun o => State.reg_raise_ne s R.TOP_CORE_CTL o Fd.TOP_CORE_CTL_HOLD
  unfold coreHold
  generalize s.raise R.TOP_CORE_CTL Fd.TOP_CORE_CTL_HOLD = u at hf hm hr ⊢
  exact ⟨hf, rfl, rfl, hm, hr⟩

theorem watchdogFired_eq {s : State} (h0 : s.host.wdogDue ≠ 0) (hd : s.host.wdogDue ≤ s.clk.now) :
    ∃ u : State, u = ((coreHold s).raise R.TOP_CORE_STATUS Fd.TOP_CORE_STATUS_WDOG_FIRED).irq 8 ∧
      watchdogFired s = { u with host := { u.host with mgmtPorter := true } } := by
  unfold watchdogFired
  rw [if_pos (by simp [h0, hd])]
  exact ⟨_, rfl, rfl⟩

theorem mgmtPacket_eq {s : State} {code : Nat} (hm : s.host.mgmtPorter = true) (h0 : code ≠ 0) (h6 : code ≤ 6) :
    mgmtPacket code s =
      match (generalizing := false) code with
      | 1 => (s.emit (.mgmt code)).porterStart .ident
      | 3 => (s.emit (.mgmt code)).porterStart .ledgerKey
      | 6 => (s.emit (.mgmt code)).porterStart .provKey
      | _ => s.emit (.mgmt code) := by
  unfold mgmtPacket
  exact if_neg (by simp [hm, h0, Nat.not_lt.2 h6])

/-- A command whose start Porter is asked for while it serves the port. -/
theorem State.porterStart_served {s : State} (hm : s.host.mgmtPorter = true) (j : PorterJob) :
    (s.porterStart j).outbox = s.outbox ∧ (s.porterStart j).mode = s.mode ∧
      (s.host.job = none → (s.porterStart j).host.job = some j) ∧
      (s.host.job.isSome = true → (s.porterStart j).host.job = s.host.job ∧
        (s.porterStart j).fld R.PORTER_STATUS Fd.PORTER_STATUS_RESULT = 1) := by
  have hu : s.porterUp = true := by simp [State.porterUp, hm]
  have ho := State.porterStart_only (.refl s _) (List.Subset.refl _) j
  refine ⟨ho.outbox, ho.mode, fun h => (State.porterStart_job hu h j).1, fun h => ?_⟩
  rw [State.porterStart_busy hu h]
  exact ⟨by rw [State.setFld_host], State.fld_setFld _ _ _ _ (by decide)⟩

/-- Settles O54. -/
theorem coreCommands : Obligations.CoreCommands := by
  unfold Obligations.CoreCommands
  refine ⟨fun a b k s hp hc hh hr hf hk h => completes_of_powered hp rfl ?_,
    fun a b s hp hc hh hr h => completes_of_powered hp rfl ?_, fun a b s hp h => exec_of_powered hp rfl ?_,
    fun s hp => completes_of_powered hp rfl ?_, fun s hp => completes_of_powered hp rfl ?_,
    fun s hp => completes_of_powered hp rfl ?_, fun s hp h0 hd => completes_of_powered hp rfl ?_,
    fun s hp h => exec_of_powered hp rfl ?_, fun c s hp h => exec_of_powered hp rfl ?_,
    fun c j s hp hm h0 h6 => completes_of_powered hp rfl ?_⟩
  · dsimp only
    rw [coreImageLoaded_eq hc hh hr, State.coreImageOf_verified hf hk h]
    dsimp only
    obtain ⟨u, hu⟩ : ∃ u : State, u = (s.clear R.TOP_CORE_STATUS Fd.TOP_CORE_STATUS_NO_IMAGE).setFld R.TOP_CORE_STATUS
      Fd.TOP_CORE_STATUS_IMAGE_B (bit (decide (a ≠ k))) := ⟨_, rfl⟩
    have hclk : u.clk = s.clk := by rw [hu, State.setFld_clk, State.clear_clk]
    have hmode : u.mode = s.mode := by rw [hu, State.setFld_mode, State.clear_mode]
    have hno : u.flag R.TOP_CORE_STATUS Fd.TOP_CORE_STATUS_NO_IMAGE = false := by
      rw [hu, State.flag, State.fld_setFld_disj _ _ _ _ _ (by decide) (by decide)]
      exact State.flag_clear _ _ _ (by decide)
    have hb : u.flag R.TOP_CORE_STATUS Fd.TOP_CORE_STATUS_IMAGE_B = decide (a ≠ k) := by
      rw [hu, State.flag_setFld _ _ _ _ (by decide)]
      cases decide (a ≠ k) <;> rfl
    have hwd : u.fld R.TOP_CORE_CTL Fd.TOP_CORE_CTL_WDOG = s.fld R.TOP_CORE_CTL Fd.TOP_CORE_CTL_WDOG := by
      refine State.fld_congr ?_ _
      rw [hu, State.reg_setFld_ne _ _ _ _ _ (by decide), State.reg_clear_ne _ _ _ _ (by decide)]
    rw [← hu]
    clear hu
    have hw : ∀ h : HostSt, ({ u with host := h } : State).wdogTicks = s.wdogTicks := fun h =>
      congrArg (30000000 * ·) hwd
    refine ⟨rfl, rfl, rfl, hno, ?_, hmode, fun h => ?_, fun h => ?_⟩
    · exact (Bool.eq_iff_iff.1 hb).trans (decide_eq_true_iff)
    · rw [State.wdogArm_host, hw]
      have := State.wdogTicks_zero.not.2 h
      simp [this, hclk, bitAt]
      rfl
    · rw [State.wdogArm_host, hw, State.wdogTicks_zero.2 h]
      rfl
  · dsimp only
    rw [coreImageLoaded_eq hc hh hr, State.coreImageOf_none h]
    have hf := State.flag_raise s R.TOP_CORE_STATUS Fd.TOP_CORE_STATUS_NO_IMAGE (by decide) (by decide)
    have hm := State.raise_mode s R.TOP_CORE_STATUS Fd.TOP_CORE_STATUS_NO_IMAGE
    generalize s.raise R.TOP_CORE_STATUS Fd.TOP_CORE_STATUS_NO_IMAGE = u at hf hm
    exact ⟨hr, rfl, hf, hm⟩
  · unfold coreImageLoaded
    rw [if_pos (by simpa [or_assoc] using h)]
  · exact s.coresHold_shows
  · unfold coreRelease
    exact ⟨State.flag_clear _ _ _ (by decide), State.clear_host _ _ _, fun o ho => State.reg_clear_ne _ _ _ _ ho⟩
  · refine ⟨rfl, rfl, fun h1 h2 => ?_, fun h => ?_⟩
    · have : s.wdogTicks ≠ 0 := State.wdogTicks_zero.not.2 h2
      rw [watchdogKick, State.wdogArm_host]
      simp [h1, this]
      rfl
    · rw [watchdogKick, State.wdogArm_host]
      rcases h with h | h
      · simp [h]
      · simp [State.wdogTicks_zero.2 h]
  · obtain ⟨u, hu, he⟩ := watchdogFired_eq h0 hd
    obtain ⟨h1, h2, h3, h4, -⟩ := s.coresHold_shows
    have hf := State.flag_raise (coreHold s) R.TOP_CORE_STATUS Fd.TOP_CORE_STATUS_WDOG_FIRED (by decide) (by decide)
    have hm := State.raise_mode (coreHold s) R.TOP_CORE_STATUS Fd.TOP_CORE_STATUS_WDOG_FIRED
    have hh := State.raise_host (coreHold s) R.TOP_CORE_STATUS Fd.TOP_CORE_STATUS_WDOG_FIRED
    have hr := State.reg_raise_ne (coreHold s) R.TOP_CORE_STATUS R.TOP_CORE_CTL Fd.TOP_CORE_STATUS_WDOG_FIRED (by decide)
    generalize (coreHold s).raise R.TOP_CORE_STATUS Fd.TOP_CORE_STATUS_WDOG_FIRED = v at hu hf hm hh hr
    have huh : u.host = v.host := by rw [hu, State.irq_host]
    have hum : u.mode = v.mode := by
      rw [hu]
      exact (State.irq_only (.refl v [.ap, .outbox]) (List.Subset.refl _) 8).mode
    have hur : ∀ o, o ≠ R.TOP_IRQ_PEND → u.reg o = v.reg o := fun o ho => by rw [hu, State.reg_irq_ne _ _ ho]
    have hup : u.fbit R.TOP_IRQ_PEND Fd.TOP_IRQ_PEND_BITS 8 = true := by
      rw [hu]
      exact State.fbit_irq _ (by decide)
    clear hu
    rw [he]
    refine ⟨?_, ?_, ?_, rfl, ?_, hup, ?_⟩
    · exact (State.flag_congr ((hur _ (by decide)).trans hr) _).trans h1
    · rw [huh, hh, h2]
    · rw [huh, hh, h3]
    · exact (State.flag_congr (hur _ (by decide)) _).trans hf
    · exact hum.trans (hm.trans h4)
  · unfold watchdogFired
    rw [if_neg]
    rcases h with h | h
    · simp [h]
    · simp [Nat.not_le.2 h]
  · unfold mgmtPacket
    rw [if_pos]
    rcases h with h | rfl | h
    · simp [h]
    · simp
    · simp [h]
  · have h0' : c.toNat ≠ 0 := fun h => h0 (BitVec.eq_of_toNat_eq h)
    rw [mgmtPacket_eq hm h0' h6]
    have hs := fun j => State.porterStart_served (s := s.emit (.mgmt c.toNat)) hm j
    generalize c.toNat = n at h0' h6 hs
    refine ⟨?_, ?_, fun hj => ?_, fun hn => ?_⟩
    · split
      · exact (hs _).1
      · exact (hs _).1
      · exact (hs _).1
      · rfl
    · split
      · exact (hs _).2.1
      · exact (hs _).2.1
      · exact (hs _).2.1
      · rfl
    · simp only [List.mem_cons, Prod.mk.injEq, List.not_mem_nil, or_false] at hj
      rcases hj with ⟨rfl, rfl⟩ | ⟨rfl, rfl⟩ | ⟨rfl, rfl⟩
      · exact (hs _).2.2
      · exact (hs _).2.2
      · exact (hs _).2.2
    · simp only [List.mem_cons, List.not_mem_nil, or_false] at hn
      rcases hn with rfl | rfl | rfl
      · exact ⟨rfl, rfl⟩
      · exact ⟨rfl, rfl⟩
      · exact ⟨rfl, rfl⟩

end Sys2Proof.Machine
end

section
/-! Porter's commands complete (O56). -/
namespace Sys2Proof.Machine

-- One proof at a time: elaborated side by side, the proofs of so long a text need too much memory.
set_option Elab.async false

/-! ### The end of a command -/

namespace State

theorem porterEnd_host (s : State) (r n : Nat) : (s.porterEnd r n).host = { s.host with job := none } := by
  unfold porterEnd
  rw [flagIrq_host, setFld_host, setFld_host]

theorem porterEnd_mode (s : State) (r n : Nat) : (s.porterEnd r n).mode = s.mode :=
  (porterEnd_only (.refl s _) (List.Subset.refl _) r n).mode

theorem porterEnd_done (s : State) (r n : Nat) :
    (s.porterEnd r n).flag R.PORTER_STATUS Fd.PORTER_STATUS_DONE = true :=
  flag_flagIrq _ _ _ _ (by decide) (by decide) (by decide)

theorem porterEnd_result (s : State) {r : Nat} (hr : r < 16) (n : Nat) :
    (s.porterEnd r n).fld R.PORTER_STATUS Fd.PORTER_STATUS_RESULT = r := by
  unfold porterEnd
  rw [fld_flagIrq _ _ (by decide) (by decide) (by decide), fld_setFld_disj _ _ _ _ _ (by decide) (by decide),
    fld_setFld _ _ _ _ (by decide)]
  exact Nat.mod_eq_of_lt hr

theorem porterEnd_olen (s : State) (r : Nat) {n : Nat} (hn : n < 2048) :
    (s.porterEnd r n).fld R.PORTER_STATUS Fd.PORTER_STATUS_OLEN = n := by
  unfold porterEnd
  rw [fld_flagIrq _ _ (by decide) (by decide) (by decide), fld_setFld _ _ _ _ (by decide)]
  exact Nat.mod_eq_of_lt hn

theorem reg_porterEnd_ne (s : State) (r n : Nat) {o : Nat} (h : o ≠ R.PORTER_STATUS) (hi : o ≠ R.TOP_IRQ_PEND) :
    (s.porterEnd r n).reg o = s.reg o := by
  unfold porterEnd
  rw [reg_flagIrq_ne _ _ _ h hi, reg_setFld_ne _ _ _ _ _ h, reg_setFld_ne _ _ _ _ _ h]
  rfl

theorem mboxFree_host (s : State) (n : Nat) : (s.mboxFree n).host = s.host :=
  (mboxFree_only (.refl s _) (List.Subset.refl _) n).host

theorem mboxFree_mode (s : State) (n : Nat) : (s.mboxFree n).mode = s.mode :=
  (mboxFree_only (.refl s _) (List.Subset.refl _) n).mode

/-! ### A Ledger record in the mailbox -/

theorem recordOut_eq (s : State) (r : LedgerRec) : s.recordOut r =
    ((((s.mboxFree 64).setReg (R.PORTER_MBOX 0) (BitVec.ofNat 32 r.seq)).setReg (R.PORTER_MBOX 1)
      (BitVec.ofNat 32 (r.kind.code + 256))).setReg (R.PORTER_MBOX 2) (BitVec.ofNat 32 r.powerOn)).setReg
      (R.PORTER_MBOX 3) (BitVec.ofNat 32 (r.made / 10800000000000)) := rfl

theorem recordOut_regs (s : State) (r : LedgerRec) :
    (s.recordOut r).reg (R.PORTER_MBOX 0) = BitVec.ofNat 32 r.seq ∧
      (s.recordOut r).reg (R.PORTER_MBOX 1) = BitVec.ofNat 32 (r.kind.code + 256) ∧
      (s.recordOut r).reg (R.PORTER_MBOX 2) = BitVec.ofNat 32 r.powerOn ∧
      (s.recordOut r).reg (R.PORTER_MBOX 3) = BitVec.ofNat 32 (r.made / 10800000000000) := by
  rw [recordOut_eq]
  refine ⟨?_, ?_, ?_, reg_setReg_self _ _ _⟩
  · rw [reg_setReg_ne _ _ _ _ (by decide), reg_setReg_ne _ _ _ _ (by decide), reg_setReg_ne _ _ _ _ (by decide),
      reg_setReg_self]
  · rw [reg_setReg_ne _ _ _ _ (by decide), reg_setReg_ne _ _ _ _ (by decide), reg_setReg_self]
  · rw [reg_setReg_ne _ _ _ _ (by decide), reg_setReg_self]

theorem recordOut_host (s : State) (r : LedgerRec) : (s.recordOut r).host = s.host :=
  (recordOut_only (.refl s _) (List.Subset.refl _) r).host

/-! ### What a warm reset keeps of Porter's stores -/

theorem coreLost_host (s : State) (keep : Nat → Bool) (open_ : Bool) :
    (s.coreLost keep open_).host = s.tokenCut.host.lost := by
  unfold coreLost
  dsimp only
  split <;> rfl

theorem tokenCut_idle {s : State} (h : s.host.job = none) : s.tokenCut = s := by
  unfold tokenCut
  rw [h]

/-- With no command running a warm reset keeps what the host part stores. -/
theorem warm_host {s : State} {f : Bits} (h : s.host.job = none) :
    (s.warm f).host = s.host ∨ (s.warm f).host = s.host.lost := by
  have hr : ((s.raise R.TOP_RESET_CAUSE f).resetCommon aonReg).host = s.host.lost := by
    obtain ⟨t, ho, -, -, -, -, -, he⟩ := resetCommon_eq (s.raise R.TOP_RESET_CAUSE f) aonReg
    have ht : t.host = s.host := by rw [ho.host, raise_host]
    rw [he, coreLost_host, tokenCut_idle (by rw [ht, h]), ht]
  unfold warm
  dsimp only
  split
  · exact .inl (raise_host _ _ _)
  · exact .inr hr

end State

/-! ### Life-cycle transitions -/

theorem burn_owned (o : Otp) (h : Nat) : o.burn .owned h =
    { o with ownCnt := o.ownCnt + 1, ownerHash := h :: o.ownerHash } := rfl

theorem lifeCycle_burn {o : Otp} {target : LifeCycle} (h : Nat) (hv : o.vendorSet = true)
    (ht : target = .scrapped ∨ (target = .owned ∧ o.ownCnt = o.retCnt ∧ o.scrap = false) ∨
      (target = .returned ∧ o.ownCnt = o.retCnt + 1 ∧ o.scrap = false)) : lifeCycle (o.burn target h) = target := by
  rcases ht with rfl | ⟨rfl, hc, hs⟩ | ⟨rfl, hc, hs⟩
  · simp [lifeCycle, Otp.burn, hv]
  · simp [lifeCycle, Otp.burn, hv, hs, hc]
  · simp [lifeCycle, Otp.burn, hv, hs, hc]

/-- An accepted transition burns, erases and records, and then asks for a warm reset with no command running. -/
theorem lifeChange_eq (s : State) (target : LifeCycle) (hash : Nat) (key : Bool) :
    ∃ u : State, s.lifeChange target hash key = u.warm Fd.TOP_RESET_CAUSE_PORTER ∧ u.mode = s.mode ∧
      u.pins = s.pins ∧ u.therm = s.therm ∧ u.host.job = none ∧ u.host.customFlash = false ∧
      u.host.patternKey = (target == .owned && key) ∧ u.host.otp = s.host.otp.burn target hash ∧
      ∃ r : LedgerRec, u.host.ledger = s.host.ledger ++ [r] ∧ r.kind = .lifecycle false target.code := by
  refine ⟨_, rfl, ?_, ?_, ?_, ?_⟩
  · exact State.porterEnd_mode _ _ _
  · exact (State.porterEnd_only (.refl _ _) (List.Subset.refl _) 0 0).pins
  · exact (State.porterEnd_only (.refl _ _) (List.Subset.refl _) 0 0).therm
  · rw [State.porterEnd_host]
    exact ⟨rfl, rfl, rfl, rfl, ⟨s.host.nextSeq, .lifecycle false target.code, [0], s.host.powerOns, s.clk.now, s.clk.now⟩,
      rfl, rfl⟩

theorem lifeChange_shows (s : State) (target : LifeCycle) (hash : Nat) (key : Bool) :
    (s.lifeChange target hash key).flag R.TOP_RESET_CAUSE Fd.TOP_RESET_CAUSE_PORTER = true ∧
      (s.resetHeld = false → s.pins.bootDue = none → (s.lifeChange target hash key).mode = .boot) ∧
      ∃ h : HostSt, (s.lifeChange target hash key).host = h ∧ h.job = none ∧ h.customFlash = false ∧
        h.patternKey = (target == .owned && key) ∧ h.otp = s.host.otp.burn target hash ∧
        ∃ r : LedgerRec, h.ledger = s.host.ledger ++ [r] ∧ r.kind = .lifecycle false target.code := by
  obtain ⟨u, he, hm, hp, ht, hj, hc, hk, ho, hl⟩ := lifeChange_eq s target hash key
  have hheld : u.resetHeld = s.resetHeld := by
    rw [State.resetHeld, State.isLatched_congr hm ht, hp, State.resetHeld]
  rw [he]
  refine ⟨?_, fun h1 h2 => ?_, ?_⟩
  · rw [State.flag, u.warm_cause (by decide)]
    rfl
  · exact (State.warm_resets (by decide) (hheld.trans h1) (by rw [hp, h2])).1
  · rcases State.warm_host (f := Fd.TOP_RESET_CAUSE_PORTER) hj with h | h
    · exact ⟨_, h, hj, hc, hk, ho, hl⟩
    · exact ⟨_, h, rfl, hc, hk, ho, hl⟩

/-! ### Completion by the command that runs -/

theorem find_ledger {l : List LedgerRec} {r : LedgerRec} (hr : r ∈ l) (hu : ∀ x ∈ l, x.seq = r.seq → x = r) :
    l.find? (fun x => x.seq == r.seq) = some r := by
  obtain ⟨x, hx⟩ := Option.isSome_iff_exists.1 (List.find?_isSome.2 ⟨r, hr, beq_self_eq_true _⟩ :
    (l.find? fun x => x.seq == r.seq).isSome)
  rw [hx, hu x (List.mem_of_find?_eq_some hx) (by simpa using List.find?_some hx)]

/-- IDENT and the key commands answer with a length: at most 1,024 bytes, 97 for a key. -/
theorem porterCommandDone_answers {s : State} {j : PorterJob} (hj : s.host.job = some j)
    (hm : j ∈ [.ident, .ledgerKey, .provKey]) : ∃ (u : State) (n : Nat), porterCommandDone s = u.porterEnd 0 n ∧
      u.host = s.host ∧ u.mode = s.mode ∧ n ≤ 1024 ∧ (j ≠ .ident → n = 97) := by
  have hk : (s.mboxFree 25).host = s.host ∧ (s.mboxFree 25).mode = s.mode ∧ 97 ≤ 1024 := ⟨s.mboxFree_host _, s.mboxFree_mode _, by decide⟩
  obtain ⟨hh, hmode, hle⟩ := hk
  unfold porterCommandDone
  rw [hj]
  simp only [List.mem_cons, List.not_mem_nil, or_false] at hm
  rcases hm with rfl | rfl | rfl
  · refine ⟨_, _, rfl, ?_, ?_, ?_, fun h => absurd rfl h⟩
    · rw [State.mboxFree_host]
    · rw [State.mboxFree_mode]
    · omega
  · exact ⟨_, _, rfl, hh, hmode, hle, fun _ => rfl⟩
  · exact ⟨_, _, rfl, hh, hmode, hle, fun _ => rfl⟩

/-- The last part of an image: what the flash then holds, and whether the image is accepted. -/
theorem fwPart_last (s : State) (n : Nat) (ok : Bool) (v : Nat) : ∃ (ok' : Bool) (h : HostSt),
    s.fwPart n true ok v = ({ s with host := h } : State).porterEnd (if ok' then 0 else 5) 0 ∧
    ok' = ((ok && v != 0 && decide (s.host.fwBytes + n ≤ 1835008)) && decide (s.host.otp.fwFloor ≤ v)) ∧
    h = { s.host with
      fwBytes := 0
      fwA := if !s.host.fwBootedB then s.host.fwA
        else if ok && v != 0 && decide (s.host.fwBytes + n ≤ 1835008) then v else 0
      fwB := if !s.host.fwBootedB then if ok && v != 0 && decide (s.host.fwBytes + n ≤ 1835008) then v else 0
        else s.host.fwB
      fwPrimaryB := if ok' then !s.host.fwBootedB else s.host.fwPrimaryB } :=
  ⟨_, _, rfl, rfl, rfl⟩

/-- Settles O56. -/
theorem porterCompletions : Obligations.PorterCompletions := by
  unfold Obligations.PorterCompletions
  refine ⟨fun s hp hj => exec_of_powered hp rfl ?_, fun j s hp hj hm => completes_of_powered hp rfl ?_,
    fun r s hp hj hr hu => completes_of_powered hp rfl ?_, fun q s hp hj hn => completes_of_powered hp rfl ?_,
    fun n v ok s hp hj => completes_of_powered hp rfl ?_, fun n v ok s hp hj => completes_of_powered hp rfl ?_,
    fun target h key s hp hj => completes_of_powered hp rfl ?_,
    fun r target h key s hp h0 hr hj => completes_of_powered hp rfl ?_⟩
  · unfold porterCommandDone
    rw [hj]
  · obtain ⟨u, n, he, hh, hmode, hn, hne⟩ := porterCommandDone_answers hj hm
    rw [he, State.porterEnd_host, State.porterEnd_mode, hh, hmode, State.porterEnd_olen _ _ (by omega)]
    exact ⟨rfl, rfl, rfl, State.porterEnd_done _ _ _, State.porterEnd_result _ (by decide) _, hn, hne⟩
  · have he : porterCommandDone s = (s.recordOut r).porterEnd 0 256 := by
      unfold porterCommandDone
      rw [hj]
      dsimp only
      rw [find_ledger hr hu]
    have hreg : ∀ i < 4, ((s.recordOut r).porterEnd 0 256).reg (R.PORTER_MBOX i) = (s.recordOut r).reg (R.PORTER_MBOX i) := by
      intro i hi
      refine State.reg_porterEnd_ne _ _ _ ?_ ?_ <;>
      · simp only [R.PORTER_MBOX, R.PORTER_STATUS, R.TOP_IRQ_PEND]
        omega
    obtain ⟨h0, h1, h2, h3⟩ := s.recordOut_regs r
    rw [he, State.porterEnd_host, State.recordOut_host, hreg 0 (by decide), hreg 1 (by decide), hreg 2 (by decide),
      hreg 3 (by decide)]
    exact ⟨rfl, rfl, State.porterEnd_done _ _ _, State.porterEnd_result _ (by decide) _,
      State.porterEnd_olen _ _ (by decide), h0, h1, h2, h3⟩
  · have he : porterCommandDone s = s.free.2.porterEnd (s.free.1.toNat % 16) 0 := by
      unfold porterCommandDone
      rw [hj]
      dsimp only
      rw [List.find?_eq_none.2 (by simpa using hn)]
    rw [he, State.porterEnd_host]
    exact ⟨rfl, rfl, State.porterEnd_done _ _ _, State.porterEnd_olen _ _ (by decide)⟩
  · have he : porterCommandDone s =
        ({ s with host := { s.host with fwBytes := s.host.fwBytes + n } } : State).porterEnd 0 0 := by
      unfold porterCommandDone
      rw [hj]
      rfl
    rw [he, State.porterEnd_host]
    exact ⟨rfl, rfl, rfl, rfl, rfl, State.porterEnd_done _ _ _, State.porterEnd_result _ (by decide) _⟩
  · obtain ⟨ok', h', he, hok, hh⟩ := fwPart_last s n ok v
    have he : porterCommandDone s = ({ s with host := h' } : State).porterEnd (if ok' then 0 else 5) 0 := by
      rw [← he]
      unfold porterCommandDone
      rw [hj]
    have hr : (if ok' then 0 else 5) < 16 := by split <;> decide
    rw [he, State.porterEnd_host, State.porterEnd_result _ hr, hh]
    refine ⟨rfl, rfl, fun h => ?_, fun h => ?_, State.porterEnd_done _ _ _, fun h1 h2 h3 h4 => ?_, fun h => ?_⟩
    · simp [h]
    · simp [h]
    · have : ok' = true := by simp [hok, h1, h2, h3, h4]
      refine ⟨by simp [this], fun h => ?_, fun h => ?_, by simp [this]⟩
      · simp [h, h1, h2, h4]
      · simp [h, h1, h2, h4]
    · have : ok' = false := by
        rw [hok]
        rcases h with h | h | h | h
        · simp [h]
        · simp [h]
        · simp [Nat.not_le.2 h]
        · simp [Nat.not_le.2 h]
      exact ⟨by simp [this], by simp [this]⟩
  · have he : porterCommandDone s = s.lifeChange target h key := by
      unfold porterCommandDone
      rw [hj]
      rfl
    obtain ⟨hf, hm, hst, hh, hj, hc, hk, ho, hl⟩ := lifeChange_shows s target h key
    rw [he, hh]
    refine ⟨hf, hj, hm, hc, hk, hl, ?_⟩
    rw [ho]
    refine ⟨?_, ?_, ?_, ?_, ?_, fun hv ht => lifeCycle_burn h hv ht⟩
    · rintro rfl
      exact ⟨rfl, rfl, rfl⟩
    · rintro rfl
      exact ⟨rfl, rfl⟩
    · rintro rfl
      rfl
    · cases target <;> rfl
    · cases target <;> rfl
  · obtain ⟨r, rfl⟩ : ∃ k, r = k + 1 := ⟨r - 1, by omega⟩
    have he : porterCommandDone s = s.porterEnd (r + 1) 0 := by
      unfold porterCommandDone
      rw [hj]
      rfl
    rw [he, State.porterEnd_host]
    exact ⟨rfl, State.porterEnd_mode _ _ _, rfl, State.porterEnd_result _ hr _, State.porterEnd_done _ _ _⟩

end Sys2Proof.Machine
end

section
/-! Bench commands (O8). -/
namespace Sys2Proof.Machine

-- One proof at a time: elaborated side by side, the proofs of so long a text need too much memory.
set_option Elab.async false

/-- A lane of a wiped Bench (R63). -/
def Lane.wipe (x : Lane) : Lane :=
  { x with plays := [], branches := [], slots := [], stages := [], headQ := [] }

namespace State

/-! ### Registers that the disabling of a Bench leaves -/

section
variable {o : Nat} {b : Nat}

theorem reg_laneStop (s : State) (l : Nat) (ready ramp : Bool) (h : o ≠ R.LOOM_LANE_FLAGS b l) :
    (s.laneStop b l ready ramp).reg o = s.reg o := by
  unfold laneStop
  dsimp only
  split
  · rfl
  · split
    · rfl
    · rw [reg_onLane]
      split
      · exact reg_raise_ne _ _ _ _ h
      · rfl

theorem reg_benchLaneOff (s : State) (l : Nat) (h : o ≠ R.LOOM_LANE_FLAGS b l) :
    (s.benchLaneOff b l).reg o = s.reg o := by
  unfold benchLaneOff
  split
  · rw [reg_laneStop _ _ _ _ h, reg_onLane]
  · exact reg_laneStop _ _ _ _ h

theorem reg_finalGap (s : State) (st : Nat) : (s.finalGap st).reg o = s.reg o :=
  (finalGap_only (.refl s [.tally]) (List.Subset.refl _) st).reg o

theorem reg_dropRec_all (ho : offerReg o = false) {st : Nat} (h : st ≤ 24) (s : State) (rs : List Rec) :
    (foldAll (fun s r => s.dropRec st r.seq) s rs).reg o = s.reg o :=
  foldAll_keeps (fun t : State => t.reg o) (f := fun s (r : Rec) => s.dropRec st r.seq)
    (fun t r => reg_dropRec ho t h r.seq) rs s

theorem reg_streamStops (ho : offerReg o = false) (s : State) {st : Nat} (h : st ≤ 24) :
    (s.streamStops st).reg o = s.reg o := by
  unfold streamStops
  dsimp only
  rw [reg_finalGap, reg_onStream]
  rw [reg_dropRec_all ho h]
  split <;> rfl

theorem reg_streamStops_all (ho : offerReg o = false) (hb : b < 8) (s : State) :
    (foldAll (fun s k => if s.streamOn (3 * b + k) then s.streamStops (3 * b + k) else s) s (List.range 3)).reg o =
      s.reg o := by
  refine foldAll_keeps_mem (fun t : State => t.reg o) _ (fun k hk t => ?_) s
  have := List.mem_range.1 hk
  split
  · exact reg_streamStops ho t (by omega)
  · rfl

/-- The lanes, engines, Foreman and Tally sources of a Bench that is disabled (R36, R265). -/
def benchUnitsStop (s : State) (b : Nat) : State :=
  let s := foldAll (fun s l => s.benchLaneOff b l) s (List.range 32)
  let s := foldAll (fun s e => s.benchEngOff b e) s (List.range 4)
  let s := foldAll (fun s k => if s.streamOn (3 * b + k) then s.streamStops (3 * b + k) else s) s (List.range 3)
  (s.fmAskStop b).tagsOff b

theorem benchUnitsStop_only (s : State) (b : Nat) :
    s.Only [.ap, .lanes, .engines, .dec, .fms, .tally, .outbox] (s.benchUnitsStop b) := by
  unfold benchUnitsStop
  simp (contextual := true) (maxDischargeDepth := 40) -implicitDefEqProofs

theorem reg_benchUnitsStop (ho : offerReg o = false) (s : State) (hb : b < 8)
    (hl : ∀ l < 32, o ≠ R.LOOM_LANE_FLAGS b l) : (s.benchUnitsStop b).reg o = s.reg o := by
  unfold benchUnitsStop
  dsimp only
  rw [(tagsOff_only (.refl _ [.dec]) (List.Subset.refl _) b).reg,
    (fmAskStop_only (.refl _ [.fms]) (List.Subset.refl _) b).reg, reg_streamStops_all ho hb]
  refine (foldAll_keeps (fun t : State => t.reg o)
    (fun t e => (benchEngOff_only (.refl t [.engines]) (List.Subset.refl _) b e).reg o) _ _).trans ?_
  exact foldAll_keeps_mem (fun t : State => t.reg o) _
    (fun l h t => reg_benchLaneOff t l (hl l (List.mem_range.1 h))) _

end

/-! ### Disabling -/

theorem benchStop_eq (s : State) (b : Nat) : s.benchStop b =
    if s.benchOn b then (((s.clear (R.BENCH_CTL b) Fd.BENCH_CTL_EN).onBench b fun x => { x with enPend := false }).onBench b
        fun x => { x with stopping := true }).benchUnitsStop b
      else (s.clear (R.BENCH_CTL b) Fd.BENCH_CTL_EN).onBench b fun x => { x with enPend := false } := rfl

theorem benchCtl_free {b k : Nat} (hb : b < 8) (hk : k < 8) :
    offerReg (R.BENCH_CTL k) = false ∧ (k ≠ b → R.BENCH_CTL k ≠ R.BENCH_CTL b) ∧
      ∀ l < 32, R.BENCH_CTL k ≠ R.LOOM_LANE_FLAGS b l := by
  simp only [offerReg_eq_false, R.BENCH_CTL, R.LOOM_LANE_FLAGS, R.TOP_IRQ_PEND, R.TOP_BREACH]
  exact ⟨by omega, fun h => by omega, fun l hl => by omega⟩

theorem reg_benchStop_ctl (s : State) {b k : Nat} (hb : b < 8) (hk : k < 8) :
    (s.benchStop b).reg (R.BENCH_CTL k) = (s.clear (R.BENCH_CTL b) Fd.BENCH_CTL_EN).reg (R.BENCH_CTL k) := by
  obtain ⟨h1, -, h3⟩ := benchCtl_free hb hk
  rw [benchStop_eq]
  split
  · rw [reg_benchUnitsStop h1 _ hb h3, reg_onBench, reg_onBench]
  · rw [reg_onBench]

theorem reg_benchStop_other (s : State) {b k : Nat} (hb : b < 8) (hk : k < 8) (h : k ≠ b) :
    (s.benchStop b).reg (R.BENCH_CTL k) = s.reg (R.BENCH_CTL k) :=
  (reg_benchStop_ctl s hb hk).trans (reg_clear_ne _ _ _ _ ((benchCtl_free hb hk).2.1 h))

theorem benchSt_congr {s t : State} (h : t.bench = s.bench) (b : Nat) : t.benchSt b = s.benchSt b := by
  rw [benchSt, h, benchSt]

theorem benchSt_benchStop (s : State) (b k : Nat) : (s.benchStop b).benchSt k =
    if k = b then { s.benchSt b with enPend := false, stopping := s.benchOn b || (s.benchSt b).stopping }
    else s.benchSt k := by
  have hc : ∀ k, (s.clear (R.BENCH_CTL b) Fd.BENCH_CTL_EN).benchSt k = s.benchSt k := fun k =>
    benchSt_congr (clear_bench _ _ _) k
  rw [benchStop_eq]
  split
  · next hon =>
    rw [benchSt_congr (benchUnitsStop_only _ b).bench, benchSt_onBench, benchSt_onBench_self, benchSt_onBench]
    by_cases h : k = b
    · simp [h, hon, hc]
    · simp [h, hc]
  · next hon =>
    rw [benchSt_onBench]
    by_cases h : k = b
    · simp [h, hon, hc]
    · simp [h, hc]

theorem benchStop_en (s : State) {b : Nat} (hb : b < 8) : (s.benchStop b).fld (R.BENCH_CTL b) Fd.BENCH_CTL_EN = 0 := by
  rw [fld_congr (reg_benchStop_ctl s hb hb), fld_clear _ _ _ (by decide)]

theorem benchOn_congr {s t : State} {k : Nat} (hr : t.reg (R.BENCH_CTL k) = s.reg (R.BENCH_CTL k))
    (hs : t.benchSt k = s.benchSt k) : t.benchOn k = s.benchOn k := by
  rw [benchOn, flag_congr hr, hs, benchOn]

theorem benchOn_benchStop (s : State) {b : Nat} (hb : b < 8) : (s.benchStop b).benchOn b = false := by
  rw [benchOn, flag, benchStop_en s hb]
  rfl

theorem benchStop_gds (s : State) (b j : Nat) : (s.benchStop b).gds j = s.gds j := by
  have ht : ∀ t : State, (t.tagsOff b).dec.mirror = t.dec.mirror := fun t => by
    unfold tagsOff
    dsimp only
    refine foldAll_keeps (fun t : State => t.dec.mirror) (fun t k => ?_) _ t
    split <;> rfl
  have hu : ∀ t : State, (t.benchUnitsStop b).dec.mirror = t.dec.mirror := fun t => by
    unfold benchUnitsStop
    dsimp only
    rw [ht]
    refine congrArg DecSt.mirror (Only.dec (s := t) (ps := [.ap, .lanes, .engines, .fms, .tally, .outbox]) ?_)
    simp (contextual := true) (maxDischargeDepth := 40) -implicitDefEqProofs
  have hc := clear_dec s (R.BENCH_CTL b) Fd.BENCH_CTL_EN
  rw [gds, gds, benchStop_eq]
  split
  · rw [hu, onBench_dec, onBench_dec, hc]
  · rw [onBench_dec, hc]

/-! ### Enabling -/

theorem benchStart_on (s : State) (b : Nat) :
    (s.benchStart b).benchOn b = true ∧ ((s.benchStart b).benchSt b).stopping = false := by
  have h : ∀ t : State, t.Only [.lanes, .engines] (foldAll (fun s e => s.engStart b e false)
      (foldAll (fun s l => s.laneArm b l) t (List.range 32)) (List.range 4)) := fun t => by
    simp (contextual := true) (maxDischargeDepth := 40) -implicitDefEqProofs
  obtain ⟨u, hu⟩ : ∃ u : State, u = (s.raise (R.BENCH_CTL b) Fd.BENCH_CTL_EN).onBench b
    fun x => { x with enPend := false, stopping := false } := ⟨_, rfl⟩
  have hs : s.benchStart b = foldAll (fun s e => s.engStart b e false)
      (foldAll (fun s l => s.laneArm b l) u (List.range 32)) (List.range 4) := by
    rw [hu]
    rfl
  have hen : u.flag (R.BENCH_CTL b) Fd.BENCH_CTL_EN = true := by
    rw [hu, flag_congr (reg_onBench _ _ _ _), flag_raise _ _ _ (by decide) (by decide)]
  have hb : u.benchSt b = { s.benchSt b with enPend := false, stopping := false } := by
    rw [hu, benchSt_onBench_self, benchSt_congr (raise_bench _ _ _)]
  rw [hs]
  have ho := h u
  generalize foldAll (fun s e => s.engStart b e false)
      (foldAll (fun s l => s.laneArm b l) u (List.range 32)) (List.range 4) = t at ho ⊢
  have hbt : t.benchSt b = u.benchSt b := benchSt_congr ho.bench b
  rw [benchOn, flag_congr (ho.reg _), hen, hbt, hb]
  exact ⟨rfl, rfl⟩

/-! ### Reset -/

theorem benchSt_benchResetBegin_ne (s : State) {b k : Nat} (h : k ≠ b) :
    (s.benchResetBegin b).benchSt k = s.benchSt k := by
  have hs : (s.benchStop b).benchSt k = s.benchSt k := by rw [benchSt_benchStop, if_neg h]
  unfold benchResetBegin
  split
  · rfl
  · dsimp only
    split
    · rw [benchSt_onBench, if_neg h, benchSt_onBench, if_neg h, hs]
    · rw [benchSt_onBench, if_neg h, hs]

theorem reg_benchResetBegin_ctl (s : State) {b k : Nat} (hb : b < 8) (hk : k < 8) (h : k ≠ b) :
    (s.benchResetBegin b).reg (R.BENCH_CTL k) = s.reg (R.BENCH_CTL k) := by
  unfold benchResetBegin
  split
  · rfl
  · dsimp only
    split
    · rw [reg_onBench, reg_onBench, reg_benchStop_other s hb hk h]
    · rw [reg_onBench, reg_benchStop_other s hb hk h]

theorem benchResetBegin_begins (s : State) {b : Nat} (hb : b < 8) :
    ((s.benchResetBegin b).benchSt b).resetPend = true ∧
      ((s.benchSt b).resetPend = false → (s.benchResetBegin b).benchOn b = false) := by
  unfold benchResetBegin
  split
  · next h => exact ⟨h, fun h' => absurd (h.symm.trans h') (by decide)⟩
  · have hen : ∀ t : State, t.reg (R.BENCH_CTL b) = (s.benchStop b).reg (R.BENCH_CTL b) → t.benchOn b = false :=
      fun t ht => by
        rw [benchOn, flag, fld_congr ht, benchStop_en s hb]
        rfl
    dsimp only
    split
    · exact ⟨by rw [benchSt_onBench_self, benchSt_onBench_self], fun _ => hen _ (by rw [reg_onBench, reg_onBench])⟩
    · exact ⟨by rw [benchSt_onBench_self], fun _ => hen _ (by rw [reg_onBench])⟩

theorem benchResetOne_unloaded {s : State} (h : s.load = none) (b : Nat) : s.benchResetOne b = s.benchResetBegin b := by
  unfold benchResetOne
  rw [h]

theorem benchResetBegin_load (s : State) (b : Nat) : (s.benchResetBegin b).load = s.load :=
  (benchResetBegin_only (.refl s _) (List.Subset.refl _) b).load

theorem benchResetBegin_mode (s : State) (b : Nat) : (s.benchResetBegin b).mode = s.mode :=
  (benchResetBegin_only (.refl s _) (List.Subset.refl _) b).mode

theorem reg_benchResetBegin_top (s : State) {b : Nat} (hb : b < 8) :
    (s.benchResetBegin b).reg R.TOP_RESET_CAUSE = s.reg R.TOP_RESET_CAUSE := by
  have hs : (s.benchStop b).reg R.TOP_RESET_CAUSE = s.reg R.TOP_RESET_CAUSE := by
    have h1 : R.TOP_RESET_CAUSE ≠ R.BENCH_CTL b := by
      unfold R.TOP_RESET_CAUSE R.BENCH_CTL
      omega
    have h2 : ∀ l < 32, R.TOP_RESET_CAUSE ≠ R.LOOM_LANE_FLAGS b l := fun l hl => by
      unfold R.TOP_RESET_CAUSE R.LOOM_LANE_FLAGS
      omega
    rw [benchStop_eq]
    split
    · rw [reg_benchUnitsStop (by decide) _ hb h2, reg_onBench, reg_onBench, reg_clear_ne _ _ _ _ h1]
    · rw [reg_onBench, reg_clear_ne _ _ _ _ h1]
  unfold benchResetBegin
  split
  · rfl
  · dsimp only
    split
    · rw [reg_onBench, reg_onBench, hs]
    · rw [reg_onBench, hs]

/-- What a Bench reset does to the Benches of a set, with no load in progress. -/
theorem benchReset_benches (s : State) {m : Nat} (h : s.load = none) :
    (foldAll benchResetOne s (bitsSet 8 m)).mode = s.mode ∧
      (foldAll benchResetOne s (bitsSet 8 m)).reg R.TOP_RESET_CAUSE = s.reg R.TOP_RESET_CAUSE ∧
      (∀ b < 8, bitAt m b = true → ((foldAll benchResetOne s (bitsSet 8 m)).benchSt b).resetPend = true ∧
        ((s.benchSt b).resetPend = false → (foldAll benchResetOne s (bitsSet 8 m)).benchOn b = false)) ∧
      (∀ b < 8, bitAt m b = false → (foldAll benchResetOne s (bitsSet 8 m)).benchSt b = s.benchSt b ∧
        (foldAll benchResetOne s (bitsSet 8 m)).benchOn b = s.benchOn b) := by
  have hlt : ∀ k ∈ bitsSet 8 m, k < 8 := fun k hk => List.mem_range.1 (List.mem_of_mem_filter hk)
  have hmem : ∀ k < 8, (k ∈ bitsSet 8 m ↔ bitAt m k = true) := fun k hk => by simp [bitsSet, pick, hk]
  have hnd : (bitsSet 8 m).Nodup := List.nodup_range.filter _
  generalize bitsSet 8 m = xs at hlt hmem hnd
  have hI : ∀ k ∈ xs, ∀ t : State, (t.load = none ∧ t.mode = s.mode ∧ t.reg R.TOP_RESET_CAUSE = s.reg R.TOP_RESET_CAUSE) →
      (t.benchResetOne k).load = none ∧ (t.benchResetOne k).mode = s.mode ∧
        (t.benchResetOne k).reg R.TOP_RESET_CAUSE = s.reg R.TOP_RESET_CAUSE := by
    rintro k hk t ⟨h1, h2, h3⟩
    rw [benchResetOne_unloaded h1, benchResetBegin_load, benchResetBegin_mode, reg_benchResetBegin_top _ (hlt k hk)]
    exact ⟨h1, h2, h3⟩
  have hv := fun b (hb : b < 8) => foldAll_view (f := benchResetOne)
    (fun t => t.load = none ∧ t.mode = s.mode ∧ t.reg R.TOP_RESET_CAUSE = s.reg R.TOP_RESET_CAUSE)
    (fun t => (t.benchSt b, t.reg (R.BENCH_CTL b))) b xs hnd hI (fun k hk hkb t ht => by
      rw [benchResetOne_unloaded ht.1, benchSt_benchResetBegin_ne _ hkb.symm,
        reg_benchResetBegin_ctl _ (hlt k hk) hb hkb.symm]) s ⟨h, rfl, rfl⟩
  obtain ⟨⟨-, hm, hr⟩, -, -⟩ := hv 0 (by decide)
  refine ⟨hm, hr, fun b hb hin => ?_, fun b hb hout => ?_⟩
  · obtain ⟨t, ht, hts, hg⟩ := (hv b hb).2.2 ((hmem b hb).2 hin)
    obtain ⟨hts, -⟩ := Prod.mk.inj hts
    obtain ⟨hgs, hgr⟩ := Prod.mk.inj hg
    rw [hgs, benchOn_congr hgr hgs, ← hts, benchResetOne_unloaded ht.1]
    exact t.benchResetBegin_begins hb
  · obtain ⟨hgs, hgr⟩ := Prod.mk.inj ((hv b hb).2.1 (mt (hmem b hb).1 (by simp [hout])))
    exact ⟨hgs, benchOn_congr hgr hgs⟩

/-! ### Wipe -/

def wipeLanes (s : State) (b : Nat) : State := foldAll (fun s l => s.onLane b l Lane.wipe) s (List.range 32)

theorem benchWipe_eq (s : State) (b : Nat) : s.benchWipe b =
    (({ s with
      ap := NMap.erase (s.benchSram b) s.ap
      xyStages := NMap.erase (fun k => k / 32 == b) s.xyStages } : State).wipeLanes b).cachesLost b := rfl

theorem wipeLanes_only (s : State) (b : Nat) : s.Only [.lanes] (s.wipeLanes b) := by
  unfold wipeLanes
  simp (contextual := true) (maxDischargeDepth := 40) -implicitDefEqProofs

theorem wipeLanes_lane (s : State) (b : Nat) {l : Nat} (hl : l < 32) : (s.wipeLanes b).lane b l = (s.lane b l).wipe := by
  refine (foldAll_get (f := fun s l => s.onLane b l Lane.wipe) (g := fun t l => t.lane b l) (F := Lane.wipe) ?_ ?_
    (List.range 32) List.nodup_range s l).trans ?_
  · exact fun t k => lane_onLane_self _ _ _ _
  · exact fun t k j hj => (lane_onLane _ _ _ _ _ _).trans (if_neg (by omega))
  · rw [if_pos (List.mem_range.2 hl)]

theorem benchWipe_ap (s : State) (b : Nat) : (s.benchWipe b).ap = NMap.erase (s.benchSram b) s.ap := by
  rw [benchWipe_eq, cachesLost, onLoom_ap, (wipeLanes_only _ b).ap]

theorem benchWipe_mem (s : State) (b : Nat) : (s.benchWipe b).mem = s.mem := by
  rw [benchWipe_eq, cachesLost, onLoom_mem, (wipeLanes_only _ b).mem]

theorem benchWipe_lane (s : State) (b : Nat) {l : Nat} (hl : l < 32) : (s.benchWipe b).lane b l = (s.lane b l).wipe := by
  rw [benchWipe_eq, cachesLost, lane, onLoom_lanes, ← lane, wipeLanes_lane _ b hl]
  rfl

end State

theorem benchWipeDone_eq {b : Nat} {s : State} (hr : (s.benchSt b).resetPend = true) (h0 : (s.benchSt b).wipeDue ≠ 0)
    (hd : (s.benchSt b).wipeDue ≤ s.clk.now) :
    benchWipeDone b s = ((s.benchWipe b).orFld R.TOP_MODE Fd.TOP_MODE_WIPED (2 ^ b)).onBench b fun x =>
      { x with resetPend := false, wipeDue := 0 } := by
  unfold benchWipeDone
  dsimp only
  rw [if_pos (by simp [hr, h0, hd])]

/-- Settles O8. -/
theorem benchCommands : Obligations.BenchCommands := by
  unfold Obligations.BenchCommands
  refine ⟨fun b s hp => completes_of_powered hp rfl ?_,
    fun who b s hp hr hw hd ht ho => completes_of_reached hp hr rfl ?_,
    fun who b s hp hr hw hd ht ho => completes_of_reached hp hr rfl ?_,
    fun who b s hp hr => ⟨fun h => completes_of_reached hp hr rfl ?_, fun hw hd ho => exec_of_reached hp hr rfl ?_⟩,
    fun b s hp ho hq hl hs => completes_of_powered hp rfl ?_,
    fun who m s hp hr hm hl => completes_of_reached hp hr rfl ?_,
    fun who m s hp hr hm => completes_of_reached hp hr rfl ?_,
    fun b s hp hr h0 hd => completes_of_powered hp rfl ?_⟩
  · have ho := State.benchStop_only (.refl s _) (List.Subset.refl _) b.val
    have hb := fun k => s.benchSt_benchStop b.val k
    refine ⟨s.benchOn_benchStop b.isLt, s.benchStop_en b.isLt, ?_, fun h => ?_, fun j => ?_, ho.mode, ho.mem,
      fun k hk => ?_⟩
    · rw [benchDisable, hb, if_pos rfl]
    · rw [benchDisable, hb, if_pos rfl, h]
      rfl
    · exact s.benchStop_gds b j
    · rw [benchDisable, hb, if_neg (by simpa [Fin.ext_iff] using hk)]
  · rw [benchEnable, if_neg (by simp [hw, hd]), State.benchAsk, if_neg (by simp [ht]), if_neg (by simp [ho])]
    exact s.benchStart_on b
  · rw [benchEnable, if_neg (by simp [hw, hd]), State.benchAsk, if_pos ht, if_neg (by simp [ho])]
    refine ⟨?_, ?_, ?_⟩
    · rw [State.benchOn, State.benchSt_onBench_self]
      simp
    · rw [State.fld_congr (State.reg_onBench _ _ _ _), State.fld_raise _ _ _ (by decide)]
      rfl
    · rw [State.benchSt_onBench_self]
  · rw [benchEnable, if_pos (by simpa using h)]
    refine ⟨?_, State.reg_denied_ne _ _ _ _ ?_ ?_ ?_, State.flag_denied _ _ _ _⟩
    · exact (State.denied_only (.refl s [.ap]) (List.Subset.refl _) _ _ _).bench
    all_goals
      simp only [R.BENCH_CTL, R.TOP_ACCESS, R.TOP_ACCESS_LOG_LO, R.TOP_ACCESS_LOG_HI]
      omega
  · rw [benchEnable, if_neg (by simp [hw, hd]), State.benchAsk]
    simp [ho]
  · have hset : s.benchSettled b = true := by
      rw [State.benchSettled, hq, Bool.true_and, List.all_eq_true]
      intro l hl'
      simpa using hl ⟨l, List.mem_range.1 hl'⟩
    unfold benchQuietReached
    dsimp only
    rw [if_pos (by simp [hset, ho, hs]), State.benchSt_onBench_self]
    exact ⟨rfl, State.onBench_ap _ _ _, State.onBench_mem _ _ _, fun h1 h2 => by simp [h1, h2]⟩
  · dsimp only [benchReset]
    rw [if_pos hm]
    have hf := s.fld_orFld R.TOP_RESET_CAUSE m.toNat Fd.TOP_RESET_CAUSE_BENCH (by decide)
    have hmode := State.orFld_mode s R.TOP_RESET_CAUSE Fd.TOP_RESET_CAUSE_BENCH m.toNat
    have hload := State.orFld_load s R.TOP_RESET_CAUSE Fd.TOP_RESET_CAUSE_BENCH m.toNat
    have hbench := State.orFld_bench s R.TOP_RESET_CAUSE Fd.TOP_RESET_CAUSE_BENCH m.toNat
    have hreg : ∀ b < 8, (s.orFld R.TOP_RESET_CAUSE Fd.TOP_RESET_CAUSE_BENCH m.toNat).reg (R.BENCH_CTL b) =
        s.reg (R.BENCH_CTL b) := fun b hb => State.reg_orFld_ne _ _ _ _ _ (by
      unfold R.BENCH_CTL R.TOP_RESET_CAUSE
      omega)
    generalize s.orFld R.TOP_RESET_CAUSE Fd.TOP_RESET_CAUSE_BENCH m.toNat = u at hf hmode hload hbench hreg ⊢
    obtain ⟨h1, h2, h3, h4⟩ := u.benchReset_benches (m := m.toNat) (hload.trans hl)
    have hst := fun b => State.benchSt_congr hbench b
    refine ⟨h1.trans hmode, ?_, fun b hb => ?_, fun b hb => ?_⟩
    · rw [State.fld_congr h2, hf]
      refine Nat.mod_eq_of_lt (Nat.or_lt_two_pow ?_ m.isLt)
      exact State.fld_lt _ _ _
    · rw [← hst]
      exact h3 b b.isLt hb
    · rw [← hst, ← State.benchOn_congr (hreg b b.isLt) (hst b)]
      exact h4 b b.isLt hb
  · dsimp only [benchReset]
    rw [if_neg (by simp [hm])]
    obtain ⟨h1, h2, h3⟩ := s.modeErr_shows (code := 2) (req := s.mode.code) (by decide) s.mode.code_lt
    exact ⟨h1, h2, h3, (State.modeErr_only (.refl s [.ap, .outbox]) (List.Subset.refl _) _ _).bench⟩
  · rw [benchWipeDone_eq hr h0 hd]
    refine ⟨?_, ?_, ?_, fun off h1 h2 => ?_, fun l => ?_⟩
    · rw [State.wiped, State.fbit_congr (State.reg_onBench _ _ _ _), State.fbit_orFld _ _ _ _ _ (by decide) b.isLt,
        bitAt_two_pow]
      simp
    · rw [State.benchSt_onBench_self]
    · rw [State.onBench_mem, State.orFld_mem, State.benchWipe_mem]
    · have hne : off ≠ R.TOP_MODE := by
        unfold R.TOP_MODE
        omega
      have hin : s.benchSram b off = true := by
        unfold State.benchSram
        simp [h1, h2]
      rw [State.reg_onBench, State.reg_orFld_ne _ _ _ _ _ hne, State.reg, State.benchWipe_ap]
      rw [NMap.get_erase, if_pos hin]
    · have hlane : ∀ t : State, ∀ f, ((t.orFld R.TOP_MODE Fd.TOP_MODE_WIPED (2 ^ b.val)).onBench b f).lane b l = t.lane b l :=
        fun t f => by rw [State.lane, State.onBench_lanes, State.orFld_lanes, State.lane]
      rw [hlane, State.benchWipe_lane _ _ l.isLt]
      exact ⟨rfl, rfl, rfl⟩

end Sys2Proof.Machine
end

section
/-! Self-refresh, retraining and retirement (O46). -/
namespace Sys2Proof.Machine

-- One proof at a time: elaborated side by side, the proofs of so long a text need too much memory.
set_option Elab.async false

/-! ### Self-refresh -/

theorem get_debtsPaid (m : NMap MemChan) (c : Nat) : (NMap.get (fun _ => {}) (debtsPaid m) c).debt = 0 := by
  unfold debtsPaid
  induction m with
  | nil => rfl
  | cons e m ih =>
    dsimp only at ih ⊢
    rw [List.map_cons, List.filter_cons]
    split
    · dsimp only [NMap.get]
      split
      · rfl
      · exact ih
    · exact ih

namespace State

theorem memWake_wakes {s : State} (h : s.memc.selfRef = true) :
    s.memWake.memc.selfRef = false ∧ (∀ c, (s.memWake.mch c).debt = 0) := by
  unfold memWake
  rw [if_pos h]
  exact ⟨rfl, fun c => get_debtsPaid _ _⟩

theorem memWake_memc (s : State) : s.memWake.memc = { s.memc with
    selfRef := s.memWake.memc.selfRef, refCfg := s.memWake.memc.refCfg, chans := s.memWake.memc.chans } := by
  unfold memWake
  split <;> rfl

/-! ### What a step of maintenance leaves of the memory's flags and devices -/

section
variable {s : State} (ht : s.transit = none) (hr : s.mode ≠ .run) (ha : s.mode ≠ .armed)
include ht hr ha

theorem budgetMode_idle : s.budgetMode = s := by
  unfold budgetMode
  rw [ht]
  dsimp only
  split
  · next h => exact absurd h hr
  · next h => exact absurd h ha
  · rfl

end

theorem reg_budgetCheck (s : State) (mask point : Nat) {o : Nat} (h0 : o ≠ R.TOP_BUDGET_STATUS)
    (h1 : o ≠ R.TOP_BUDGET_DEMAND) (h2 : o ≠ R.TOP_BUDGET_TALLY) (hi : o ≠ R.TOP_IRQ_PEND) :
    (s.budgetCheck mask point).1.reg o = s.reg o := by
  unfold budgetCheck budgetNote
  dsimp only
  split
  · rw [reg_flagIrq_ne _ _ _ h0 hi, reg_setFld_ne _ _ _ _ _ h2, reg_setFld_ne _ _ _ _ _ h1, reg_setFld_ne _ _ _ _ _ h0,
      reg_setFld_ne _ _ _ _ _ h0, reg_setFld_ne _ _ _ _ _ h0]
  · rw [reg_setFld_ne _ _ _ _ _ h2, reg_setFld_ne _ _ _ _ _ h1, reg_setFld_ne _ _ _ _ _ h0,
      reg_setFld_ne _ _ _ _ _ h0, reg_setFld_ne _ _ _ _ _ h0]

/-- Outside RUN and ARMED, with no transition, a capability change only notes the budget. -/
theorem capChanged_quiet {s : State} (ht : s.transit = none) (hr : s.mode ≠ .run) (ha : s.mode ≠ .armed) :
    s.Only [.ap, .outbox] s.capChanged ∧ s.capChanged.reg R.MEM_FLAGS = s.reg R.MEM_FLAGS := by
  have hb := budgetCheck_only (.refl s [.ap, .outbox]) (List.Subset.refl _) s.benchesOn 2
  have hreg := reg_budgetCheck s s.benchesOn 2 (o := R.MEM_FLAGS) (by decide) (by decide) (by decide) (by decide)
  unfold capChanged
  split
  · dsimp only
    generalize s.budgetCheck s.benchesOn 2 = p at hb hreg ⊢
    obtain ⟨u, fits⟩ := p
    dsimp only at hb hreg ⊢
    split
    · exact ⟨hb, hreg⟩
    · rw [budgetMode_idle (hb.transit.trans ht) (by rw [hb.mode]; exact hr) (by rw [hb.mode]; exact ha)]
      exact ⟨hb, hreg⟩
  · exact ⟨.refl s _, rfl⟩

theorem ringDrop_only (n : Nat) (s : State) : s.Only [.ap, .tally] (ringDrop n s) := by
  induction n generalizing s with
  | zero => exact .refl s _
  | succ n ih =>
    rw [ringDrop]
    split
    · exact .refl s _
    · refine Only.trans ?_ (ih _)
      split
      · exact setReg_only (.refl s _) (by simp) _ _
      · exact setReg_only (lostRec_only (.refl s _) (List.Subset.refl _) _ _) (by simp) _ _

theorem memFlags_ringDrop (n : Nat) (s : State) : (ringDrop n s).reg R.MEM_FLAGS = s.reg R.MEM_FLAGS := by
  induction n generalizing s with
  | zero => rfl
  | succ n ih =>
    rw [ringDrop]
    split
    · rfl
    · have hrp : ∀ (t : State) v, (t.setReg R.TALLY_RP v).reg R.MEM_FLAGS = t.reg R.MEM_FLAGS := fun t v =>
        reg_setReg_ne _ _ _ _ (by decide)
      dsimp only
      rw [ih, hrp]
      split
      · rfl
      · rw [lostRec, reg_onStream]
        refine reg_satAdd_ne _ _ _ _ _ ?_
        unfold R.MEM_FLAGS R.TALLY_STREAM_DROP
        omega

theorem memFlags_markLost (s : State) (lost : Nat → Bool) : (s.markLost lost).reg R.MEM_FLAGS = s.reg R.MEM_FLAGS := by
  have hp : ∀ (t : State) id, (t.dirPurge id).reg R.MEM_FLAGS = t.reg R.MEM_FLAGS := fun t id =>
    (dirPurge_only (.refl t [.looms]) (List.Subset.refl _) id).reg _
  have hne : ∀ id w, R.MEM_FLAGS ≠ R.SEGDIR id w := fun id w => by
    unfold R.MEM_FLAGS R.SEGDIR
    omega
  have h1 : ∀ (t : State) id, ((t.segLost id).dirPurge id).reg R.MEM_FLAGS = t.reg R.MEM_FLAGS := fun t id => by
    rw [hp, segLost, breach, reg_raise_ne _ _ _ _ (by decide), reg_setReg_ne _ _ _ _ (hne _ _)]
  have h2 : ∀ (t : State) id ws, ((t.setSeg id ws).dirPurge id).reg R.MEM_FLAGS = t.reg R.MEM_FLAGS := fun t id ws => by
    rw [hp, setSeg]
    exact foldAll_keeps (fun t : State => t.reg R.MEM_FLAGS) (fun t w => reg_setReg_ne _ _ _ _ (hne _ _)) _ t
  have hm : R.MEM_FLAGS ≠ R.MEM_LOST := by decide
  unfold markLost
  dsimp only
  generalize List.filter _ _ = held
  generalize List.filter _ _ = hit
  rw [reg_satAdd_ne _ _ _ _ _ hm]
  refine Eq.trans ?_ ((foldAll_keeps (fun t : State => t.reg R.MEM_FLAGS) (fun t id => h2 t id [0, 0, 0, 0x40000000]) held _).trans
    (foldAll_keeps (fun t : State => t.reg R.MEM_FLAGS) (fun t id => h1 t id) hit s))
  split
  · rfl
  · rw [breach, reg_raise_ne _ _ _ _ (by decide)]

/-- What the loss of a slot's contents leaves. -/
theorem slotLost_shows (s : State) (slot dev : Nat) :
    s.Only [.ap, .tally, .looms, .mem, .memc, .fms, .outbox] (s.slotLost slot dev) ∧
      (s.slotLost slot dev).reg R.MEM_FLAGS = s.reg R.MEM_FLAGS ∧
      (s.slotLost slot dev).memc.devs = s.memc.devs ∧ (s.slotLost slot dev).memc.rate = s.memc.rate ∧
      ∀ o, o / 64 % 8 = slot → (s.slotLost slot dev).byteAt o = 0 := by
  obtain ⟨u, hu, hf⟩ : ∃ u : State, s.Only [.ap, .tally, .looms] u ∧ u.reg R.MEM_FLAGS = s.reg R.MEM_FLAGS ∧
      s.slotLost slot dev = ((u.bytesLost fun u => u % 8 == slot).irq 8).memMark 2 dev := by
    refine ⟨_, ?_, ?_, rfl⟩
    · exact markLost_only ((ringDrop_only _ s).mono (by simp)) (by simp) _
    · exact (memFlags_markLost _ _).trans (memFlags_ringDrop _ s)
  obtain ⟨hf, he⟩ := hf
  have ho : (u.bytesLost fun u => u % 8 == slot).Only [.ap, .fms, .tally, .outbox] (s.slotLost slot dev) := by
    rw [he]
    exact memMark_only (irq_only (.refl _ _) (by simp) 8) (List.Subset.refl _) 2 dev
  have hreg : (s.slotLost slot dev).reg R.MEM_FLAGS = u.reg R.MEM_FLAGS := by
    rw [he, memMark, reg_offer (by decide) _ le_rfl, reg_irq_ne _ _ (by decide)]
    rfl
  have hb := bytesLost_only (.refl u [.mem, .memc]) (List.Subset.refl _) fun u => u % 8 == slot
  refine ⟨?_, hreg.trans hf, ?_, ?_, fun o h => ?_⟩
  · exact (((hu.mono (by simp)).trans (hb.mono (by simp))).trans (ho.mono (by simp)))
  · rw [ho.memc, ← hu.memc]
    rfl
  · rw [ho.memc, ← hu.memc]
    rfl
  · rw [byteAt, ho.mem]
    refine (NMap.get_erase memDefault (fun a => a / 64 % 8 == slot) u.mem o).trans (if_pos ?_)
    simp [h]

/-! ### Devices -/

theorem dev_congr {s t : State} (h : t.memc.devs = s.memc.devs) (d : Nat) : t.dev d = s.dev d := by
  rw [dev, h, dev]

theorem dev_takeSlot (s : State) {d sp : Nat} (h : sp ≠ d) :
    ((s.takeSlot d sp).dev d).st = .retired ∧ ((s.takeSlot d sp).dev sp).st = .active ∧
      ((s.takeSlot d sp).dev sp).slot = (s.dev d).slot := by
  unfold takeSlot
  dsimp only
  rw [dev_onDev_self, dev_onDev, if_neg (Ne.symm h), dev_onDev_self]
  exact ⟨rfl, rfl, rfl⟩

/-- Every device's retraining is done. -/
def devsTrained (s : State) : State :=
  foldAll (fun s d => s.onDev d fun x => { x with retrainDue := false, tries := 0 }) s (List.range 9)

theorem dev_devsTrained (s : State) (d : Nat) : s.devsTrained.dev d =
    if d ∈ List.range 9 then { s.dev d with retrainDue := false, tries := 0 } else s.dev d :=
  foldAll_get (f := fun s d => s.onDev d fun x => { x with retrainDue := false, tries := 0 }) (g := dev)
    (F := fun x => { x with retrainDue := false, tries := 0 }) (fun t k => dev_onDev_self _ _ _)
    (fun t k j hj => (dev_onDev _ _ _ _).trans (if_neg hj)) _ List.nodup_range s d

theorem memc_devsTrained (s : State) : s.devsTrained.memc.temp = s.memc.temp ∧ s.devsTrained.memc.rate = s.memc.rate ∧
    s.devsTrained.clk = s.clk :=
  ⟨foldAll_keeps (fun t : State => t.memc.temp) (fun _ _ => by rfl) _ s,
    foldAll_keeps (fun t : State => t.memc.rate) (fun _ _ => by rfl) _ s,
    foldAll_keeps (fun t : State => t.clk) (fun _ _ => by rfl) _ s⟩

theorem trained_eq (s : State) : s.trained = ({ s.devsTrained with memc := { s.devsTrained.memc with
    trainTemp := s.devsTrained.memc.temp, restTime := 0, restSince := s.devsTrained.clk.now } } : State).maint none := rfl

theorem trained_shows (s : State) : s.Only [.memc] s.trained ∧ s.trained.memc.maint = none ∧
    s.trained.memc.trainTemp = s.memc.temp ∧ s.trained.memc.rate = s.memc.rate ∧
    (∀ d, (s.trained.dev d).st = (s.dev d).st ∧ (s.trained.dev d).slot = (s.dev d).slot) ∧
    ∀ d < 9, (s.trained.dev d).retrainDue = false := by
  obtain ⟨h1, h2, -⟩ := s.memc_devsTrained
  have hd := s.dev_devsTrained
  have ho := trained_only (.refl s _) (List.Subset.refl _)
  have hs : s.trained.memc.maint = none ∧ s.trained.memc.trainTemp = s.devsTrained.memc.temp ∧
      s.trained.memc.rate = s.devsTrained.memc.rate ∧ s.trained.memc.devs = s.devsTrained.memc.devs := by
    rw [trained_eq]
    generalize s.devsTrained = u
    exact ⟨rfl, rfl, rfl, rfl⟩
  obtain ⟨hs1, hs2, hs3, hs4⟩ := hs
  have hdev := fun d => dev_congr hs4 d
  refine ⟨ho, hs1, hs2.trans h1, hs3.trans h2, fun d => ?_, fun d h => ?_⟩
  · rw [hdev, hd]
    split
    · exact ⟨rfl, rfl⟩
    · exact ⟨rfl, rfl⟩
  · rw [hdev, hd, if_pos (List.mem_range.2 h)]

/-! ### The ladder of R356 -/

theorem memFlag_shows (s : State) {f : Bits} (hf : f.lo + f.w ≤ 32) (hw : 0 < f.w) :
    s.Only [.ap, .outbox] (s.memFlag f) ∧ (s.memFlag f).flag R.MEM_FLAGS f = true ∧
      ∀ g : Bits, g.lo + g.w ≤ 32 → (f.lo + f.w ≤ g.lo ∨ g.lo + g.w ≤ f.lo) →
        (s.memFlag f).fld R.MEM_FLAGS g = s.fld R.MEM_FLAGS g :=
  ⟨memFlag_only (.refl s _) (List.Subset.refl _) f, flag_flagIrq _ _ _ _ (by decide) hf hw,
    fun _ hg hd => fld_flagIrq _ _ (by decide) hg hd⟩

theorem memFlags_memMark (s : State) (e d : Nat) : (s.memMark e d).reg R.MEM_FLAGS = s.reg R.MEM_FLAGS :=
  reg_offer (by decide) _ le_rfl _ _ _ _ _

section
variable {s : State} {d : Nat}

/-- Between two trials the memory is trained again, but for the wipe, which trains it once. -/
def again (wiping : Bool) (s : State) : State := if wiping then s else s.retrainAll

theorem again_eq (wiping : Bool) (s : State) : s.again wiping = { s with memc := { s.memc with
    maint := if wiping then s.memc.maint else some (.retrain (s.clk.now + 12000000)) } } := by
  cases wiping <;> rfl

theorem ladder_retry (h : (s.dev d).tries < 3) : s.ladder d = again (s.mode == .sanitise)
    (((s.memFlag Fd.MEM_FLAGS_TRAIN_FAIL).memRecord d).onDev d fun x => { x with tries := x.tries + 1 }) := by
  have hd := dev_congr (congrArg MemSt.devs (memFlag_shows s (f := Fd.MEM_FLAGS_TRAIN_FAIL) (by decide) (by decide)).1.memc) d
  unfold ladder
  dsimp only
  rw [hd, if_pos h]
  rfl

theorem ladder_spare {sp : Nat} (h : 3 ≤ (s.dev d).tries) (hs : s.spare = some sp) : s.ladder d =
    if s.mode == .sanitise then ((s.memFlag Fd.MEM_FLAGS_TRAIN_FAIL).takeSlot d sp).memRecord d
    else ((((s.memFlag Fd.MEM_FLAGS_TRAIN_FAIL).takeSlot d sp).memRecord d).slotLost (s.dev d).slot d).trained := by
  have hd := fun d => dev_congr
    (congrArg MemSt.devs (memFlag_shows s (f := Fd.MEM_FLAGS_TRAIN_FAIL) (by decide) (by decide)).1.memc) d
  have hsp : (s.memFlag Fd.MEM_FLAGS_TRAIN_FAIL).spare = s.spare := by
    unfold spare
    simp only [hd]
  unfold ladder
  dsimp only
  rw [hd, if_neg (Nat.not_lt.2 h), hsp, hs]

theorem ladder_slower (h : 3 ≤ (s.dev d).tries) (hs : s.spare = none) (hr : 14 < s.memc.rate) :
    ∃ u : State, s.Only [.ap, .outbox, .memc, .therm, .host] u ∧
      u.reg R.MEM_FLAGS = (s.memFlag Fd.MEM_FLAGS_TRAIN_FAIL).reg R.MEM_FLAGS ∧
      u.memc = { s.memc with rate := s.memc.rate - 2 } ∧
      s.ladder d = again (s.mode == .sanitise) (((u.memFlag Fd.MEM_FLAGS_RATE_STEP).memMark 5 d).capChanged) := by
  have hm := (memFlag_shows s (f := Fd.MEM_FLAGS_TRAIN_FAIL) (by decide) (by decide)).1
  have hd := fun d => dev_congr (congrArg MemSt.devs hm.memc) d
  have hsp : (s.memFlag Fd.MEM_FLAGS_TRAIN_FAIL).spare = s.spare := by
    unfold spare
    simp only [hd]
  unfold ladder
  dsimp only
  rw [hd, if_neg (Nat.not_lt.2 h), hsp, hs]
  dsimp only
  rw [if_pos (by rw [hm.memc]; exact hr)]
  refine ⟨_, ?_, ?_, ?_, rfl⟩
  · refine memRecord_only ?_ (by simp) d
    refine Only.trans (hm.mono (by simp)) ?_
    simp (maxDischargeDepth := 40) -implicitDefEqProofs
  · rfl
  · rw [← hm.memc]
    rfl

theorem ladder_dead (h : 3 ≤ (s.dev d).tries) (hs : s.spare = none) (hr : s.memc.rate ≤ 14) :
    s.ladder d = (s.memFlag Fd.MEM_FLAGS_TRAIN_FAIL).deviceDead d := by
  have hm := (memFlag_shows s (f := Fd.MEM_FLAGS_TRAIN_FAIL) (by decide) (by decide)).1
  have hd := fun d => dev_congr (congrArg MemSt.devs hm.memc) d
  have hsp : (s.memFlag Fd.MEM_FLAGS_TRAIN_FAIL).spare = s.spare := by
    unfold spare
    simp only [hd]
  unfold ladder
  dsimp only
  rw [hd, if_neg (Nat.not_lt.2 h), hsp, hs]
  dsimp only
  rw [if_neg (by rw [hm.memc]; exact Nat.not_lt.2 hr)]

end

/-- A device that is given up, outside RUN and ARMED and with no transition. -/
theorem deviceDead_shows {s : State} (d : Nat) (ht : s.transit = none) (hr : s.mode ≠ .run) (ha : s.mode ≠ .armed) :
    (s.deviceDead d).mode = s.mode ∧ ((s.deviceDead d).dev d).st = .dead ∧ (s.deviceDead d).memc.maint = none ∧
      (s.deviceDead d).flag R.MEM_FLAGS Fd.MEM_FLAGS_DEAD = true ∧
      (s.deviceDead d).fld R.MEM_FLAGS Fd.MEM_FLAGS_TRAIN_FAIL = s.fld R.MEM_FLAGS Fd.MEM_FLAGS_TRAIN_FAIL := by
  obtain ⟨u, hu, hst, hap⟩ : ∃ u : State, s.Only [.memc, .host] u ∧ (u.dev d).st = .dead ∧ u.ap = s.ap ∧
      s.deviceDead d = (let v := (u.memFlag Fd.MEM_FLAGS_DEAD).memMark 4 d
        let only := v.patterned && v.allResident
        let w := (({ v with memc := { v.memc with cacheOnly := only } } : State).maint none).capChanged
        if only then w.breach Fd.TOP_BREACH_TIER6 else w) := by
    refine ⟨_, ?_, ?_, ?_, rfl⟩
    · simp (maxDischargeDepth := 40) -implicitDefEqProofs
    · exact congrArg MemDev.st (dev_onDev_self s d _)
    · rfl
  obtain ⟨hap, he⟩ := hap
  obtain ⟨hmo, hmf, hmd⟩ := memFlag_shows u (f := Fd.MEM_FLAGS_DEAD) (by decide) (by decide)
  obtain ⟨v, hv⟩ : ∃ v : State, v = (u.memFlag Fd.MEM_FLAGS_DEAD).memMark 4 d := ⟨_, rfl⟩
  have hvo : u.Only [.ap, .fms, .tally, .outbox] v := by
    rw [hv]
    exact memMark_only (hmo.mono (by simp)) (List.Subset.refl _) 4 d
  have hvr : v.reg R.MEM_FLAGS = (u.memFlag Fd.MEM_FLAGS_DEAD).reg R.MEM_FLAGS := by rw [hv, memFlags_memMark]
  rw [← hv] at he
  clear hv
  obtain ⟨w, hw⟩ : ∃ w : State, w = (({ v with memc := { v.memc with cacheOnly := v.patterned && v.allResident } } :
    State).maint none) := ⟨_, rfl⟩
  dsimp only at he
  rw [← hw] at he
  have hwo : v.Only [.memc] w := by
    rw [hw]
    simp (maxDischargeDepth := 40) -implicitDefEqProofs
  have hwm : w.memc.maint = none ∧ w.memc.devs = v.memc.devs := by
    rw [hw]
    exact ⟨rfl, rfl⟩
  have hmode : w.mode = s.mode := by rw [hwo.mode, hvo.mode, hu.mode]
  obtain ⟨hco, hcf⟩ := capChanged_quiet (s := w) (by rw [hwo.transit, hvo.transit, hu.transit, ht])
    (by rw [hmode]; exact hr) (by rw [hmode]; exact ha)
  have hbo : w.capChanged.Only [.ap] (s.deviceDead d) := by
    rw [he]
    split
    · exact raise_only (.refl _ _) (List.Subset.refl _) _ _
    · exact .refl _ _
  have hbf : (s.deviceDead d).reg R.MEM_FLAGS = w.capChanged.reg R.MEM_FLAGS := by
    rw [he]
    split
    · rw [breach, reg_raise_ne _ _ _ _ (by decide)]
    · rfl
  have hreg : (s.deviceDead d).reg R.MEM_FLAGS = (u.memFlag Fd.MEM_FLAGS_DEAD).reg R.MEM_FLAGS := by
    rw [hbf, hcf, hwo.reg, hvr]
  have hmemc : (s.deviceDead d).memc = w.memc := by rw [hbo.memc, hco.memc]
  refine ⟨by rw [hbo.mode, hco.mode, hmode], ?_, by rw [hmemc, hwm.1], ?_, ?_⟩
  · have : (s.deviceDead d).memc.devs = u.memc.devs := by rw [hmemc, hwm.2, hvo.memc]
    rw [dev_congr this, hst]
  · rw [flag_congr hreg, hmf]
  · rw [fld_congr hreg, hmd _ (by decide) (by decide), fld_congr (s := s)]
    rw [reg, hap, reg]

/-- What the ladder of R356 does with a device, with no transition and outside RUN and ARMED. -/
structure LadderShows (s : State) (d : Nat) (t : State) : Prop where
  fail : t.flag R.MEM_FLAGS Fd.MEM_FLAGS_TRAIN_FAIL = true
  mode : t.mode = s.mode
  retry : (s.dev d).tries < 3 → (t.dev d).tries = (s.dev d).tries + 1 ∧ t.memc.rate = s.memc.rate ∧
    t.memc.maint = if s.mode == .sanitise then s.memc.maint else some (.retrain (s.clk.now + 12000000))
  spare : ∀ sp, 3 ≤ (s.dev d).tries → s.spare = some sp → (t.dev d).st = .retired ∧ (t.dev sp).st = .active ∧
    (t.dev sp).slot = (s.dev d).slot ∧ t.memc.rate = s.memc.rate ∧
    (s.mode = .sanitise → t.memc.maint = s.memc.maint) ∧
    (s.mode ≠ .sanitise → ∀ o, o / 64 % 8 = (s.dev d).slot → t.byteAt o = 0)
  slower : 3 ≤ (s.dev d).tries → s.spare = none → 14 < s.memc.rate → t.memc.rate = s.memc.rate - 2 ∧
    t.flag R.MEM_FLAGS Fd.MEM_FLAGS_RATE_STEP = true ∧
    t.memc.maint = if s.mode == .sanitise then s.memc.maint else some (.retrain (s.clk.now + 12000000))
  dead : 3 ≤ (s.dev d).tries → s.spare = none → s.memc.rate ≤ 14 → (t.dev d).st = .dead ∧
    t.flag R.MEM_FLAGS Fd.MEM_FLAGS_DEAD = true ∧ t.memc.maint = none

theorem spare_ne {s : State} {d sp : Nat} (h : (s.dev d).st = .active) (hs : s.spare = some sp) : sp ≠ d := by
  rintro rfl
  have := List.find?_some hs
  simp [h] at this

theorem ladder_shows {s : State} {d : Nat} (hd : (s.dev d).st = .active) (ht : s.transit = none) (hr : s.mode ≠ .run)
    (ha : s.mode ≠ .armed) : LadderShows s d (s.ladder d) := by
  obtain ⟨hmo, hmf, -⟩ := memFlag_shows s (f := Fd.MEM_FLAGS_TRAIN_FAIL) (by decide) (by decide)
  have hdev := fun d => dev_congr (congrArg MemSt.devs hmo.memc) d
  by_cases h3 : (s.dev d).tries < 3
  · have hn : ¬ 3 ≤ (s.dev d).tries := Nat.not_le.2 h3
    rw [ladder_retry h3]
    generalize s.memFlag Fd.MEM_FLAGS_TRAIN_FAIL = u at hmo hmf hdev
    obtain ⟨v, hv⟩ : ∃ v : State, v = (u.memRecord d).onDev d fun x => { x with tries := x.tries + 1 } := ⟨_, rfl⟩
    have hvo : u.Only [.memc, .host] v := by
      rw [hv]
      simp (maxDischargeDepth := 40) -implicitDefEqProofs
    have hvd : (v.dev d).tries = (s.dev d).tries + 1 := by
      rw [hv, dev_onDev_self, ← hdev]
      rfl
    have hvm : v.memc.rate = s.memc.rate ∧ v.memc.maint = s.memc.maint := by
      rw [hv, ← hmo.memc]
      exact ⟨rfl, rfl⟩
    rw [← hv, again_eq]
    clear hv
    refine ⟨(flag_congr (hvo.reg _) _).trans hmf, hvo.mode.trans hmo.mode, fun _ => ⟨hvd, hvm.1, ?_⟩,
      fun _ h => absurd h hn, fun h => absurd h hn, fun h => absurd h hn⟩
    dsimp only
    rw [hvm.2, hvo.clk, hmo.clk]
  · rw [Nat.not_lt] at h3
    have hn := Nat.not_lt.2 h3
    cases hs : s.spare with
    | some sp =>
      have hne := spare_ne hd hs
      rw [ladder_spare h3 hs]
      have htk := takeSlot_only (.refl (s.memFlag Fd.MEM_FLAGS_TRAIN_FAIL) [.memc]) (List.Subset.refl _) d sp
      obtain ⟨h1, h2, h4⟩ := dev_takeSlot (s.memFlag Fd.MEM_FLAGS_TRAIN_FAIL) hne
      have hmaint : ((s.memFlag Fd.MEM_FLAGS_TRAIN_FAIL).takeSlot d sp).memc.maint =
          (s.memFlag Fd.MEM_FLAGS_TRAIN_FAIL).memc.maint := rfl
      have hrate : ((s.memFlag Fd.MEM_FLAGS_TRAIN_FAIL).takeSlot d sp).memc.rate =
          (s.memFlag Fd.MEM_FLAGS_TRAIN_FAIL).memc.rate := rfl
      rw [hdev] at h4
      rw [hmo.memc] at hmaint hrate
      have hfl := flag_congr (htk.reg R.MEM_FLAGS) Fd.MEM_FLAGS_TRAIN_FAIL
      rw [hmf] at hfl
      have hmode := htk.mode.trans hmo.mode
      generalize (s.memFlag Fd.MEM_FLAGS_TRAIN_FAIL).takeSlot d sp = u at h1 h2 h4 hmaint hrate hfl hmode
      have hrec := memRecord_only (.refl u _) (List.Subset.refl _) d
      have hrd := fun k => dev_congr (congrArg MemSt.devs hrec.memc) k
      have hfl' := (flag_congr (hrec.reg R.MEM_FLAGS) _).trans hfl
      rw [← hrd] at h1 h2 h4
      rw [← hrec.memc] at hmaint hrate
      rw [← hrec.mode] at hmode
      generalize u.memRecord d = v at h1 h2 h4 hmaint hrate hfl' hmode
      clear hrec hrd hfl
      by_cases hm : s.mode = .sanitise
      · rw [if_pos (by simp [hm])]
        refine ⟨hfl', hmode, fun h => absurd h hn, fun sp' _ h => ?_, fun _ h => ?_, fun _ h => ?_⟩
        · obtain rfl := Option.some.inj (hs.symm.trans h)
          exact ⟨h1, h2, h4, hrate, fun _ => hmaint, fun h => absurd hm h⟩
        · exact absurd (hs.symm.trans h) (by simp)
        · exact absurd (hs.symm.trans h) (by simp)
      · rw [if_neg (by simpa using hm)]
        obtain ⟨hso, hsr, hsd, hsm, hsb⟩ := v.slotLost_shows (s.dev d).slot d
        generalize v.slotLost (s.dev d).slot d = w at hso hsr hsd hsm hsb
        obtain ⟨hto, -, -, htr, htd, -⟩ := w.trained_shows
        have hwd := fun k => dev_congr hsd k
        refine ⟨?_, ?_, fun h => absurd h hn, fun sp' _ h => ?_, fun _ h => ?_, fun _ h => ?_⟩
        · rw [flag_congr (hto.reg _), flag_congr hsr, hfl']
        · rw [hto.mode, hso.mode, hmode]
        · obtain rfl := Option.some.inj (hs.symm.trans h)
          obtain ⟨ha1, -⟩ := htd d
          obtain ⟨hb1, hb2⟩ := htd sp
          rw [ha1, hb1, hb2, hwd, hwd, htr, hsm]
          refine ⟨h1, h2, h4, hrate, fun h => absurd h hm, fun _ o ho => ?_⟩
          rw [byteAt, hto.mem]
          exact hsb o ho
        · exact absurd (hs.symm.trans h) (by simp)
        · exact absurd (hs.symm.trans h) (by simp)
    | none =>
      by_cases h14 : 14 < s.memc.rate
      · obtain ⟨u, hu, huf, hum, he⟩ := ladder_slower h3 hs h14
        obtain ⟨huo, hur, hud⟩ := memFlag_shows u (f := Fd.MEM_FLAGS_RATE_STEP) (by decide) (by decide)
        have hmk := memMark_only (.refl (u.memFlag Fd.MEM_FLAGS_RATE_STEP) _) (List.Subset.refl _) 5 d
        have hmr := memFlags_memMark (u.memFlag Fd.MEM_FLAGS_RATE_STEP) 5 d
        have hfail := (hud Fd.MEM_FLAGS_TRAIN_FAIL (by decide) (by decide)).trans (fld_congr huf _)
        rw [he]
        generalize u.memFlag Fd.MEM_FLAGS_RATE_STEP = v at huo hur hmk hmr hfail
        generalize v.memMark 5 d = w at hmk hmr
        have hmode : w.mode = s.mode := by rw [hmk.mode, huo.mode, hu.mode]
        obtain ⟨hco, hcr⟩ := capChanged_quiet (s := w) (by rw [hmk.transit, huo.transit, hu.transit, ht])
          (by rw [hmode]; exact hr) (by rw [hmode]; exact ha)
        generalize w.capChanged = x at hco hcr
        have hmemc : x.memc = { s.memc with rate := s.memc.rate - 2 } := by
          rw [hco.memc, hmk.memc, huo.memc, hum]
        have hreg := hcr.trans hmr
        have hclk : x.clk = s.clk := by rw [hco.clk, hmk.clk, huo.clk, hu.clk]
        rw [again_eq]
        refine ⟨?_, hco.mode.trans hmode, fun h => absurd h hn, fun sp _ h => ?_, fun _ _ _ => ⟨?_, ?_, ?_⟩,
          fun _ _ h => absurd h14 (Nat.not_lt.2 h)⟩
        · exact (flag_congr hreg _).trans ((congrArg (· != 0) hfail).trans hmf)
        · exact absurd (hs.symm.trans h) (by simp)
        · exact congrArg MemSt.rate hmemc
        · exact (flag_congr hreg _).trans hur
        · dsimp only
          rw [hmemc, hclk]
      · rw [ladder_dead h3 hs (Nat.not_lt.1 h14)]
        obtain ⟨h1, h2, h4, h5, h6⟩ := deviceDead_shows (s := s.memFlag Fd.MEM_FLAGS_TRAIN_FAIL) d
          (hmo.transit.trans ht) (by rw [hmo.mode]; exact hr) (by rw [hmo.mode]; exact ha)
        refine ⟨?_, h1.trans hmo.mode, fun h => absurd h hn, fun sp _ h => ?_, fun _ _ h => absurd h h14,
          fun _ _ _ => ⟨h2, h5, h4⟩⟩
        · rw [flag, h6, ← flag, hmf]
        · exact absurd (hs.symm.trans h) (by simp)

theorem capRt_dead {s : State} {d : Nat} (hd : d < 9) (h : (s.dev d).st = .dead) : s.capRt = 0 := by
  unfold capRt
  refine if_pos ?_
  unfold memDead
  exact List.any_eq_true.2 ⟨d, List.mem_range.2 hd, by simp [h]⟩

end State

theorem maintOk_mode {s : State} (h : s.maintOk = true) : (s.mode = .hold ∨ s.mode = .idle) ∧ s.inTransit = false := by
  simp only [State.maintOk, Bool.and_eq_true, Bool.or_eq_true, beq_iff_eq, Bool.not_eq_true'] at h
  exact h.1

theorem maintOk_of {s : State} (h : s.mode ≠ .hold ∧ s.mode ≠ .idle ∨ s.inTransit = true) : s.maintOk = false := by
  by_contra hc
  obtain ⟨hm, hi⟩ := maintOk_mode (by simpa using hc)
  rcases h with ⟨h1, h2⟩ | h
  · exact hm.elim h1 h2
  · simp [hi] at h

theorem retrainStart_off {s : State} (h : s.maintOk = false ∨ s.retrainDue = false) : retrainStart s = s := by
  unfold retrainStart
  exact if_neg (by rcases h with h | h <;> simp [h])

theorem retirementStart_off {s : State} (h : s.maintOk = false ∨ s.firstDue = none ∨ s.spare = none) :
    retirementStart s = s := by
  unfold retirementStart
  split
  · next h1 h2 =>
    refine if_neg ?_
    rcases h with h | h | h
    · simp [h]
    · simp [h1] at h
    · simp [h2] at h
  · rfl

/-- The end of a retirement, with no transition and outside RUN and ARMED (R357, R358). -/
theorem migrationDone_shows {s : State} {d sp due : Nat} (hm : s.memc.maint = some (.migrate d sp due))
    (hd : due ≤ s.clk.now) (hne : d ≠ sp) (hmode : s.mode = .hold ∨ s.mode = .idle) (ht : s.transit = none) :
    (migrationDone s).memc.maint = none ∧ ((migrationDone s).dev d).st = .retired ∧
      ((migrationDone s).dev sp).st = .active ∧ ((migrationDone s).dev sp).slot = (s.dev d).slot ∧
      (migrationDone s).mem = s.mem := by
  obtain ⟨u, hu, hum, hud, he⟩ : ∃ u : State, s.Only [.memc, .ap, .fms, .tally, .outbox, .host] u ∧ u.memc.maint = none ∧
      u.memc.devs = (s.takeSlot d sp).memc.devs ∧ migrationDone s =
        (if u.firstDue.isSome && u.spare.isNone then u.memFlag Fd.MEM_FLAGS_RETIRE_NO_SPARE else u).capChanged := by
    unfold migrationDone
    rw [hm]
    dsimp only
    rw [if_neg (Nat.not_lt.2 hd)]
    have hrec := State.memRecord_only (.refl (s.takeSlot d sp) _) (List.Subset.refl _) d
    have hmk := State.memMark_only (.refl ((s.takeSlot d sp).memRecord d) _) (List.Subset.refl _) 3 d
    refine ⟨_, ?_, rfl, ?_, rfl⟩
    · simp (maxDischargeDepth := 40) -implicitDefEqProofs
    · exact (congrArg MemSt.devs hmk.memc).trans (congrArg MemSt.devs hrec.memc)
  obtain ⟨v, hv⟩ : ∃ v : State, v = if u.firstDue.isSome && u.spare.isNone then
    u.memFlag Fd.MEM_FLAGS_RETIRE_NO_SPARE else u := ⟨_, rfl⟩
  have hvo : u.Only [.ap, .outbox] v := by
    rw [hv]
    split
    · exact State.memFlag_only (.refl _ _) (List.Subset.refl _) _
    · exact .refl _ _
  rw [← hv] at he
  have hvm : v.mode = s.mode := by rw [hvo.mode, hu.mode]
  obtain ⟨hco, -⟩ := State.capChanged_quiet (s := v) (by rw [hvo.transit, hu.transit, ht])
    (by rcases hmode with h | h <;> simp [hvm, h]) (by rcases hmode with h | h <;> simp [hvm, h])
  have hmemc : (migrationDone s).memc = u.memc := by rw [he, hco.memc, hvo.memc]
  have hdev := fun k => State.dev_congr ((congrArg MemSt.devs hmemc).trans hud) k
  obtain ⟨h1, h2, h3⟩ := s.dev_takeSlot hne.symm
  refine ⟨by rw [hmemc, hum], by rw [hdev, h1], by rw [hdev, h2], by rw [hdev, h3], ?_⟩
  rw [he, hco.mem, hvo.mem, hu.mem]

theorem retrainDone_ladder {s : State} {d : Nat} (h : (∃ due, s.memc.maint = some (.retrain due) ∧ due ≤ s.clk.now) ∨
    s.memc.maint = none ∧ s.mode = .sanitise) (hd : (s.dev d).st = .active) : retrainDone (some d) s = s.ladder d := by
  unfold retrainDone
  rcases h with ⟨due, h, hdue⟩ | ⟨h, hm⟩
  · rw [h]
    dsimp only
    rw [if_neg (Nat.not_lt.2 hdue), if_pos (by simp [hd])]
  · rw [h]
    dsimp only
    rw [if_pos (by simp [hm, hd])]

/-- Settles O46. -/
theorem memoryMaintenance : Obligations.MemoryMaintenance := by
  unfold Obligations.MemoryMaintenance
  refine ⟨fun s hp => completes_of_powered hp rfl ⟨fun hm hr => ?_, fun h => ?_⟩,
    fun s hp => completes_of_powered hp rfl ⟨fun hm hr hi hd => ?_, fun h => ?_⟩,
    fun s hp hok hdue hdead => completes_of_powered hp rfl ?_,
    fun d sp s hp hd hsp hok hdead => completes_of_powered hp rfl ?_,
    fun s hp => ⟨fun h1 h2 => ?_, fun h => ?_, fun h => exec_of_powered hp rfl (retrainStart_off (.inr h)),
      fun h => exec_of_powered hp rfl (retirementStart_off (.inr h))⟩,
    fun due s hp hm hd => completes_of_powered hp rfl ?_,
    fun due d s hp hm hd hmode ht hst => completes_of_powered hp rfl ?_,
    fun d s hp hm hmode ht hst => completes_of_powered hp rfl ?_,
    fun d sp due s hp hm hd hne hmode ht => completes_of_powered hp rfl (migrationDone_shows hm hd hne hmode ht),
    fun f d sp due s hp => ⟨fun h => ⟨?_, ?_⟩, fun h hm => ?_, fun h => ⟨?_, fun hlt => ?_⟩, fun h => ⟨?_, fun hlt => ?_⟩⟩⟩
  · obtain ⟨h1, h2⟩ := State.memWake_wakes hr
    unfold selfRefreshExit
    rw [if_pos (by simp [hm, hr])]
    exact ⟨h1, h2, (State.memWake_only (.refl s _) (List.Subset.refl _)).ap⟩
  · unfold selfRefreshExit
    exact if_neg (by rcases h with h | h <;> simp [h])
  · unfold selfRefreshEntry
    rw [if_pos (by simp [hm, hr, hi, hd])]
    exact ⟨rfl, fun c => get_debtsPaid _ _⟩
  · unfold selfRefreshEntry
    refine if_neg ?_
    rcases h with h | h | h
    · simp [h]
    · simp [h]
    · simp [Nat.not_le.2 h]
  · unfold retrainStart
    rw [if_pos (by simp [hok, hdue, hdead])]
    have hw := State.memWake_only (.refl s _) (List.Subset.refl _)
    generalize s.memWake = u at hw
    refine ⟨?_, ?_, hw.mode⟩
    · rw [← hw.clk]
      rfl
    · exact Bool.or_true _
  · unfold retirementStart
    rw [hd, hsp]
    dsimp only
    rw [if_pos (by simp [hok, hdead])]
    have hr := State.memRecord_only (.refl s _) (List.Subset.refl _) d
    have hw := State.memWake_only (.refl (s.memRecord d) _) (List.Subset.refl _)
    generalize (s.memRecord d).memWake = u at hw
    exact ⟨hw.mode.trans hr.mode, Bool.or_true _, rfl⟩
  · have h := maintOk_of (s := s) (.inl ⟨h1, h2⟩)
    exact ⟨exec_of_powered hp rfl (retrainStart_off (.inl h)), exec_of_powered hp rfl (retirementStart_off (.inl h))⟩
  · have h := maintOk_of (s := s) (.inr h)
    exact ⟨exec_of_powered hp rfl (retrainStart_off (.inl h)), exec_of_powered hp rfl (retirementStart_off (.inl h))⟩
  · have he : retrainDone none s = s.trained := by
      unfold retrainDone
      rw [hm]
      exact if_neg (Nat.not_lt.2 hd)
    obtain ⟨ho, h1, h2, -, -, h3⟩ := s.trained_shows
    rw [Option.map_none, he]
    exact ⟨h1, fun d => h3 d d.isLt, h2, ho.mode⟩
  · have hns : s.mode ≠ .sanitise := by rcases hmode with h | h <;> simp [h]
    obtain ⟨h1, h2, h3, h4, h5, h6⟩ := State.ladder_shows hst ht (by rcases hmode with h | h <;> simp [h])
      (by rcases hmode with h | h <;> simp [h])
    rw [if_neg (by simpa using hns)] at h3 h5
    rw [Option.map_some, retrainDone_ladder (.inl ⟨due, hm, hd⟩) hst]
    refine ⟨h1, h2, h3, fun sp h hsp => ?_, h5, fun h hsp hr => ?_⟩
    · obtain ⟨ha, hb, hc, hrate, -, hz⟩ := h4 sp h hsp
      exact ⟨ha, hb, hc, hrate, hz hns⟩
    · obtain ⟨ha, hb, hc⟩ := h6 h hsp hr
      exact ⟨ha, State.capRt_dead d.isLt ha, hb, hc⟩
  · obtain ⟨h1, h2, h3, h4, h5, h6⟩ := State.ladder_shows hst ht (by simp [hmode]) (by simp [hmode])
    rw [if_pos (by simp [hmode])] at h3 h5
    rw [Option.map_some, retrainDone_ladder (.inr ⟨hm, hmode⟩) hst]
    have hmaint : (s.ladder d).memc.maint = none := by
      by_cases h : (s.dev d).tries < 3
      · exact (h3 h).2.2.trans hm
      · have h := Nat.not_lt.1 h
        cases hsp : s.spare with
        | some sp =>
          obtain ⟨-, -, -, -, hk, -⟩ := h4 sp h hsp
          exact (hk hmode).trans hm
        | none =>
          by_cases hr : 14 < s.memc.rate
          · exact (h5 h hsp hr).2.2.trans hm
          · exact (h6 h hsp (Nat.not_lt.1 hr)).2.2
    refine ⟨h1, h2.trans hmode, hmaint, fun h => ?_, fun sp h hsp => ?_, fun h hsp hr => ?_, fun h hsp hr => ?_⟩
    · exact ⟨(h3 h).1, (h3 h).2.1⟩
    · obtain ⟨ha, hb, hc, hrate, -⟩ := h4 sp h hsp
      exact ⟨ha, hb, hc, hrate⟩
    · exact ⟨(h5 h hsp hr).1, (h5 h hsp hr).2.1⟩
    · exact ⟨(h6 h hsp hr).1, (h6 h hsp hr).2.1⟩
  · exact exec_of_powered hp rfl (by unfold migrationDone; rw [h])
  · exact exec_of_powered hp rfl (by unfold retrainDone; rw [h]; rfl)
  · refine exec_of_powered hp rfl ?_
    unfold retrainDone
    rw [h]
    cases f with
    | none => rfl
    | some d => exact if_neg (by simp [hm])
  · exact exec_of_powered hp rfl (by unfold migrationDone; rw [h])
  · refine exec_of_powered hp rfl ?_
    unfold retrainDone
    rw [h]
    exact if_pos hlt
  · exact exec_of_powered hp rfl (by unfold retrainDone; rw [h])
  · refine exec_of_powered hp rfl ?_
    unfold migrationDone
    rw [h]
    exact if_pos hlt

end Sys2Proof.Machine
end

section
/-! Refresh debt and the memory temperature (O44). -/
namespace Sys2Proof.Machine

-- One proof at a time: elaborated side by side, the proofs of so long a text need too much memory.
set_option Elab.async false

/-- A view that each member of a list leaves where something holds of it, which the others leave, the whole list leaves. -/
theorem foldAll_keeps_of {α β : Type} (P : State → α → Prop) (g : State → β) {f : State → α → State} (xs : List α)
    (hx : xs.Nodup) (hg : ∀ s x, P s x → g (f s x) = g s) (hP : ∀ s x j, j ≠ x → P s j → P (f s x) j) (s : State)
    (h : ∀ x ∈ xs, P s x) : g (foldAll f s xs) = g s := by
  unfold foldAll
  induction xs generalizing s with
  | nil => rfl
  | cons x xs ih =>
    obtain ⟨hn, hx⟩ := List.nodup_cons.1 hx
    rw [List.foldl_cons, ih hx, hg s x (h x List.mem_cons_self)]
    intro j hj
    exact hP s x j (fun e => hn (e ▸ hj)) (h j (List.mem_cons_of_mem _ hj))

namespace State

/-! ### Debts -/

theorem mch_congr {s t : State} (h : t.memc.chans = s.memc.chans) (c : Nat) : t.mch c = s.mch c := by
  rw [mch, h, mch]

theorem mch_setDebt (s : State) (c debt : Nat) (catchUp : Bool) (j : Nat) : (s.setDebt c debt catchUp).mch j =
    if j = c then { s.mch c with debt := debt, catchUp := catchUp && debt != 0 } else s.mch j := by
  unfold setDebt
  rw [mch_congr (congrArg MemSt.chans (setFld_memc _ _ _ _)), mch_onMch]

theorem forced_setDebt (s : State) (c debt : Nat) (catchUp : Bool) :
    (s.setDebt c debt catchUp).fld R.MEM_REFDEBT Fd.MEM_REFDEBT_FORCED =
      s.fld R.MEM_REFDEBT Fd.MEM_REFDEBT_FORCED := by
  unfold setDebt
  rw [fld_setFld_disj _ _ _ _ _ (by decide) (by decide), fld_congr (reg_onMch _ _ _ _)]

theorem memFlags_setDebt (s : State) (c debt : Nat) (catchUp : Bool) :
    (s.setDebt c debt catchUp).reg R.MEM_FLAGS = s.reg R.MEM_FLAGS := by
  unfold setDebt
  rw [reg_setFld_ne _ _ _ _ _ (by decide), reg_onMch]

theorem forced_forced (s : State) (n : Nat) : (s.forced n).fld R.MEM_REFDEBT Fd.MEM_REFDEBT_FORCED =
    min (s.fld R.MEM_REFDEBT Fd.MEM_REFDEBT_FORCED + n) 65535 := fld_satAdd _ _ _ _ (by decide)

theorem forced_memc (s : State) (n : Nat) : (s.forced n).memc = s.memc := setFld_memc _ _ _ _

theorem memFlags_forced (s : State) (n : Nat) : (s.forced n).reg R.MEM_FLAGS = s.reg R.MEM_FLAGS :=
  reg_satAdd_ne _ _ _ _ _ (by decide)

/-! ### Channels at a sample -/

/-- What a channel's step at a sample leaves of the temperature's state. -/
def tempKept (s t : State) : Prop :=
  t.memc.temp = s.memc.temp ∧ t.memc.hot = s.memc.hot ∧ t.memc.guard = s.memc.guard ∧
    t.reg R.MEM_FLAGS = s.reg R.MEM_FLAGS

theorem setDebt_tempKept (s : State) (c debt : Nat) (catchUp : Bool) : s.tempKept (s.setDebt c debt catchUp) := by
  refine ⟨?_, ?_, ?_, memFlags_setDebt _ _ _ _⟩ <;>
  · unfold setDebt
    rw [setFld_memc]
    rfl

theorem forced_tempKept (s : State) (n : Nat) : s.tempKept (s.forced n) := by
  rw [tempKept, forced_memc]
  exact ⟨rfl, rfl, rfl, memFlags_forced _ _⟩

theorem tempKept.trans {s t u : State} (h : s.tempKept t) (k : t.tempKept u) : s.tempKept u := by
  obtain ⟨h1, h2, h3, h4⟩ := h
  obtain ⟨k1, k2, k3, k4⟩ := k
  exact ⟨k1.trans h1, k2.trans h2, k3.trans h3, k4.trans h4⟩

theorem tempKept_foldAll {f : State → Nat → State} (h : ∀ (s : State) c, s.tempKept (f s c)) (xs : List Nat) (s : State) :
    s.tempKept (foldAll f s xs) := by
  unfold foldAll
  induction xs generalizing s with
  | nil => exact ⟨rfl, rfl, rfl, rfl⟩
  | cons x xs ih => exact (h s x).trans (ih _)

theorem mch_hotEnter (s : State) (c j : Nat) : (s.hotEnter c).mch j = if j = c then
    { s.mch c with debt := min (2 * (s.mch c).debt) 128, catchUp := decide ((s.mch c).debt ≠ 0) } else s.mch j := by
  have hf : ∀ (t : State) n k, (t.forced n).mch k = t.mch k := fun t n k =>
    mch_congr (congrArg MemSt.chans (forced_memc t n)) k
  unfold hotEnter
  dsimp only
  split
  · next h =>
    rw [mch_setDebt, hf, mch_setDebt, hf, mch_setDebt]
    by_cases hj : j = c
    · have : (s.mch c).debt ≠ 0 := by omega
      simp [hj, this]
      omega
    · simp [hj]
  · next h =>
    rw [mch_setDebt]
    by_cases hj : j = c
    · have hb : (2 * (s.mch c).debt != 0) = decide ((s.mch c).debt ≠ 0) := by
        rw [Bool.eq_iff_iff, bne_iff_ne, decide_eq_true_iff]
        omega
      rw [if_pos hj, if_pos hj, Bool.true_and, hb, Nat.min_eq_left (Nat.not_lt.1 h)]
    · rw [if_neg hj, if_neg hj]

theorem hotEnter_tempKept (s : State) (c : Nat) : s.tempKept (s.hotEnter c) := by
  unfold hotEnter
  dsimp only
  split
  · exact ((setDebt_tempKept _ _ _ _).trans (forced_tempKept _ _)).trans (setDebt_tempKept _ _ _ _)
  · exact setDebt_tempKept _ _ _ _

theorem forced_hotEnter {s : State} {c : Nat} (h : (s.mch c).debt ≤ 64) :
    (s.hotEnter c).fld R.MEM_REFDEBT Fd.MEM_REFDEBT_FORCED = s.fld R.MEM_REFDEBT Fd.MEM_REFDEBT_FORCED := by
  unfold hotEnter
  dsimp only
  rw [if_neg (by omega), forced_setDebt]

theorem mch_guardEnter_ne (s : State) {c j : Nat} (h : j ≠ c) : (s.guardEnter c).mch j = s.mch j := by
  unfold guardEnter
  dsimp only
  split
  · rw [mch_setDebt, if_neg h, mch_congr (congrArg MemSt.chans (forced_memc _ _))]
  · rfl

theorem debt_guardEnter (s : State) (c : Nat) : ((s.guardEnter c).mch c).debt = min (s.mch c).debt 64 := by
  unfold guardEnter
  dsimp only
  split
  · next h => rw [mch_setDebt, if_pos rfl, Nat.min_eq_right h.le]
  · omega

theorem guardEnter_tempKept (s : State) (c : Nat) : s.tempKept (s.guardEnter c) := by
  unfold guardEnter
  dsimp only
  split
  · exact (forced_tempKept _ _).trans (setDebt_tempKept _ _ _ _)
  · exact ⟨rfl, rfl, rfl, rfl⟩

theorem forced_guardEnter {s : State} {c : Nat} (h : (s.mch c).debt ≤ 64) :
    (s.guardEnter c).fld R.MEM_REFDEBT Fd.MEM_REFDEBT_FORCED = s.fld R.MEM_REFDEBT Fd.MEM_REFDEBT_FORCED := by
  unfold guardEnter
  dsimp only
  rw [if_neg (by omega)]

theorem mch_hotLeave (s : State) (c j : Nat) : (s.hotLeave c).mch j = if j = c then
    { s.mch c with
      debt := alignUp (((s.mch c).debt + 1) / 2) s.refreshUnit
      catchUp := (s.mch c).catchUp && alignUp (((s.mch c).debt + 1) / 2) s.refreshUnit != 0 } else s.mch j :=
  mch_setDebt _ _ _ _ _

theorem hotLeave_tempKept (s : State) (c : Nat) : s.tempKept (s.hotLeave c) := setDebt_tempKept _ _ _ _

/-! ### All the channels -/

/-- All 18 channels, one by one. -/
def eachMch (f : State → Nat → State) (s : State) : State := foldAll f s (List.range 18)

theorem mch_eachMch {f : State → Nat → State} (hne : ∀ (s : State) {c j}, j ≠ c → (f s c).mch j = s.mch j) (s : State)
    {c : Nat} (hc : c < 18) : ∃ t : State, t.mch c = s.mch c ∧ (eachMch f s).mch c = (f t c).mch c := by
  obtain ⟨-, -, h⟩ := foldAll_view (f := f) (fun _ => True) (fun t => t.mch c) c (List.range 18) List.nodup_range
    (fun _ _ _ _ => trivial) (fun k _ hk t _ => hne t hk.symm) s trivial
  obtain ⟨t, -, ht⟩ := h (List.mem_range.2 hc)
  exact ⟨t, ht⟩

theorem mch_hotEnter_all (s : State) {c : Nat} (hc : c < 18) :
    ((eachMch hotEnter s).mch c).debt = min (2 * (s.mch c).debt) 128 ∧
      ((eachMch hotEnter s).mch c).catchUp = decide ((s.mch c).debt ≠ 0) := by
  obtain ⟨t, ht, he⟩ := mch_eachMch (f := hotEnter)
    (fun s c j h => by rw [mch_hotEnter, if_neg h]) s hc
  rw [he, mch_hotEnter, if_pos rfl, ht]
  exact ⟨rfl, rfl⟩

theorem debt_guardEnter_all (s : State) {c : Nat} (hc : c < 18) :
    ((eachMch guardEnter s).mch c).debt = min (s.mch c).debt 64 := by
  obtain ⟨t, ht, he⟩ := mch_eachMch (f := guardEnter) (fun s c j h => mch_guardEnter_ne s h) s hc
  rw [he, debt_guardEnter, ht]

theorem refreshUnit_hotLeave (s : State) (c : Nat) : (s.hotLeave c).refreshUnit = s.refreshUnit := by
  unfold hotLeave setDebt refreshUnit
  rw [setFld_memc]
  rfl

theorem debt_hotLeave_all (s : State) (h : s.refreshUnit = 1) {c : Nat} (hc : c < 18) :
    ((eachMch hotLeave s).mch c).debt = ((s.mch c).debt + 1) / 2 := by
  obtain ⟨-, -, hv⟩ := foldAll_view (f := hotLeave) (fun t => t.refreshUnit = 1) (fun t => t.mch c) c (List.range 18)
    List.nodup_range (fun k _ t ht => (refreshUnit_hotLeave t k).trans ht)
    (fun k _ hk t _ => by rw [mch_hotLeave, if_neg hk.symm]) s h
  obtain ⟨t, hu, ht, he⟩ := hv (List.mem_range.2 hc)
  have he : (eachMch hotLeave s).mch c = (t.hotLeave c).mch c := he
  rw [he, mch_hotLeave, if_pos rfl, hu, ht]
  simp [alignUp]

theorem forced_hotEnter_all (s : State) (h : ∀ c < 18, (s.mch c).debt ≤ 64) :
    (eachMch hotEnter s).fld R.MEM_REFDEBT Fd.MEM_REFDEBT_FORCED = s.fld R.MEM_REFDEBT Fd.MEM_REFDEBT_FORCED :=
  foldAll_keeps_of (fun t c => (t.mch c).debt ≤ 64) (fun t => t.fld R.MEM_REFDEBT Fd.MEM_REFDEBT_FORCED) _
    List.nodup_range (fun _ _ => forced_hotEnter)
    (fun t x j hj h => by rwa [mch_hotEnter, if_neg hj]) s (fun c hc => h c (List.mem_range.1 hc))

theorem forced_guardEnter_all (s : State) (h : ∀ c < 18, (s.mch c).debt ≤ 64) :
    (eachMch guardEnter s).fld R.MEM_REFDEBT Fd.MEM_REFDEBT_FORCED = s.fld R.MEM_REFDEBT Fd.MEM_REFDEBT_FORCED :=
  foldAll_keeps_of (fun t c => (t.mch c).debt ≤ 64) (fun t => t.fld R.MEM_REFDEBT Fd.MEM_REFDEBT_FORCED) _
    List.nodup_range (fun _ _ => forced_guardEnter)
    (fun t x j hj h => by rwa [mch_guardEnter_ne _ hj]) s (fun c hc => h c (List.mem_range.1 hc))

/-! ### The readings -/

theorem highest_const {α : Type} (xs : List α) {v d : Int} (h : d ≤ v) (hx : xs ≠ []) :
    highest d (xs.map fun _ => v) = v := by
  have hstay : ∀ ys : List α, (ys.map fun _ => v).foldl max v = v := fun ys => by
    induction ys with
    | nil => rfl
    | cons y ys ih => rw [List.map_cons, List.foldl_cons, max_self, ih]
  obtain ⟨x, xs, rfl⟩ := List.exists_cons_of_ne_nil hx
  rw [highest, List.map_cons, List.foldl_cons, max_eq_right h, hstay]

theorem memThresh_range (s : State) : 120 ≤ s.memThresh ∧ s.memThresh ≤ 190 := by
  have h : s.memThresh = ((2 * max 60 (min 95 (s.fld R.MEM_TEMP_CFG Fd.MEM_TEMP_CFG_THRESH)) : Nat) : Int) := rfl
  omega

/-- The readings when every device in use reads out the same. -/
theorem memReadings_replicate (s : State) (o : Option Int) : s.memReadings (List.replicate 9 o) =
    (pick 9 fun d => (s.dev d).st == .active || (s.dev d).st == .spare).map fun d => (d, o.getD s.memThresh) := by
  unfold memReadings
  refine List.map_congr_left fun d hd => ?_
  have : d < 9 := List.mem_range.1 (List.mem_of_mem_filter hd)
  rw [List.getD_eq_getElem?_getD, List.getElem?_replicate, if_pos this, Option.getD_some]

theorem active_mem {s : State} {d : Nat} (hd : d < 9) (h : (s.dev d).st = .active) :
    d ∈ pick 9 fun d => (s.dev d).st == .active || (s.dev d).st == .spare := by
  simp [pick, hd, h]

/-- The sample's own change of state, before the channels follow it. -/
theorem memTempSample_eq {s : State} {d : Nat} (hp : s.memc.powered = true) (hd : d < 9) (h : (s.dev d).st = .active)
    (o : Option Int) {m : Int} (hm : m = o.getD s.memThresh) (hlo : -256 ≤ m) (hhi : m ≤ 255) :
    ∃ u : State, u.memc.temp = m ∧ u.memc.chans = s.memc.chans ∧ u.memc.refCfg = s.memc.refCfg ∧
      u.memc.hot = (if s.memc.hot then decide (s.memThresh - 4 ≤ m) else decide (s.memThresh ≤ m)) ∧
      u.memc.guard = (if s.memc.guard then decide (s.memThresh - 12 ≤ m) else decide (s.memThresh - 8 ≤ m)) ∧
      (o = none → u.flag R.MEM_FLAGS Fd.MEM_FLAGS_TEMP_BAD = true) ∧
      u.fld R.MEM_REFDEBT Fd.MEM_REFDEBT_FORCED = s.fld R.MEM_REFDEBT Fd.MEM_REFDEBT_FORCED ∧
      memTempSample (List.replicate 9 o) s =
        if u.memc.hot && !s.memc.hot then eachMch hotEnter u
        else
          let w := if s.memc.hot && !u.memc.hot then eachMch hotLeave u else u
          if u.memc.guard && !s.memc.guard then eachMch guardEnter w else w := by
  have hin := active_mem hd h
  have hrs := s.memReadings_replicate o
  rw [← hm] at hrs
  have hhi' : highest (-256) ((s.memReadings (List.replicate 9 o)).map (·.2)) = m := by
    rw [hrs, List.map_map]
    exact highest_const _ hlo (List.ne_nil_of_mem hin)
  have hbad : o = none → ((s.memReadings (List.replicate 9 o)).any
      fun r => ((List.replicate 9 o).getD r.1 none).isNone) = true := fun ho => by
    rw [hrs, List.any_map]
    refine List.any_eq_true.2 ⟨d, hin, ?_⟩
    rw [Function.comp, List.getD_eq_getElem?_getD, List.getElem?_replicate, if_pos hd, ho]
    rfl
  unfold memTempSample
  rw [if_neg (c := (!s.memc.powered) = true) (by simp [hp])]
  dsimp only
  rw [hhi']
  generalize hb : ((s.memReadings (List.replicate 9 o)).any
      fun r => ((List.replicate 9 o).getD r.1 none).isNone) = bad at hbad
  obtain ⟨v, hv⟩ : ∃ v : State, v = if bad then s.memFlag Fd.MEM_FLAGS_TEMP_BAD else s := ⟨_, rfl⟩
  have hvm : v.memc = s.memc := by
    rw [hv]
    split
    · exact (memFlag_only (.refl s _) (List.Subset.refl _) _).memc
    · rfl
  have hvf : o = none → v.flag R.MEM_FLAGS Fd.MEM_FLAGS_TEMP_BAD = true := fun ho => by
    rw [hv, if_pos (hbad ho)]
    exact flag_flagIrq _ _ _ _ (by decide) (by decide) (by decide)
  have hvd : v.reg R.MEM_REFDEBT = s.reg R.MEM_REFDEBT := by
    rw [hv]
    split
    · exact reg_flagIrq_ne _ _ _ (by decide) (by decide)
    · rfl
  rw [← hv]
  clear hv
  refine ⟨{ v with memc := { v.memc with
    temp := max (-256) (min 255 m), tempDev := _
    hot := if s.memc.hot then decide (s.memThresh - 4 ≤ m) else decide (s.memThresh ≤ m)
    guard := if s.memc.guard then decide (s.memThresh - 12 ≤ m) else decide (s.memThresh - 8 ≤ m) } }, ?_, ?_, ?_, ?_, ?_,
    hvf, fld_congr hvd _, rfl⟩
  · dsimp only
    omega
  · rw [← hvm]
  · rw [← hvm]
  · rfl
  · rfl

/-- What a sample's steps on the channels leave. -/
theorem memTempSample_kept {u t : State} {hot guard : Bool} (h : t =
    if u.memc.hot && !hot then eachMch hotEnter u
    else
      let w := if hot && !u.memc.hot then eachMch hotLeave u else u
      if u.memc.guard && !guard then eachMch guardEnter w else w) : u.tempKept t := by
  have hl : u.tempKept (if hot && !u.memc.hot then eachMch hotLeave u else u) := by
    split
    · exact tempKept_foldAll hotLeave_tempKept _ _
    · exact ⟨rfl, rfl, rfl, rfl⟩
  rw [h]
  split
  · exact tempKept_foldAll hotEnter_tempKept _ _
  · dsimp only
    split
    · exact hl.trans (tempKept_foldAll guardEnter_tempKept _ _)
    · exact hl

/-! ### A refresh that is due -/

theorem rowsRefreshed_shows (s : State) (c : Nat) : s.Only [.memc, .freeCtr] (s.rowsRefreshed c) ∧
    (s.rowsRefreshed c).memc.chans = s.memc.chans ∧ (s.rowsRefreshed c).memc.refCfg = s.memc.refCfg ∧
    (s.rowsRefreshed c).memc.guard = s.memc.guard ∧ (bitAt s.memc.refCfg 12 = false → ∀ k < 16,
      NMap.get (fun _ => {}) (s.rowsRefreshed c).memc.rows (16 * c + k) = ({} : OpenRow)) := by
  refine ⟨rowsRefreshed_only (.refl s _) (List.Subset.refl _) c, ?_⟩
  unfold rowsRefreshed
  split
  · next h => exact ⟨rfl, rfl, rfl, fun h' => absurd (h.symm.trans h') (by decide)⟩
  · refine ⟨rfl, rfl, rfl, fun _ k hk => ?_⟩
    refine (NMap.get_erase (fun _ => ({} : OpenRow)) (fun k => k / 16 == c && Option.none.all (· == k % 16)) s.memc.rows _).trans
      (if_pos ?_)
    have : (16 * c + k) / 16 = c := by omega
    simp [this]

end State

theorem refreshDue_eq {s : State} (h : s.refreshes = true) (c : Nat) (p : Bool) : ∃ u : State,
    u.memc.chans = s.memc.chans ∧ u.fld R.MEM_REFDEBT Fd.MEM_REFDEBT_FORCED = s.fld R.MEM_REFDEBT Fd.MEM_REFDEBT_FORCED ∧
    (s.refreshUnit = 16 → ∀ k < 16, NMap.get (fun _ => {}) u.memc.rows (16 * c + k) = ({} : OpenRow)) ∧
    refreshDue c p s =
      if s.debtLimit (s.mch c) < (s.mch c).debt + s.refreshUnit then
        if p then u.forced 1 else (u.forced 1).setDebt c ((s.mch c).debt - s.refreshUnit) (s.mch c).catchUp
      else if p then u.setDebt c ((s.mch c).debt + s.refreshUnit) (s.mch c).catchUp
      else u.setDebt c ((s.mch c).debt - s.refreshUnit) (s.mch c).catchUp := by
  obtain ⟨ho, hc, hr, hg, hrows⟩ := s.rowsRefreshed_shows c
  have hu : (s.rowsRefreshed c).refreshUnit = s.refreshUnit := by rw [State.refreshUnit, hr, State.refreshUnit]
  have hl : ∀ x, (s.rowsRefreshed c).debtLimit x = s.debtLimit x := fun x => by rw [State.debtLimit, hg, State.debtLimit]
  refine ⟨s.rowsRefreshed c, hc, State.fld_congr (ho.reg _) _, fun h16 => hrows ?_, ?_⟩
  · by_contra hb
    rw [State.refreshUnit, if_pos (by simpa using hb)] at h16
    exact absurd h16 (by decide)
  · unfold refreshDue
    rw [if_neg (by simp [h])]
    dsimp only
    rw [hu, hl, State.mch_congr hc]

/-- Every channel's row-disturbance count is cleared. -/
def State.trrCleared (s : State) : State := foldAll (fun s c => s.onMch c fun x => { x with trr := 0 }) s (List.range 18)

theorem State.mch_trrCleared (s : State) {c : Nat} (h : c < 18) : s.trrCleared.mch c = { s.mch c with trr := 0 } :=
  (foldAll_get (f := fun s c => s.onMch c fun x => { x with trr := 0 }) (g := State.mch)
    (F := fun x => { x with trr := 0 }) (fun t k => by rw [State.mch_onMch, if_pos rfl])
    (fun t k j hj => by rw [State.mch_onMch, if_neg hj]) (List.range 18) List.nodup_range s c).trans
    (if_pos (List.mem_range.2 h))

theorem rhWindow_eq (s : State) : ∃ u : State, (∀ c < 18, u.mch c = { s.mch c with trr := 0 }) ∧
    rhWindow s = { u with memc := { u.memc with limited := [] } } :=
  ⟨s.trrCleared, fun _ h => s.mch_trrCleared h, rfl⟩

/-- Settles O44. -/
theorem refreshAndTemperature : Obligations.RefreshAndTemperature := by
  unfold Obligations.RefreshAndTemperature
  refine ⟨fun c p limit u s hp hr hu hl => completes_of_powered hp rfl ?_, fun c p s hp hr => exec_of_powered hp rfl ?_,
    fun v th d s hp hmp hd hst hlo hhi hth => completes_of_powered hp rfl ?_,
    fun d s hp hmp hd hst => completes_of_powered hp rfl ?_, fun s hp => completes_of_powered hp rfl ?_,
    fun ts s hp h => exec_of_powered hp rfl ?_⟩
  · obtain ⟨w, hc, hf, hrows, he⟩ := refreshDue_eq hr c p
    have hu' : s.refreshUnit = u := hu.symm
    have hl' : s.debtLimit (s.mch c) = limit * 16 := by
      rw [hl, State.debtLimit]
      split
      · rfl
      · split <;> rfl
    have hd := State.mch_congr hc
    have hsf := fun a b => State.forced_setDebt w c a b
    have hfm : ∀ j, (w.forced 1).mch j = w.mch j := fun j => State.mch_congr (congrArg MemSt.chans (State.forced_memc w 1)) j
    have hrow : ∀ (x : State) a b, (x.setDebt c a b).memc.rows = x.memc.rows := fun x a b => by
      unfold State.setDebt
      rw [State.setFld_memc]
      rfl
    rw [hl', hu'] at he
    rw [he]
    refine ⟨fun h => ?_, fun h => ?_, fun h16 k hk => ?_, fun j hj => ?_⟩
    · rw [if_pos h]
      cases p
      · refine ⟨?_, ?_⟩
        · rw [if_neg (by decide), State.forced_setDebt, State.forced_forced, hf]
        · rw [if_neg (by decide), State.mch_setDebt, if_pos rfl]
          rfl
      · exact ⟨by rw [if_pos rfl, State.forced_forced, hf], by rw [if_pos rfl, hfm, hd]; rfl⟩
    · rw [if_neg (Nat.not_lt.2 h)]
      cases p
      · rw [if_neg (by decide), hsf, hf, State.mch_setDebt, if_pos rfl]
        exact ⟨rfl, (Nat.sub_le _ _).trans ((Nat.le_add_right _ _).trans h), rfl⟩
      · rw [if_pos rfl, hsf, hf, State.mch_setDebt, if_pos rfl]
        exact ⟨rfl, h, rfl⟩
    · have := hrows (hu'.trans h16) k hk
      split
      · split
        · rw [State.forced_memc, this]
        · rw [hrow, State.forced_memc, this]
      · split
        · rw [hrow, this]
        · rw [hrow, this]
    · split
      · split
        · rw [hfm, hd]
        · rw [State.mch_setDebt, if_neg hj, hfm, hd]
      · split
        · rw [State.mch_setDebt, if_neg hj, hd]
        · rw [State.mch_setDebt, if_neg hj, hd]
  · unfold refreshDue
    exact if_pos (by simp [hr])
  · obtain ⟨u, ht, hc, hrc, hhot, hguard, -, hf, he⟩ := State.memTempSample_eq hmp hd hst (some v) rfl hlo hhi
    have hd := State.mch_congr hc
    rw [hth] at hhot hguard
    have hunit : u.refreshUnit = s.refreshUnit := by rw [State.refreshUnit, hrc, State.refreshUnit]
    obtain ⟨h1, h2, h3, -⟩ := State.memTempSample_kept he
    rw [h1, h2, h3, hhot, hguard]
    refine ⟨ht, ?_, ?_, fun hn hv c => ?_, fun hn hall => ?_, fun hn hg hv1 hv2 c => ?_, fun hy hv1 hunit1 hv2 c => ?_⟩
    · split
      · next h =>
        simp [h]
        omega
      · next h => simp [h]
    · split
      · next h =>
        simp [h]
        omega
      · next h => simp [h]
    · rw [he, if_pos (by simp [hhot, hn, hv]), ← hd]
      exact u.mch_hotEnter_all c.isLt
    · have hall' : ∀ c < 18, (u.mch c).debt ≤ 64 := fun c hc => by
        rw [hd]
        exact hall ⟨c, hc⟩
      rw [he, ← hf]
      split
      · exact u.forced_hotEnter_all hall'
      · dsimp only
        rw [if_neg (c := (s.memc.hot && !u.memc.hot) = true) (by simp [hn])]
        split
        · exact u.forced_guardEnter_all hall'
        · rfl
    · rw [he, if_neg (by simp [hhot, hn, Int.not_le.2 hv1])]
      dsimp only
      rw [if_neg (c := (s.memc.hot && !u.memc.hot) = true) (by simp [hn]), if_pos (by simp [hguard, hg, hv2]), ← hd]
      exact u.debt_guardEnter_all c.isLt
    · rw [he, if_neg (by simp [hy])]
      dsimp only
      rw [if_pos (c := (s.memc.hot && !u.memc.hot) = true) (by simp [hhot, hy, Int.not_le.2 hv1]),
        if_neg (by rw [hguard]; cases s.memc.guard <;> simp [Int.not_le.2 hv2]), ← hd]
      exact u.debt_hotLeave_all (hunit.trans hunit1) c.isLt
  · obtain ⟨u, ht, hc, hrc, hhot, hguard, hbad, hf, he⟩ := State.memTempSample_eq hmp hd hst none rfl
      (by have := s.memThresh_range; rw [Option.getD_none]; omega) (by have := s.memThresh_range; rw [Option.getD_none]; omega)
    obtain ⟨-, h2, h3, h4⟩ := State.memTempSample_kept he
    rw [h2, h3, hhot, hguard, State.flag_congr h4]
    rw [Option.getD_none]
    refine ⟨?_, ?_, hbad rfl⟩
    · split <;> simp
    · split <;> simp
  · obtain ⟨u, hu, he⟩ := rhWindow_eq s
    rw [he]
    exact ⟨rfl, fun c => hu c c.isLt⟩
  · unfold memTempSample
    exact if_pos (by simp [h])

end Sys2Proof.Machine
end

section
/-! Errors, row disturbance, promotion and reads of waveform memory (O45). -/
namespace Sys2Proof.Machine

-- One proof at a time: elaborated side by side, the proofs of so long a text need too much memory.
set_option Elab.async false

/-! ### Hourly counts -/

theorem foldl_add_start (l : List Nat) (a b : Nat) : l.foldl (· + ·) (a + b) = l.foldl (· + ·) a + b := by
  induction l generalizing a with
  | nil => rfl
  | cons x l ih =>
    rw [List.foldl_cons, List.foldl_cons, ← ih]
    congr 1
    omega

theorem hourSum_cons (h : Nat) (l : List Nat) : hourSum (h :: l) = hourSum l + h := by
  rw [hourSum, List.foldl_cons, foldl_add_start, hourSum]

theorem hourSum_hourAdd (n : Nat) (l : List Nat) : hourSum (hourAdd n l) = hourSum l + n := by
  cases l with
  | nil => exact hourSum_cons n []
  | cons h t =>
    rw [hourAdd, hourSum_cons, hourSum_cons]
    omega

theorem hourSum_zero {l : List Nat} (h : l.all (· == 0) = true) : hourSum l = 0 := by
  induction l with
  | nil => rfl
  | cons x l ih =>
    rw [List.all_cons, Bool.and_eq_true, beq_iff_eq] at h
    rw [hourSum_cons, ih h.2, h.1]

/-- The new hour's list counts what the 23 hours before it counted. -/
theorem hourSum_rolled (l : List Nat) : hourSum (if l.all (· == 0) then [] else 0 :: l.take 23) = hourSum (l.take 23) := by
  split
  · next h =>
    have : (l.take 23).all (· == 0) = true := List.all_eq_true.2 fun x hx =>
      List.all_eq_true.1 h x (List.mem_of_mem_take hx)
    rw [hourSum_zero this]
    rfl
  · exact hourSum_cons 0 _

namespace State

/-! ### Errors counted against a device -/

/-- A check that finds nothing changes nothing; else the device falls due. -/
theorem retireCheck_eq (s : State) (d : Nat) : s.retireCheck d = s ∨ ∃ u : State, u.memc = s.memc ∧
    s.retireCheck d = ({ u with memc := { u.memc with dueCount := u.memc.dueCount + 1 } } : State).onDev d fun x =>
      { x with retireDue := u.memc.dueCount + 1 } := by
  unfold retireCheck
  dsimp only
  split
  · refine .inr ⟨_, ?_, rfl⟩
    split
    · exact (memFlag_only (.refl s _) (List.Subset.refl _) _).memc
    · rfl
  · exact .inl rfl

theorem dev_retireCheck (s : State) (d k : Nat) : ∃ n, (s.retireCheck d).dev k = { s.dev k with retireDue := n } := by
  rcases s.retireCheck_eq d with h | ⟨u, hu, h⟩
  · exact ⟨_, by rw [h]⟩
  · have hd : ∀ k, ({ u with memc := { u.memc with dueCount := u.memc.dueCount + 1 } } : State).dev k = s.dev k :=
      fun k => dev_congr (congrArg MemSt.devs hu) k
    rw [h, dev_onDev]
    split
    · next hk =>
      rw [hd, hk]
      exact ⟨_, rfl⟩
    · rw [hd]
      exact ⟨_, rfl⟩

theorem ue_retireCheck (s : State) (d : Nat) : (s.retireCheck d).memc.ue = s.memc.ue := by
  rcases s.retireCheck_eq d with h | ⟨u, hu, h⟩
  · rw [h]
  · rw [h, ← hu]
    rfl

theorem reg_retireCheck_ne (s : State) (d : Nat) {o : Nat} (h : o ≠ R.MEM_FLAGS) (hi : o ≠ R.TOP_IRQ_PEND) :
    (s.retireCheck d).reg o = s.reg o := by
  unfold retireCheck
  dsimp only
  split
  · rw [reg_onDev]
    split
    · exact reg_flagIrq_ne _ _ _ h hi
    · rfl
  · rfl

theorem dev_countCe (s : State) (d n : Nat) : ((s.countCe d n).dev d).ce = hourAdd n (s.dev d).ce := by
  obtain ⟨m, h⟩ := (s.onDev d fun x => { x with ce := hourAdd n x.ce }).dev_retireCheck d d
  rw [countCe, h, dev_onDev_self]

theorem dev_countUe (s : State) (d : Nat) : ((s.countUe d).dev d).ue = hourAdd 1 (s.dev d).ue ∧
    ((s.countUe d).dev d).retrainDue = (s.dev d).retrainDue := by
  obtain ⟨m, h⟩ := (s.onDev d fun x => { x with ue := hourAdd 1 x.ue }).dev_retireCheck d d
  rw [countUe, h, dev_onDev_self]
  exact ⟨rfl, rfl⟩

theorem unitBad_countUe (s : State) (d u : Nat) : (s.countUe d).unitBad u = s.unitBad u := by
  rw [unitBad, countUe, ue_retireCheck]
  rfl

theorem unitBad_poisonUnit (s : State) (u v : Nat) : (s.poisonUnit u).unitBad v = if v = u then true else s.unitBad v := by
  unfold poisonUnit unitBad
  exact NMap.get_set (fun _ => false) s.memc.ue u v true

theorem reg_ueFlag_ne (s : State) (u req : Nat) {o : Nat} (h : o ≠ R.MEM_FLAGS) (hi : o ≠ R.TOP_IRQ_PEND)
    (hl : o ≠ R.MEM_UE_LOG_LO) (hh : o ≠ R.MEM_UE_LOG_HI) : (s.ueFlag u req).reg o = s.reg o := by
  unfold ueFlag
  split
  · rfl
  · rw [memFlag, reg_flagIrq_ne _ _ _ h hi, reg_setReg_ne _ _ _ _ hh, reg_setReg_ne _ _ _ _ hl]

theorem ueFlag_memc (s : State) (u req : Nat) : (s.ueFlag u req).memc = s.memc :=
  (ueFlag_only (.refl s _) (List.Subset.refl _) u req).memc

theorem flag_ueFlag (s : State) (u req : Nat) : (s.ueFlag u req).flag R.MEM_FLAGS Fd.MEM_FLAGS_UE = true := by
  unfold ueFlag
  split
  · assumption
  · exact flag_flagIrq _ _ _ _ (by decide) (by decide) (by decide)

theorem reg_countUe_ne (s : State) (d : Nat) {o : Nat} (h : o ≠ R.MEM_FLAGS) (hi : o ≠ R.TOP_IRQ_PEND) :
    (s.countUe d).reg o = s.reg o := by
  rw [countUe, reg_retireCheck_ne _ _ h hi, reg_onDev]

/-! ### Row disturbance -/

theorem limited_limit (s : State) (c q : Nat) :
    NMap.get (fun _ => false) (s.limit c q).memc.limited (16 * c + q) = true := by
  unfold limit
  exact NMap.get_set_self (fun _ => false) s.memc.limited (16 * c + q) true

end State

theorem rowThreshold_eq {c row q : Nat} {s : State} (h : s.refreshes = true) (hq : q < 11) (hrow : row < 2 ^ 15) :
    ∃ u : State, u.fld (R.MEM_THROTTLE q) Fd.MEM_THROTTLE_ROW = row ∧ u.fld (R.MEM_THROTTLE q) Fd.MEM_THROTTLE_COUNT =
        min (s.fld (R.MEM_THROTTLE q) Fd.MEM_THROTTLE_COUNT + 1) 65535 ∧
      u.flag R.MEM_FLAGS Fd.MEM_FLAGS_THROTTLE = true ∧
      u.flag R.MEM_FLAGS Fd.MEM_FLAGS_RT_THROTTLE = s.flag R.MEM_FLAGS Fd.MEM_FLAGS_RT_THROTTLE ∧
      (u.mch c).trr = (s.mch c).trr + neighbours row ∧ u.memc.limited = s.memc.limited ∧
      rowThreshold c row q s =
        if 8 ≤ q then u.limit c q
        else if s.fld R.MEM_RH_CFG Fd.MEM_RH_CFG_TRR_MAX ≤ (u.mch c).trr then
          (u.limit c q).memFlag Fd.MEM_FLAGS_RT_THROTTLE
        else u := by
  have hne : R.MEM_THROTTLE q ≠ R.MEM_FLAGS ∧ R.MEM_THROTTLE q ≠ R.TOP_IRQ_PEND ∧ R.MEM_RH_CFG ≠ R.MEM_THROTTLE q ∧
      R.MEM_FLAGS ≠ R.MEM_THROTTLE q := by
    simp only [R.MEM_THROTTLE, R.MEM_FLAGS, R.TOP_IRQ_PEND, R.MEM_RH_CFG]
    omega
  obtain ⟨hf, hi, hcfg, hf'⟩ := hne
  obtain ⟨v, hv⟩ : ∃ v : State, v = (s.satAdd (R.MEM_THROTTLE q) Fd.MEM_THROTTLE_COUNT 1).setFld (R.MEM_THROTTLE q)
    Fd.MEM_THROTTLE_ROW row := ⟨_, rfl⟩
  have hvr : v.fld (R.MEM_THROTTLE q) Fd.MEM_THROTTLE_ROW = row := by
    rw [hv, State.fld_setFld _ _ _ _ (by decide)]
    exact Nat.mod_eq_of_lt hrow
  have hvc : v.fld (R.MEM_THROTTLE q) Fd.MEM_THROTTLE_COUNT =
      min (s.fld (R.MEM_THROTTLE q) Fd.MEM_THROTTLE_COUNT + 1) 65535 := by
    rw [hv, State.fld_setFld_disj _ _ _ _ _ (by decide) (by decide)]
    exact State.fld_satAdd _ _ _ _ (by decide)
  have hvo : ∀ o, o ≠ R.MEM_THROTTLE q → v.reg o = s.reg o := fun o ho => by
    rw [hv, State.reg_setFld_ne _ _ _ _ _ ho, State.reg_satAdd_ne _ _ _ _ _ ho]
  have hvm : v.memc = s.memc := by rw [hv, State.setFld_memc, State.satAdd, State.setFld_memc]
  obtain ⟨hmo, hmf, hmd⟩ := State.memFlag_shows v (f := Fd.MEM_FLAGS_THROTTLE) (by decide) (by decide)
  have hmr : ∀ o, o ≠ R.MEM_FLAGS → o ≠ R.TOP_IRQ_PEND → (v.memFlag Fd.MEM_FLAGS_THROTTLE).reg o = v.reg o :=
    fun o h1 h2 => State.reg_flagIrq_ne _ _ _ h1 h2
  unfold rowThreshold
  rw [if_neg (by simp [h]), ← hv]
  dsimp only
  clear hv
  generalize v.memFlag Fd.MEM_FLAGS_THROTTLE = w at hmo hmf hmd hmr
  have hcfg' : (w.onMch c fun x => { x with trr := x.trr + neighbours row }).fld R.MEM_RH_CFG Fd.MEM_RH_CFG_TRR_MAX =
      s.fld R.MEM_RH_CFG Fd.MEM_RH_CFG_TRR_MAX := by
    refine State.fld_congr ?_ _
    rw [State.reg_onMch, hmr _ (by decide) (by decide), hvo _ hcfg]
  rw [hcfg']
  refine ⟨_, ?_, ?_, ?_, ?_, ?_, ?_, rfl⟩
  · rw [State.fld_congr (State.reg_onMch _ _ _ _), State.fld_congr (hmr _ hf hi), hvr]
  · rw [State.fld_congr (State.reg_onMch _ _ _ _), State.fld_congr (hmr _ hf hi), hvc]
  · rw [State.flag_congr (State.reg_onMch _ _ _ _), hmf]
  · rw [State.flag_congr (State.reg_onMch _ _ _ _), State.flag, hmd _ (by decide) (by decide), State.fld_congr (hvo _ hf'),
      ← State.flag]
  · rw [State.mch_onMch, if_pos rfl, State.mch_congr (congrArg MemSt.chans (hmo.memc.trans hvm))]
  · exact (congrArg MemSt.limited (hmo.memc.trans hvm) : w.memc.limited = s.memc.limited)

/-! ### Link errors -/

theorem edcError_eq {d failed unit : Nat} {write : Bool} {s : State} (h : s.refreshes = true)
    (hst : (s.dev d).st = .active) : edcError d write failed unit s =
      let s := s.satAdd (R.MEM_DEV_STATE d) Fd.MEM_DEV_STATE_EDC_RETRY (min 3 (failed + 1))
      if failed < 3 then s
      else if write then ((((s.retrainAsk d).free.2.poisonUnit unit).countUe d).ueFlag unit
        ((s.retrainAsk d).free.1.toNat % 16))
      else s.retrainAsk d := by
  unfold edcError
  rw [if_neg (by simp [h, hst])]

theorem edcError_shows {d failed unit : Nat} {write : Bool} {s : State} (hd : d < 9) (h : s.refreshes = true)
    (hst : (s.dev d).st = .active) :
    (edcError d write failed unit s).fld (R.MEM_DEV_STATE d) Fd.MEM_DEV_STATE_EDC_RETRY =
        min (s.fld (R.MEM_DEV_STATE d) Fd.MEM_DEV_STATE_EDC_RETRY + min 3 (failed + 1)) 65535 ∧
      (failed < 3 → (edcError d write failed unit s).memc = s.memc) ∧
      (failed = 3 → ((edcError d write failed unit s).dev d).retrainDue = true) ∧
      (failed = 3 → write = true → (edcError d write failed unit s).unitBad unit = true ∧
        hourSum ((edcError d write failed unit s).dev d).ue = hourSum (s.dev d).ue + 1) := by
  have hne : R.MEM_DEV_STATE d ≠ R.MEM_FLAGS ∧ R.MEM_DEV_STATE d ≠ R.TOP_IRQ_PEND ∧
      R.MEM_DEV_STATE d ≠ R.MEM_UE_LOG_LO ∧ R.MEM_DEV_STATE d ≠ R.MEM_UE_LOG_HI := by
    simp only [R.MEM_DEV_STATE, R.MEM_FLAGS, R.TOP_IRQ_PEND, R.MEM_UE_LOG_LO, R.MEM_UE_LOG_HI]
    omega
  obtain ⟨hf, hi, hl, hh⟩ := hne
  rw [edcError_eq h hst]
  dsimp only
  have hfld := s.fld_satAdd (R.MEM_DEV_STATE d) (min 3 (failed + 1)) Fd.MEM_DEV_STATE_EDC_RETRY (by decide)
  have hmemc : (s.satAdd (R.MEM_DEV_STATE d) Fd.MEM_DEV_STATE_EDC_RETRY (min 3 (failed + 1))).memc = s.memc :=
    State.setFld_memc _ _ _ _
  generalize s.satAdd (R.MEM_DEV_STATE d) Fd.MEM_DEV_STATE_EDC_RETRY (min 3 (failed + 1)) = u at hfld hmemc
  have hask : ((u.retrainAsk d).dev d).retrainDue = true ∧ ((u.retrainAsk d).dev d).ue = (s.dev d).ue := by
    rw [State.retrainAsk, State.dev_onDev_self, State.dev_congr (congrArg MemSt.devs hmemc)]
    exact ⟨rfl, rfl⟩
  have hask' := (u.retrainAsk d).dev_countUe d
  split
  · next hlt => exact ⟨hfld, fun _ => hmemc, fun h => absurd h hlt.ne, fun h => absurd h hlt.ne⟩
  · next hge =>
    split
    · next hw =>
      have hreg : ∀ x : State, ∀ n, ((x.countUe d).ueFlag unit n).reg (R.MEM_DEV_STATE d) = x.reg (R.MEM_DEV_STATE d) :=
        fun x n => by rw [State.reg_ueFlag_ne _ _ _ hf hi hl hh, State.reg_countUe_ne _ _ hf hi]
      obtain ⟨p, hp⟩ : ∃ p : State, p = (u.retrainAsk d).free.2.poisonUnit unit := ⟨_, rfl⟩
      have hpd : p.dev d = (u.retrainAsk d).dev d := by
        rw [hp]
        rfl
      have hpr : p.reg (R.MEM_DEV_STATE d) = u.reg (R.MEM_DEV_STATE d) := by
        rw [hp]
        rfl
      have hpb : p.unitBad unit = true := by rw [hp, State.unitBad_poisonUnit, if_pos rfl]
      obtain ⟨h1, h2⟩ := p.dev_countUe d
      have hdev : ∀ n, ((p.countUe d).ueFlag unit n).dev d = (p.countUe d).dev d := fun n =>
        State.dev_congr (congrArg MemSt.devs (State.ueFlag_memc _ _ _)) d
      rw [← hp, hdev, h1, h2, hpd, hask.1, hask.2, hourSum_hourAdd, State.fld_congr ((hreg p _).trans hpr)]
      refine ⟨hfld, fun h => absurd h hge, fun _ => rfl, fun _ _ => ⟨?_, rfl⟩⟩
      rw [State.unitBad, State.ueFlag_memc, ← State.unitBad, State.unitBad_countUe, hpb]
    · next hw => exact ⟨hfld, fun h => absurd h hge, fun _ => hask.1, fun _ h => absurd h hw⟩

theorem unitBad_poisonAll (us : List (BitVec 28)) (s : State) (v : Nat) :
    (foldAll (fun s u => s.poisonUnit u.toNat) s us).unitBad v =
      (s.unitBad v || us.any fun u => u.toNat == v) := by
  unfold foldAll
  induction us generalizing s with
  | nil => simp
  | cons u us ih =>
    rw [List.foldl_cons, ih, State.unitBad_poisonUnit, List.any_cons]
    by_cases h : v = u.toNat
    · simp [h]
    · have : (u.toNat == v) = false := beq_false_of_ne (Ne.symm h)
      rw [if_neg h, this, Bool.false_or]

theorem caParityAlert_shows {c : Nat} {us : List (BitVec 28)} {s : State} (h : s.refreshes = true) (hus : us ≠ []) :
    (∀ u ∈ us, (caParityAlert c us s).unitBad u.toNat = true) ∧ ((caParityAlert c us s).dev (c / 2)).retrainDue = true ∧
      (caParityAlert c us s).flag R.MEM_FLAGS Fd.MEM_FLAGS_CA_LOST = true := by
  have hb := unitBad_poisonAll us s
  unfold caParityAlert
  rw [if_neg (by simp [h, hus])]
  dsimp only
  generalize foldAll (fun (s : State) (u : BitVec 28) => s.poisonUnit u.toNat) s us = v at hb
  obtain ⟨ho, hf, -⟩ := v.memFlag_shows (f := Fd.MEM_FLAGS_CA_LOST) (by decide) (by decide)
  generalize v.memFlag Fd.MEM_FLAGS_CA_LOST = w at ho hf
  refine ⟨fun u hu => ?_, ?_, ?_⟩
  · have : w.unitBad u.toNat = true := by
      have hany : (us.any fun w => w.toNat == u.toNat) = true := List.any_eq_true.2 ⟨u, hu, beq_self_eq_true _⟩
      rw [State.unitBad, ho.memc, ← State.unitBad, hb, hany, Bool.or_true]
    exact this
  · rw [State.retrainAsk, State.dev_onDev_self]
  · rw [State.retrainAsk, State.flag_congr (State.reg_onDev _ _ _ _), hf]

/-! ### Promotion -/

theorem requestPromotion_shows {k waited x : Nat} {s : State} (hk : k < 4) (hx : x = if k = 0 then s.waited3 else waited) :
    (x < 48000 → requestPromotion k waited s = s) ∧
      (48000 ≤ x → (requestPromotion k waited s).fld (R.MEM_CLASS_AGE k) Fd.MEM_CLASS_AGE_PROMO =
          min (s.fld (R.MEM_CLASS_AGE k) Fd.MEM_CLASS_AGE_PROMO + 1) 65535 ∧
        (requestPromotion k waited s).fld (R.MEM_CLASS_AGE k) Fd.MEM_CLASS_AGE_MAXWAIT =
          max (s.fld (R.MEM_CLASS_AGE k) Fd.MEM_CLASS_AGE_MAXWAIT) (min 65535 (x / 750))) ∧
      (60000 < x → 2 ≤ k → (requestPromotion k waited s).flag R.TOP_BREACH Fd.TOP_BREACH_TIER7 = true) := by
  unfold requestPromotion
  rw [← hx]
  dsimp only
  refine ⟨fun h => if_neg (Nat.not_le.2 h), fun h => ?_, fun h hk2 => ?_⟩
  · rw [if_pos h]
    have hp := s.fld_satAdd (R.MEM_CLASS_AGE k) 1 Fd.MEM_CLASS_AGE_PROMO (by decide)
    have hw : (s.satAdd (R.MEM_CLASS_AGE k) Fd.MEM_CLASS_AGE_PROMO 1).fld (R.MEM_CLASS_AGE k) Fd.MEM_CLASS_AGE_MAXWAIT =
        s.fld (R.MEM_CLASS_AGE k) Fd.MEM_CLASS_AGE_MAXWAIT := State.fld_setFld_disj _ _ _ _ _ (by decide) (by decide)
    generalize s.satAdd (R.MEM_CLASS_AGE k) Fd.MEM_CLASS_AGE_PROMO 1 = u at hp hw
    have hlt : max (u.fld (R.MEM_CLASS_AGE k) Fd.MEM_CLASS_AGE_MAXWAIT) (min 0xFFFF (x / 750)) <
        2 ^ Fd.MEM_CLASS_AGE_MAXWAIT.w :=
      max_lt (u.fld_lt _ _) (by
        show _ < 65536
        omega)
    have hp' := (u.fld_setFld_disj (R.MEM_CLASS_AGE k) (max (u.fld (R.MEM_CLASS_AGE k) Fd.MEM_CLASS_AGE_MAXWAIT)
      (min 0xFFFF (x / 750))) Fd.MEM_CLASS_AGE_MAXWAIT Fd.MEM_CLASS_AGE_PROMO (by decide) (by decide)).trans hp
    have hw' := (u.fld_setFld (R.MEM_CLASS_AGE k) (max (u.fld (R.MEM_CLASS_AGE k) Fd.MEM_CLASS_AGE_MAXWAIT)
      (min 0xFFFF (x / 750))) Fd.MEM_CLASS_AGE_MAXWAIT (by decide)).trans (Nat.mod_eq_of_lt hlt)
    rw [hw] at hw' hp'
    rw [hw]
    generalize u.setFld (R.MEM_CLASS_AGE k) Fd.MEM_CLASS_AGE_MAXWAIT _ = v at hp' hw'
    have hne : R.MEM_CLASS_AGE k ≠ R.TOP_BREACH := by
      unfold R.MEM_CLASS_AGE R.TOP_BREACH
      omega
    split
    · rw [State.breach, State.fld_congr (State.reg_raise_ne _ _ _ _ hne), State.fld_congr (State.reg_raise_ne _ _ _ _ hne)]
      exact ⟨hp', hw'⟩
    · exact ⟨hp', hw'⟩
  · rw [if_pos (by omega), if_pos (by simp [hk2, h])]
    exact State.flag_raise _ _ _ (by decide) (by decide)

theorem errorCountHour_dev (s : State) {d : Nat} (hd : d < 9) : (errorCountHour s).dev d = { s.dev d with
    ce := if (s.dev d).ce.all (· == 0) then [] else 0 :: (s.dev d).ce.take 23
    ue := if (s.dev d).ue.all (· == 0) then [] else 0 :: (s.dev d).ue.take 23 } :=
  (foldAll_get (f := fun s d => s.onDev d fun x => { x with
      ce := if x.ce.all (· == 0) then [] else 0 :: x.ce.take 23
      ue := if x.ue.all (· == 0) then [] else 0 :: x.ue.take 23 }) (g := State.dev)
    (F := fun x => { x with
      ce := if x.ce.all (· == 0) then [] else 0 :: x.ce.take 23
      ue := if x.ue.all (· == 0) then [] else 0 :: x.ue.take 23 })
    (fun t k => State.dev_onDev_self _ _ _) (fun t k j hj => by rw [State.dev_onDev, if_neg hj]) (List.range 9)
    List.nodup_range s d).trans (if_pos (List.mem_range.2 hd))

/-! ### Reads -/

theorem State.readLE_word (s : State) (a : Nat) : s.readLE a 4 = (s.byteAt a).toNat + 256 * (s.byteAt (a + 1)).toNat +
    65536 * (s.byteAt (a + 2)).toNat + 16777216 * (s.byteAt (a + 3)).toNat := by
  simp only [State.readLE, Nat.add_assoc, Nat.reduceAdd]
  omega

/-- A read with a corrected error counts it against the unit's device (R341). -/
def State.readCounted (s : State) (r : ReadCheck) (u : Nat) : State :=
  match r, s.unitDev u with
  | .corrected, some d => s.countCe d 1
  | _, _ => s

theorem State.readCounted_clean (s : State) (u : Nat) : s.readCounted .clean u = s := by
  unfold State.readCounted
  cases s.unitDev u <;> rfl

theorem State.readCounted_corrected {s : State} {u d : Nat} (h : s.unitDev u = some d) :
    s.readCounted .corrected u = s.countCe d 1 := by
  unfold State.readCounted
  simp only [h]

/-- A read of the memory, from a state in which the request has been noted. -/
def waveformReadOf (who : Who) (a : Nat) (r : ReadCheck) (s : State) : State :=
  let a4 := a / 4 * 4
  if s.mode == .keep then (if who = .host then s.emit (.completion 0) else s)
  else if !s.memServes then s
  else if s.memRefuses who a4 4 || (s.inStaging a4 4 && (who == .host || who == .cores)) then s.denied who a false
  else
    let u := a / 64
    let s := if s.memDead then s else s.access u .auto
    if s.memDead || r == .uncorrectable || s.unitBad u then (s.uncorrectable u (memReq who)).ueResult who
    else
      let s := s.readCounted r u
      { s with readData := s.readLE a4 4 }

theorem waveformRead_touched (who : Who) (a : Nat) (r : ReadCheck) (s : State) :
    waveformRead who a r s = waveformReadOf who a r { s.memTouch with readData := 0 } := rfl

section
variable {who : Who} {a : Nat} {r : ReadCheck} {s : State}

/-- A read that the memory's mode, the address and the requester allow: the unit is accessed and checked. -/
theorem waveformRead_eq (hs : s.memServes = true) (href : s.memRefuses who (a / 4 * 4) 4 = false)
    (hstg : s.inStaging (a / 4 * 4) 4 = false ∨ who = .porter ∨ who = .jtag) :
    ∃ t : State, s.Only [.memc, .readData] t ∧ t.memc.devs = s.memc.devs ∧ t.memc.ue = s.memc.ue ∧ t.readData = 0 ∧
      waveformRead who a r s =
        if s.memDead || r == .uncorrectable || s.unitBad (a / 64) then
          (t.uncorrectable (a / 64) (memReq who)).ueResult who
        else
          { t.readCounted r (a / 64) with readData := (t.readCounted r (a / 64)).readLE (a / 4 * 4) 4 } := by
  have hk : (s.mode == .keep) = false := by
    rw [State.memServes] at hs
    cases hm : s.mode <;> simp_all
  have hstg' : (s.inStaging (a / 4 * 4) 4 && (who == .host || who == .cores)) = false := by
    rcases hstg with h | rfl | rfl
    · simp [h]
    · simp
    · simp
  obtain ⟨v, hv⟩ : ∃ v : State, v = ({ s.memTouch with readData := 0 } : State) := ⟨_, rfl⟩
  have hvo : s.Only [.memc, .readData] v := by
    rw [hv]
    simp (maxDischargeDepth := 40) -implicitDefEqProofs
  have hvd : v.memc.devs = s.memc.devs ∧ v.memc.ue = s.memc.ue ∧ v.readData = 0 := by
    rw [hv]
    exact ⟨rfl, rfl, rfl⟩
  obtain ⟨hd, hu, hrd⟩ := hvd
  have hdead : v.memDead = s.memDead := by
    have h := fun d => State.dev_congr hd d
    simp only [State.memDead, h]
  have hserves : v.memServes = s.memServes := by rw [State.memServes, hvo.mode, State.memServes]
  have hrefuse : v.memRefuses who (a / 4 * 4) 4 = s.memRefuses who (a / 4 * 4) 4 := by
    have hf := fun f => State.fld_congr (hvo.reg R.TALLY_RING_CFG) f
    unfold State.memRefuses State.dirBase State.coreBase
    simp only [hf, hvo.host]
  have hstage : v.inStaging (a / 4 * 4) 4 = s.inStaging (a / 4 * 4) 4 := by rw [State.inStaging, hvo.load, State.inStaging]
  have hacc : ∀ u h, (v.access u h).memc.devs = v.memc.devs ∧ (v.access u h).memc.ue = v.memc.ue ∧
      (v.access u h).readData = v.readData := fun u h => by
    unfold State.access
    split <;> exact ⟨rfl, rfl, rfl⟩
  obtain ⟨t, ht⟩ : ∃ t : State, t = if v.memDead then v else v.access (a / 64) .auto := ⟨_, rfl⟩
  have hto : v.Only [.memc] t ∧ t.memc.devs = v.memc.devs ∧ t.memc.ue = v.memc.ue ∧ t.readData = v.readData := by
    rw [ht]
    split
    · exact ⟨.refl _ _, rfl, rfl, rfl⟩
    · exact ⟨State.access_only (.refl _ _) (List.Subset.refl _) _ _, hacc _ _⟩
  obtain ⟨hto, htd, htu, htr⟩ := hto
  have hbad : t.unitBad (a / 64) = s.unitBad (a / 64) := by rw [State.unitBad, htu, hu, State.unitBad]
  have hdead' : t.memDead = s.memDead := by
    have h := fun d => State.dev_congr (htd.trans hd) d
    simp only [State.memDead, h]
  refine ⟨t, hvo.trans (hto.mono (by simp)), htd.trans hd, htu.trans hu, htr.trans hrd, ?_⟩
  rw [waveformRead_touched, ← hv, waveformReadOf]
  dsimp only
  rw [hvo.mode, if_neg (by simp [hk]), hserves, if_neg (by simp [hs]), hrefuse, hstage,
    if_neg (by simp [href, hstg']), ← ht, hdead', hbad]

end

theorem State.mem_outbox_irq {s : State} {k : Nat} {o : Out} (h : o ∈ s.outbox) : o ∈ (s.irq k).outbox := by
  have he : ∀ (v : State) (x : Out), o ∈ v.outbox → o ∈ (v.emit x).outbox := fun v x hv => List.mem_append_left _ hv
  unfold State.irq
  split
  · exact h
  · dsimp only
    split <;> split
    · exact he _ _ (he _ _ h)
    · exact he _ _ h
    · exact he _ _ h
    · exact h

theorem State.ueResult_shows (s : State) (who : Who) : s.Only [.ap, .outbox] (s.ueResult who) ∧
    (s.ueResult who).flag R.MEM_FLAGS Fd.MEM_FLAGS_UE = s.flag R.MEM_FLAGS Fd.MEM_FLAGS_UE ∧
    Out.completion (if who = .cores then 2 else 1) ∈ (s.ueResult who).outbox := by
  have hlast : ∀ k, Out.completion k ∈ (s.emit (.completion k)).outbox := fun k =>
    List.mem_append_right _ (List.mem_singleton_self _)
  refine ⟨State.ueResult_only (.refl _ _) (List.Subset.refl _) _, ?_, ?_⟩
  · unfold State.ueResult
    split
    · exact State.flag_congr (State.reg_irq_ne _ _ (by decide)) _
    · rfl
  · unfold State.ueResult
    split
    · exact State.mem_outbox_irq (hlast 2)
    · next hc => rw [if_neg hc]; exact hlast 1

theorem State.uncorrectable_shows (s : State) (u req : Nat) :
    (s.uncorrectable u req).flag R.MEM_FLAGS Fd.MEM_FLAGS_UE = true ∧
      (s.memDead = false → (s.uncorrectable u req).unitBad u = true) ∧
      (s.memDead = true → (s.uncorrectable u req).memc = s.memc) := by
  have hp : (s.poisonUnit u).unitBad u = true := by rw [State.unitBad_poisonUnit, if_pos rfl]
  unfold State.uncorrectable
  split
  · next hd => exact ⟨State.flag_ueFlag _ _ _, fun h => absurd (hd.symm.trans h) (by decide), fun _ => State.ueFlag_memc _ _ _⟩
  · next hd =>
    refine ⟨State.flag_ueFlag _ _ _, fun _ => ?_, fun h => absurd h hd⟩
    dsimp only
    rw [State.unitBad, State.ueFlag_memc, ← State.unitBad]
    split
    · rw [State.unitBad_countUe, hp]
    · exact hp

/-- A read that is refused reads 0 and sets ACCESS_DENIED (R119, R452). -/
theorem waveformRead_refused {who : Who} {a : Nat} {r : ReadCheck} {s : State} (hs : s.memServes = true)
    (href : s.memRefuses who (a / 4 * 4) 4 = true ∨
      s.inStaging (a / 4 * 4) 4 = true ∧ (who = .host ∨ who = .cores)) :
    waveformRead who a r s = ({ s.memTouch with readData := 0 } : State).denied who a false := by
  have hk : (s.mode == .keep) = false := by
    rw [State.memServes] at hs
    cases hm : s.mode <;> simp_all
  have href' : (s.memRefuses who (a / 4 * 4) 4 || (s.inStaging (a / 4 * 4) 4 && (who == .host || who == .cores))) = true := by
    rcases href with h | ⟨h, rfl | rfl⟩ <;> simp [h]
  exact (if_neg (c := (s.mode == .keep) = true) (by simp [hk])).trans ((if_neg (c := (!s.memServes) = true) (by simp [hs])).trans (if_pos href'))

/-- Where the memory does not serve, a read gives 0, and in KEEP Unsupported Request to a host. -/
theorem waveformRead_shut {who : Who} {a : Nat} {r : ReadCheck} {s : State} (hs : s.memServes = false) :
    waveformRead who a r s = if s.mode = .keep ∧ who = .host then
      ({ s.memTouch with readData := 0 } : State).emit (.completion 0) else { s.memTouch with readData := 0 } := by
  by_cases hk : s.mode = .keep
  · refine (if_pos (c := (s.mode == .keep) = true) (by simp [hk])).trans ?_
    simp only [hk, true_and]
  · rw [if_neg (c := s.mode = .keep ∧ who = .host) (fun h => hk h.1)]
    exact (if_neg (c := (s.mode == .keep) = true) (by simp [hk])).trans
      (if_pos (c := (!s.memServes) = true) (by simp [hs]))

/-- Settles O45. -/
theorem memoryErrors : Obligations.MemoryErrors := by
  unfold Obligations.MemoryErrors
  refine ⟨fun c k r q m s hp hr hm => completes_of_powered hp rfl ?_,
    fun d wr n u s hp hr hst => completes_of_powered hp rfl ?_,
    fun c us s hp hr hus => completes_of_powered hp rfl ?_,
    fun c k r q d wr n u us s hp => ⟨exec_of_powered hp rfl ?_, fun h => exec_of_powered hp rfl ?_,
      fun h => ⟨exec_of_powered hp rfl ?_, exec_of_powered hp rfl ?_, exec_of_powered hp rfl ?_⟩⟩,
    fun k w x s hp hx => completes_of_powered hp rfl ?_, fun s hp => completes_of_powered hp rfl ?_,
    fun who a s hp ho hs hd href hstg hbad => completes_of_open hp ho rfl ?_,
    fun who a d s hp ho hs hd href hstg hbad hdev => completes_of_open hp ho rfl ?_,
    fun who a r s hp ho hs href hstg hbad => completes_of_open hp ho rfl ?_,
    fun who a r s hp ho hs href => completes_of_open hp ho rfl ?_,
    fun who a r s hp ho hs => completes_of_open hp ho rfl ?_, fun who a r s hp ho => exec_of_shut hp ho rfl⟩
  · obtain ⟨u, h1, h2, h3, h4, h5, h6, he⟩ := rowThreshold_eq (c := c.val) (row := r.toNat) hr q.isLt r.isLt
    have hlim := u.limited_limit c.val q.val
    have hlo := State.limit_only (.refl u _) (List.Subset.refl _) c.val q.val
    have htrr : ∀ j, (u.limit c.val q.val).mch j = u.mch j := fun j => rfl
    rw [hm] at he
    rw [he]
    by_cases hq : 8 ≤ q.val
    · rw [if_pos hq, State.fld_congr (hlo.reg _), State.fld_congr (hlo.reg _), State.flag_congr (hlo.reg _), htrr]
      exact ⟨h1, h2, h3, h5, fun _ => hlim, fun h => absurd hq (Nat.not_le.2 h), fun h => absurd hq (Nat.not_le.2 h)⟩
    · rw [if_neg hq]
      by_cases ht : m ≤ (u.mch c.val).trr
      · obtain ⟨ho, hf, hd⟩ := (u.limit c.val q.val).memFlag_shows (f := Fd.MEM_FLAGS_RT_THROTTLE) (by decide) (by decide)
        have hne : R.MEM_THROTTLE q.val ≠ R.MEM_FLAGS ∧ R.MEM_THROTTLE q.val ≠ R.TOP_IRQ_PEND := by
          simp only [R.MEM_THROTTLE, R.MEM_FLAGS, R.TOP_IRQ_PEND]
          omega
        have hreg : ((u.limit c.val q.val).memFlag Fd.MEM_FLAGS_RT_THROTTLE).reg (R.MEM_THROTTLE q.val) =
            u.reg (R.MEM_THROTTLE q.val) := (State.reg_flagIrq_ne _ _ _ hne.1 hne.2).trans (hlo.reg _)
        have hth := (hd Fd.MEM_FLAGS_THROTTLE (by decide) (by decide)).trans (State.fld_congr (hlo.reg _) _)
        have hmch : ((u.limit c.val q.val).memFlag Fd.MEM_FLAGS_RT_THROTTLE).mch c.val = u.mch c.val :=
          (State.mch_congr (congrArg MemSt.chans ho.memc) _).trans (htrr _)
        rw [if_pos ht, State.fld_congr hreg, State.fld_congr hreg, hmch, State.flag, hth]
        refine ⟨h1, h2, h3, h5, fun h => absurd h hq, fun _ _ => ⟨?_, hf⟩, fun _ h => absurd ht (Nat.not_le.2 h)⟩
        rw [ho.memc]
        exact hlim
      · rw [if_neg ht]
        exact ⟨h1, h2, h3, h5, fun h => absurd h hq, fun _ h => absurd h ht, fun _ _ => ⟨h6, h4⟩⟩
  · exact edcError_shows d.isLt hr hst
  · exact caParityAlert_shows hr hus
  · unfold caParityAlert
    exact if_pos (by simp)
  · unfold edcError
    exact if_pos (by simp [h])
  · unfold caParityAlert
    exact if_pos (by simp [h])
  · unfold edcError
    exact if_pos (by simp [h])
  · unfold rowThreshold
    exact if_pos (by simp [h])
  · exact requestPromotion_shows k.isLt (hx.trans (if_congr Fin.ext_iff rfl rfl))
  · intro d
    rw [errorCountHour_dev s d.isLt]
    exact ⟨hourSum_rolled _, hourSum_rolled _⟩
  · obtain ⟨t, ho, -, -, -, he⟩ := waveformRead_eq (r := .clean) hs href hstg
    rw [he, if_neg (by simp [hd, hbad]), State.readCounted_clean]
    refine ⟨ho.mem, ho.ap, ?_⟩
    dsimp only
    rw [State.readLE_congr ho.mem, State.readLE_word]
  · obtain ⟨t, ho, htd, -, -, he⟩ := waveformRead_eq (r := .corrected) hs href hstg
    have hdev' := fun k => State.dev_congr htd k
    have hunit : t.unitDev (a.toNat / 64) = some d := by
      rw [← hdev]
      unfold State.unitDev State.slotDev
      simp only [hdev']
    have hc := State.countCe_only (.refl t _) (List.Subset.refl _) d 1
    have hce := t.dev_countCe d 1
    rw [he, if_neg (by simp [hd, hbad]), State.readCounted_corrected hunit]
    generalize t.countCe d 1 = u at hc hce
    refine ⟨hc.mem.trans ho.mem, ?_, ?_⟩
    · rw [← hdev', ← hourSum_hourAdd, ← hce]
      rfl
    · dsimp only
      rw [State.readLE_congr (hc.mem.trans ho.mem), State.readLE_word]
  · obtain ⟨t, ho, htd, htu, htr, he⟩ := waveformRead_eq (r := r) hs href hstg
    rw [he, if_pos (by rcases hbad with h | h | h <;> simp [h])]
    have hc := t.uncorrectable_shows (a.toNat / 64) (memReq who)
    have hco := State.uncorrectable_only (.refl t _) (List.Subset.refl _) (a.toNat / 64) (memReq who)
    have hdead : t.memDead = s.memDead := by
      have h := fun d => State.dev_congr htd d
      simp only [State.memDead, h]
    generalize t.uncorrectable (a.toNat / 64) (memReq who) = v at hc hco
    obtain ⟨hflag, hpoison, hkeep⟩ := hc
    obtain ⟨hvo, hvf, hvc⟩ := v.ueResult_shows who
    have hbad' : ∀ u, (v.ueResult who).unitBad u = v.unitBad u := fun u => by
      rw [State.unitBad, hvo.memc, State.unitBad]
    refine ⟨(hvo.readData.trans hco.readData).trans htr, (hvo.mem.trans hco.mem).trans ho.mem, hvf.trans hflag, hvc,
      fun hm => (hbad' _).trans (hpoison (hdead.trans hm)), fun hm => (hbad' _).trans ?_⟩
    rw [State.unitBad, hkeep (hdead.trans hm), htu, State.unitBad]
  · rw [waveformRead_refused hs href]
    have hdo := State.denied_only (.refl ({ s.memTouch with readData := 0 } : State) _) (List.Subset.refl _) who a.toNat false
    exact ⟨hdo.readData, hdo.mem, State.flag_denied _ _ _ _⟩
  · rw [waveformRead_shut hs]
    split <;> exact ⟨rfl, rfl, rfl, rfl⟩

end Sys2Proof.Machine
end

section
/-! Register reads and writes (O57): the clause on a read of NOW_LO fails from a state in which the requester holds a
capture under NOW_LO itself. -/
namespace Sys2Proof.Machine

-- One proof at a time: elaborated side by side, the proofs of so long a text need too much memory.
set_option Elab.async false

/-- The reset state, with a value captured for Porter under TIME.NOW_LO. -/
def nowLoCaptured : State := { State.reset with captures := [(capKey .porter R.TIME_NOW_LO, 5)] }

theorem nowLoCaptured_reads_capture : (captureRead .porter R.TIME_NOW_LO nowLoCaptured).readData = 5 := by
  decide +kernel

/-- Refutes O57: a 32-bit read gives a requester what it has captured under the offset read, before it captures, so that a
value left under NOW_LO is read in place of the lower half of TIME, which is 0 here. -/
theorem not_registerAccess : ¬ Obligations.RegisterAccess := by
  rintro ⟨-, -, -, hnow, -⟩
  obtain ⟨t, ht, hread, -⟩ := hnow .porter 0x400010000#36 nowLoCaptured rfl rfl (by decide)
  obtain rfl := Host.Outcome.next.inj (ht.symm.trans
    (exec_of_reached (who := .porter) (f := captureRead .porter R.TIME_NOW_LO) rfl rfl rfl rfl))
  exact absurd (nowLoCaptured_reads_capture.symm.trans hread) (by decide)

end Sys2Proof.Machine
end

section
/-! A HOLD that is made at once (R52): what stops, and what the registers of TOP, TIME and the Benches show. -/
namespace Sys2Proof.Machine

-- One proof at a time: elaborated side by side, the proofs of so long a text need too much memory.
set_option Elab.async false

/-- A register that no stop of lanes, windows or Foremen writes. -/
structure StopReg (o : Nat) : Prop where
  lane : ∀ b < 8, ∀ l < 32, o ≠ R.LOOM_LANE_FLAGS b l
  chan : ∀ b < 8, ∀ c < 32, o ≠ R.READ_CH_FLAGS b c
  eng : ∀ b < 8, ∀ e < 4, o ≠ R.ASSAY_FLAGS b e
  fm : ∀ b < 8, o ≠ R.FM_ENTRY b
  breach : o ≠ R.TOP_BREACH

theorem StopReg.of_low {o : Nat} (h : o < 0x400100000) (hb : o ≠ R.TOP_BREACH) : StopReg o where
  lane b _ l _ := by unfold R.LOOM_LANE_FLAGS; omega
  chan b _ c _ := by unfold R.READ_CH_FLAGS; omega
  eng b _ e _ := by unfold R.ASSAY_FLAGS; omega
  fm b _ := by unfold R.FM_ENTRY; omega
  breach := hb

theorem StopReg.of_bench {k r : Nat} (hk : k < 8) (hr : r < 0x10000) : StopReg (0x400100000 + 0x100000 * k + r) where
  lane b _ l _ := by unfold R.LOOM_LANE_FLAGS; omega
  chan b _ c _ := by unfold R.READ_CH_FLAGS; omega
  eng b _ e _ := by unfold R.ASSAY_FLAGS; omega
  fm b _ := by unfold R.FM_ENTRY; omega
  breach := by unfold R.TOP_BREACH; omega

theorem StopReg.benchEvents {k : Nat} (hk : k < 8) : StopReg (R.BENCH_EVENTS k) := by
  have h := StopReg.of_bench hk (r := 8) (by decide)
  have he : R.BENCH_EVENTS k = 0x400100000 + 0x100000 * k + 8 := by unfold R.BENCH_EVENTS; omega
  rwa [he]

namespace State

section
variable {o : Nat} (h : StopReg o)
include h

theorem reg_abortAll (s : State) (ramp : Bool) : (s.abortAll ramp).reg o = s.reg o := by
  unfold abortAll
  refine foldAll_keeps_mem (fun t : State => t.reg o) _ (fun b hb t => ?_) s
  refine foldAll_keeps_mem (fun t : State => t.reg o) _ (fun l hl t => ?_) t
  dsimp only
  split
  · exact reg_laneStop _ _ _ _ (h.lane b (List.mem_range.1 hb) l (List.mem_range.1 hl))
  · rfl

theorem reg_answerDue (s : State) (b c ser : Nat) (lost : Bool) : (s.answerDue b c ser lost).reg o = s.reg o :=
  (answerDue_only (.refl s [.engines]) (List.Subset.refl _) b c ser lost).reg o

theorem reg_pushEntry (s : State) {b c : Nat} (hb : b < 8) (hc : c < 32) (kind idx : Nat) (w : Win) (sat : Bool)
    (sums : List Nat) : (s.pushEntry b c kind idx w sat sums).reg o = s.reg o := by
  have hf : ∀ t : State, (t.chFlag b c Fd.READ_CH_FLAGS_FIFO_DROP).reg o = t.reg o := fun t =>
    reg_raise_ne _ _ _ _ (h.chan b hb c hc)
  unfold pushEntry
  dsimp only
  split
  · split
    · rfl
    · exact reg_answerDue h _ _ _ _ _
  · split
    · split
      · exact hf s
      · rw [breach, reg_raise_ne _ _ _ _ h.breach, engFlag, reg_raise_ne _ _ _ _ (h.eng b hb _ (by omega)),
          reg_answerDue h, hf]
    · split
      · rw [reg_answerDue h, reg_onEng]
      · rfl

theorem reg_endWindows (s : State) : s.endWindows.reg o = s.reg o := by
  unfold endWindows
  refine foldAll_keeps_mem (fun t : State => t.reg o) _ (fun b hb t => ?_) s
  refine foldAll_keeps_mem (fun t : State => t.reg o) _ (fun c hc t => ?_) t
  refine foldAll_keeps_mem (fun t : State => t.reg o) _ (fun w _ t => ?_) t
  unfold voidWin
  rw [reg_pushEntry h _ (List.mem_range.1 hb) (List.mem_range.1 hc)]
  rfl

theorem reg_fmHalt (s : State) {b : Nat} (hb : b < 8) (st : FmSt) (hold : Bool) :
    (s.fmHalt b st hold).reg o = s.reg o := by
  unfold fmHalt
  dsimp only
  split
  · rfl
  · unfold fmHaltNow
    dsimp only
    split
    · rw [reg_setFld_ne _ _ _ _ _ (h.fm b hb), reg_onFm, fmOff, reg_onFm, reg_onFm]
    · rw [reg_onFm, fmOff, reg_onFm, reg_onFm]

end

/-- The lanes, windows and Foremen stop. -/
def unitsHeld (s : State) : State :=
  foldAll (fun s b => s.fmHalt b .held true) (s.abortAll true).endWindows (List.range 8)

theorem unitsHeld_only (s : State) : s.Only [.ap, .lanes, .chans, .engines, .fms] s.unitsHeld := by
  unfold unitsHeld
  simp (contextual := true) (maxDischargeDepth := 40) -implicitDefEqProofs

theorem reg_unitsHeld {o : Nat} (h : StopReg o) (s : State) : s.unitsHeld.reg o = s.reg o := by
  unfold unitsHeld
  rw [foldAll_keeps_mem (fun t : State => t.reg o) _ (fun b hb t => reg_fmHalt h t (List.mem_range.1 hb) .held true),
    reg_endWindows h, reg_abortAll h]

/-- HOLD is entered with nothing pending, and what was to follow begins. -/
def holdEnters (s : State) (code : Nat) : State :=
  (({ s with hold := none, transit := none } : State).become .hold code).followUp (s.hold.bind (·.follow))

theorem holdNow_eq (s : State) (code : Nat) : s.holdNow code none = s.unitsHeld.holdEnters code := rfl

theorem holdNow_poison_eq {s : State} (code c d : Nat) :
    s.holdNow code (some (c, d)) =
      (if s.mode == .run then s.poisonAll c d else s).unitsHeld.holdEnters code := rfl

theorem reg_followUp (s : State) (f : Option Mode) (o : Nat) : (s.followUp f).reg o = s.reg o :=
  (followUp_only (.refl s [.clk, .transit, .dec, .memc]) (List.Subset.refl _) f).reg o

theorem reg_holdEnters {o : Nat} (ho : offerReg o = false) (he : o ≠ R.TIME_EPOCH_CTL) (s : State) (code : Nat) :
    (s.holdEnters code).reg o = s.reg o := by
  unfold holdEnters
  rw [reg_followUp, reg_become ho _ _ _ he]
  rfl

theorem holdEnters_only (s : State) (code : Nat) :
    s.Only [.mode, .ap, .fms, .memc, .tally, .fabric, .outbox, .clk, .transit, .hold, .dec] (s.holdEnters code) := by
  have h1 : s.Only [.hold, .transit] { s with hold := none, transit := none } := by
    simp (maxDischargeDepth := 40) -implicitDefEqProofs
  exact followUp_only (become_only (h1.mono (by simp)) (by simp) _ _) (by simp) _

theorem holdEnters_shows (s : State) (code : Nat) : (s.holdEnters code).mode = .hold ∧ (s.holdEnters code).hold = none ∧
    (s.hold.bind (·.follow) = none → (s.holdEnters code).transit = none) := by
  obtain ⟨t, ht⟩ : ∃ t : State, t = ({ s with hold := none, transit := none } : State).become .hold code := ⟨_, rfl⟩
  have hb := become_only (.refl ({ s with hold := none, transit := none } : State) _) (List.Subset.refl _) .hold code
  have hf := followUp_only (.refl t _) (List.Subset.refl _) (s.hold.bind (·.follow))
  unfold holdEnters
  rw [← ht] at hb ⊢
  refine ⟨hf.mode.trans (ht ▸ become_mode _ _ _), hf.hold.trans hb.hold, fun hn => ?_⟩
  rw [hn]
  exact hb.transit

theorem flag_benchEvent (s : State) (b : Nat) (f : Bits) (h : f.lo + f.w ≤ 32) (hw : 0 < f.w) :
    (s.benchEvent b f).flag (R.BENCH_EVENTS b) f = true :=
  flag_flagIrq s f (18 + b) (R.BENCH_EVENTS b) (by unfold R.BENCH_EVENTS R.TOP_IRQ_PEND; omega) h hw

theorem flag_poison (s : State) (b cause detail : Nat) :
    (s.poison b cause detail).flag (R.BENCH_EVENTS b) Fd.BENCH_EVENTS_POISON = true := by
  unfold poison
  dsimp only
  rw [flag_congr (reg_pulse _ _ _)]
  exact flag_benchEvent _ _ _ (by decide) (by decide)

theorem reg_poison {o : Nat} (ho : offerReg o = false) (s : State) {b : Nat} (hb : b < 8) (hne : o ≠ R.BENCH_EVENTS b)
    (cause detail : Nat) : (s.poison b cause detail).reg o = s.reg o := by
  obtain ⟨hi, -, -⟩ := offerReg_eq_false.1 ho
  unfold poison
  dsimp only
  rw [reg_pulse, benchEvent, reg_flagIrq_ne _ _ _ hne hi]
  split
  · split
    · exact reg_offer ho s (st := 3 * b) (by omega) _ _ _ _ _
    · rw [reg_onBench, reg_offer ho s (by omega)]
  · exact reg_offer ho s (by omega) _ _ _ _ _

theorem reg_poisonAll {o : Nat} (ho : offerReg o = false) (s : State) (hne : ∀ b < 8, o ≠ R.BENCH_EVENTS b)
    (cause detail : Nat) : (s.poisonAll cause detail).reg o = s.reg o := by
  unfold poisonAll
  refine foldAll_keeps_mem (fun t : State => t.reg o) _ (fun b hb t => ?_) s
  have hb := List.mem_range.1 hb
  split
  · exact reg_poison ho t hb (hne b hb) _ _
  · rfl

theorem offerReg_bench {k r : Nat} (hk : k < 8) : offerReg (0x400100000 + 0x100000 * k + r) = false := by
  rw [offerReg_eq_false]
  unfold R.TOP_IRQ_PEND R.TOP_BREACH
  omega

theorem offerReg_benchCtl {k : Nat} (hk : k < 8) : offerReg (R.BENCH_CTL k) = false := offerReg_bench hk (r := 0)

theorem offerReg_benchEvents {k : Nat} (hk : k < 8) : offerReg (R.BENCH_EVENTS k) = false := by
  have he : R.BENCH_EVENTS k = 0x400100000 + 0x100000 * k + 8 := by unfold R.BENCH_EVENTS; omega
  rw [he]
  exact offerReg_bench hk

theorem benchOn_poison (s : State) {b k : Nat} (hb : b < 8) (hk : k < 8) (cause detail : Nat) :
    (s.poison b cause detail).benchOn k = s.benchOn k := by
  have hr : (s.poison b cause detail).reg (R.BENCH_CTL k) = s.reg (R.BENCH_CTL k) :=
    reg_poison (offerReg_benchCtl hk) s hb (by unfold R.BENCH_CTL R.BENCH_EVENTS; omega) cause detail
  have hs : ((s.poison b cause detail).benchSt k).enPend = (s.benchSt k).enPend := by
    have hp := fun t : State => (pulse_only (.refl t _) (List.Subset.refl _) (328 + b)).bench
    have he := fun t : State => (benchEvent_only (.refl t _) (List.Subset.refl _) b Fd.BENCH_EVENTS_POISON).bench
    have ho := fun n => (offer_only (.refl s _) (List.Subset.refl _) (3 * b) (srcOf b 0 0 0) 0x22 1 s.clk.time
      [(0, 1, cause), (4, 4, detail), (8, 8, n)]).bench
    unfold poison
    dsimp only
    rw [benchSt, hp, he]
    split
    · split
      · exact congrArg (fun m => (NMap.get (fun _ => ({} : BenchSt)) m k).enPend) (ho _)
      · rw [← benchSt, benchSt_onBench]
        split
        · next hkb =>
          rw [hkb]
          exact congrArg (fun m => (NMap.get (fun _ => ({} : BenchSt)) m b).enPend) (ho _)
        · exact congrArg (fun m => (NMap.get (fun _ => ({} : BenchSt)) m k).enPend) (ho _)
    · exact congrArg (fun m => (NMap.get (fun _ => ({} : BenchSt)) m k).enPend) (ho _)
  rw [benchOn, flag_congr hr, hs, benchOn]

/-- Every enabled Bench has its POISON event. -/
theorem flag_poisonAll (s : State) {b : Nat} (hb : b < 8) (hon : s.benchOn b = true) (cause detail : Nat) :
    (s.poisonAll cause detail).flag (R.BENCH_EVENTS b) Fd.BENCH_EVENTS_POISON = true := by
  obtain ⟨-, -, h⟩ := foldAll_view (f := fun (s : State) k => if s.benchOn k then s.poison k cause detail else s)
    (fun t => t.benchOn b = true) (fun t : State => t.flag (R.BENCH_EVENTS b) Fd.BENCH_EVENTS_POISON) b (List.range 8)
    List.nodup_range
    (fun k hk t ht => by
      split
      · exact (benchOn_poison t (List.mem_range.1 hk) hb _ _).trans ht
      · exact ht)
    (fun k hk hne t _ => by
      split
      · exact flag_congr (reg_poison (offerReg_benchEvents hb) t (List.mem_range.1 hk)
          (by unfold R.BENCH_EVENTS; omega) _ _) _
      · rfl) s hon
  obtain ⟨t, ht, -, he⟩ := h (List.mem_range.2 hb)
  refine he.trans ?_
  rw [if_pos ht]
  exact flag_poison _ _ _ _

/-- A HOLD made at once in RUN leaves every enabled Bench with its POISON event (R52). -/
theorem holdNow_poisons {s : State} (hm : s.mode = .run) {b : Nat} (hb : b < 8) (hon : s.benchOn b = true)
    (code c d : Nat) : (s.holdNow code (some (c, d))).flag (R.BENCH_EVENTS b) Fd.BENCH_EVENTS_POISON = true := by
  rw [holdNow_poison_eq, if_pos (by rw [hm]; rfl),
    flag_congr (reg_holdEnters (offerReg_benchEvents hb) (by unfold R.BENCH_EVENTS R.TIME_EPOCH_CTL; omega) _ _),
    flag_congr (reg_unitsHeld (StopReg.benchEvents hb) _)]
  exact flag_poisonAll s hb hon c d

theorem holdNow_shows (s : State) (code : Nat) (p : Option (Nat × Nat)) : (s.holdNow code p).mode = .hold ∧
    (s.holdNow code p).hold = none ∧ (s.hold.bind (·.follow) = none → (s.holdNow code p).transit = none) := by
  obtain ⟨u, hu⟩ : ∃ u : State, u.hold = s.hold ∧ s.holdNow code p = u.unitsHeld.holdEnters code := by
    cases p with
    | none => exact ⟨s, rfl, rfl⟩
    | some p =>
      refine ⟨if s.mode == .run then s.poisonAll p.1 p.2 else s, ?_, rfl⟩
      split
      · exact (poisonAll_only (.refl s _) (List.Subset.refl _) _ _).hold
      · rfl
  obtain ⟨hh, he⟩ := hu
  have hx := u.unitsHeld.holdEnters_shows code
  rw [u.unitsHeld_only.hold, hh] at hx
  rwa [he]

end State

end Sys2Proof.Machine
end

section
/-! Mode requests (O12). -/
namespace Sys2Proof.Machine

-- One proof at a time: elaborated side by side, the proofs of so long a text need too much memory.
set_option Elab.async false

theorem State.modeErr_refuses {s u : State} (h : s.Only [.ap, .outbox] u) {code : Nat} (hc : code < 8) (m : Mode) :
    (u.modeErr code m.code).refusedAs code m ∧ s.goesOn (u.modeErr code m.code) := by
  have hm : m.code < 2 ^ Fd.TOP_MODE_ERR_REQ.w := by cases m <;> decide
  have ho := State.modeErr_only h (List.Subset.refl _) code m.code
  exact ⟨u.modeErr_shows (lt_of_lt_of_le hc (by decide)) hm, ho.mode, ho.transit, ho.hold, ho.clk, ho.bench, ho.lanes,
    ho.engines, ho.fms, ho.mem⟩

theorem State.busy_of_transit {s : State} (h : s.inTransit = true) : s.busy = true := by
  rw [State.busy, h, Bool.true_or]

theorem State.busy_of_hold {s : State} {h : HoldReq} (hh : s.hold = some h) (hs : h.shed = true ∨ h.budget = true) :
    s.busy = true := by
  rw [State.busy, hh]
  rcases hs with hs | hs <;> simp [hs]

theorem State.fastStart_shows (s : State) : s.fastStart.mode = s.mode ∧ s.fastStart.trim = s.trim ∧
    s.fastStart.clk = s.clk.start true := by
  have h := fun v : State => State.criersTrain_only (.refl v _) (List.Subset.refl _)
  have hw := fun v : State => State.memWake_only (.refl v _) (List.Subset.refl _)
  refine ⟨(h _).mode.trans (hw _).mode, (h _).trim.trans (hw _).trim, (h _).clk.trans (hw _).clk⟩

theorem Clocks.start_both (c : Clocks) : (c.start true).core = true ∧ (c.start true).conv = true ∧ (c.start true).now = c.now := by
  unfold Clocks.start
  split
  · next h => exact ⟨h, rfl, rfl⟩
  · exact ⟨rfl, rfl, rfl⟩

theorem State.pllLockStep_shows (s : State) : s.pllLockStep.mode = s.mode ∧
    s.pllLockStep.transit = some { src := s.mode, dst := .armed, kind := .armedEntry, due := s.clk.now + 660000 } ∧
    s.pllLockStep.clk.core = true ∧ s.pllLockStep.clk.conv = true := by
  obtain ⟨hm, -, hc⟩ := s.fastStart_shows
  obtain ⟨h1, h2, h3⟩ := Clocks.start_both s.clk
  unfold State.pllLockStep
  dsimp only
  generalize s.fastStart = u at hm hc ⊢
  rw [← hc] at h1 h2 h3
  split
  · exact ⟨hm, by rw [State.beginTo, hm, h3], h1, h2⟩
  · exact ⟨hm, by rw [State.beginTo]; dsimp only; rw [hm, h3], h1, h2⟩

theorem State.beginService_shows (s : State) : s.beginService.mode = s.mode ∧
    (∃ d, s.beginService.transit = some { src := s.mode, dst := .service, kind := .timed, due := d }) ∧
    s.beginService.clk.core = true ∧ s.beginService.clk.conv = true := by
  obtain ⟨hm, -, hc⟩ := s.fastStart_shows
  obtain ⟨h1, h2, -⟩ := Clocks.start_both s.clk
  refine ⟨hm, ⟨s.fastStart.clk.now + 0, ?_⟩, (congrArg Clocks.core hc).trans h1, (congrArg Clocks.conv hc).trans h2⟩
  rw [State.beginService, State.beginTo, hm]

/-! ### Requests for ARMED -/

theorem State.beginArmed_hold {s : State} (h : s.mode = .hold) : s.beginArmed = s.beginTo .armed .armedEntry 3000 := by
  rw [State.beginArmed, h]

theorem State.beginArmed_keep {s : State} (h : s.mode = .keep) : s.beginArmed = s.keepExit true := by
  rw [State.beginArmed, h]

theorem State.beginArmed_idle {s : State} (h : s.mode = .idle) : s.beginArmed = s.entrySteps := by
  rw [State.beginArmed, h]

/-- What the check of R50 finds wrong with the budget, or that the memory is dead. -/
def State.armedShort (s : State) : Bool :=
  (s.fails s.pat.budget s.benchesAsked).isSome || (s.memDead && !s.memc.cacheOnly)

theorem modeReqArmed_eq {s : State} (hb : s.busy = false) (hm : s.mode = .idle ∨ s.mode = .keep ∨ s.mode = .hold)
    (hp : s.patterned = true) (hc : s.coherent = true) :
    ∃ u : State, s.Only [.ap, .outbox] u ∧ u.offsetsDue = s.offsetsDue ∧ modeReqArmed s =
      if s.armedShort then u.modeErr 5 Mode.armed.code
      else if s.therm.rearmOk then u.beginArmed else u.modeErr 6 Mode.armed.code := by
  have hm' : (s.mode != .idle && s.mode != .keep && s.mode != .hold) = false := by
    rcases hm with h | h | h <;> simp [h]
  have ho := State.budgetCheck_only (.refl s _) (List.Subset.refl _) s.benchesAsked 1
  have hdead : (s.budgetCheck s.benchesAsked 1).1.memDead = s.memDead := by
    have h := fun d => State.dev_congr (congrArg MemSt.devs ho.memc) d
    simp only [State.memDead, h]
  refine ⟨(s.budgetCheck s.benchesAsked 1).1, ho, ?_, ?_⟩
  · rw [State.offsetsDue, State.planNext, ho.therm, State.offsetsDue, State.planNext]
  · have hfit : (!(s.budgetCheck s.benchesAsked 1).2 || ((s.budgetCheck s.benchesAsked 1).1.memDead &&
        !(s.budgetCheck s.benchesAsked 1).1.memc.cacheOnly)) = s.armedShort := by
      rw [hdead, ho.memc, State.armedShort, State.budgetCheck]
      simp
    unfold modeReqArmed
    dsimp only
    rw [if_neg (by simp [hb]), hm', if_neg (by simp), if_neg (by simp [hp]), if_neg (by simp [hc]), hfit, ho.therm]
    split
    · rfl
    · cases s.therm.rearmOk <;> rfl

theorem State.armedShort_eq_false {s : State} (h : (s.fails s.pat.budget s.benchesAsked).isNone = true)
    (hd : s.memDead = false ∨ s.memc.cacheOnly = true) : s.armedShort = false := by
  rw [State.armedShort]
  rw [Option.isNone_iff_eq_none] at h
  rcases hd with hd | hd <;> simp [h, hd]

theorem State.armedShort_eq_true {s : State} (h : (s.fails s.pat.budget s.benchesAsked).isSome = true ∨
    s.memDead = true ∧ s.memc.cacheOnly = false) : s.armedShort = true := by
  rw [State.armedShort]
  rcases h with h | ⟨h, hc⟩ <;> simp_all

/-! ### Refusals -/

/-- A command whose operation is a refusal completes as refused. -/
theorem completes_refused {c : Instr} {f : State → State} {s : State} {code : Nat} {m : Mode} (hp : s.powered = true)
    (he : exec c s = whenPowered s f) (hc : code < 8) (hf : f s = s.modeErr code m.code) :
    Completes c s fun t => t.refusedAs code m ∧ s.goesOn t :=
  completes_of_powered hp he (hf ▸ State.modeErr_refuses (.refl s _) hc m)

section
variable {s : State} (hb : s.busy = false)
include hb

theorem modeReqIdle_away (h : s.mode = .armed ∨ s.mode = .hold ∨ s.mode = .service) : modeReqIdle s = s.beginIdle := by
  unfold modeReqIdle
  rw [if_neg (by simp [hb])]
  rcases h with h | h | h <;> rw [h]

theorem modeReqIdle_keep (h : s.mode = .keep) : modeReqIdle s = s.keepExit false := by
  unfold modeReqIdle
  rw [if_neg (by simp [hb]), h]

theorem modeReqIdle_nowhere (h : s.mode ∉ [Mode.run, .armed, .hold, .service, .keep]) :
    modeReqIdle s = s.modeErr 2 Mode.idle.code := by
  unfold modeReqIdle
  rw [if_neg (by simp [hb])]
  cases hm : s.mode <;> simp_all

theorem modeReqHold_nowhere (h : s.mode ∉ [Mode.run, .armed]) : modeReqHold s = s.modeErr 2 Mode.hold.code := by
  unfold modeReqHold
  rw [if_neg (by simp [hb])]
  cases hm : s.mode <;> simp_all

theorem modeReqHoldForce_nowhere (h : s.mode ∉ [Mode.run, .armed]) :
    modeReqHoldForce s = s.modeErr 2 Mode.hold.code := by
  have ht : s.inTransit = false := (Bool.or_eq_false_iff.1 hb).1
  unfold modeReqHoldForce
  rw [if_neg (by simp [ht])]
  cases hm : s.mode <;> simp_all

theorem modeReqService_nowhere (h : s.mode ∉ [Mode.run, .idle, .hold]) :
    modeReqService s = s.modeErr 2 Mode.service.code := by
  unfold modeReqService
  rw [if_neg (by simp [hb])]
  cases hm : s.mode <;> simp_all

theorem modeReqArmed_nowhere (h : s.mode ∉ [Mode.idle, .keep, .hold]) :
    modeReqArmed s = s.modeErr 2 Mode.armed.code := by
  unfold modeReqArmed
  dsimp only
  rw [if_neg (by simp [hb]), if_pos (by simpa [and_assoc] using h)]

theorem modeReqKeep_nowhere (h : s.mode ∉ [Mode.idle]) : modeReqKeep s = s.modeErr 2 Mode.keep.code := by
  unfold modeReqKeep
  rw [if_neg (by simp [hb]), if_pos (by simpa using h)]

theorem modeReqDormant_nowhere (h : s.mode ∉ [Mode.idle]) : modeReqDormant s = s.modeErr 2 Mode.dormant.code := by
  unfold modeReqDormant
  rw [if_neg (by simp [hb]), if_pos (by simpa using h)]

theorem modeReqTrim_nowhere (c k v f : Bool) (h : s.mode ∉ if c || k || v then [Mode.idle] else []) :
    modeReqTrim c k v f s = s.modeErr 2 Mode.trim.code := by
  unfold modeReqTrim
  rw [if_neg (by simp [hb]), if_pos]
  cases hs : c || k || v
  · simp
  · rw [hs] at h
    simpa using h

theorem modeReqKeep_unpatterned (hp : s.patterned = false) (h : s.mode ∈ [Mode.idle]) :
    modeReqKeep s = s.modeErr 3 Mode.keep.code := by
  unfold modeReqKeep
  rw [if_neg (by simp [hb]), if_neg (by simpa using h), if_pos (by simp [hp])]

theorem modeReqArmed_unpatterned (hp : s.patterned = false) (h : s.mode ∈ [Mode.idle, .keep, .hold]) :
    modeReqArmed s = s.modeErr 3 Mode.armed.code := by
  unfold modeReqArmed
  dsimp only
  rw [if_neg (by simp [hb]), if_neg (by simp at h; rcases h with h | h | h <;> simp [h]), if_pos (by simp [hp])]

theorem modeReqArmed_incoherent (hp : s.patterned = true) (hc : s.coherent = false)
    (h : s.mode ∈ [Mode.idle, .keep, .hold]) : modeReqArmed s = s.modeErr 4 Mode.armed.code := by
  unfold modeReqArmed
  dsimp only
  rw [if_neg (by simp [hb]), if_neg (by simp at h; rcases h with h | h | h <;> simp [h]), if_neg (by simp [hp]),
    if_pos (by simp [hc])]

theorem modeReqTrim_unpatterned (c k v f : Bool) (hp : s.patterned = false)
    (h : s.mode ∈ if c || k || v then [Mode.idle] else []) :
    modeReqTrim c k v f s = s.modeErr 3 Mode.trim.code := by
  cases hs : c || k || v
  · rw [hs] at h
    exact absurd h List.not_mem_nil
  · rw [hs] at h
    unfold modeReqTrim
    rw [if_neg (by simp [hb]), if_neg (by simpa [hs] using h), if_pos (by simp [hp])]

end

/-- Settles O12. -/
theorem modeRequests : Obligations.ModeRequests := by
  unfold Obligations.ModeRequests
  refine ⟨fun s hp hb hm => completes_of_powered hp rfl ?_, fun s hp hb hm => completes_of_powered hp rfl ?_,
    fun s hp hb hm => completes_of_powered hp rfl ?_, fun s hp hb hm hpat => completes_of_powered hp rfl ?_,
    fun s hp hb hm => completes_of_powered hp rfl ?_, fun c k v f s hp hb hm hpat hs => completes_of_powered hp rfl ?_,
    fun s hp hb hm hpat hc hf hd hr ho => completes_of_powered hp rfl ?_,
    fun s hp hb hm hpat hc hf hd hr ho => completes_of_powered hp rfl ?_,
    fun s hp hb hm hpat hc hf hd hr => completes_of_powered hp rfl ?_,
    fun s hp hb hm hpat hc hf hd hr => completes_of_powered hp rfl ?_,
    fun s hp hb hm => completes_of_powered hp rfl ?_, fun s hp hb hm hh c hc => ?_,
    fun s hp ht hm => completes_of_powered hp rfl ?_, fun s hp hb hm => completes_of_powered hp rfl ?_,
    fun s hp hb hm => completes_of_powered hp rfl ?_, fun c k v f s hp ht i hi => ?_,
    fun c k v f h s hp hh hs i hi => ?_, fun c k v f s hp hb i hi hm => ?_, fun c k v f s hp hb hpat i hi hm => ?_,
    fun s hp hb hm hpat hc => completes_of_powered hp rfl ?_,
    fun s hp hb hm hpat hc hf => completes_of_powered hp rfl ?_,
    fun s hp hb hm hpat hc hf hd hr => completes_of_powered hp rfl ?_⟩
  · rw [modeReqIdle_away hb hm]
    exact ⟨rfl, rfl, rfl⟩
  · rw [modeReqIdle_keep hb hm]
    exact ⟨hm, by rw [← hm]; rfl⟩
  · unfold modeReqIdle
    rw [if_neg (by simp [hb]), hm]
    exact ⟨hm, rfl, _, rfl, rfl, rfl⟩
  · unfold modeReqKeep
    rw [if_neg (by simp [hb]), if_neg (by simp [hm]), if_neg (by simp [hpat])]
    exact ⟨hm, by rw [← hm]; rfl⟩
  · unfold modeReqDormant
    have ho := State.biasAllDown_only (.refl s _) (List.Subset.refl _)
    rw [if_neg (by simp [hb]), if_neg (by simp [hm])]
    have hbias : ∀ n : Fin 64, (s.bias n).parked = false → (s.biasAllDown.bias n).aim = .parkSafe := fun n hn => by
      rw [State.bias_biasAllDown s n.isLt, if_neg (by simp [hn])]
    generalize s.biasAllDown = u at ho hbias
    refine ⟨ho.mode.trans hm, ⟨u.clk.now + 0, ?_⟩, hbias⟩
    rw [State.beginTo, ho.mode, hm]
  · unfold modeReqTrim
    rw [if_neg (by simp [hb]), if_neg (by simp [hm, hs]), if_neg (by simp [hpat])]
    obtain ⟨h1, h2, h3⟩ := State.fastStart_shows
      ({ s with trim := { conv := c, skew := k, survey := v, full := f && v } } : State)
    obtain ⟨h4, h5, -⟩ := Clocks.start_both s.clk
    generalize State.fastStart ({ s with trim := { conv := c, skew := k, survey := v, full := f && v } } : State) = u
      at h1 h2 h3
    have ht : (u.beginTo .trim .timed 0).trim = { conv := c, skew := k, survey := v, full := f && v } := h2
    refine ⟨h1.trans hm, ⟨u.clk.now + 0, ?_⟩, by rw [ht], by rw [ht], by rw [ht], by rw [ht],
      (congrArg Clocks.core h3).trans h4, (congrArg Clocks.conv h3).trans h5⟩
    rw [State.beginTo, h1, hm]
  · obtain ⟨u, hu, hoff, he⟩ := modeReqArmed_eq hb (.inl hm) hpat hc
    rw [he, if_neg (by simp [State.armedShort_eq_false hf hd]), if_pos hr,
      State.beginArmed_idle (hu.mode.trans hm), State.entrySteps, hoff, if_pos ho]
    exact ⟨hu.mode.trans hm, u.clk.now + 0, by rw [State.beginTo, hu.mode, hm]⟩
  · obtain ⟨u, hu, hoff, he⟩ := modeReqArmed_eq hb (.inl hm) hpat hc
    obtain ⟨h1, h2, h3, h4⟩ := u.pllLockStep_shows
    rw [hu.mode, hm] at h1 h2
    rw [hu.clk] at h2
    rw [he, if_neg (by simp [State.armedShort_eq_false hf hd]), if_pos hr,
      State.beginArmed_idle (hu.mode.trans hm), State.entrySteps, hoff, if_neg (by simp [ho])]
    exact ⟨h1, h2, h3, h4⟩
  · obtain ⟨u, hu, -, he⟩ := modeReqArmed_eq hb (.inr (.inr hm)) hpat hc
    rw [he, if_neg (by simp [State.armedShort_eq_false hf hd]), if_pos hr,
      State.beginArmed_hold (hu.mode.trans hm)]
    exact ⟨hu.mode.trans hm, by rw [State.beginTo, hu.mode, hm, hu.clk]⟩
  · obtain ⟨u, hu, -, he⟩ := modeReqArmed_eq hb (.inr (.inl hm)) hpat hc
    rw [he, if_neg (by simp [State.armedShort_eq_false hf hd]), if_pos hr,
      State.beginArmed_keep (hu.mode.trans hm)]
    exact ⟨hu.mode.trans hm, by rw [State.keepExit, State.beginTo, hu.mode, hm, hu.clk]; rfl⟩
  · unfold modeReqHold
    rw [if_neg (by simp [hb]), hm]
    exact ⟨hm, rfl, _, rfl, rfl, rfl⟩
  · have hs : (s.holdNow 0 none).mode = .hold ∧ (s.holdNow 0 none).transit = none ∧ (s.holdNow 0 none).hold = none := by
      obtain ⟨h1, h2, h3⟩ := s.holdNow_shows 0 none
      exact ⟨h1, h3 (by rw [hh]; rfl), h2⟩
    have ht : s.inTransit = false := (Bool.or_eq_false_iff.1 hb).1
    simp only [List.mem_cons, List.not_mem_nil, or_false] at hc
    rcases hc with rfl | rfl
    · refine completes_of_powered hp rfl ?_
      unfold modeReqHold
      rw [if_neg (by simp [hb]), hm]
      exact hs
    · refine completes_of_powered hp rfl ?_
      unfold modeReqHoldForce
      rw [if_neg (by simp [ht]), hm]
      exact hs
  · unfold modeReqHoldForce
    rw [if_neg (by simp [ht])]
    obtain ⟨h1, h2, -⟩ := s.holdNow_shows 0 (some (13, 0))
    have h3 := fun b : Fin 8 => State.holdNow_poisons hm b.isLt (code := 0) (c := 13) (d := 0)
    rw [hm]
    exact ⟨h1, h2, h3⟩
  · unfold modeReqService
    obtain ⟨h1, h2, h3, h4⟩ := s.beginService_shows
    rw [if_neg (by simp [hb])]
    rcases hm with h | h <;> rw [h] at h1 h2 ⊢ <;> exact ⟨h1, h2, h3, h4⟩
  · unfold modeReqService
    rw [if_neg (by simp [hb]), hm]
    exact ⟨hm, rfl, _, rfl, rfl, rfl⟩
  · have hb := State.busy_of_transit ht
    simp only [List.mem_cons, List.not_mem_nil, or_false] at hi
    rcases hi with rfl | rfl | rfl | rfl | rfl | rfl | rfl | rfl
    · exact completes_refused hp rfl (by decide) (if_pos hb)
    · exact completes_refused hp rfl (by decide) (if_pos hb)
    · exact completes_refused hp rfl (by decide) (if_pos hb)
    · exact completes_refused hp rfl (by decide) (if_pos hb)
    · exact completes_refused hp rfl (by decide) (if_pos hb)
    · exact completes_refused hp rfl (by decide) (if_pos ht)
    · exact completes_refused hp rfl (by decide) (if_pos hb)
    · exact completes_refused hp rfl (by decide) (if_pos hb)
  · have hb := State.busy_of_hold hh hs
    simp only [List.mem_cons, List.not_mem_nil, or_false] at hi
    rcases hi with rfl | rfl | rfl | rfl | rfl | rfl | rfl <;>
      exact completes_refused hp rfl (by decide) (if_pos hb)
  · simp only [List.mem_cons, List.not_mem_nil, or_false] at hi
    rcases hi with rfl | rfl | rfl | rfl | rfl | rfl | rfl | rfl
    · exact completes_refused hp rfl (by decide) (modeReqIdle_nowhere hb hm)
    · exact completes_refused hp rfl (by decide) (modeReqKeep_nowhere hb hm)
    · exact completes_refused hp rfl (by decide) (modeReqDormant_nowhere hb hm)
    · exact completes_refused hp rfl (by decide) (modeReqArmed_nowhere hb hm)
    · exact completes_refused hp rfl (by decide) (modeReqHold_nowhere hb hm)
    · exact completes_refused hp rfl (by decide) (modeReqHoldForce_nowhere hb hm)
    · exact completes_refused hp rfl (by decide) (modeReqService_nowhere hb hm)
    · exact completes_refused hp rfl (by decide) (modeReqTrim_nowhere hb c k v f hm)
  · simp only [List.mem_cons, List.not_mem_nil, or_false] at hi
    rcases hi with rfl | rfl | rfl
    · exact completes_refused hp rfl (by decide) (modeReqKeep_unpatterned hb hpat hm)
    · exact completes_refused hp rfl (by decide) (modeReqArmed_unpatterned hb hpat hm)
    · exact completes_refused hp rfl (by decide) (modeReqTrim_unpatterned hb c k v f hpat hm)
  · rw [modeReqArmed_incoherent hb hpat hc (by simpa using hm)]
    exact State.modeErr_refuses (.refl s _) (by decide) _
  · obtain ⟨u, hu, -, he⟩ := modeReqArmed_eq hb hm hpat hc
    rw [he, if_pos (State.armedShort_eq_true hf)]
    exact State.modeErr_refuses hu (by decide) _
  · obtain ⟨u, hu, -, he⟩ := modeReqArmed_eq hb hm hpat hc
    rw [he, if_neg (by simp [State.armedShort_eq_false hf hd]), if_neg (by simp [hr])]
    exact State.modeErr_refuses hu (by decide) _

end Sys2Proof.Machine
end

section
/-! Loss and return of the reference, and divider alignment (O19). -/
namespace Sys2Proof.Machine

-- One proof at a time: elaborated side by side, the proofs of so long a text need too much memory.
set_option Elab.async false

/-! ### TIME while clocks start and stop -/

/-- TIME reads `t`, and no stop moves it. -/
def Clocks.Still (t : Nat) (c : Clocks) : Prop :=
  c.time = t ∧ (c.refclk = true ∨ timeAdd c.edgeTime (120 * c.aonSince) ≤ t)

theorem Clocks.Still.stop {t : Nat} {c : Clocks} (h : c.Still t) : c.stop.Still t := by
  obtain ⟨rfl, hr⟩ := h
  unfold Clocks.stop
  split
  · split
    · exact ⟨rfl, hr⟩
    · next hn =>
      have hr := hr.resolve_left hn
      exact ⟨max_eq_left hr, .inr hr⟩
  · exact ⟨rfl, hr⟩

theorem Clocks.Still.start {t : Nat} {c : Clocks} (h : c.Still t) (conv : Bool) : (c.start conv).Still t := by
  unfold Clocks.start
  split <;> exact h

namespace State

theorem toIdle_clk (s : State) (cause : Nat) : (s.toIdle cause).clk = s.clk.stop := by
  unfold toIdle
  dsimp only
  obtain ⟨u, hu⟩ : ∃ u : State, u = if s.mode == .armed || s.mode == .hold then s.abortAll false else s := ⟨_, rfl⟩
  rw [← hu]
  have huc : u.clk = s.clk := by
    rw [hu]
    split
    · exact (abortAll_only (.refl s _) (List.Subset.refl _) _).clk
    · rfl
  obtain ⟨v, hv⟩ : ∃ v : State, v = (if u.mode == .armed then u.endWindows else u).fmsOff.engsStop := ⟨_, rfl⟩
  rw [← hv]
  have hvc : v.clk = u.clk := by
    rw [hv]
    refine (engsStop_only (fmsOff_only (ps := [.ap, .chans, .engines, .fms]) ?_ (by simp)) (by simp)).clk
    exact .ite (endWindows_only (.refl _ _) (by simp)) (.refl _ _)
  obtain ⟨w, hw⟩ : ∃ w : State, w = (if v.clk.core then v.tallyStop else v).criersStop.convsOff := ⟨_, rfl⟩
  rw [← hw]
  have hwc : w.clk = v.clk := by
    rw [hw]
    refine (convsOff_only (criersStop_only (ps := [.ap, .mem, .memc, .tally, .dec, .out]) ?_ (by simp)) (by simp)).clk
    exact .ite (tallyStop_only (.refl _ _) (by simp)) (.refl _ _)
  have hms := (memSleep_only (.refl w.stopClocks _) (List.Subset.refl _)).clk
  refine (become_only (.refl _ _) (List.Subset.refl _) _ _).clk.trans (hms.trans ?_)
  rw [← huc, ← hvc, ← hwc]
  rfl

theorem surveyLost_clk (s : State) : s.surveyLost.clk = s.clk :=
  (surveyLost_only (.refl s _) (List.Subset.refl _)).clk

theorem trimAbort_clk (s : State) (code : Nat) : (s.trimAbort code).clk = s.clk.stop := by
  rw [trimAbort, toIdle_clk, surveyLost_clk]

theorem followUp_clk (s : State) (f : Option Mode) : (s.followUp f).clk = s.clk ∨ (s.followUp f).clk = s.clk.start true := by
  unfold followUp
  split
  · exact .inl rfl
  · exact .inr s.fastStart_shows.2.2
  · exact .inl rfl

theorem holdNow_clk (s : State) (code : Nat) (p : Option (Nat × Nat)) :
    (s.holdNow code p).clk = s.clk ∨ (s.holdNow code p).clk = s.clk.start true := by
  obtain ⟨u, hu, he⟩ : ∃ u : State, u.clk = s.clk ∧ s.holdNow code p = u.unitsHeld.holdEnters code := by
    cases p with
    | none => exact ⟨s, rfl, rfl⟩
    | some p =>
      refine ⟨if s.mode == .run then s.poisonAll p.1 p.2 else s, ?_, rfl⟩
      split
      · exact (poisonAll_only (.refl s _) (List.Subset.refl _) _ _).clk
      · rfl
  obtain ⟨w, hw⟩ : ∃ w : State, w = u.unitsHeld := ⟨_, rfl⟩
  have hwc : w.clk = s.clk := by rw [hw, u.unitsHeld_only.clk, hu]
  obtain ⟨x, hx⟩ : ∃ x : State, x = ({ w with hold := none, transit := none } : State).become .hold code := ⟨_, rfl⟩
  have hxc : x.clk = s.clk := by
    rw [hx]
    exact (become_only (.refl _ _) (List.Subset.refl _) .hold code).clk.trans hwc
  rw [he, holdEnters, ← hw, ← hx, ← hxc]
  exact followUp_clk _ _

theorem entryAbort_clk (s : State) (t : Transit) (code : Nat) :
    (s.entryAbort t code).clk = s.clk ∨ (s.entryAbort t code).clk = s.clk.stop := by
  have ha := (alertLate_only (modeErr_only (.refl s [.ap, .outbox, .pins]) (by simp) code Mode.armed.code) (by simp)).clk
  unfold entryAbort
  dsimp only
  generalize (s.modeErr code Mode.armed.code).alertLate = u at ha ⊢
  split
  · exact .inl ha
  · split
    · exact .inl ha
    · split
      · exact .inr ((toIdle_clk _ _).trans (congrArg Clocks.stop ha))
      · refine .inr ((memSleep_only (.refl _ _) (List.Subset.refl _)).clk.trans ?_)
        have hc := (criersStop_only (.refl ({ u with transit := none } : State) _) (List.Subset.refl _)).clk
        exact congrArg Clocks.stop (hc.trans ha)

/-! ### The mode action -/

/-- The mode action of REF_LOSS leaves the clocks, starts them or stops them. -/
theorem refLossMode_clk_cases (s : State) (cause : Nat) : (s.refLossMode cause).clk = s.clk ∨
    (s.refLossMode cause).clk = s.clk.start true ∨ (s.refLossMode cause).clk = s.clk.stop := by
  have hhold := fun p => (s.holdNow_clk 7 p).imp id Or.inl (b := _) (d := (s.holdNow 7 p).clk = s.clk.start true ∨
    (s.holdNow 7 p).clk = s.clk.stop)
  unfold refLossMode
  split
  · exact .inl rfl
  · split
    · split
      · next x _ _ => exact (s.entryAbort_clk x 7).imp id .inr
      · split
        · exact hhold _
        · exact .inl rfl
    · split
      · exact hhold _
      · exact hhold _
      · exact .inr (.inr (trimAbort_clk s 7))
      · exact .inl rfl

theorem refLossMode_clk {t : Nat} {s : State} (h : s.clk.Still t) (cause : Nat) : (s.refLossMode cause).clk.Still t := by
  rcases s.refLossMode_clk_cases cause with he | he | he <;> rw [he]
  · exact h
  · exact h.start true
  · exact h.stop

theorem refLossMode_at {a s : State} {o : Nat} (h₀ : a.At o s) (hq : Apart o) (h1 : o ≠ R.TIME_EPOCH_CTL)
    (h2 : o ≠ R.TOP_MODE_ERR) (h3 : o ≠ R.TOP_SUPPLY) (cause : Nat) : a.At o (s.refLossMode cause) := by
  unfold refLossMode
  split
  · exact h₀
  · split
    · exact .ite (entryAbort_at h₀ hq h1 h2 h3 _ _) (.ite (holdNow_at h₀ hq h1 _ _) h₀)
    · split
      · exact holdNow_at h₀ hq h1 _ _
      · exact holdNow_at h₀ hq h1 _ _
      · exact trimAbort_at h₀ hq h1 _
      · exact h₀

/-- What REF_LOSS shows before the mode action. -/
def refDeclared (s : State) (cause : LossCause) : State :=
  let s := (s.flagIrq R.TIME_STATUS Fd.TIME_STATUS_REF_LOSS 1).setFld R.TIME_STATUS Fd.TIME_STATUS_LOSS_CAUSE
    (lossCode cause)
  let s := (s.clear R.TOP_MODE Fd.TOP_MODE_COHERENT).pulse 345
  if lossCode cause = 1 then
    let c := { s.clk with refclk := false, edgeTime := s.clk.atEdge, aonSince := 0, lostAt := s.clk.now }
    { s with clk := if c.stopPend then c.stop else c }
  else s

theorem refLost_eq (s : State) (cause : LossCause) : s.refLost cause = (s.refDeclared cause).refLossMode (lossCode cause) := rfl

theorem refDeclared_only (s : State) (cause : LossCause) :
    s.Only [.ap, .outbox, .fabric, .clk] (s.refDeclared cause) := by
  unfold refDeclared
  dsimp only
  have h := pulse_only (clear_only (setFld_only (flagIrq_only (.refl s [.ap, .outbox, .fabric, .clk]) (by simp)
    R.TIME_STATUS Fd.TIME_STATUS_REF_LOSS 1) (by simp) R.TIME_STATUS Fd.TIME_STATUS_LOSS_CAUSE (lossCode cause))
    (by simp) R.TOP_MODE Fd.TOP_MODE_COHERENT) (by simp) 345
  refine .ite ?_ h
  simp (contextual := true) (maxDischargeDepth := 40) -implicitDefEqProofs [h]

/-- The registers and the clocks as REF_LOSS is declared. -/
theorem refDeclared_shows (s : State) (cause : LossCause) :
    (s.refDeclared cause).coherent = false ∧
      (s.refDeclared cause).fld R.TIME_STATUS Fd.TIME_STATUS_LOSS_CAUSE = lossCode cause ∧
      (s.refDeclared cause).flag R.TIME_STATUS Fd.TIME_STATUS_REF_LOSS = true ∧
      (∀ k, (s.refDeclared cause).reg (R.BENCH_CTL k) = s.reg (R.BENCH_CTL k)) ∧
      (s.clk.refclk = true → s.clk.time < 2 ^ 64 → (s.refDeclared cause).clk.Still s.clk.time) ∧
      (lossCode cause ≠ 1 → (s.refDeclared cause).clk = s.clk) := by
  have hcode : lossCode cause < 2 ^ Fd.TIME_STATUS_LOSS_CAUSE.w := by
    cases cause <;> dsimp only [lossCode] <;> decide
  obtain ⟨u, hu⟩ : ∃ u : State, u = (s.flagIrq R.TIME_STATUS Fd.TIME_STATUS_REF_LOSS 1).setFld R.TIME_STATUS
    Fd.TIME_STATUS_LOSS_CAUSE (lossCode cause) := ⟨_, rfl⟩
  have huc : u.clk = s.clk := by
    rw [hu]
    exact (setFld_only (flagIrq_only (.refl s [.ap, .outbox]) (by simp) _ _ _) (by simp) _ _ _).clk
  have h1 : u.fld R.TIME_STATUS Fd.TIME_STATUS_LOSS_CAUSE = lossCode cause := by
    rw [hu, fld_setFld _ _ _ _ (by decide)]
    exact Nat.mod_eq_of_lt hcode
  have h2 : u.flag R.TIME_STATUS Fd.TIME_STATUS_REF_LOSS = true := by
    rw [hu, flag, fld_setFld_disj _ _ _ _ _ (by decide) (by decide)]
    exact flag_flagIrq s _ _ _ (by decide) (by decide) (by decide)
  have h3 : ∀ k, u.reg (R.BENCH_CTL k) = s.reg (R.BENCH_CTL k) := fun k => by
    have hne : R.BENCH_CTL k ≠ R.TIME_STATUS ∧ R.BENCH_CTL k ≠ R.TOP_IRQ_PEND := by
      unfold R.BENCH_CTL R.TIME_STATUS R.TOP_IRQ_PEND
      omega
    rw [hu, reg_setFld_ne _ _ _ _ _ hne.1, reg_flagIrq_ne _ _ _ hne.1 hne.2]
  obtain ⟨v, hv⟩ : ∃ v : State, v = (u.clear R.TOP_MODE Fd.TOP_MODE_COHERENT).pulse 345 := ⟨_, rfl⟩
  have hvc : v.clk = s.clk := by
    rw [hv, ← huc]
    exact (pulse_only (clear_only (.refl u [.ap, .fabric]) (by simp) _ _) (by simp) _).clk
  have hvr : ∀ o, o ≠ R.TOP_MODE → v.reg o = u.reg o := fun o ho => by
    rw [hv, reg_pulse, reg_clear_ne _ _ _ _ ho]
  have h4 : v.flag R.TOP_MODE Fd.TOP_MODE_COHERENT = false := by
    rw [hv, flag_congr (reg_pulse _ _ _)]
    exact flag_clear _ _ _ (by decide)
  obtain ⟨c, hc, hcs, hcn⟩ : ∃ c : Clocks, s.refDeclared cause = { v with clk := c } ∧
      (s.clk.refclk = true → s.clk.time < 2 ^ 64 → c.Still s.clk.time) ∧ (lossCode cause ≠ 1 → c = s.clk) := by
    have he : s.refDeclared cause = if lossCode cause = 1 then
        { v with clk := if v.clk.stopPend then
          ({ v.clk with refclk := false, edgeTime := v.clk.atEdge, aonSince := 0, lostAt := v.clk.now } : Clocks).stop
          else { v.clk with refclk := false, edgeTime := v.clk.atEdge, aonSince := 0, lostAt := v.clk.now } } else v := by
      rw [hv, hu]
      rfl
    rw [he, hvc]
    by_cases hl : lossCode cause = 1
    · rw [if_pos hl]
      refine ⟨_, rfl, fun _ ht => ?_, fun h => absurd hl h⟩
      have hedge : s.clk.atEdge ≤ s.clk.time := by
        unfold Clocks.atEdge
        split <;> omega
      have hstill : Clocks.Still s.clk.time
          { s.clk with refclk := false, edgeTime := s.clk.atEdge, aonSince := 0, lostAt := s.clk.now } :=
        ⟨rfl, .inr ((Nat.mod_le _ _).trans hedge)⟩
      split
      · exact hstill.stop
      · exact hstill
    · rw [if_neg hl]
      exact ⟨s.clk, by rw [← hvc], fun hr _ => ⟨rfl, .inl hr⟩, fun _ => rfl⟩
  rw [hc]
  refine ⟨h4, ?_, ?_, fun k => ?_, hcs, hcn⟩
  · exact (fld_congr (hvr R.TIME_STATUS (by decide)) _).trans h1
  · exact (flag_congr (hvr R.TIME_STATUS (by decide)) _).trans h2
  · refine (hvr _ ?_).trans (h3 k)
    unfold R.BENCH_CTL R.TOP_MODE
    omega

theorem toIdle_mode (s : State) (cause : Nat) : (s.toIdle cause).mode = .idle := become_mode _ _ _

/-- The end of an entry to ARMED is reported in MODE_ERR. -/
theorem entryAbort_refuses (s : State) (t : Transit) {code : Nat} (hc : code < 8) :
    (s.entryAbort t code).refusedAs code .armed := by
  have h := (modeErr_refuses (.refl s _) hc .armed).1
  have hq : Apart R.TOP_MODE_ERR := ⟨by decide, by decide, by decide⟩
  have ha : (s.modeErr code Mode.armed.code).At R.TOP_MODE_ERR (s.entryAbort t code) := by
    unfold entryAbort
    generalize s.modeErr code Mode.armed.code = u
    have hu : u.At R.TOP_MODE_ERR u.alertLate := alertLate_at (.refl u _) (by decide)
    exact .ite (.update hu ..) (.ite (.update hu ..) (.ite (toIdle_at hu hq (by decide) _)
      (memSleep_at (stopClocks_at (criersStop_at (.update hu ..))))))
  unfold refusedAs at h ⊢
  rwa [ha.fld, ha.fld, ha.flag]

section
variable {s : State} {cause : LossCause}

/-- The effects of a REF_LOSS (R107, R108). -/
theorem refLost_shows (hcov : s.clk.time < 2 ^ 64) : (s.refLost cause).coherent = false ∧
    (s.refLost cause).fld R.TIME_STATUS Fd.TIME_STATUS_LOSS_CAUSE = lossCode cause ∧
    (s.refLost cause).flag R.TIME_STATUS Fd.TIME_STATUS_REF_LOSS = true ∧
    (s.clk.refclk = true → (s.refLost cause).clk.time = s.clk.time) := by
  obtain ⟨h1, h2, h3, -, h5, -⟩ := s.refDeclared_shows cause
  rw [refLost_eq]
  generalize s.refDeclared cause = u at h1 h2 h3 h5
  have hat : ∀ o, Apart o → o ≠ R.TIME_EPOCH_CTL → o ≠ R.TOP_MODE_ERR → o ≠ R.TOP_SUPPLY →
      u.At o (u.refLossMode (lossCode cause)) := fun o hq he hm hs => refLossMode_at (.refl u o) hq he hm hs _
  have hs := hat R.TIME_STATUS ⟨by decide, by decide, by decide⟩ (by decide) (by decide) (by decide)
  have hm := hat R.TOP_MODE ⟨by decide, by decide, by decide⟩ (by decide) (by decide) (by decide)
  exact ⟨(hm.flag _).trans h1, (hs.fld _).trans h2, (hs.flag _).trans h3,
    fun hr => (refLossMode_clk (h5 hr hcov) _).1⟩

theorem refLost_run (hn : s.therm.thermN = false) (ht : s.transit = none) (hm : s.mode = .run) :
    s.refLost cause = (s.refDeclared cause).holdNow 7 (some (12, lossCode cause)) := by
  have ho := s.refDeclared_only cause
  rw [refLost_eq, refLossMode, ho.therm, hn, ho.transit, ht, ho.mode, hm]
  exact if_neg (by decide)

theorem refLost_armed (hn : s.therm.thermN = false) (ht : s.transit = none) (hm : s.mode = .armed) :
    s.refLost cause = (s.refDeclared cause).holdNow 7 none := by
  have ho := s.refDeclared_only cause
  rw [refLost_eq, refLossMode, ho.therm, hn, ho.transit, ht, ho.mode, hm]
  exact if_neg (by decide)

theorem refLost_trim (hn : s.therm.thermN = false) (ht : s.transit = none) (hm : s.mode = .trim) :
    s.refLost cause = (s.refDeclared cause).trimAbort 7 := by
  have ho := s.refDeclared_only cause
  rw [refLost_eq, refLossMode, ho.therm, hn, ho.transit, ht, ho.mode, hm]
  exact if_neg (by decide)

theorem refLost_entry (hn : s.therm.thermN = false) {x : Transit} (ht : s.transit = some x) (hx : x.entersArmed = true) :
    s.refLost cause = (s.refDeclared cause).entryAbort x 7 := by
  have ho := s.refDeclared_only cause
  rw [refLost_eq, refLossMode, ho.therm, hn, ho.transit, ht]
  exact if_pos hx

theorem refLost_hold (hn : s.therm.thermN = false) (ht : s.transit = none) (hm : s.mode = .run ∨ s.mode = .armed) :
    (s.refLost cause).mode = .hold := by
  rcases hm with hm | hm
  · rw [refLost_run hn ht hm]
    exact (holdNow_shows _ _ _).1
  · rw [refLost_armed hn ht hm]
    exact (holdNow_shows _ _ _).1

theorem refLost_poisons (hn : s.therm.thermN = false) (ht : s.transit = none) (hm : s.mode = .run) {b : Nat} (hb : b < 8)
    (hon : s.benchOn b = true) : (s.refLost cause).flag (R.BENCH_EVENTS b) Fd.BENCH_EVENTS_POISON = true := by
  have ho := s.refDeclared_only cause
  obtain ⟨-, -, -, hr, -⟩ := s.refDeclared_shows cause
  rw [refLost_run hn ht hm]
  refine holdNow_poisons (ho.mode.trans hm) hb ?_ _ _ _
  rw [benchOn_congr (hr b) (benchSt_congr ho.bench b), hon]

end

end State

theorem pllLockLoss_eq {core : Bool} {s : State} (h : (if core then s.clk.core else s.clk.conv) = true) :
    pllLockLoss core s = (let t := s.refLost .lock
      if core && t.clk.core && t.clk.refclk then { t with clk := { t.clk with snapPend := true } } else t) := by
  unfold pllLockLoss
  rw [if_neg (by simp [h])]

/-- Settles O19. -/
theorem referenceCommands : Obligations.ReferenceCommands := by
  unfold Obligations.ReferenceCommands
  refine ⟨fun cause s hp hl ht => completes_of_powered hp rfl ?_, fun cause s hp hl => exec_of_powered hp rfl ?_,
    fun core s hp hc ht => completes_of_powered hp rfl ?_, fun s hp hc ha hr => completes_of_powered hp rfl ?_,
    fun core s hp hc => exec_of_powered hp rfl ?_, fun s hp hr hl ht => completes_of_powered hp rfl ?_,
    fun s hp h => exec_of_powered hp rfl ?_, fun s hp hc ha hr hs h0 ht => completes_of_powered hp rfl ?_⟩
  · rw [refLoss, if_pos hl]
    obtain ⟨h1, h2, h3, h4⟩ := State.refLost_shows (s := s) (cause := cause) ht
    refine ⟨h1, h2, h3, h4, fun hn htr hm => ⟨State.refLost_hold hn htr hm, fun hm b hb => ?_⟩, fun hn htr hm => ?_,
      fun hn ⟨x, htr, hx⟩ => ?_⟩
    · exact State.refLost_poisons hn htr hm b.isLt hb
    · rw [State.refLost_trim hn htr hm]
      exact State.toIdle_mode _ _
    · rw [State.refLost_entry hn htr hx]
      exact State.entryAbort_refuses _ _ (by decide)
  · rw [refLoss, if_neg (by simp [hl])]
  · obtain ⟨h1, h2, h3, h4⟩ := State.refLost_shows (s := s) (cause := .lock) ht
    have h5 := State.refLost_hold (s := s) (cause := .lock)
    rw [pllLockLoss_eq hc]
    dsimp only
    generalize s.refLost .lock = t at h1 h2 h3 h4 h5 ⊢
    split <;> exact ⟨h1, h2, h3, h4, h5⟩
  · rw [pllLockLoss_eq (core := true) hc]
    have hrun : (s.refLost .lock).clk.core = true ∧ (s.refLost .lock).clk.refclk = true := by
      obtain ⟨-, -, -, -, -, hd⟩ := s.refDeclared_shows .lock
      rw [State.refLost_eq]
      rcases (s.refDeclared .lock).refLossMode_clk_cases 3 with he | he | he
      · rw [show lossCode .lock = 3 from rfl, he, hd (by decide)]
        exact ⟨hc, hr⟩
      · rw [show lossCode .lock = 3 from rfl, he, hd (by decide), Clocks.start, if_pos hc]
        exact ⟨hc, hr⟩
      · rw [show lossCode .lock = 3 from rfl, he, hd (by decide), Clocks.stop, if_pos (by simp [hc, ha]), if_pos hr]
        exact ⟨hc, hr⟩
    dsimp only
    generalize s.refLost .lock = t at hrun ⊢
    rw [if_pos (by simp [hrun])]
    exact ⟨rfl, hrun⟩
  · unfold pllLockLoss
    rw [if_pos (by simp [hc])]
  · unfold refclkReturn
    rw [if_neg (by simp [hr, hl])]
    have hsnap : snap30 s.clk.time = (s.clk.time / 30 + 1) * 30 := Nat.mod_eq_of_lt (by
      show _ < 2 ^ 64
      omega)
    refine ⟨rfl, rfl, ?_, ?_, ?_, rfl, rfl⟩ <;> dsimp only <;> rw [hsnap] <;> omega
  · unfold refclkReturn
    rw [if_pos]
    rcases h with h | h <;> simp [h]
  · have he : dividerAligned s = s.align := by
      refine if_pos ?_
      simp only [hc, ha, hr, hs, h0, Bool.not_false, Bool.true_and, beq_self_eq_true]
      cases hx : s.transit with
      | none => rfl
      | some x => rcases ht x hx with h | h <;> simp [h]
    rw [he]
    have hf := State.fabricStart_only (.refl ({ s with clk := { s.clk with aligned := true } } : State) _) (List.Subset.refl _)
    exact ⟨hf.clk, hf.ap⟩

end Sys2Proof.Machine
end

section
/-! Transitions complete (O13). -/
namespace Sys2Proof.Machine

-- One proof at a time: elaborated side by side, the proofs of so long a text need too much memory.
set_option Elab.async false

theorem bitAt_foldl_setBit (l : List Nat) (m i : Nat) : bitAt (l.foldl setBit m) i = (bitAt m i || decide (i ∈ l)) := by
  induction l generalizing m with
  | nil => simp
  | cons k l ih =>
    rw [List.foldl_cons, ih]
    by_cases h : i = k
    · simp [h]
    · simp [h]

namespace State

/-! ### The end of an entry to ARMED -/

/-- What the entry to ARMED takes over before the mode changes. -/
def armedHead (s : State) (src : Mode) : State :=
  let s : State := { s with transit := none, therm := { s.therm with convOff := false } }
  let s := s.takeTrims
  let s := if src == .hold && !s.out.parked then s else s.fsrTakeAll
  let s := if src == .hold then s else s.fluxClearAll
  let s := if s.safeLow then s else { s with out := { s.out with parked := false } }
  let s := (if s.out.parked then s else s.convsOn).isincTake
  let s := foldAll State.streamTake s (List.range 8)
  if src == .hold then s else s.criersEntered

/-- The Benches that waited to be enabled start. -/
def armedBenches (s : State) (fresh : List Nat) : State := foldAll (fun s b => s.benchStart b) s fresh

/-- The engines and the Foreman of a Bench that is on are armed. -/
def armedUnit (resume : Bool) (fresh : Nat) (s : State) (b : Nat) : State :=
  if s.benchOn b then
    (foldAll (fun s e => s.engStart b e true) s (List.range 4)).fmArm b (resume && !bitAt fresh b)
  else s

/-- The Benches that wait to be enabled, as a mask. -/
def enPends (s : State) : Nat := (pick 8 fun b => (s.benchSt b).enPend).foldl setBit 0

theorem toArmed_eq (s : State) (src : Mode) : s.toArmed src =
    foldAll (armedUnit (src == .hold) s.enPends) (((s.armedHead src).become .armed 0).armedBenches (bitsSet 8 s.enPends))
      (List.range 8) := rfl

theorem armedHead_only (s : State) (src : Mode) :
    s.Only [.transit, .therm, .time, .ap, .out, .looms, .dec, .outbox] (s.armedHead src) := by
  have h0 : s.Only [.transit, .therm, .time, .ap, .out, .looms, .dec, .outbox]
      { s with transit := none, therm := { s.therm with convOff := false } } := by
    simp (maxDischargeDepth := 40) -implicitDefEqProofs
  unfold armedHead
  generalize ({ s with transit := none, therm := { s.therm with convOff := false } } : State) = u at h0 ⊢
  simp (contextual := true) (maxDischargeDepth := 40) -implicitDefEqProofs [h0]

theorem armedHead_transit (s : State) (src : Mode) : (s.armedHead src).transit = none := by
  have h : ({ s with transit := none, therm := { s.therm with convOff := false } } : State).Only
      [.therm, .time, .ap, .out, .looms, .dec, .outbox] (s.armedHead src) := by
    unfold armedHead
    generalize ({ s with transit := none, therm := { s.therm with convOff := false } } : State) = u
    simp (contextual := true) (maxDischargeDepth := 40) -implicitDefEqProofs
  exact h.transit

theorem armedBenches_only (s : State) (fresh : List Nat) :
    s.Only [.ap, .bench, .lanes, .engines] (s.armedBenches fresh) := by
  unfold armedBenches
  simp (contextual := true) (maxDischargeDepth := 40) -implicitDefEqProofs

theorem armedUnit_only (resume : Bool) (fresh : Nat) (s : State) (b : Nat) :
    s.Only [.bench, .engines, .fms] (armedUnit resume fresh s b) := by
  unfold armedUnit
  simp (contextual := true) (maxDischargeDepth := 40) -implicitDefEqProofs

theorem benchOn_armedUnit (resume : Bool) (fresh : Nat) (s : State) (b k : Nat) :
    (armedUnit resume fresh s b).benchOn k = s.benchOn k := by
  unfold armedUnit
  split
  · have he : s.Only [.engines] (foldAll (fun s e => s.engStart b e true) s (List.range 4)) := by
      simp (contextual := true) (maxDischargeDepth := 40) -implicitDefEqProofs
    generalize foldAll (fun s e => s.engStart b e true) s (List.range 4) = u at he ⊢
    have hu : u.benchOn k = s.benchOn k := benchOn_congr (he.reg _) (benchSt_congr he.bench k)
    rw [← hu]
    have hb : ((u.fmArm b (resume && !bitAt fresh b)).benchSt k).enPend = (u.benchSt k).enPend := by
      have h : (u.fmArm b (resume && !bitAt fresh b)).benchSt k =
          (u.onBench b fun x => { x with firstStrobe := false }).benchSt k := rfl
      rw [h, benchSt_onBench]
      split
      · next hk => rw [hk]
      · rfl
    have hr : (u.fmArm b (resume && !bitAt fresh b)).reg (R.BENCH_CTL k) = u.reg (R.BENCH_CTL k) := rfl
    rw [benchOn, flag_congr hr, hb, benchOn]
  · rfl

theorem benchOn_benchStart_ne (s : State) {b k : Nat} (h : k ≠ b) : (s.benchStart b).benchOn k = s.benchOn k := by
  have ho : ∀ t : State, t.Only [.lanes, .engines] (foldAll (fun s e => s.engStart b e false)
      (foldAll (fun s l => s.laneArm b l) t (List.range 32)) (List.range 4)) := fun t => by
    simp (contextual := true) (maxDischargeDepth := 40) -implicitDefEqProofs
  obtain ⟨u, hu⟩ : ∃ u : State, u = (s.raise (R.BENCH_CTL b) Fd.BENCH_CTL_EN).onBench b
    fun x => { x with enPend := false, stopping := false } := ⟨_, rfl⟩
  have hs : s.benchStart b = foldAll (fun s e => s.engStart b e false)
      (foldAll (fun s l => s.laneArm b l) u (List.range 32)) (List.range 4) := by
    rw [hu]
    rfl
  have ho := ho u
  have hr : u.reg (R.BENCH_CTL k) = s.reg (R.BENCH_CTL k) := by
    rw [hu, reg_onBench]
    exact reg_raise_ne _ _ _ _ (by unfold R.BENCH_CTL; omega)
  have hb : u.benchSt k = s.benchSt k := by
    rw [hu, benchSt_onBench, if_neg h]
    exact benchSt_congr (raise_bench _ _ _) k
  rw [hs, benchOn_congr (ho.reg _) (benchSt_congr ho.bench k), benchOn_congr hr hb]

theorem benchOn_armedBenches (s : State) (fresh : List Nat) (hn : fresh.Nodup) {b : Nat} (hb : b ∈ fresh) :
    (s.armedBenches fresh).benchOn b = true := by
  obtain ⟨-, -, h⟩ := foldAll_view (f := fun (s : State) b => s.benchStart b) (fun _ => True) (fun t : State => t.benchOn b)
    b fresh hn (fun _ _ _ _ => trivial) (fun k _ hk t _ => benchOn_benchStart_ne t (Ne.symm hk)) s trivial
  obtain ⟨t, -, -, he⟩ := h hb
  exact he.trans (benchStart_on t b).1

theorem mem_bitsSet_enPends {s : State} {b : Nat} (hb : b < 8) (h : (s.benchSt b).enPend = true) :
    b ∈ bitsSet 8 s.enPends := by
  refine List.mem_filter.2 ⟨List.mem_range.2 hb, ?_⟩
  rw [enPends, bitAt_foldl_setBit, decide_eq_true, Bool.or_true]
  exact List.mem_filter.2 ⟨List.mem_range.2 hb, h⟩

theorem toArmed_shows (s : State) (src : Mode) : (s.toArmed src).mode = .armed ∧ (s.toArmed src).transit = none ∧
    (s.toArmed src).clk = s.clk ∧ ∀ b < 8, (s.benchSt b).enPend = true → (s.toArmed src).benchOn b = true := by
  have hh := s.armedHead_only src
  have ht := s.armedHead_transit src
  have hm := become_mode (s.armedHead src) .armed 0
  have hb := become_only (.refl (s.armedHead src) _) (List.Subset.refl _) .armed 0
  rw [toArmed_eq]
  generalize (s.armedHead src).become .armed 0 = u at hm hb ⊢
  have ha := u.armedBenches_only (bitsSet 8 s.enPends)
  have hon : ∀ b < 8, (s.benchSt b).enPend = true → (u.armedBenches (bitsSet 8 s.enPends)).benchOn b = true :=
    fun b h8 he => u.benchOn_armedBenches _ (List.nodup_range.filter _) (mem_bitsSet_enPends h8 he)
  generalize u.armedBenches (bitsSet 8 s.enPends) = v at ha hon ⊢
  have hv : v.Only [.bench, .engines, .fms] (foldAll (armedUnit (src == .hold) s.enPends) v (List.range 8)) :=
    .foldAll (.refl _ _) (fun t b h => h.trans (armedUnit_only _ _ t b)) _
  refine ⟨hv.mode.trans (ha.mode.trans hm), hv.transit.trans (ha.transit.trans (hb.transit.trans ht)),
    hv.clk.trans (ha.clk.trans (hb.clk.trans hh.clk)), fun b h8 he => ?_⟩
  exact (foldAll_keeps (fun t : State => t.benchOn b) (f := armedUnit (src == .hold) s.enPends)
    (fun t k => benchOn_armedUnit _ _ t k b) _ v).trans (hon b h8 he)

/-! ### The other ends -/

/-- What holds once one member of a list was done, and every member keeps, holds after the list. -/
theorem foldAll_reaches {α : Type} {P : State → Prop} {f : State → α → State} (hk : ∀ s x, P s → P (f s x)) {j : α}
    (hj : ∀ s, P (f s j)) {xs : List α} (h : j ∈ xs) (s : State) : P (foldAll f s xs) := by
  unfold foldAll
  induction xs generalizing s with
  | nil => exact absurd h List.not_mem_nil
  | cons x xs ih =>
    rcases List.mem_cons.1 h with rfl | h
    · exact foldAll_induct P (fun t x h => hk t x h) xs _ (hj s)
    · exact ih h _

theorem eng_answerDue_st (s : State) (b c ser : Nat) (lost : Bool) (k j : Nat) :
    ((s.answerDue b c ser lost).eng k j).st = (s.eng k j).st := by
  unfold answerDue
  split
  · rw [eng_onEng]
    split
    · next h => rw [eng, eng, h]
    · rfl
  · rfl

theorem eng_answers_st (s : State) (b e k j : Nat) :
    ((foldAll (fun s i => foldAll (fun s w => s.answerDue b (8 * e + i) w.ser false) s
      ((s.chan b (8 * e + i)).wins.filter (·.owed))) s (List.range 8)).eng k j).st = (s.eng k j).st :=
  foldAll_keeps (fun t : State => (t.eng k j).st) (fun t _ => foldAll_keeps (fun t : State => (t.eng k j).st)
    (fun t w => eng_answerDue_st t _ _ _ _ k j) _ t) _ s

theorem engStop_st (s : State) (b e : Nat) (st : EngSt) (k j : Nat) :
    ((s.engStop b e st).eng k j).st = if 4 * k + j = 4 * b + e then st else (s.eng k j).st := by
  unfold engStop
  dsimp only
  rw [eng_answers_st, eng_onEng]
  split <;> rfl

theorem engStop_runs (s : State) (b e : Nat) {k j : Nat} (h : (s.eng k j).runs = false) :
    ((s.engStop b e .off).eng k j).runs = false := by
  have hs := s.engStop_st b e .off k j
  unfold Engine.runs at h ⊢
  rw [hs]
  split
  · rfl
  · exact h

theorem engStop_runs_self (s : State) (b e : Nat) : ((s.engStop b e .off).eng b e).runs = false := by
  unfold Engine.runs
  rw [engStop_st, if_pos rfl]
  rfl

theorem engsStop_runs (s : State) {b e : Nat} (hb : b < 8) (he : e < 4) : (s.engsStop.eng b e).runs = false := by
  have hk : ∀ (t : State) (k j : Nat), (t.eng b e).runs = false →
      ((if (t.eng k j).runs then t.engStop k j .off else t).eng b e).runs = false := fun t k j h => by
    split
    · exact engStop_runs t k j h
    · exact h
  unfold engsStop
  refine foldAll_reaches (P := fun t : State => (t.eng b e).runs = false) (j := b) (fun t k h => ?_) (fun t => ?_)
    (List.mem_range.2 hb) s
  · exact foldAll_induct (fun t : State => (t.eng b e).runs = false) (fun t j h => hk t k j h) _ t h
  · refine foldAll_reaches (P := fun t : State => (t.eng b e).runs = false) (j := e) (fun t j h => hk t b j h)
      (fun t => ?_) (List.mem_range.2 he) t
    split
    · exact engStop_runs_self t b e
    · next h => exact Bool.eq_false_iff.2 h

/-- Lanes, windows, Foremen and engines stop on the way to IDLE. -/
def idleStops (s : State) : State :=
  let s := if s.mode == .armed || s.mode == .hold then s.abortAll false else s
  let s := if s.mode == .armed then s.endWindows else s
  s.fmsOff.engsStop

theorem become_selfRef (s : State) (m : Mode) (cause : Nat) : (s.become m cause).memc.selfRef = s.memc.selfRef := by
  unfold become
  dsimp only
  rw [(enter_only (.refl _ _) (List.Subset.refl _) m cause).memc]

/-- Memory sleeps and nothing is left in progress. -/
def idleRests (s : State) : State :=
  let s := if s.clk.core then s.tallyStop else s
  let s := s.criersStop.convsOff.stopClocks.memSleep
  { s with transit := none, hold := none, trim := {} }

theorem toIdle_eq (s : State) (cause : Nat) : s.toIdle cause = s.idleStops.idleRests.become .idle cause := by
  unfold toIdle idleStops idleRests
  dsimp only

theorem idleRests_only (s : State) :
    s.Only [.ap, .mem, .memc, .tally, .dec, .out, .clk, .transit, .hold, .trim] s.idleRests := by
  unfold idleRests
  dsimp only
  obtain ⟨u, hu⟩ : ∃ u : State, u = if s.clk.core then s.tallyStop else s := ⟨_, rfl⟩
  have h : s.Only [.ap, .mem, .memc, .tally, .dec, .out, .clk, .transit, .hold, .trim] u := by
    rw [hu]
    exact .ite (tallyStop_only (.refl _ _) (by simp)) (.refl _ _)
  rw [← hu]
  have h2 := memSleep_only (stopClocks_only (convsOff_only (criersStop_only h (by simp)) (by simp)) (by simp)) (by simp)
  generalize u.criersStop.convsOff.stopClocks.memSleep = v at h2 ⊢
  simp (maxDischargeDepth := 40) -implicitDefEqProofs [h2]

theorem idleRests_shows (s : State) : s.idleRests.transit = none ∧ s.idleRests.hold = none ∧
    s.idleRests.memc.selfRef = true := ⟨rfl, rfl, rfl⟩

theorem engRuns_toIdle (s : State) (cause : Nat) {b e : Nat} (hb : b < 8) (he : e < 4) :
    ((s.toIdle cause).eng b e).runs = false := by
  have h2 := (s.idleStops.idleRests_only).engines
  have h3 := (become_only (.refl s.idleStops.idleRests _) (List.Subset.refl _) .idle cause).engines
  have h4 : ((s.idleStops).eng b e).runs = false := engsStop_runs _ hb he
  rw [toIdle_eq, eng, h3, h2, ← eng, h4]

theorem clockStop_stops (c : Clocks) : c.stop.core = false ∨ c.stop.stopPend = true := by
  unfold Clocks.stop
  split
  · split
    · exact .inr rfl
    · exact .inl rfl
  · exact .inl rfl

theorem toIdle_shows (s : State) (cause : Nat) : (s.toIdle cause).mode = .idle ∧ (s.toIdle cause).transit = none ∧
    (s.toIdle cause).hold = none ∧ (s.toIdle cause).memc.selfRef = true ∧
    ((s.toIdle cause).clk.core = false ∨ (s.toIdle cause).clk.stopPend = true) := by
  have hc := s.toIdle_clk cause
  have hb := become_only (.refl s.idleStops.idleRests _) (List.Subset.refl _) .idle cause
  obtain ⟨h1, h2, h3⟩ := s.idleStops.idleRests_shows
  have hm := toIdle_mode s cause
  rw [toIdle_eq] at hc hm ⊢
  refine ⟨hm, hb.transit.trans h1, hb.hold.trans h2, (become_selfRef _ _ _).trans h3, ?_⟩
  rw [hc]
  exact clockStop_stops _

theorem coresStop_host (s : State) : s.coresStop.host.coresRun = 0 := rfl

theorem toKeep_shows (s : State) : s.toKeep.mode = .keep ∧ s.toKeep.transit = none ∧ s.toKeep.host.coresRun = 0 ∧
    s.toKeep.mem = s.mem := by
  have hc := coresStop_only (allCachesLost_only (.refl s [.looms, .host]) (by simp)) (by simp)
  have h0 := coresStop_host s.allCachesLost
  unfold toKeep
  dsimp only
  generalize s.allCachesLost.coresStop = u at hc h0 ⊢
  obtain ⟨v, hv⟩ : ∃ v : State, v = ({ u with
      transit := none
      memc := { u.memc with
        keep := foldAll (fun m c => NMap.set (fun _ => 0xFFFF) m c (u.fld (R.MEM_KEEP c) Fd.MEM_KEEP_BANKS)) []
          (List.range 18) } } : State) := ⟨_, rfl⟩
  have hvs : v.transit = none ∧ v.host = u.host ∧ v.mem = u.mem := by
    rw [hv]
    exact ⟨rfl, rfl, rfl⟩
  rw [← hv]
  have hb := become_only (.refl v _) (List.Subset.refl _) .keep 0
  exact ⟨become_mode _ _ _, hb.transit.trans hvs.1, (congrArg HostSt.coresRun (hb.host.trans hvs.2.1)).trans h0,
    hb.mem.trans (hvs.2.2.trans hc.mem)⟩

theorem toService_shows (s : State) : s.toService.mode = .service ∧ s.toService.transit = none ∧
    s.toService.mem = s.mem := by
  obtain ⟨u, hu⟩ : ∃ u : State, u = (({ s with transit := none } : State).abortAll false).fsrTakeAll.criersEntered.convsOff :=
    ⟨_, rfl⟩
  have ho : ({ s with transit := none } : State).Only [.ap, .lanes, .out, .dec, .outbox] u := by
    rw [hu]
    simp (maxDischargeDepth := 40) -implicitDefEqProofs
  have hb := become_only (.refl u _) (List.Subset.refl _) .service 0
  have hm := become_mode u .service 0
  have he : s.toService = foldAll (fun s b => foldAll (fun s e => s.engStart b e true) s (List.range 4))
      (u.become .service 0) (List.range 8) := by
    rw [hu]
    unfold toService
    dsimp only
  rw [he]
  generalize u.become .service 0 = v at hb hm ⊢
  have hv : v.Only [.engines] (foldAll (fun s b => foldAll (fun s e => s.engStart b e true) s (List.range 4)) v
      (List.range 8)) := by
    simp (contextual := true) (maxDischargeDepth := 40) -implicitDefEqProofs
  exact ⟨hv.mode.trans hm, hv.transit.trans (hb.transit.trans ho.transit), hv.mem.trans (hb.mem.trans ho.mem)⟩

theorem trimAbort_shows (s : State) (code : Nat) : (s.trimAbort code).mode = .idle ∧ (s.trimAbort code).transit = none := by
  obtain ⟨h1, h2, -⟩ := s.surveyLost.toIdle_shows code
  exact ⟨h1, h2⟩

theorem toTrim_shows (s : State) : s.toTrim.transit = none ∧
    (s.clk.refclk = true → s.toTrim.mode = .trim ∧ s.toTrim.therm.surveying = s.trim.survey) ∧
    (s.clk.refclk = false → s.toTrim.mode = .idle) := by
  obtain ⟨u, hu⟩ : ∃ u : State, u = ({ s with transit := none } : State).fsrTakeAll.criersEntered := ⟨_, rfl⟩
  have ho : ({ s with transit := none } : State).Only [.ap, .out, .dec, .outbox] u := by
    rw [hu]
    simp (maxDischargeDepth := 40) -implicitDefEqProofs
  have hb := become_only (.refl u _) (List.Subset.refl _) .trim 0
  have hm := become_mode u .trim 0
  obtain ⟨v, hv⟩ : ∃ v : State, v = u.become .trim 0 := ⟨_, rfl⟩
  obtain ⟨w, hw⟩ : ∃ w : State, w = ({ v with therm := { v.therm with surveying := v.trim.survey } } : State) := ⟨_, rfl⟩
  obtain ⟨x, hxm, hxt, hxs, he⟩ : ∃ x : State, x.mode = w.mode ∧ x.transit = w.transit ∧ x.therm = w.therm ∧
      s.toTrim = if !w.clk.refclk then w.trimAbort 7 else if w.trim.skew then x.echoNext else w := by
    refine ⟨{ w with trim := { w.trim with ports := (pick 14 fun p => w.portUsed p && (w.port p).up).foldl setBit 0 } },
      rfl, rfl, rfl, ?_⟩
    rw [hw, hv, hu]
    unfold toTrim
    dsimp only
  have hws : w.clk = s.clk ∧ w.mode = .trim ∧ w.transit = none ∧ w.therm.surveying = s.trim.survey := by
    rw [← hv] at hb hm
    have h := hb.trim.trans ho.trim
    have h1 := hb.clk.trans ho.clk
    have h2 := hb.transit.trans ho.transit
    rw [hw]
    exact ⟨h1, hm, h2, congrArg TrimSel.survey h⟩
  obtain ⟨h1, h2, h3, h4⟩ := hws
  rw [he, h1]
  cases hr : s.clk.refclk
  · obtain ⟨h5, h6⟩ := w.trimAbort_shows 7
    exact ⟨h6, fun h => absurd h (by decide), fun _ => h5⟩
  · rw [if_neg (by decide)]
    have hx := echoNext_only (.refl x [.trim, .time, .ap, .outbox]) (by simp)
    split
    · exact ⟨hx.transit.trans (hxt.trans h3), fun _ => ⟨hx.mode.trans (hxm.trans h2),
        (congrArg Therm.surveying (hx.therm.trans hxs)).trans h4⟩, fun h => absurd h (by decide)⟩
    · exact ⟨h3, fun _ => ⟨h2, h4⟩, fun h => absurd h (by decide)⟩

theorem reg_become_still {o : Nat} (ho : offerReg o = false) (s : State) {m : Mode} (hm : m ≠ .trim ∧ m ≠ .armed ∧ m ≠ .service)
    (cause : Nat) : (s.become m cause).reg o = s.reg o := by
  unfold become
  dsimp only
  rw [reg_enter ho, if_neg (by simp [hm])]
  rfl

theorem toDormant_shows (s : State) : s.toDormant.mode = .dormant ∧ s.toDormant.coreGone ∧
    ∀ off, 0x400010000 ≤ off → off < 0x400020000 → s.toDormant.reg off = s.reg off := by
  obtain ⟨u, hu⟩ : ∃ u : State, u = ((s.memRail false).scanHalt.loopsOff).stopClocks := ⟨_, rfl⟩
  obtain ⟨v, hv⟩ : ∃ v : State, v = u.become .dormant 0 := ⟨_, rfl⟩
  have he : s.toDormant = { v.coreLost aonReg true with pins := { v.pins with memRail := false, bootDue := none } } := by
    rw [hv, hu]
    unfold toDormant
    dsimp only
  rw [he]
  obtain ⟨h1, h2, h3, -, h5, h6, h7, h8, h9, h10, h11⟩ := coreLost_gone v aonReg true
  have hp := coreLost_patterned v aonReg true (by decide)
  have hm := (coreLost_mode v aonReg true).trans (hv ▸ become_mode u .dormant 0)
  refine ⟨hm, ⟨h1, h2, h3, h11, hp, h5, h6, h7, h8, h9, h10⟩, fun off hlo hhi => ?_⟩
  have hq : Apart off := ⟨hhi, by unfold R.TOP_IRQ_PEND; omega, by unfold R.TOP_BREACH; omega⟩
  have hoff : offerReg off = false := by
    rw [offerReg_eq_false]
    exact ⟨hq.irq, hq.breach, by omega⟩
  have hr : (v.coreLost aonReg true).reg off = v.reg off := by
    rw [reg_coreLost _ _ _ (by unfold R.TOP_MODE; omega) (by unfold R.AGE_STATUS; omega), if_pos]
    simp [aonReg, hlo, hhi]
  have hat : s.At off u := by
    rw [hu]
    exact stopClocks_at (loopsOff_at (scanHalt_at (memRail_at (.refl s off) false) hq))
  have hbr : v.reg off = u.reg off := by
    rw [hv]
    exact reg_become_still hoff u (by decide) 0
  exact hr.trans (hbr.trans hat.reg)

/-! ### Which end it is -/

theorem align_clk (s : State) : s.align.clk = { s.clk with aligned := true } :=
  (fabricStart_only (.refl ({ s with clk := { s.clk with aligned := true } } : State) _) (List.Subset.refl _)).clk

/-- The state once the memory is awake and what KEEP lost is marked. -/
def keepLeft (s : State) : State := foldAll State.residentsMade s.memWake.keepLoss (List.range 8)

/-- A timed transition that is due ends as its target says. -/
def transitionEnds (s : State) (x : Transit) : State :=
  match x.dst with
  | .idle => s.toIdle x.cause
  | .keep => s.toKeep
  | .dormant => s.toDormant
  | .trim => if s.clk.aligned then s.toTrim else s
  | .service => if s.clk.aligned then s.toService else s
  | _ => s

end State

section
variable {s : State} {x : Transit} (ht : s.transit = some x) (hd : x.due ≤ s.clk.now)
include ht hd

theorem transitionDone_due (hk : x.kind = .timed) : transitionDone s = s.transitionEnds x := by
  unfold transitionDone
  rw [ht]
  exact if_neg (by simp [hk, hd])

theorem armedEntryDone_offsets (hk : x.kind = .offsets) (ack : Nat) :
    armedEntryDone ack s = (s.planSend ack).alertLate.pllLockStep := by
  unfold armedEntryDone
  rw [ht]
  dsimp only
  rw [if_neg (by simp [hd]), hk]

/-- The last step of an entry to ARMED, with the plan taken and the dividers aligned but from HOLD. -/
theorem armedEntryDone_last (hk : x.kind = .armedEntry) (hx : x.src = .hold ∨ s.clk.phRef = 0 ∧ s.clk.refclk = true ∧
    s.clk.core = true ∧ s.clk.snapPend = false) (ack : Nat) : ∃ u : State, s.Only [.therm, .clk, .fabric] u ∧
    u.clk.time = s.clk.time ∧ (x.src ≠ .hold → u.clk.aligned = true) ∧ armedEntryDone ack s = u.armedOrShort x := by
  unfold armedEntryDone
  rw [ht]
  dsimp only
  rw [if_neg (by simp [hd]), hk]
  dsimp only
  by_cases hh : x.src = .hold
  · exact ⟨s, .refl _ _, rfl, fun h => absurd hh h, if_pos (by simp [hh])⟩
  · obtain ⟨h0, hr, hc, hp⟩ := hx.resolve_left hh
    have hpt := State.planTake_only (.refl s [.therm]) (List.Subset.refl _)
    have hclk := hpt.clk
    refine ⟨if s.clk.aligned then s.planTake else s.planTake.align, ?_, ?_, fun _ => ?_, ?_⟩
    · exact .ite (hpt.mono (by simp)) (State.align_only (hpt.mono (by simp)) (by simp))
    · split
      · rw [hclk]
      · rw [State.align_clk, hclk]
    · split
      · next ha => rw [hclk, ha]
      · rw [State.align_clk]
    · rw [if_neg (by simp [hh]), if_pos (by simp [h0, hr, hc, hp])]

theorem keepExitDone_due {toArmed : Bool} (hk : x.kind = .keepExit toArmed) : keepExitDone s =
    if toArmed then s.keepLeft.entrySteps else s.keepLeft.toIdle x.cause := by
  unfold keepExitDone
  rw [ht]
  dsimp only
  rw [hk]
  exact if_neg (Nat.not_lt.2 hd)

end

theorem State.benchesAsked_congr {s t : State} (h : t.ap = s.ap) : t.benchesAsked = s.benchesAsked := by
  have hf : ∀ b, t.flag (R.BENCH_CTL b) Fd.BENCH_CTL_EN = s.flag (R.BENCH_CTL b) Fd.BENCH_CTL_EN := fun b => by
    rw [State.flag, State.fld, State.reg, h, ← State.reg, ← State.fld, ← State.flag]
  simp only [State.benchesAsked, hf]

theorem State.fails_congr {s t : State} (ha : t.ap = s.ap) (hm : t.memc = s.memc) (r : Budget) (mask : Nat) :
    t.fails r mask = s.fails r mask := by
  have hr : ∀ o, t.reg o = s.reg o := fun o => by rw [State.reg, ha, State.reg]
  have hdead : t.memDead = s.memDead := by
    have h := fun d => State.dev_congr (congrArg MemSt.devs hm) d
    simp only [State.memDead, h]
  have hcap : t.capRt = s.capRt := by rw [State.capRt, hdead, hm, State.capRt]
  have hslot : t.slotMask = s.slotMask := by
    funext p k
    simp only [State.slotMask, hr]
  rw [State.fails, hcap, hdead, hslot, State.fails]

theorem State.armedOrShort_eq (s : State) (x : Transit) : ∃ v : State, s.Only [.ap, .outbox] v ∧
    s.armedOrShort x = if (s.fails s.pat.budget s.benchesAsked).isNone then v.toArmed x.src else v.entryAbort x 5 :=
  ⟨(s.budgetCheck s.benchesAsked 1).1, State.budgetCheck_only (.refl s _) (List.Subset.refl _) _ _, rfl⟩

/-! ### The way from KEEP -/

theorem State.keepLeft_only (s : State) :
    s.Only [.ap, .mem, .segs, .looms, .fms, .memc, .tally, .outbox] s.keepLeft := by
  have h := State.keepLoss_only (ps := [.ap, .mem, .segs, .looms, .fms, .memc, .tally, .outbox])
    (State.memWake_only (.refl s _) (by simp)) (by simp)
  unfold State.keepLeft
  generalize s.memWake.keepLoss = u at h ⊢
  simp (contextual := true) (maxDischargeDepth := 40) -implicitDefEqProofs [h]

/-- The calibrations of TRIM stand in the CAL fields. -/
theorem fld_fdlyCals (s : State) (cal : List (BitVec 14)) {i : Nat} (hi : i < 176) (hl : i < cal.length) :
    (foldAll (fun s i => s.setFld (R.TIME_FDLY i) Fd.TIME_FDLY_CAL (cal.getD i 0).toNat) s
      (List.range (min 176 cal.length))).fld (R.TIME_FDLY i) Fd.TIME_FDLY_CAL = (cal.getD i 0).toNat := by
  obtain ⟨-, -, h⟩ := foldAll_view
    (f := fun (s : State) i => s.setFld (R.TIME_FDLY i) Fd.TIME_FDLY_CAL (cal.getD i 0).toNat) (fun _ => True)
    (fun t : State => t.fld (R.TIME_FDLY i) Fd.TIME_FDLY_CAL) i (List.range (min 176 cal.length)) List.nodup_range
    (fun _ _ _ _ => trivial)
    (fun k _ hk t _ => State.fld_congr (State.reg_setFld_ne _ _ _ _ _ (by unfold R.TIME_FDLY; omega)) _) s trivial
  obtain ⟨t, -, -, he⟩ := h (List.mem_range.2 (by omega))
  refine he.trans ((t.fld_setFld _ _ _ (by decide)).trans (Nat.mod_eq_of_lt ?_))
  exact (cal.getD i 0).isLt

theorem State.offsetsDue_congr {s t : State} (h : t.therm = s.therm) : t.offsetsDue = s.offsetsDue := by
  rw [State.offsetsDue, State.planNext, h, State.offsetsDue, State.planNext]

theorem State.memWake_retained (s : State) (u : Nat) : s.memWake.retained u = s.retained u := by
  unfold State.memWake
  split <;> rfl

theorem State.memWake_keep (s : State) : s.memWake.memc.keep = s.memc.keep := by
  unfold State.memWake
  split <;> rfl

theorem State.keepLeft_mem' (s : State) : s.keepLeft.mem = s.memWake.keepLoss.mem := by
  unfold State.keepLeft
  generalize s.memWake.keepLoss = u
  have h : u.Only [.looms] (foldAll State.residentsMade u (List.range 8)) := by
    simp (contextual := true) (maxDischargeDepth := 40) -implicitDefEqProofs
  exact h.mem

theorem State.keepLeft_mem {s : State} (h : ∀ c < 18, NMap.get (fun _ => 0xFFFF) s.memc.keep c = 0xFFFF) :
    s.keepLeft.mem = s.mem := by
  rw [State.keepLeft_mem', State.keepLoss, State.memWake_keep]
  dsimp only
  rw [if_pos]
  · exact (State.memWake_only (.refl s _) (List.Subset.refl _)).mem
  · exact List.all_eq_true.2 fun c hc => by simp [h c (List.mem_range.1 hc)]

theorem State.keepLeft_byteAt {s : State} (h : ∃ c < 18, NMap.get (fun _ => 0xFFFF) s.memc.keep c ≠ 0xFFFF) {a : Nat}
    (ha : s.retained (a / 64) = false) : s.keepLeft.byteAt a = 0 := by
  obtain ⟨c, hc, hk⟩ := h
  rw [State.byteAt_congr s.keepLeft_mem', State.keepLoss, State.memWake_keep]
  dsimp only
  rw [if_neg]
  · rw [State.byteAt_congr (State.memMark_only (.refl _ _) (List.Subset.refl _) 1 0).mem, State.byteAt_bytesLost,
      State.memWake_retained, ha]
    rfl
  · exact fun hall => hk (by simpa using List.all_eq_true.1 hall c (List.mem_range.2 hc))

theorem State.entryAbort_stays (s : State) {x : Transit} (hk : x.kind = .armedEntry) (hx : x.src = .hold ∨ x.src = .idle)
    (code : Nat) : (s.entryAbort x code).mode = s.mode ∧ (s.entryAbort x code).transit = none := by
  have ho := State.alertLate_only (State.modeErr_only (.refl s [.ap, .pins, .outbox]) (by simp) code Mode.armed.code)
    (by simp)
  unfold State.entryAbort
  dsimp only
  generalize (s.modeErr code Mode.armed.code).alertLate = u at ho ⊢
  rw [if_neg (by rw [hk]; decide)]
  rcases hx with hx | hx
  · rw [if_pos (by rw [hx]; rfl)]
    exact ⟨ho.mode, rfl⟩
  · have h := State.memSleep_only (State.stopClocks_only (State.criersStop_only (.refl ({ u with transit := none } : State)
      [.dec, .clk, .memc]) (by simp)) (by simp)) (by simp)
    rw [if_neg (by rw [hx]; decide), if_neg (by rw [hx]; decide)]
    exact ⟨h.mode.trans ho.mode, h.transit⟩

/-- A record for the device's own stream requests no trap of a Foreman. -/
theorem State.dropRec_fms (s : State) (seq : Nat) : (s.dropRec 24 seq).fms = s.fms := by
  have h := fun (t : State) (f : Stream → Stream) => State.breach_only (State.flagIrq_only (State.onStream_only
    (State.satAdd_only (.refl t [.ap, .tally, .outbox]) (by simp) (R.TALLY_STREAM_DROP 24) Fd.TALLY_STREAM_DROP_COUNT 1)
    (by simp) 24 f) (by simp) R.TALLY_STATUS Fd.TALLY_STATUS_DROP 4) (by simp) Fd.TOP_BREACH_TIER6
  unfold State.dropRec
  exact (h s _).fms

theorem State.offer_fms (s : State) (src typ len time : Nat) (pay : List (Nat × Nat × Nat)) :
    (s.offer 24 src typ len time pay).fms = s.fms := by
  unfold State.offer
  dsimp only
  split
  · split
    · exact State.dropRec_fms _ _
    · rfl
  · split
    · split <;> rfl
    · refine (State.dropRec_fms _ _).trans ?_
      split <;> rfl

theorem State.become_fms (s : State) (m : Mode) (cause : Nat) : (s.become m cause).fms = s.fms := by
  have he : ∀ t : State, (t.enter m cause).fms = t.fms := fun t => by
    unfold State.enter
    dsimp only
    rw [(State.irq_only (.refl _ _) (List.Subset.refl _) _).fms, (State.pulse_only (.refl _ _) (List.Subset.refl _) _).fms]
    exact State.offer_fms t _ _ _ _ _
  unfold State.become
  dsimp only
  rw [he]
  split <;> rfl

/-- Settles O13. -/
theorem modeChanges : Obligations.ModeChanges := by
  unfold Obligations.ModeChanges
  refine ⟨fun s x hp ht hk hd hx => completes_of_powered hp rfl ?_,
    fun s x hp ht hk hd hx => completes_of_powered hp rfl ?_,
    fun s x hp ht hk hd hx ha => completes_of_powered hp rfl ?_,
    fun s x hp ht hk hd hx ha => completes_of_powered hp rfl ?_,
    fun s x hp ht hk hd hx => completes_of_powered hp rfl ?_,
    fun ack s x hp ht hk hd => completes_of_powered hp rfl ?_,
    fun ack s x hp ht hk hd hx hf => completes_of_powered hp rfl ?_,
    fun ack s x hp ht hk hd hx hf => completes_of_powered hp rfl ?_,
    fun s x hp ht hk hd => completes_of_powered hp rfl ?_,
    fun s x hp ht hk hd => completes_of_powered hp rfl ?_,
    fun s x hp ht hk hd => completes_of_powered hp rfl ?_,
    fun cal s hp hr => completes_of_powered hp rfl ?_,
    fun s hp hm ht hon hfs => completes_of_powered hp rfl ?_,
    fun s h hp hm ht hh hr => completes_of_powered hp rfl ?_⟩
  · rw [transitionDone_due ht hd hk, State.transitionEnds, hx]
    obtain ⟨h1, h2, h3, h4, h5⟩ := s.toIdle_shows x.cause
    exact ⟨h1, h2, h3, h4, fun b e => State.engRuns_toIdle s _ b.isLt e.isLt, h5⟩
  · rw [transitionDone_due ht hd hk, State.transitionEnds, hx]
    exact s.toKeep_shows
  · rw [transitionDone_due ht hd hk, State.transitionEnds, hx, ha]
    exact s.toTrim_shows
  · rw [transitionDone_due ht hd hk, State.transitionEnds, hx, ha]
    exact s.toService_shows
  · rw [transitionDone_due ht hd hk, State.transitionEnds, hx]
    exact s.toDormant_shows
  · rw [armedEntryDone_offsets ht hd hk]
    have ho := State.alertLate_only (State.planSend_only (.refl s [.ap, .outbox, .therm, .pins]) (by simp) ack.toNat)
      (by simp)
    generalize (s.planSend ack.toNat).alertLate = u at ho
    rw [← ho.mode, ← ho.clk]
    exact u.pllLockStep_shows
  · obtain ⟨u, hu, htime, hal, he⟩ := armedEntryDone_last ht hd hk hx ack.toNat
    obtain ⟨v, hv, hs⟩ := u.armedOrShort_eq x
    rw [hu.pat, State.benchesAsked_congr hu.ap, State.fails_congr hu.ap hu.memc, if_pos hf] at hs
    obtain ⟨h1, h2, h3, h4⟩ := v.toArmed_shows x.src
    rw [he, hs]
    refine ⟨h1, h2, ?_, fun b hb => h4 b b.isLt ?_, fun h => ?_⟩
    · rw [h3, hv.clk, htime]
    · rw [State.benchSt_congr hv.bench, State.benchSt_congr hu.bench, hb]
    · rw [h3, hv.clk, hal h]
  · obtain ⟨u, hu, -, -, he⟩ := armedEntryDone_last ht hd hk (hx.imp id And.right) ack.toNat
    obtain ⟨v, hv, hs⟩ := u.armedOrShort_eq x
    rw [hu.pat, State.benchesAsked_congr hu.ap, State.fails_congr hu.ap hu.memc, if_neg (by
      rw [Option.isNone_iff_eq_none]
      exact fun h => absurd (h ▸ hf) (by decide))] at hs
    rw [he, hs]
    obtain ⟨h1, h2⟩ := v.entryAbort_stays hk (hx.imp id And.left) 5
    exact ⟨h1.trans (hv.mode.trans hu.mode), h2, v.entryAbort_refuses x (by decide)⟩
  · rw [keepExitDone_due ht hd hk]
    obtain ⟨h1, h2, -, h4, -⟩ := s.keepLeft.toIdle_shows x.cause
    exact ⟨h1, h2, h4⟩
  · rw [keepExitDone_due ht hd hk, if_pos rfl]
    have ho := s.keepLeft_only
    generalize s.keepLeft = u at ho ⊢
    have hoff := State.offsetsDue_congr ho.therm
    obtain ⟨h1, h2, -⟩ := u.pllLockStep_shows
    rw [ho.mode, ho.clk] at h2
    rw [State.entrySteps, hoff]
    cases s.offsetsDue
    · exact ⟨h1.trans ho.mode, fun h => absurd h (by decide), fun _ => h2⟩
    · rw [if_pos rfl]
      exact ⟨ho.mode, fun _ => ⟨u.clk.now + 0, by rw [State.beginTo, ho.mode]⟩, fun h => absurd h (by decide)⟩
  · rw [keepExitDone_due ht hd hk, if_pos rfl]
    have hm := (State.entrySteps_only (.refl s.keepLeft _) (List.Subset.refl _)).mem
    refine ⟨fun h => hm.trans (State.keepLeft_mem h), fun h a ha => ?_⟩
    rw [State.byteAt_congr hm]
    exact State.keepLeft_byteAt h ha
  · rw [trimDone, if_pos hr]
    dsimp only
    have hidle : ∀ (t : State) (i : Nat), i < 176 → t.At (R.TIME_FDLY i) (t.toIdle 0) := fun t i hi =>
      State.toIdle_at (.refl t _) (by
        constructor
        · unfold R.TIME_FDLY
          omega
        · unfold R.TIME_FDLY R.TOP_IRQ_PEND
          omega
        · unfold R.TIME_FDLY R.TOP_BREACH
          omega) (by unfold R.TIME_FDLY R.TIME_EPOCH_CTL; omega) 0
    have hshow := fun t : State => t.toIdle_shows 0
    cases hsk : s.trim.skew
    · rw [if_neg (by decide)]
      exact ⟨(hshow s).1, (hshow s).2.2.2.1, fun h => absurd h (by decide), fun _ i hi => (hidle s i hi).reg⟩
    · rw [if_pos rfl]
      refine ⟨(hshow _).1, (hshow _).2.2.2.1, fun _ i hi hl => ?_, fun h => absurd h (by decide)⟩
      rw [(hidle _ i hi).fld]
      exact fld_fdlyCals s cal hi hl
  · have hc : (s.mode == .armed && !s.inTransit && (List.range 8).any s.benchOn &&
        (List.range 8).all fun b => !s.benchOn b || (s.benchSt b).firstStrobe) = true := by
      obtain ⟨b, hb, hbo⟩ := hon
      have hany : (List.range 8).any s.benchOn = true := List.any_eq_true.2 ⟨b, List.mem_range.2 hb, hbo⟩
      have hall : ((List.range 8).all fun b => !s.benchOn b || (s.benchSt b).firstStrobe) = true :=
        List.all_eq_true.2 fun b hb => by
          cases hbo : s.benchOn b
          · rfl
          · simp [hfs b (List.mem_range.1 hb) hbo]
      rw [hm, ht, hany, hall]
      rfl
    rw [startConditionMet, if_pos hc]
    have hf : ∀ t : State, t.Only [.bench] (foldAll (fun s b =>
        if s.benchOn b then s.onBench b fun x => { x with fresh := true } else s) t (List.range 8)) := fun t => by
      simp (contextual := true) (maxDischargeDepth := 40) -implicitDefEqProofs
    have hb := State.become_only (.refl s _) (List.Subset.refl _) .run 0
    have hbm := State.become_mode s .run 0
    have hbf := State.become_fms s .run 0
    dsimp only
    generalize s.become .run 0 = u at hb hbm hbf ⊢
    exact ⟨(hf u).mode.trans hbm, (hf u).lanes.trans hb.lanes, (hf u).fms.trans hbf⟩
  · obtain ⟨u, hu⟩ : ∃ u : State, u = ({ s with hold := none } : State).become .hold
        (if h.budget then 5 else if h.shed then 6 else 0) := ⟨_, rfl⟩
    have he : shotBoundary s = u.followUp h.follow := by
      unfold shotBoundary
      rw [hh]
      dsimp only
      rw [if_pos (by simp [hm, hr]), ← hu]
    have hb := State.become_only (.refl ({ s with hold := none } : State) _) (List.Subset.refl _) .hold
      (if h.budget then 5 else if h.shed then 6 else 0)
    have hum := State.become_mode ({ s with hold := none } : State) .hold (if h.budget then 5 else if h.shed then 6 else 0)
    rw [← hu] at hb hum
    have hf := State.followUp_only (.refl u _) (List.Subset.refl _) h.follow
    rw [he]
    refine ⟨hf.mode.trans hum, hf.hold.trans hb.hold, hf.lanes.trans hb.lanes, fun hn => ?_, fun hn => ?_, fun hn => ?_⟩
    · rw [hn]
      exact hb.transit.trans ht
    · rw [hn]
      show (u.beginIdle).transit = _
      rw [State.beginIdle, State.beginTo, hum, hb.clk]
    · rw [hn]
      obtain ⟨-, h2, -⟩ := u.beginService_shows
      rwa [hum] at h2

end Sys2Proof.Machine
end

section
/-! Epoch and echo (O17). -/
namespace Sys2Proof.Machine

-- One proof at a time: elaborated side by side, the proofs of so long a text need too much memory.
set_option Elab.async false

namespace State

theorem reg64_setReg64_mod (s : State) (o v : Nat) : (s.setReg64 o v).reg64 o = v % 2 ^ 64 := by
  have h4 : o ≠ o + 4 := by omega
  unfold setReg64 reg64
  rw [reg_setReg_self, reg_setReg_ne _ _ _ _ h4, reg_setReg_self, BitVec.toNat_ofNat, BitVec.toNat_ofNat]
  omega

end State

/-! ### The latch of the TDC -/

theorem tdcLatch_eq {s : State} {c : EpochCap} {rest : List EpochCap} (he : s.time.epoch = c :: rest)
    (ha : c.loadAt = s.clk.now + 30) :
    s.tdcLatch = (s.setFld R.TIME_EPOCH_TDC Fd.TIME_EPOCH_TDC_ARRIVAL c.arrival).setFld R.TIME_STATUS
      Fd.TIME_STATUS_MARGINAL (bit (decide (c.arrival ≤ 500) || decide (9500 ≤ c.arrival))) := by
  unfold State.tdcLatch
  rw [he, List.find?_cons_of_pos (by simp [ha])]

theorem tdcLatch_shows {s : State} {c : EpochCap} {rest : List EpochCap} (he : s.time.epoch = c :: rest)
    (ha : c.loadAt = s.clk.now + 30) (hc : c.arrival < 10000) :
    s.tdcLatch.fld R.TIME_EPOCH_TDC Fd.TIME_EPOCH_TDC_ARRIVAL = c.arrival ∧
      s.tdcLatch.flag R.TIME_STATUS Fd.TIME_STATUS_MARGINAL = (decide (c.arrival ≤ 500) || decide (9500 ≤ c.arrival)) := by
  rw [tdcLatch_eq he ha]
  constructor
  · rw [State.fld_congr (State.reg_setFld_ne _ _ _ _ _ (by decide)), State.fld_setFld _ _ _ _ (by decide)]
    exact Nat.mod_eq_of_lt (hc.trans (by decide))
  · rw [State.flag_setFld _ _ _ _ (by decide)]
    cases decide (c.arrival ≤ 500) || decide (9500 ≤ c.arrival) <;> rfl

/-! ### Load edges -/

/-- What every load edge leaves: the registers that it shows, and the rest as it found it. -/
theorem epochSeen_mark_shows (s : State) (armed : Bool) (before after kind : Nat) (off : Int) (arrival : Nat) {t : State}
    (ht : t = (s.epochSeen armed).epochMark before after kind off arrival) :
    t.clk = s.clk ∧ t.mode = s.mode ∧ t.time.epoch = s.time.epoch ∧
      t.reg64 R.TIME_EPOCH_LAST_LO = s.clk.time % 2 ^ 64 ∧
      t.flag R.TIME_STATUS Fd.TIME_STATUS_EPOCH_SEEN = true ∧
      (∀ f : Bits, f.lo + f.w ≤ 32 → Fd.TIME_STATUS_EPOCH_SEEN.lo + Fd.TIME_STATUS_EPOCH_SEEN.w ≤ f.lo ∨
        f.lo + f.w ≤ Fd.TIME_STATUS_EPOCH_SEEN.lo → t.fld R.TIME_STATUS f = s.fld R.TIME_STATUS f) ∧
      ∀ o, Apart o → o ≠ R.TIME_EPOCH_LAST_LO → o ≠ R.TIME_EPOCH_LAST_LO + 4 → o ≠ R.TIME_STATUS → t.reg o = s.reg o := by
  obtain ⟨w, hw⟩ : ∃ w, w = (s.setReg64 R.TIME_EPOCH_LAST_LO s.clk.time).raise R.TIME_STATUS Fd.TIME_STATUS_EPOCH_SEEN :=
    ⟨_, rfl⟩
  obtain ⟨x, hx⟩ : ∃ x, x = { w with time := { w.time with lastEdge := some w.clk.time } } := ⟨_, rfl⟩
  have hxt : x.time.epoch = s.time.epoch := by
    rw [hx, hw]
    simp
  have ht' : t = (((if armed then x.startHit 1 0 x.clk.time else x).pulse 344).epochMark before after kind off
      arrival) := by
    rw [ht, hx, hw]
    rfl
  have hto : x.Only [.ap, .fms, .tally, .outbox, .fabric] t := by
    rw [ht']
    simp (contextual := true) (maxDischargeDepth := 40) -implicitDefEqProofs
  have hat : ∀ o, Apart o → t.reg o = w.reg o := fun o ho => by
    have h : x.At o t := by
      rw [ht']
      simp (contextual := true) (maxDischargeDepth := 40) -implicitDefEqProofs [ho]
    rw [h.reg, hx]
    rfl
  have hxo : s.Only [.ap, .time] x := by
    rw [hx, hw]
    simp (maxDischargeDepth := 40) -implicitDefEqProofs
  have hlo : Apart R.TIME_EPOCH_LAST_LO := ⟨by decide, by decide, by decide⟩
  have hhi : Apart (R.TIME_EPOCH_LAST_LO + 4) := ⟨by decide, by decide, by decide⟩
  have hst : Apart R.TIME_STATUS := ⟨by decide, by decide, by decide⟩
  refine ⟨hto.clk.trans hxo.clk, hto.mode.trans hxo.mode, by rw [hto.time, hxt], ?_, ?_, ?_, ?_⟩
  · rw [State.reg64_congr (hat _ hlo) (hat _ hhi), hw,
      State.reg64_congr (State.reg_raise_ne _ _ _ _ (by decide)) (State.reg_raise_ne _ _ _ _ (by decide)),
      State.reg64_setReg64_mod]
  · rw [State.flag_congr (hat _ hst), hw, State.flag_raise _ _ _ (by decide) (by decide)]
  · intro f hf hd
    rw [State.fld_congr (hat _ hst), hw, State.raise, State.fld_setFld_disj _ _ _ _ _ hf hd,
      State.fld_congr (State.reg_setReg64_ne _ _ (by decide) (by decide))]
  · intro o ho h1 h4 h2
    rw [hat _ ho, hw, State.reg_raise_ne _ _ _ _ h2, State.reg_setReg64_ne _ _ h1 h4]

theorem epochPeriod_congr {s t : State} (h : ∀ o, t.reg o = s.reg o) : t.epochPeriod = s.epochPeriod := by
  rw [State.epochPeriod, State.fld_congr (h _), State.epochPeriod]

theorem epochOff_congr {s t : State} (h : ∀ o, t.reg o = s.reg o) (x : Nat) : t.epochOff x = s.epochOff x := by
  unfold State.epochOff
  rw [epochPeriod_congr h, State.reg64_congr (h _) (h _)]

theorem epochChecks_congr {s t : State} (h : ∀ o, t.reg o = s.reg o) : t.epochChecks = s.epochChecks := by
  unfold State.epochChecks State.coherent
  rw [State.flag_congr (h _), State.flag_congr (h _)]

theorem epochSlip_shows (u : State) : u.Only [.freeCtr] u.epochSlip.2 ∧
    (2 * u.epochOff u.clk.time ≠ Int.ofNat u.epochPeriod → u.epochSlip.1 = u.epochOff u.clk.time) := by
  unfold State.epochSlip
  extract_lets off x
  split
  · rename_i h
    exact ⟨by simp (maxDischargeDepth := 40) -implicitDefEqProofs, fun hne => absurd h hne⟩
  · exact ⟨.refl _ _, fun _ => rfl⟩

theorem refclk_of_time (c : Clocks) (n : Nat) : ({ c with time := n } : Clocks).refclk = c.refclk := rfl

section
variable {s : State} {c : EpochCap} {rest : List EpochCap} (he : s.time.epoch = c :: rest) (hl : c.loadAt ≤ s.clk.now)
  (hr : s.clk.refclk = true) (hp : s.clk.phRef = 0)
include he hl hr hp

/-- What a load edge with ARM has written before it is recorded. -/
theorem epochLoad_armed_eq (harm : s.flag R.TIME_EPOCH_CTL Fd.TIME_EPOCH_CTL_ARM = true) {t : State}
    (ht : t = epochLoad s) : ∃ w : State, w.clk.time = s.reg64 R.TIME_EPOCH_LOAD_LO ∧ w.time.epoch = rest ∧ w.coherent = true ∧
      w.flag R.TIME_EPOCH_CTL Fd.TIME_EPOCH_CTL_ARM = false ∧ w.fld R.TIME_STATUS Fd.TIME_STATUS_MISS_COUNT = 0 ∧
      ∃ before after arrival, t = (w.epochSeen c.armed).epochMark before after 0 0 arrival := by
  unfold epochLoad at ht
  split at ht
  · rename_i h0
    exact absurd (he.symm.trans h0) (List.cons_ne_nil _ _)
  · rename_i c' rest' h0
    obtain ⟨rfl, rfl⟩ := List.cons.inj (he.symm.trans h0)
    rw [if_neg (by simp [hr, hp, Nat.not_lt.2 hl])] at ht
    have hs := ht.trans (if_pos (by exact harm))
    clear ht
    extract_lets q k v w x y z at hs
    have hvt : v.clk.time = s.reg64 R.TIME_EPOCH_LOAD_LO :=
      State.reg64_congr (State.reg_congr rfl _) (State.reg_congr rfl _)
    have hve : v.time.epoch = rest := rfl
    have hvf : v.clk.refclk = true := (refclk_of_time s.clk _).trans hr
    clear_value v
    have hwo : v.Only [.ap] w := by
      unfold w
      simp (maxDischargeDepth := 40) -implicitDefEqProofs
    have hx : x = w.raise R.TOP_MODE Fd.TOP_MODE_COHERENT := if_pos (by rw [hwo.clk, hvf])
    have hxo : v.Only [.ap] x := by
      rw [hx]
      exact State.raise_only hwo (by simp) _ _
    have hwm : w.fld R.TIME_STATUS Fd.TIME_STATUS_MISS_COUNT = 0 := State.fld_clear _ _ _ (by decide)
    have hwa : w.flag R.TIME_EPOCH_CTL Fd.TIME_EPOCH_CTL_ARM = false :=
      (State.flag_congr (State.reg_clear_ne _ _ _ _ (by decide)) _).trans (State.flag_clear _ _ _ (by decide))
    clear_value w
    have hzr : ∀ o, z.reg o = x.reg o := fun o => State.reg_congr rfl o
    refine ⟨z, ?_, ?_, ?_, ?_, ?_, _, _, _, hs⟩
    · exact (congrArg Clocks.time hxo.clk).trans hvt
    · exact (congrArg TimeSt.epoch hxo.time).trans hve
    · rw [State.coherent, State.flag_congr (hzr _), hx, State.flag_raise _ _ _ (by decide) (by decide)]
    · rw [State.flag_congr (hzr _), hx, State.flag_congr (State.reg_raise_ne _ _ _ _ (by decide)), hwa]
    · rw [State.fld_congr (hzr _), hx, State.fld_congr (State.reg_raise_ne _ _ _ _ (by decide)), hwm]

theorem epochLoad_armed (harm : s.flag R.TIME_EPOCH_CTL Fd.TIME_EPOCH_CTL_ARM = true) {t : State} (ht : t = epochLoad s) :
    t.clk.time = s.reg64 R.TIME_EPOCH_LOAD_LO ∧
      t.reg64 R.TIME_EPOCH_LAST_LO = s.reg64 R.TIME_EPOCH_LOAD_LO ∧ t.coherent = true ∧
      t.flag R.TIME_EPOCH_CTL Fd.TIME_EPOCH_CTL_ARM = false ∧
      t.fld R.TIME_STATUS Fd.TIME_STATUS_MISS_COUNT = 0 ∧
      t.flag R.TIME_STATUS Fd.TIME_STATUS_EPOCH_SEEN = true ∧ t.time.epoch = rest := by
  obtain ⟨w, hcl, hep, hco, hwa, hwm, before, after, arrival, hsh⟩ := epochLoad_armed_eq he hl hr hp harm ht
  obtain ⟨h1, -, h3, h4, h5, h6, h7⟩ := epochSeen_mark_shows w c.armed _ _ _ _ _ hsh
  refine ⟨by rw [h1, hcl], ?_, ?_, ?_, ?_, h5, h3.trans hep⟩
  · rw [h4, hcl, Nat.mod_eq_of_lt (s.reg64_lt _)]
  · rw [State.coherent, State.flag_congr (h7 _ ⟨by decide, by decide, by decide⟩ (by decide) (by decide) (by decide)),
      ← State.coherent, hco]
  · rw [State.flag_congr (h7 _ ⟨by decide, by decide, by decide⟩ (by decide) (by decide) (by decide)), hwa]
  · rw [h6 _ (by decide) (by decide), hwm]

theorem epochLoad_unarmed (harm : s.flag R.TIME_EPOCH_CTL Fd.TIME_EPOCH_CTL_ARM = false) {t : State}
    (ht : t = epochLoad s) : ∃ w : State, s.Only [.ap, .time, .outbox, .freeCtr] w ∧ w.time.epoch = rest ∧
      w.reg R.TOP_MODE = s.reg R.TOP_MODE ∧
      (s.epochChecks = true → s.epochOff s.clk.time ≠ 0 →
        w.flag R.TIME_STATUS Fd.TIME_STATUS_EPOCH_SLIP = true ∧
        (2 * s.epochOff s.clk.time ≠ Int.ofNat s.epochPeriod →
          w.reg R.TIME_EPOCH_SLIP_AMT = BitVec.ofInt 32 (s.epochOff s.clk.time))) ∧
      ∃ before after kind off arrival, t = (w.epochSeen c.armed).epochMark before after kind off arrival := by
  unfold epochLoad at ht
  split at ht
  · rename_i h0
    exact absurd (he.symm.trans h0) (List.cons_ne_nil _ _)
  · rename_i c' rest' h0
    obtain ⟨rfl, rfl⟩ := List.cons.inj (he.symm.trans h0)
    rw [if_neg (by simp [hr, hp, Nat.not_lt.2 hl])] at ht
    have hs := ht.trans (if_neg (by exact ne_true_of_eq_false harm))
    clear ht
    generalize hu : State.mk .. = u at hs
    have huo : s.Only [.time] u := by
      rw [← hu]
      simp (maxDischargeDepth := 40) -implicitDefEqProofs
    have hur : ∀ o, u.reg o = s.reg o := fun o => by rw [← hu]; exact State.reg_congr rfl o
    have hue : u.time.epoch = rest := by rw [← hu]
    clear hu
    rw [epochChecks_congr hur, epochOff_congr hur, huo.clk] at hs
    split at hs
    · obtain ⟨hxo, hx1⟩ := epochSlip_shows u
      rw [huo.clk, epochOff_congr hur, epochPeriod_congr hur] at hx1
      generalize u.epochSlip = p at hs hxo hx1
      obtain ⟨off, x⟩ := p
      obtain ⟨y, hy⟩ : ∃ y, y = (x.flagIrq R.TIME_STATUS Fd.TIME_STATUS_EPOCH_SLIP 1).setReg
        R.TIME_EPOCH_SLIP_AMT (BitVec.ofInt 32 off) := ⟨_, rfl⟩
      have hty : t = (y.epochSeen c.armed).epochMark s.clk.time s.clk.time 2 off
          (u.fld R.TIME_EPOCH_TDC Fd.TIME_EPOCH_TDC_ARRIVAL) := by
        rw [hs, hy]
      have hyo : u.Only [.ap, .outbox, .freeCtr] y := by
        rw [hy]
        have := hxo.mono (qs := [.ap, .outbox, .freeCtr]) (by simp)
        exact State.setReg_only (State.flagIrq_only this (by simp) _ _ _) (by simp) _ _
      have hys : y.flag R.TIME_STATUS Fd.TIME_STATUS_EPOCH_SLIP = true := by
        rw [hy]
        exact (State.flag_congr (State.reg_setReg_ne _ _ _ _ (by decide)) _).trans
          (State.flag_flagIrq _ _ _ _ (by decide) (by decide) (by decide))
      have hya : y.reg R.TIME_EPOCH_SLIP_AMT = BitVec.ofInt 32 off := by
        rw [hy, State.reg_setReg_self]
      have hym : y.reg R.TOP_MODE = s.reg R.TOP_MODE := by
        rw [hy]
        exact (State.reg_setReg_ne _ _ _ _ (by decide)).trans ((State.reg_flagIrq_ne _ _ _ (by decide) (by decide)).trans
          ((hxo.reg _).trans (hur _)))
      refine ⟨y, (huo.mono (by simp)).trans (hyo.mono (by simp)), by rw [hyo.time, hue], hym,
        fun _ _ => ⟨hys, fun hne => by rw [hya, show off = _ from hx1 hne]⟩, _, _, _, _, _, hty⟩
    · rename_i hc
      refine ⟨u, huo.mono (by simp), hue, hur _, fun h1 h2 => ?_, _, _, _, _, _, hs⟩
      simp [h1, h2] at hc

theorem epochLoad_unarmed_shows (harm : s.flag R.TIME_EPOCH_CTL Fd.TIME_EPOCH_CTL_ARM = false) {t : State}
    (ht : t = epochLoad s) : t.clk = s.clk ∧ t.mode = s.mode ∧ t.coherent = s.coherent ∧
      t.reg64 R.TIME_EPOCH_LAST_LO = s.clk.time % 2 ^ 64 ∧
      t.flag R.TIME_STATUS Fd.TIME_STATUS_EPOCH_SEEN = true ∧ t.time.epoch = rest ∧
      (s.epochChecks = true → s.epochOff s.clk.time ≠ 0 →
        t.flag R.TIME_STATUS Fd.TIME_STATUS_EPOCH_SLIP = true ∧
        (2 * s.epochOff s.clk.time ≠ Int.ofNat s.epochPeriod →
          t.reg R.TIME_EPOCH_SLIP_AMT = BitVec.ofInt 32 (s.epochOff s.clk.time))) := by
  obtain ⟨w, hw, hwe, hwm, hws, before, after, kind, off, arrival, hsh⟩ := epochLoad_unarmed he hl hr hp harm ht
  obtain ⟨h1, h2, h3, h4, h5, h6, h7⟩ := epochSeen_mark_shows w c.armed _ _ _ _ _ hsh
  refine ⟨h1.trans hw.clk, h2.trans hw.mode, ?_, by rw [h4, hw.clk], h5, h3.trans hwe, fun hc ho => ?_⟩
  · rw [State.coherent, State.flag_congr ((h7 _ ⟨by decide, by decide, by decide⟩ (by decide) (by decide)
      (by decide)).trans hwm), State.coherent]
  · obtain ⟨hs, ha⟩ := hws hc ho
    refine ⟨?_, fun hne => ?_⟩
    · rw [State.flag, h6 _ (by decide) (by decide)]
      exact hs
    · rw [h7 _ ⟨by decide, by decide, by decide⟩ (by decide) (by decide) (by decide), ha hne]

end

/-! ### A missed edge -/

theorem epochMiss_shows {s : State} (hc : s.epochChecks = true) (h30 : 30 ≤ s.clk.time)
    (ho : s.epochOff (s.clk.time - 30) = 0)
    (hl : ∀ e, s.time.lastEdge = some e → e + 30 < s.clk.time - 30 ∨ s.clk.time < e)
    (hm : s.time.missed ≠ s.clk.time - 30 + 1) {t : State} (ht : t = epochMiss s) :
    t.clk = s.clk ∧ t.mode = s.mode ∧ t.coherent = s.coherent ∧
      t.flag R.TIME_STATUS Fd.TIME_STATUS_EPOCH_MISS = true ∧
      t.fld R.TIME_STATUS Fd.TIME_STATUS_MISS_COUNT =
        min (s.fld R.TIME_STATUS Fd.TIME_STATUS_MISS_COUNT + 1) 65535 := by
  obtain ⟨w, hw⟩ : ∃ w, w = (s.flagIrq R.TIME_STATUS Fd.TIME_STATUS_EPOCH_MISS 1).satAdd R.TIME_STATUS
      Fd.TIME_STATUS_MISS_COUNT 1 := ⟨_, rfl⟩
  obtain ⟨x, hx⟩ : ∃ x : State, x = { w with
      time := { w.time with missed := s.clk.time - 30 + 1 }
      freeCtr := w.freeCtr + 1 } := ⟨_, rfl⟩
  have hsh : t = x.epochMark x.clk.time x.clk.time 3 0 ((Config.freeWord w.freeCtr).toNat % 10000) := by
    rw [ht, hx, hw]
    unfold epochMiss
    dsimp only
    rw [if_pos]
    · rfl
    simp only [hc, h30, ho, bne_iff_ne, ne_eq, hm, not_false_eq_true, decide_true, Bool.and_true, Bool.and_eq_true,
      beq_self_eq_true, Bool.not_eq_true', true_and, and_true]
    cases h : s.time.lastEdge with
    | none => rfl
    | some e =>
      have := hl e h
      simp only [Bool.and_eq_false_iff, decide_eq_false_iff_not]
      omega
  have hto : x.Only [.ap, .fms, .tally, .outbox] t := by
    rw [hsh]
    simp (maxDischargeDepth := 40) -implicitDefEqProofs
  have hwo : s.Only [.ap, .outbox] w := by
    rw [hw]
    simp (maxDischargeDepth := 40) -implicitDefEqProofs
  have hxc : x.clk = w.clk ∧ x.mode = w.mode := by rw [hx]; exact ⟨rfl, rfl⟩
  have hat : ∀ o, Apart o → t.reg o = w.reg o := fun o hq => by
    have h : x.At o t := by
      rw [hsh]
      simp (maxDischargeDepth := 40) -implicitDefEqProofs [hq]
    rw [h.reg, hx]
    rfl
  refine ⟨hto.clk.trans (hxc.1.trans hwo.clk), hto.mode.trans (hxc.2.trans hwo.mode), ?_, ?_, ?_⟩
  · rw [State.coherent, State.flag_congr (hat _ ⟨by decide, by decide, by decide⟩), hw,
      State.flag_congr (State.reg_satAdd_ne _ _ _ _ _ (by decide)),
      State.flag_congr (State.reg_flagIrq_ne _ _ _ (by decide) (by decide)), State.coherent]
  · rw [State.flag_congr (hat _ ⟨by decide, by decide, by decide⟩), hw, State.flag, State.satAdd,
      State.fld_setFld_disj _ _ _ _ _ (by decide) (by decide), ← State.flag, State.flag_flagIrq _ _ _ _ (by decide) (by decide) (by decide)]
  · rw [State.fld_congr (hat _ ⟨by decide, by decide, by decide⟩), hw, State.fld_satAdd _ _ _ _ (by decide),
      State.fld_flagIrq _ _ (by decide) (by decide) (by decide)]
    rfl

/-! ### The arming of the epoch -/

theorem bit_bitAt (v i : Nat) : bitsOf v i 1 = bit (bitAt v i) := by
  unfold bitsOf bitAt bit
  split <;> rename_i h <;> simp_all <;> omega

theorem epochArm_shows (who : Who) (v : Word) (s : State) {t : State} (ht : t = epochArm who v s) :
    t.flag R.TIME_EPOCH_CTL Fd.TIME_EPOCH_CTL_PERIODIC = bitAt v.toNat 1 ∧
      (bitAt v.toNat 0 = false → t.flag R.TIME_EPOCH_CTL Fd.TIME_EPOCH_CTL_ARM = false) ∧
      (bitAt v.toNat 0 = true → s.mode.epochArms = true → s.reg64 R.TIME_EPOCH_LOAD_LO % 30 = 0 →
        t.flag R.TIME_EPOCH_CTL Fd.TIME_EPOCH_CTL_ARM = true) ∧
      (bitAt v.toNat 0 = true → s.mode.epochArms = false →
        t.flag R.TOP_ACCESS Fd.TOP_ACCESS_ACCESS_DENIED = true ∧
        t.flag R.TIME_EPOCH_CTL Fd.TIME_EPOCH_CTL_ARM = s.flag R.TIME_EPOCH_CTL Fd.TIME_EPOCH_CTL_ARM) ∧
      (bitAt v.toNat 0 = true → s.reg64 R.TIME_EPOCH_LOAD_LO % 30 ≠ 0 →
        t.flag R.TIME_STATUS Fd.TIME_STATUS_LOAD_BAD = true ∧
        t.flag R.TIME_EPOCH_CTL Fd.TIME_EPOCH_CTL_ARM = s.flag R.TIME_EPOCH_CTL Fd.TIME_EPOCH_CTL_ARM) := by
  obtain ⟨w, hw⟩ : ∃ w, w = s.setFld R.TIME_EPOCH_CTL Fd.TIME_EPOCH_CTL_PERIODIC (bitsOf v.toNat 1 1) := ⟨_, rfl⟩
  have hper : w.flag R.TIME_EPOCH_CTL Fd.TIME_EPOCH_CTL_PERIODIC = bitAt v.toNat 1 := by
    rw [hw, State.flag_setFld _ _ _ _ (by decide), bit_bitAt]
    cases bitAt v.toNat 1 <;> rfl
  have harm : w.flag R.TIME_EPOCH_CTL Fd.TIME_EPOCH_CTL_ARM = s.flag R.TIME_EPOCH_CTL Fd.TIME_EPOCH_CTL_ARM := by
    rw [hw, State.flag, State.fld_setFld_disj _ _ _ _ _ (by decide) (by decide), State.flag]
  have hmode : w.mode = s.mode := by
    rw [hw]
    simp
  have hload : w.reg64 R.TIME_EPOCH_LOAD_LO = s.reg64 R.TIME_EPOCH_LOAD_LO := by
    rw [hw]
    exact State.reg64_congr (State.reg_setFld_ne _ _ _ _ _ (by decide)) (State.reg_setFld_ne _ _ _ _ _ (by decide))
  unfold epochArm at ht
  rw [← hw] at ht
  dsimp only at ht
  rw [hload] at ht
  clear hw
  cases h0 : bitAt v.toNat 0 with
  | false =>
    rw [h0, if_pos (by rfl)] at ht
    refine ⟨?_, fun _ => by rw [ht, State.flag_clear _ _ _ (by decide)], fun h => (nomatch h), fun h => (nomatch h), fun h => (nomatch h)⟩
    rw [ht, State.flag, State.clear, State.fld_setFld_disj _ _ _ _ _ (by decide) (by decide), ← State.flag, hper]
  | true =>
    rw [h0, if_neg (by simp)] at ht
    obtain ⟨x, hx⟩ : ∃ x, x = if s.reg64 R.TIME_EPOCH_LOAD_LO % 30 != 0 then
        w.raise R.TIME_STATUS Fd.TIME_STATUS_LOAD_BAD else w := ⟨_, rfl⟩
    rw [← hx] at ht
    have hxr : ∀ o, o ≠ R.TIME_STATUS → x.reg o = w.reg o := fun o ho => by
      rw [hx]
      split
      · exact State.reg_raise_ne _ _ _ _ ho
      · rfl
    have hxm : x.mode = s.mode := by
      rw [hx, ← hmode]
      split <;> simp
    have hxb : s.reg64 R.TIME_EPOCH_LOAD_LO % 30 ≠ 0 → x.flag R.TIME_STATUS Fd.TIME_STATUS_LOAD_BAD = true := fun h => by
      rw [hx, if_pos (by simpa using h), State.flag_raise _ _ _ (by decide) (by decide)]
    have hxp : ∀ f, x.flag R.TIME_EPOCH_CTL f = w.flag R.TIME_EPOCH_CTL f := fun f =>
      State.flag_congr (hxr _ (by decide)) f
    rw [hxm] at ht
    clear hx hxm
    cases hma : s.mode.epochArms with
    | false =>
      rw [hma, if_pos (by rfl)] at ht
      have hr : ∀ o, o ≠ R.TOP_ACCESS → o ≠ R.TOP_ACCESS_LOG_LO → o ≠ R.TOP_ACCESS_LOG_HI → t.reg o = x.reg o :=
        fun o h1 h2 h3 => by rw [ht, State.reg_denied_ne _ _ _ _ h1 h2 h3]
      have hc : ∀ f, t.flag R.TIME_EPOCH_CTL f = w.flag R.TIME_EPOCH_CTL f := fun f =>
        (State.flag_congr (hr _ (by decide) (by decide) (by decide)) f).trans (hxp f)
      refine ⟨(hc _).trans hper, fun h => (nomatch h), fun _ h => (nomatch h), fun _ _ => ⟨?_, (hc _).trans harm⟩,
        fun _ h => ⟨?_, (hc _).trans harm⟩⟩
      · rw [ht, State.flag_denied]
      · rw [State.flag_congr (hr _ (by decide) (by decide) (by decide)), hxb h]
    | true =>
      rw [hma, if_neg (by simp)] at ht
      by_cases hb : s.reg64 R.TIME_EPOCH_LOAD_LO % 30 = 0
      · rw [if_neg (by simpa using hb)] at ht
        refine ⟨?_, fun h => (nomatch h), fun _ _ _ => ?_, fun _ h => (nomatch h), fun _ h => absurd hb h⟩
        · rw [ht, State.flag, State.raise, State.fld_setFld_disj _ _ _ _ _ (by decide) (by decide), ← State.flag, hxp, hper]
        · rw [ht, State.flag_raise _ _ _ (by decide) (by decide)]
      · rw [if_pos (by simpa using hb)] at ht
        rw [ht]
        exact ⟨(hxp _).trans hper, fun h => (nomatch h), fun _ _ h => absurd h hb, fun _ h => (nomatch h),
          fun _ h => ⟨hxb h, (hxp _).trans harm⟩⟩

/-! ### Echo measurements -/

theorem quotFree_shows (s : State) (a : Int) {n : Nat} (hn : n ≠ 0) :
    ∃ d ∈ [(0 : Int), 1], (s.quotFree a n).1 = a / Int.ofNat n + d ∧ (a % Int.ofNat n = 0 → d = 0) := by
  unfold State.quotFree
  by_cases h : a % Int.ofNat n = 0
  · rw [if_pos (by rw [Bool.or_eq_true, decide_eq_true_iff (p := a % Int.ofNat n = 0)]; exact .inr h)]
    exact ⟨0, by simp, by simp, fun _ => rfl⟩
  · rw [if_neg (by simpa [hn] using h)]
    exact ⟨if (s.free.1).toNat % 2 = 0 then 0 else 1, by split <;> simp, rfl, fun hz => absurd hz h⟩

theorem echoEnd_shows (s : State) {r : Nat} (hr : r < 2 ^ Fd.TIME_ECHO_CTL_RESULT.w) :
    (s.echoEnd r).time.echo = none ∧ (s.echoEnd r).fld R.TIME_ECHO_CTL Fd.TIME_ECHO_CTL_RESULT = r ∧
      (s.echoEnd r).flag R.TIME_ECHO_CTL Fd.TIME_ECHO_CTL_DONE = true := by
  obtain ⟨u, hu⟩ : ∃ u : State, u = { s with time := { s.time with echo := none } } := ⟨_, rfl⟩
  have hue : u.time.echo = none := by rw [hu]
  have h : s.echoEnd r = (u.setFld R.TIME_ECHO_CTL Fd.TIME_ECHO_CTL_RESULT r).flagIrq R.TIME_ECHO_CTL
      Fd.TIME_ECHO_CTL_DONE 1 := by
    rw [hu]
    rfl
  have ho : u.Only [.ap, .outbox] (s.echoEnd r) := by
    rw [h]
    simp (maxDischargeDepth := 40) -implicitDefEqProofs
  refine ⟨by rw [ho.time, hue], ?_, ?_⟩
  · rw [h, State.fld_flagIrq _ _ (by decide) (by decide) (by decide), State.fld_setFld _ _ _ _ (by decide)]
    exact Nat.mod_eq_of_lt hr
  · rw [h, State.flag_flagIrq _ _ _ _ (by decide) (by decide) (by decide)]

theorem echoBegin_up {s : State} {p : Nat} (hp : p < 14) (hu : (s.port p).up = true) (count : Nat) :
    s.echoBegin p count =
      ({ s with time := { s.time with echo := some { port := p, count := count, due := s.clk.now + 30000 } } } :
        State).emit (.echo p 0 0 0) := by
  unfold State.echoBegin
  rw [if_neg (Nat.not_le.2 hp), hu]
  rfl

theorem echoBegin_failed {s : State} {p : Nat} (h : 14 ≤ p ∨ (s.port p).up = false) (count : Nat) :
    s.echoBegin p count = s.echoEnd (if 14 ≤ p then 3 else 2) := by
  unfold State.echoBegin
  by_cases hp : 14 ≤ p
  · rw [if_pos hp, if_pos hp]
  · rw [if_neg hp, if_neg hp, h.resolve_left hp]
    rfl

theorem echoNext_none {s : State} (h : s.trim.ports = 0) : s.echoNext = s := by
  have : (List.range 14).find? (fun p => bitAt s.trim.ports p) = none := by
    rw [List.find?_eq_none, h]
    simp [bitAt]
  unfold State.echoNext
  rw [this]

theorem clrBit_two_pow (q : Fin 14) : clrBit (2 ^ q.val) q.val = 0 := by
  revert q
  decide

theorem echoNext_one {s : State} {q : Fin 14} (h : s.trim.ports = 2 ^ q.val) (hu : (s.port q).up = true) :
    s.echoNext.time.echo = some { port := q, count := 10, due := s.clk.now + 30000 } ∧ s.echoNext.trim.ports = 0 := by
  have hf : (List.range 14).find? (fun p => bitAt s.trim.ports p) = some q.val := by
    rw [h]
    clear h hu
    revert q
    decide
  have he : s.echoNext = ({ s with trim := { s.trim with ports := clrBit s.trim.ports q } } : State).echoBegin q 10 := by
    unfold State.echoNext
    rw [hf]
  rw [he, echoBegin_up (s := { s with trim := { s.trim with ports := clrBit s.trim.ports q } }) q.isLt hu]
  exact ⟨rfl, (congrArg (clrBit · q.val) h).trans (clrBit_two_pow q)⟩

/-- The registers of a request as a start of a measurement writes them. -/
def echoAsked (v : Word) (s : State) : State :=
  let s := (s.setFld R.TIME_ECHO_CTL Fd.TIME_ECHO_CTL_PORT (bitsOf v.toNat 0 4)).setFld R.TIME_ECHO_CTL
    Fd.TIME_ECHO_CTL_COUNT (bitsOf v.toNat 4 4)
  if bitAt v.toNat 12 then s.clear R.TIME_ECHO_CTL Fd.TIME_ECHO_CTL_DONE else s

theorem echoAsked_only (v : Word) (s : State) : s.Only [.ap] (echoAsked v s) := by
  unfold echoAsked
  dsimp only
  split <;> simp (maxDischargeDepth := 40) -implicitDefEqProofs

theorem echoStart_begins (who : Who) {v : Word} {s : State} (hm : s.mode = .trim ∨ s.mode = .service)
    (h8 : bitAt v.toNat 8 = true) (he : s.time.echo = none) :
    echoStart who v s = (echoAsked v s).echoBegin (bitsOf v.toNat 0 4) (min 10 (bitsOf v.toNat 4 4)) := by
  have ho := echoAsked_only v s
  change (if !bitAt v.toNat 8 then echoAsked v s
    else if (echoAsked v s).mode != .trim && (echoAsked v s).mode != .service then
      (echoAsked v s).denied who R.TIME_ECHO_CTL true
    else if (echoAsked v s).time.echo.isSome then echoAsked v s
    else (echoAsked v s).echoBegin (bitsOf v.toNat 0 4) (min 10 (bitsOf v.toNat 4 4))) = _
  rw [if_neg (by simp [h8]), if_neg, if_neg (by simp [ho.time, he])]
  rw [ho.mode]
  rcases hm with hm | hm <;> simp [hm]

theorem echoStart_refused (who : Who) {v : Word} {s : State} (ht : s.mode ≠ .trim) (hs : s.mode ≠ .service)
    (h8 : bitAt v.toNat 8 = true) : echoStart who v s = (echoAsked v s).denied who R.TIME_ECHO_CTL true := by
  have ho := echoAsked_only v s
  change (if !bitAt v.toNat 8 then echoAsked v s
    else if (echoAsked v s).mode != .trim && (echoAsked v s).mode != .service then
      (echoAsked v s).denied who R.TIME_ECHO_CTL true
    else if (echoAsked v s).time.echo.isSome then echoAsked v s
    else (echoAsked v s).echoBegin (bitsOf v.toNat 0 4) (min 10 (bitsOf v.toNat 4 4))) = _
  rw [if_neg (by simp [h8]), if_pos]
  simp [ho.mode, ht, hs]

theorem port_congr {s t : State} (h : t.dec = s.dec) (p : Nat) : t.port p = s.port p := by
  unfold State.port
  rw [h]

/-- The state in which an answer that ends a measurement leaves the sums, before the measurement ends. -/
theorem echoAns_last {p : Fin 14} {t1 t2 t3 t4 : Int} {e : Echo} {s : State} (he : s.time.echo = some e)
    (hp : e.port = p) (hg : 2 ^ e.count ≤ e.got + 1) : ∃ w : State, s.Only [.ap, .freeCtr] w ∧
      (∃ d ∈ [(0 : Int), 1], w.reg (R.TIME_ECHO_RTT p) =
        BitVec.ofInt 32 ((e.sumRtt + ((t4 - t1) - (t3 - t2))) / Int.ofNat (2 ^ e.count) + d) ∧
        ((e.sumRtt + ((t4 - t1) - (t3 - t2))) % Int.ofNat (2 ^ e.count) = 0 → d = 0)) ∧
      (∃ d ∈ [(0 : Int), 1], w.reg (R.TIME_ECHO_OFS p) =
        BitVec.ofInt 32 ((e.sumOfs + ((t2 - t1) - (t4 - t3))) / Int.ofNat (2 * 2 ^ e.count) + d) ∧
        ((e.sumOfs + ((t2 - t1) - (t4 - t3))) % Int.ofNat (2 * 2 ^ e.count) = 0 → d = 0)) ∧
      echoAns p t1 t2 t3 t4 s = (w.echoEnd 0).echoNext := by
  obtain ⟨u, hu⟩ : ∃ u, u = s.quotFree (e.sumRtt + ((t4 - t1) - (t3 - t2))) (2 ^ e.count) := ⟨_, rfl⟩
  obtain ⟨x, hx⟩ : ∃ x, x = u.2.quotFree (e.sumOfs + ((t2 - t1) - (t4 - t3))) (2 * 2 ^ e.count) := ⟨_, rfl⟩
  have huo : s.Only [.freeCtr] u.2 := by
    rw [hu]
    exact State.quotFree_only (.refl _ _) (List.Subset.refl _) _ _
  have hxo : s.Only [.freeCtr] x.2 := by
    rw [hx]
    exact State.quotFree_only huo (List.Subset.refl _) _ _
  have hn : R.TIME_ECHO_RTT p ≠ R.TIME_ECHO_OFS p := by
    unfold R.TIME_ECHO_RTT R.TIME_ECHO_OFS
    omega
  obtain ⟨d, hd, hrd, hzd⟩ := quotFree_shows s (e.sumRtt + ((t4 - t1) - (t3 - t2))) (n := 2 ^ e.count)
    (Nat.two_pow_pos _).ne'
  obtain ⟨d', hd', hrd', hzd'⟩ := quotFree_shows u.2 (e.sumOfs + ((t2 - t1) - (t4 - t3))) (n := 2 * 2 ^ e.count)
    (by have := Nat.two_pow_pos e.count; omega)
  rw [← hu] at hrd
  rw [← hx] at hrd'
  refine ⟨(x.2.setReg (R.TIME_ECHO_RTT p) (BitVec.ofInt 32 u.1)).setReg (R.TIME_ECHO_OFS p) (BitVec.ofInt 32 x.1), ?_,
    ⟨d, hd, ?_, hzd⟩, ⟨d', hd', ?_, hzd'⟩, ?_⟩
  · have := hxo.mono (qs := [.ap, .freeCtr]) (by simp)
    exact State.setReg_only (State.setReg_only this (by simp) _ _) (by simp) _ _
  · rw [State.reg_setReg_ne _ _ _ _ hn, State.reg_setReg_self, hrd]
  · rw [State.reg_setReg_self, hrd']
  · rw [hx, hu]
    unfold echoAns
    rw [he]
    dsimp only
    rw [if_neg (by simp [hp]), if_neg (Nat.not_lt.2 hg)]

theorem echoAns_more {p : Fin 14} {t1 t2 t3 t4 : Int} {e : Echo} {s : State} (he : s.time.echo = some e)
    (hp : e.port = p) (hg : e.got + 1 < 2 ^ e.count) : echoAns p t1 t2 t3 t4 s =
      ({ s with time := { s.time with echo := some { e with
        got := e.got + 1, sumRtt := e.sumRtt + ((t4 - t1) - (t3 - t2)), sumOfs := e.sumOfs + ((t2 - t1) - (t4 - t3)),
        due := s.clk.now + 30000 } } } : State).emit (.echo p 0 0 0) := by
  unfold echoAns
  rw [he]
  dsimp only
  rw [if_neg (by simp [hp]), if_pos hg]

theorem echoTimeout_eq {e : Echo} {s : State} (he : s.time.echo = some e) (hd : e.due ≤ s.clk.now) :
    echoTimeout s = (s.echoEnd 1).echoNext := by
  unfold echoTimeout
  rw [he]
  exact if_neg (Nat.not_lt.2 hd)

theorem echoEnd_next_none {s : State} (h : s.trim.ports = 0) (r : Nat) : (s.echoEnd r).echoNext = s.echoEnd r :=
  echoNext_none (by rw [(State.echoEnd_only (.refl s _) (List.Subset.refl _) r).trim, h])

theorem echoEnd_next_one {s : State} {q : Fin 14} (h : s.trim.ports = 2 ^ q.val) (hu : (s.port q).up = true) (r : Nat) :
    (s.echoEnd r).echoNext.time.echo = some { port := q, count := 10, due := s.clk.now + 30000 } ∧
      (s.echoEnd r).echoNext.trim.ports = 0 := by
  have ho := State.echoEnd_only (.refl s _) (List.Subset.refl _) r
  have := echoNext_one (s := s.echoEnd r) (q := q) (by rw [ho.trim, h]) (by rw [port_congr ho.dec, hu])
  rwa [ho.clk] at this

/-- Settles O17, command by command. -/
theorem epochAndEchoCommands : Obligations.EpochAndEchoCommands := by
  unfold Obligations.EpochAndEchoCommands
  refine ⟨?_, ?_, ?_, ?_, ?_, ?_, ?_, ?_, ?_, ?_, ?_, ?_, ?_, ?_, ?_⟩
  · intro arrival s hpw
    refine ⟨fun hr hp => completes_of_powered hpw rfl ?_, fun h => exec_of_powered hpw rfl ?_⟩
    · rw [epochCapture, if_pos (by simp [hr, hp])]
      exact ⟨rfl, rfl⟩
    · exact if_neg (by rcases h with h | h <;> simp [h])
  · intro s c rest he ha hc
    exact tdcLatch_shows he ha hc
  · intro s c rest hpw he hl hr hp harm
    exact completes_of_powered hpw rfl (epochLoad_armed he hl hr hp harm rfl)
  · intro s c rest hpw he hl hr hp harm
    exact completes_of_powered hpw rfl (epochLoad_unarmed_shows he hl hr hp harm rfl)
  · intro s hpw hc h30 ho hl hm
    exact completes_of_powered hpw rfl (epochMiss_shows hc h30 ho hl hm rfl)
  · intro who v s hpw hrch
    exact completes_of_reached hpw hrch rfl (epochArm_shows who v s rfl)
  · intro who v s hpw hrch hm h8 he hp hu
    refine completes_of_reached hpw hrch rfl ?_
    have ho := echoAsked_only v s
    rw [echoStart_begins who hm h8 he, echoBegin_up hp (by rw [port_congr ho.dec, hu]), ← ho.outbox, ← ho.clk]
    exact ⟨rfl, rfl⟩
  · intro who v s hpw hrch hm h8 he hf
    refine completes_of_reached hpw hrch rfl ?_
    have ho := echoAsked_only v s
    rw [echoStart_begins who hm h8 he, echoBegin_failed (by rwa [port_congr ho.dec])]
    obtain ⟨h1, h2, h3⟩ := echoEnd_shows (echoAsked v s) (r := if 14 ≤ bitsOf v.toNat 0 4 then 3 else 2)
      (by split <;> decide)
    exact ⟨h1, h3, h2⟩
  · intro who v s hpw hrch ht hs h8
    refine completes_of_reached hpw hrch rfl ?_
    rw [echoStart_refused who ht hs h8]
    refine ⟨?_, State.flag_denied _ _ _ _⟩
    rw [(State.denied_only (.refl (echoAsked v s) [.ap]) (by simp) who R.TIME_ECHO_CTL true).time,
      (echoAsked_only v s).time]
  · intro p t2 t3 s hpw hm
    exact exec_of_powered hpw rfl (if_pos (by rcases hm with hm | hm <;> simp [hm]))
  · intro p t2 t3 s hpw ht hs
    exact exec_of_powered hpw rfl (if_neg (by simp [ht, hs]))
  · intro p t1 t2 t3 t4 e s hpw he hp hg
    refine completes_of_powered hpw rfl ?_
    rw [echoAns_more he hp hg]
    exact ⟨rfl, rfl⟩
  · intro p t1 t2 t3 t4 e s hpw he hp hg hports
    refine completes_of_powered hpw rfl ?_
    obtain ⟨w, hw, ⟨d, hd, hrd, hzd⟩, ⟨d', hd', hrd', hzd'⟩, h⟩ :=
      echoAns_last (t1 := t1) (t2 := t2) (t3 := t3) (t4 := t4) he hp hg
    rw [h, echoEnd_next_none (by rw [hw.trim, hports])]
    obtain ⟨h1, h2, h3⟩ := echoEnd_shows w (r := 0) (by decide)
    have hat : ∀ o, Apart o → o ≠ R.TIME_ECHO_CTL → (w.echoEnd 0).reg o = w.reg o := fun o ho hc =>
      (State.echoEnd_at (.refl w o) ho hc 0).reg
    have hap : Apart (R.TIME_ECHO_RTT p) ∧ Apart (R.TIME_ECHO_OFS p) ∧ R.TIME_ECHO_RTT p ≠ R.TIME_ECHO_CTL ∧
        R.TIME_ECHO_OFS p ≠ R.TIME_ECHO_CTL := by
      clear he hp hrd hrd' h h1 h2 h3 hat
      revert p
      refine fun p => ⟨⟨?_, ?_, ?_⟩, ⟨?_, ?_, ?_⟩, ?_, ?_⟩ <;> revert p <;> decide
    exact ⟨h1, ⟨d, hd, (hat _ hap.1 hap.2.2.1).trans hrd, hzd⟩, ⟨d', hd', (hat _ hap.2.1 hap.2.2.2).trans hrd', hzd'⟩,
      h3, h2⟩
  · intro e s hpw he hd hports
    refine completes_of_powered hpw rfl ?_
    rw [echoTimeout_eq he hd, echoEnd_next_none hports]
    exact echoEnd_shows s (by decide)
  · intro p t1 t2 t3 t4 q e s hpw he hp hg hd hports hu c hc
    rcases List.mem_pair.1 hc with rfl | rfl
    · refine completes_of_powered hpw rfl ?_
      obtain ⟨w, hw, -, -, h⟩ := echoAns_last (t1 := t1) (t2 := t2) (t3 := t3) (t4 := t4) he hp hg
      have := echoEnd_next_one (s := w) (q := q) (by rw [hw.trim, hports]) (by rw [port_congr hw.dec, hu]) 0
      rw [h, ← hw.clk]
      exact this
    · refine completes_of_powered hpw rfl ?_
      rw [echoTimeout_eq he hd]
      exact echoEnd_next_one hports hu 1

end Sys2Proof.Machine
end

section
/-! Survey, plan and the Ledger's upkeep (O52). -/
namespace Sys2Proof.Machine

-- One proof at a time: elaborated side by side, the proofs of so long a text need too much memory.
set_option Elab.async false

/-! ### The rule of the plan -/

theorem planOffset_bounds (target margin : Int) (n : Nat) {old : Int} (hlo : -12 ≤ old) (hhi : old ≤ 24) :
    -12 ≤ planOffset old target margin n ∧ planOffset old target margin n ≤ 24 ∧
      planOffset old target margin n - old ≤ max 1 n ∧ old - planOffset old target margin n ≤ max 1 n := by
  unfold planOffset
  rw [Int.ofNat_eq_natCast]
  dsimp only
  omega

theorem planOffset_reaches (target margin : Int) (n : Nat) {old : Int} (hlo : -12 ≤ old) (hhi : old ≤ 24)
    (hup : 10 * target - margin ≤ 25 * max 1 n) (hdn : margin - 10 * target ≤ 25 * max 1 n) :
    (10 * target - margin ≤ 25 * (planOffset old target margin n - old) ∨ planOffset old target margin n = 24) ∧
      (25 * (planOffset old target margin n - old) < 10 * target - margin + 25 ∨
        planOffset old target margin n = -12) := by
  unfold planOffset
  rw [Int.ofNat_eq_natCast]
  dsimp only
  omega

/-! ### The end of a survey -/

theorem planOf_offset (s : State) (r : SurveyResult) {d : Nat} (hd : d < 4) : (s.planOf r).offset d =
    planOffset (s.therm.plan.offset d) (s.fld R.AGE_CFG Fd.AGE_CFG_TARGET : Int) (r.margins.getD d 0)
      (s.fld R.AGE_CFG Fd.AGE_CFG_STEP_MAX) := by
  unfold State.planOf Plan.offset
  simp [List.getD_eq_getElem?_getD, List.getElem?_range hd]

theorem planOf_rateUp (s : State) (r : SurveyResult) : (s.planOf r).rateUp = true ↔
    s.trim.full = true ∧ s.fld R.AGE_CFG Fd.AGE_CFG_RATE_UP ≤ r.eye ∧ s.therm.eyeGood = true ∧ s.memc.rate < 22 := by
  simp [State.planOf, and_assoc]

section
variable {r : SurveyResult} {s : State} (hm : s.mode = .trim) (hs : s.therm.surveying = true)
include hm hs

theorem surveyComplete_committed (hc : r.committed = true) {t : State} (ht : t = surveyComplete r s) :
    t.host = (s.commit .survey ((s.planOf r).offsets.map (lowBits 8) ++ [bit (s.planOf r).rateUp, (s.planOf r).life])).host ∧
      t.therm = { s.therm with
        surveying := false
        pend := some (s.planOf r)
        eyeGood := if s.trim.full then decide (s.fld R.AGE_CFG Fd.AGE_CFG_RATE_UP ≤ r.eye) else s.therm.eyeGood
        rateUpPend := s.therm.rateUpPend || (s.planOf r).rateUp } := by
  obtain ⟨u, hu⟩ : ∃ u : State, u = { s with trim := { s.trim with surveyDone := true } } := ⟨_, rfl⟩
  have hp : u.planOf r = s.planOf r := by
    rw [hu]
    rfl
  obtain ⟨v, hv⟩ : ∃ v, v = u.commit .survey ((s.planOf r).offsets.map (lowBits 8) ++
    [bit (s.planOf r).rateUp, (s.planOf r).life]) := ⟨_, rfl⟩
  obtain ⟨w, hw⟩ : ∃ w, w = foldAll (fun s d => s.marginPut d (r.margins.getD d 0)) v (List.range 4) := ⟨_, rfl⟩
  have hwo : v.Only [.ap, .freeCtr] w := by
    rw [hw]
    simp (contextual := true) (maxDischargeDepth := 40) -implicitDefEqProofs
  have ht' : t = { w with therm := { w.therm with
      surveying := false
      pend := some (s.planOf r)
      eyeGood := if s.trim.full then decide (s.fld R.AGE_CFG Fd.AGE_CFG_RATE_UP ≤ r.eye) else s.therm.eyeGood
      rateUpPend := w.therm.rateUpPend || (s.planOf r).rateUp } } := by
    rw [ht, hw, hv, ← hp, hu]
    unfold surveyComplete
    rw [if_pos (by simp [hm, hs])]
    dsimp only
    rw [if_neg (by simp [hc])]
    rfl
  have hvh : v.host = (s.commit .survey ((s.planOf r).offsets.map (lowBits 8) ++
      [bit (s.planOf r).rateUp, (s.planOf r).life])).host := by
    rw [hv, hu]
    rfl
  have hvt : v.therm = s.therm := by
    rw [hv, hu]
    rfl
  rw [ht', ← hvh, ← hwo.host, ← hvt, ← hwo.therm]
  exact ⟨rfl, rfl⟩

theorem surveyComplete_lost (hc : r.committed = false) {t : State} (ht : t = surveyComplete r s) :
    t.host = s.host ∧ t.therm = { s.therm with surveying := false } ∧
      t.flag R.AGE_STATUS Fd.AGE_STATUS_LEDGER_FAIL = true ∧
      t.flag R.AGE_STATUS Fd.AGE_STATUS_SURVEY_INCOMPLETE = true := by
  obtain ⟨u, hu⟩ : ∃ u : State, u = { s with
      trim := { s.trim with surveyDone := true }
      therm := { s.therm with surveying := false } } := ⟨_, rfl⟩
  have hut : u.therm = { s.therm with surveying := false } ∧ u.host = s.host := by
    rw [hu]
    exact ⟨rfl, rfl⟩
  have ht' : t = (u.flagIrq R.AGE_STATUS Fd.AGE_STATUS_SURVEY_INCOMPLETE 5).flagIrq R.AGE_STATUS
      Fd.AGE_STATUS_LEDGER_FAIL 5 := by
    rw [ht, hu]
    unfold surveyComplete State.surveyLost
    rw [if_pos (by simp [hm, hs])]
    dsimp only
    rw [if_pos (by simp [hc]), if_pos hs]
  have hto : u.Only [.ap, .outbox] t := by
    rw [ht']
    simp (maxDischargeDepth := 40) -implicitDefEqProofs
  refine ⟨hto.host.trans hut.2, hto.therm.trans hut.1, ?_, ?_⟩
  · rw [ht', State.flag_flagIrq _ _ _ _ (by decide) (by decide) (by decide)]
  · rw [ht', State.flag, State.fld_flagIrq _ _ (by decide) (by decide) (by decide), ← State.flag,
      State.flag_flagIrq _ _ _ _ (by decide) (by decide) (by decide)]

end

theorem surveyComplete_elsewhere {s : State} (h : s.mode ≠ .trim ∨ s.therm.surveying = false) (r : SurveyResult) :
    surveyComplete r s = s :=
  if_neg (by rcases h with h | h <;> simp [h])

/-! ### Compaction -/

/-- The surveys that give way at a compaction. -/
def oldSurveys (l : List LedgerRec) : List LedgerRec :=
  (l.filter (·.kind == .survey)).take ((l.filter (·.kind == .survey)).length - 1024)

/-- The powered years of them that have no ANNUAL record yet. -/
def newYears (l : List LedgerRec) : List Nat :=
  ((oldSurveys l).map (·.year)).eraseDups.filter fun y => !l.any fun r => r.kind == .annual && r.data == [y]

theorem foldAll_commit_host (k : LedgerKind) (ys : List Nat) (s : State) :
    ∃ xs, (foldAll (fun s y => s.commit k [y]) s ys).host.ledger = s.host.ledger ++ xs ∧
      (∀ y ∈ ys, ∃ x ∈ xs, x.kind = k ∧ x.data = [y]) ∧
      (foldAll (fun s y => s.commit k [y]) s ys).ap = s.ap := by
  induction ys generalizing s with
  | nil => exact ⟨[], (List.append_nil _).symm, nofun, rfl⟩
  | cons y ys ih =>
    obtain ⟨xs, hl, hy, ha⟩ := ih (s.commit k [y])
    refine ⟨_ :: xs, hl.trans (List.append_assoc _ [_] _), fun z hz => ?_, ha⟩
    rcases List.mem_cons.1 hz with rfl | hz
    · exact ⟨_, List.mem_cons_self, rfl, rfl⟩
    · obtain ⟨x, hx, h⟩ := hy z hz
      exact ⟨x, List.mem_cons_of_mem _ hx, h⟩

/-- A record stays where its SEQ is not that of a survey that gives way. -/
theorem mem_compacted {l : List LedgerRec} {r : LedgerRec} :
    (r ∈ l.filter fun r => !(oldSurveys l).any (·.seq == r.seq)) ↔ r ∈ l ∧ ∀ x ∈ oldSurveys l, x.seq ≠ r.seq := by
  simp [List.mem_filter]

theorem mem_of_oldSurveys {l : List LedgerRec} {x : LedgerRec} (h : x ∈ oldSurveys l) : x ∈ l ∧ x.kind = .survey := by
  have := List.mem_filter.1 (List.mem_of_mem_take h)
  exact ⟨this.1, by simpa using this.2⟩

section
variable {l : List LedgerRec} (hd : (l.map (·.seq)).Nodup)
include hd

theorem eq_of_same_seq {x y : LedgerRec} (hx : x ∈ l) (hy : y ∈ l) (h : x.seq = y.seq) : x = y :=
  List.inj_on_of_nodup_map hd hx hy h

theorem survey_not_old {r : LedgerRec} (hr : r ∈ (l.filter (·.kind == .survey)).drop
    ((l.filter (·.kind == .survey)).length - 1024)) : r ∉ oldSurveys l := by
  have hn : (l.filter (·.kind == .survey)).Nodup := hd.of_map.filter _
  intro h
  rw [← List.take_append_drop ((l.filter (·.kind == .survey)).length - 1024) (l.filter (·.kind == .survey))] at hn
  exact (List.nodup_append.1 hn).2.2 _ h _ hr rfl

theorem compacted_keeps {r : LedgerRec} (hr : r ∈ l) (ho : r ∉ oldSurveys l) :
    r ∈ l.filter fun r => !(oldSurveys l).any (·.seq == r.seq) := by
  refine mem_compacted.2 ⟨hr, fun x hx h => ho ?_⟩
  rwa [← eq_of_same_seq hd (mem_of_oldSurveys hx).1 hr h]

end

theorem ledgerCompaction_off {s : State} (h : s.mode ≠ .idle ∨ 10 * s.host.ledger.length < 147456) :
    ledgerCompaction s = s :=
  if_neg (by
    rcases h with h | h
    · simp [h]
    · simp [Nat.not_le.2 h])

theorem ledgerCompaction_on {s : State} (hm : s.mode = .idle) (hl : 147456 ≤ 10 * s.host.ledger.length) :
    ∃ u : State, u.ap = s.ap ∧
      (∃ xs, u.host.ledger =
        (s.host.ledger.filter fun r => !(oldSurveys s.host.ledger).any (·.seq == r.seq)) ++ xs ∧
        ∀ y ∈ newYears s.host.ledger, ∃ x ∈ xs, x.kind = .annual ∧ x.data = [y]) ∧
      ledgerCompaction s = u.satAdd R.AGE_LEDGER Fd.AGE_LEDGER_COMPACTIONS 1 := by
  obtain ⟨xs, hx, hy, ha⟩ := foldAll_commit_host .annual (newYears s.host.ledger) { s with host := { s.host with
    ledger := s.host.ledger.filter fun r => !(oldSurveys s.host.ledger).any (·.seq == r.seq) } }
  exact ⟨_, ha, ⟨xs, hx, hy⟩, if_pos (by simp [hm, hl])⟩

theorem ledgerCompaction_shows {s : State} (hm : s.mode = .idle) (hl : 147456 ≤ 10 * s.host.ledger.length)
    (hd : (s.host.ledger.map (·.seq)).Nodup) {t : State} (ht : t = ledgerCompaction s) :
    (∀ r ∈ s.host.ledger, r.kind ≠ .survey → r ∈ t.host.ledger) ∧
      (∀ r ∈ (s.host.ledger.filter (·.kind == .survey)).drop
        ((s.host.ledger.filter (·.kind == .survey)).length - 1024), r ∈ t.host.ledger) ∧
      (∀ r ∈ s.host.ledger, r ∉ t.host.ledger → ∃ x ∈ t.host.ledger, x.kind = .annual ∧ x.data = [r.year]) ∧
      t.fld R.AGE_LEDGER Fd.AGE_LEDGER_COMPACTIONS =
        min (s.fld R.AGE_LEDGER Fd.AGE_LEDGER_COMPACTIONS + 1) 65535 := by
  obtain ⟨u, ha, ⟨xs, hx, hy⟩, hu⟩ := ledgerCompaction_on hm hl
  have hth : t.host.ledger = u.host.ledger := by
    rw [ht, hu, (State.satAdd_only (.refl u [.ap]) (by simp) _ _ _).host]
  rw [hth, hx]
  have hkeep : ∀ r ∈ s.host.ledger, r ∉ oldSurveys s.host.ledger →
      r ∈ (s.host.ledger.filter fun r => !(oldSurveys s.host.ledger).any (·.seq == r.seq)) ++ xs :=
    fun r hr ho => List.mem_append_left _ (compacted_keeps hd hr ho)
  have hstay : ∀ r ∈ s.host.ledger, r.kind ≠ .survey →
      r ∈ (s.host.ledger.filter fun r => !(oldSurveys s.host.ledger).any (·.seq == r.seq)) ++ xs :=
    fun r hr hk => hkeep r hr fun ho => hk (mem_of_oldSurveys ho).2
  refine ⟨hstay, fun r hr => ?_, fun r hr hno => ?_, ?_⟩
  · exact hkeep r (List.mem_of_mem_filter (List.mem_of_mem_drop hr)) (survey_not_old hd hr)
  · have ho : r ∈ oldSurveys s.host.ledger := by
      by_contra ho
      exact hno (hkeep r hr ho)
    by_cases hy' : r.year ∈ newYears s.host.ledger
    · obtain ⟨x, hxx, h⟩ := hy _ hy'
      exact ⟨x, List.mem_append_right _ hxx, h⟩
    · have hyr : r.year ∈ ((oldSurveys s.host.ledger).map (·.year)).eraseDups :=
        List.mem_eraseDups.2 (List.mem_map_of_mem ho)
      simp only [newYears, List.mem_filter, hyr, true_and, Bool.not_eq_true', Bool.not_eq_false, List.any_eq_true,
        Bool.and_eq_true, beq_iff_eq] at hy'
      obtain ⟨x, hxl, hk, hdta⟩ := hy'
      exact ⟨x, hstay x hxl (by simp [hk]), hk, hdta⟩
  · rw [ht, hu, State.fld_satAdd _ _ _ _ (by decide), State.fld_congr (State.reg_congr ha _)]
    rfl

/-! ### Refreshing the Ledger -/

theorem ledgerRefresh_off {s : State} (h : s.mode ≠ .idle) (k : s.mode ≠ .boot) : ledgerRefresh s = s :=
  if_neg (by simp [h, k])

/-- A record as a refresh at `now` leaves it. -/
def refreshed (now : Nat) (r : LedgerRec) : LedgerRec :=
  if 43800 * hourTicks ≤ now - r.written then { r with written := now } else r

theorem refreshed_keeps (now : Nat) (r : LedgerRec) : (refreshed now r).seq = r.seq ∧
    (refreshed now r).data = r.data ∧ (refreshed now r).kind = r.kind ∧ (refreshed now r).made = r.made := by
  unfold refreshed
  split <;> exact ⟨rfl, rfl, rfl, rfl⟩

theorem refreshed_written (now : Nat) (r : LedgerRec) :
    now < (refreshed now r).written + 43800 * 10800000000000 ∨ now ≤ (refreshed now r).written := by
  unfold refreshed hourTicks
  split
  · exact .inr le_rfl
  · exact .inl (by omega)

theorem ledgerRefresh_on {s : State} (h : s.mode = .idle ∨ s.mode = .boot) : ledgerRefresh s =
    { s with host := { s.host with ledger := s.host.ledger.map (refreshed s.clk.now) } } :=
  if_pos (by rcases h with h | h <;> simp [h])

/-- Settles O52, command by command. -/
theorem surveysAndLedger : Obligations.SurveysAndLedger := by
  unfold Obligations.SurveysAndLedger
  refine ⟨?_, ?_, ?_, ?_, ?_⟩
  · intro r s hpw hm hs
    refine completes_of_powered hpw rfl ?_
    cases hc : r.committed with
    | true =>
      obtain ⟨hh, ht⟩ := surveyComplete_committed hm hs hc rfl
      rw [ht]
      refine ⟨rfl, rfl, fun _ => ⟨_, rfl, rfl, ?_, ?_, fun d hd => planOf_offset s r hd, rfl, rfl, planOf_rateUp s r, ?_⟩,
        fun h => nomatch h⟩
      · rw [hh]
        rfl
      · rw [hh]
        exact ⟨_, rfl, rfl, rfl, rfl, rfl⟩
      · change (if s.trim.full = true then _ else _) = true ↔ _
        split <;> simp
    | false =>
      obtain ⟨hh, ht, h1, h2⟩ := surveyComplete_lost hm hs hc rfl
      rw [ht, hh]
      exact ⟨rfl, rfl, fun h => (nomatch h), fun _ => ⟨rfl, rfl, h1, h2⟩⟩
  · intro old target margin n hlo hhi
    obtain ⟨h1, h2, h3, h4⟩ := planOffset_bounds target margin n hlo hhi
    exact ⟨h1, h2, h3, h4, planOffset_reaches target margin n hlo hhi⟩
  · intro r s hpw h
    exact exec_of_powered hpw rfl (surveyComplete_elsewhere h r)
  · intro s hpw
    exact ⟨fun h => exec_of_powered hpw rfl (ledgerCompaction_off h),
      fun hm hl hd => completes_of_powered hpw rfl (ledgerCompaction_shows hm hl hd rfl)⟩
  · intro s hpw
    refine ⟨fun h k => exec_of_powered hpw rfl (ledgerRefresh_off h k), fun h => completes_of_powered hpw rfl ?_⟩
    rw [ledgerRefresh_on h]
    have hk := refreshed_keeps s.clk.now
    refine ⟨rfl, rfl, ?_, ?_, ?_, ?_, fun r hr => ?_⟩
    · exact List.map_map.trans (List.map_congr_left fun r _ => (hk r).1)
    · exact List.map_map.trans (List.map_congr_left fun r _ => (hk r).2.1)
    · exact List.map_map.trans (List.map_congr_left fun r _ => (hk r).2.2.1)
    · exact List.map_map.trans (List.map_congr_left fun r _ => (hk r).2.2.2)
    · obtain ⟨x, -, rfl⟩ := List.mem_map.1 hr
      exact refreshed_written s.clk.now x

end Sys2Proof.Machine
end

section
/-! Enable, disable and end of a lane, and its scheduled effects (O27). -/
namespace Sys2Proof.Machine

-- One proof at a time: elaborated side by side, the proofs of so long a text need too much memory.
set_option Elab.async false

/-! ### What an offer makes of the Tally -/

namespace State

theorem dropRec_tally (s : State) (st seq : Nat) : (s.dropRec st seq).tally =
    (s.onStream st fun x => { x with drops := x.drops + 1, firstDrop := if x.drops = 0 then seq else x.firstDrop }).tally := by
  unfold dropRec
  dsimp only
  have h : ∀ u : State, u.Only [.ap, .outbox, .fms]
      ((u.flagIrq R.TALLY_STATUS Fd.TALLY_STATUS_DROP 4).breach Fd.TOP_BREACH_TIER6) := fun u => by
    simp (maxDischargeDepth := 40) -implicitDefEqProofs
  split
  · exact (fmTrap_only (h _) (by simp) _ _).tally
  · exact (h _).tally

theorem onStream_tally {s t : State} (h : t.tally = s.tally) (st : Nat) (f : Stream → Stream) :
    (t.onStream st f).tally = (s.onStream st f).tally := by
  unfold onStream
  rw [h]

theorem setStaged_tally {s t : State} (h : t.tally = s.tally) (q : Nat) (rs : List Rec) :
    (t.setStaged q rs).tally = (s.setStaged q rs).tally := by
  unfold setStaged
  rw [h]

theorem stream_congr {s t : State} (h : t.tally = s.tally) (st : Nat) : t.stream st = s.stream st := by
  unfold stream
  rw [h]

theorem staged_congr {s t : State} (h : t.tally = s.tally) (q : Nat) : t.staged q = s.staged q := by
  unfold staged
  rw [h]

/-- The stream's SEQ moved on by an offer, as the first step of it. -/
def offerNext (s : State) (st : Nat) : State :=
  if (s.stream st).seq == 0xFFFFFFFF then
    (s.onStream st fun x => { x with
      seq := (x.seq + 1) % 2 ^ 32, wrapDue := x.wrapDue || (s.stream st).seq == 0xFFFFFFFF }).satAdd
        (R.TALLY_STREAM_WRAPS st) Fd.TALLY_STREAM_WRAPS_COUNT 1
  else
    s.onStream st fun x => { x with
      seq := (x.seq + 1) % 2 ^ 32, wrapDue := x.wrapDue || (s.stream st).seq == 0xFFFFFFFF }

theorem offerNext_congr {s t : State} (hy : t.tally = s.tally) (st : Nat) :
    (t.offerNext st).tally = (s.offerNext st).tally := by
  unfold offerNext
  rw [stream_congr hy]
  split <;> exact onStream_tally hy _ _

/-- An offer to a stream that is not open. -/
theorem offer_of_shut {s : State} {st typ : Nat} (h : s.streamOpen st typ = false) (src len time : Nat)
    (pay : List (Nat × Nat × Nat)) : s.offer st src typ len time pay =
      if (s.stream st).offAt = s.clk.now + 1 then
        (s.onStream st fun x => { x with seq := (x.seq + 1) % 2 ^ 32, finalGap := true }).dropRec st (s.stream st).seq
      else s := by
  unfold offer
  rw [h]
  exact if_pos Bool.not_false

/-- An offer to a stream that is open. -/
theorem offer_of_open {s : State} {st typ : Nat} (h : s.streamOpen st typ = true) (src len time : Nat)
    (pay : List (Nat × Nat × Nat)) : s.offer st src typ len time pay =
      let x := s.stream st
      let wraps := x.seq == 0xFFFFFFFF
      let s1 := s.offerNext st
      let gapDue := x.drops != 0
      if decide (s.stageUse st + 32 * len ≤ stageCap st) && !(gapDue && x.gapHeld) && !s.memDead then
        let gap := if gapDue then [gapRec st x s.clk.time] else []
        let wrap := if x.wrapDue then
            [wrapRec st (s.fld (R.TALLY_STREAM_WRAPS st) Fd.TALLY_STREAM_WRAPS_COUNT) s.clk.time]
          else []
        let rec_ : Rec :=
          { typ := typ, len := len, stream := st, src := src, seq := x.seq, time := time, pay := pay, left := len,
            acc := s.clk.now + 1 }
        (s1.setStaged (streamSrc st) (if gap.isEmpty && wrap.isEmpty then insertOffer rec_ (s1.staged (streamSrc st))
          else s1.staged (streamSrc st) ++ gap ++ wrap ++ [rec_])).onStream st fun y =>
            { y with
              drops := if gapDue then 0 else y.drops
              gapHeld := y.gapHeld || gapDue
              wrapHeld := y.wrapHeld || x.wrapDue
              wrapDue := wraps }
      else s1.dropRec st x.seq := by
  unfold offer
  rw [h]
  exact if_neg (by decide)

/-- An offer makes the same of the Tally in states that agree in what it reads. -/
theorem offer_tally_congr {s t : State} (ha : t.ap = s.ap) (hy : t.tally = s.tally) (hc : t.clk = s.clk)
    (hb : t.bench = s.bench) (hm : t.memc = s.memc) (st src typ len time : Nat) (pay : List (Nat × Nat × Nat)) :
    (t.offer st src typ len time pay).tally = (s.offer st src typ len time pay).tally := by
  have hopen : t.streamOpen st typ = s.streamOpen st typ := by
    unfold streamOpen streamOn benchSt
    rw [hb, flag_congr (reg_congr ha _)]
  have huse : t.stageUse st = s.stageUse st := by
    unfold stageUse
    rw [staged_congr hy]
  have hdead : t.memDead = s.memDead := by
    unfold memDead dev
    rw [hm]
  cases h : s.streamOpen st typ with
  | true =>
    have h1 := offerNext_congr hy st
    rw [offer_of_open h, offer_of_open (hopen.trans h), stream_congr hy, hc, huse, hdead]
    dsimp only
    rw [fld_congr (reg_congr ha _), staged_congr h1]
    split
    · exact onStream_tally (setStaged_tally h1 _ _) _ _
    · rw [dropRec_tally, dropRec_tally]
      exact onStream_tally h1 _ _
  | false =>
    rw [offer_of_shut h, offer_of_shut (hopen.trans h), stream_congr hy, hc]
    split
    · rw [dropRec_tally, dropRec_tally]
      exact onStream_tally (onStream_tally hy _ _) _ _
    · exact hy

end State

/-! ### Lanes -/

theorem allPlays_keepPlays (x : Lane) (p : Play → Bool) : (x.keepPlays p).allPlays = x.allPlays.filter p := by
  unfold Lane.keepPlays Lane.allPlays
  dsimp only
  induction x.plays with
  | nil => rfl
  | cons e es ih =>
    rw [List.map_cons, List.flatMap_cons, List.filter_append, ← ih]
    cases h : e.2.filter p with
    | nil => simp [h]
    | cons q qs => simp [h]

theorem State.lane_congr {s t : State} (h : t.lanes = s.lanes) (b l : Nat) : t.lane b l = s.lane b l := by
  unfold lane
  rw [h]

theorem laneArm_lane (s : State) (b l : Nat) : (s.laneArm b l).lane b l =
    if (s.lane b l).enWait && (s.lane b l).st == .off && s.benchOn b then
      { s.lane b l with st := .ready, since := s.clk.time, enWait := false }
    else s.lane b l := by
  unfold State.laneArm
  dsimp only
  split
  · exact State.lane_onLane_self _ _ _ _
  · rfl

theorem laneArm_only (s : State) (b l : Nat) : s.Only [.lanes] (s.laneArm b l) :=
  State.laneArm_only (.refl s _) (List.Subset.refl _) b l

theorem benchCtl_ne_laneCtl {b : Nat} (hb : b < 8) (k : Nat) {l : Nat} (hl : l < 32) : R.BENCH_CTL b ≠ R.LOOM_LANE_CTL k l := by
  unfold R.BENCH_CTL R.LOOM_LANE_CTL
  omega

theorem laneEnable_shows {b l : Nat} (hb : b < 8) (hl : l < 32) (s : State) {t : State} (ht : t = laneEnable b l s) :
    t.flag (R.LOOM_LANE_CTL b l) Fd.LOOM_LANE_CTL_EN = true ∧
      ∃ x, x = { s.lane b l with
        enAt := s.clk.time + 1
        enWait := (s.lane b l).enWait || (s.lane b l).st == .off ||
          ((s.lane b l).st == .stopping && !(s.lane b l).stopReady) } ∧
        t.lane b l = if x.enWait && x.st == .off && s.benchOn b then
          { x with st := .ready, since := s.clk.time, enWait := false } else x := by
  obtain ⟨u, hu⟩ : ∃ u, u = s.raise (R.LOOM_LANE_CTL b l) Fd.LOOM_LANE_CTL_EN := ⟨_, rfl⟩
  have huo : s.Only [.ap] u := by
    rw [hu]
    exact State.raise_only (.refl s _) (List.Subset.refl _) _ _
  obtain ⟨v, hv⟩ : ∃ v, v = u.onLane b l fun x => { x with
      enAt := s.clk.time + 1, enWait := x.enWait || x.st == .off || (x.st == .stopping && !x.stopReady) } := ⟨_, rfl⟩
  have hvr : ∀ o, v.reg o = u.reg o := fun o => by rw [hv, State.reg_onLane]
  have hvl : v.lane b l = { s.lane b l with
        enAt := s.clk.time + 1
        enWait := (s.lane b l).enWait || (s.lane b l).st == .off ||
          ((s.lane b l).st == .stopping && !(s.lane b l).stopReady) } := by
    rw [hv, State.lane_onLane_self, State.lane_congr huo.lanes]
  have hvb : v.benchOn b = s.benchOn b := by
    refine State.benchOn_congr ?_ (State.benchSt_congr ?_ b)
    · rw [hvr, hu, State.reg_raise_ne _ _ _ _ (benchCtl_ne_laneCtl hb b hl)]
    · rw [hv, State.onLane_bench, huo.bench]
  have hvc : v.clk = s.clk := by rw [hv, State.onLane_clk, huo.clk]
  have htv : t = v.laneArm b l := by
    rw [ht, hv, hu]
    rfl
  refine ⟨?_, _, rfl, ?_⟩
  · rw [htv, State.flag_congr ((laneArm_only v b l).reg _), State.flag_congr (hvr _), hu]
    exact State.flag_raise _ _ _ (by decide) (by decide)
  · rw [htv, laneArm_lane, hvl, hvb, hvc]

theorem laneStop_lane (s : State) (b l : Nat) : 
    ((s.lane b l).st = .off → (s.laneStop b l false false).lane b l = s.lane b l) ∧
      ((s.lane b l).st ≠ .off → ((s.laneStop b l false false).lane b l).st = .stopping ∧
        ((s.laneStop b l false false).lane b l).stopReady = false) := by
  unfold State.laneStop
  refine ⟨fun h => ?_, fun h => ?_⟩
  · rw [if_pos (by simp [h])]
  · dsimp only
    rw [if_neg (by simpa using h)]
    split
    · rename_i hs
      rw [State.lane_onLane_self]
      exact ⟨by simpa using hs, Bool.and_false _⟩
    · rw [State.lane_onLane_self]
      exact ⟨rfl, rfl⟩

theorem laneStop_reg (s : State) (b l : Nat) (ready ramp : Bool) {o : Nat} (h : o ≠ R.LOOM_LANE_FLAGS b l) :
    (s.laneStop b l ready ramp).reg o = s.reg o := by
  unfold State.laneStop
  dsimp only
  split
  · rfl
  · split
    · rfl
    · rw [State.reg_onLane]
      split
      · exact State.reg_raise_ne _ _ _ _ h
      · rfl

theorem laneDisable_shows (b l : Nat) (s : State) {t : State} (ht : t = laneDisable b l s) :
    t.flag (R.LOOM_LANE_CTL b l) Fd.LOOM_LANE_CTL_EN = false ∧
      ((s.lane b l).st = .off → (t.lane b l).st = .off) ∧
      ((s.lane b l).st ≠ .off → (t.lane b l).st = .stopping ∧ (t.lane b l).stopReady = false) := by
  obtain ⟨u, hu⟩ : ∃ u, u = s.clear (R.LOOM_LANE_CTL b l) Fd.LOOM_LANE_CTL_EN := ⟨_, rfl⟩
  have huo : s.Only [.ap] u := by
    rw [hu]
    exact State.clear_only (.refl s _) (List.Subset.refl _) _ _
  obtain ⟨v, hv⟩ : ∃ v, v = u.onLane b l fun x => { x with enWait := false } := ⟨_, rfl⟩
  have hvl : v.lane b l = { s.lane b l with enWait := false } := by
    rw [hv, State.lane_onLane_self, State.lane_congr huo.lanes]
  have htv : t = v.laneStop b l false false := by
    rw [ht, hv, hu]
    rfl
  have hne : R.LOOM_LANE_CTL b l ≠ R.LOOM_LANE_FLAGS b l := by
    unfold R.LOOM_LANE_CTL R.LOOM_LANE_FLAGS
    omega
  obtain ⟨h1, h2⟩ := laneStop_lane v b l
  rw [hvl] at h1 h2
  rw [htv]
  refine ⟨?_, fun h => ?_, fun h => h2 h⟩
  · rw [State.flag_congr (laneStop_reg _ _ _ _ _ hne), hv, State.flag_congr (State.reg_onLane _ _ _ _ _), hu]
    exact State.flag_clear _ _ _ (by decide)
  · rw [h1 h]
    exact h

/-! ### The end of a stop -/

theorem tidyStreams_only' (s : State) (b l : Nat) : s.Only [.looms] (s.tidyStreams b l) :=
  State.tidyStreams_only (.refl s _) (List.Subset.refl _) b l

theorem discard_lane (s : State) (b l : Nat) (play : Play → Bool) (frm : FrameUpd → Bool) (mrk : MarkUpd → Bool) :
    (s.discard b l play frm mrk).lane b l = { (s.lane b l).keepPlays fun p => !play p with
      frames := (s.lane b l).frames.filter fun f => !frm f, marks := (s.lane b l).marks.filter fun m => !mrk m } := by
  unfold State.discard
  dsimp only
  rw [State.lane_congr (tidyStreams_only' _ _ _).lanes]
  have h : ∀ u : State, u.lane b l = { (s.lane b l).keepPlays fun p => !play p with
      frames := (s.lane b l).frames.filter fun f => !frm f, marks := (s.lane b l).marks.filter fun m => !mrk m } →
      ∀ c f, (u.onChan b c f).lane b l = { (s.lane b l).keepPlays fun p => !play p with
      frames := (s.lane b l).frames.filter fun f => !frm f, marks := (s.lane b l).marks.filter fun m => !mrk m } :=
    fun u hu c f => (State.lane_congr rfl b l).trans hu
  split
  · exact State.lane_onLane_self _ _ _ _
  · split
    · exact State.lane_onLane_self _ _ _ _
    · exact h _ (State.lane_onLane_self _ _ _ _) _ _

/-- The lane whose stop ends, before its record is offered. -/
def laneCleared (s : State) (b l : Nat) : State :=
  let u := ((s.discard b l (fun p => !p.started) (fun _ => true) (fun _ => true)).onLane b l fun x =>
    { x with plays := [] }).tidyStreams b l
  u.onLane b l fun x =>
    { x with
      st := if x.stopReady then .ready else .off, since := u.clk.time, stopReady := false, stopDue := 0
      branches := [], slots := [], stages := [], headQ := [], watches := [] }

theorem laneCleared_only (s : State) (b l : Nat) : s.Only [.looms, .lanes, .chans] (laneCleared s b l) := by
  unfold laneCleared
  dsimp only
  simp (maxDischargeDepth := 40) -implicitDefEqProofs

theorem laneCleared_lane (s : State) (b l : Nat) : (laneCleared s b l).lane b l = { s.lane b l with
    plays := [], frames := [], marks := []
    st := if (s.lane b l).stopReady then .ready else .off, since := s.clk.time, stopReady := false, stopDue := 0
    branches := [], slots := [], stages := [], headQ := [], watches := [] } := by
  unfold laneCleared
  dsimp only
  rw [State.lane_onLane_self, (tidyStreams_only' _ _ _).clk, State.lane_congr (tidyStreams_only' _ _ _).lanes,
    State.lane_onLane_self, discard_lane, State.onLane_clk,
    (State.discard_only (.refl s _) (List.Subset.refl _) b l _ _ _).clk]
  simp [Lane.keepPlays]

theorem laneStopDone_shows {b l : Nat} (hb : b < 8) {s : State} (hs : (s.lane b l).st = .stopping)
    (hd : (s.lane b l).stopDue ≤ s.clk.time) {t : State} (ht : t = laneStopDone b l s) :
    (t.lane b l).st = (if (s.lane b l).stopReady || ((s.lane b l).enWait && s.benchOn b) then .ready else .off) ∧
        (t.lane b l).allPlays = [] ∧ (t.lane b l).branches = [] ∧ (t.lane b l).frames = [] ∧
        (t.lane b l).marks = [] ∧ (t.lane b l).slots = [] ∧ (t.lane b l).stages = [] ∧
        t.tally = (s.offer (3 * b) (srcOf b l 0 0) 0x28 1 s.clk.time
          [(0, 8, (s.lane b l).cursor), (8, 4, (s.lane b l).pc)]).tally := by
  obtain ⟨u, hu⟩ : ∃ u, u = laneCleared s b l := ⟨_, rfl⟩
  obtain ⟨v, hv⟩ : ∃ v, v = u.offer (3 * b) (srcOf b l 0 0) 0x28 1 s.clk.time
    [(0, 8, (s.lane b l).cursor), (8, 4, (s.lane b l).pc)] := ⟨_, rfl⟩
  have huo : s.Only [.looms, .lanes, .chans] u := by
    rw [hu]
    exact laneCleared_only s b l
  have hul := laneCleared_lane s b l
  rw [← hu] at hul
  have hvo : u.Only [.ap, .fms, .tally, .outbox] v := by
    rw [hv]
    exact State.offer_only (.refl u _) (List.Subset.refl _) _ _ _ _ _ _
  have hvt : v.tally = (s.offer (3 * b) (srcOf b l 0 0) 0x28 1 s.clk.time
      [(0, 8, (s.lane b l).cursor), (8, 4, (s.lane b l).pc)]).tally := by
    rw [hv]
    exact State.offer_tally_congr huo.ap huo.tally huo.clk huo.bench huo.memc _ _ _ _ _ _
  have hvb : v.benchOn b = s.benchOn b := by
    refine State.benchOn_congr ?_ (State.benchSt_congr (hvo.bench.trans huo.bench) b)
    rw [hv, State.reg_offer (State.offerReg_benchCtl hb) _ (by omega), huo.reg]
  have htv : t = v.laneArm b l := by
    rw [ht, hv, hu]
    unfold laneStopDone
    dsimp only
    rw [if_pos (by simp [hs, hd])]
    have hc : (laneCleared s b l).clk = s.clk := (laneCleared_only s b l).clk
    rw [← hc]
    rfl
  have hlane : t.lane b l = if (s.lane b l).enWait && (if (s.lane b l).stopReady then LaneSt.ready else .off) == .off &&
      s.benchOn b then { u.lane b l with st := .ready, since := v.clk.time, enWait := false } else u.lane b l := by
    rw [htv, laneArm_lane, State.lane_congr hvo.lanes, hvb, hul]
  rw [hlane, htv, (laneArm_only v b l).tally, hvt]
  cases hr : (s.lane b l).stopReady <;> cases hw : (s.lane b l).enWait <;> cases hbo : s.benchOn b <;>
    simp [hul, hr, Lane.allPlays]

/-! ### A lane that drains -/

theorem pruneLane_lane (s : State) (b l : Nat) :
    (s.pruneLane b l).lane b l = (s.lane b l).keepPlays fun p => !p.over s.clk.time := by
  unfold State.pruneLane
  rw [State.lane_congr (tidyStreams_only' _ _ _).lanes, State.lane_onLane_self]

theorem pruneLane_only (s : State) (b l : Nat) : s.Only [.looms, .lanes] (s.pruneLane b l) :=
  State.pruneLane_only (.refl s _) (List.Subset.refl _) b l

theorem laneDrained_shows (b l : Nat) (s : State) {t : State} (ht : t = laneDrained b l s) :
    (t.lane b l).st = (if (s.lane b l).st == .done && ((s.lane b l).allPlays.filter fun p => !p.over s.clk.time).isEmpty &&
      (s.lane b l).headQ.isEmpty && (s.lane b l).branches.isEmpty then .ready else (s.lane b l).st) := by
  have hp := pruneLane_lane s b l
  unfold laneDrained at ht
  dsimp only at ht
  rw [hp, allPlays_keepPlays] at ht
  rw [ht]
  change Lane.st (State.lane (if (s.lane b l).st == .done && _ && (s.lane b l).headQ.isEmpty &&
    (s.lane b l).branches.isEmpty then _ else _) b l) = _
  split
  · rw [State.lane_onLane_self]
  · rw [hp]
    rfl

/-! ### Scheduled effects -/

theorem firstDue_nil {α : Type} (time : Nat) (a k : α → Nat) {xs : List α} (h : ∀ x ∈ xs, time < a x) :
    firstDue time a k xs = none := by
  have : (xs.filter fun x => decide (a x ≤ time)) = [] := by
    rw [List.filter_eq_nil_iff]
    exact fun x hx => by simpa using h x hx
  unfold firstDue
  rw [this]
  rfl

theorem State.frm_onFrm_self (s : State) (b u f : Nat) (g : Frame → Frame) :
    (s.onFrm b u f g).frm b u f = g (s.frm b u f) := NMap.get_upd_self _ _ _ _

theorem State.frm_congr {s t : State} (h : t.out = s.out) (b u f : Nat) : t.frm b u f = s.frm b u f := by
  unfold frm
  rw [h]

theorem State.voiceUnit_congr {s t : State} (h : t.ap = s.ap) (b l v : Nat) : t.voiceUnit b l v = s.voiceUnit b l v := by
  unfold voiceUnit
  dsimp only
  rw [flag_congr (reg_congr h _), flag_congr (reg_congr h _), flag_congr (reg_congr h _), fld_congr (reg_congr h _),
    fld_congr (reg_congr h _), fld_congr (reg_congr h _)]

/-- The check of the band that follows an update of a frame. -/
theorem bandChecked_only (s : State) (b u f : Nat) (upd : FrameUpd) : s.Only [.ap] (match s.tonePlay b u with
    | some p => if p.frame = upd.frm then s.bandCheck b u f ((s.tone b u).fwAt upd.at_) else s
    | none => s) := by
  split
  · split
    · exact State.bandCheck_only (.refl s _) (List.Subset.refl _) _ _ _ _
    · exact .refl _ _
  · exact .refl _ _

theorem frameEffect_shows {b l : Nat} {f : FrameUpd} {u : Nat} {s : State} (hs : (s.lane b l).st ≠ .stopping)
    (hf : firstDue s.clk.time (·.at_) (·.ser) (s.lane b l).frames = some f) (hu : s.voiceUnit b l f.voice = some u)
    {t : State} (ht : t = frameEffect b l s) :
    t.lanes = (s.onLane b l fun x => { x with frames := x.frames.erase f }).lanes ∧
      t.frm b u f.frm = (s.frm b u f.frm).update f.freq f.add f.value f.at_ := by
  obtain ⟨v, hv⟩ : ∃ v, v = s.onLane b l fun x => { x with frames := x.frames.erase f } := ⟨_, rfl⟩
  have hvu : v.voiceUnit b l f.voice = some u := by
    rw [hv, State.voiceUnit_congr (s := s) (State.onLane_ap _ _ _ _), hu]
  obtain ⟨w, hw⟩ : ∃ w, w = v.onFrm b u f.frm fun g => g.update f.freq f.add f.value f.at_ := ⟨_, rfl⟩
  have hto : w.Only [.ap] t := by
    have h := bandChecked_only w b u f.frm f
    rw [ht]
    unfold frameEffect
    dsimp only
    rw [if_neg (by simpa using hs), hf]
    dsimp only
    rw [← hv, hvu]
    dsimp only
    rw [← hw]
    exact h
  refine ⟨?_, ?_⟩
  · rw [hto.lanes, hw, ← hv]
    rfl
  · rw [State.frm_congr hto.out, hw, State.frm_onFrm_self, hv]
    rfl

theorem frameEffect_none {b l : Nat} {s : State} (h : ∀ f ∈ (s.lane b l).frames, s.clk.time < f.at_) :
    frameEffect b l s = s := by
  unfold frameEffect
  dsimp only
  split
  · rfl
  · rw [firstDue_nil _ _ _ h]

theorem pulse_demanded {s : State} (h : s.clk.fabricRuns = true) (line : Nat) :
    (line, s.clk.time / 8) ∈ (s.pulse line).fabric.demand := by
  unfold State.pulse
  split
  · exact List.mem_append_right _ List.mem_cons_self
  · rename_i hn
    simpa [h] using hn

theorem markEffect_none {b l : Nat} {s : State}
    (h : ∀ m ∈ (s.lane b l).marks, ∃ x ∈ (s.lane b l).branches, x.ser ≤ m.ser) : markEffect b l s = s := by
  have : ((s.lane b l).marks.filter fun m => (s.lane b l).branches.all fun br => decide (m.ser < br.ser)) = [] := by
    rw [List.filter_eq_nil_iff]
    intro m hm hall
    obtain ⟨x, hx, hxs⟩ := h m hm
    have := List.all_eq_true.1 hall x hx
    simp only [decide_eq_true_eq] at this
    omega
  unfold markEffect
  dsimp only
  split
  · rfl
  · rw [this]
    rfl

theorem markEffect_shows {b l : Nat} {m : MarkUpd} {s : State} (hs : (s.lane b l).st ≠ .stopping)
    (hb : (s.lane b l).branches = []) (hm : firstDue s.clk.time (·.at_) (·.ser) (s.lane b l).marks = some m)
    {t : State} (ht : t = markEffect b l s) : (t.lane b l).marks = (s.lane b l).marks.erase m ∧
      (m.evt = true → s.clk.fabricRuns = true →
        (32 * b + 2 * (l % 16) + m.line, s.clk.time / 8) ∈ t.fabric.demand) := by
  have hfree : ((s.lane b l).marks.filter fun m => (s.lane b l).branches.all fun br => decide (m.ser < br.ser)) =
      (s.lane b l).marks := by
    rw [hb]
    exact List.filter_true _
  obtain ⟨v, hv⟩ : ∃ v, v = s.onLane b l fun x => { x with marks := x.marks.erase m } := ⟨_, rfl⟩
  obtain ⟨w, hw⟩ : ∃ w, w = if m.tal then
      v.offer (3 * b) (srcOf b l 0 0) 0x2A 1 m.at_ [(0, 1, m.code), (1, 1, bit m.evt + 2 * m.line)]
    else v := ⟨_, rfl⟩
  have hwo : v.Only [.ap, .fms, .tally, .outbox] w := by
    rw [hw]
    simp (maxDischargeDepth := 40) -implicitDefEqProofs
  have hwc : w.clk = s.clk := by rw [hwo.clk, hv, State.onLane_clk]
  have htw : t = if m.evt then w.pulse (32 * b + 2 * (l % 16) + m.line) else w := by
    rw [ht, hw, hv]
    unfold markEffect
    dsimp only
    rw [if_neg (by simpa using hs), hfree, hm]
  have hto : w.Only [.fabric] t := by
    rw [htw]
    simp (maxDischargeDepth := 40) -implicitDefEqProofs
  refine ⟨?_, fun he hr => ?_⟩
  · rw [State.lane_congr (hto.lanes.trans hwo.lanes), hv, State.lane_onLane_self]
  · rw [htw, he, if_pos rfl, ← hwc]
    exact pulse_demanded (by rwa [hwc]) _

/-- Settles O27, command by command. -/
theorem laneEnabling : Obligations.LaneEnabling := by
  unfold Obligations.LaneEnabling
  refine ⟨?_, ?_, ?_, ?_, ?_, ?_, ?_, ?_, ?_, ?_, ?_⟩
  · intro b l s hpw hst
    refine completes_of_powered hpw rfl ?_
    obtain ⟨h1, x, hx, h2⟩ := laneEnable_shows b.isLt l.isLt s rfl
    have hxs : x.st = .off := by rw [hx]; exact hst
    have hxw : x.enWait = true := by rw [hx]; simp [hst]
    refine ⟨h1, fun hon => ?_, fun hoff => ?_⟩
    · rw [h2, hxs, hxw, hon]
      rfl
    · rw [h2, hxs, hxw, hoff]
      exact ⟨hxs, hxw⟩
  · intro b l s hpw hoff hstop
    refine completes_of_powered hpw rfl ?_
    obtain ⟨h1, x, hx, h2⟩ := laneEnable_shows b.isLt l.isLt s rfl
    refine ⟨h1, h2.trans ?_⟩
    have e1 : ((s.lane b l).st == .off) = false := beq_false_of_ne hoff
    have e2 : ((s.lane b l).st == .stopping) = false := beq_false_of_ne hstop
    rw [if_neg (by rw [hx]; simp [hoff]), hx, e1, e2, Bool.false_and, Bool.or_false, Bool.or_false]
  · intro b l s hpw
    exact completes_of_powered hpw rfl (laneDisable_shows b l s rfl)
  · intro b l s hpw hst hd
    exact completes_of_powered hpw rfl (laneStopDone_shows b.isLt hst hd rfl)
  · intro b l s hpw h
    exact exec_of_powered hpw rfl (if_neg (by rcases h with h | h <;> simp [h]))
  · intro b l s hpw hst hover hq hbr
    refine completes_of_powered hpw rfl ⟨?_, (laneDrained_only (.refl s _) (List.Subset.refl _) b l).ap⟩
    have hnone : ((s.lane b l).allPlays.filter fun p => !p.over s.clk.time) = [] := by
      rw [List.filter_eq_nil_iff]
      exact fun p hp => by simp [hover p hp]
    rw [laneDrained_shows b l s rfl, hnone, hst, hq, hbr]
    rfl
  · intro b l s hpw hst h
    refine completes_of_powered hpw rfl ⟨?_, (laneDrained_only (.refl s _) (List.Subset.refl _) b l).ap⟩
    rw [laneDrained_shows b l s rfl, if_neg, hst]
    rintro hall
    simp only [Bool.and_eq_true, List.isEmpty_iff, List.filter_eq_nil_iff] at hall
    obtain ⟨⟨⟨-, hpl⟩, hq⟩, hbr⟩ := hall
    rcases h with ⟨p, hp, ho⟩ | h | h
    · exact hpl p hp (by simp [ho])
    · exact h hq
    · exact h hbr
  · intro b l f u s hpw hst hf hu
    exact completes_of_powered hpw rfl (frameEffect_shows hst hf hu rfl)
  · intro b l s hpw h
    exact exec_of_powered hpw rfl (frameEffect_none h)
  · intro b l m s hpw hst hbr hm
    exact completes_of_powered hpw rfl (markEffect_shows hst hbr hm rfl)
  · intro b l s hpw h
    exact exec_of_powered hpw rfl (markEffect_none h)

end Sys2Proof.Machine
end
